-- ==== Sys2Proof/Word.lean ====
section
/-! DEFINITION. The words of the EQ64 manual: bytes, registers and addresses. -/

namespace Sys2Proof

/-- A byte. -/
abbrev Byte := BitVec 8
/-- A 32-bit word: a vector-engine register, an accumulator element. -/
abbrev Word32 := BitVec 32
/-- A 64-bit word: a CSR (R8), a timestamp (R54). -/
abbrev Word64 := BitVec 64
/-- A device address (R30). -/
abbrev DevAddr := BitVec 48
/-- A CSR offset (R8). -/
abbrev CsrOff := BitVec 28
/-- A logical tile (R7). -/
abbrev LTile := Fin 64
/-- A physical tile (R7). -/
abbrev PTile := Fin 65
/-- A command engine (R4). -/
abbrev Engine := Fin 16
/-- A Cellar slice or an HBM controller (R20). -/
abbrev Unit16 := Fin 16
/-- A port die or a coupling link (R20). -/
abbrev Unit4 := Fin 4
/-- An exchange region (R23). -/
abbrev Region := Fin 32
/-- A stop of the Annulus (R19). -/
abbrev Stop := Fin 118
/-- A device identifier of a colony (R30). -/
abbrev DevId := Fin 512

end Sys2Proof
end

