-- ==== Sys2Proof/Syntax.lean ====
section
/-! DEFINITION. The commands of the EQ64: one constructor per row of the opcode table, with its operands, and the small types
those operands need. A command is something that reaches the device from outside or an event of its own engines; each
constructor's docstring names the row's rule. -/

namespace Sys2Proof

/-- A path that reaches the CSRs (R42, R625): service port BAR0, SMBus, JTAG, the fabric CSR port of a region, a CSR_SET record. -/
inductive Path where
  | servicePort | smbus | jtag | fabric (r : Region) | csrSet
  deriving DecidableEq, Repr

/-- Which part of a 64-bit register a read asks for (R57). -/
inductive RdPart where
  | low | high | whole
  deriving DecidableEq, Repr

/-- What an ECC-checked read or scan finds: nothing, a corrected single-bit error, an uncorrectable one. -/
inductive Upset where
  | clean | single | double
  deriving DecidableEq, Repr

/-- What a scrubber finds in a frame (R122): nothing, or an upset of a word (and of which bit of it). -/
inductive FrameUpset where
  | clean | single (word : Fin 32) (bit : Fin 64) | double (word : Fin 32)
  deriving DecidableEq, Repr

/-- Bytes a request writes, low address first; `none` where a byte enable is 0. -/
abbrev WrBytes := List (Option Byte)

/-- A request region logic presents on OREQ (R180). -/
inductive OReq where
  | rd (addr : DevAddr) (len : Nat)
  | wr (addr : DevAddr) (data : WrBytes)
  | csrRd (off : CsrOff) (bytes : Nat)
  | csrWr (off : CsrOff) (bytes : Nat) (v : Word64)
  | lockAcq (lock : Fin 256)
  | lockRel (lock : Fin 256)
  /-- any other opcode -/
  | other (opcode : BitVec 8) (addr : DevAddr) (len : Nat)
  deriving DecidableEq, Repr

/-- A change a handover port makes to a cell (R219, R221). -/
inductive HxSet where
  | timer (i : Fin 4) (cmp : BitVec 48) (pre : BitVec 8) (srcFclk periodic : Bool)
  | edge (i : Fin 8) (sense : BitVec 2)
  deriving DecidableEq, Repr

/-- A complex operand of a signal slice: 18-bit parts (R193). -/
structure C18 where
  re : BitVec 18
  im : BitVec 18
  deriving DecidableEq, Repr


/-- A requester on the Annulus (R235): its stop, its unit SRCU, and its tag. -/
structure Rq where
  stop : Stop
  unit : Fin 16
  tag  : BitVec 11
  deriving DecidableEq, Repr

/-- The traffic classes of R230, DAT as its pairs. -/
inductive FCls where
  | req | rsp | snp | datA | datB
  deriving DecidableEq, Repr

/-- What a flit carries (R232, R233). An RSP's credits are the sender's to add; an SNP's ORIG and CAUSE are R286's. -/
inductive FlitBody where
  | req (opc : BitVec 6) (srcu : Fin 16) (tag : BitVec 11) (addr : DevAddr) (len : Fin 64) (attr : BitVec 5) (dline : BitVec 16)
      (aux : BitVec 32)
  | rsp (opc : BitVec 6) (dstu : Fin 16) (tag : BitVec 11) (status : Fin 16) (len : Fin 64) (value : Word64)
  | snp (opc : BitVec 6) (dstu : Fin 16) (tag : BitVec 11) (addr : DevAddr) (orig : BitVec 11) (cause : Fin 8)
  | datA (srcu : Fin 16) (tag : BitVec 11) (beat : Fin 32) (poison : Bool) (data : BitVec 1024) (be : BitVec 128)
  | datB (srcu : Fin 16) (tag : BitVec 11) (beat : Fin 32) (poison : Bool) (data : BitVec 1024)
  deriving DecidableEq, Repr

/-- The class of a flit. -/
def FlitBody.cls : FlitBody → FCls
  | .req .. => .req
  | .rsp .. => .rsp
  | .snp .. => .snp
  | .datA .. => .datA
  | .datB .. => .datB

/-- A flit that a unit hands to its stop: destination, contents, whether it is its packet's last, a data flit of a block copy, and of a witness
handover's copy (R245). -/
structure NewFlit where
  dst  : BitVec 7
  body : FlitBody
  last : Bool
  copy : Bool := false
  hand : Bool := false
  deriving DecidableEq, Repr

/-- What the SECDED of a buffer finds (R260): in a data payload, or in a header or sideband. -/
inductive BufErr where
  | clean | corrected | payload | header
  deriving DecidableEq, Repr

/-- How a segment failed (R259, R260): on the same flit as before, and what its retry buffer's SECDED finds. -/
structure HopErr where
  again : Bool
  err   : BufErr
  deriving DecidableEq, Repr

/-- What the SECDED of the lock table finds in lock `lock`, or in waiter `waiter` of it (R260). -/
structure LockErr where
  lock   : Fin 256
  waiter : Option (Fin 4)
  double : Bool
  deriving DecidableEq, Repr

/-- A possible owner of a ring lock (R251). -/
inductive Owner where
  | tile (t : LTile) | engine (e : Engine) | region (r : Region) | servicePort | device (d : DevId)
  deriving DecidableEq, Repr

/-- What a slice's patrol finds in a set (R295). -/
inductive CelErr where
  | clean
  | corrected
  /-- an uncorrectable error in a data sector of a line or of scratch: its address -/
  | data (addr : DevAddr)
  /-- an uncorrectable tag, directory or filter entry -/
  | entry (structure_ : Fin 3)
  /-- an error befalls a sector of a line or a word of scratch, and no access has met it yet -/
  | latent (addr : DevAddr) (double : Bool)
  deriving DecidableEq, Repr


/-- What a read burst's checks find (R314), beyond what the stored POISON bit says. -/
inductive HbmFinding where
  | clean | stackCorrected | single | double | hash | stack
  deriving DecidableEq, Repr


/-- A vector instruction a group issues (R367), its fields decoded: logical tile, group, FMT, the four register specifiers,
guard predicate and its inversion, IMMB and IMM. The opcode is the command. -/
structure VI where
  t    : LTile
  g    : Fin 16
  fmt  : BitVec 4
  rd   : Fin 32
  ra   : Fin 32
  rb   : Fin 32
  rc   : Fin 32
  pred : Fin 8
  pneg : Bool
  immb : Bool
  imm  : BitVec 28
  /-- what the check of the registers it reads finds (R379: SECDED per register; log entry 176) -/
  regs : Upset := .clean
  deriving DecidableEq, Repr

/-- LDL and STL: the instruction, and the other ports that ask the same banks in that cycle (R272), one bit each. -/
structure LocalAcc where
  vi     : VI
  rivals : BitVec 8
  deriving DecidableEq, Repr

/-- What a compare asks; the instruction word has no field for it (log entry 20). -/
inductive CmpOp where
  | eq | ne | lt | le | gt | ge
  deriving DecidableEq, Repr

/-- What VOTE and RED compute (R368). -/
inductive VoteOp where
  | any | all | ballot
  deriving DecidableEq, Repr
/-- The reductions of RED (R368). -/
inductive RedOp where
  | add | min | max
  deriving DecidableEq, Repr


/-- What a DUT asks of a golden endpoint (R480, R481): memory and I/O requests of a BAR, configuration requests, CXL.mem. -/
inductive DutKind where
  | memRd | memWr | ioRd | ioWr | cfgRd | cfgWr | cxlRd | cxlWr
  deriving DecidableEq, Repr

/-- A DUT request (R480): its link, function, BAR, byte offset in the BAR (or a register number), tag, TLP type byte, length and the
bytes it writes. -/
structure DutReq where
  kind : DutKind
  link : Fin 4
  fn   : Fin 512
  bar  : Fin 8
  off  : BitVec 40
  tag  : BitVec 14
  typ  : BitVec 8
  len  : Nat
  data : WrBytes
  deriving DecidableEq, Repr

/-- A response of a golden endpoint under a budget (R481): the answer to a request, or the UpdateFC of a link. -/
inductive GeResp where
  | req (tag : BitVec 14) | fc (link : Fin 4)
  deriving DecidableEq, Repr

/-- What reaches a response queue (R483); `part` = a read's completion that carries only this many of the bytes not yet sent. -/
structure GeSent where
  what : GeResp
  part : Option (BitVec 13) := none
  deriving DecidableEq, Repr

/-- How a link's change ends (R493, R489): in L0 or not, and the AER uncorrectable status it reports, with whether an injected fault caused it. -/
structure LinkNow where
  up  : Bool
  err : Option (BitVec 32 × Bool) := none
  deriving DecidableEq, Repr

/-- How an outbound request ends (R486). -/
inductive OutEnd where
  | ok (data : List Byte) | timeout | error | poisoned (data : List Byte)
  deriving DecidableEq, Repr

/-- The commands: one constructor per row of the opcode table. -/
inductive Instr where
  -- Clocks, resets, power
  /-- POR (R59): VAUX and every core rail have reached their good level. -/
  | por
  /-- VAUX_GOOD (R67): VAUX reaches good; bit n of `rails` = rail n of R622 stands at or above 90 % of nominal already. -/
  | vauxGood (rails : BitVec 9)
  /-- SYS_RST_N (R58): a low pulse of `lowNs` ns and its release. `taken` says what the filter makes of a pulse of 0.8 to 1 µs.
  The straps CFG_MODE, CFG_ID and SMB_ADDR are sampled at the release, and PFAIL_N is seen high or low (R612). -/
  | sysRstN (lowNs : Nat) (taken : Bool) (mode : BitVec 3) (cfgId : BitVec 9) (smbAddr : BitVec 2) (pfailHigh : Bool)
  /-- ROOT_LOCK (R49). -/
  | rootLock
  /-- ROOT_LOSS (R52). -/
  | rootLoss
  /-- CLOCK_MONITOR_WINDOW (R52): the window of the clock of MON_OK index `clk` ends with this deviation, −1,000,000 ppm when
  the clock has stopped. -/
  | clockMonitorWindow (clk : Fin 10) (ppm : Int)
  /-- FCLK_DIV_SWITCH (R49) of FCLK_k. -/
  | fclkDivSwitch (k : Fin 4)
  /-- DROOP_STRETCH (R71). -/
  | droopStretch
  /-- THERMAL_STEP_JUDGE (R73). -/
  | thermalStepJudge
  /-- POWER_CAP_STEP (R75). -/
  | powerCapStep
  /-- THERM_TRIP (R74): sensor `sensor` reads `tempC` °C. -/
  | thermTrip (sensor : Fin 32) (tempC : Int)
  /-- AVS_TIMEOUT (R72). -/
  | avsTimeout
  /-- SAFESIDE_MOVE (R71): loop `loop` (bit of R84) moves past its setting to a new value, in the loop's own unit. -/
  | safesideMove (loop : Fin 5) (value : BitVec 32)
  /-- RAIL_MONITOR_SAMPLE (R608): bit n of `inside` = rail n of R622 reads inside its window; `mv` = the extreme reading of the
  lowest rail outside. -/
  | railMonitorSample (inside : BitVec 9) (mv : BitVec 32) (avsMoving : Bool)
  /-- VAUX_LOSS (R608): VAUX below 1.62 V for 1 µs. `torn` = whole words of an entry being committed that reached MRAM,
  those of its pinned copy counted from 8 (8, or 16 with a pinned copy, when none is torn); `keepHit` = a Keep word being written reads KEEP_UE afterwards (R152). -/
  | vauxLoss (torn : Fin 17) (keepHit : Bool)
  /-- PFAIL_ACCEPT (R68, R69): PFAIL_N low for `lowNs` ns. -/
  | pfailAccept (lowNs : Nat)
  /-- POWER_FAIL_COMMIT_DONE (R69, R70). -/
  | powerFailCommitDone
  /-- SYS (R58): a 64-bit write of `v`, SYS set, to GLB_RST_CTL. -/
  | sys (p : Path) (v : Word64)
  /-- RELOAD (R58): a 64-bit write of `v`, RELOAD set, to GLB_RST_CTL. -/
  | reload (p : Path) (v : Word64)
  /-- RELOAD_RESET_DONE (R63). -/
  | reloadResetDone
  /-- ENG (R58): a 64-bit write of `v`, ENG set, to GLB_RST_CTL. -/
  | eng (p : Path) (v : Word64)
  /-- ENG_RESET_DONE (R63). -/
  | engResetDone (e : Engine)
  /-- TILE (R58): a 64-bit write of `v`, TILE set, to GLB_RST_CTL. -/
  | tile (p : Path) (v : Word64)
  /-- TILE_WRITEBACK_DONE (R590). -/
  | tileWritebackDone (t : LTile)
  /-- TILE_RESET_DONE (R63). -/
  | tileResetDone (t : LTile)
  /-- PERST_N (R58): the level of PERST_N of port die `d` becomes `high`. -/
  | perstN (d : Unit4) (high : Bool)
  /-- PERST_RELEASE (R473). -/
  | perstRelease (d : Unit4)
  /-- APPLY (R55): a 64-bit write of `v`, APPLY set, to GLB_TS_CTL. -/
  | apply (p : Path) (v : Word64)
  /-- TS_SLEW_DONE (R55). -/
  | tsSlewDone
  /-- PPS_IN_EDGE (R56). -/
  | ppsInEdge
  /-- PPS_OUT_PULSE (R56). -/
  | ppsOutPulse
  /-- GLB_TS_READ (R57). -/
  | glbTsRead (p : Path) (part : RdPart)
  /-- ANN_NCLK_READ (R57). -/
  | annNclkRead (p : Path) (part : RdPart)
  /-- GLB_REP_RT_READ (R57). -/
  | glbRepRtRead (p : Path) (part : RdPart)
  /-- REGISTER_WRITE (R8, R11): a write of `bytes` bytes at a CSR offset. -/
  | registerWrite (p : Path) (off : CsrOff) (bytes : Fin 9) (v : Word64)
  /-- ELASTIC_BUFFER_EVENT (R53): lane `lane` of a port die, or (from 128 up) lane of a coupling link. -/
  | elasticBufferEvent (lane : Fin 144)
  -- Configuration images and loading
  /-- LOAD_HEADER (R95): the boot ROM reads the header of `slot`. In a stream load the bytes come from the stream instead. -/
  | loadHeader (slot : Fin 2) (bytes : List Byte)
  /-- CSR_SET (R89): the stored bytes of the next section, a CSR_SET. -/
  | csrSet (stored : List Byte)
  /-- PORT_FW (R89). -/
  | portFw (stored : List Byte)
  /-- FABRIC (R89). -/
  | fabric (stored : List Byte)
  /-- EBM (R89). -/
  | ebm (stored : List Byte)
  /-- TILE_PROG (R89). -/
  | tileProg (stored : List Byte)
  /-- CMD_LIST (R89). -/
  | cmdList (stored : List Byte)
  /-- DATA (R89). -/
  | data (stored : List Byte)
  /-- LOAD_HBM_WAIT_END (R92). -/
  | loadHbmWaitEnd
  /-- FOLLOWER_A (R89). -/
  | followerA (stored : List Byte)
  /-- FOLLOWER_B (R89). -/
  | followerB (stored : List Byte)
  /-- FOLLOWER_PACKET (R116): a forwarded packet of R115. -/
  | followerPacket (target : BitVec 16) (kind : BitVec 8) (payload : List Byte)
  /-- A_DONE (R101). -/
  | aDone
  /-- STAGE_B_DONE (R101). -/
  | stageBDone
  /-- B_DONE (R101). -/
  | bDone
  /-- SYNC_TIMEOUT (R106). -/
  | syncTimeout
  /-- STREAM_TIMEOUT (R105). -/
  | streamTimeout
  /-- FORCE_START (R106): a 64-bit write of `v`, FORCE_START set, to CFG_CTL. -/
  | forceStart (p : Path) (v : Word64)
  /-- LOAD (R107): a 64-bit write of `v`, LOAD set, to CFG_CTL. -/
  | load (p : Path) (v : Word64)
  /-- CFG_LOAD_DATA (R126): a write of `bytes` bytes to CFG_LOAD_DATA. -/
  | cfgLoadData (p : Path) (bytes : Fin 9) (v : Word64)
  /-- ENROLL (R98): a 64-bit write of `v`, ENROLL set, to CFG_KEY_CTL. -/
  | enroll (p : Path) (v : Word64)
  /-- ZEROIZE (R99): a 64-bit write of `v`, ZEROIZE set, to CFG_KEY_CTL. -/
  | zeroize (p : Path) (v : Word64)
  /-- SCRUB_FRAME_CHECK (R121): the scrubber of region `r` checks its next frame and finds `u`. -/
  | scrubFrameCheck (r : Region) (u : FrameUpset)
  -- Keep bank and Ember record
  /-- KEEP_WRITE (R132): a write of `bytes` bytes to a Keep word. -/
  | keepWrite (p : Path) (n : Fin 4096) (bytes : Fin 9) (v : Word64)
  /-- KEEP_WRITE_DONE (R133). -/
  | keepWriteDone
  /-- KEEP_READ (R138): what the ECC check of the read finds new in word `n`, or from 4,096 in a wear counter. -/
  | keepRead (p : Path) (n : Fin 8192) (u : Upset)
  /-- EMBER_COMMIT (R143). -/
  | emberCommit
  /-- EMBER_POWERUP_CHECK (R147). -/
  | emberPowerupCheck
  /-- EMB_RD_IDX (R148): a 64-bit write to EMB_RD_IDX. -/
  | embRdIdx (p : Path) (v : Word64)
  /-- EMB_USER_CTL (R149): a 64-bit write to EMB_USER_CTL. -/
  | embUserCtl (p : Path) (v : Word64)
  /-- PIN_CLEAR (R150): a 64-bit write of `v`, PIN_CLEAR set, to EMB_CTL. -/
  | pinClear (p : Path) (v : Word64)
  /-- PIN_CLEAR_DONE (R151). -/
  | pinClearDone
  -- Logic fabric, RAM blocks and queue controllers
  /-- FABRIC_RAM_WRITE (R166): the writes of ports A and B in one FCLK, each an entry index and its data. -/
  | fabricRamWrite (b : Fin 6144) (a : Option (Fin 16384 × BitVec 128)) (bb : Option (Fin 16384 × BitVec 128))
  /-- FABRIC_RAM_READ (R166): a port reads an entry; what the check of the read finds new. -/
  | fabricRamRead (b : Fin 6144) (portB : Bool) (entry : Fin 16384) (u : Upset)
  /-- QC_PATROL (R169): an idle cycle patrols the word whose turn it is; before it, what `u` says befalls internal word `word`. -/
  | qcPatrol (b : Fin 6144) (word : Fin 2048) (u : Upset)
  /-- FIFO_PUSH (R171). -/
  | fifoPush (b : Fin 6144) (v : BitVec 128)
  /-- FIFO_POP (R171). -/
  | fifoPop (b : Fin 6144)
  /-- LOG_PUSH (R173). -/
  | logPush (b : Fin 6144) (v : BitVec 128)
  /-- LOG_TRIGGER (R173): the TRIGGER input takes a level. -/
  | logTrigger (b : Fin 6144) (level : Bool)
  /-- REARM (R188): a 64-bit write of `v`, REARM set, to QC_LOG. -/
  | rearm (b : Fin 6144) (p : Path) (v : Word64)
  /-- CREDIT_PUSH (R174). -/
  | creditPush (b : Fin 6144) (v : BitVec 128)
  /-- CREDIT_POP (R174). -/
  | creditPop (b : Fin 6144)
  /-- QC_FLAG_SYNC (R172): one push becomes visible on the pop side, or one pop on the push side. -/
  | qcFlagSync (b : Fin 6144) (toPopSide : Bool)
  /-- QC_DEVICE_ACCESS (R177): a device read of `len` bytes, or a write of `wr`, at an offset of an exported block. -/
  | qcDeviceAccess (q : Rq) (b : Fin 6144) (off : BitVec 14) (len : Nat) (wr : Option WrBytes)
  /-- QUEUE_TIMEOUT (R178): the access waiting at block `b` has waited QWAIT. -/
  | queueTimeout (b : Fin 6144)
  /-- RG_OREQ (R180): region logic issues a request. -/
  | rgOreq (r : Region) (tag : BitVec 7) (q : OReq)
  /-- RG_IREQ (R183): the head of the inbound queue is offered, and accepted or not. -/
  | rgIreq (r : Region) (accept : Bool)
  /-- RG_IWAIT (R183): the offered or unanswered request `tag` has waited IWAIT. -/
  | rgIwait (r : Region) (tag : BitVec 16)
  /-- RG_IRSP (R182, R183): region logic answers the IREQ read `tag` with a status. -/
  | rgIrsp (r : Region) (tag : BitVec 16) (st : Fin 11) (data : List Byte)
  -- Signal slices
  /-- SLICE_HOLD (R194). -/
  | sliceHold (n : Fin 4096)
  /-- SLICE_MUL (R194); `sh` is the SHIFT port. -/
  | sliceMul (n : Fin 4096) (a b : C18) (sh : BitVec 6)
  /-- SLICE_MAC (R194). -/
  | sliceMac (n : Fin 4096) (a b : C18) (sh : BitVec 6)
  /-- SLICE_CMAC (R194). -/
  | sliceCmac (n : Fin 4096) (a b c : C18) (sh : BitVec 6)
  /-- SLICE_MULJ (R194). -/
  | sliceMulj (n : Fin 4096) (a b : C18) (sh : BitVec 6)
  /-- SLICE_MACJ (R194). -/
  | sliceMacj (n : Fin 4096) (a b : C18) (sh : BitVec 6)
  /-- SLICE_CASC (R194). -/
  | sliceCasc (n : Fin 4096) (a b : C18) (sh : BitVec 6)
  /-- SLICE_CLR (R194). -/
  | sliceClr (n : Fin 4096)
  /-- OVF_CLR (R198): the pulse, and whether an update of the same FCLK overflowed. -/
  | ovfClr (n : Fin 4096) (overflowNow : Bool)
  /-- BEX_CLR (R202). -/
  | bexClr (n : Fin 4096)
  /-- ADV (R204). -/
  | adv (n : Fin 4096)
  /-- AG_LOAD (R204): the 64 bits of the load port, upper and lower byte of LEN, STRIDE_O, N_I and N_O; LEN, N_I, N_O of 0 mean 65,536. -/
  | agLoad (n : Fin 4096) (lenHi lenLo strideHi strideLo niHi niLo noHi noLo : Byte)
  -- Live region exchange
  /-- GO (R218): a 64-bit write of `v`, GO set, to CFG_EXCH_CTL. -/
  | go (p : Path) (v : Word64)
  /-- EXCH_FETCH_DONE (R211). -/
  | exchFetchDone
  /-- EXCH_CHECK_DONE (R211). -/
  | exchCheckDone
  /-- EXCH_AT_REACHED (R211). -/
  | exchAtReached
  /-- EXCH_DRAIN_DONE (R211). -/
  | exchDrainDone
  /-- EXCH_DRAIN (R212): DRAIN_US expires. -/
  | exchDrain
  /-- EXCH_WRITE_DONE (R211). -/
  | exchWriteDone
  /-- EXCH_THAW (R211). -/
  | exchThaw
  /-- HX_TIMER_MATCH (R219): timer `t` of the region's cells reaches CMP. -/
  | hxTimerMatch (r : Region) (t : Fin 16)
  /-- HX_EDGE (R221): edge detector `d` sees an edge, rising or falling. -/
  | hxEdge (r : Region) (d : Fin 32) (rising : Bool)
  /-- HX_CELL_READ (R222). -/
  | hxCellRead (r : Region) (c : Fin 4)
  /-- HX_CELL_WRITE (R222). -/
  | hxCellWrite (r : Region) (c : Fin 4) (x : HxSet)
  -- The Annulus
  /-- FLIT_INJECT (R240): a stop's unit hands it flit `new`, and slot `slot` of ring `ring` passes the stop, for the head of that ring's
  injection queue. `err` = what the queue's SECDED finds, `cnt` = what that of the credit counter it uses finds. -/
  | flitInject (src : Stop) (new : Option NewFlit) (ring : Fin 10) (slot : Fin 118) (err : BufErr) (cnt : Upset)
  /-- KEEP_MARK (R241): slot `slot` of ring `ring` passes stop `s`. -/
  | keepMark (s : Stop) (ring : Fin 10) (slot : Fin 118)
  /-- FLIT_EJECT (R242, R247): the oldest flits of class `cls` from `cw` and from `ccw` reach `dst` in one NCLK; `lost` = flits of the CW
  pair (or else CCW) lost before it. The unit there then takes `take` held flits of the class. `err` = what the buffer's SECDED finds in
  the flits ejected. -/
  | flitEject (dst : Stop) (cls : FCls) (cw ccw : Option Stop) (take lost : Nat) (err : BufErr)
  /-- FLIT_RETURNED (R238). -/
  | flitReturned (src : Stop) (dst : Stop) (cls : FCls)
  /-- HOP_CRC_ERROR (R259): the flit the segment after `sender` carried on `ring` mismatches. -/
  | hopCrcError (ring : Fin 10) (sender : Stop) (e : HopErr)
  /-- CREDIT_RETURN (R242): `src` owes `dst` credits for 8 NCLK. -/
  | creditReturn (src dst : Stop)
  /-- RD (R234, R285): `units + 1` times 64 B. -/
  | rd (q : Rq) (addr : DevAddr) (units : Fin 64) (noalloc evictFirst : Bool)
  /-- WR (R234, R281), counting an arrival at counter `count` when given (R382). -/
  | wr (q : Rq) (addr : DevAddr) (data : WrBytes) (noalloc evictFirst : Bool) (count : Option (Fin 64))
  /-- CSR_RD (R180). -/
  | csrRdReq (q : Rq) (off : CsrOff) (bytes : Fin 9)
  /-- CSR_WR (R180). -/
  | csrWrReq (q : Rq) (off : CsrOff) (bytes : Fin 9) (v : Word64)
  /-- LOCK_ACQ (R252). -/
  | lockAcq (q : Rq) (lock : Fin 256)
  /-- LOCK_ACQW (R252). -/
  | lockAcqw (q : Rq) (lock : Fin 256)
  /-- LOCK_REL (R252). -/
  | lockRel (q : Rq) (lock : Fin 256)
  /-- LOCK_DECISION (R253); `err` = what the lock table's SECDED finds as it decides. -/
  | lockDecision (err : Option LockErr := none)
  /-- LOCK_OWNER_LOSS (R254). -/
  | lockOwnerLoss (o : Owner)
  /-- ANN_SP_LOCK (R266): a 64-bit write to ANN_SP_LOCK. -/
  | annSpLock (p : Path) (v : Word64)
  -- Cellar and tile SRAM; `line` is a device address divided by 256
  /-- RD_SH (R284). -/
  | rdSh (t : LTile) (line : BitVec 40)
  /-- RD_EX (R284). -/
  | rdEx (t : LTile) (line : BitVec 40)
  /-- UPGR (R284). -/
  | upgr (t : LTile) (line : BitVec 40)
  /-- WB (R284). -/
  | wb (t : LTile) (line : BitVec 40)
  /-- EVC (R284). -/
  | evc (t : LTile) (line : BitVec 40)
  /-- FLUSH (R284). -/
  | flush (q : Rq) (line : BitVec 40)
  /-- FLUSH_INV (R284). -/
  | flushInv (q : Rq) (line : BitVec 40)
  /-- DISCARD (R284). -/
  | discard (q : Rq) (line : BitVec 40)
  /-- FENCE (R284) at slice `s`. -/
  | fence (q : Rq) (s : Unit16)
  /-- SNP_INV (R286) reaches logical tile `t`. -/
  | snpInv (t : LTile) (line : BitVec 40)
  /-- SNP_DOWN (R286). -/
  | snpDown (t : LTile) (line : BitVec 40)
  /-- SNP_CLEAN (R286). -/
  | snpClean (t : LTile) (line : BitVec 40)
  /-- SNP_ACK (R286): tile `t`'s dataless answer reaches the home slice. -/
  | snpAck (t : LTile) (line : BitVec 40)
  /-- SNP_DATA (R287): tile `t`'s answer with dirty sectors reaches the home slice. -/
  | snpData (t : LTile) (line : BitVec 40)
  /-- LINE_QUEUE_ADVANCE (R288). -/
  | lineQueueAdvance (line : BitVec 40)
  /-- CEL_FILL (R280): the fill data of a miss arrives; `host` = what the host returned, for a host line (R291). -/
  | celFill (line : BitVec 40) (host : BitVec 2048)
  /-- SNPINV (R291): an H2D snoop to a host line from port die `d`, its answer leaving `took` ticks later (R482). -/
  | snpinvH2D (d : Unit4) (line : BitVec 40) (took : Nat)
  /-- SNPDATA (R291). -/
  | snpdataH2D (d : Unit4) (line : BitVec 40) (took : Nat)
  /-- SNPCUR (R291). -/
  | snpcurH2D (d : Unit4) (line : BitVec 40) (took : Nat)
  /-- WALK_FLUSH (R294): a 64-bit write of `v`, OP 1, to CEL_FLUSH_CTL. -/
  | walkFlush (s : Unit16) (p : Path) (v : Word64)
  /-- WALK_FLUSH_INV (R294): OP 2. -/
  | walkFlushInv (s : Unit16) (p : Path) (v : Word64)
  /-- WALK_DISCARD (R294): OP 3. -/
  | walkDiscard (s : Unit16) (p : Path) (v : Word64)
  /-- CEL_FLUSH_DONE (R294). -/
  | celFlushDone (s : Unit16)
  /-- CEL_PATROL (R295). -/
  | celPatrol (s : Unit16) (set : Fin 32768) (e : CelErr)
  /-- CEL_MODE_WRITE (R293): a 64-bit write to CEL_CFG. -/
  | celModeWrite (s : Unit16) (p : Path) (v : Word64)
  /-- CACHE_Q_WRITE (R274): a 64-bit write to TIL_SRAM_CFG of a tile. -/
  | cacheQWrite (t : PTile) (p : Path) (v : Word64)
  /-- TIL_SRAM_PATROL (R273): an idle cycle checks the 64 B unit whose turn it is in the bank of the unit at offset `64 * unit`; before it,
  what `u` says befalls that unit. -/
  | tilSramPatrol (t : PTile) (unit : Fin 32768) (u : Upset)
  -- HBM controllers; `L` is a controller-local address (R299)
  /-- HBM_TRAIN_DONE (R300, R302): controller `h` ends its sequence, in service with these spares in use, or failed at a step. -/
  | hbmTrainDone (h : Unit16) (fail : Option (Fin 6 × BitVec 8 × BitVec 32)) (dqSpares : BitVec 16) (caSpares : BitVec 4)
  /-- HBM_REQUEST (R304, R305): a slice's request of class `cls` and deadline `dline`, a read of `len` bytes or a write. -/
  | hbmRequest (h : Unit16) (L : BitVec 33) (len : Fin 257) (wr : Option WrBytes) (poison : Bool) (cls : Fin 3)
      (dline : BitVec 16) (rid : BitVec 11)
  /-- HBM_SCHEDULE (R305): a command opportunity of pseudo-channel `pc`; bit i of `ready` = entry i of the read queue (from bit
  128 on: of the write queue) meets the stack's timing. -/
  | hbmSchedule (h : Unit16) (pc : Fin 8) (ready : BitVec 192)
  /-- HBM_READ_RETURN (R314). -/
  | hbmReadReturn (h : Unit16) (f : HbmFinding)
  /-- HBM_REFRESH (R309, R311): a refresh falls due; the scheduler wants to postpone it or not. -/
  | hbmRefresh (h : Unit16) (pc : Fin 8) (postpone : Bool)
  /-- HBM_PATROL (R315). -/
  | hbmPatrol (h : Unit16) (f : HbmFinding)
  /-- HBM_TEMP_READ (R309). -/
  | hbmTempRead (h : Unit16) (tempC : BitVec 8)
  /-- PAGE_TIMEOUT (R308): the open row of a bank has been idle for PAGE_TO ns. -/
  | pageTimeout (h : Unit16) (pc : Fin 8) (bank : Fin 48)
  /-- CA_PARITY_ALERT (R316): on a channel of the controller; `again` = the command that failed before fails again. -/
  | caParityAlert (h : Unit16) (chan : Fin 4) (command : BitVec 8) (again : Bool)
  /-- RETRAIN (R318): a 64-bit write of `v`, RETRAIN set, to HBM_CTL. -/
  | retrain (h : Unit16) (p : Path) (v : Word64)
  /-- HBM_RETRAIN (R318): the retrain ends, well or not. -/
  | hbmRetrain (h : Unit16) (fail : Option (Fin 6 × BitVec 8 × BitVec 32)) (dqSpares : BitVec 16) (caSpares : BitVec 4)
  /-- HBM_ARB_CFG_WRITE (R320): a 64-bit write to HBM_ARB_CFG. -/
  | hbmArbCfgWrite (h : Unit16) (p : Path) (v : Word64)
  /-- CEL_ARB_CFG_WRITE (R448): a 64-bit write to CEL_ARB_CFG. -/
  | celArbCfgWrite (s : Unit16) (p : Path) (v : Word64)
  -- Matrix arrays
  /-- ARRAY_STEP_START (R329): the current step of the LAYER on tile `t` streams its rows. `fault` = a multiplier of a gill and
  column errs (R339): gill, column, and the bits it flips in the column sum. -/
  | arrayStepStart (t : LTile) (fault : Option (Fin 16 × Fin 64 × BitVec 32))
  /-- HELD_LOAD (R330): the held operand of the next step loads into the shadow bank. -/
  | heldLoad (t : LTile)
  /-- DRAIN (R332): the drain of the LAYER on tile `t`, its accumulator words checked (R338): a word found in error. -/
  | drain (t : LTile) (upset : Option (Fin 1024 × Fin 64 × Upset))
  -- Number formats
  /-- SCALE_CLR (R362): a 64-bit write of `v`, CLR set, to TIL_SCALE_n of a physical tile. -/
  | scaleClr (t : PTile) (n : Fin 16) (p : Path) (v : Word64)
  /-- NAN_REPORT_JUDGE (R360). -/
  | nanReportJudge
  /-- NAN_FIRST_FINAL (R361). -/
  | nanFirstFinal
  /-- NAN_FIRST_CLEAR (R361): a 64-bit write of `v`, VALID set, to GLB_NAN_FIRST. -/
  | nanFirstClear (p : Path) (v : Word64)
  /-- NAN_CAP_CLEAR (R361): a 64-bit write of `v`, VALID set, to TIL_NAN_CAP_0 of a physical tile. -/
  | nanCapClear (t : PTile) (p : Path) (v : Word64)
  -- Thread groups
  /-- ADD (R368). -/
  | vadd (i : VI)
  /-- SUB (R368). -/
  | vsub (i : VI)
  /-- MUL (R368). -/
  | vmul (i : VI)
  /-- MULH (R368). -/
  | mulh (i : VI)
  /-- MAD (R368). -/
  | mad (i : VI)
  /-- DIV (R369). -/
  | vdiv (i : VI)
  /-- REM (R369). -/
  | vrem (i : VI)
  /-- AND (R368). -/
  | vand (i : VI)
  /-- OR (R368). -/
  | vor (i : VI)
  /-- XOR (R368). -/
  | vxor (i : VI)
  /-- SHL (R368). -/
  | shl (i : VI)
  /-- SHR (R368). -/
  | shr (i : VI)
  /-- SAR (R368). -/
  | sar (i : VI)
  /-- MIN (R368). -/
  | vmin (i : VI)
  /-- MAX (R368). -/
  | vmax (i : VI)
  /-- CMP (R368). -/
  | cmp (i : VI) (op : CmpOp)
  /-- FADD (R368). -/
  | fadd (i : VI)
  /-- FSUB (R369). -/
  | fsub (i : VI)
  /-- FMUL (R369). -/
  | fmul (i : VI)
  /-- FMA (R369). -/
  | fma (i : VI)
  /-- FMIN (R369). -/
  | fmin (i : VI)
  /-- FMAX (R369). -/
  | fmax (i : VI)
  /-- FDIV (R369). -/
  | fdiv (i : VI)
  /-- FSQRT (R369). -/
  | fsqrt (i : VI)
  /-- FCMP (R368). -/
  | fcmp (i : VI) (op : CmpOp)
  /-- CVT (R370). -/
  | cvt (i : VI)
  /-- PACK (R368). -/
  | pack (i : VI)
  /-- UNPACK (R368). -/
  | unpack (i : VI)
  /-- LDL (R373). -/
  | ldl (i : LocalAcc)
  /-- STL (R373). -/
  | stl (i : LocalAcc)
  /-- LDD (R373). -/
  | ldd (i : VI)
  /-- STD (R373). -/
  | std (i : VI)
  /-- ATADD (R368). -/
  | atadd (i : VI)
  /-- ATMAX (R368). -/
  | atmax (i : VI)
  /-- STORE_FAULT (R379): a device store of the group was answered with a failing status of R182. -/
  | storeFault (t : LTile) (g : Fin 16) (addr : DevAddr) (status : BitVec 4)
  /-- VX_COPY (R384). -/
  | vxCopy (i : VI)
  /-- ARM (R382). -/
  | arm (i : VI)
  /-- VX_WAIT (R382). -/
  | vxWait (i : VI)
  /-- ACRD (R368). -/
  | acrd (i : VI)
  /-- BR (R374). -/
  | br (i : VI)
  /-- SPLIT (R374). -/
  | split (i : VI)
  /-- JOIN (R374). -/
  | join (i : VI)
  /-- CALL (R376). -/
  | call (i : VI)
  /-- RET (R376). -/
  | ret (i : VI)
  /-- EXIT (R375). -/
  | exit (i : VI)
  /-- TRAP (R377). -/
  | trap (i : VI)
  /-- TRET (R377). -/
  | tret (i : VI)
  /-- SHFL (R368). -/
  | shfl (i : VI)
  /-- VOTE (R368). -/
  | vote (i : VI) (op : VoteOp)
  /-- RED (R368). -/
  | red (i : VI) (op : RedOp)
  /-- GBAR (R372). -/
  | gbar (i : VI)
  /-- VX_FENCE (R372). -/
  | vxFence (i : VI)
  /-- LOCKACQ (R373). -/
  | lockacq (i : VI)
  /-- LOCKACQW (R373). -/
  | lockacqw (i : VI)
  /-- LOCKREL (R373). -/
  | lockrel (i : VI)
  /-- VX_NOP (R368). -/
  | vxNop (i : VI)
  /-- BRK (R379). -/
  | brk (i : VI)
  /-- GRP_REPLAY (R380): a 64-bit write of `v`, REPLAY set, to TIL_GRP_CTL_g of a physical tile. -/
  | grpReplay (t : PTile) (g : Fin 16) (p : Path) (v : Word64)
  /-- GRP_ABORT (R380): the same with ABORT set. -/
  | grpAbort (t : PTile) (g : Fin 16) (p : Path) (v : Word64)
  /-- SPILL_BASE_WRITE (R378): a 64-bit write to TIL_GRP_SPILL_BASE_g. -/
  | spillBaseWrite (t : PTile) (g : Fin 16) (p : Path) (v : Word64)
  /-- SPILL_LIMIT_WRITE (R378): a 64-bit write to TIL_GRP_SPILL_LIMIT_g. -/
  | spillLimitWrite (t : PTile) (g : Fin 16) (p : Path) (v : Word64)
  /-- COPY_START (R385): the tile's copy engine starts its next queued copy. -/
  | copyStart (t : LTile)
  /-- COPY_DONE (R383, R385): the oldest active copy of the tile moves its data and its last completion returns. -/
  | copyDone (t : LTile)
  /-- ARRIVE (R382): an ARRIVE request reaches the logical tile. -/
  | arrive (t : LTile) (k : Fin 64)
  -- Command engines
  /-- DOORBELL (R395): a 64-bit write to CE_QTAIL_q. -/
  | doorbell (e : Engine) (q : Fin 4) (p : Path) (v : Word64)
  /-- CE_FLUSH_WRITE (R392): a 64-bit write to CE_FLUSH. -/
  | ceFlushWrite (e : Engine) (p : Path) (v : Word64)
  /-- LIST_TAKE (R396). -/
  | listTake (e : Engine)
  /-- LIST_FETCH (R401): the next 1,024-byte fetch of the running list returns. -/
  | listFetch (e : Engine)
  /-- CMD_TILE_START (R401): the command `seq` in flight starts its part on a tile. -/
  | cmdTileStart (e : Engine) (seq : BitVec 24) (t : LTile)
  /-- CMD_COMPLETE (R413): the command `seq` in flight has finished on every target tile. -/
  | cmdComplete (e : Engine) (seq : BitVec 24)
  /-- LIST_COMPLETE (R416). -/
  | listComplete (e : Engine)
  /-- PREEMPT (R397). -/
  | preempt (e : Engine)
  /-- Command NOP (R412): the engine issues the next command of its running list, which has this opcode. -/
  | nop (e : Engine)
  /-- Command END (R412): the engine issues the next command of its running list, which has this opcode. -/
  | end_ (e : Engine)
  /-- Command LINK (R412): the engine issues the next command of its running list, which has this opcode. -/
  | link (e : Engine)
  /-- Command LAYER (R402): the engine issues the next command of its running list, which has this opcode. -/
  | layer (e : Engine)
  /-- Command VXRUN (R404): the engine issues the next command of its running list, which has this opcode. -/
  | vxrun (e : Engine)
  /-- Command COPY (R405): the engine issues the next command of its running list, which has this opcode. -/
  | ceCopy (e : Engine)
  /-- Command CONVERT (R405): the engine issues the next command of its running list, which has this opcode. -/
  | convert (e : Engine)
  /-- Command EVSTEP (R406): the engine issues the next command of its running list, which has this opcode. -/
  | evstep (e : Engine)
  /-- Command WAIT (R407): the engine issues the next command of its running list, which has this opcode. -/
  | ceWait (e : Engine)
  /-- WAIT_POLL (R407). -/
  | waitPoll (e : Engine)
  /-- WAIT_TIMEOUT (R407). -/
  | waitTimeout (e : Engine)
  /-- Command SIGNAL (R408). -/
  | signal (e : Engine)
  /-- Command BARRIER (R409). -/
  | barrier (e : Engine)
  /-- Command CHECK (R410). -/
  | check (e : Engine)
  /-- Command TSTAMP (R412). -/
  | tstamp (e : Engine)
  /-- Command WICK (R412). -/
  | wick (e : Engine)
  /-- Command KICK (R412). -/
  | kick (e : Engine)
  /-- Command REPLAY (R412). -/
  | replay (e : Engine)
  /-- Command LOCK (R412). -/
  | lock (e : Engine)
  /-- RESUME (R415): a 64-bit write of `v`, RESUME set, to CE_CTL. -/
  | resume (e : Engine) (p : Path) (v : Word64)
  /-- DROP (R415): a 64-bit write of `v`, DROP set, to CE_CTL. -/
  | drop (e : Engine) (p : Path) (v : Word64)
  /-- SWAP_GO (R418): a 64-bit write of `v`, GO set, to CE_SWAP_CTL. -/
  | swapGo (e : Engine) (p : Path) (v : Word64)
  /-- CE_SWAP (R418): the engine reaches the seam of a pending swap. -/
  | ceSwap (e : Engine)
  -- Lamplighter and feeding
  /-- LL_FETCH (R427): a list fetch of the tile's Lamplighter returns, and the next run-ahead entry is made. -/
  | llFetch (t : LTile)
  /-- LL_FILL_READ (R432): a fill read is sent. -/
  | llFillRead (t : LTile)
  /-- LL_FILL_DATA (R432): the data of the oldest fill read in flight arrives. -/
  | llFillData (t : LTile)
  /-- CAROUSEL_ROUND (R436): the next round of the CAROUSEL LAYER on the tile starts. -/
  | carouselRound (t : LTile)
  -- Event mode
  /-- EV_STEP (R461): the EVSTEP on the tile runs phases 1 to 4 of its next step. -/
  | evStep (t : LTile)
  /-- EV_BARRIER_RELEASE (R462): engine `e` releases phase 5 of its EVSTEP `seq`. -/
  | evBarrierRelease (e : Engine) (seq : BitVec 24)
  -- Test ports and the golden endpoint
  /-- DUT_REQUEST (R480) at port die `d`; its last symbol has just left the elastic buffer. -/
  | dutRequest (d : Unit4) (q : DutReq)
  /-- GE_ANSWER (R483): the answer to a request, or a link's UpdateFC, reaches the response queue. -/
  | geAnswer (d : Unit4) (a : GeSent)
  /-- BUDGET_EXPIRE (R483) of the answer to a request or of a link's UpdateFC. -/
  | budgetExpire (d : Unit4) (w : GeResp)
  /-- ETH_FRAME_RX (R476) on port `n` = 8b + p; `fecUnc` = uncorrectable FEC codewords in it. -/
  | ethFrameRx (d : Unit4) (n : Fin 16) (frame : List Byte) (fecUnc : Nat)
  /-- ETH_FRAME_TX (R477); `mark` = the tag of a frame marked for timestamping. -/
  | ethFrameTx (d : Unit4) (n : Fin 16) (frame : List Byte) (mark : Option (BitVec 16))
  /-- RAW_RX_WORD (R479). -/
  | rawRxWord (d : Unit4) (l : Fin 32) (w : BitVec 128)
  /-- RAW_TX_WORD (R479); `none`: the fabric supplied no word in time. -/
  | rawTxWord (d : Unit4) (l : Fin 32) (w : Option (BitVec 128))
  /-- LANE_MARGIN_MOVE (R470): an error burst of `errors` symbol errors within 1 µs on a lane, and whether its point moves. -/
  | laneMarginMove (d : Unit4) (l : Fin 32) (errors : Nat) (value : BitVec 32)
  /-- INJ_FIRE (R489): entry `n`'s trigger occurs; `matched` = the TLP type byte or EtherType that occurred (TRIG 2). -/
  | injFire (d : Unit4) (n : Fin 16) (matched : BitVec 16)
  /-- EN (R489): a 64-bit write of `v`, EN as in `v`, to PRT_INJ_CTL. -/
  | en (d : Unit4) (p : Path) (v : Word64)
  /-- OUTBOUND_REQUEST (R486): a request into port die `d`'s host window at `off`; `wr` = the bytes of a write. -/
  | outboundRequest (d : Unit4) (q : Rq) (off : DevAddr) (len : Nat) (wr : Option WrBytes)
  /-- OUTBOUND_COMPLETION (R486): the oldest outbound read of port die `d` ends. -/
  | outboundCompletion (d : Unit4) (e : OutEnd)
  /-- PRT_LINK (R493): link `link` changes to this LTSSM state, rate and width. -/
  | prtLink (d : Unit4) (link : Fin 4) (ltssm rate width : BitVec 8) (e : LinkNow)
  /-- CFGREQ_GO (R575): a 64-bit write of `v`, GO set, to PRT_PC_CFGREQ. -/
  | cfgreqGo (d : Unit4) (p : Path) (v : Word64)
  /-- CFGREQ_DONE (R575): status 0 SC, 1 UR, 2 CRS, 3 CA, 4 timeout, and the data of a read. -/
  | cfgreqDone (d : Unit4) (status : Fin 5) (data : BitVec 32)
  /-- SVC_PERST (R491): the level of SVC_PERST_N. -/
  | svcPerst (high : Bool)
  /-- SVC_LINK_DOWN (R254): the service port leaves L0 for Detect, or takes a function-level reset. -/
  | svcLinkDown (flr : Bool)
  /-- BAR2_ACCESS (R573): a read of `len` bytes or a write. -/
  | bar2Access (off : BitVec 30) (len : Nat) (wr : Option WrBytes)
  /-- SVC_LINK_UP (R491). -/
  | svcLinkUp
  /-- PRT_FW_FAULT (R493). -/
  | prtFwFault (d : Unit4) (code : BitVec 32)
  -- Colonies; `k` is a link, `vc` a virtual channel of its receive buffers
  /-- CPL_TRAIN (R496): the training exchange of link `k` ends with the far end's values. -/
  | cplTrain (k : Unit4) (farId : DevId) (nrow : Fin 64) (ncol : Fin 32) (home : DevId)
  /-- CPL_FLIT_RX (R499): the 80 bytes of a flit arrive. -/
  | cplFlitRx (k : Unit4) (flit : List Byte)
  /-- CPL_FLIT_TX (R502): one flit time of link `k`. -/
  | cplFlitTx (k : Unit4)
  /-- CPL_LINK_DOWN (R500): silence for 2 µs (or else the NAK limit). -/
  | cplLinkDown (k : Unit4) (silence : Bool)
  /-- CPL_RETRAIN_DONE (R500): an attempt ends. -/
  | cplRetrainDone (k : Unit4) (ok : Bool)
  /-- PUSH (R507): the oldest packet of a DAT buffer, a PUSH to this device. -/
  | push (k : Unit4) (vc : Fin 2)
  /-- PULL (R508): the oldest packet of a REQ buffer, a PULL to this device. -/
  | pull (k : Unit4) (vc : Fin 2)
  /-- PULL_ENGINE_START (R510). -/
  | pullEngineStart (k : Unit4)
  /-- PUSH_CPL (R507): the oldest packet of an RSP buffer. -/
  | pushCpl (k : Unit4) (vc : Fin 2)
  /-- LOCK_REQ (R520): the oldest packet of a CTL buffer. -/
  | lockReq (k : Unit4) (vc : Fin 2)
  /-- LOCK_RES (R520): the oldest packet of an RSP buffer. -/
  | lockRes (k : Unit4) (vc : Fin 2)
  /-- BAR_ARRIVE (R518): the oldest packet of a CTL buffer. -/
  | barArrive (k : Unit4) (vc : Fin 2)
  /-- BAR_RELEASE (R518): the oldest packet of a CTL buffer. -/
  | barRelease (k : Unit4) (vc : Fin 2)
  /-- NOTICE (R514): the oldest packet of a CTL buffer. -/
  | notice (k : Unit4) (vc : Fin 2)
  /-- CPL_TIMEOUT (R511): the transfer `tag` of link stop `k`. -/
  | cplTimeout (k : Unit4) (tag : BitVec 16)
  /-- RPUSH (R503): a unit pushes `len` bytes of local data at `src` to a remote `dst`, with an arrival at the end or not. -/
  | rpush (q : Rq) (src dst : DevAddr) (len : BitVec 25) (arrive : Option (Fin 64))
  /-- RPULL (R503): a unit pulls `len` bytes at a remote `src` to `dst`. -/
  | rpull (q : Rq) (src dst : DevAddr) (len : BitVec 25)
  /-- CFWD (R503): the oldest packet of a pool (CLASS × 2 + VC) of link `k`, in transit, moves to its next link stop. -/
  | cfwd (k : Unit4) (pool : Fin 8)
  /-- CMSG (R503): the oldest barrier, lock or notice message waiting at stop 59 or 0 moves to its link stop. -/
  | cmsg
  /-- LEAVE (R516): a 64-bit write of `v`, LEAVE set, to CPL_JOIN_CTL. -/
  | leave (p : Path) (v : Word64)
  /-- CPL_JOIN (R513): a 64-bit write of `v`, JOIN set, to CPL_JOIN_CTL. -/
  | cplJoin (p : Path) (v : Word64)
  -- Exact replay
  /-- REP_ARM (R526): a 64-bit write of `v`, ARM set, to GLB_REP_CTL. -/
  | repArm (p : Path) (v : Word64)
  /-- REP_STOP (R526): a 64-bit write of `v`, STOP set, to GLB_REP_CTL. -/
  | repStop (p : Path) (v : Word64)
  /-- REP_START (R526). -/
  | repStart
  /-- REP_END (R526). -/
  | repEnd
  /-- REPLAY_FEED (R532): port die `d` delivers the next record of its ring `g`. -/
  | replayFeed (d : Unit4) (g : Fin 17)
  /-- LINK_FIX (R536): a coupling flit on link `k` cannot be delivered by its due tick. -/
  | linkFix (k : Unit4)
  -- Safety mechanisms
  /-- SELFTEST (R546): the checkers that failed to detect (a mask) and the tiles whose pattern test failed. -/
  | selftest (checkers : BitVec 32) (tiles : BitVec 65)
  /-- WITNESS_SLOT (R541). -/
  | witnessSlot
  /-- QUIET_POINT (R541). -/
  | quietPoint
  /-- WIT_SKIP (R543). -/
  | witSkip
  /-- WITNESS_SWITCH (R27, R541). -/
  | witnessSwitch
  /-- PATTERN_TEST_DONE (R545): the spare's signature is compared; `part` is the part of the test it comes from. -/
  | patternTestDone (signature : Word64) (part : Fin 9)
  /-- WIT_OVERDUE (R545). -/
  | witOverdue (p : PTile)
  /-- WICK_ARM (R548): a 64-bit write of `v`, ARM set, to WICK_CTL_n. -/
  | wickArm (n : Fin 96) (p : Path) (v : Word64)
  /-- WICK_DISARM (R552): a 64-bit write of `v`, DISARM set, to WICK_CTL_n. -/
  | wickDisarm (n : Fin 96) (p : Path) (v : Word64)
  /-- WICK_KICK (R550): a 64-bit write of `v`, KICK set, to WICK_CTL_n. -/
  | wickKick (n : Fin 96) (p : Path) (v : Word64)
  /-- WICK_EXPIRE (R549). -/
  | wickExpire (n : Fin 96)
  /-- REG_SIG (R554): the 1 ms recomputation, in a silicon where the bits of `upset` have flipped in the recomputed signature. -/
  | regSig (upset : BitVec 32)
  /-- SGD_DOORBELL (R556): a 64-bit write to SGD_CH_DB_n. -/
  | sgdDoorbell (n : Fin 32) (p : Path) (v : Word64)
  /-- SGD_SEAL (R557). -/
  | sgdSeal (n : Fin 32)
  /-- SGD_GUARD (R558). -/
  | sgdGuard (n : Fin 32)
  /-- SGD_GAP (R560). -/
  | sgdGap (n : Fin 32)
  /-- SAFE_PIN (R564): the SAFE_N pad reads `high` for 1 µs. -/
  | safePin (high : Bool)
  /-- SAF_CLEAR (R565): a 64-bit write to SAF_CLEAR. -/
  | safClear (p : Path) (v : Word64)
  /-- SAFE_N_RELEASE (R565). -/
  | safeNRelease
  /-- SAF_LOCK (R569): a 64-bit write to SAF_LOCK. -/
  | safLock (p : Path) (v : Word64)
  -- Management, debug and lantern probes
  /-- CSR_ADDR (R577), with a right or wrong PEC (R576). -/
  | csrAddr (v : BitVec 32) (pecOk : Bool)
  /-- CSR_READ (R577). -/
  | csrRead (pecOk : Bool)
  /-- CSR_WRITE (R577). -/
  | csrWrite (v : Word64) (pecOk : Bool)
  /-- CSR_STATUS (R577). -/
  | csrStatus (pecOk : Bool)
  /-- STATUS (R577). -/
  | status (pecOk : Bool)
  /-- TEMP_MAX (R577). -/
  | tempMax (pecOk : Bool)
  /-- POWER (R577). -/
  | power (pecOk : Bool)
  /-- EMB_SEQ (R577). -/
  | embSeq (pecOk : Bool)
  /-- HBM_TEMP (R577). -/
  | hbmTemp (pecOk : Bool)
  /-- SMB_STRETCH_TIMEOUT (R576). -/
  | smbStretchTimeout
  /-- EXTEST (R578). -/
  | extest
  /-- SAMPLE/PRELOAD (R578). -/
  | samplePreload
  /-- IDCODE (R578). -/
  | idcode
  /-- CLAMP (R578). -/
  | clamp
  /-- HIGHZ (R578). -/
  | highz
  /-- EXTEST_PULSE (R578). -/
  | extestPulse
  /-- EXTEST_TRAIN (R578). -/
  | extestTrain
  /-- CSR (R580): an Update-DR of the CSR access register. -/
  | csr (dr : BitVec 96)
  /-- CFG_STREAM (R581): an Update-DR of the stream register. -/
  | cfgStream (v : Word64)
  /-- BYPASS (R578). -/
  | bypass
  /-- TRST (R578). -/
  | trst
  /-- UART_LINE (R582). -/
  | uartLine
  /-- UART_USER (R582): a 64-bit write to MGT_UART_USER. -/
  | uartUser (p : Path) (v : Word64)
  /-- TELEMETRY_UPDATE (R583): the 32 sensors (0.25 °C), the 1 ms average power (0.1 W), the requested VCORE (mV) and the
  energy drawn since the last update (mJ). -/
  | telemetryUpdate (temps : List (BitVec 16)) (pwr : BitVec 16) (vcore : BitVec 16) (mj : BitVec 32)
  /-- PROBE_SAMPLE (R585): bit k of `level` = probe k's selected signal now, of `seen` = it was high since the last sample. -/
  | probeSample (level seen : BitVec 16)
  /-- PRB_CAP_EN (R587): a 64-bit write to MGT_PRB_CAP_CTL with EN set. -/
  | prbCapEn (p : Path) (v : Word64)
  -- Ledgers
  /-- AUDIT (R601): a 64-bit write of `v`, AUDIT set, to GLB_LEDGER_CTL. -/
  | audit (p : Path) (v : Word64)
  /-- LEDGER_ITEM_CHECK (R601): the next item is found at its quiet point or not. -/
  | ledgerItemCheck (quiet : Bool)
  /-- PFAIL_N_RISE (R612). -/
  | pfailNRise
  /-- BRIDGE_AND_BOND_TEST_DONE (R43): the bridge of port die n (`n < 4`) or the bond test of Cellar die n − 4 ends. -/
  | bridgeAndBondTestDone (n : Fin 6) (passed : Bool)
  deriving DecidableEq, Repr

end Sys2Proof
end

