-- ==== Sys2Proof/WellFormed.lean ====
section
/-! DEFINITION. Which commands are well formed: their operands agree with what their row of the opcode table says of them. A command
that is not well formed has a meaning all the same: it is the register write, or the arrival, that its operands spell. -/

namespace Sys2Proof

/-- A request's length: at least 1, and the bytes of a write. -/
def shape (len : Nat) (wr : Option WrBytes) : Bool :=
  match wr with
  | some w => !w.isEmpty && w.length == len
  | none => len != 0

/-- The command is well formed: a register write named after a bit has that bit set, an arrival has its fixed size. -/
def wellFormed (i : Instr) : Bool :=
  match i with
  | .por => true
  | .vauxGood _ => true
  | .sysRstN _ _ _ _ _ _ => true
  | .rootLock => true
  | .rootLoss => true
  | .clockMonitorWindow _ _ => true
  | .fclkDivSwitch _ => true
  | .droopStretch => true
  | .thermalStepJudge => true
  | .powerCapStep => true
  | .thermTrip _ _ => true
  | .avsTimeout => true
  | .safesideMove _ _ => true
  | .railMonitorSample _ _ _ => true
  | .vauxLoss _ _ => true
  | .pfailAccept _ => true
  | .powerFailCommitDone => true
  | .sys _ v => v.getLsbD 0
  | .reload _ v => v.getLsbD 1
  | .reloadResetDone => true
  | .eng _ v => v.getLsbD 3
  | .engResetDone _ => true
  | .tile _ v => v.getLsbD 2
  | .tileWritebackDone _ => true
  | .tileResetDone _ => true
  | .perstN _ _ => true
  | .perstRelease _ => true
  | .apply _ v => v.getLsbD 31
  | .tsSlewDone => true
  | .ppsInEdge => true
  | .ppsOutPulse => true
  | .glbTsRead _ _ => true
  | .annNclkRead _ _ => true
  | .glbRepRtRead _ _ => true
  | .registerWrite _ _ bytes _ => bytes != 0
  | .elasticBufferEvent _ => true
  | .loadHeader _ bytes => decide (bytes.length ≤ 16384)
  | .csrSet _ => true
  | .portFw _ => true
  | .fabric _ => true
  | .ebm _ => true
  | .tileProg _ => true
  | .cmdList _ => true
  | .data _ => true
  | .loadHbmWaitEnd => true
  | .followerA _ => true
  | .followerB _ => true
  | .followerPacket _ _ _ => true
  | .aDone => true
  | .stageBDone => true
  | .bDone => true
  | .syncTimeout => true
  | .streamTimeout => true
  | .forceStart _ v => v.getLsbD 2
  | .load _ v => v.getLsbD 1
  | .cfgLoadData _ bytes _ => bytes != 0
  | .enroll _ v => v.getLsbD 0
  | .zeroize _ v => v.getLsbD 1
  | .scrubFrameCheck _ _ => true
  | .keepWrite _ _ bytes _ => bytes != 0
  | .keepWriteDone => true
  | .keepRead _ _ _ => true
  | .emberCommit => true
  | .emberPowerupCheck => true
  | .embRdIdx _ _ => true
  | .embUserCtl _ _ => true
  | .pinClear _ v => v.getLsbD 0
  | .pinClearDone => true
  | .fabricRamWrite _ _ _ => true
  | .fabricRamRead _ _ _ _ => true
  | .qcPatrol _ _ _ => true
  | .fifoPush _ _ => true
  | .fifoPop _ => true
  | .logPush _ _ => true
  | .logTrigger _ _ => true
  | .rearm _ _ v => v.getLsbD 63
  | .creditPush _ _ => true
  | .creditPop _ => true
  | .qcFlagSync _ _ => true
  | .qcDeviceAccess _ _ _ len wr => shape len wr
  | .queueTimeout _ => true
  | .rgOreq _ _ _ => true
  | .rgIreq _ _ => true
  | .rgIwait _ _ => true
  | .rgIrsp _ _ _ _ => true
  | .sliceHold _ => true
  | .sliceMul _ _ _ _ => true
  | .sliceMac _ _ _ _ => true
  | .sliceCmac _ _ _ _ _ => true
  | .sliceMulj _ _ _ _ => true
  | .sliceMacj _ _ _ _ => true
  | .sliceCasc _ _ _ _ => true
  | .sliceClr _ => true
  | .ovfClr _ _ => true
  | .bexClr _ => true
  | .adv _ => true
  | .agLoad _ _ _ _ _ _ _ _ _ => true
  | .go _ v => v.getLsbD 32
  | .exchFetchDone => true
  | .exchCheckDone => true
  | .exchAtReached => true
  | .exchDrainDone => true
  | .exchDrain => true
  | .exchWriteDone => true
  | .exchThaw => true
  | .hxTimerMatch _ _ => true
  | .hxEdge _ _ _ => true
  | .hxCellRead _ _ => true
  | .hxCellWrite _ _ _ => true
  | .flitInject _ _ _ _ _ _ => true
  | .keepMark _ _ _ => true
  | .flitEject _ _ _ _ _ _ _ => true
  | .flitReturned _ _ _ => true
  | .hopCrcError _ _ _ => true
  | .creditReturn _ _ => true
  | .rd _ _ _ _ _ => true
  | .wr _ _ data _ _ _ => !data.isEmpty
  | .csrRdReq _ _ bytes => bytes != 0
  | .csrWrReq _ _ bytes _ => bytes != 0
  | .lockAcq _ _ => true
  | .lockAcqw _ _ => true
  | .lockRel _ _ => true
  | .lockDecision _ => true
  | .lockOwnerLoss _ => true
  | .annSpLock _ _ => true
  | .rdSh _ _ => true
  | .rdEx _ _ => true
  | .upgr _ _ => true
  | .wb _ _ => true
  | .evc _ _ => true
  | .flush _ _ => true
  | .flushInv _ _ => true
  | .discard _ _ => true
  | .fence _ _ => true
  | .snpInv _ _ => true
  | .snpDown _ _ => true
  | .snpClean _ _ => true
  | .snpAck _ _ => true
  | .snpData _ _ => true
  | .lineQueueAdvance _ => true
  | .celFill _ _ => true
  | .snpinvH2D _ _ _ => true
  | .snpdataH2D _ _ _ => true
  | .snpcurH2D _ _ _ => true
  | .walkFlush _ _ v => v.toNat % 4 == 1
  | .walkFlushInv _ _ v => v.toNat % 4 == 2
  | .walkDiscard _ _ v => v.toNat % 4 == 3
  | .celFlushDone _ => true
  | .celPatrol _ _ _ => true
  | .celModeWrite _ _ _ => true
  | .cacheQWrite _ _ _ => true
  | .tilSramPatrol _ _ _ => true
  | .hbmTrainDone _ _ _ _ => true
  | .hbmRequest _ L len wr _ _ _ _ => shape len.val wr && decide (L.toNat / 256 = (L.toNat + len.val - 1) / 256)
  | .hbmSchedule _ _ _ => true
  | .hbmReadReturn _ _ => true
  | .hbmRefresh _ _ _ => true
  | .hbmPatrol _ _ => true
  | .hbmTempRead _ _ => true
  | .pageTimeout _ _ _ => true
  | .caParityAlert _ _ _ _ => true
  | .retrain _ _ v => v.getLsbD 0
  | .hbmRetrain _ _ _ _ => true
  | .hbmArbCfgWrite _ _ _ => true
  | .celArbCfgWrite _ _ _ => true
  | .arrayStepStart _ _ => true
  | .heldLoad _ => true
  | .drain _ _ => true
  | .scaleClr _ _ _ v => v.getLsbD 27
  | .nanReportJudge => true
  | .nanFirstFinal => true
  | .nanFirstClear _ v => v.getLsbD 0
  | .nanCapClear _ _ v => v.getLsbD 0
  | .vadd _ => true
  | .vsub _ => true
  | .vmul _ => true
  | .mulh _ => true
  | .mad _ => true
  | .vdiv _ => true
  | .vrem _ => true
  | .vand _ => true
  | .vor _ => true
  | .vxor _ => true
  | .shl _ => true
  | .shr _ => true
  | .sar _ => true
  | .vmin _ => true
  | .vmax _ => true
  | .cmp _ _ => true
  | .fadd _ => true
  | .fsub _ => true
  | .fmul _ => true
  | .fma _ => true
  | .fmin _ => true
  | .fmax _ => true
  | .fdiv _ => true
  | .fsqrt _ => true
  | .fcmp _ _ => true
  | .cvt _ => true
  | .pack _ => true
  | .unpack _ => true
  | .ldl _ => true
  | .stl _ => true
  | .ldd _ => true
  | .std _ => true
  | .atadd _ => true
  | .atmax _ => true
  | .storeFault _ _ _ _ => true
  | .vxCopy _ => true
  | .arm _ => true
  | .vxWait _ => true
  | .acrd _ => true
  | .br _ => true
  | .split _ => true
  | .join _ => true
  | .call _ => true
  | .ret _ => true
  | .exit _ => true
  | .trap _ => true
  | .tret _ => true
  | .shfl _ => true
  | .vote _ _ => true
  | .red _ _ => true
  | .gbar _ => true
  | .vxFence _ => true
  | .lockacq _ => true
  | .lockacqw _ => true
  | .lockrel _ => true
  | .vxNop _ => true
  | .brk _ => true
  | .grpReplay _ _ _ v => v.getLsbD 0
  | .grpAbort _ _ _ v => v.getLsbD 1
  | .spillBaseWrite _ _ _ _ => true
  | .spillLimitWrite _ _ _ _ => true
  | .copyStart _ => true
  | .copyDone _ => true
  | .arrive _ _ => true
  | .doorbell _ _ _ _ => true
  | .ceFlushWrite _ _ _ => true
  | .listTake _ => true
  | .listFetch _ => true
  | .cmdTileStart _ _ _ => true
  | .cmdComplete _ _ => true
  | .listComplete _ => true
  | .preempt _ => true
  | .nop _ => true
  | .end_ _ => true
  | .link _ => true
  | .layer _ => true
  | .vxrun _ => true
  | .ceCopy _ => true
  | .convert _ => true
  | .evstep _ => true
  | .ceWait _ => true
  | .waitPoll _ => true
  | .waitTimeout _ => true
  | .signal _ => true
  | .barrier _ => true
  | .check _ => true
  | .tstamp _ => true
  | .wick _ => true
  | .kick _ => true
  | .replay _ => true
  | .lock _ => true
  | .resume _ _ v => v.getLsbD 2
  | .drop _ _ v => v.getLsbD 3
  | .swapGo _ _ v => v.getLsbD 0
  | .ceSwap _ => true
  | .llFetch _ => true
  | .llFillRead _ => true
  | .llFillData _ => true
  | .carouselRound _ => true
  | .evStep _ => true
  | .evBarrierRelease _ _ => true
  | .dutRequest _ q => if q.data.isEmpty then true else q.data.length == q.len
  | .geAnswer _ a => a.part != some 0
  | .budgetExpire _ _ => true
  | .ethFrameRx _ _ frame _ => decide (64 ≤ frame.length)
  | .ethFrameTx _ _ frame _ => decide (64 ≤ frame.length)
  | .rawRxWord _ _ _ => true
  | .rawTxWord _ _ _ => true
  | .laneMarginMove _ _ _ _ => true
  | .injFire _ _ _ => true
  | .en _ _ _ => true
  | .outboundRequest _ _ _ len wr => shape len wr
  | .outboundCompletion _ _ => true
  | .prtLink _ _ _ _ _ _ => true
  | .cfgreqGo _ _ v => v.getLsbD 63
  | .cfgreqDone _ _ _ => true
  | .svcPerst _ => true
  | .svcLinkDown _ => true
  | .bar2Access _ len wr => shape len wr
  | .svcLinkUp => true
  | .prtFwFault _ _ => true
  | .cplTrain _ _ _ _ _ => true
  | .cplFlitRx _ flit => flit.length == 80
  | .cplFlitTx _ => true
  | .cplLinkDown _ _ => true
  | .cplRetrainDone _ _ => true
  | .push _ _ => true
  | .pull _ _ => true
  | .pullEngineStart _ => true
  | .pushCpl _ _ => true
  | .lockReq _ _ => true
  | .lockRes _ _ => true
  | .barArrive _ _ => true
  | .barRelease _ _ => true
  | .notice _ _ => true
  | .cplTimeout _ _ => true
  | .rpush _ _ _ len _ => len != 0
  | .rpull _ _ _ len => len != 0
  | .cfwd _ _ => true
  | .cmsg => true
  | .leave _ v => v.getLsbD 1
  | .cplJoin _ v => v.getLsbD 0
  | .repArm _ v => v.getLsbD 0
  | .repStop _ v => v.getLsbD 1
  | .repStart => true
  | .repEnd => true
  | .replayFeed _ _ => true
  | .linkFix _ => true
  | .selftest _ _ => true
  | .witnessSlot => true
  | .quietPoint => true
  | .witSkip => true
  | .witnessSwitch => true
  | .patternTestDone _ _ => true
  | .witOverdue _ => true
  | .wickArm _ _ v => v.getLsbD 0
  | .wickDisarm _ _ v => v.getLsbD 1
  | .wickKick _ _ v => v.getLsbD 2
  | .wickExpire _ => true
  | .regSig _ => true
  | .sgdDoorbell _ _ _ => true
  | .sgdSeal _ => true
  | .sgdGuard _ => true
  | .sgdGap _ => true
  | .safePin _ => true
  | .safClear _ _ => true
  | .safeNRelease => true
  | .safLock _ _ => true
  | .csrAddr _ _ => true
  | .csrRead _ => true
  | .csrWrite _ _ => true
  | .csrStatus _ => true
  | .status _ => true
  | .tempMax _ => true
  | .power _ => true
  | .embSeq _ => true
  | .hbmTemp _ => true
  | .smbStretchTimeout => true
  | .extest => true
  | .samplePreload => true
  | .idcode => true
  | .clamp => true
  | .highz => true
  | .extestPulse => true
  | .extestTrain => true
  | .csr _ => true
  | .cfgStream _ => true
  | .bypass => true
  | .trst => true
  | .uartLine => true
  | .uartUser _ _ => true
  | .telemetryUpdate temps _ _ _ => temps.length == 32
  | .probeSample _ _ => true
  | .prbCapEn _ v => v.getLsbD 0
  | .audit _ v => v.getLsbD 0
  | .ledgerItemCheck _ => true
  | .pfailNRise => true
  | .bridgeAndBondTestDone _ _ => true

end Sys2Proof
end

