-- ==== Sys2Proof/Config.lean ====
section
/-! DEFINITION. What an implementation fixes, the free values, and the external standards the manual points to.
Every constant here that is `opaque` has no body: no proof can see its value. -/

namespace Sys2Proof.Config

/-- A free value: the value the manual leaves open at the draw numbered by the argument
(the state's draw counter). DESIGN CHOICE, log entry 1. -/
opaque freeValue : Nat → Nat

/-- The SHA-384 digest of a byte string, as FIPS 180-4 defines it (R87, R88, R95, R150). An external standard:
uninterpreted, log entry 2. -/
opaque sha384 : List Byte → BitVec 384

/-- ECDSA P-384: does the signature (r, s) verify over the digest under the public key (x, y) (R87, R95, R150)?
Uninterpreted, log entry 2. -/
opaque ecdsaVerify : (pubkey : BitVec 768) → (digest : BitVec 384) → (sig : BitVec 768) → Bool

/-- AES key unwrap (NIST SP 800-38F, KW) of a wrapped content key under a KEK (R87); `none` where the unwrap's own
integrity check fails. Uninterpreted, log entry 2. -/
opaque aesUnwrap : (kek : BitVec 256) → (wrapped : BitVec 320) → Option (BitVec 256)

/-- AES-256-GCM: the plaintext of ciphertext-with-tag under key and nonce, or `none` where the tag fails (R88, R97).
Uninterpreted, log entry 2. -/
opaque aesGcmOpen : (key : BitVec 256) → (iv : BitVec 96) → (stored : List Byte) → Option (List Byte)

/-- The PUF-wrapped form of an enrolled KEK_1 (R98), and its unwrapping. Uninterpreted, log entry 2. -/
opaque pufWrap : BitVec 256 → BitVec 2048
/-- The unwrapping of the key store under the PUF-derived key (R98). Uninterpreted, log entry 2. -/
opaque pufUnwrap : BitVec 2048 → BitVec 256

/-- The fused signature the pattern test must produce on a good tile (R545): fixed at manufacture, not stated. -/
opaque witSignature : BitVec 64

/-- Which clean way a slice or tile cache evicts: the pseudo-LRU tree's shape is not given (R278), so the victim
among a set's ways is free. -/
opaque lruVictim : Nat → Nat

/-- Which of a snoop filter's 4,096 sets a line falls into: the manual does not say (R283). Log entry 6. -/
opaque filterSet : Nat → Nat

/-- What the configuration frames of a region set (R184, R186, R189, R207, R219): the place of a field in the frames is not given.
The argument is the region's frame bytes; the second the block, slice, timer or detector number within the device.
Log entry 4. -/
opaque frameQcCfg : List Byte → Nat → BitVec 64
/-- POST of a block's log (R186). -/
opaque frameQcPost : List Byte → Nat → BitVec 15
/-- RG_CTL of a region (R189). -/
opaque frameRgCtl : List Byte → BitVec 32
/-- The static fields of a slice as R207 numbers them, bits [54:0], then LEN, STRIDE_O, N_I, N_O of 16 bits each. -/
opaque frameSlice : List Byte → Nat → BitVec 119
/-- CMP, PRE − 1, SRC and PERIODIC of a handover timer, as HX_TMR_CMP_t lays them out (R228). -/
opaque frameHxTimer : List Byte → Nat → BitVec 58
/-- Which FCLK a region runs on (R162). -/
opaque frameFclk : List Byte → Nat
/-- A byte of a write into another device's window whose strobe was 0: a coupling packet carries no strobes (R180, R503; log entry 168). -/
opaque unstrobed : Nat → BitVec 8

/-- SENSE of an edge detector (R228). -/
opaque frameHxEdge : List Byte → Nat → BitVec 2

/-- What an edge detector watches: a crossing wire of its edge, or 1,024 + a device event line (R221). -/
opaque frameHxWatch : List Byte → Nat → BitVec 11

/-- The byte string whose CRC-32 is the register signature of R554: the manual does not say how the registers' values are laid out in it.
Log entry 80. -/
opaque sigBytes : List Nat → List Byte

/-- The number of a vector instruction within its class, bits [3:0] of OPC (R367): the manual names the instructions of a class but
gives them no numbers. The arguments are the class and the instruction's place in the class's list (R368). Log entry 20. -/
opaque vxOpcLow : Nat → Nat → Nat

/-- What ACRD leaves in RD of the arrival counter it reads, a function of its EXPECT and ARRIVED: the manual names the instruction and
not the field or layout it returns (R368, R382). Log entry 75. -/
opaque acrdValue : (expect arrived : Nat) → Nat

end Sys2Proof.Config
end

