-- ==== Sys2Proof/Machine/Bits.lean ====
section
/-! DEFINITION. Bit fields, byte order, and sparse tables in canonical form: the helpers every meaning uses. -/

namespace Sys2Proof.Machine

/-- Bits `[lo + w - 1 : lo]` of a number (R6). -/
def bits (v lo w : Nat) : Nat := v / 2 ^ lo % 2 ^ w

/-- Bit `i` of a number. -/
def bitAt (v i : Nat) : Bool := v.testBit i

/-- The number whose only bit is bit `i`, when `b`. -/
def bitIf (b : Bool) (i : Nat) : Nat := if b then 2 ^ i else 0

/-- `v` with the field `[lo + w - 1 : lo]` replaced by `x`. -/
def setBits (v lo w x : Nat) : Nat := v - bits v lo w * 2 ^ lo + x % 2 ^ w * 2 ^ lo

/-- Add, saturating at the largest `w`-bit value. -/
def satAdd (w a b : Nat) : Nat := min (a + b) (2 ^ w - 1)

/-- The signed value of a `w`-bit two's complement number. -/
def toSigned (w v : Nat) : Int := if v % 2 ^ w < 2 ^ (w - 1) then (v % 2 ^ w : Nat) else (v % 2 ^ w : Nat) - (2 ^ w : Nat)

/-- The `w`-bit two's complement encoding of a signed number. -/
def ofSigned (w : Nat) (i : Int) : Nat := (i % (2 ^ w : Nat)).toNat

/-- The little-endian bytes of a number. -/
def leBytes : Nat → Nat → List Byte
  | 0, _ => []
  | n + 1, v => BitVec.ofNat 8 v :: leBytes n (v / 256)

/-- The number a little-endian byte string spells. -/
def leNat : List Byte → Nat
  | [] => 0
  | b :: r => b.toNat + 256 * leNat r

/-- A table of values by key: strictly rising keys, no entry equal to the default. -/
def Sparse.get {α : Type} (dflt : α) : List (Nat × α) → Nat → α
  | [], _ => dflt
  | (a, v) :: r, k => if a = k then v else Sparse.get dflt r k

/-- An entry put into a table in the order of its keys. -/
def Sparse.ins {α : Type} : List (Nat × α) → Nat → α → List (Nat × α)
  | [], k, v => [(k, v)]
  | (a, x) :: r, k, v => if k < a then (k, v) :: (a, x) :: r else (a, x) :: Sparse.ins r k v

/-- Write one key of a table and keep the canonical form: writing the default removes the entry. -/
def Sparse.set {α : Type} [DecidableEq α] (dflt : α) (m : List (Nat × α)) (k : Nat) (v : α) : List (Nat × α) :=
  if v = dflt then m.filter (fun e => e.1 != k) else Sparse.ins (m.filter fun e => e.1 != k) k v

/-- The canonical form above a bound: keys strictly rising from `lo`, none at its default. -/
def Sparse.wfFrom {α : Type} [DecidableEq α] (dflt : α) : Nat → List (Nat × α) → Bool
  | _, [] => true
  | lo, (a, v) :: r => decide (lo ≤ a) && decide (v ≠ dflt) && Sparse.wfFrom dflt (a + 1) r

/-- The canonical form of a table. -/
def Sparse.wf {α : Type} [DecidableEq α] (dflt : α) (m : List (Nat × α)) : Bool := Sparse.wfFrom dflt 0 m

/-- The canonical form of any table: of several entries for a key the first counts. -/
def Sparse.norm {α : Type} [DecidableEq α] (dflt : α) : List (Nat × α) → List (Nat × α)
  | [] => []
  | e :: r => Sparse.set dflt (Sparse.norm dflt r) e.1 e.2

/-- Membership of a sorted set of numbers held as a table of `true`. -/
def NatSet.has (m : List (Nat × Bool)) (k : Nat) : Bool := Sparse.get false m k

/-- One CRC-32 step (reflected IEEE 802.3 polynomial). -/
def crc32Bit (c : Nat) : Nat := if c % 2 = 1 then Nat.xor (c / 2) 0xEDB88320 else c / 2

/-- CRC-32 over one byte. -/
def crc32Byte (c : Nat) (b : Byte) : Nat :=
  crc32Bit (crc32Bit (crc32Bit (crc32Bit (crc32Bit (crc32Bit (crc32Bit (crc32Bit (Nat.xor c b.toNat))))))))

/-- CRC-32 with the IEEE 802.3 polynomial over a byte string (R140, R555). -/
def crc32 (bs : List Byte) : Nat := Nat.xor (bs.foldl crc32Byte 0xFFFFFFFF) 0xFFFFFFFF

/-- Distinct `0 … n-1` as a list, lowest first. -/
def upTo (n : Nat) : List Nat := List.range n

/-- The smallest number above `a` that is a multiple of `m` (`m > 0`). -/
def nextMultiple (m a : Nat) : Nat := (a / m + 1) * m

end Sys2Proof.Machine
end

