-- ==== Sys2Proof/Machine/Fields.lean ====
section
/-! DEFINITION. How the manual's register tables are written: one descriptor per field, with its offset, bits, access code
and reset value (R7, R8, R11). -/

namespace Sys2Proof.Machine

/-- The access codes of R11. -/
inductive Acc where
  | rw | ro | wo | w1c | w1s | lk
  deriving DecidableEq, Repr

/-- One register field. Instance `(i, j)` of it lies in the register at `off + i * s1 + j * s2`, for `i < n1`, `j < n2`.
A write of a value outside `[minv, maxv]` keeps the previous value (R10, or the field's own rule). -/
structure Fld where
  off  : Nat
  lo   : Nat
  w    : Nat
  acc  : Acc
  rst  : Nat := 0
  n1   : Nat := 1
  s1   : Nat := 0
  n2   : Nat := 1
  s2   : Nat := 0
  minv : Nat := 0
  maxv : Nat := 2 ^ 64
  /-- kept through POR and SYS too -/
  persist : Bool := false
  deriving DecidableEq, Repr

/-- A field by access code. -/
def fRW (off lo w : Nat) (rst : Nat := 0) : Fld := { off, lo, w, acc := .rw, rst }
/-- A read-only field. -/
def fRO (off lo w : Nat) (rst : Nat := 0) : Fld := { off, lo, w, acc := .ro, rst }
/-- A write-only field: it holds no readable state; what it was last written is kept for the action that uses it. -/
def fWO (off lo w : Nat) (rst : Nat := 0) : Fld := { off, lo, w, acc := .wo, rst }
/-- A write-one-to-clear field. -/
def fW1C (off lo w : Nat) (rst : Nat := 0) : Fld := { off, lo, w, acc := .w1c, rst }
/-- A field locked once stage B completes. -/
def fLK (off lo w : Nat) (rst : Nat := 0) : Fld := { off, lo, w, acc := .lk, rst }

/-- A row of `n` instances, `s` apart. -/
def Fld.arr (f : Fld) (n s : Nat) : Fld := { f with n1 := n, s1 := s }
/-- A second index of `n` instances, `s` apart. -/
def Fld.arr2 (f : Fld) (n s : Nat) : Fld := { f with n2 := n, s2 := s }
/-- The values a write may take. -/
def Fld.only (f : Fld) (lo hi : Nat) : Fld := { f with minv := lo, maxv := hi }
/-- A persistent field. -/
def Fld.kept (f : Fld) : Fld := { f with persist := true }

/-- The CSR offset of instance `(i, j)`. -/
def Fld.at (f : Fld) (i j : Nat) : Nat := f.off + i * f.s1 + j * f.s2

/-- The key under which the register file holds instance `(i, j)` of a field. -/
def Fld.key (f : Fld) (i j : Nat) : Nat := f.at i j * 64 + f.lo

/-- Which instance of the field, if any, lies in the register at this offset. -/
def Fld.inst? (f : Fld) (off : Nat) : Option (Nat × Nat) :=
  if off < f.off then none else
  let d := off - f.off
  if f.s1 = 0 ∧ f.s2 = 0 then (if d = 0 then some (0, 0) else none)
  else if f.s2 = 0 then (if d % f.s1 = 0 ∧ d / f.s1 < f.n1 then some (d / f.s1, 0) else none)
  else
    let i := if f.s1 = 0 then 0 else d / f.s1
    let e := d - i * f.s1
    if i < f.n1 ∧ e % f.s2 = 0 ∧ e / f.s2 < f.n2 then some (i, e / f.s2) else none

end Sys2Proof.Machine
end

