-- ==== Sys2Proof/Machine/Regs.lean ====
section
/-! DEFINITION. The register tables of the GLB, CFG, KEEP, EMB, SAF, SGD and MGT blocks. Each name is the manual's register and
field; offsets, bits, access and reset are the table's. -/

namespace Sys2Proof.Machine.Reg
open Sys2Proof.Machine

/-! GLB_ID (R3). -/
def ID_PART := fRO 0x0 0 16 0x0E64
def ID_STEP := fRO 0x0 16 8 0xB0
/-- fused; the model's part is an EQ64-S (DESIGN CHOICE, log entry 3) -/
def ID_GRADE := (fRO 0x0 24 8 0x01).kept

/-! GLB_DIE_STAT (R43). -/
def DIE_PD_UP := fRO 0x40 6 4
def DIE_HBM_OK := fRO 0x40 14 4
def DIE_CEL_OK := fRO 0x40 18 2
def DIE_HBM_CTL_OK := fRO 0x40 20 16
/-! GLB_ADDR_MAP (R44). -/
def MAP_HBM_IL := fLK 0x48 0 2
/-! GLB_SPARE (R46). -/
def SPARE_SPARE := fRO 0x50 0 7 0x40
def SPARE_HO := fRO 0x50 8 1
def SPARE_OUT := fRO 0x50 16 7 0x40
def SPARE_EPOCH := fRO 0x50 32 32
/-! GLB_CLK_STAT (R78). -/
def CLK_ROOT_LOCK := fRO 0x200 0 1
def CLK_MON_OK := fRO 0x200 1 10
def CLK_TS_SLEW := fRO 0x200 11 1
def CLK_TSTEP := fRO 0x200 17 3
def CLK_PWR_LIMITED := fRO 0x200 20 1
/-! GLB_FCLK_DIV (R79, R50). -/
def FCLK_DIV_0 := (fLK 0x208 0 8 0x18).only 12 96
def FCLK_DIV_1 := (fLK 0x208 8 8 0x18).only 12 96
def FCLK_DIV_2 := (fLK 0x208 16 8 0x18).only 12 96
def FCLK_DIV_3 := (fLK 0x208 24 8 0x18).only 12 96
/-! GLB_TS_CTL (R81), GLB_TS_PPS (R80). -/
def TSC_RATE := fRW 0x218 0 16
def TSC_PPS_OUT := fRW 0x218 16 1
def TSC_OFFSET := fRW 0x218 32 32
def TS_PPS := fRO 0x220 0 64
/-! GLB_RST_CAUSE (R83). -/
def CAUSE_POR := fW1C 0x230 0 1 1
def CAUSE_SYS_PIN := fW1C 0x230 1 1
def CAUSE_SYS_SW := fW1C 0x230 2 1
def CAUSE_RELOAD := fW1C 0x230 3 1
def CAUSE_PFAIL := fW1C 0x230 4 1
def CAUSE_THERM_TRIP := fW1C 0x230 5 1
def CAUSE_RAIL_ORDER := fW1C 0x230 6 1
def CAUSE_ROOT_LOSS := fW1C 0x230 7 1
def CAUSE_ENG := fW1C 0x230 8 1
def CAUSE_TILE := fW1C 0x230 9 1
def CAUSE_PORT := fW1C 0x230 10 1
/-! GLB_SAFESIDE_STAT (R84). -/
def SAFESIDE := fW1C 0x238 0 5
/-! GLB_LOOP_CFG (R85). TSTEP_C resets to the grade maximum, 100 °C for grade S. -/
def LOOP_TSTEP_C := fRW 0x240 0 8 100
def LOOP_CAP_W := fRW 0x240 8 16
def LOOP_VFLOOR_MV := fRW 0x240 24 10
def LOOP_HBM_REF2X := fRW 0x240 34 1
/-! GLB_NAN_FIRST, GLB_NAN_TS (R364). -/
def NANF_VALID := fW1C 0x300 0 1
def NANF_FINAL := fRO 0x300 1 1
def NANF_PTILE := fRO 0x300 8 7
def NANF_LTILE := fRO 0x300 16 6
def NAN_TS := fRO 0x308 0 64
/-! GLB_REP registers (R538). -/
def REP_ROLE := fRW 0x400 2 2
def REP_RING := fRW 0x400 4 4
def REP_COMPARE := fRW 0x400 8 1
def REP_AT := fRW 0x408 0 64
def REP_LEN := fRW 0x410 0 64
def REP_STATE := fRO 0x418 0 3
def REP_REASON := fRO 0x418 8 8
def REP_DIVERGED := fRO 0x418 16 1
def REP_INCOMPLETE := fRO 0x418 17 1
def REP_HOST_REFUSED := fRO 0x418 32 16
def REP_RT := fRO 0x420 0 64
def REP_T0 := fRO 0x428 0 64
def REP_EVT := fRO 0x430 0 64

/-! GLB_LEDGER registers (R603). -/
def LED_BUSY := fRO 0x508 0 1
def LED_DONE := fW1C 0x508 1 1
def LED_SKIPPED := fRO 0x508 8 24
def LED_CHECKED := fRO 0x508 32 32
def LED_COUNT := fRO 0x510 0 16
def LED_KIND := fRO 0x510 16 4
def LED_IDENT := fRO 0x510 32 32
/-! GLB_RAIL_STAT (R622). -/
def RAIL_GOOD := fRO 0x600 0 9
def RAIL_OUT := fW1C 0x600 16 9

/-! CFG_STAT (R124). CHAIN_ID and MODE are straps sampled at the release of SYS_RST_N. -/
def CFG_STATE := fRO 0x100000 0 4
def CFG_FAIL_CODE := fRO 0x100000 8 8
def CFG_SLOT := fRO 0x100000 32 1
def CFG_DONE_PIN := fRO 0x100000 33 1
def CFG_A_STALE := fRO 0x100000 34 1
def CFG_OPEN := fRO 0x100000 35 1
def CFG_MODE := (fRO 0x100000 36 3).kept
def CFG_CHAIN_ID := (fRO 0x100000 39 9).kept
/-! CFG_CTL (R125). -/
def CFG_RELOAD_SRC := fRW 0x100008 0 1
/-! CFG_FUSE (R127, R626): the fuses of an open part. -/
def FUSE_MIN_VERSION := (fRO 0x100018 0 32).kept
def FUSE_PK_0_REVOKED := (fRO 0x100018 32 1).kept
def FUSE_PK_1_REVOKED := (fRO 0x100018 33 1).kept
def FUSE_KEK_0_REVOKED := (fRO 0x100018 34 1).kept
def FUSE_ENC_REQUIRED := (fRO 0x100018 35 1).kept
/-! CFG_SCRUB registers (R128 to R130). -/
def SCRUB_EN := fLK 0x100100 0 1 1
def SCRUB_PACE := fLK 0x100100 4 4
def SCRUB_CORR_NE := fRO 0x100108 0 32
def SCRUB_CORR_E := fRO 0x100108 32 16
def SCRUB_UNCORR := fRO 0x100108 48 16
def SCRUB_LAST_KIND := fRO 0x100110 8 2
def SCRUB_LAST_ESS := fRO 0x100110 10 1
def SCRUB_LAST_BIT := fRO 0x100110 11 6
def SCRUB_LAST_WORD := fRO 0x100110 17 5
def SCRUB_LAST_FRAME := fRO 0x100110 22 13
def SCRUB_LAST_REGION := fRO 0x100110 35 5
/-! CFG_KEY_CTL, CFG_KEY_IN_n (R131). -/
def KEY_KEK_1_VALID := (fRO 0x100200 8 1).kept
def KEY_IN := (fWO 0x100208 0 64).arr 4 8

/-! KEEP_WP, KEEP_STAT (R154, R155). The words and wear counters live in the Keep bank. -/
def KEEP_WP := fLK 0x410000 0 64
def KEEP_CE := fRO 0x410008 0 16
def KEEP_UE := fW1C 0x410008 32 1
def KEEP_WORN_ANY := (fRO 0x410008 33 1).kept

/-! EMB registers (R156, R157). -/
def EMB_CLEARING := fRO 0x300000 40 1
def EMB_LOST := fRO 0x300018 0 32
def EMB_RD_IDX := fRW 0x300010 0 17
def EMB_RD_DATA := (fRO 0x300040 0 64).arr 8 8
def EMB_USER := (fRW 0x300080 0 64).arr 4 8
def EMB_CHAL := fRO 0x300100 0 64
def EMB_AUTH := (fWO 0x300140 0 64).arr 12 8

/-! SAF registers (R569). -/
def SAF_S_PENDING := fRO 0x200000 0 1
def SAF_PIN := fRO 0x200000 1 1
def SAF_PIN_MISMATCH := fRO 0x200000 2 1
def SAF_COVERED := fRO 0x200000 3 1
def SAF_ROT_HALT := fRO 0x200000 4 1
def SAF_SELFTEST_OK := fRO 0x200000 5 1
def SAF_FIRST_EVENT := fRO 0x200008 0 16
def SAF_FIRST_TS := fRO 0x200008 16 48
def SAF_FTTI_MS := fRW 0x200018 0 8 10
def SAF_HALT_CE := fRW 0x200018 8 1
def SAF_QUIET_US := fRW 0x200018 12 4 4
def SAF_VEC := fRW 0x200018 16 8
def SAF_LOCK : Fld := { off := 0x200020, lo := 0, w := 1, acc := .w1s }
def WIT_SKIPS := fRO 0x200100 0 16
def WIT_LAST_SKIP := fRO 0x200100 16 7
def WIT_FAILED := fRO 0x200100 24 7 0x7F
def WIT_AGEMAX_AGE := fRO 0x200108 0 32
def WIT_AGEMAX_TILE := fRO 0x200108 32 7
def WICK_OPEN := (fRW 0x201000 0 32).arr 96 0x20
def WICK_CLOSE := (fRW 0x201008 0 32).arr 96 0x20
def WICK_CLASS_F := (fRW 0x201010 3 1).arr 96 0x20
def WICK_STATE := (fRO 0x201018 0 2).arr 96 0x20
def WICK_BIND := (fRO 0x201018 2 1).arr 96 0x20
def WICK_ENGINE := (fRO 0x201018 3 4).arr 96 0x20
def WICK_EARLY := (fRO 0x201018 7 1).arr 96 0x20
def WICK_IGNORED := (fRO 0x201018 16 16).arr 96 0x20
def WICK_KICKS := (fRO 0x201018 32 32).arr 96 0x20

/-! SGD registers (R570). -/
def SGD_MODE := (fRW 0x500000 0 2).arr 32 0x40
def SGD_CLASS_S := (fRW 0x500000 2 1 1).arr 32 0x40
def SGD_SRC_ID := (fRW 0x500000 8 8).arr 32 0x40
def SGD_FROZEN_N := (fRW 0x500000 16 8).arr 32 0x40
def SGD_MAX_GAP := (fRW 0x500000 32 16).arr 32 0x40
def SGD_MAX_AGE := (fRW 0x500000 48 16).arr 32 0x40
def SGD_RING_BASE := (fRW 0x500008 12 36).arr 32 0x40
def SGD_NSLOT := (fRW 0x500010 0 16 1).arr 32 0x40
def SGD_SLOT_LOG2 := (fRW 0x500010 16 5 12).arr 32 0x40
def SGD_VER := (fRW 0x500018 3 45).arr 32 0x40
def SGD_CNT := (fRW 0x500028 0 64).arr 32 0x40
def SGD_FRAMES := (fRO 0x500030 0 32).arr 32 0x40
def SGD_FAULTS := (fRO 0x500030 32 16).arr 32 0x40
def SGD_RUN := (fRO 0x500030 48 8).arr 32 0x40
def SGD_BASELINE := (fRO 0x500030 59 1).arr 32 0x40

/-! MGT registers (R588). -/
def MGT_F_VEC := fRW 0x600000 0 8
def MGT_WIN_BASE := fRW 0x600008 30 18
def MGT_CSR_EN := fLK 0x600010 0 1 1
def MGT_UART_DROP := fRO 0x600018 16 16
def MGT_WR_DROP := fRO 0x600028 0 16
def MGT_INT_STAT := (fW1C 0x600040 0 64).arr 4 8
def MGT_INT_EN := (fRW 0x600060 0 64).arr 4 8
def MGT_TEMP := (fRO 0x600100 0 16).arr 32 8
def MGT_TEMP_MAX := fRO 0x600200 0 16
def MGT_TEMP_SENSOR := fRO 0x600200 16 5
def MGT_PWR := fRO 0x600208 0 16
def MGT_VCORE := fRO 0x600208 16 16
def MGT_ENERGY := fRO 0x600210 0 64
def PRB_SEL_SRC := (fRW 0x601000 0 4).arr 16 8
def PRB_SEL_INSTANCE := (fRW 0x601000 8 15).arr 16 8
def PRB_SEL_SIGNAL := (fRW 0x601000 24 8).arr 16 8
def PRB_SEL_ANY := (fRW 0x601000 32 1).arr 16 8
def PRB_SEL_INVERT := (fRW 0x601000 33 1).arr 16 8
def PRB_SEL_EN := (fRW 0x601000 34 1).arr 16 8
def PRB_PIN_EN := fRW 0x601100 0 1
def PRB_DIV := fRW 0x601100 8 8 1
def PRB_CAP_BASE := fRW 0x601108 12 36
def PRB_CAP_EN := fRW 0x601110 0 1
def PRB_CAP_STOP := fRW 0x601110 1 1
def PRB_CAP_SIZE := fRW 0x601110 8 6 16
def PRB_TRIG_MASK := fRW 0x601118 0 16
def PRB_TRIG_VALUE := fRW 0x601118 16 16
def PRB_TRIG_POST := fRW 0x601118 32 32
def PRB_HEAD := fRO 0x601120 0 29
def PRB_TRIGGERED := fRO 0x601120 32 1
def PRB_STOPPED := fRO 0x601120 33 1
def PRB_LOST := fRO 0x601120 48 16
def PRB_TRIG_AT := fRO 0x601128 0 64

/-- The fields of these blocks. -/
def mgmtTable : List Fld := [
  ID_PART, ID_STEP, ID_GRADE, DIE_PD_UP, DIE_HBM_OK, DIE_CEL_OK, DIE_HBM_CTL_OK, MAP_HBM_IL, SPARE_SPARE, SPARE_HO, SPARE_OUT,
  SPARE_EPOCH, CLK_ROOT_LOCK, CLK_MON_OK, CLK_TS_SLEW, CLK_TSTEP, CLK_PWR_LIMITED, FCLK_DIV_0, FCLK_DIV_1, FCLK_DIV_2,
  FCLK_DIV_3, TSC_RATE, TSC_PPS_OUT, TSC_OFFSET, TS_PPS, CAUSE_POR, CAUSE_SYS_PIN, CAUSE_SYS_SW, CAUSE_RELOAD, CAUSE_PFAIL,
  CAUSE_THERM_TRIP, CAUSE_RAIL_ORDER, CAUSE_ROOT_LOSS, CAUSE_ENG, CAUSE_TILE, CAUSE_PORT, SAFESIDE, LOOP_TSTEP_C, LOOP_CAP_W,
  LOOP_VFLOOR_MV, LOOP_HBM_REF2X, NANF_VALID, NANF_FINAL, NANF_PTILE, NANF_LTILE, NAN_TS, REP_ROLE, REP_RING, REP_COMPARE,
  REP_AT, REP_LEN, REP_STATE, REP_REASON, REP_DIVERGED, REP_INCOMPLETE, REP_HOST_REFUSED, REP_RT, REP_T0, REP_EVT,
  LED_BUSY, LED_DONE, LED_SKIPPED, LED_CHECKED, LED_COUNT, LED_KIND, LED_IDENT, RAIL_GOOD, RAIL_OUT]
  ++ [CFG_STATE, CFG_FAIL_CODE, CFG_SLOT, CFG_DONE_PIN, CFG_A_STALE, CFG_OPEN, CFG_MODE, CFG_CHAIN_ID, CFG_RELOAD_SRC,
  FUSE_MIN_VERSION, FUSE_PK_0_REVOKED, FUSE_PK_1_REVOKED, FUSE_KEK_0_REVOKED, FUSE_ENC_REQUIRED, SCRUB_EN, SCRUB_PACE,
  SCRUB_CORR_NE, SCRUB_CORR_E, SCRUB_UNCORR, SCRUB_LAST_KIND, SCRUB_LAST_ESS, SCRUB_LAST_BIT, SCRUB_LAST_WORD,
  SCRUB_LAST_FRAME, SCRUB_LAST_REGION, KEY_KEK_1_VALID, KEY_IN, KEEP_WP, KEEP_CE, KEEP_UE, KEEP_WORN_ANY, EMB_CLEARING, EMB_LOST,
  EMB_RD_IDX, EMB_RD_DATA, EMB_USER, EMB_CHAL, EMB_AUTH]
  ++ [SAF_S_PENDING, SAF_PIN, SAF_PIN_MISMATCH, SAF_COVERED, SAF_ROT_HALT, SAF_SELFTEST_OK, SAF_FIRST_EVENT, SAF_FIRST_TS,
  SAF_FTTI_MS, SAF_HALT_CE, SAF_QUIET_US, SAF_VEC, SAF_LOCK, WIT_SKIPS, WIT_LAST_SKIP, WIT_FAILED, WIT_AGEMAX_AGE,
  WIT_AGEMAX_TILE, WICK_OPEN, WICK_CLOSE, WICK_CLASS_F, WICK_STATE, WICK_BIND, WICK_ENGINE, WICK_EARLY,
  WICK_IGNORED, WICK_KICKS, SGD_MODE, SGD_CLASS_S, SGD_SRC_ID, SGD_FROZEN_N, SGD_MAX_GAP, SGD_MAX_AGE, SGD_RING_BASE, SGD_NSLOT,
  SGD_SLOT_LOG2, SGD_VER, SGD_CNT, SGD_FRAMES, SGD_FAULTS, SGD_RUN, SGD_BASELINE]
  ++ [MGT_F_VEC, MGT_WIN_BASE, MGT_CSR_EN, MGT_UART_DROP, MGT_WR_DROP, MGT_INT_STAT, MGT_INT_EN, MGT_TEMP, MGT_TEMP_MAX,
  MGT_TEMP_SENSOR, MGT_PWR, MGT_VCORE, MGT_ENERGY, PRB_SEL_SRC, PRB_SEL_INSTANCE, PRB_SEL_SIGNAL, PRB_SEL_ANY, PRB_SEL_INVERT,
  PRB_SEL_EN, PRB_PIN_EN, PRB_DIV, PRB_CAP_BASE, PRB_CAP_EN, PRB_CAP_STOP, PRB_CAP_SIZE, PRB_TRIG_MASK, PRB_TRIG_VALUE,
  PRB_TRIG_POST, PRB_HEAD, PRB_TRIGGERED, PRB_STOPPED, PRB_LOST, PRB_TRIG_AT]

end Sys2Proof.Machine.Reg
end

