-- ==== Sys2Proof/Machine/RegsFabric.lean ====
section
/-! DEFINITION. The register tables of the FAB and exchange registers (chapters 05 and 07). -/

namespace Sys2Proof.Machine.Reg
open Sys2Proof.Machine

/-! QC registers of block b (R184 to R188). -/
def QC_MODE := (fRO 0x9000000 0 3).arr 6144 0x800
def QC_WIDTH := (fRO 0x9000000 4 3).arr 6144 0x800
def QC_DUAL := (fRO 0x9000000 8 1).arr 6144 0x800
def QC_EXPORT := (fRO 0x9000000 9 1).arr 6144 0x800
def QC_DEVSIDE := (fRO 0x9000000 10 2).arr 6144 0x800
def QC_LIMIT := (fRO 0x9000000 16 15).arr 6144 0x800
def QC_AE_LEVEL := (fRO 0x9000000 32 15).arr 6144 0x800
def QC_AF_LEVEL := (fRO 0x9000000 48 15).arr 6144 0x800
def QC_OVERFLOW := (fW1C 0x9000008 20 1).arr 6144 0x800
def QC_UNDERFLOW := (fW1C 0x9000008 21 1).arr 6144 0x800
def QC_CREDIT_VIOL := (fW1C 0x9000008 22 1).arr 6144 0x800
def QC_WCOLL := (fW1C 0x9000008 23 1).arr 6144 0x800
def QC_POST := (fRO 0x9000010 0 15).arr 6144 0x800
def QC_CE := (fRO 0x9000018 0 16).arr 6144 0x800
def QC_UE := (fRO 0x9000018 16 16).arr 6144 0x800
/-! RG registers of region r (R189, R190). -/
def RG_CSR_EN := (fRO 0x9E00000 0 1).arr 32 0x1000
def RG_QWAIT := (fRO 0x9E00000 8 8).arr 32 0x1000
def RG_IWAIT := (fRO 0x9E00000 16 16).arr 32 0x1000
def RG_LATE_DROP := (fRO 0x9E00008 32 16).arr 32 0x1000
/-! Exchange registers (R227). -/
def EXCH_SRC := fRW 0x100300 8 40
def EXCH_AT := fRW 0x100308 0 64
def EXCH_CTL_REGION := fRW 0x100310 0 5
def EXCH_PRECHECK := fRW 0x100310 8 1
def EXCH_DRAIN_US := fRW 0x100310 16 10 100
def EXCH_STATE := fRO 0x100318 0 4
def EXCH_REGION := fRO 0x100318 4 5
def EXCH_FAIL_CODE := fRO 0x100318 16 8
def EXCH_BLANK := fRO 0x100318 32 32
/-! Handover cells of region r (R228). -/
def HX_CNT := ((fRO 0x9C00000 0 48).arr 32 0x10000).arr2 16 8
def HX_CMP := ((fRO 0x9C00080 0 48).arr 32 0x10000).arr2 16 8
def HX_PRE := ((fRO 0x9C00080 48 8).arr 32 0x10000).arr2 16 8
def HX_SRC := ((fRO 0x9C00080 56 1).arr 32 0x10000).arr2 16 8
def HX_PERIODIC := ((fRO 0x9C00080 57 1).arr 32 0x10000).arr2 16 8
def HX_MISSED := ((fRO 0x9C00100 0 8).arr 32 0x10000).arr2 16 8
def HX_MATCH_PEND := ((fRO 0x9C00100 8 1).arr 32 0x10000).arr2 16 8
def HX_EDGE_TS := ((fRO 0x9C00200 0 48).arr 32 0x10000).arr2 32 8
def HX_OVR_CNT := ((fRO 0x9C00300 0 16).arr 32 0x10000).arr2 32 8
def HX_PEND := ((fRO 0x9C00300 16 1).arr 32 0x10000).arr2 32 8
def HX_OVERRUN := ((fRO 0x9C00300 17 1).arr 32 0x10000).arr2 32 8
def HX_SENSE := ((fRO 0x9C00300 18 2).arr 32 0x10000).arr2 32 8
def HX_HO_PEND := ((fRO 0x9C00400 0 1).arr 32 0x10000).arr2 4 8
def HX_HO_ORDER := ((fRO 0x9C00400 1 1).arr 32 0x10000).arr2 4 8

/-- The fields of these blocks. -/
def fabricTable : List Fld := [
  QC_MODE, QC_WIDTH, QC_DUAL, QC_EXPORT, QC_DEVSIDE, QC_LIMIT, QC_AE_LEVEL, QC_AF_LEVEL, QC_OVERFLOW, QC_UNDERFLOW,
  QC_CREDIT_VIOL, QC_WCOLL, QC_POST, QC_CE, QC_UE, RG_CSR_EN, RG_QWAIT, RG_IWAIT, RG_LATE_DROP, EXCH_SRC, EXCH_AT,
  EXCH_CTL_REGION, EXCH_PRECHECK, EXCH_DRAIN_US, EXCH_STATE, EXCH_REGION, EXCH_FAIL_CODE, EXCH_BLANK, HX_CNT, HX_CMP, HX_PRE,
  HX_SRC, HX_PERIODIC, HX_MISSED, HX_MATCH_PEND, HX_EDGE_TS, HX_OVR_CNT, HX_PEND, HX_OVERRUN, HX_SENSE, HX_HO_PEND, HX_HO_ORDER]

end Sys2Proof.Machine.Reg
end

