-- ==== Sys2Proof/Machine/RegsMemory.lean ====
section
/-! DEFINITION. The register tables of the ANN, CEL and HBM blocks and of a tile's SRAM (chapters 08 to 10). -/

namespace Sys2Proof.Machine.Reg
open Sys2Proof.Machine

/-! ANN registers (R263 to R268). -/
def ANN_SEG_FAIL := fRO 0x3000008 0 1
def ANN_SEQ_FAULT := fW1C 0x3000008 1 1
def ANN_RETURNED := fW1C 0x3000008 2 1
def ANN_LOCK_BROKEN_CNT := fRO 0x3000010 0 32
def ANN_CRED_SRC := fRW 0x3000018 0 7
def ANN_CRED_DST := fRW 0x3000018 8 7
def ANN_CRED_CLASS := fRW 0x3000018 16 2
def ANN_SPL_RESULT := fRO 0x3000030 0 3
def ANN_SPL_DONE := fRO 0x3000030 3 1
def ANN_SPL_LOCK := fRO 0x3000030 8 8
def RING_RETRY := (fRO 0x3000100 0 32).arr 10 8
def RING_FAIL_SEG := (fRO 0x3000100 32 7).arr 10 8
def RING_FAILED := (fRO 0x3000100 39 1).arr 10 8
def STOP_KEEP_CNT := (fRO 0x3001000 0 16).arr 118 8
def STOP_ORPHAN := (fRO 0x3001000 16 16).arr 118 8
def STOP_CE := (fRO 0x3001000 32 16).arr 118 8
/-! TIL_SRAM registers (R297), physical tile. CACHE_Q is one value for all tiles (R274), held at tile 0. -/
def TIL_CACHE_Q := (fLK 0x1000100 0 3).arr 65 0x10000
def TIL_CONFLICT := (fRO 0x1000108 0 32).arr 65 0x10000
def TIL_SRAM_CE := (fRO 0x1000108 32 16).arr 65 0x10000
def TIL_SRAM_UE := (fRO 0x1000108 48 16).arr 65 0x10000
def TC_HIT := (fRO 0x1000110 0 32).arr 65 0x10000
def TC_MISS := (fRO 0x1000110 32 32).arr 65 0x10000
/-! CEL registers of slice s (R296); CEL_ARB_CFG and CEL_REPEAT_CNT follow with chapter 15. -/
def CEL_MODE := (fLK 0x4000000 0 1).arr 16 0x10000
def CEL_HOST_EN := (fLK 0x4000000 1 1).arr 16 0x10000
def CEL_HITS := (fRO 0x4000010 0 48).arr 16 0x10000
def CEL_MISSES := (fRO 0x4000018 0 48).arr 16 0x10000
def CEL_FLUSH_BASE := (fRW 0x4000020 8 40).arr 16 0x10000
def CEL_FLUSH_LEN := (fRW 0x4000028 8 40).arr 16 0x10000
def CEL_BUSY := (fRO 0x4000038 0 1).arr 16 0x10000
def CEL_DONE := (fW1C 0x4000038 1 1).arr 16 0x10000
def CEL_WB_SECT := (fRO 0x4000038 16 32).arr 16 0x10000
def CEL_DISC := (fRO 0x4000038 48 16).arr 16 0x10000
def CEL_CE := (fRO 0x4000040 0 16).arr 16 0x10000
def CEL_REFETCH := (fRO 0x4000040 16 16).arr 16 0x10000
def CEL_UE := (fRO 0x4000040 32 16).arr 16 0x10000
def CEL_SNOOPS := (fRO 0x4000048 0 32).arr 16 0x10000
def CEL_BACKINV := (fRO 0x4000048 32 32).arr 16 0x10000
/-! HBM registers of controller h (R319). -/
def HBM_PAGE := (fRW 0x5000000 0 1).arr 16 0x10000
def HBM_PAGE_TO := (fRW 0x5000000 8 8 64).arr 16 0x10000
def HBM_AGE_MAX := (fRW 0x5000000 16 16 2000).arr 16 0x10000
def HBM_ARB_MODE := ((fRW 0x5000008 0 2).arr 16 0x10000).only 0 1
def HBM_FLOOR_RD := (fRW 0x5000008 8 7 16).arr 16 0x10000
def HBM_FLOOR_WR := (fRW 0x5000008 16 7 16).arr 16 0x10000
def HBM_FLOOR_RM := (fRW 0x5000008 24 7 8).arr 16 0x10000
def HBM_SPLIT_RD := (fRW 0x5000008 32 7 32).arr 16 0x10000
def HBM_SPLIT_WR := (fRW 0x5000008 40 7 24).arr 16 0x10000
def HBM_SPLIT_RM := (fRW 0x5000008 48 7 8).arr 16 0x10000
def HBM_STRICT := (fRW 0x5000008 56 1).arr 16 0x10000
def HBM_MIN_RATE := (fRW 0x5000010 0 2).arr 16 0x10000
def HBM_RATE := (fRO 0x5000010 8 2).arr 16 0x10000
def HBM_TEMP := (fRO 0x5000018 0 8).arr 16 0x10000
def HBM_TEMP_MAX := (fRO 0x5000018 8 8).arr 16 0x10000
def HBM_TEMP_VALID := (fRO 0x5000018 16 1).arr 16 0x10000
def HBM_CE := (fRO 0x5000020 0 16).arr 16 0x10000
def HBM_UE := (fRO 0x5000020 16 16).arr 16 0x10000
def HBM_STACK_CE := (fRO 0x5000020 32 16).arr 16 0x10000
def HBM_POISON_RD := (fRO 0x5000020 48 16).arr 16 0x10000
def HBM_REPLAY := (fRO 0x5000028 0 32).arr 16 0x10000
def HBM_FAULT := (fRO 0x5000028 48 1).arr 16 0x10000
def HBM_DQ_SPARES := (fRO 0x5000038 0 16).arr 16 0x10000
def HBM_CA_SPARES := (fRO 0x5000038 16 4).arr 16 0x10000
def HBM_SCRUB_PERIOD := (fRW 0x5000040 0 32 3200).arr 16 0x10000
def HBM_PASSES := (fRO 0x5000040 32 32).arr 16 0x10000
/-! CEL_ARB_CFG and CEL_REPEAT_CNT of slice s (R452). -/
def CEL_ARB_MODE := ((fRW 0x4000050 0 2).arr 16 0x10000).only 0 1
def CEL_FLOOR_RD := (fRW 0x4000050 8 7 16).arr 16 0x10000
def CEL_FLOOR_WR := (fRW 0x4000050 16 7 16).arr 16 0x10000
def CEL_FLOOR_RM := (fRW 0x4000050 24 7 8).arr 16 0x10000
def CEL_SPLIT_RD := (fRW 0x4000050 32 7 32).arr 16 0x10000
def CEL_SPLIT_WR := (fRW 0x4000050 40 7 24).arr 16 0x10000
def CEL_SPLIT_RM := (fRW 0x4000050 48 7 8).arr 16 0x10000
def CEL_STRICT := (fRW 0x4000050 56 1).arr 16 0x10000
def CEL_REPEATS := (fRO 0x4000058 0 48).arr 16 0x10000

/-- The fields of these blocks. -/
def memoryTable : List Fld := [
  ANN_SEG_FAIL, ANN_SEQ_FAULT, ANN_RETURNED, ANN_LOCK_BROKEN_CNT, ANN_CRED_SRC, ANN_CRED_DST, ANN_CRED_CLASS, ANN_SPL_RESULT,
  ANN_SPL_DONE, ANN_SPL_LOCK, RING_RETRY, RING_FAIL_SEG, RING_FAILED, STOP_KEEP_CNT, STOP_ORPHAN, STOP_CE, TIL_CACHE_Q,
  TIL_CONFLICT, TIL_SRAM_CE, TIL_SRAM_UE, TC_HIT, TC_MISS, CEL_MODE, CEL_HOST_EN, CEL_HITS, CEL_MISSES, CEL_FLUSH_BASE,
  CEL_FLUSH_LEN, CEL_BUSY, CEL_DONE, CEL_WB_SECT, CEL_DISC, CEL_CE, CEL_REFETCH, CEL_UE, CEL_SNOOPS, CEL_BACKINV]
  ++ [HBM_PAGE, HBM_PAGE_TO, HBM_AGE_MAX, HBM_ARB_MODE, HBM_FLOOR_RD, HBM_FLOOR_WR, HBM_FLOOR_RM, HBM_SPLIT_RD, HBM_SPLIT_WR,
  HBM_SPLIT_RM, HBM_STRICT, HBM_MIN_RATE, HBM_RATE, HBM_TEMP, HBM_TEMP_MAX, HBM_TEMP_VALID, HBM_CE, HBM_UE, HBM_STACK_CE,
  HBM_POISON_RD, HBM_REPLAY, HBM_FAULT, HBM_DQ_SPARES, HBM_CA_SPARES, HBM_SCRUB_PERIOD, HBM_PASSES, CEL_ARB_MODE, CEL_FLOOR_RD,
  CEL_FLOOR_WR, CEL_FLOOR_RM, CEL_SPLIT_RD, CEL_SPLIT_WR, CEL_SPLIT_RM, CEL_STRICT, CEL_REPEATS]

end Sys2Proof.Machine.Reg
end

