-- ==== Sys2Proof/Machine/RegsPort.lean ====
section
/-! DEFINITION. The register tables of the PRT and CPL blocks (chapters 17, 18 and 21). -/

namespace Sys2Proof.Machine.Reg
open Sys2Proof.Machine

/-- A PRT field of port die d at an offset of its block (R492). -/
def prt (f : Fld) : Fld := { f with off := f.off + 0x7000000, n1 := 4, s1 := 0x100000 }
/-- A second index. -/
def prtN (f : Fld) (n s : Nat) : Fld := (prt f).arr2 n s

/-! PRT registers (R492). -/
def LANE_MUX := prtN (fRW 0x100 0 2) 32 8
def LANE_EQ_FREEZE := prtN (fRW 0x100 2 1) 32 8
def LANE_EQ_PRESET := prtN (fRW 0x100 4 4) 32 8
def PC_MODE := prt (fRW 0x10000 0 2)
def PC_BIF := prt (fRW 0x10000 4 2)
def PC_MAXGEN := (prt (fRW 0x10000 8 3 6)).only 1 6
def PC_CXL := prt (fRW 0x10000 12 4)
def PC_PERST_HOLD := prt (fRW 0x10000 16 16 1000)
def BUD_CPL := prt (fRW 0x10008 0 16 640)
def BUD_MEM := prt (fRW 0x10008 16 16 640)
def BUD_FC := prt (fRW 0x10008 32 16 640)
def STANDIN_CPL := prt (fRW 0x10008 48 2 1)
def FILL_WORD := prt (fRW 0x10010 0 64)
def GE_STANDINS := prt (fRO 0x10018 0 16)
def GE_LATE_DROP := prt (fRO 0x10018 16 16)
def GE_UNMATCHED := prt (fRO 0x10018 32 16)
def GE_WR_DROP := prt (fRO 0x10018 48 8)
def GE_SNP_LATE := prt (fRO 0x10018 56 8)
def STEER_TARGET := prtN (fRW 0x10100 0 48) 16 16
def STEER_KIND := (prtN (fRW 0x10100 48 2) 16 16).only 0 2
def STEER_ARRIVE := prtN (fRW 0x10100 50 1) 16 16
def STEER_AC := prtN (fRW 0x10100 56 6) 16 16
def STEER_BAR := prtN (fRW 0x10108 0 3) 16 16
def STEER_FN := prtN (fRW 0x10108 3 9) 16 16
def STEER_BASE := prtN (fRW 0x10108 12 28) 16 16
def STEER_SIZE := prtN (fRW 0x10108 40 24) 16 16
def OUT_BASE := prt (fRW 0x10200 0 64)
def OUT_EN := prt (fRW 0x10208 0 1)
def OUT_FN := prt (fRW 0x10208 1 9)
def OUT_PASID_EN := prt (fRW 0x10208 10 1)
def OUT_PASID := prt (fRW 0x10208 20 20)
def CFGREQ_REG := prt (fRW 0x10300 2 10)
def CFGREQ_BE := prt (fRW 0x10300 12 4 15)
def CFGREQ_FN := prt (fRW 0x10300 16 3)
def CFGREQ_DEV := prt (fRW 0x10300 19 5)
def CFGREQ_BUS := prt (fRW 0x10300 24 8)
def CFGREQ_TYPE1 := prt (fRW 0x10300 32 1)
def CFGREQ_WRITE := prt (fRW 0x10300 33 1)
def CFGREQ_LINK := prt (fRW 0x10300 34 2)
def CFGDATA := prt (fRW 0x10308 0 32)
def CFGSTAT_BUSY := prt (fRO 0x10310 0 1)
def CFGSTAT_STATUS := prt (fRO 0x10310 1 3)
def ETH_REGION := prtN (fRW 0x20000 0 5) 2 8
def EPORT_RATE := (prtN (fRW 0x20100 0 4) 16 8).only 0 8
def EPORT_FIRST := prtN (fRW 0x20100 4 4) 16 8
def EPORT_LANES := prtN (fRW 0x20100 8 4 1) 16 8
def EPORT_FEC := prtN (fRW 0x20100 12 1) 16 8
def EPORT_FRAMES := prtN (fRO 0x20200 0 32) 16 8
def EPORT_OVERSIZE := prtN (fRO 0x20200 32 16) 16 8
def EPORT_FEC_UNC := prtN (fRO 0x20200 48 16) 16 8
def EPORT_TXTS := prtN (fRO 0x20300 0 48) 16 8
def EPORT_TXTAG := prtN (fRO 0x20300 48 16) 16 8
def CAP_BASE := prtN (fRW 0x40000 12 36) 17 32
def CAP_EN := prtN (fRW 0x40008 0 1) 17 32
def CAP_STOP := prtN (fRW 0x40008 1 1) 17 32
def CAP_KINDS := prtN (fRW 0x40008 8 8 0xFF) 17 32
def CAP_SIZE := (prtN (fRW 0x40008 16 6 16) 17 32).only 16 34
def CAP_SNAP := prtN (fRW 0x40008 32 16) 17 32
def CAP_HEAD := prtN (fRO 0x40010 0 34) 17 32
def CAP_TAIL := prtN (fRW 0x40018 0 34) 17 32
def INJ_EN := prt (fRW 0x50000 0 1)
def INJ_FAULT := prtN (fRW 0x50100 0 5) 16 32
def INJ_TRIG := (prtN (fRW 0x50100 8 2) 16 32).only 0 2
def INJ_TARGET := prtN (fRW 0x50100 16 8) 16 32
def INJ_MATCH := prtN (fRW 0x50100 32 16 0xFFFF) 16 32
def INJ_AT := prtN (fRW 0x50108 0 64) 16 32
def INJ_COUNT := prtN (fRW 0x50110 0 32 1) 16 32
def INJ_EVERY := prtN (fRW 0x50110 32 32 1) 16 32
def INJ_ARG := prtN (fRW 0x50118 0 32) 16 32
def RAW_RATE := prtN (fRW 0x60000 0 17) 32 16
def RAW_PAM4 := prtN (fRW 0x60000 17 1) 32 16
def RAW_W128 := prtN (fRW 0x60000 18 1) 32 16
def RAW_PAIR := prtN (fRW 0x60000 19 1) 32 16
def RAW_PORT := prtN (fRW 0x60000 24 3) 32 16
def RAW_REGION := prtN (fRW 0x60000 32 5) 32 16
def RAW_IDLE := prtN (fRW 0x60008 0 64) 32 16
def RAW_UNDERRUN := prtN (fRO 0x60400 0 32) 32 8

/-- Fields whose effect waits for a PORT reset or A_DONE: the mode, and the Ethernet and raw bindings (R472, R492). -/
def prtBound : List Fld := [
  PC_MODE, PC_BIF, PC_MAXGEN, PC_CXL, PC_PERST_HOLD, ETH_REGION, EPORT_RATE, EPORT_FIRST, EPORT_LANES, EPORT_FEC, RAW_RATE, RAW_PAM4,
  RAW_W128, RAW_PAIR, RAW_PORT, RAW_REGION, RAW_IDLE]

/-- The counters of a port die (R492). -/
def prtCounters : List Fld := [
  GE_STANDINS, GE_LATE_DROP, GE_UNMATCHED, GE_WR_DROP, GE_SNP_LATE, EPORT_FRAMES, EPORT_OVERSIZE, EPORT_FEC_UNC, RAW_UNDERRUN]

/-! CPL registers (R521). -/
def CPL_STATE := (fRO 0x8000000 0 3).arr 4 0x10000
def CPL_FAR_ID := (fRO 0x8000000 8 9).arr 4 0x10000
def CPL_WRAP := (fRO 0x8000000 24 1).arr 4 0x10000
def CPL_RETRY := (fRO 0x8000008 0 32).arr 4 0x10000
def CPL_RETRAINS := (fRO 0x8000008 32 16).arr 4 0x10000
def CPL_POOL := (fRW 0x8000010 0 3).arr 4 0x10000
def CPL_TX := (fRO 0x8000020 0 48).arr 4 0x10000
def CPL_SLACK := (fRW 0x8000030 8 8 16).arr 4 0x10000
/-- resets to CFG_ID, which the release of SYS_RST_N stores -/
def COL_ID := fRW 0x8000800 0 9
def COL_NROW_M1 := fRW 0x8000800 16 5
def COL_NCOL_M1 := fRW 0x8000800 24 4
def COL_HOME := fRW 0x8000800 32 9
def COL_EN := fRW 0x8000800 48 1
def CPL_MEMBER := (fRO 0x8000810 0 64).arr 8 8
def CPL_MEPOCH := fRO 0x8000850 0 32
def CPL_TMO := fRW 0x8000858 0 20 10000
def CPL_TIMEOUTS := fRO 0x8000860 0 16
def CPL_LATE := fRO 0x8000860 16 16
def CPL_UNREACH := fRO 0x8000860 32 16

/-- The fields of these blocks. -/
def portTable : List Fld := [
  LANE_MUX, LANE_EQ_FREEZE, LANE_EQ_PRESET, PC_MODE, PC_BIF, PC_MAXGEN, PC_CXL, PC_PERST_HOLD, BUD_CPL, BUD_MEM, BUD_FC,
  STANDIN_CPL, FILL_WORD, GE_STANDINS, GE_LATE_DROP, GE_UNMATCHED, GE_WR_DROP, GE_SNP_LATE, STEER_TARGET, STEER_KIND,
  STEER_ARRIVE, STEER_AC, STEER_BAR, STEER_FN, STEER_BASE, STEER_SIZE, OUT_BASE, OUT_EN, OUT_FN, OUT_PASID_EN, OUT_PASID]
  ++ [CFGREQ_REG, CFGREQ_BE, CFGREQ_FN, CFGREQ_DEV, CFGREQ_BUS, CFGREQ_TYPE1, CFGREQ_WRITE, CFGREQ_LINK, CFGDATA, CFGSTAT_BUSY,
  CFGSTAT_STATUS, ETH_REGION, EPORT_RATE, EPORT_FIRST, EPORT_LANES, EPORT_FEC, EPORT_FRAMES, EPORT_OVERSIZE, EPORT_FEC_UNC,
  EPORT_TXTS, EPORT_TXTAG, CAP_BASE, CAP_EN, CAP_STOP, CAP_KINDS, CAP_SIZE, CAP_SNAP, CAP_HEAD, CAP_TAIL]
  ++ [INJ_EN, INJ_FAULT, INJ_TRIG, INJ_TARGET, INJ_MATCH, INJ_AT, INJ_COUNT, INJ_EVERY, INJ_ARG, RAW_RATE, RAW_PAM4, RAW_W128,
  RAW_PAIR, RAW_PORT, RAW_REGION, RAW_IDLE, RAW_UNDERRUN]
  ++ [CPL_STATE, CPL_FAR_ID, CPL_WRAP, CPL_RETRY, CPL_RETRAINS, CPL_POOL, CPL_TX, CPL_SLACK, COL_ID, COL_NROW_M1, COL_NCOL_M1,
  COL_HOME, COL_EN, CPL_MEMBER, CPL_MEPOCH, CPL_TMO, CPL_TIMEOUTS, CPL_LATE, CPL_UNREACH]

end Sys2Proof.Machine.Reg
end

