-- ==== Sys2Proof/Machine/RegsTile.lean ====
section
/-! DEFINITION. The register tables of the TIL and CE blocks (chapters 11 to 16). The fields of `tileLogical` belong to the logical
tile a physical tile hosts (R7): instance i is the logical tile, and 64 the spare. -/

namespace Sys2Proof.Machine.Reg
open Sys2Proof.Machine

/-! Matrix array (R342), physical tile. -/
def MX_GILL := (fRO 0x1000200 0 3).arr 65 0x10000
def MX_CLASS := (fRO 0x1000200 4 3).arr 65 0x10000
def MX_BUSY := (fRO 0x1000200 8 1).arr 65 0x10000
def MX_RES_EN := (fLK 0x1000208 0 1 1).arr 65 0x10000
def MX_IOVF := (fRO 0x1000210 0 32).arr 65 0x10000
def MX_RES_ERR := (fRO 0x1000210 32 16).arr 65 0x10000
def MX_ACC_CE := (fRO 0x1000210 48 16).arr 65 0x10000
def MX_ROWS := (fRO 0x1000218 0 64).arr 65 0x10000
def MX_STALL := (fRO 0x1000220 0 64).arr 65 0x10000
/-! Conversions (R362): counters by physical tile, scale channels by logical tile. -/
def CVT_SAT := (fRO 0x1000280 0 32).arr 65 0x10000
def CVT_NAN_IN := (fRO 0x1000280 32 32).arr 65 0x10000
def SCALE_CUR := ((fRW 0x1000300 0 7).arr 65 0x10000).arr2 16 8
def SCALE_SUGGEST := ((fRO 0x1000300 8 7).arr 65 0x10000).arr2 16 8
def SCALE_HEADROOM := ((fRW 0x1000300 16 2 1).arr 65 0x10000).arr2 16 8
def SCALE_AUTO_EN := ((fRW 0x1000300 24 1).arr 65 0x10000).arr2 16 8
def SCALE_PIN := ((fRW 0x1000300 25 1).arr 65 0x10000).arr2 16 8
def SCALE_FLUSHWIDE := ((fRW 0x1000300 26 1).arr 65 0x10000).arr2 16 8
def SCALE_RMAX := ((fRO 0x1000300 32 32).arr 65 0x10000).arr2 16 8
/-! NaN capture (R363). -/
def NAN_CAP_0 := (fRO 0x1000400 0 64).arr 65 0x10000
def NAN_CAP_TS := (fRO 0x1000408 0 64).arr 65 0x10000
def NAN_CAP_WHERE := (fRO 0x1000410 0 64).arr 65 0x10000
def NAN_CAP_OPERANDS := (fRO 0x1000418 0 64).arr 65 0x10000
/-! Vector engine (R389): AC_FAULT, CPY_STAT, VX_STAT. The group and counter registers are read from the groups themselves. -/
def AC_FAULT := (fW1C 0x1000E00 0 64).arr 65 0x10000
def CPY_FAIL := (fRO 0x1000E08 16 16).arr 65 0x10000
def CPY_CANCELLED := (fRO 0x1000E08 32 16).arr 65 0x10000
def VX_REG_CE := (fRO 0x1000E10 0 16).arr 65 0x10000
/-! Lamplighter (R451). -/
def LL_EN := (fRW 0x1000180 0 1 1).arr 65 0x10000
def LL_DEPTH := (fRW 0x1000180 8 6 32).arr 65 0x10000
def LL_MARGIN := (fRW 0x1000180 16 8 2).arr 65 0x10000
def LL_COPY_SLACK := (fRW 0x1000180 32 8 16).arr 65 0x10000
def LL_STALE := (fRO 0x1000188 32 16).arr 65 0x10000
def LL_FAULTS := (fRO 0x1000188 48 16).arr 65 0x10000
def LL_BYTES := (fRO 0x1000190 0 48).arr 65 0x10000
def LL_WAIT := (fRO 0x1000198 0 64).arr 65 0x10000
def LL_FAULT_ADDR := (fRO 0x10001A0 0 48).arr 65 0x10000
def LL_FAULT_STATUS := (fRO 0x10001A0 48 4).arr 65 0x10000
/-! Event mode (R466). -/
def EV_SPORES := (fRO 0x1000F00 0 32).arr 65 0x10000
def EV_RECS := (fRO 0x1000F00 32 32).arr 65 0x10000
def EV_OVF := (fRO 0x1000F08 0 16).arr 65 0x10000
def EV_RANGE := (fRO 0x1000F08 16 16).arr 65 0x10000
def EV_ROUTE := (fRO 0x1000F08 32 16).arr 65 0x10000
def EV_ENTRY := (fRO 0x1000F08 48 16).arr 65 0x10000
def EV_T := (fRO 0x1000F10 0 64).arr 65 0x10000
/-! Command engines (R424, R425). -/
def CE_ON_ERR := (fRW 0x2000000 0 1).arr 16 0x10000
def CE_PREEMPT := (fRW 0x2000000 1 1 1).arr 16 0x10000
def CE_HALT_VEC := (fRW 0x2000000 8 8).arr 16 0x10000
def CE_CMD_VEC := (fRW 0x2000000 16 8).arr 16 0x10000
def CE_STATE := (fRO 0x2000008 0 2).arr 16 0x10000
def CE_SUSPENDED := (fRO 0x2000008 2 1).arr 16 0x10000
def CE_QUEUE := (fRO 0x2000008 4 2).arr 16 0x10000
def CE_NEXT_SEQ := (fRO 0x2000008 24 24).arr 16 0x10000
def CE_FLUSH := (fLK 0x2000010 0 64).arr 16 0x10000
def CE_ERR_SEQ := (fRO 0x2000020 0 24).arr 16 0x10000
def CE_ERR_CODE := (fRO 0x2000020 24 8).arr 16 0x10000
def CE_ERR_USER := (fRO 0x2000020 32 32).arr 16 0x10000
def CE_CNT_DONE := (fRO 0x2000028 0 32).arr 16 0x10000
def CE_CNT_ORPHAN := (fRO 0x2000028 32 16).arr 16 0x10000
def CE_CNT_SWAPS := (fRO 0x2000028 48 16).arr 16 0x10000
def CE_SWAP_ADDR := (fRW 0x2000040 6 42).arr 16 0x10000
def CE_SWAP_COMPL := (fRW 0x2000048 5 43).arr 16 0x10000
def CE_SWAP_AT := (fRW 0x2000050 0 64).arr 16 0x10000
def CE_SWAP_PENDING := (fRO 0x2000058 1 1).arr 16 0x10000
def CE_QBASE := ((fRW 0x2000100 5 43).arr 16 0x10000).arr2 4 0x20
def CE_QSIZE := ((fRW 0x2000108 0 13).arr 16 0x10000).arr2 4 0x20
def CE_QTAIL := ((fRW 0x2000110 0 12).arr 16 0x10000).arr2 4 0x20
def CE_QHEAD := ((fRO 0x2000118 0 12).arr 16 0x10000).arr2 4 0x20

/-- The fields that belong to the logical tile (R7). -/
def tileLogical : List Fld := [
  SCALE_CUR, SCALE_SUGGEST, SCALE_HEADROOM, SCALE_AUTO_EN, SCALE_PIN, SCALE_FLUSHWIDE, SCALE_RMAX, NAN_CAP_0, NAN_CAP_TS,
  NAN_CAP_WHERE, NAN_CAP_OPERANDS, AC_FAULT, CPY_FAIL, CPY_CANCELLED, VX_REG_CE, LL_EN, LL_DEPTH, LL_MARGIN, LL_COPY_SLACK,
  LL_STALE, LL_FAULTS, LL_BYTES, LL_WAIT, LL_FAULT_ADDR, LL_FAULT_STATUS, EV_SPORES, EV_RECS, EV_OVF, EV_RANGE, EV_ROUTE,
  EV_ENTRY, EV_T]

/-- The fields of these blocks. -/
def tileTable : List Fld := tileLogical ++ [
  MX_GILL, MX_CLASS, MX_BUSY, MX_RES_EN, MX_IOVF, MX_RES_ERR, MX_ACC_CE, MX_ROWS, MX_STALL, CVT_SAT, CVT_NAN_IN]
  ++ [CE_ON_ERR, CE_PREEMPT, CE_HALT_VEC, CE_CMD_VEC, CE_STATE, CE_SUSPENDED, CE_QUEUE, CE_NEXT_SEQ, CE_FLUSH, CE_ERR_SEQ,
  CE_ERR_CODE, CE_ERR_USER, CE_CNT_DONE, CE_CNT_ORPHAN, CE_CNT_SWAPS, CE_SWAP_ADDR, CE_SWAP_COMPL, CE_SWAP_AT, CE_SWAP_PENDING,
  CE_QBASE, CE_QSIZE, CE_QTAIL, CE_QHEAD]

end Sys2Proof.Machine.Reg
end

