-- ==== Sys2Proof/Machine/State.lean ====
section
/-! DEFINITION. The state of the EQ64 as plain data: every register, memory, queue, mode and pin the manual gives the block, and the
queue of commands that wait. Tables are lists of (key, value) in the canonical form of `Sparse.wf`: an unlisted key holds
the table's default, 0 or empty unless a docstring says otherwise. -/

namespace Sys2Proof.Machine

/-- How a command can stop the machine. No command does: an access to an address that does not exist is answered with the
status the manual names, so this type has no constructor. -/
inductive Fault where
  deriving DecidableEq, Repr

/-- Why a command has no meaning. -/
inductive Refusal where
  /-- raised by an arm of the dispatch whose command has no meaning yet; safe -/
  | notModelled (mnemonic : String)
  deriving DecidableEq, Repr

/-- The classes of Ember entries (R140): information, detected, unit fault, safety fault. -/
inductive Cls where
  | I | D | F | S
  deriving DecidableEq, Repr

/-- One DETAIL field of an entry (R624): its bytes, its value, and whether it identifies the source. -/
structure DF where
  w   : Nat
  v   : Nat
  src : Bool
  deriving DecidableEq, Repr

/-- An entry in the Ember commit queue (R140, R145). -/
structure EmbEnt where
  ts     : Nat := 0
  event  : Nat := 0
  cls    : Cls := .I
  inst   : Nat := 0
  opened : Bool := false
  preTs  : Bool := false
  merged : Bool := false
  replay : Bool := false
  count  : Nat := 1
  /-- raised while the pinned area was being cleared (R151) -/
  noPin  : Bool := false
  detail : List DF := []
  deriving DecidableEq, Repr

/-- How a configuration pin is used (R114). -/
inductive CfgDrive where
  | input
  /-- driven with the flash's clock, select or data -/
  | flash
  | low
  | high
  | highZ
  /-- driven with forwarded packets, all ones between them (R115) -/
  | forward
  deriving DecidableEq, Repr

/-- The configuration pins: CFG_CLK, CFG_CS_N, CFG_D[3:0], CFG_D[7:4], CFG_DOUT_CLK with CFG_DOUT[3:0] (R114). -/
structure CfgPins where
  clk   : CfgDrive := .low
  csN   : CfgDrive := .high
  dLow  : CfgDrive := .highZ
  dHigh : CfgDrive := .highZ
  dout  : CfgDrive := .low
  deriving DecidableEq, Repr

/-- FLASH_MODE: how the boot ROM drives the flash (R94). The default is how it reads the first 1 KiB: 0x03, 3-byte addressing, x1 SDR,
50 MHz. -/
structure FlashMode where
  width     : Nat := 1
  ddr       : Nat := 0
  freqMHz   : Nat := 50
  addrBytes : Nat := 3
  opcode    : Nat := 0x03
  dummy     : Nat := 0
  /-- the SETUP commands: opcode and data -/
  setup     : List (Nat × List Byte) := []
  deriving DecidableEq, Repr

/-- What leaves the device during one command: answers on its paths, messages, pin events. -/
inductive Out where
  /-- the value a register read returned -/
  | csrVal (v : Nat)
  /-- a CSR access refused (R530, R580): Unsupported Request, NACK or zeros -/
  | csrRefused
  /-- a CSR access held until its block leaves reset (R63) -/
  | csrHeld
  /-- a write completed on its path -/
  | wrDone
  /-- a write answered with an error completion (R139) -/
  | wrError
  /-- the answer to a request: requester ID, tag, status of R182, data -/
  | resp (rid tag status : Nat) (data : List Byte)
  /-- an MSI-X message (R574) -/
  | msix (vec : Nat)
  /-- bytes returned on SMBus, or a NACK -/
  | smb (bytes : List Byte)
  | smbNack
  /-- a data register the TAP loads at Capture-DR (R578, R580) -/
  | tap (v : Nat)
  /-- a line on UART_TX (R582) -/
  | uart (line : List Byte)
  /-- a pulse on a pin or a strobe, by a name of its own -/
  | pulse (name : String) (n : Nat)
  /-- bytes leaving on a link, by kind and unit -/
  | link (kind : String) (unit : Nat) (args : List Nat) (bytes : List Byte)
  /-- the configuration pins as CFG_MODE sets them (R114) -/
  | cfgPins (p : CfgPins)
  /-- a command on the configuration flash: the interface it is sent in, opcode, address (none for a SETUP command), length read, data
  written (R94) -/
  | flash (m : FlashMode) (opcode : Nat) (addr : Option Nat) (len : Nat) (data : List Byte)
  deriving DecidableEq, Repr

/-- A CSR access held while its block is under reset (R63). -/
structure HeldCsr where
  path  : Path
  off   : Nat
  bytes : Nat
  write : Bool
  value : Nat
  /-- requester ID and tag of a fabric request that waits for the answer -/
  who   : Option (Nat × Nat) := none
  deriving DecidableEq, Repr

/-- Clocks and the timestamp (R49 to R57). -/
structure Clk where
  /-- the timestamp (R54) -/
  ts        : Nat := 0
  /-- TSCLK ticks counted without discipline: what durations are measured in -/
  tick      : Nat := 0
  /-- those counted while tiles are released, outside a replay's WAIT_START (R545) -/
  ageTick   : Nat := 0
  /-- RATE correction not yet a whole tick, in 2⁻²⁶ tick (R55) -/
  tsFrac    : Int := 0
  /-- ticks of a negative OFFSET still to withhold, and ticks since the last one withheld (R55) -/
  slewLeft  : Nat := 0
  slewPhase : Nat := 0
  /-- withheld ticks that met a tick RATE had withheld already: the next tick that adds withholds them -/
  slewOwed  : Nat := 0
  /-- ROOT periods since ROOT lock, and those withheld from TCLK, NCLK and CCLK (R49, R51) -/
  root      : Nat := 0
  withheld  : Nat := 0
  /-- the FCLK dividers in effect, and the ROOT count at which each took effect (R49) -/
  fclk      : List Nat := [24, 24, 24, 24]
  fclkAt    : List Nat := [0, 0, 0, 0]
  /-- PTP_PPS as output is high until this tick (R56) -/
  ppsUntil  : Nat := 0
  /-- per register and path, the pending latched bits [63:32] (R57); key = register × 8 + path code -/
  shadow    : List (Nat × Option (BitVec 32)) := []
  /-- thermal step level, power-cap step level, and the judgements since that called for a restore (R73, R75) -/
  thermLvl  : Nat := 0
  capLvl    : Nat := 0
  thermAt   : Nat := 0
  capAt     : Nat := 0
  /-- per safe-side loop: moves carried, and 1 + the window of its last entry (R71) -/
  carried   : List Nat := [0, 0, 0, 0, 0]
  window    : List Nat := [0, 0, 0, 0, 0]
  /-- elastic-buffer events per lane (R53) -/
  elastic   : List (Nat × Nat) := []
  /-- per rail, consecutive µs outside its window (R608) -/
  railOut   : List Nat := [0, 0, 0, 0, 0, 0, 0, 0, 0]
  /-- the VCORE request on AVSBus that waits for its acknowledgement: mV, the tick it was made (R72) -/
  avs       : Option (Nat × Nat) := none
  deriving DecidableEq, Repr

/-- What holds the core, and the resets that run (R58 to R70). -/
structure Rst where
  /-- VAUX has become good and the POR of this power-up has yet to come (R67) -/
  porDue    : Bool := false
  /-- before VAUX good (R67) -/
  vauxHold  : Bool := false
  /-- rails found early at VAUX good (R67) -/
  railOrder : Nat := 0
  /-- PFAIL_N low at the release of SYS_RST_N (R612) -/
  pfailHold : Bool := false
  /-- a boundary-scan instruction holds the core (R579) -/
  jtagHold  : Bool := false
  /-- ROOT lock lost (R52) -/
  rootLost  : Bool := false
  /-- thermal trip (R74) -/
  tripped   : Bool := false
  /-- PFAIL_N accepted (R68); its commit has ended and the device holds itself in reset (R69) -/
  pfail     : Bool := false
  pfailDone : Bool := false
  /-- a SYS_RST_N that fell during the power-fail commit: mode, CFG_ID, SMB_ADDR, PFAIL_N high (R70) -/
  sysWait   : Option (Nat × Nat × Nat × Bool) := none
  /-- a RELOAD in its reset phase: the tick it began (R63) -/
  reload    : Option Nat := none
  /-- ENG resets running: engine ↦ tick (R61) -/
  eng       : List (Nat × Option Nat) := []
  /-- TILE resets: logical tile ↦ (phase, tick); phase 1 waits under R62, 2 writes back, 3 clears (R590) -/
  tile      : List (Nat × Option (Nat × Nat)) := []
  /-- PORT resets: port die ↦ tick (R60) -/
  port      : List (Nat × Option Nat) := []
  /-- CSR accesses held under R63, oldest first -/
  held      : List HeldCsr := []
  /-- SMB_ADDR strap (R576) -/
  smbAddr   : Nat := 0
  deriving DecidableEq, Repr

/-- One section-table entry of an image (R88). -/
structure Sect where
  typ    : Nat
  stage  : Nat
  flags  : Nat
  index  : Nat
  offset : Nat
  length : Nat
  target : Nat
  iv     : Nat
  digest : BitVec 384
  deriving DecidableEq, Repr

/-- The header fields a load keeps (R87). -/
structure Hdr where
  secVersion  : Nat
  stageA      : Nat
  flags       : Nat
  syncTimeout : Nat
  pkIndex     : Nat
  keySlot     : Nat
  pubkey      : BitVec 768
  wrapped     : BitVec 320
  flash       : FlashMode
  sects       : List Sect
  deriving DecidableEq, Repr

/-- The configuration load, the keys and the scrubber (chapter 03). -/
structure Load where
  /-- the header in use and the index of the section that comes next -/
  hdr       : Option Hdr := none
  next      : Nat := 0
  /-- the bytes come from CFG_LOAD_DATA or from forwarded packets, those not yet used, and how many were used (R116, R126) -/
  stream    : Bool := false
  /-- the stream is the leader's forward stream (R108, R116) -/
  pkts      : Bool := false
  /-- the flash slot the load reads (R86, R104), and how it reads the flash (R94) -/
  slot      : Nat := 0
  flash     : FlashMode := {}
  /-- the device has released CFG_DONE; the pins' use, sampled with CFG_MODE (R114) -/
  doneOwn   : Bool := false
  pins      : CfgPins := {}
  buf       : List Byte := []
  used      : Nat := 0
  /-- a stage-B-only load: a RELOAD or a load from FAILED_B (R107) -/
  bOnly     : Bool := false
  /-- timestamp of the last data and of the entry into SYNC_WAIT -/
  lastAt    : Nat := 0
  syncAt    : Nat := 0
  /-- stage A digests of the running stage A (R107), and the public key of the running image (R150) -/
  digestsA  : List (BitVec 384) := []
  pubkey    : BitVec 768 := 0
  /-- the unwrapped content key (R97) -/
  content   : Option (BitVec 256) := none
  /-- the key store: KEK_1 wrapped under the PUF key (R98); the fuses (R626) -/
  keyStore  : Option (BitVec 2048) := none
  kek0      : Option (BitVec 256) := none
  pkHash    : List (Option (BitVec 384)) := [none, none]
  /-- a stage has been released: A_DONE, B_DONE reached (R101) -/
  aDone     : Bool := false
  bDone     : Bool := false
  /-- what the running stage wrote, for the wipe of R104: (address, length) of DATA, frames by region, tiles, CSR keys -/
  wroteData : List (Nat × Nat) := []
  wroteReg  : List Nat := []
  wroteTile : List Nat := []
  wroteCsr  : List Nat := []
  /-- a DATA or CMD_LIST section waiting on HBM (R92): its plain bytes -/
  hbmWait   : Option (List Byte) := none
  /-- controller firmware and lane set-up per port die (R89) -/
  portFw    : List (Nat × List Byte) := []
  /-- configuration memory: word key (region × 196608 + frame × 32 + word) ↦ value; words marked non-essential; words left
  with a double-bit upset; regions loaded (R120, R122) -/
  frames    : List (Nat × Nat) := []
  nonEss    : List (Nat × Bool) := []
  bad       : List (Nat × Bool) := []
  loaded    : List (Nat × Bool) := []
  /-- next frame of each region's scrubber (R121) -/
  scrubPos  : List (Nat × Nat) := []
  /-- entry lists set by CMD_LIST sections: engine × 4 + queue ↦ 1 + device address (R89) -/
  entryList : List (Nat × Nat) := []
  deriving DecidableEq, Repr

/-- A Keep write waiting or running (R133). -/
structure KeepWr where
  path : Path
  word : Nat
  data : Nat
  /-- a count of the device's own: the word's value and 1 (R132) -/
  own  : Bool := false
  /-- requester ID and tag of a fabric request that waits for the answer -/
  who  : Option (Nat × Nat) := none
  /-- the tick at which it arrived -/
  at_  : Nat := 0
  deriving DecidableEq, Repr

/-- The Keep bank (chapter 04): persistent. -/
structure Keep where
  words   : List (Nat × Nat) := []
  wear    : List (Nat × Nat) := []
  /-- ECC state of a word, and from 4,096 of its wear counter: 1 corrected on read, 2 uncorrectable (R138) -/
  ecc     : List (Nat × Nat) := []
  /-- the write that runs and the tick at which it started (R133) -/
  running : Option (KeepWr × Nat) := none
  queue   : List KeepWr := []
  /-- writes refused after PFAIL_N (R139) -/
  refused : Nat := 0
  deriving DecidableEq, Repr

/-- The Ember record (chapter 04). -/
structure Ember where
  /-- index ↦ the 64 bytes of the entry as one little-endian number, 0 = empty -/
  area     : List (Nat × Nat) := []
  head     : Nat := 2048
  pinCount : Nat := 0
  wraps    : Nat := 0
  seqNext  : Nat := 1
  /-- the last reserved circular index, SEQ and pinned index + 1 (0: not pinned) (R144, R147) -/
  reserved : Option (Nat × Nat × Nat) := none
  queue    : List EmbEnt := []
  /-- entries lost since the last EMB_LOST entry, and the lowest class among them (R145) -/
  lost     : Nat := 0
  lostCls  : Nat := 3
  /-- the power-up check has ended (R147) -/
  ready    : Bool := true
  /-- RESET entries that wait for it: scope, GLB_RST_CAUSE at the reset (R60) -/
  resetDue : List (Nat × Nat) := []
  /-- TS of the last entry written (R60) -/
  lastTs   : Nat := 0
  /-- a pinned-area clear cut short by a power loss (R151): lowest and highest SEQ cleared, OPEN -/
  clearing : Option (Nat × Nat × Bool) := none
  deriving DecidableEq, Repr

/-- A request held at its stop while the tile it names hands over (R28). -/
structure HeldReq where
  q       : Rq
  addr    : Nat
  len     : Nat
  wr      : Option WrBytes
  noalloc : Bool
  first   : Bool
  count   : Option (Fin 64)
  dline   : Nat := 0xFFFF
  deriving DecidableEq, Repr

/-- A witness handover in progress (R541). -/
structure Handover where
  out    : Nat
  ltile  : Nat
  begun  : Nat
  quiet  : Bool := false
  deriving DecidableEq, Repr

/-- Safety: SAFE_N, the witness rotation, wicks (chapter 20). -/
structure Safe where
  /-- SAFE_N is driven low, since this tick (R562) -/
  low      : Bool := true
  lowAt    : Nat := 0
  /-- the MCLK in which SAF_FIRST was set, and the one of the last class S detection (R563) -/
  sFirst   : Option Nat := none
  sLast    : Option Nat := none
  /-- class S causes that stay until SYS or POR (R565) -/
  sticky   : List Nat := []
  /-- stage A has set up the safety block (R64) -/
  setUp    : Bool := false
  /-- a RELOAD has not yet completed stage B (R64) -/
  reload   : Bool := false
  /-- logical tile ↦ physical tile (R25, R47) -/
  map      : List Nat := List.range 64
  handover : Option Handover := none
  /-- requests held until it ends, oldest first (R28); snoops too: tile, line, operation (R290); and lock requests: requester ID, tag, lock,
  operation (R256) -/
  heldReq  : List HeldReq := []
  heldSnp  : List (Nat × Nat × Nat) := []
  heldLock : List (Nat × Nat × Nat × Nat) := []
  /-- the last slot was skipped (R544) -/
  skipped  : Bool := false
  /-- the rotation runs (R542) -/
  rotating : Bool := false
  /-- the tick the next slot is due at (R541) -/
  slotAt   : Nat := 0
  /-- `Clk.ageTick` at each physical tile's last pass, and whether its overdue was raised since (R545) -/
  age      : List (Nat × Nat) := []
  overdue  : List (Nat × Bool) := []
  /-- the logical role the spare served until this slot's handover: 1 + tile (R547) -/
  lastRole : Nat := 0
  /-- the signature of R554 -/
  regSig   : Nat := 0
  /-- wick ↦ the window [open, close] of its next kick, in ticks (R549) -/
  wicks    : List (Nat × (Nat × Nat)) := []
  /-- the list an armed wick is bound to: engine's list id (R412, R419) -/
  wickList : List (Nat × Nat) := []
  /-- the spare's pattern test runs (R541, R543) -/
  testing  : Bool := false
  /-- LOCK was set when the signature was taken (R554) -/
  sigLocked : Bool := false
  deriving DecidableEq, Repr

/-- A sensor guard channel's queued doorbell: buffer, length, tick (R556). -/
structure SgdBell where
  slot : Nat
  len  : Nat
  at_  : Nat
  deriving DecidableEq, Repr

/-- One sensor guard channel's state beside its registers (R556 to R560). -/
structure SgdChan where
  bells   : List SgdBell := []
  lastCrc : Option Nat := none
  lastCnt : Option Nat := none
  lastTs  : Option Nat := none
  lastDb  : Option Nat := none
  gapUp   : Bool := false
  deriving DecidableEq, Repr

/-- The management block (chapter 21). -/
structure Mgt where
  uart      : List (List Byte) := []
  uartBusy  : Option (List Byte) := none
  smbAddr   : Nat := 0
  smbRef    : Bool := false
  smbTmo    : Bool := false
  /-- a CSR_READ held under R63 within its stretch -/
  smbRead   : Bool := false
  jtagIr    : Nat := 2
  jtagDone  : Bool := false
  jtagRef   : Bool := false
  jtagData  : Nat := 0
  /-- what the probe pins show (R585); the record being filled and its timestamp (R586) -/
  prbPins   : Nat := 0
  prbRec    : List Nat := []
  prbRecTs  : Nat := 0
  /-- records left after the trigger; a burst of losses is being counted (R586, R587) -/
  prbLeft   : Option Nat := none
  prbBurst  : Bool := false
  prbRun    : Bool := false
  /-- the next item of the ledger audit (R601) -/
  auditPos  : Nat := 0
  deriving DecidableEq, Repr

/-- A device access to a fabric RAM block: requester, tag, offset, length, bytes of a write, since when it waits (R178). -/
structure QAcc where
  rid   : Nat
  tag   : Nat
  off   : Nat
  len   : Nat
  wr    : Option WrBytes
  since : Nat
  deriving DecidableEq, Repr

/-- One fabric RAM block's queue state (R170 to R175). The entries lie in the block's RAM. -/
structure Qc where
  rd        : Nat := 0
  len       : Nat := 0
  /-- pushes the pop side does not see yet; pops the push side does not see yet (R172) -/
  hidden    : Nat := 0
  freed     : Nat := 0
  head      : Nat := 0
  trigAt    : Nat := 0
  wraps     : Nat := 0
  triggered : Bool := false
  stopped   : Bool := false
  trigLevel : Bool := false
  postLeft  : Nat := 0
  /-- device accesses that wait at the ring gate, oldest first (R178) -/
  waiting   : List QAcc := []
  /-- the internal word its patrol checks next (R169) -/
  patrol    : Nat := 0
  deriving DecidableEq, Repr

/-- A request in a ring gate's inbound queue (R179, R183), or an accepted read that waits for its answer. -/
structure IReq where
  tag      : Nat
  read     : Bool
  addr     : Nat
  len      : Nat
  src      : Nat
  data     : List Byte := []
  /-- since when it is offered or unanswered -/
  since    : Option Nat := none
  deriving DecidableEq, Repr

/-- A request of region logic that is outstanding at its gate (R181). -/
structure OutReq where
  /-- the tag it has on the Annulus: no two outstanding requests share one -/
  slot : Nat
  /-- its 7-bit tag on OREQ and ORSP -/
  tag  : Nat
  read : Bool
  /-- the answer, while an older request of the same tag lacks its own: status, data -/
  ans  : Option (Nat × List Byte) := none
  /-- its logic has been frozen: the answer is discarded (R212) -/
  dead : Bool := false
  deriving DecidableEq, Repr

/-- One ring gate (R179 to R183). -/
structure Gate where
  /-- outstanding reads and writes, oldest first; each holds its place in the ORSP buffer -/
  out     : List OutReq := []
  inq     : List IReq := []
  reads   : List IReq := []
  /-- reads the gate answered with QUEUE_TIMEOUT -/
  late    : List Nat := []
  deriving DecidableEq, Repr

/-- The static fields of a signal slice and its address generator (R207). -/
structure SliceCfg where
  cshift   : Nat := 0
  outShift : Nat := 0
  shiftSrc : Bool := false
  wide     : Bool := true
  rnd      : Nat := 0
  accSat   : Bool := false
  bexCasc  : Bool := false
  mode     : Nat := 0
  base     : Nat := 0
  step     : Nat := 1
  m        : Nat := 10
  len      : Nat := 65536
  strideO  : Nat := 0
  nI       : Nat := 65536
  nO       : Nat := 1
  deriving DecidableEq, Repr

/-- The two registers of a logic element (R158). -/
structure Le where
  q0 : Bool := false
  q1 : Bool := false
  deriving DecidableEq, Repr, Inhabited

/-- One signal slice (R194 to R205). -/
structure Slice where
  cfg    : SliceCfg := {}
  accRe  : Int := 0
  accIm  : Int := 0
  ovf    : Bool := false
  bex    : Nat := 0
  outRe  : Int := 0
  outIm  : Int := 0
  valid  : Bool := false
  sat    : Bool := false
  /-- generator parameters in use, and its position: index, offset p, inner k, outer j -/
  ag     : SliceCfg := {}
  idx    : Nat := 0
  pos    : Nat := 0
  k      : Nat := 0
  j      : Nat := 0
  addr   : Nat := 0
  wrap   : Bool := false
  deriving DecidableEq, Repr

/-- The exchange controller (R211). -/
structure Exch where
  sects     : List Sect := []
  content   : Option (BitVec 256) := none
  keySlot   : Nat := 0
  drainAt   : Nat := 0
  freezeAt  : Nat := 0
  discarded : Nat := 0
  deriving DecidableEq, Repr

/-- The fabric (chapters 05 to 07). -/
structure Fab where
  qc     : List (Nat × Qc) := []
  gate   : List (Nat × Gate) := []
  slice  : List (Nat × Slice) := []
  exch   : Exch := {}
  /-- regions that hold their clock enables: frozen, or left blank (R211, R224) -/
  frozen : List (Nat × Bool) := []
  /-- handover timers that have stopped (one-shot, R219): region × 16 + timer -/
  hxStop : List (Nat × Bool) := []
  /-- a handover timer's count: what it had reached, and the ROOT period in which it had: region × 16 + timer (R219) -/
  hxBase : List (Nat × (Nat × Nat)) := []
  /-- 1 + the ROOT period of the thaw at which a timer's latched match left: region × 16 + timer (R220) -/
  hxFirst : List (Nat × Nat) := []
  /-- what an edge detector watches: a crossing wire of its edge, or 1,024 + a device event line: region × 32 + detector (R221) -/
  hxWatch : List (Nat × Nat) := []
  /-- the two registers of a logic element: region × 98,304 + element; one that is not listed holds what its region's frames start it
  with (R158) -/
  le      : List (Nat × Le) := []
  /-- crossing wires, (region × 4 + edge) × 1,024 + wire: the level a region drives out across an edge, and the boundary register of a wire
  that comes in there, with its second stage (R163, R164) -/
  crossOut : List (Nat × Bool) := []
  crossIn  : List (Nat × (Bool × Bool)) := []
  /-- the ROOT period up to which the region logic has been clocked (R162) -/
  clocked  : Nat := 0
  deriving DecidableEq, Repr

/-- A flit and its sideband (R231): in an injection queue, in a slot of a ring, or in an ejection buffer. -/
structure Flit where
  ring  : Nat
  slot  : Nat := 0
  src   : Nat
  dst   : Nat
  body  : FlitBody
  seq   : Nat := 0
  last  : Bool
  copy  : Bool := false
  /-- a flit of a witness handover's copy (R245) -/
  hand  : Bool := false
  /-- its copy was cancelled (R261) -/
  dead  : Bool := false
  /-- credits riding: REQ, SNP, DAT-A, and of a handover's DAT-B pool (R233) -/
  crReq : Nat := 0
  crSnp : Nat := 0
  crDat : Nat := 0
  crHb  : Nat := 0
  deriving DecidableEq, Repr

/-- The credits of one (source, destination, class) away from the source (R244). -/
structure Cred where
  /-- flits on the ring, or lost -/
  flits  : Nat := 0
  /-- entries the unit has not taken -/
  occ    : Nat := 0
  /-- credits owed, and credits riding in RSP flits -/
  owed   : Nat := 0
  riding : Nat := 0
  deriving DecidableEq, Repr

/-- The credit pools of a witness handover's copy (R245): outgoing and incoming stop, the DAT-A and the DAT-B pool, and whether the next flit
goes on DAT-B. -/
structure HandPool where
  src   : Nat
  dst   : Nat
  a     : Cred := {}
  b     : Cred := {}
  nextB : Bool := false
  deriving DecidableEq, Repr

/-- A request on its way, whose answer has space reserved at its stop (R243): the stop and unit, tag, target, opcode, LEN, address. -/
structure AnnOpen where
  stop : Nat
  unit : Nat
  tag  : Nat
  dst  : Nat
  snp  : Bool
  opc  : Nat
  len  : Nat
  addr : Nat
  /-- the RSP flit that has come: STATUS and VALUE -/
  rsp  : Option (Nat × Nat × Nat) := none
  deriving DecidableEq, Repr

/-- A request that reached its target as flits and is being served there: requester ID, the tag its answer names, its own TAG, the target's
stop, opcode. -/
structure AnnVia where
  rid  : Nat
  key  : Nat
  tag  : Nat
  stop : Nat
  opc  : Nat
  deriving DecidableEq, Repr

/-- A lock request at stop 59 (R252): who asked, for which lock, and what: 0 ACQ, 1 ACQW, 2 REL. -/
structure LockReq where
  stop  : Nat
  unit  : Nat
  tag   : Nat
  owner : Option Owner
  lock  : Nat
  op    : Nat
  deriving DecidableEq, Repr

/-- A ring lock (R250, R252). -/
structure Lock where
  /-- 0 FREE, 1 HELD, 2 BROKEN, 3 HELD_BROKEN -/
  state   : Nat := 0
  owner   : Option Owner := none
  waiters : List LockReq := []
  deriving DecidableEq, Repr

/-- The Annulus (chapter 08). -/
structure Ann where
  /-- flits in slots, in the order they were injected -/
  flits    : List Flit := []
  /-- injection queues: stop × 16 + ring; and 1 + the NCLK in which the head became ready (R241) -/
  injq     : List (Nat × List Flit) := []
  ready    : List (Nat × Nat) := []
  /-- the packet a stop has begun on a ring and not ended: stop × 16 + ring ↦ 1 + (destination × 16 + SRCU) × 2,048 + TAG (R239) -/
  begun    : List (Nat × Nat) := []
  /-- kept slots: ring × 128 + slot ↦ 1 + KEEP_FOR (R231, R241) -/
  kept     : List (Nat × Nat) := []
  /-- ejection buffers, stop ↦ flits in the order their unit sees them, each with the NCLK of its ejection (R247) -/
  ejq      : List (Nat × List (Flit × Nat)) := []
  /-- flits their unit has taken and that wait for the rest of their packet (R239) -/
  parts    : List Flit := []
  cred     : List (Nat × Cred) := []
  hand     : Option HandPool := none
  open_    : List AnnOpen := []
  via      : List AnnVia := []
  /-- next sequence number per (source, destination, ring), and the one the destination expects (R258) -/
  seqTx    : List (Nat × Nat) := []
  seqRx    : List (Nat × Nat) := []
  /-- consecutive failures of one flit per ring, and the NCLK until which a replay pauses the ring (R259) -/
  retries  : List (Nat × Nat) := []
  pause    : List (Nat × Nat) := []
  locks    : List (Nat × Lock) := []
  reqs     : List LockReq := []
  notices  : List Owner := []
  deriving DecidableEq, Repr

/-- A line of a cache-mode slice (R278, R281, R291). -/
structure Line where
  data   : BitVec 2048 := 0
  /-- dirty and poisoned sectors -/
  dirty  : Nat := 0
  poison : Nat := 0
  /-- host state: 0 not a host line, 1 S, 2 E (R291) -/
  host   : Nat := 0
  first  : Bool := false
  /-- last touched by a Lamplighter (R435) -/
  ll     : Bool := false
  /-- sectors with a single-bit and with an uncorrectable error that no read or patrol has met (R295) -/
  weak   : Nat := 0
  bad    : Nat := 0
  /-- just filled for a request that has counted its miss (R296) -/
  fresh  : Bool := false
  deriving DecidableEq, Repr

/-- The tile state the home slice keeps for a line (R283). -/
inductive Dir where
  | none | sh (tiles : List Nat) | ex (t : Nat)
  deriving DecidableEq, Repr

/-- A line of a tile cache (R274): 1 S, 2 E, 3 M. -/
structure TLine where
  st     : Nat
  data   : BitVec 2048
  dirty  : Nat := 0
  poison : Nat := 0
  deriving DecidableEq, Repr

/-- What a slice is asked to do with a line (R284, R287). -/
inductive SliceOp where
  | rdSh (t : Nat) | rdEx (t : Nat) | upgr (t : Nat)
  | rd (addr len : Nat) (noalloc first : Bool)
  | wr (addr : Nat) (data : WrBytes) (noalloc first : Bool) (count : Option (Fin 64))
  | flush | flushInv | discard
  /-- a tile's WB and EVC of the line -/
  | wb (t : Nat) | evc (t : Nat)
  | fence
  deriving DecidableEq, Repr

/-- A request at a slice, its requester ID and tag, and its place in the order of acceptance. -/
structure SliceReq where
  op  : SliceOp
  rid : Nat
  tag : Nat
  seq : Nat := 0
  /-- its deadline bucket, 0xFFFF for none (R445) -/
  dline : Nat := 0xFFFF
  deriving DecidableEq, Repr

/-- The window of 64 grants in which an arbiter stands (R306, R307, R448): grants made, those of each class, and the settings in force. -/
structure ArbWin where
  n   : Nat := 0
  per : List Nat := [0, 0, 0]
  arb : Nat := 0x00_08_18_20_08_10_10_00
  deriving DecidableEq, Repr

/-- A snoop to a tile (R286): 1 SNP_INV, 2 SNP_DOWN, 3 SNP_CLEAN; ORIG and CAUSE; and whether it has reached the tile. -/
structure Snoop where
  tile  : Nat
  op    : Nat
  orig  : Nat := 0
  cause : Nat := 0
  /-- the answer on its way: dirty mask, data, poisoned sectors; `none` until the tile has answered -/
  ans  : Option (Nat × BitVec 2048 × Nat) := none
  deriving DecidableEq, Repr

/-- The transaction a slice runs for a line (R288). -/
structure Trans where
  req    : SliceReq
  snoops : List Snoop := []
  /-- waits for fill data from HBM -/
  fill   : Bool := false
  /-- dirty lines dropped by a DISCARD -/
  drops  : Nat := 0
  deriving DecidableEq, Repr

/-- A FENCE that waits: its slice, requester and tag, and its place in the order of acceptance (R284). -/
structure Fence where
  slice : Nat
  rid   : Nat
  tag   : Nat
  seq   : Nat
  deriving DecidableEq, Repr

/-- A running walk of a slice (R294): operation, whole slice, the set it checks next, sectors written back and dirty lines discarded so far,
and the ROOT period it began in. -/
structure Walk where
  op    : Nat
  all   : Bool
  set   : Nat := 0
  wrote : Nat := 0
  disc  : Nat := 0
  begun : Nat := 0
  deriving DecidableEq, Repr

/-- Cellar, tile caches and their coherence (chapter 09). Lines are keyed by device address / 256. -/
structure Cel where
  lines  : List (Nat × Option Line) := []
  dir    : List (Nat × Dir) := []
  /-- tile caches: key = logical tile × 2^40 + line -/
  tc     : List (Nat × Option TLine) := []
  /-- the transaction each line runs (R288) -/
  trans  : List (Nat × Option Trans) := []
  /-- line queues, in acceptance order: (line, request); at most 64 per slice (R288) -/
  queue  : List (Nat × SliceReq) := []
  /-- requests a slice has not accepted, which stay in its REQ ejection buffer: (slice, line, request), oldest first (R288) -/
  intake : List (Nat × Nat × SliceReq) := []
  /-- the arbitration window of each slice's port (R448) -/
  arbs   : List (Nat × ArbWin) := []
  /-- requester and deadline bucket of the access that is being served: a request it causes at an HBM controller carries them (R304) -/
  orig   : Nat := 0
  dline  : Nat := 0xFFFF
  /-- the next place in the order of acceptance -/
  seqNext : Nat := 0
  /-- FENCEs that wait (R284) -/
  fences : List Fence := []
  /-- a tile's write-back buffer: a WB not yet complete, keyed as `tc`, and whether a snoop has taken its data (R289) -/
  wb     : List (Nat × Option (TLine × Bool)) := []
  /-- the walk of a slice (R294) -/
  walk   : List (Nat × Option Walk) := []
  /-- the set each slice's patrol checks next (R295), and the 64 B unit each bank's of tile SRAM does: physical tile × 32 + bank (R273) -/
  patrol : List (Nat × Nat) := []
  sramPatrol : List (Nat × Nat) := []
  /-- lines whose directory entry was lost: answer POISON until rewritten (R295) -/
  lost   : List (Nat × Bool) := []
  /-- writes whose data came with POISON and that are not yet answered: requester, tag, address, length (R233, R260) -/
  badWr  : List (Nat × Nat × Nat × Nat) := []
  /-- slices that were in scratch mode when the running RELOAD reset their mode (R292) -/
  kept   : List (Nat × Bool) := []
  deriving DecidableEq, Repr

/-- A request in a controller's queue (R304, R305). -/
structure HReq where
  write : Bool
  L     : Nat
  len   : Nat
  cls   : Nat
  dline : Nat
  rid   : Nat
  /-- the tick and the NCLK it arrived in, and its place in the acceptance order -/
  at_   : Nat
  nclk  : Nat
  seq   : Nat
  /-- a write with every byte enabled -/
  full  : Bool := true
  /-- its tag, when it came as a flit; 2048 when it did not -/
  tag   : Nat := 2048
  /-- what a read finds in its place of the acceptance order: bytes, bursts whose POISON is set -/
  data  : List Byte := []
  bad   : Nat := 0
  deriving DecidableEq, Repr

/-- One HBM controller beside its registers (chapter 10). -/
structure Hbm where
  rdq     : List HReq := []
  wrq     : List HReq := []
  /-- reads issued and not yet returned, oldest first -/
  flying  : List HReq := []
  /-- the window of 64 grants; a write of HBM_ARB_CFG counts from the next (R306, R307, R448) -/
  win     : ArbWin := {}
  /-- open rows: pseudo-channel × 48 + bank ↦ 1 + row; and the tick of each bank's last command (R308) -/
  rows    : List (Nat × Nat) := []
  used    : List (Nat × Nat) := []
  /-- commands issued and when, oldest first, for the channels' retry buffers (R316) -/
  retry   : List (Nat × HReq) := []
  /-- refreshes postponed per pseudo-channel (R311) -/
  post    : List (Nat × Nat) := []
  patrol  : Nat := 0
  /-- rate set by the temperature rule, 0 1×, 1 2×, 2 4× (R309) -/
  tempRate : Nat := 0
  /-- consecutive replays of one command, per channel (R317) -/
  replays : List (Nat × Nat) := []
  retrain : Bool := false
  /-- the start-up sequence has ended, well or not (R300, R302) -/
  trained : Bool := false
  /-- the stack has crossed 105 °C and not yet fallen to 102 °C (R312), kept at its lowest controller -/
  hot     : Bool := false
  seqNext : Nat := 0
  deriving DecidableEq, Repr

/-- An entry of a group's reconvergence stack (R374). -/
structure Recon where
  mask    : Nat
  pc      : Nat
  /-- the SPLIT's own PC -/
  split   : Nat
  /-- threads that wait, and where they resume -/
  waiting : Nat := 0
  target  : Nat := 0
  /-- 0 open, 1 the fall-through side runs, 2 the branch side runs -/
  phase   : Nat := 0
  deriving DecidableEq, Repr

/-- What a group waits on. -/
inductive GWait where
  | none | counter (k : Nat) | gbar | lock (rd mask : Nat) | fence | copyPlace
  /-- device loads of a host window or a fabric RAM queue: destination register, width, lanes still to answer with their addresses, values
  that have come -/
  | load (rd w : Nat) (lanes : List (Nat × Nat)) (got : List (Nat × Nat))
  deriving DecidableEq, Repr

/-- One thread group (R366, R376, R389). -/
structure Group where
  /-- 0 IDLE, 1 RUN, 2 WAIT, 3 PARKED -/
  st      : Nat := 0
  inTrap  : Bool := false
  cause   : Nat := 0
  wdcause : Nat := 0
  frame   : Nat := 0
  live    : Nat := 1
  spill   : Nat := 0
  repark  : Nat := 0
  pc      : Nat := 0
  fAddr   : Nat := 0
  fStatus : Nat := 0
  fOpc    : Nat := 0
  base    : Nat := 0
  limit   : Nat := 0
  /-- threads that take part, and threads not yet retired -/
  active  : Nat := 0
  alive   : Nat := 0
  stack   : List Recon := []
  /-- windows: (window × 16 + register) × 32 + lane; window 8 is the trap window -/
  win     : List (Nat × Nat) := []
  /-- globals: register × 32 + lane -/
  glob    : List (Nat × Nat) := []
  /-- predicates: p ↦ one bit per thread (p0 always reads 1) -/
  pred    : List (Nat × Nat) := []
  trapPc  : Nat := 0
  trapMask : Nat := 0
  trapArg : Nat := 0
  trapVec : Nat := 0
  /-- LIVE as TRAP found it: the trap window is current while LIVE equals it -/
  trapLive : Nat := 0
  ngrp    : Nat := 0
  wait    : GWait := .none
  /-- the VXRUN it belongs to: engine, CMD_SEQ -/
  run     : Option (Nat × Nat) := Option.none
  /-- a store that failed and has not parked the group yet (R379) -/
  badStore : Option (Nat × Nat) := Option.none
  /-- device stores into host windows and queues not yet answered: tag, address -/
  stores   : List (Nat × Nat) := []
  /-- CUR of the sixteen channels as its command started (R354) -/
  cur      : List Nat := []
  deriving DecidableEq, Repr

/-- A copy on a tile's copy queue (R384, R385), with its conversion when it is a CONVERT. -/
structure CopyJob where
  src      : Nat
  dst      : Nat
  len      : Nat
  rows     : Nat
  elem     : Nat
  sstride  : Nat
  dstride  : Nat
  ctr      : Nat
  count    : Bool
  transpose : Bool
  cvt      : Option Nat := Option.none
  /-- descriptor offset -/
  desc     : Nat := 0
  /-- the command that issued it: engine, CMD_SEQ -/
  cmd      : Option (Nat × Nat) := Option.none
  /-- cancelled by a TILE reset of its destination (R386) -/
  dead     : Bool := false
  /-- requests outside the device: their tag, how many still to answer, and the status and bytes answered so far (R486, R507, R508) -/
  tag      : Nat := 0
  need     : Nat := 0
  ext      : Option (Nat × List Byte) := Option.none
  /-- CUR of the sixteen channels as its command started (R354) -/
  cur      : List Nat := []
  /-- how far its data phase has come: destination row, bytes of the row written, bytes written in all, bytes read for the row or packet,
  what stands ready to be written -/
  row      : Nat := 0
  pos      : Nat := 0
  wrote    : Nat := 0
  raw      : List Byte := []
  buf      : Option (List Byte) := Option.none
  /-- a packet waits at a ring gate (R178): 0 none, 1 its read, 2 its write of `pkt` bytes; and the answer -/
  ask      : Nat := 0
  pkt      : Nat := 0
  got      : Option (Nat × List Byte) := Option.none
  deriving DecidableEq, Repr

/-- A gill program of a step (R403). -/
structure GillProg where
  gill    : Nat
  held    : Nat
  stream  : Nat
  stride  : Nat
  rows    : Nat
  accRow  : Nat
  accCol  : Nat
  heldCt  : Bool
  deriving DecidableEq, Repr

/-- An array step (R326, R403). -/
structure Step where
  config  : Nat
  cls     : Nat
  mode    : Nat
  gmask   : Nat
  fHeld   : Nat
  fStream : Nat
  gills   : List GillProg
  deriving DecidableEq, Repr

/-- A LAYER's part on a tile (R402). -/
structure LayerRun where
  engine  : Nat
  seq     : Nat
  accSat  : Bool
  steps   : List Step
  /-- index of the next step to stream; whether the next step's held operand is in the shadow bank -/
  idx     : Nat := 0
  drainCvt : Nat := 0
  drainDst : Nat := 0
  drainRow : Nat := 0
  drainRows : Nat := 0
  clr     : Bool := false
  /-- CUR of the sixteen channels as its command started (R354) -/
  cur     : List Nat := []
  drained : Bool := false
  /-- WMODE and the CAROUSEL round, its rank and flush size -/
  wmode   : Nat := 0
  wsrc    : Nat := 0
  wlen    : Nat := 0
  wslot   : Nat := 0
  round   : Nat := 0
  rank    : Nat := 0
  n       : Nat := 1
  /-- rounds whose buffer is complete -/
  have_   : Nat := 1
  /-- rounds whose buffer has been sent on -/
  sent    : Nat := 0
  deriving DecidableEq, Repr

/-- A run-ahead entry (R430). -/
structure LlEnt where
  engine : Nat
  /-- address of the command, and its place: list id × 2^32 + its number in the list -/
  addr   : Nat
  pos    : Nat := 0
  /-- its 64 bytes as one number -/
  cmd    : Nat := 0
  wmode  : Nat := 0
  src    : Nat := 0
  len    : Nat := 0
  slot   : Nat := 0
  /-- bytes asked for and bytes arrived -/
  asked  : Nat := 0
  got    : Nat := 0
  /-- 0 PASS, 1 WAITSLOT, 2 FILLING, 3 READY, 4 FAULT -/
  st     : Nat := 0
  order  : Bool := false
  /-- its command has been issued, with this CMD_SEQ -/
  issued : Option Nat := Option.none
  /-- its command has started on the tile: the entry has retired, its slot stays -/
  started : Bool := false
  dead   : Bool := false
  status : Nat := 0
  deriving DecidableEq, Repr

/-- An EVSTEP's part on a tile (R461). -/
structure EvRun where
  engine : Nat
  seq    : Nat
  state  : Nat
  neurons : Nat
  syn    : Nat
  ktab   : Nat
  inq    : Nat
  outq   : Nat
  param  : Nat
  left   : Nat
  first  : Bool := true
  flags  : Nat
  /-- waits at the barrier of phase 5 -/
  atBarrier : Bool := false
  /-- remote batches whose transfer has not completed (R519) -/
  pend    : Nat := 0
  deriving DecidableEq, Repr

/-- One logical tile (chapters 09, 11 to 13, 15, 16). -/
structure Tile where
  groups  : List (Nat × Group) := []
  expect  : List (Nat × Nat) := []
  arrived : List (Nat × Nat) := []
  copyQ   : List CopyJob := []
  copyOn  : List CopyJob := []
  /-- accumulator words: row × 64 + word; poisoned words (R327, R337) -/
  acc     : List (Nat × Nat) := []
  accBad  : List (Nat × Bool) := []
  /-- held banks: gill ↦ (raw elements in row-major order, mask of poisoned columns); the shadow bank is loaded (R330) -/
  active  : List (Nat × (List Nat × Nat)) := []
  shadow  : List (Nat × (List Nat × Nat)) := []
  shadowFull : Bool := false
  layer   : Option LayerRun := Option.none
  ev      : Option EvRun := Option.none
  ll      : List LlEnt := []
  /-- fill reads in flight, oldest first: entry's place, slot offset, address, deadline bucket -/
  llReads : List (Nat × Nat × Nat × Nat) := []
  /-- where the look-ahead reads next: engine, address, place (R427); DEPTH as the engine took the list (R451) -/
  llAt    : Option (Nat × Nat × Nat) := Option.none
  /-- bytes of the list it has fetched and not yet looked at (R427) -/
  llBuf   : List Byte := []
  llDepth : Nat := 32
  /-- channels that gathered, by command and channel (R353, R354) -/
  gathered : List (Nat × Bool) := []
  deriving DecidableEq, Repr

/-- A command in flight (R391, R399). -/
structure Cmd where
  seq     : Nat
  /-- the 64 bytes as one number -/
  bytes   : Nat
  addr    : Nat
  list    : Nat
  pos     : Nat := 0
  /-- tiles where its part has not started, where it runs -/
  todo    : List Nat := []
  on      : List Nat := []
  /-- first failure status, 0 none; whether its cause wrote its own entry -/
  status  : Nat := 0
  logged  : Bool := false
  iovf    : Bool := false
  poison  : Nat := 0
  residue : Bool := false
  /-- for one that needs no tile: its effect is done -/
  done    : Bool := false
  /-- its colony step barrier: 1 this device has arrived, 2 released (R519) -/
  colony  : Nat := 0
  deriving DecidableEq, Repr

/-- A command list an engine runs, has suspended or is finishing (R394, R416). -/
structure CList where
  id      : Nat
  start   : Nat
  next    : Nat
  queue   : Nat
  compl   : Nat
  user    : Nat
  vector  : Nat := 0xFFFF
  done    : Nat := 0
  status  : Nat := 0
  failSeq : Nat := 0
  failUser : Nat := 0
  poison  : Nat := 0
  flags   : Nat := 0
  /-- bytes up to here have been fetched (R401) -/
  fetched : Nat := 0
  /-- bytes fetched and not yet issued -/
  buf     : List Byte := []
  /-- commands issued -/
  pos     : Nat := 0
  ended   : Bool := false
  deriving DecidableEq, Repr

/-- What holds an engine's issue. -/
inductive EWait where
  | none
  | cond (seq : Nat) (since : Nat)
  deriving DecidableEq, Repr

/-- A command engine beside its registers (chapter 14). -/
structure Eng where
  run     : Option CList := Option.none
  susp    : Option CList := Option.none
  ending  : List CList := []
  flight  : List Cmd := []
  wait    : EWait := .none
  /-- a failure has stopped issue: CMD_SEQ and status of CE_HALT, due when the commands in flight have completed (R415) -/
  stopAt  : Option (Nat × Nat) := Option.none
  /-- the boundary just reached is a seam (R417) -/
  seam    : Bool := true
  nextId  : Nat := 1
  /-- the list whose END is the seam a due swap takes: its id and first address (R418, R419) -/
  endSeam : Option (Nat × Nat) := Option.none
  /-- entry lists not yet started (R396): queue ↦ 1 + address -/
  entry   : List (Nat × Nat) := []
  /-- BARRIERs waiting: BID, EMASK, CMD_SEQ, colony -/
  bars    : List (Nat × Nat × Nat × Bool) := []
  deriving DecidableEq, Repr

/-- A DUT request a golden endpoint has not finished (R480 to R484). -/
structure DutPend where
  req      : DutReq
  /-- the tick its budget started -/
  start    : Nat
  /-- the status and data its target gave; `none` while the target works -/
  ans      : Option (Nat × List Byte) := none
  /-- steered to a region, with this IREQ tag -/
  region   : Option (Nat × Nat) := none
  /-- bytes of the answer that completions have carried (R483) -/
  sent     : Nat := 0
  /-- its stand-in was queued -/
  standin  : Bool := false
  /-- fault 9 withholds its completion and its stand-in (R489) -/
  withheld : Bool := false
  deriving DecidableEq, Repr

/-- An outbound read that waits for its completion (R486). -/
structure Outb where
  q   : Rq
  len : Nat
  deriving DecidableEq, Repr

/-- The receive credits of a golden endpoint's link (R481, R489). -/
structure FcLink where
  /-- the tick its next UpdateFC came due: a credit was freed -/
  due   : Option Nat := none
  /-- credits freed, and how many of them the last UpdateFC sent told of -/
  freed : Nat := 0
  adv   : Nat := 0
  /-- the stand-in of the one due was queued -/
  stood : Bool := false
  /-- fault 11 withholds UpdateFC before this tick -/
  hold  : Nat := 0
  deriving DecidableEq, Repr

/-- One capture ring beside its registers (R487, R488). -/
structure CapRing where
  /-- sequence number of the next record -/
  seq   : Nat := 0
  /-- records lost since the last record written -/
  lost  : Nat := 0
  /-- a replay's feed: next offset, sequence number expected, whether feeding has stopped (R532) -/
  feed  : Nat := 0
  fseq  : Option Nat := none
  fend  : Bool := false
  /-- a replay's comparison: next offset (R533) -/
  cmpAt : Nat := 0
  deriving DecidableEq, Repr

/-- One injection entry beside its registers (R489): armed, fires left, triggers seen. -/
structure Inj where
  armed : Bool := false
  left  : Nat := 0
  seen  : Nat := 0
  deriving DecidableEq, Repr

/-- One link of a controller: its LTSSM state, rate and width, and whether it is in L0. -/
structure PLink where
  ltssm : Nat := 0
  rate  : Nat := 0
  width : Nat := 0
  l0    : Bool := false
  deriving DecidableEq, Repr

/-- One port die (chapter 17). -/
structure Prt where
  /-- the bindings in force: register-file key ↦ value, as of the last PORT reset or A_DONE (R472, R492) -/
  eff     : List (Nat × Nat) := []
  pend    : List DutPend := []
  outb    : List Outb := []
  /-- reads into the host window beyond the 4,096 that may be outstanding (R471): requester, offset, length -/
  outWait : List (Rq × Nat × Nat) := []
  fc      : List (Nat × FcLink) := []
  ring    : List (Nat × CapRing) := []
  inj     : List (Nat × Inj) := []
  link    : List (Nat × PLink) := []
  /-- a PERST_N input reads low; a PERST_N output is released (R473); the tick A_DONE started PERST_HOLD -/
  perstLow : Bool := false
  perstOut : Bool := false
  perstAt : Option Nat := none
  /-- firmware has faulted: held in PORT reset (R493) -/
  fwFault : Bool := false
  /-- the configuration request outstanding is a read (R575) -/
  cfgRead : Bool := false
  /-- raw transmit words sent, receive words taken (R478: alternate words of a pair) -/
  rawTx   : List (Nat × Nat) := []
  rawRx   : List (Nat × Nat) := []
  /-- ticks an injection adds to a port's next departure timestamp (R489) -/
  txAdd   : List (Nat × Nat) := []
  deriving DecidableEq, Repr

/-- The service port (R491). -/
structure Svc where
  /-- in L0 -/
  up  : Bool := false
  /-- SVC_PERST_N low -/
  rst : Bool := false
  deriving DecidableEq, Repr

/-- A coupling packet (R503): the fields of its header and its data. -/
structure CPkt where
  msg    : Nat
  flags  : Nat := 0
  dst    : Nat
  src    : Nat
  status : Nat := 0
  route  : Nat := 0
  addr   : Nat := 0
  raddr  : Nat := 0
  len    : Nat := 0
  tag    : Nat := 0
  reqid  : Nat := 0
  ts     : Nat := 0
  aux    : Nat := 0
  gen    : Nat := 0
  data   : List Byte := []
  deriving DecidableEq, Repr

/-- One coupling link and its link stop (R495 to R502). -/
structure CLink where
  /-- packets ready to leave, oldest first: pool and packet; flits already sent of the head packet of each pool -/
  txq    : List (Nat × CPkt) := []
  sent   : List (Nat × Nat) := []
  /-- the replay buffer, oldest first: sequence number and the 66 bytes of payload, KIND and zero (R499) -/
  replay : List (Nat × List Byte) := []
  /-- flits to send again, oldest first, after a NAK or a retrain -/
  again  : List (Nat × List Byte) := []
  txSeq  : Nat := 0
  rxSeq  : Nat := 0
  /-- an in-order flit has been received (ACK valid) -/
  acked  : Bool := false
  /-- a NAK is due; a bad flit makes later ones be discarded until the sequence resumes -/
  nakDue : Bool := false
  disc   : Bool := false
  /-- consecutive NAKs of one SEQ, and that SEQ (R500) -/
  nakCnt : Nat := 0
  nakSeq : Nat := 0
  /-- credits spent per pool (depth − held) (R501), and credits owed to the far end per pool -/
  spent  : List (Nat × Nat) := []
  owed   : List (Nat × Nat) := []
  /-- packets received whole, oldest first; flits of a packet not yet whole per pool; buffer places taken per pool -/
  rxq    : List (Nat × CPkt) := []
  part   : List (Nat × List (List Byte)) := []
  occ    : List (Nat × Nat) := []
  /-- DAT flits among the flit times of the current 64 (R502) -/
  slot   : Nat := 0
  dat    : Nat := 0
  /-- retrain attempts that failed (R500) -/
  tries  : Nat := 0
  deriving DecidableEq, Repr

/-- A transfer a link stop originated and has not completed (R507 to R511). -/
structure Xfer where
  stop   : Nat
  tag    : Nat
  pull   : Bool
  dev    : Nat
  /-- the third device of a pull whose destination lies elsewhere -/
  dev2   : Nat
  len    : Nat
  begun  : Nat
  /-- packets whose PUSH_CPL has not returned; bytes written; worst status -/
  wait   : Nat := 0
  written : Nat := 0
  status : Nat := 0
  /-- the requester, and the copy of a tile that waits for it: logical tile -/
  rid    : Nat
  rtag   : Nat
  copy   : Option Nat := none
  /-- a plain read of this length fills the link stop's response buffer (R509) -/
  resp   : Option (List Byte) := none
  deriving DecidableEq, Repr

/-- A transfer that waits in a link stop's REQ ejection buffer for one of its 256 places (R510), with what it was asked with. -/
inductive XWait where
  | push (rid rtag dev off : Nat) (data : List Byte) (bad : List Nat) (count copy : Option Nat)
  | pull (rid rtag dev off len raddr dev2 : Nat) (resp : Bool) (copy : Option Nat)
  deriving DecidableEq, Repr

/-- A pull at a far link stop's pull engine (R508, R510). -/
structure PullJob where
  req    : CPkt
  /-- bytes pushed; PUSH_CPLs awaited; worst status -/
  pos    : Nat := 0
  wait   : Nat := 0
  status : Nat := 0
  deriving DecidableEq, Repr

/-- A colony lock request of this device that waits for its LOCK_RES (R520). -/
structure CLockReq where
  rid  : Nat
  tag  : Nat
  lock : Nat
  op   : Nat
  /-- TS of the request: a repeat carries it again -/
  ts   : Nat := 0
  deriving DecidableEq, Repr

/-- The last colony lock request of a device's requester at HOME, and its current result; `none` while it waits (R520). -/
structure LockSeen where
  tag : Nat
  ts  : Nat
  aux : Nat
  res : Option Nat := none
  deriving DecidableEq, Repr

/-- The colony (chapter 18). -/
structure Cpl where
  link    : List (Nat × CLink) := []
  xfers   : List Xfer := []
  /-- transfers that wait for a place of a link stop, oldest first: (stop, transfer) -/
  waiting : List (Nat × XWait) := []
  /-- pulls queued and pulls running, per link stop: (stop, job) -/
  pullQ   : List (Nat × PullJob) := []
  pullOn  : List (Nat × PullJob) := []
  /-- barrier, lock and notice messages waiting for CMSG: packet and the link it goes to (4: by route) -/
  msgs    : List (CPkt × Nat) := []
  /-- this device's last notice number; last number applied per origin (R514) -/
  notice  : Nat := 0
  applied : List (Nat × Nat) := []
  /-- ends reported down: device × 4 + link (R515) -/
  down    : List (Nat × Bool) := []
  /-- barrier generations per BID (R518) -/
  gen     : List (Nat × Nat) := []
  /-- at HOME: arrivals (channel, generation, device); a channel below 16 is a BID, 16 + engine the step channel of an engine, its
  generation the step T mod 2^16 -/
  arrive  : List (Nat × Nat × Nat) := []
  /-- this device's own arrivals not yet released: (channel, generation) -/
  pend    : List (Nat × Nat) := []
  locks   : List CLockReq := []
  /-- at HOME: device × 2048 + requester ID ↦ its last lock request -/
  seen    : List (Nat × Option LockSeen) := []
  /-- a device that has joined waits for the generations of all 16 BIDs: those it still lacks (R598) -/
  lacking : List Nat := []
  deriving DecidableEq, Repr

/-- A replay run beside its registers (chapter 19). -/
structure Rep where
  /-- ROOT periods withheld, and NCLK count, at RT = 0 (R524) -/
  nclk0 : Nat := 0
  /-- ROOT periods withheld when the RELOAD of the run realigned the clocks (R525) -/
  held0 : Nat := 0
  /-- fabric and engines are held as in SYNC_WAIT (R526) -/
  hold  : Bool := false
  deriving DecidableEq, Repr

/-- Everything of the EQ64 but the queue of commands. -/
structure Dev where
  /-- register fields by `Fld.key`; an unlisted field holds its reset value -/
  csr     : List (Nat × Nat) := []
  /-- bits of a W1C field that hardware set, and 1 + the cycle of the block's clock in which it did (R12); key as in `csr` -/
  hwSet   : List (Nat × (Nat × Nat)) := []
  /-- device memory: HBM keyed by controller × 6 GiB + L (R299), every other byte by its device address; unlisted bytes read 0 -/
  mem     : List Host.Cell := []
  /-- 8-byte words of it that are poisoned, and that hold an uncorrectable error not yet found (key: address / 8) -/
  poison  : List (Nat × Bool) := []
  /-- words of it with a single-bit error that no check has met yet (key: address / 8) -/
  soft    : List (Nat × Bool) := []
  /-- poisoned words of tile SRAM that hold fill data: their source has logged the cause (R439) -/
  quiet   : List (Nat × Bool) := []
  /-- NaN captures reported and not yet judged (R360): timestamp, physical tile, logical tile -/
  nanRep  : List (Nat × Nat × Nat) := []
  /-- what the last command sent out -/
  out     : List Out := []
  /-- the model's own draw counter of free values (log entry 1) -/
  freeCtr : Nat := 0
  clk     : Clk := {}
  rst     : Rst := {}
  load    : Load := {}
  keep    : Keep := {}
  ember   : Ember := {}
  safe    : Safe := {}
  sgd     : List (Nat × SgdChan) := []
  mgt     : Mgt := {}
  fab     : Fab := {}
  ann     : Ann := {}
  cel     : Cel := {}
  hbm     : List (Nat × Hbm) := []
  tile    : List (Nat × Tile) := []
  eng     : List (Nat × Eng) := []
  prt     : List (Nat × Prt) := []
  svc     : Svc := {}
  cpl     : Cpl := {}
  rep     : Rep := {}
  deriving DecidableEq, Repr

/-- The machine: the device and the commands that wait, first in, first out. -/
structure State where
  dev     : Dev
  pending : List Instr
  deriving DecidableEq, Repr

/-- Right after the first POR of a new part (R58, R59): every register at its reset value, memories zero, nothing pending. The reset
counter of Keep word 0 has counted it (R132), and its RESET entry waits for the power-up check of the Ember record (R60, R147).
EMB_CHAL and the fused part identity stand at the values log entry 10 names. -/
def State.reset : State :=
  { dev := { keep := { words := [(0, 1)], wear := [(0, 1)] }, ember := { ready := false, resetDue := [(0, 1)] } }, pending := [] }


end Sys2Proof.Machine
end

