-- ==== Sys2Proof/Machine/Ops.lean ====
section
/-! DEFINITION. The operations every command uses: register fields, what leaves the device, time, interrupts, status lines, Ember
entries and the reaction to each class of error, SAFE_N, and the abort of a replay run. -/

namespace Sys2Proof.Machine
open Sys2Proof.Machine.Reg

/-! ## Registers -/

/-- The value of a register field. -/
def Dev.fld (d : Dev) (f : Fld) (i : Nat := 0) (j : Nat := 0) : Nat := Sparse.get f.rst d.csr (f.key i j)

/-- Set a register field; a value wider than the field keeps its low bits. -/
def Dev.setF (d : Dev) (f : Fld) (v : Nat) (i : Nat := 0) (j : Nat := 0) : Dev :=
  { d with csr := Sparse.set f.rst d.csr (f.key i j) (v % 2 ^ f.w) }

/-- A one-bit field. -/
def Dev.flag (d : Dev) (f : Fld) (i : Nat := 0) (j : Nat := 0) : Bool := d.fld f i j != 0

/-- Bit `b` of a field. -/
def Dev.fbit (d : Dev) (f : Fld) (b : Nat) (i : Nat := 0) (j : Nat := 0) : Bool := bitAt (d.fld f i j) b

/-- Set or clear bit `b` of a field. -/
def Dev.setBit (d : Dev) (f : Fld) (b : Nat) (on : Bool) (i : Nat := 0) (j : Nat := 0) : Dev :=
  d.setF f (setBits (d.fld f i j) b 1 (if on then 1 else 0)) i j

/-- A counter field counts, saturating. -/
def Dev.inc (d : Dev) (f : Fld) (n : Nat := 1) (i : Nat := 0) (j : Nat := 0) : Dev :=
  d.setF f (satAdd f.w (d.fld f i j) n) i j

/-- Words of a region's configuration memory. -/
def frameWords : Nat := 196608

/-- The frame bytes of a region. -/
def Dev.frameBytes (d : Dev) (r : Nat) : List Byte :=
  (upTo frameWords).flatMap fun i => leBytes 8 (Sparse.get 0 d.load.frames (r * frameWords + i))

/-- Which of the four FCLKs region `r` runs on: its image selects it (R50, log entry 4). -/
def Dev.fclkOf (d : Dev) (r : Nat) : Nat := Config.frameFclk (d.frameBytes r) % 4

/-- ROOT periods of one FCLK cycle of region `r` (R50, R162). -/
def Dev.regionDiv (d : Dev) (r : Nat) : Nat := max 1 (d.clk.fclk.getD (d.fclkOf r) 24)

/-- FCLK edges of region `r` from its divider's last change to ROOT count `x`. -/
def Dev.regionEdges (d : Dev) (r x : Nat) : Nat := (x - d.clk.fclkAt.getD (d.fclkOf r) 0) / d.regionDiv r

/-- What timer `t` of region `r` has counted by now since its last match (R219): TSCLK ticks divided by PRE, or FCLK cycles. A divider change
and new frames leave what it had reached (`hxRebase`). -/
def Dev.hxRaw (d : Dev) (r t : Nat) : Nat :=
  let (n, at_) := Sparse.get (0, 0) d.fab.hxBase (16 * r + t)
  n + (if d.flag HX_SRC r t then d.regionEdges r d.clk.root - d.regionEdges r at_ else (d.clk.root - at_) / (12 * (d.fld HX_PRE r t + 1)))

/-- The ROOT count at which timer `t` reaches CMP, by the clock it counts now. -/
def Dev.hxMatchAt (d : Dev) (r t : Nat) : Nat :=
  let (n, at_) := Sparse.get (0, 0) d.fab.hxBase (16 * r + t)
  let left := d.fld HX_CMP r t - n
  if d.flag HX_SRC r t then d.clk.fclkAt.getD (d.fclkOf r) 0 + (d.regionEdges r at_ + left) * d.regionDiv r
  else at_ + left * (12 * (d.fld HX_PRE r t + 1))

/-- COUNT of timer `t` of region `r` (R219): a one-shot timer stops at CMP, a periodic one restarts at 0 in the cycle that reaches it. -/
def Dev.hxCount (d : Dev) (r t : Nat) : Nat :=
  if NatSet.has d.fab.hxStop (16 * r + t) then d.fld HX_CMP r t
  else if !NatSet.has d.load.loaded r && !NatSet.has d.fab.frozen r then 0
  else
    let n := d.hxRaw r t
    let c := d.fld HX_CMP r t
    if d.flag HX_PERIODIC r t then (if c = 0 then 0 else n % c) else min n c

/-- Timers of region `r` on FCLK go on from what they have reached, before its FCLK changes. -/
def Dev.hxRebase (d : Dev) (r : Nat) : Dev :=
  (upTo 16).foldl (fun d t =>
    if d.flag HX_SRC r t then
      { d with fab := { d.fab with hxBase := Sparse.set (0, 0) d.fab.hxBase (16 * r + t) (d.hxRaw r t, d.clk.root) } }
    else d) d

/-- The cycle of the clock on which the block of a register updates it (R12): MCLK, TCLK, NCLK, CCLK, or the FCLK of the region a
fabric register belongs to. -/
def Dev.blockCycle (d : Dev) (off : Nat) : Nat :=
  let core := d.clk.root - d.clk.withheld
  if off < 0x1000000 ∨ (0x7000000 ≤ off ∧ off < 0x8000000) then d.clk.root / 48
  else if off < 0x3000000 then core / 6
  else if off < 0x4000000 ∨ (0x5000000 ≤ off ∧ off < 0x9000000) then core / 4
  else if off < 0x5000000 then core / 8
  else
    d.regionEdges ((off - 0x9000000) / 0x800 / 192) d.clk.root

/-- The bits of a field that hardware set in the present cycle of its block's clock (R12). -/
def Dev.setNow (d : Dev) (f : Fld) (i : Nat := 0) (j : Nat := 0) : Nat :=
  let e := Sparse.get (0, 0) d.hwSet (f.key i j)
  if e.2 = d.blockCycle (f.at i j) + 1 then e.1 else 0

/-- Hardware sets bit `b` of a W1C field. A clear of it in the same cycle leaves it set (R12). -/
def Dev.raise (d : Dev) (f : Fld) (b : Nat := 0) (i : Nat := 0) (j : Nat := 0) : Dev :=
  let m := setBits (d.setNow f i j) b 1 1
  { d.setBit f b true i j with hwSet := Sparse.set (0, 0) d.hwSet (f.key i j) (m, d.blockCycle (f.at i j) + 1) }

/-- Something leaves the device. -/
def Dev.emit (d : Dev) (o : Out) : Dev := { d with out := d.out ++ [o] }

/-- A free value, and the state after the draw (log entry 1). -/
def Dev.draw (d : Dev) : Nat × Dev := (Config.freeValue d.freeCtr, { d with freeCtr := d.freeCtr + 1 })

/-- EMB_CHAL takes a fresh value: a free value (R150). -/
def Dev.freshChal (d : Dev) : Dev := (d.draw.2).setF EMB_CHAL d.draw.1

/-! ## Time and what runs -/

/-- An exact replay run is active (R523). -/
def Dev.running (d : Dev) : Bool := d.fld REP_STATE == 3

/-- The timestamp that rules stated in ticks use: RT in a run (R523). -/
def Dev.now (d : Dev) : Nat := if d.running then d.fld REP_RT else d.clk.ts

/-- ROOT periods that TCLK, NCLK and CCLK have received (R49). -/
def Dev.coreRoot (d : Dev) : Nat := d.clk.root - d.clk.withheld

/-- The NCLK count since ROOT lock (R49). -/
def Dev.nclk (d : Dev) : Nat := d.coreRoot / 4

/-- The core clocks run and nothing holds the core: ROOT locked, no reset held (R52, R58, R67, R69, R74, R612). -/
def Dev.live (d : Dev) : Bool :=
  d.flag CLK_ROOT_LOCK && !d.rst.vauxHold && !d.rst.pfailHold && !d.rst.jtagHold && !d.rst.rootLost && !d.rst.tripped
    && !d.rst.pfailDone

/-- MCLK runs: as `live`, but a thermal trip leaves MCLK (R74). -/
def Dev.mlive (d : Dev) : Bool :=
  d.flag CLK_ROOT_LOCK && !d.rst.vauxHold && !d.rst.pfailHold && !d.rst.jtagHold && !d.rst.rootLost && !d.rst.pfailDone

/-- OSC_SAF runs: anything but the time before VAUX is good (R52, R67, R627). -/
def Dev.safLive (d : Dev) : Bool := !d.rst.vauxHold

/-- CFG_STAT.STATE values (R124). -/
def Dev.cfgState (d : Dev) : Nat := d.fld CFG_STATE

/-- Fabric, tiles and engines are released: stage B has completed and nothing holds them (R101, R526). -/
def Dev.released (d : Dev) : Bool := d.live && d.load.bDone && !d.rep.hold && d.rst.reload.isNone

/-- What the timestamp holds after `n` more ticks (R55): RATE adds or withholds whole ticks, a negative OFFSET withholds one tick in
2,048; a tick adds 0, 1 or 2, so what two withhold of one tick is owed to the next. -/
def Dev.tsAfter (d : Dev) (n : Nat) : Clk :=
  let c := d.clk
  let frac := c.tsFrac + n * toSigned 16 (d.fld TSC_RATE)
  let extra := frac.tdiv (2 ^ 26)
  let held := min c.slewLeft ((c.slewPhase + n) / 2048)
  let sum : Int := n + extra - held - c.slewOwed
  { c with ts := c.ts + sum.toNat, tsFrac := frac - extra * 2 ^ 26, slewLeft := c.slewLeft - held, slewOwed := (-sum).toNat,
           slewPhase := if c.slewLeft ≤ held then 0 else (c.slewPhase + n) % 2048 }

/-- The least `n` of the `2 ^ k` from `lo` on at which `p`, once true, stays true. -/
def leastFrom (p : Nat → Bool) : Nat → Nat → Nat
  | 0, lo => lo
  | k + 1, lo => if p (lo + 2 ^ k - 1) then leastFrom p k lo else leastFrom p k (lo + 2 ^ k)

/-- Ticks until the timestamp is `t` or past it. -/
def Dev.ticksTo (d : Dev) (t : Nat) : Nat :=
  if t ≤ d.clk.ts then 0 else leastFrom (fun n => decide (t ≤ (d.tsAfter n).ts)) (Nat.log2 (t - d.clk.ts) + 3) 0

/-- PTP_PPS as output pulses for every multiple of 800,000,000 in (t, u] (R56): it is high for 1,000 ticks from the last of them, which
comes `n` ticks from now, and a pulse that runs is not cut short. -/
def Dev.ppsPass (d : Dev) (t u n : Nat) : Dev :=
  if d.flag TSC_PPS_OUT && decide (t / 800000000 < u / 800000000) then
    { d with clk := { d.clk with ppsUntil := max d.clk.ppsUntil (d.clk.tick + n + 1000) },
             out := d.out ++ List.replicate (u / 800000000 - t / 800000000) (.pulse "PTP_PPS" 1) }
  else d

/-- The command at the head of tile `t`'s issue order is a LAYER that waits for its weights: its entry is neither READY nor FAULT (R434). -/
def Dev.headWaits (d : Dev) (t : Nat) (x : Tile) : Bool :=
  let head := d.eng.findSome? fun e => (e.2.flight.find? fun c => c.todo.contains t || c.on.contains t).map fun c => (e.1, c)
  match head with
  | some (e, c) =>
    let mode := bits c.bytes 144 8
    c.todo.contains t && bits c.bytes 0 8 == 0x10 && (mode == 1 || mode == 2)
      && !x.ll.any fun y => y.engine == e && y.issued == some c.seq && !y.dead && (y.st == 3 || y.st == 4)
  | none => false

/-- TIL_LL_WAIT over `n` ticks of two TCLK each (R434). -/
def Dev.llWaits (d : Dev) (n : Nat) : Dev :=
  if !d.released then d else d.tile.foldl (fun d' e => if d.headWaits e.1 e.2 then d'.inc LL_WAIT (2 * n) e.1 else d') d

/-- `n` ticks pass: timestamp, RT of a run, waits for weights, ROOT count, tile ages (log entry 7: a command that falls due at a tick brings that tick). -/
def Dev.pass (d : Dev) (n : Nat) : Dev :=
  let c := d.tsAfter n
  let age := if d.released then n else 0
  let d := d.ppsPass d.clk.ts c.ts (d.ticksTo (c.ts / 800000000 * 800000000))
  let d := if c.slewLeft = 0 ∧ d.clk.slewLeft ≠ 0 then d.setF CLK_TS_SLEW 0 else d
  let d := if d.running then d.setF REP_RT (d.fld REP_RT + n) else d
  let d := d.llWaits n
  { d with clk := { c with ppsUntil := d.clk.ppsUntil, tick := c.tick + n, ageTick := c.ageTick + age, root := c.root + 12 * n } }

/-- The timestamp `t` (in a run: RT), if it has not come yet, comes. -/
def Dev.passTo (d : Dev) (t : Nat) : Dev := d.pass (if d.running then t - d.now else d.ticksTo t)

/-- The timestamp `t` itself comes, in a run too. -/
def Dev.stampTo (d : Dev) (t : Nat) : Dev := d.pass (d.ticksTo t)

/-- The tick `t` of the undisciplined count, if it has not come yet, comes. -/
def Dev.tickTo (d : Dev) (t : Nat) : Dev := d.pass (t - d.clk.tick)

/-- The test-port controllers and safety set-up are released (R101). -/
def Dev.aReleased (d : Dev) : Bool := d.live && d.load.aDone

/-- Do something when the core runs. -/
def Dev.onLive (d : Dev) (f : Dev → Dev) : Dev := if d.live then f d else d

/-! ## Interrupts and the status UART -/

/-- Raise MSI-X vector `v` (R574). The message leaves while the service port is up. -/
def Dev.msix (d : Dev) (v : Nat) : Dev :=
  let d := d.raise MGT_INT_STAT (v % 64) (v % 256 / 64)
  if d.svc.up then d.emit (.msix (v % 256)) else d

/-- INT_N is low (R574). -/
def Dev.intN (d : Dev) : Bool :=
  (upTo 4).any fun n => Nat.land (d.fld MGT_INT_STAT n) (d.fld MGT_INT_EN n) != 0

/-- The ASCII code of a hex digit, letters in capitals. -/
def hexDigit (n : Nat) : Byte := if n < 10 then BitVec.ofNat 8 (48 + n) else BitVec.ofNat 8 (55 + n)

/-- `k` hex digits of a number, most significant first. -/
def hexDigits : Nat → Nat → List Byte
  | 0, _ => []
  | k + 1, v => hexDigits k (v / 16) ++ [hexDigit (v % 16)]

/-- The 14 characters of a status line (R582). -/
def uartText (code ts : Nat) : List Byte :=
  BitVec.ofNat 8 66 :: hexDigits 2 code ++ [BitVec.ofNat 8 32] ++ hexDigits 8 (bits ts 8 32) ++ [BitVec.ofNat 8 13, BitVec.ofNat 8 10]

/-- A queued line that carries the code 0xF1 or 0xF2. -/
def uartUrgent (l : List Byte) : Bool :=
  (l.drop 1).take 2 == [hexDigit 15, hexDigit 1] || (l.drop 1).take 2 == [hexDigit 15, hexDigit 2]

/-- Queue a status line (R582): ahead of every other for the codes 0xF1 and 0xF2, behind a waiting line of those two (log entry 186);
dropped and counted when 32 wait. -/
def Dev.uart (d : Dev) (code : Nat) : Dev :=
  if 32 ≤ d.mgt.uart.length then d.inc MGT_UART_DROP
  else
    let line := uartText code d.clk.ts
    let q := d.mgt.uart
    let q := if code = 0xF1 ∨ code = 0xF2 then q.takeWhile uartUrgent ++ line :: q.dropWhile uartUrgent else q ++ [line]
    { d with mgt := { d.mgt with uart := q } }

/-! ## Ember: detail fields (R624) -/

/-- The number of a unit. -/
def dU (w v : Nat) : DF := ⟨w, v, true⟩
/-- A code. -/
def dC (v : Nat) : DF := ⟨1, v, true⟩
/-- A bit mask of `w` bytes. -/
def dM (w v : Nat) : DF := ⟨w, v, true⟩
/-- A device address or controller-local address. -/
def dA (v : Nat) : DF := ⟨6, v, true⟩
/-- A CSR offset or another 4-byte place. -/
def dO (v : Nat) : DF := ⟨4, v, true⟩
/-- A count, a length or another 4-byte quantity. -/
def dN (v : Nat) : DF := ⟨4, v, false⟩
/-- A signed 4-byte quantity. -/
def dI (v : Int) : DF := ⟨4, ofSigned 32 v, false⟩
/-- A timestamp or another 8-byte quantity. -/
def dT (v : Nat) : DF := ⟨8, v, false⟩
/-- A run of `w` bytes. -/
def dB (w v : Nat) : DF := ⟨w, v, false⟩

/-- The detail bytes, without gaps (R624). -/
def detailBytes (l : List DF) : List Byte := l.flatMap fun f => leBytes f.w f.v

/-! ## Ember: the commit queue -/

/-- Number of a class (R140). -/
def Cls.code : Cls → Nat
  | .I => 0
  | .D => 1
  | .F => 2
  | .S => 3

/-- Two entries come from the same source (R146); class S never merges. -/
def EmbEnt.sameSource (a b : EmbEnt) : Bool :=
  a.event == b.event && a.inst == b.inst && a.cls != .S && b.cls != .S
    && a.detail.filter (·.src) == b.detail.filter (·.src)

/-- Merge an event into the queue, if an entry of the same source waits (R146). -/
def mergeEnt (e : EmbEnt) : List EmbEnt → Option (List EmbEnt)
  | [] => none
  | a :: r =>
    if a.sameSource e then some ({ a with merged := true, count := satAdd 32 a.count 1 } :: r)
    else (mergeEnt e r).map (a :: ·)

/-- Queue an entry: merged, placed, or lost and counted (R145, R146). One raised while the pinned area is cleared is not pinned (R151). -/
def Dev.post (d : Dev) (e : EmbEnt) : Dev :=
  let e := { e with noPin := d.flag EMB_CLEARING }
  match mergeEnt e d.ember.queue with
  | some q => { d with ember := { d.ember with queue := q } }
  | none =>
    let n := d.ember.queue.length
    if n < 56 ∨ (n < 64 ∧ 2 ≤ e.cls.code) then { d with ember := { d.ember with queue := d.ember.queue ++ [e] } }
    else
      let d := { d with ember := { d.ember with lost := d.ember.lost + 1, lostCls := min d.ember.lostCls e.cls.code } }
      d.inc EMB_LOST

/-! ## Replay aborts (R534) -/

/-- A replay run aborts: the fixed behaviours end, nothing is rolled back, a class D entry REP_ABORT is queued (R534). A
member of a colony run whose run aborts also retrains its links (R537); that is `CPL_LINK_DOWN`'s to report. -/
def Dev.repAbort (d : Dev) (reason ev inst : Nat) : Dev :=
  if d.running then
    let rt := d.fld REP_RT
    let e : EmbEnt := { ts := d.clk.ts, event := 0x000E, cls := .D, replay := true,
                        detail := [dC reason, dT rt, dC (ev / 256), dU 2 inst] }
    (((d.setF REP_STATE 5).setF REP_REASON reason).setF REP_EVT rt).post e
  else d

/-! ## Class S: SAFE_N and the engines -/

/-- What drives SAFE_N low (R64, R562). -/
def Dev.safeNLow (d : Dev) : Bool :=
  d.flag SAF_S_PENDING || !d.flag SAF_LOCK || !d.flag SAF_COVERED || !d.safe.setUp || d.safe.reload || d.rst.pfail

/-- SAFE_N goes low at once when something asserts it (R562); it returns high by SAFE_N_RELEASE. -/
def Dev.driveSafeN (d : Dev) : Dev :=
  if d.safeNLow && !d.safe.low then
    ({ d with safe := { d.safe with low := true, lowAt := d.clk.tick } }.setF SAF_PIN 0).emit (.pulse "SAFE_N" 0)
  else d

/-- A running handover ends without a switch: OUT returns to SPARE (R46). -/
def Dev.handoverOff (d : Dev) : Dev :=
  ({ d with safe := { d.safe with handover := none }, ann := { d.ann with hand := none } }.setF SPARE_HO 0).setF SPARE_OUT (d.fld SPARE_SPARE)

/-- An engine halts (R415, R563): it stops issuing, its state reads HALTED. An idle engine has nothing to halt. -/
def Dev.haltEngine (d : Dev) (e : Nat) : Dev := if d.fld CE_STATE e = 1 then d.setF CE_STATE 2 e else d

/-- Every engine halts. -/
def Dev.haltEngines (d : Dev) : Dev := (upTo 16).foldl Dev.haltEngine d

/-- A class S detection of event `ev`: SAF_FIRST keeps the first pending cause, of several in one MCLK the lowest code (R563). -/
def Dev.firstCause (d : Dev) (ev : Nat) : Dev :=
  let m := some (d.clk.root / 48)
  let takes := !d.flag SAF_S_PENDING || (d.safe.sFirst == m && decide (ev < d.fld SAF_FIRST_EVENT))
  let e := if takes then (d.setF SAF_FIRST_EVENT ev).setF SAF_FIRST_TS (d.clk.ts % 2 ^ 48) else d
  { e with safe := { d.safe with sFirst := if takes then m else d.safe.sFirst, sLast := m } }

/-- The reaction to a class S detection of event `ev` (R563): S_PENDING, SAF_FIRST, SAFE_N, engines, vector, status line. Several in one
MCLK act once; of those, SAF_FIRST keeps the lowest code. -/
def Dev.reactS (d : Dev) (ev : Nat) : Dev :=
  let first := !d.flag SAF_S_PENDING
  let again := !first && d.safe.sLast == some (d.clk.root / 48)
  let d := ((d.firstCause ev).setF SAF_S_PENDING 1).driveSafeN
  let d := if d.flag SAF_HALT_CE then d.haltEngines else d
  let d := if again then d else d.msix (d.fld SAF_VEC)
  if first then d.uart 0xF0 else d

/-- Class S causes that stay until SYS or POR (R565). -/
def stickyEvents : List Nat := [0x0203, 0x0207, 0x0208, 0x0004, 0x3001, 0x5002]

/-- Report an event of class I, D, F or S from unit `inst`: its Ember entry, and what its class does (R14, R140, R563, R574). -/
def Dev.logEv (d : Dev) (ev : Nat) (cls : Cls) (inst : Nat) (detail : List DF) (opened : Bool := false) : Dev :=
  let d := if stickyEvents.contains ev then { d with safe := { d.safe with sticky := ev :: d.safe.sticky } } else d
  let d := d.post { ts := d.clk.ts, event := ev, cls := cls, inst := inst, opened := opened, replay := d.running, detail := detail }
  match cls with
  | .S => (d.repAbort 9 ev inst).reactS ev
  | _ => d

/-- A class F event that names no vector of its own also raises MGT_CFG.F_VEC (R574). -/
def Dev.logF (d : Dev) (ev inst : Nat) (detail : List DF) : Dev := (d.logEv ev .F inst detail).msix (d.fld MGT_F_VEC)

/-- An uncorrectable-error event of class D: it also aborts a run (R534, code 9). -/
def Dev.logUE (d : Dev) (ev inst : Nat) (detail : List DF) : Dev := (d.logEv ev .D inst detail).repAbort 9 ev inst

/-! ## CSR_ACCESS entries (R8, R625) -/

/-- The code of a path (R625). -/
def pathCode : Path → Nat
  | .servicePort => 0
  | .smbus => 1
  | .jtag => 2
  | .fabric _ => 3
  | .csrSet => 4

/-- A CSR_ACCESS entry: offset, width, path, cause (R625). The width is written in bits (log entry 155). -/
def Dev.csrAccess (d : Dev) (off bytes path cause : Nat) : Dev :=
  d.logEv 0x0008 .D 0 [dO off, dC (8 * bytes), dC path, dC cause]

/-! ## Keep words the device owns (R132) -/

/-- Read a Keep word. -/
def Dev.keepWord (d : Dev) (n : Nat) : Nat := Sparse.get 0 d.keep.words n

/-- A completed Keep write: the word and its wear counter change together (R134, R135, R136). -/
def Dev.keepCommit (d : Dev) (n v : Nat) : Dev :=
  let w := Sparse.get 0 d.keep.wear n
  let w' := satAdd 32 w 1
  let d := { d with keep := { d.keep with words := Sparse.set 0 d.keep.words n (v % 2 ^ 64),
                                          wear := Sparse.set 0 d.keep.wear n w',
                                          ecc := Sparse.set 0 (Sparse.set 0 d.keep.ecc n 0) (4096 + n) 0 } }
  if w = 1000000 then (d.setF KEEP_WORN_ANY 1).logEv 0x0401 .D 0 [dU 2 n, dN w'] else d

/-! ## Structured parts by number -/

/-- Port die `n`. -/
def Dev.prtOf (d : Dev) (n : Nat) : Prt := Sparse.get {} d.prt n
/-- Change port die `n`. -/
def Dev.setPrt (d : Dev) (n : Nat) (p : Prt) : Dev := { d with prt := Sparse.set {} d.prt n p }
/-- Logical tile `t`. -/
def Dev.tileOf (d : Dev) (t : Nat) : Tile := Sparse.get {} d.tile t
/-- Change logical tile `t`. -/
def Dev.setTile (d : Dev) (t : Nat) (x : Tile) : Dev := { d with tile := Sparse.set {} d.tile t x }
/-- Engine `e`. -/
def Dev.engOf (d : Dev) (e : Nat) : Eng := Sparse.get {} d.eng e
/-- Change engine `e`. -/
def Dev.setEng (d : Dev) (e : Nat) (x : Eng) : Dev := { d with eng := Sparse.set {} d.eng e x }
/-- HBM controller `h`. -/
def Dev.hbmOf (d : Dev) (h : Nat) : Hbm := Sparse.get {} d.hbm h
/-- Change HBM controller `h`. -/
def Dev.setHbm (d : Dev) (h : Nat) (x : Hbm) : Dev := { d with hbm := Sparse.set {} d.hbm h x }
/-- Coupling link `k`. -/
def Dev.linkOf (d : Dev) (k : Nat) : CLink := Sparse.get {} d.cpl.link k
/-- Change coupling link `k`. -/
def Dev.setLink (d : Dev) (k : Nat) (x : CLink) : Dev := { d with cpl := { d.cpl with link := Sparse.set {} d.cpl.link k x } }
/-- Queue state of fabric RAM block `b`. -/
def Dev.qcOf (d : Dev) (b : Nat) : Qc := Sparse.get {} d.fab.qc b
/-- Change the queue state of block `b`. -/
def Dev.setQc (d : Dev) (b : Nat) (x : Qc) : Dev := { d with fab := { d.fab with qc := Sparse.set {} d.fab.qc b x } }
/-- The ring gate of region `r`. -/
def Dev.gateOf (d : Dev) (r : Nat) : Gate := Sparse.get {} d.fab.gate r
/-- Change the ring gate of region `r`. -/
def Dev.setGate (d : Dev) (r : Nat) (x : Gate) : Dev := { d with fab := { d.fab with gate := Sparse.set {} d.fab.gate r x } }

/-! ## Commands -/

/-- The canonical form of device memory: addresses strictly rising, no entry equal to what an unlisted address reads as. -/
def Memory.wf (m : List Host.Cell) : Bool := Sparse.wf (0 : Byte) m

/-- Memory stands in its canonical form after every command. The operations keep it; this says so of any effect. -/
def Dev.tidy (d : Dev) : Dev := if Memory.wf d.mem then d else { d with mem := Sparse.norm (0 : Byte) d.mem }

/-- A command's effect as an outcome: what the last command sent out is gone, the queue stays (`exec` never touches it). -/
def run (s : State) (f : Dev → Dev) : Host.Outcome State Fault Refusal := .next { s with dev := (f { s.dev with out := [] }).tidy }

end Sys2Proof.Machine
end

