-- ==== Sys2Proof/Machine/Addr.lean ====
section
/-! DEFINITION. Addresses: the stops of the Annulus, the device address map, the statuses of an address, and the bytes behind it. -/

namespace Sys2Proof.Machine
open Sys2Proof.Machine.Reg

/-! ## Stops (R19 to R21) -/

/-- The base of quadrant `q`'s pattern (R19). -/
def quadBase (q : Nat) : Nat := if q = 0 then 2 else if q = 1 then 31 else if q = 2 then 61 else 90

/-- The stop of place `k` of group `g` of quadrant `q` (R20). -/
def stopAt (q g k : Nat) : Nat := quadBase q + 7 * g + k

/-- The stop of a physical tile (R19, R20). -/
def tileStop (p : Nat) : Nat := if p = 64 then 1 else stopAt (p / 16) (p % 16 / 4) (p % 4)
/-- The stop of a Cellar slice. -/
def celStop (s : Nat) : Nat := stopAt (s / 4) (s % 4) 4
/-- The stop of an HBM controller. -/
def hbmStop (h : Nat) : Nat := stopAt (h / 4) (h % 4) 5
/-- Ring-gate stop `j` (R20, R21). -/
def gateStop (j : Nat) : Nat := stopAt (j / 2) (if j % 2 = 0 then 0 else 2) 6
/-- The bridge stop of port die `d`. -/
def bridgeStop (d : Nat) : Nat := stopAt d 1 6
/-- The stop of coupling link `k`. -/
def cplStop (k : Nat) : Nat := stopAt k 3 6
/-- The management/safety stop. -/
def mgmtStop : Nat := 59

/-- Stops that never inject or eject (R22). -/
def reservedStop (s : Nat) : Bool := s == 30 || s == 60 || s == 89

/-- What sits at a stop. -/
inductive StopKind where
  | ce | tile (p : Nat) | cel (s : Nat) | hbm (h : Nat) | gate (j : Nat) | bridge (d : Nat) | cpl (k : Nat) | mgmt | none
  deriving DecidableEq, Repr

/-- The quadrant of a stop (R19). -/
def quadOf (s : Nat) : Nat := if s < 30 then 0 else if s < 59 then 1 else if s < 89 then 2 else 3

/-- What sits at stop `s` (R19, R20). -/
def stopKind (s : Nat) : StopKind :=
  if s = 0 then .ce else if s = 1 then .tile 64 else if s = 59 then .mgmt else if reservedStop s ∨ 118 ≤ s then .none
  else
    let q := quadOf s
    let x := s - quadBase q
    let g := x / 7
    let k := x % 7
    if k < 4 then .tile (16 * q + 4 * g + k) else if k = 4 then .cel (4 * q + g) else if k = 5 then .hbm (4 * q + g)
    else if g = 0 then .gate (2 * q) else if g = 1 then .bridge q else if g = 2 then .gate (2 * q + 1) else .cpl q

/-- Physical tile of a logical tile (R25, R47). -/
def Dev.ptile (d : Dev) (t : Nat) : Nat := d.safe.map.getD t 64

/-- Logical tile a physical tile hosts; 64 for the spare. -/
def Dev.ltile (d : Dev) (p : Nat) : Nat := (upTo 64).find? (fun t => d.ptile t == p) |>.getD 64

/-- Requester ID (R235). -/
def ridOf (stop unit : Nat) : Nat := stop * 16 + unit

/-! ## Deadlines (R304, R443 to R445) -/

/-- DLINE of a deadline tick (R445). -/
def dlineAt (D : Int) : Nat := (D / 64 % 65535).toNat

/-- DLINE as a requesting unit sets it (R444, R487, R507, R510, R586); 0xFFFF, no deadline, where no chapter sets one (log entry 174).
`posted`: a record of a capture ring or of the probes. -/
def Dev.dlineOf (d : Dev) (stop unit : Nat) (posted : Bool) : Nat :=
  match stopKind stop with
  | .ce => dlineAt d.now
  | .tile p => dlineAt (d.now + if unit = 2 then 64 * d.fld LL_COPY_SLACK (d.ltile p) else 0)
  | .cpl k => dlineAt (d.now + 64 * d.fld CPL_SLACK k)
  | .bridge _ => if posted then dlineAt (d.now + 1024) else 0xFFFF
  | .mgmt => if posted then dlineAt (d.now + 1024) else 0xFFFF
  | _ => 0xFFFF

/-- The access being served comes from requester `orig` with a deadline bucket. -/
def Dev.causedBy (d : Dev) (orig dline : Nat) : Dev := { d with cel := { d.cel with orig := orig, dline := dline } }

/-- Slack of a deadline bucket (R445); a request without a deadline ranks last. -/
def Dev.slack (d : Dev) (dline : Nat) : Nat :=
  if dline = 0xFFFF then 65536
  else
    let s := (dline + 65535 - d.now / 64 % 65535) % 65535
    if 32768 ≤ s then 0 else s

/-- An arbitration register of instance `i` as one value, from its eight fields in ascending order. -/
def Dev.arbValue (d : Dev) (fs : List Fld) (i : Nat) : Nat := fs.foldl (fun v f => v + d.fld f i * 2 ^ f.lo) 0

/-- The class set an arbiter chooses over the classes that have a ready request (R306, R307); `none`: the opportunity stays idle. -/
def ArbWin.classes (w : ArbWin) (has : Nat → Bool) : Option (List Nat) :=
  let arb := w.arb
  if bits arb 0 2 = 1 then
    let own := if w.n < bits arb 32 7 then 0 else if w.n < bits arb 32 7 + bits arb 40 7 then 1 else 2
    if has own then some [own]
    else if bitAt arb 56 then none
    else ([(own + 1) % 3, (own + 2) % 3].find? has).map fun k => [k]
  else
    match [0, 1, 2].find? fun k => has k && decide (w.per.getD k 0 < bits arb (8 + 8 * k) 7) with
    | some k => some [k]
    | none => some [0, 1, 2]

/-- The window after a grant to a class, or after an idle opportunity. -/
def ArbWin.granted (w : ArbWin) (c : Option Nat) : ArbWin :=
  if w.n + 1 = 64 then { w with n := 0, per := [0, 0, 0] }
  else { w with n := w.n + 1, per := match c with
    | some k => w.per.set k (w.per.getD k 0 + 1)
    | none => w.per }

/-- CLASS of a request (R304, R447): 2 remote, from a coupling-link stop; else 1 a write, 0 a read. -/
def clsOf (rid : Nat) (write : Bool) : Nat :=
  match stopKind (rid / 16) with
  | .cpl _ => 2
  | _ => if write then 1 else 0

/-- The fields of a requester as an ID (R235). -/
def reqId (q : Rq) : Nat := ridOf q.stop.val q.unit.val

/-! ## Device addresses (R30, R31) -/

/-- End of the HBM range. -/
def hbmEnd : Nat := 0x0018_0000_0000
/-- Bytes of one controller. -/
def hbmSize : Nat := 6 * 2 ^ 30

/-- Where an address leads (R30). -/
inductive Place where
  | hbm
  | scratch (slice off : Nat)
  | tile (t off : Nat)
  | ram (b off : Nat)
  | host (die off : Nat)
  | remote (dev off : Nat)
  | none
  deriving DecidableEq, Repr

/-- The range table (R30). -/
def placeOf (a : Nat) : Place :=
  if a < hbmEnd then .hbm
  else if 0x0100_0000_0000 ≤ a ∧ a < 0x0100_8000_0000 then .scratch ((a - 0x0100_0000_0000) / 2 ^ 27) ((a - 0x0100_0000_0000) % 2 ^ 27)
  else if 0x0200_0000_0000 ≤ a ∧ a < 0x0200_0800_0000 then .tile ((a - 0x0200_0000_0000) / 2 ^ 21) (a % 2 ^ 21)
  else if 0x0300_0000_0000 ≤ a ∧ a < 0x0300_0600_0000 then .ram ((a - 0x0300_0000_0000) / 2 ^ 14) (a % 2 ^ 14)
  else if 0x4000_0000_0000 ≤ a ∧ a < 0x8000_0000_0000 then .host ((a - 0x4000_0000_0000) / 2 ^ 44) (a % 2 ^ 44)
  else if 0x8000_0000_0000 ≤ a ∧ a < 2 ^ 48 then .remote ((a - 0x8000_0000_0000) / 2 ^ 38) (a % 2 ^ 38)
  else .none

/-- One past the last address of the window an address starts in (R39); in a remote window, of its range of R37, or of the whole
window when its offset lies in none. -/
def windowEnd (a : Nat) : Nat :=
  match placeOf a with
  | .hbm => hbmEnd
  | .scratch _ _ => 0x0100_8000_0000
  | .tile t _ => 0x0200_0000_0000 + (t + 1) * 2 ^ 21
  | .ram b _ => 0x0300_0000_0000 + (b + 1) * 2 ^ 14
  | .host d _ => 0x4000_0000_0000 + (d + 1) * 2 ^ 44
  | .remote dev off =>
    0x8000_0000_0000 + dev * 2 ^ 38 +
      (if off < 0x18_0000_0000 then 0x18_0000_0000
       else if 0x20_0000_0000 ≤ off ∧ off < 0x20_8000_0000 then 0x20_8000_0000
       else if 0x30_0000_0000 ≤ off ∧ off < 0x30_0800_0000 then 0x30_0800_0000 else 2 ^ 38)
  | .none => 0

/-- The member's own address behind an offset of a remote window (R37); `none` for an offset the table does not list. -/
def remoteOffset (off : Nat) : Option Nat :=
  if off < 0x18_0000_0000 then some off
  else if 0x20_0000_0000 ≤ off ∧ off < 0x20_8000_0000 then some (0x0100_0000_0000 + (off - 0x20_0000_0000))
  else if 0x30_0000_0000 ≤ off ∧ off < 0x30_0800_0000 then some (0x0200_0000_0000 + (off - 0x30_0000_0000))
  else none

/-- Interleave granule of GLB_ADDR_MAP (R44); 0 for linear. -/
def Dev.granule (d : Dev) : Nat :=
  match d.fld MAP_HBM_IL with
  | 0 => 4096
  | 1 => 256
  | 2 => 65536
  | _ => 0

/-- Controller and controller-local address of an HBM address (R31). -/
def Dev.hbmOfAddr (d : Dev) (a : Nat) : Nat × Nat :=
  let g := d.granule
  if g = 0 then (a / hbmSize, a % hbmSize) else (a / g % 16, a / (16 * g) * g + a % g)

/-- The HBM device address of local address `L` of controller `h` (R31, inverted). -/
def Dev.addrOfHbm (d : Dev) (h L : Nat) : Nat :=
  let g := d.granule
  if g = 0 then h * hbmSize + L else (L / g * 16 + h) * g + L % g

/-- The key of a byte in the device's memory: HBM by controller and L, everything else by its address. -/
def Dev.phys (d : Dev) (a : Nat) : Nat :=
  if a < hbmEnd then (d.hbmOfAddr a).1 * hbmSize + (d.hbmOfAddr a).2 else a

/-- Home slice of a cacheable address (R277): HBM and host lines by the hash, scratch by its part. -/
def homeSlice (a : Nat) : Nat :=
  match placeOf a with
  | .scratch s _ => s
  | .host _ off => Nat.xor (bits off 8 4) (bits off 28 4)
  | _ => Nat.xor (bits a 8 4) (bits a 28 4)

/-! ## Bytes -/

/-- Bytes of one ECC granule behind an address: a burst of HBM (R313), else a word (R165, R273, R295). -/
def eccGran (a : Nat) : Nat := if a < hbmEnd then 32 else 8

/-- One byte of the backing store, by device address. -/
def Dev.byte (d : Dev) (a : Nat) : Byte := Sparse.get 0 d.mem (d.phys a)

/-- Write one byte of the backing store. -/
def Dev.putByte (d : Dev) (a : Nat) (b : Byte) : Dev := { d with mem := Sparse.set (0 : Byte) d.mem (d.phys a) b }

/-- `n` bytes of the backing store from address `a`. -/
def Dev.rawRead (d : Dev) (a n : Nat) : List Byte := (upTo n).map fun i => d.byte (a + i)

/-- Is a word of `[a, a + n)` poisoned or uncorrectable? -/
def Dev.rawBad (d : Dev) (a n : Nat) : Bool := (upTo n).any fun i => NatSet.has d.poison (d.phys (a + i) / 8)

/-- Mark or clear the words of `[a, a + n)`. Fresh check bits end a single-bit error too. -/
def Dev.markBad (d : Dev) (a n : Nat) (on : Bool) : Dev :=
  (upTo n).foldl (fun d i =>
    let k := d.phys (a + i) / 8
    { d with poison := Sparse.set false d.poison k on, soft := if on then d.soft else Sparse.set false d.soft k false }) d

/-- A single-bit error befalls the word at `a`, unless a worse one stands there. -/
def Dev.softAt (d : Dev) (a : Nat) : Dev :=
  let k := d.phys a / 8
  if NatSet.has d.poison k then d else { d with soft := Sparse.set false d.soft k true }

/-- Words of `[a, a + n)` with a single-bit error: a check corrects them on the way out and writes them back. -/
def Dev.softCount (d : Dev) (a n : Nat) : Nat := (upTo ((a + n + 7) / 8 - a / 8)).countP fun i => NatSet.has d.soft (d.phys (8 * (a / 8 + i)) / 8)
/-- They are written back corrected. -/
def Dev.softFix (d : Dev) (a n : Nat) : Dev :=
  (upTo ((a + n + 7) / 8 - a / 8)).foldl (fun d i => { d with soft := Sparse.set false d.soft (d.phys (8 * (a / 8 + i)) / 8) false }) d

/-- Write bytes, low address first. -/
def Dev.putBytes (d : Dev) : Nat → WrBytes → Dev
  | _, [] => d
  | a, none :: r => d.putBytes (a + 1) r
  | a, some b :: r => (d.putByte a b).putBytes (a + 1) r

/-- Does a write of `w` at `a` cover every byte of granule `k` of size `g`? -/
def covers (a : Nat) (w : WrBytes) (g k : Nat) : Bool :=
  (upTo g).all fun j => decide (a ≤ k * g + j) && (w.getD (k * g + j - a) none).isSome

/-- Does a write of `w` at `a` touch a byte of granule `k` of size `g`? -/
def touches (a : Nat) (w : WrBytes) (g k : Nat) : Bool :=
  (upTo g).any fun j => decide (a ≤ k * g + j) && (w.getD (k * g + j - a) none).isSome

/-- A write gives granule `k` fresh check bits: one it covers (R313), and in a fabric RAM block one it touches (R166). -/
def freshens (a : Nat) (w : WrBytes) (g k : Nat) : Bool :=
  match placeOf a with
  | .ram _ _ => touches a w g k
  | _ => covers a w g k

/-- A write to the backing store: the bytes, and fresh check bits for every granule that gets them (R166, R313). -/
def Dev.rawWrite (d : Dev) (a : Nat) (w : WrBytes) : Dev :=
  let d := d.putBytes a w
  let g := eccGran a
  (upTo (w.length / g + 2)).foldl
    (fun d i => let k := a / g + i; if freshens a w g k then d.markBad (k * g) g false else d) d

/-- Bytes to write, all enabled. -/
def allOn (bs : List Byte) : WrBytes := bs.map some

/-! ## Address statuses (R40, R43) -/

/-- A slice is in scratch mode. -/
def Dev.sliceScratch (d : Dev) (s : Nat) : Bool := d.flag CEL_MODE s

/-- Slices whose part of the scratch window `[a, a + n)` touches. -/
def scratchSlices (a n : Nat) : List Nat :=
  (upTo 16).filter fun s =>
    decide (0x0100_0000_0000 + s * 2 ^ 27 < a + n) && decide (a < 0x0100_0000_0000 + (s + 1) * 2 ^ 27)

/-- The tile-cache size of R274: CACHE_Q × 128 KiB, values above 4 acting as 4. -/
def Dev.tcSize (d : Dev) : Nat := min (d.fld TIL_CACHE_Q) 4 * 2 ^ 17

/-- First offset of the tile-cache portion (R274). -/
def Dev.tcBase (d : Dev) : Nat := 2 ^ 21 - d.tcSize

/-- A region is under exchange: from FROZEN until it thaws (R35, R213). -/
def Dev.regionBusy (d : Dev) (r : Nat) : Bool := NatSet.has d.fab.frozen r

/-- The device's own ID in its colony (R38, R494). -/
def Dev.isSelf (d : Dev) (dev : Nat) : Bool := dev == d.fld COL_ID

/-- Controllers that `[a, a + n)` of HBM reaches. -/
def Dev.hbmTouched (d : Dev) (a n : Nat) : List Nat :=
  (upTo 16).filter fun h => (upTo n).any fun i => (d.hbmOfAddr (a + i)).1 == h

/-- A home slice's Cellar die is down, or a controller behind it (R43). -/
def Dev.dieDown (d : Dev) (a n : Nat) : Option Nat :=
  match placeOf a with
  | .hbm =>
    match (d.hbmTouched a n).find? (fun h => !d.fbit DIE_HBM_CTL_OK h) with
    | some h => some h
    | none => (scratchDies a n).find? fun c => !d.fbit DIE_CEL_OK c
  | .scratch _ _ => ((scratchSlices a n).find? (fun s => !d.fbit DIE_CEL_OK (s / 8))).map (· / 8)
  | .host die _ => if d.fbit DIE_PD_UP die then none else some die
  | _ => none
where
  /-- Cellar dies that home the lines of an HBM access. -/
  scratchDies (a n : Nat) : List Nat := (upTo ((a + n + 255) / 256 - a / 256)).map fun i => homeSlice (256 * (a / 256 + i)) / 8

end Sys2Proof.Machine
end

