-- ==== Sys2Proof/Machine/CelOps.lean ====
section
/-! DEFINITION. The Cellar and the tile caches: lines, directory, snoops, evictions, and what a completed request does (chapter 09).
A line is named by its device address divided by 256. -/

namespace Sys2Proof.Machine
open Sys2Proof.Machine.Reg

/-! ## Lines as bytes -/

/-- Byte `i` of a line. -/
def lineByte (x : BitVec 2048) (i : Nat) : Byte := x.extractLsb' (8 * i) 8
/-- A line of 256 bytes. -/
def lineOfBytes (bs : List Byte) : BitVec 2048 := BitVec.ofNat 2048 (leNat bs)
/-- Bytes `[lo, hi)` of a line. -/
def lineSlice (x : BitVec 2048) (lo hi : Nat) : List Byte := (upTo (hi - lo)).map fun i => lineByte x (lo + i)

/-- Sectors of `new` where the mask has a 1, of `old` elsewhere. -/
def mergeSectors (mask : Nat) (old new : BitVec 2048) : BitVec 2048 :=
  lineOfBytes ((upTo 256).map fun i => if bitAt mask (i / 64) then lineByte new i else lineByte old i)

/-- Enabled bytes of a write that begins at byte `lo` of the line, over the old line. -/
def mergeBytes (old : BitVec 2048) (lo : Nat) (w : WrBytes) : BitVec 2048 :=
  lineOfBytes ((upTo 256).map fun i => if lo ≤ i then (w.getD (i - lo) none).getD (lineByte old i) else lineByte old i)

/-- The mask of sectors for which a test holds. -/
def sectorMask (p : Nat → Bool) : Nat := (upTo 4).foldl (fun m i => m + bitIf (p i) i) 0

/-- Sectors that `[lo, hi)` touches. -/
def sectorsOf (lo hi : Nat) : Nat := sectorMask fun i => decide (64 * i < hi) && decide (lo < 64 * (i + 1))
/-- Sectors with an enabled byte of the write. -/
def sectorsWritten (lo : Nat) (w : WrBytes) : Nat :=
  sectorMask fun i => (upTo 64).any fun j => decide (lo ≤ 64 * i + j) && (w.getD (64 * i + j - lo) none).isSome
/-- Sectors the write covers fully (R281). -/
def sectorsFull (lo : Nat) (w : WrBytes) : Nat := sectorMask fun i => covers lo w 64 i

/-- Bits of `a` not in `b` (4-bit masks). -/
def maskMinus (a b : Nat) : Nat := Nat.land a (Nat.xor (Nat.land b 15) 15)

/-- The lines that `[a, a + n)` touches. -/
def linesOf (a n : Nat) : List Nat := if n = 0 then [] else (upTo ((a + n - 1) / 256 - a / 256 + 1)).map (a / 256 + ·)

/-! ## The parts of the state -/

/-- Home slice of a line. -/
def homeOf (k : Nat) : Nat := homeSlice (256 * k)
/-- The Cellar line, if the slice holds it. -/
def Dev.celLine (d : Dev) (k : Nat) : Option Line := Sparse.get none d.cel.lines k
/-- Put or drop a Cellar line. -/
def Dev.setCel (d : Dev) (k : Nat) (l : Option Line) : Dev := { d with cel := { d.cel with lines := Sparse.set none d.cel.lines k l } }
/-- The directory state of a line (R283). -/
def Dev.dirOf (d : Dev) (k : Nat) : Dir := Sparse.get .none d.cel.dir k
/-- Set the directory state. -/
def Dev.setDir (d : Dev) (k : Nat) (x : Dir) : Dev := { d with cel := { d.cel with dir := Sparse.set .none d.cel.dir k x } }
/-- The tiles that hold a line. -/
def Dir.holders : Dir → List Nat
  | .none => []
  | .sh l => l
  | .ex t => [t]
/-- The directory without one tile. -/
def Dir.without (x : Dir) (t : Nat) : Dir :=
  match x with
  | .none => .none
  | .sh l => if l.filter (· != t) = [] then .none else .sh (l.filter (· != t))
  | .ex u => if u = t then .none else .ex u

/-- Key of a tile-cache line. -/
def tcKey (t k : Nat) : Nat := t * 2 ^ 40 + k
/-- A tile's copy of a line. -/
def Dev.tcLine (d : Dev) (t k : Nat) : Option TLine := Sparse.get none d.cel.tc (tcKey t k)
/-- Put or drop a tile's copy. -/
def Dev.setTc (d : Dev) (t k : Nat) (l : Option TLine) : Dev :=
  { d with cel := { d.cel with tc := Sparse.set none d.cel.tc (tcKey t k) l } }
/-- Tiles' copies of tile `t`, by line. -/
def Dev.tcLines (d : Dev) (t : Nat) : List Nat :=
  (d.cel.tc.filter fun e => e.1 / 2 ^ 40 == t).map fun e => e.1 % 2 ^ 40

/-- The running transaction of a line (R288). -/
def Dev.transOf (d : Dev) (k : Nat) : Option Trans := Sparse.get none d.cel.trans k
/-- Set it. -/
def Dev.setTrans (d : Dev) (k : Nat) (x : Option Trans) : Dev :=
  { d with cel := { d.cel with trans := Sparse.set none d.cel.trans k x } }

/-! ## Down dies (R43) -/

/-- A DIE_DOWN entry: GLB_DIE_STAT as it reads, and the target's number (R43; its width is log entry 5). -/
def Dev.logDieDown (d : Dev) (target : Nat) : Dev :=
  d.logF 0x000A 0 [dT (d.fld DIE_PD_UP * 2 ^ 6 + d.fld DIE_HBM_OK * 2 ^ 14 + d.fld DIE_CEL_OK * 2 ^ 18 + d.fld DIE_HBM_CTL_OK * 2 ^ 20),
    dU 1 target]

/-! ## HBM behind a line -/

/-- The line as memory holds it, with its poisoned sectors. -/
def Dev.backLine (d : Dev) (k : Nat) : Line :=
  { data := lineOfBytes (d.rawRead (256 * k) 256), poison := sectorMask fun i => d.rawBad (256 * k + 64 * i) 64 }

/-- A slice's request to the controller of `n` bytes at `a`: direction, local address, length, CLASS and DLINE (R304). -/
def Dev.hbmAsk (d : Dev) (a n : Nat) (write : Bool) (cls dline : Nat) : Dev :=
  let (h, L) := d.hbmOfAddr a
  d.emit (.link "HBM.req" h [if write then 1 else 0, L, n, cls, dline] [])

/-- Read sectors of a line from HBM, with the CLASS and DLINE of what caused it (R304): each poisoned burst counts in POISON_RD (R314).
`write`: it fills for a write. -/
def Dev.backRead (d : Dev) (k mask : Nat) (write : Bool := false) : Dev :=
  if 256 * k < hbmEnd then
    let cls := clsOf d.cel.orig write
    let d := if mask = 15 then d.hbmAsk (256 * k) 256 false cls d.cel.dline
      else (upTo 4).foldl (fun d i => if bitAt mask i then d.hbmAsk (256 * k + 64 * i) 64 false cls d.cel.dline else d) d
    (upTo 8).foldl (fun d i =>
      if bitAt mask (i / 2) && d.rawBad (256 * k + 32 * i) 32 then d.inc HBM_POISON_RD 1 (d.hbmOfAddr (256 * k + 32 * i)).1 else d) d
  else d

/-- Write sectors of a line to memory (R282, R304, R313): CLASS 1 and no deadline; poisoned sectors are stored poisoned. A write to a controller that is out of
service is dropped with a DIE_DOWN entry (R43). -/
def Dev.backWrite (d : Dev) (k mask : Nat) (data : BitVec 2048) (poison : Nat) : Dev :=
  (upTo 4).foldl (fun d i =>
    if bitAt mask i then
      match d.dieDown (256 * k + 64 * i) 64 with
      | some t => d.logDieDown t
      | none =>
        let d := if 256 * k < hbmEnd then d.hbmAsk (256 * k + 64 * i) 64 true 1 0xFFFF else d
        let d := d.rawWrite (256 * k + 64 * i) (allOn (lineSlice data (64 * i) (64 * i + 64)))
        if bitAt poison i then d.markBad (256 * k + 64 * i) 64 true else d
    else d) d

/-! ## Snoops (R286, R287) -/

/-- Dirty sectors a tile returns: into the Cellar line, or to memory behind a scratch-mode slice (R287). -/
def Dev.mergeIn (d : Dev) (k mask : Nat) (data : BitVec 2048) (poison : Nat) : Dev :=
  if mask = 0 then d else
  match d.celLine k with
  | some l =>
    d.setCel k (some { l with data := mergeSectors mask l.data data, dirty := Nat.lor l.dirty mask,
                              poison := Nat.lor (maskMinus l.poison mask) (Nat.land poison mask), ll := false })
  | none => d.backWrite k mask data poison

/-- A snoop for line `k` is sent to tile `t`, with its ORIG and CAUSE (R286). -/
def Dev.sendSnoop (d : Dev) (k op t orig cause : Nat) : Dev :=
  (d.inc CEL_SNOOPS 1 (homeOf k)).emit (.link "SNP" t [op, 256 * k, orig, cause] [])

/-- Requester ID of an internal unit of slice `s` (R279): 4 fill, 5 flush walker, 6 patrol scrub, 7 eviction. -/
def sliceUnit (s u : Nat) : Nat := celStop s * 16 + u

/-- A tile's WB of a line that its home has not completed (R289). -/
def Dev.wbOf (d : Dev) (t k : Nat) : Option (TLine × Bool) := Sparse.get none d.cel.wb (tcKey t k)
/-- Put or drop it. -/
def Dev.setWb (d : Dev) (t k : Nat) (x : Option (TLine × Bool)) : Dev :=
  { d with cel := { d.cel with wb := Sparse.set none d.cel.wb (tcKey t k) x } }

/-- What tile `t` does on a snoop: its dirty sectors and data, and the tile cache afterwards. Operation 1 SNP_INV, 2 SNP_DOWN,
3 SNP_CLEAN. A tile under reset answers without data once its write-backs are done (R290, R590); one whose WB for the line is outstanding
answers from its write-back buffer (R289). -/
def Dev.tileSnooped (d : Dev) (t k op : Nat) : Nat × BitVec 2048 × Nat × Dev :=
  match d.wbOf t k, d.tcLine t k with
  | some (l, false), _ => (l.dirty, l.data, l.poison, d.setWb t k (some (l, true)))
  | _, none => (0, 0, 0, d)
  | _, some l =>
    let d := match op with
      | 1 => d.setTc t k none
      | 2 => d.setTc t k (some { l with st := 1, dirty := 0 })
      | _ => d.setTc t k (some { l with st := if l.st = 3 then 2 else l.st, dirty := 0 })
    (l.dirty, l.data, l.poison, d)

/-- A snoop and its answer as one: the tile's dirty sectors merge, or drop under DISCARD. -/
def Dev.snoop (d : Dev) (k op t : Nat) (drop : Bool) (orig cause : Nat) : Dev :=
  let (mask, data, poison, d) := (d.sendSnoop k op t orig cause).tileSnooped t k op
  if drop then d else d.mergeIn k mask data poison

/-- Every holder invalidated, in tile order; the directory reads NONE. -/
def Dev.invHolders (d : Dev) (k : Nat) (drop : Bool) (orig cause : Nat) : Dev :=
  ((d.dirOf k).holders.foldl (fun d t => d.snoop k 1 t drop orig cause) d).setDir k .none

/-- An EX holder cleaned (SNP_CLEAN); its state is kept (R287). -/
def Dev.cleanHolder (d : Dev) (k orig cause : Nat) : Dev :=
  match d.dirOf k with
  | .ex t => d.snoop k 3 t false orig cause
  | _ => d

/-! ## Eviction and allocation (R278, R281, R282, R291) -/

/-- A dirty or clean host line leaves the slice: DirtyEvict or CleanEvictNoData (R291). -/
def Dev.hostEvict (d : Dev) (k : Nat) (l : Line) : Dev :=
  if l.dirty = 0 then d.emit (.link "D2H.CleanEvictNoData" (homeOf k) [k] [])
  else d.emit (.link "D2H.DirtyEvict" (homeOf k) [k, l.dirty] (lineSlice l.data 0 256))

/-- A line's dirty sectors go to memory, or to the host. -/
def Dev.writeBackLine (d : Dev) (k : Nat) (l : Line) : Dev :=
  if l.host = 0 then d.backWrite k l.dirty l.data l.poison else d

/-- Evict a line: tile copies are back-invalidated, their dirty sectors merge, dirty sectors are written back, the line goes. -/
def Dev.evictLine (d : Dev) (k : Nat) : Dev :=
  let n := (d.dirOf k).holders.length
  let d := (d.invHolders k false (sliceUnit (homeOf k) 7) 1).inc CEL_BACKINV n (homeOf k)
  match d.celLine k with
  | none => d
  | some l => ((if l.host = 0 then d.writeBackLine k l else d.hostEvict k l)).setCel k none

/-- The lines in the set of line `k` of its slice (R278). -/
def Dev.setMates (d : Dev) (k : Nat) : List Nat :=
  (d.cel.lines.filter fun e => homeOf e.1 == homeOf k && bits e.1 4 15 == bits k 4 15).map (·.1)

/-- Make room in the set of `k`: a line marked EVICT_FIRST goes first, else a victim of the pseudo-LRU order (log entry 6). Lines
with a running transaction stay. -/
def Dev.makeRoom (d : Dev) (k : Nat) : Dev :=
  let m := (d.setMates k).filter fun j => j != k
  if m.length < 16 then d else
  let free := m.filter fun j => (d.transOf j).isNone
  let cand := if free = [] then m else free
  match cand.find? (fun j => (d.celLine j).any (·.first)) with
  | some j => d.evictLine j
  | none =>
    match cand[Config.lruVictim d.freeCtr % cand.length]? with
    | some j => { d with freeCtr := d.freeCtr + 1 }.evictLine j
    | none => d

/-- What the SECDED of a held line finds in the sectors `mask` (R295): single-bit errors are corrected and counted, an uncorrectable clean
sector is fetched again, an uncorrectable dirty one is poisoned and reported. A clean host line with one goes, to be asked for again. -/
def Dev.lineCheck (d : Dev) (k mask : Nat) : Dev :=
  let s := homeOf k
  match d.celLine k with
  | none => d
  | some l =>
    let weak := Nat.land l.weak mask
    let bad := Nat.land l.bad mask
    if weak = 0 ∧ bad = 0 then d
    else
      let clean := maskMinus bad l.dirty
      let lost := Nat.land bad l.dirty
      let d := d.inc CEL_CE ((upTo 4).countP (bitAt weak)) s
      let l := { l with weak := maskMinus l.weak weak, bad := maskMinus l.bad bad, poison := Nat.lor l.poison lost }
      let d := (upTo 4).foldl (fun d i =>
        if bitAt lost i then (d.inc CEL_UE 1 s).logUE 0x4001 s [dA (256 * k + 64 * i), dU 1 i, dC 0] else d) d
      if clean = 0 then d.setCel k (some l)
      else if l.host != 0 then (if l.dirty = 0 then d.setCel k none else d.setCel k (some { l with poison := Nat.lor l.poison clean }))
      else
        let b := d.backLine k
        let d := d.backRead k clean
        let l := { l with
          data := mergeSectors clean l.data b.data, poison := Nat.lor (maskMinus l.poison clean) (Nat.land b.poison clean) }
        ((d.setCel k (some l)).inc CEL_REFETCH 1 s).repAbort 9 0x4000 s

/-- What the SECDED of a scratch-mode slice finds in sectors of a line (R295): a poisoned word whose cause no source has logged is an
uncorrectable error. Lines of HBM are checked by their controller. -/
def Dev.scratchCheck (d : Dev) (k mask : Nat) : Dev :=
  let s := homeOf k
  if 256 * k < hbmEnd then d
  else
    let d := (upTo 4).foldl (fun d i =>
      let a := 256 * k + 64 * i
      if bitAt mask i then (d.inc CEL_CE (d.softCount a 64) s).softFix a 64 else d) d
    (upTo 4).foldl (fun d i =>
      let a := 256 * k + 64 * i
      if bitAt mask i && (upTo 8).any (fun j => d.rawBad (a + 8 * j) 8 && !NatSet.has d.quiet (a / 8 + j)) then
        (d.inc CEL_UE 1 s).logUE 0x4001 s [dA a, dU 1 i, dC 1]
      else d) d

/-- The slice's use of memory for a read of line `k`: hit, miss with allocation, or forwarded (R281). Sectors in `need` are the
ones the reader takes. The line as read, and the state. -/
def Dev.fetchLine (d : Dev) (k need : Nat) (noalloc first : Bool) : Line × Dev :=
  let s := homeOf k
  match d.celLine k with
  | some _ =>
    let d := d.lineCheck k need
    let l := (d.celLine k).getD {}
    (l, (if l.fresh then d else d.inc CEL_HITS 1 s).setCel k (some { l with first := first, fresh := false }))
  | none =>
    if d.sliceScratch s then (d.backLine k, (d.scratchCheck k need).backRead k need)
    else
      let d := d.inc CEL_MISSES 1 s
      if noalloc || !d.load.bDone then (d.backLine k, d.backRead k need)
      else
        let d := d.makeRoom k
        let l := { d.backLine k with first := first }
        (l, (d.backRead k 15).setCel k (some l))

/-- Is line `k` one whose directory entry was lost (R295)? -/
def Dev.lineLost (d : Dev) (k : Nat) : Bool := NatSet.has d.cel.lost k

/-! ## Plain coherent accesses (R281, R285, R287) -/

/-- A read of bytes `[lo, hi)` of a line: the bytes, and whether any sector of them is poisoned. -/
def Dev.readLine (d : Dev) (k lo hi : Nat) (noalloc first : Bool) (orig : Nat) : List Byte × Bool × Dev :=
  let d := { d with cel := { d.cel with orig := orig } }.cleanHolder k orig 4
  let need := sectorsOf lo hi
  let (l, d) := d.fetchLine k need noalloc first
  (lineSlice l.data lo hi, d.lineLost k || Nat.land l.poison need != 0, d)

/-- A write of `w` at byte `lo` of a line. -/
def Dev.writeLine (d : Dev) (k lo : Nat) (w : WrBytes) (noalloc first : Bool) (orig : Nat) : Dev :=
  let d := { d with cel := { d.cel with orig := orig } }.invHolders k false orig 4
  let s := homeOf k
  let full := sectorsFull lo w
  let wr := sectorsWritten lo w
  let d := if full = 15 then { d with cel := { d.cel with lost := Sparse.set false d.cel.lost k false } } else d
  match d.celLine k with
  | some _ =>
    let d := d.lineCheck k (maskMinus wr full)
    let l := (d.celLine k).getD {}
    (if l.fresh then d else d.inc CEL_HITS 1 s).setCel k (some { l with
      data := mergeBytes l.data lo w, dirty := Nat.lor l.dirty wr, poison := maskMinus l.poison full, weak := maskMinus l.weak full,
      bad := maskMinus l.bad full, first := first, ll := false, fresh := false })
  | none =>
    let through (d : Dev) : Dev :=
      (if 256 * k < hbmEnd then d.hbmAsk (256 * k + lo) w.length true (clsOf orig true) d.cel.dline else d).rawWrite (256 * k + lo) w
    if d.sliceScratch s then through d
    else
      let d := d.inc CEL_MISSES 1 s
      if noalloc || !d.load.bDone then through d
      else
        let d := d.makeRoom k
        let b := d.backLine k
        (d.backRead k (maskMinus wr full) true).setCel k
          (some { data := mergeBytes b.data lo w, dirty := wr, poison := maskMinus b.poison full, first := first })

/-- A coherent read of `[a, a + n)`, line by line. -/
def Dev.cohRead (d : Dev) (a n : Nat) (noalloc first : Bool) (orig : Nat) : List Byte × Bool × Dev :=
  (linesOf a n).foldl (fun (acc : List Byte × Bool × Dev) k =>
    let lo := a - 256 * k
    let hi := min (a + n - 256 * k) 256
    let (bs, p, d) := acc.2.2.readLine k lo hi noalloc first orig
    (acc.1 ++ bs, acc.2.1 || p, d)) ([], false, d)

/-- A coherent write at `a`, line by line. -/
def Dev.cohWrite (d : Dev) (a : Nat) (w : WrBytes) (noalloc first : Bool) (orig : Nat) : Dev :=
  (linesOf a w.length).foldl (fun d k =>
    let lo := a - 256 * k
    let from_ := 256 * k + lo - a
    d.writeLine k lo ((w.drop from_).take (256 - lo)) noalloc first orig) d

/-! ## Flush, invalidate, discard (R284, R285) -/

/-- FLUSH of one line: dirty sectors of the line and of its tile copies written back, all stay valid and clean. The sectors
written. -/
def Dev.flushLine (d : Dev) (k orig : Nat) : Nat × Dev :=
  let d := d.cleanHolder k orig 3
  match d.celLine k with
  | some l => ((upTo 4).countP fun i => bitAt l.dirty i, (d.writeBackLine k l).setCel k (some { l with dirty := 0 }))
  | none => (0, d)

/-- FLUSH_INV of one line. -/
def Dev.flushInvLine (d : Dev) (k orig : Nat) : Nat × Dev :=
  let d := d.invHolders k false orig 3
  match d.celLine k with
  | some l =>
    ((upTo 4).countP fun i => bitAt l.dirty i, (if l.host = 0 then d.writeBackLine k l else d.hostEvict k l).setCel k none)
  | none => (0, d)

/-- Does a line, or a tile's copy of it, hold a dirty sector? -/
def Dev.lineDirty (d : Dev) (k : Nat) : Bool :=
  (d.celLine k).any (·.dirty != 0) || (d.dirOf k).holders.any fun t => (d.tcLine t k).any (·.dirty != 0)

/-- DISCARD of one line: 1 when a dirty line was dropped. -/
def Dev.discardLine (d : Dev) (k orig : Nat) : Nat × Dev := (if d.lineDirty k then 1 else 0, (d.invHolders k true orig 3).setCel k none)

/-- A FLUSH of a host line acts as FLUSH_INV (R291). -/
def Dev.flushAny (d : Dev) (k orig : Nat) : Nat × Dev :=
  match d.celLine k with
  | some l => if l.host = 0 then d.flushLine k orig else d.flushInvLine k orig
  | none => d.flushLine k orig

/-! ## Tile caches (R274, R282) -/

/-- Drop a tile's copy: dirty sectors merge into the home line (WB), the directory forgets the tile (WB, EVC). -/
def Dev.tcDrop (d : Dev) (t k : Nat) : Dev :=
  match d.tcLine t k with
  | none => d
  | some l => ((d.setTc t k none).mergeIn k l.dirty l.data l.poison).setDir k ((d.dirOf k).without t)

/-- Make room in a tile cache set: 8 ways, the victim of the pseudo-LRU order. -/
def Dev.tcRoom (d : Dev) (t k : Nat) : Dev :=
  let sets := d.tcSize / 2048
  let m := (d.tcLines t).filter fun j => j % sets == k % sets && j != k
  if m.length < 8 then d else
  match m[Config.lruVictim d.freeCtr % m.length]? with
  | some j => { d with freeCtr := d.freeCtr + 1 }.tcDrop t j
  | none => d

/-- A tile cache takes a line in a state (1 S, 2 E). -/
def Dev.tcTake (d : Dev) (t k st : Nat) (data : BitVec 2048) (poison : Nat) : Dev :=
  (d.tcRoom t k).setTc t k (some { st := st, data := data, poison := poison })

/-! ## Requests that tiles send (R284, R287) -/

/-- Snoops a request needs in this directory state: operation and tiles, ascending (R286, R287). -/
def snoopsFor (op : SliceOp) (x : Dir) : List (Nat × Nat) :=
  match op, x with
  | .rdSh t, .ex u => if u = t then [] else [(2, u)]
  | .rdEx t, .sh l => (l.filter (· != t)).map fun u => (1, u)
  | .rdEx t, .ex u => if u = t then [] else [(1, u)]
  | .upgr t, .sh l => (l.filter (· != t)).map fun u => (1, u)
  | .upgr t, .ex u => if u = t then [] else [(1, u)]
  | .flush, .ex u => [(3, u)]
  | .flushInv, x => x.holders.map fun u => (1, u)
  | .discard, x => x.holders.map fun u => (1, u)
  | _, _ => []

/-- Does the request need the line's data (an UPGR only when its sender is no sharer any more, R284)? -/
def needsData (op : SliceOp) (x : Dir) : Bool :=
  match op with
  | .rdSh _ => true
  | .rdEx _ => true
  | .upgr t => !x.holders.contains t
  | _ => false

/-- Write back a line's own dirty sectors; a host line leaves the slice instead (R284, R291). -/
def Dev.cleanLine (d : Dev) (k : Nat) : Dev :=
  match d.celLine k with
  | some l => if l.host = 0 then (d.writeBackLine k l).setCel k (some { l with dirty := 0 }) else (d.hostEvict k l).setCel k none
  | none => d

/-- A scratch-mode slice tracks tile copies in a filter of 4,096 sets of 16; a line pushed out of it is back-invalidated (R283; which
lines share a set is log entry 6). -/
def Dev.filterRoom (d : Dev) (k : Nat) : Dev :=
  if !d.sliceScratch (homeOf k) || d.dirOf k != .none then d
  else
    let m := (d.cel.dir.map (·.1)).filter fun j => homeOf j == homeOf k && Config.filterSet j == Config.filterSet k
    if m.length < 16 then d
    else match m[Config.lruVictim d.freeCtr % m.length]? with
      | some j => { d with freeCtr := d.freeCtr + 1 }.evictLine j
      | none => d

/-- A line that `[a, a + n)` touches and that runs a transaction, the first. -/
def Dev.busyTrans (d : Dev) (a n : Nat) : Option Nat := (linesOf a n).find? fun k => (d.transOf k).isSome
/-- A line that runs a transaction or that accepted requests wait for: a new one waits behind them (R288). -/
def Dev.lineBusy (d : Dev) (k : Nat) : Bool := (d.transOf k).isSome || d.cel.queue.any fun e => e.1 == k
/-- The first such line of a plain access. -/
def Dev.busyLine (d : Dev) (a n : Nat) : Option Nat := (linesOf a n).find? d.lineBusy

/-- A line joins nothing else: queue a request behind the line's transaction (R288). -/
def Dev.enqueue (d : Dev) (k : Nat) (r : SliceReq) : Dev := { d with cel := { d.cel with queue := d.cel.queue ++ [(k, r)] } }

/-- A request of a FENCE's requester that its slice accepted before it is still open (R284). -/
def Dev.fenceOpen (d : Dev) (f : Fence) : Bool :=
  let mine (k : Nat) (r : SliceReq) : Bool := homeOf k == f.slice && r.rid == f.rid && decide (r.seq < f.seq)
  d.cel.trans.any (fun e => e.2.any fun t => mine e.1 t.req) || d.cel.queue.any fun e => mine e.1 e.2

/-- FENCEs before which nothing is open complete (R284). -/
def Dev.fenceCheck (d : Dev) : Dev :=
  let done := d.cel.fences.filter fun f => !d.fenceOpen f
  let d' := { d with cel := { d.cel with fences := d.cel.fences.filter d.fenceOpen } }
  done.foldl (fun d f => d.emit (.resp f.rid f.tag 0 [])) d'

/-- A read or write as a slice serves it: the answer leaves. -/
def Dev.servePlain (d : Dev) (r : SliceReq) : Dev :=
  let d := d.causedBy r.rid r.dline
  match r.op with
  | .rd a n na f =>
    let (bs, p, d) := d.cohRead a n na f r.rid
    d.emit (.resp r.rid r.tag (if p then 6 else 0) bs)
  | .wr a w na f _ => (d.cohWrite a w na f r.rid).emit (.resp r.rid r.tag 0 [])
  | _ => d

/-- A cache-mode slice holds every line a tile cache holds (R283): one that a walk or a lost entry has dropped meanwhile is taken again. -/
def Dev.holdLine (d : Dev) (k : Nat) : Dev :=
  if d.sliceScratch (homeOf k) || (d.celLine k).isSome then d
  else let d := d.makeRoom k; (d.backRead k 15).setCel k (some (d.backLine k))

/-- A tile joins the sharers, which stand in tile order (R286). -/
def addSharer (t : Nat) : List Nat → List Nat
  | [] => [t]
  | u :: r => if t < u then t :: u :: r else if t = u then u :: r else u :: addSharer t r

/-- What a walk in progress has written back and discarded grows (R294, R296). -/
def Dev.walkCount (d : Dev) (s wrote disc : Nat) : Dev :=
  match Sparse.get none d.cel.walk s with
  | some w => { d with cel := { d.cel with walk := Sparse.set none d.cel.walk s (some { w with wrote := w.wrote + wrote, disc := w.disc + disc }) } }
  | none => d

/-- Dirty sectors of a held line. -/
def Dev.dirtyCount (d : Dev) (k : Nat) : Nat := (upTo 4).countP (bitAt (((d.celLine k).map (·.dirty)).getD 0))

/-- The flush walker's own request, which stood in the line queue, has been served (R279, R294). -/
def Dev.walkServed (d : Dev) (k : Nat) (r : SliceReq) (wrote disc : Nat) : Dev :=
  if r.rid = sliceUnit (homeOf k) 5 then d.walkCount (homeOf k) wrote disc else d

/-- A request completes (R285, R287): data granted, directory set, write-backs done, the answer sent. -/
def Dev.finishReq (d : Dev) (k : Nat) (r : SliceReq) (drops : Nat) : Dev :=
  let d := d.causedBy r.rid r.dline
  let answer (d : Dev) (st : Nat) (bs : List Byte) : Dev := d.emit (.resp r.rid r.tag st bs)
  let grant (d : Dev) (t st : Nat) (x : Dir) : Dev :=
    let d := (d.filterRoom k).holdLine k
    let l := (d.celLine k).getD (d.backLine k)
    let lost := d.lineLost k
    let p := if lost then 15 else l.poison
    answer ((d.tcTake t k st l.data p).setDir k x) (if p = 0 then 0 else 6) (lineSlice l.data 0 256)
  match r.op with
  | .rdSh t =>
    match d.dirOf k with
    | .none => grant d t 2 (.ex t)
    | .sh l => grant d t 1 (.sh (addSharer t l))
    | .ex u => if u = t then grant d t 2 (.ex t) else grant d t 1 (.sh (addSharer t [u]))
  | .rdEx t => grant d t 2 (.ex t)
  | .upgr t =>
    match d.tcLine t k with
    | some l => answer ((d.setTc t k (some { l with st := 2 })).setDir k (.ex t)) 0 []
    | none => grant d t 2 (.ex t)
  | .flush => answer ((d.walkServed k r (d.dirtyCount k) 0).cleanLine k) 0 []
  | .flushInv => answer ((d.walkServed k r (d.dirtyCount k) 0).flushInvLine k r.rid).2 0 []
  | .discard => answer (((d.walkServed k r 0 drops).invHolders k true r.rid 3).setCel k none |>.inc CEL_DISC drops (homeOf k)) 0 []
  | .wb t =>
    let d' := match d.wbOf t k with
      | some (l, false) => d.mergeIn k l.dirty l.data l.poison
      | _ => d
    answer ((d'.setWb t k none).setDir k ((d'.dirOf k).without t)) 0 []
  | .evc t => answer (d.setDir k ((d.dirOf k).without t)) 0 []
  | .fence => d
  | .rd .. => d.servePlain r
  | .wr .. => d.servePlain r

/-- The transaction of a line ends: its request completes, and FENCEs are looked at. -/
def Dev.finishTrans (d : Dev) (k : Nat) (t : Trans) : Dev := ((d.setTrans k none).finishReq k t.req t.drops).fenceCheck

/-- A request starts on a line that runs none: its snoops go out in tile order, a missing line is asked for, or it completes. -/
def Dev.startReq (d : Dev) (k : Nat) (r : SliceReq) : Dev :=
  let x := d.dirOf k
  let sn := snoopsFor r.op x
  let s := homeOf k
  let data := needsData r.op x
  let hit := (d.celLine k).isSome
  let d := if data && !d.sliceScratch s then (if hit then d.inc CEL_HITS 1 s else d.inc CEL_MISSES 1 s) else d
  let fill := data && !hit && decide (256 * k < hbmEnd)
  let drops := if r.op == .discard && (d.celLine k).any (·.dirty != 0) then 1 else 0
  let cause := match r.op with
    | .flush => 3
    | .flushInv => 3
    | .discard => 3
    | _ => 0
  let d := sn.foldl (fun d p => d.sendSnoop k p.1 p.2 r.rid cause) d
  if sn = [] ∧ fill = false then (d.finishReq k r drops).fenceCheck
  else d.setTrans k (some { req := r, snoops := sn.map (fun p => { tile := p.2, op := p.1, orig := r.rid, cause := cause }), fill := fill, drops := drops })

/-- A request for a line: it starts, or waits behind the line's transaction (R288). -/
def Dev.lineReq (d : Dev) (k : Nat) (r : SliceReq) : Dev :=
  if d.lineBusy k then d.enqueue k r else d.startReq k r

/-- Change the snoop to tile `t` in a transaction. -/
def Trans.upd (x : Trans) (t : Nat) (f : Snoop → Snoop) : Trans :=
  { x with snoops := x.snoops.map fun s => if s.tile = t then f s else s }

/-- A handover of this logical tile runs (R28). -/
def Dev.tileMoves (d : Dev) (t : Nat) : Bool := d.safe.handover.any fun h => h.ltile == t

/-- A unit of a tile acts, unless a handover has paused it (R341, R387, R541). -/
def Dev.unlessMoves (d : Dev) (t : Nat) (f : Dev → Dev) : Dev := if d.tileMoves t then d else f d

/-- A snoop of operation `op` reaches its tile, which gives its answer; one to a tile that hands over is held for the incoming tile (R290). -/
def Dev.snoopTile (d : Dev) (t k op : Nat) : Dev :=
  if d.tileMoves t then { d with safe := { d.safe with heldSnp := d.safe.heldSnp ++ [(t, k, op)] } } else
  match d.transOf k with
  | none => d
  | some x =>
    if x.snoops.any fun s => s.tile == t && s.op == op && s.ans.isNone then
      let (mask, data, poison, d) := d.tileSnooped t k op
      d.setTrans k (some (x.upd t fun s => { s with ans := some (mask, data, poison) }))
    else d

/-! ## Whole-slice walks (R294), resets (R59, R292) and retrains (R318) -/

/-- Lines of slice `s` that a walk looks at: those it holds, or in scratch mode those tiles hold. -/
def Dev.walkLines (d : Dev) (s : Nat) : List Nat :=
  if d.sliceScratch s then (d.cel.dir.map (·.1)).filter (homeOf · == s) else (d.cel.lines.map (·.1)).filter (homeOf · == s)

/-- Write back and invalidate everything coherent: tile caches, then slices (R59, R526). -/
def Dev.flushEverything (d : Dev) : Dev :=
  let d := (d.cel.tc.map (·.1)).foldl (fun d e => d.tcDrop (e / 2 ^ 40) (e % 2 ^ 40)) d
  (d.cel.lines.map (·.1)).foldl (fun d k => (d.flushInvLine k (sliceUnit (homeOf k) 5)).2) d

/-- The Cellar and the tile caches empty, without write-back (R59: POR, SYS). -/
def Dev.dropCellar (d : Dev) : Dev := { d with cel := {} }

end Sys2Proof.Machine
end

