-- ==== Sys2Proof/Machine/QcOps.lean ====
section
/-! DEFINITION. Fabric RAM blocks and their queue controllers (chapter 05): entries, pushes, pops, flags, and device accesses. -/

namespace Sys2Proof.Machine
open Sys2Proof.Machine.Reg

/-! ## Shape of a block (R165, R170, R184) -/

/-- Width code, 5 to 7 acting as 3. -/
def Dev.qcWidth (d : Dev) (b : Nat) : Nat := if 5 ≤ d.fld QC_WIDTH b then 3 else d.fld QC_WIDTH b
/-- Bytes of an entry. -/
def Dev.qcBytes (d : Dev) (b : Nat) : Nat := 2 ^ d.qcWidth b
/-- Entries a block can hold. -/
def Dev.qcEntries (d : Dev) (b : Nat) : Nat := 16384 / d.qcBytes b
/-- The depth D: LIMIT, or all entries (R170, R184). -/
def Dev.qcDepth (d : Dev) (b : Nat) : Nat :=
  let l := d.fld QC_LIMIT b
  if l = 0 ∨ d.qcEntries b < l then d.qcEntries b else l
/-- Mode, 4 to 7 acting as 0. -/
def Dev.qcMode (d : Dev) (b : Nat) : Nat := if 4 ≤ d.fld QC_MODE b then 0 else d.fld QC_MODE b
/-- DEVSIDE, 3 acting as 0. -/
def Dev.qcSide (d : Dev) (b : Nat) : Nat := if d.fld QC_DEVSIDE b = 3 then 0 else d.fld QC_DEVSIDE b

/-- Region of a block (R23). -/
def blockRegion (b : Nat) : Nat := b / 192
/-- RAM column of a block: 0 west, 1 middle, 2 east. -/
def blockColumn (b : Nat) : Nat := b % 192 / 64
/-- The region that owns port B of a block (R170): with DUAL at an edge column, the neighbour across that edge. -/
def Dev.portBRegion (d : Dev) (b : Nat) : Nat :=
  let r := blockRegion b
  if d.flag QC_DUAL b ∧ blockColumn b = 2 ∧ r % 8 ≠ 7 then r + 1
  else if d.flag QC_DUAL b ∧ blockColumn b = 0 ∧ r % 8 ≠ 0 then r - 1 else r

/-- A region's logic runs: fabric released, region configured, not frozen (R101, R164). -/
def Dev.regionRuns (d : Dev) (r : Nat) : Bool := d.released && NatSet.has d.load.loaded r && !d.regionBusy r

/-- Device address of a block. -/
def blockAddr (b : Nat) : Nat := 0x0300_0000_0000 + b * 0x4000
/-- Device address of entry `i`. -/
def Dev.entryAddr (d : Dev) (b i : Nat) : Nat := blockAddr b + i * d.qcBytes b

/-! ## Views (R172, R175, R185) -/

/-- Entries the pop side sees. -/
def Qc.count (q : Qc) : Nat := q.len - q.hidden
/-- Credits the push side holds. -/
def Dev.qcAvail (d : Dev) (b : Nat) : Nat := d.qcDepth b - (d.qcOf b).len - (d.qcOf b).freed
/-- Pushes and credits on their way. -/
def Qc.transit (q : Qc) : Nat := q.hidden + q.freed
/-- FULL, on the push side. -/
def Dev.qcFull (d : Dev) (b : Nat) : Bool := d.qcAvail b == 0
/-- AF, on the push side; 0 in a block no configuration has set, as R185 gives it for reset (log entry 162). -/
def Dev.qcAF (d : Dev) (b : Nat) : Bool := (NatSet.has d.load.loaded (blockRegion b) || d.regionBusy (blockRegion b)) && decide (d.fld QC_AF_LEVEL b ≤ (d.qcOf b).len + (d.qcOf b).freed)
/-- QC_CRED (R187). -/
def Dev.qcCred (d : Dev) (b : Nat) : Nat := d.qcAvail b + (d.qcOf b).transit * 2 ^ 16 + (d.qcOf b).count * 2 ^ 32

/-! ## Entries -/

/-- Store an entry; its words get fresh check bits (R166). -/
def Dev.putEntry (d : Dev) (b i v : Nat) : Dev :=
  let a := d.entryAddr b i
  let n := d.qcBytes b
  (d.rawWrite a (allOn (leBytes n v))).markBad a n false

/-- The check of a read of `[a, a + n)` of block `b` (R168): words with a single-bit error are corrected and counted, each uncorrectable
one counts and writes QC_UE; whether there is one. -/
def Dev.ramCheck (d : Dev) (b a n : Nat) : Bool × Dev :=
  let d := (d.inc QC_CE (d.softCount a n) b).softFix a n
  let bad := ((upTo ((a + n + 7) / 8 - a / 8)).map (a / 8 + ·)).filter fun k => d.rawBad (8 * k) 8
  (!bad.isEmpty, bad.foldl (fun d k => (d.inc QC_UE 1 b).logUE 0x9005 b [dU 2 b, dO (k - blockAddr b / 8)]) d)

/-- Read an entry: its value, and whether a word of it is uncorrectable (R168). -/
def Dev.getEntry (d : Dev) (b i : Nat) : Nat × Bool × Dev :=
  let a := d.entryAddr b i
  let n := d.qcBytes b
  let (bad, d) := d.ramCheck b a n
  (leNat (d.rawRead a n), bad, d)

/-! ## Pushes and pops -/

/-- A push lands: the entry is stored after the last, hidden from the pop side until its flags show it (R172). -/
def Dev.qcPush (d : Dev) (b v : Nat) : Dev :=
  let q := d.qcOf b
  let d := d.putEntry b ((q.rd + q.len) % d.qcDepth b) v
  d.setQc b { q with len := q.len + 1, hidden := q.hidden + 1 }

/-- A pop takes the oldest entry; its place is free for the push side once its flags show it. -/
def Dev.qcPop (d : Dev) (b : Nat) : Nat × Bool × Dev :=
  let q := d.qcOf b
  let (v, bad, d) := d.getEntry b q.rd
  (v, bad, d.setQc b { q with rd := (q.rd + 1) % d.qcDepth b, len := q.len - 1, freed := q.freed + 1 })

/-- Several pops: the values as bytes, and whether one was uncorrectable. -/
def Dev.qcPops (d : Dev) (b : Nat) : Nat → List Byte × Bool × Dev
  | 0 => ([], false, d)
  | n + 1 =>
    let (v, bad, d) := d.qcPop b
    let (bs, bad', d') := Dev.qcPops d b n
    (leBytes (d.qcBytes b) v ++ bs, bad || bad', d')

/-- Several pushes of consecutive bytes; a byte whose enable is 0 is not written. -/
def Dev.qcPushes (d : Dev) (b : Nat) (w : WrBytes) : Nat → Dev
  | 0 => d
  | n + 1 =>
    let q := d.qcOf b
    let s := d.qcBytes b
    let d := d.rawWrite (d.entryAddr b ((q.rd + q.len) % d.qcDepth b)) (w.take s)
    Dev.qcPushes (d.setQc b { q with len := q.len + 1, hidden := q.hidden + 1 }) b (w.drop s) n

/-! ## Device accesses (R177, R178) -/

/-- What a device access to an exported block does now: its status and data, or nothing yet because the queue lacks the room or the
entries for all of it (R178). -/
def Dev.qcAccess (d : Dev) (b : Nat) (x : QAcc) : Option (Nat × List Byte × Dev) :=
  let n := x.len / d.qcBytes b
  match d.qcMode b, x.wr with
  | 0, some w => some (0, [], d.rawWrite (blockAddr b + x.off) w)
  | 0, none =>
    let a := blockAddr b + x.off
    let (bad, d) := d.ramCheck b a x.len
    some (if bad then 6 else 0, d.rawRead a x.len, d)
  | 2, some _ => some (7, [], d)
  | 2, none =>
    let a := d.entryAddr b (x.off / d.qcBytes b)
    let (bad, d) := d.ramCheck b a x.len
    some (if bad then 6 else 0, d.rawRead a x.len, d)
  | _, some w =>
    if d.qcSide b ≠ 2 then some (7, [], d)
    else if n ≤ d.qcAvail b then some (0, [], d.qcPushes b w n) else none
  | _, none =>
    if d.qcSide b ≠ 1 then some (7, [], d)
    else if n ≤ (d.qcOf b).count then
      let (bs, bad, d) := d.qcPops b n
      some (if bad then 6 else 0, bs, d)
    else none

/-- Waiting accesses go, oldest first, while the queue allows. `fuel` bounds them. -/
def Dev.qcRetry (d : Dev) (b : Nat) : Nat → Dev
  | 0 => d
  | fuel + 1 =>
    match (d.qcOf b).waiting with
    | [] => d
    | x :: r =>
      match d.qcAccess b x with
      | none => d
      | some (st, bs, d) =>
        let q := d.qcOf b
        Dev.qcRetry ((d.setQc b { q with waiting := r }).emit (.resp x.rid x.tag st bs)) b fuel

/-- After a change of block `b`, its waiting accesses are looked at. -/
def Dev.qcWake (d : Dev) (b : Nat) : Dev := d.qcRetry b (d.qcOf b).waiting.length

/-- A device access arrives at the gate: answered, or it waits behind those that wait (R178). -/
def Dev.qcArrive (d : Dev) (b : Nat) (x : QAcc) : Dev :=
  let q := d.qcOf b
  if q.waiting ≠ [] then d.setQc b { q with waiting := q.waiting ++ [x] }
  else match d.qcAccess b x with
    | some (st, bs, d) => d.emit (.resp x.rid x.tag st bs)
    | none => d.setQc b { q with waiting := [x] }

/-- Accesses that wait at block `b` as its region freezes are answered REGION_BUSY (R213). -/
def Dev.qcBusy (d : Dev) (b : Nat) : Dev :=
  let q := d.qcOf b
  q.waiting.foldl (fun d x => d.emit (.resp x.rid x.tag 3 [])) (d.setQc b { q with waiting := [] })

/-- A block's queue state after configuration, load or thaw of its region (R174, R176). -/
def Dev.qcResetBlock (d : Dev) (b : Nat) : Dev :=
  ((((((d.setQc b { patrol := (d.qcOf b).patrol }).setF QC_OVERFLOW 0 b).setF QC_UNDERFLOW 0 b).setF QC_CREDIT_VIOL 0 b).setF QC_WCOLL 0 b).setF QC_CE 0 b).setF QC_UE 0 b

/-! ## Edge detectors of the handover cells (R221) -/

/-- HX_EDGE (R221): SENSE selects it; a pulse, or in a freeze a pending edge. -/
def Dev.hxEdgeSeen (d : Dev) (r e : Nat) (rising : Bool) : Dev :=
  if !d.released || !bitAt (d.fld HX_SENSE r e) (if rising then 0 else 1) then d
  else if !d.regionBusy r then d.emit (.pulse "HX_EDGE" (32 * r + e))
  else if d.flag HX_PEND r e then (d.setF HX_OVERRUN 1 r e).inc HX_OVR_CNT 1 r e
  else (d.setF HX_PEND 1 r e).setF HX_EDGE_TS d.now r e

/-- An edge on device event line `k` (R490): the detectors that watch it see it. -/
def Dev.eventEdge (d : Dev) (k : Nat) (rising : Bool) : Dev :=
  (d.fab.hxWatch.filter fun w => w.2 == 1024 + k).foldl (fun d w => d.hxEdgeSeen (w.1 / 32) (w.1 % 32) rising) d

/-- A pulse of one MCLK on device event line `k`: it rises and falls (R490). -/
def Dev.eventPulse (d : Dev) (k : Nat) : Dev := ((d.emit (.pulse "EVENT" k)).eventEdge k true).eventEdge k false

/-- The level of device event line `4 n`, high while the first link of die `n` is in L0 (R490), changes. -/
def Dev.eventLevel (d : Dev) (n : Nat) (high : Bool) : Dev :=
  (d.emit (.pulse "EVENT_LEVEL" (8 * n + if high then 1 else 0))).eventEdge (4 * n) high

end Sys2Proof.Machine
end

