-- ==== Sys2Proof/Machine/TileOps.lean ====
section
/-! DEFINITION. Tile SRAM and arrival counters: reads and writes by offset, the window of device addresses, and what an arrival does
(chapters 09 and 13). SRAM belongs to the logical tile (R28); its bytes lie at the tile's window. -/

namespace Sys2Proof.Machine
open Sys2Proof.Machine.Reg

/-- Device address of offset `off` of logical tile `t`'s SRAM (R30). -/
def tileAddr (t off : Nat) : Nat := 0x0200_0000_0000 + t * 2 ^ 21 + off

/-- Does `[off, off + n)` leave the scratch portion (R274, R275)? -/
def Dev.outsideScratch (d : Dev) (off n : Nat) : Bool := decide (d.tcBase < off + n)

/-- A TIL_SRAM_UE of tile `t` at an offset, seen by a port of R272 (R273, R298). -/
def Dev.sramUe (d : Dev) (t off port : Nat) : Dev :=
  (d.inc TIL_SRAM_UE 1 (d.ptile t)).logUE 0x1001 (d.ptile t) [dO off, dU 1 port]

/-- First bad word in `[a, a + n)` of the backing store. -/
def Dev.firstBad (d : Dev) (a n : Nat) : Option Nat :=
  (upTo (n / 8 + 2)).find? fun i => decide (8 * (a / 8 + i) < a + n) && NatSet.has d.poison (d.phys (8 * (a / 8 + i)) / 8)

/-- A read of tile SRAM through a port: the bytes, and whether a word of them is uncorrectable, which the read reports unless the word
holds poisoned fill data (R439). Words with a single-bit error are corrected, counted and written back (R273). -/
def Dev.sramRead (d : Dev) (t off n port : Nat) : List Byte × Bool × Dev :=
  let a := tileAddr t off
  let d := (d.inc TIL_SRAM_CE (d.softCount a n) (d.ptile t)).softFix a n
  let bs := d.rawRead (tileAddr t off) n
  match d.firstBad (tileAddr t off) n with
  | some i => (bs, true, if NatSet.has d.quiet (tileAddr t off / 8 + i) then d else d.sramUe t (off / 8 * 8 + 8 * i) port)
  | none => (bs, false, d)

/-- The turn of a port among those that address one bank in a TCLK (R272). -/
def portTurn (ts p : Nat) : Nat := (p + ts) % 8

/-- The ports `rivals` address the bank that `port` does, in the same TCLK: they are served by their turn, and each cycle a port loses counts
(R272); the matrix array, port 0, stalls in it (R330). -/
def Dev.portClash (d : Dev) (t port : Nat) (rivals : BitVec 8) : Dev :=
  let ps := (upTo 8).filter fun p => p == port || rivals.getLsbD p
  let lost (p : Nat) : Nat := ps.countP fun q => decide (portTurn d.now q < portTurn d.now p)
  (d.inc TIL_CONFLICT (ps.map lost).sum (d.ptile t)).inc MX_STALL (if ps.contains 0 then lost 0 else 0) (d.ptile t)

/-- A write of tile SRAM. -/
def Dev.sramWrite (d : Dev) (t off : Nat) (w : WrBytes) : Dev := d.rawWrite (tileAddr t off) w

/-- A little-endian field of `n` bytes in tile SRAM, as plain data. -/
def Dev.sramNat (d : Dev) (t off n : Nat) : Nat := leNat (d.rawRead (tileAddr t off) n)

/-! ## Arrival counters (R382, R383) -/

/-- EXPECT of a counter. -/
def Tile.expectOf (x : Tile) (k : Nat) : Nat := Sparse.get 0 x.expect k
/-- ARRIVED of a counter. -/
def Tile.arrivedOf (x : Tile) (k : Nat) : Nat := Sparse.get 0 x.arrived k
/-- ARRIVED has reached EXPECT (R382). -/
def Tile.reached (x : Tile) (k : Nat) : Bool := decide ((x.arrivedOf k + 2 ^ 32 - x.expectOf k) % 2 ^ 32 < 2 ^ 31)
/-- A group of the tile. -/
def Tile.grp (x : Tile) (g : Nat) : Group := Sparse.get {} x.groups g
/-- Change a group. -/
def Tile.setGrp (x : Tile) (g : Nat) (y : Group) : Tile := { x with groups := Sparse.set {} x.groups g y }

/-- Groups that wait on counter `k` resume behind their WAIT once it is reached (R382). -/
def Tile.wakeCounter (x : Tile) (k : Nat) : Tile :=
  if x.reached k then
    (upTo 16).foldl (fun x g =>
      let y := x.grp g
      if y.st = 2 ∧ y.wait = .counter k then x.setGrp g { y with st := 1, wait := .none, pc := y.pc + 8 } else x) x
  else x

/-- One arrival at counter `k` of logical tile `t` (R382). -/
def Dev.arriveAt (d : Dev) (t k : Nat) : Dev :=
  let x := d.tileOf t
  d.setTile t ({ x with arrived := Sparse.set 0 x.arrived k ((x.arrivedOf k + 1) % 2 ^ 32) }.wakeCounter k)

end Sys2Proof.Machine
end

