-- ==== Sys2Proof/Machine/Access.lean ====
section
/-! DEFINITION. Device accesses as their targets serve them: the statuses of R40 and R43 in their order, and reads and writes of
everything inside the device. Host windows and other members' windows are the business of chapters 17 and 18. -/

namespace Sys2Proof.Machine
open Sys2Proof.Machine.Reg

/-! ## Statuses -/

/-- A device is a current member of the colony (R513). -/
def Dev.member (d : Dev) (dev : Nat) : Bool := d.fbit CPL_MEMBER (dev % 64) (dev / 64)

/-- Field `f` of port die `n` as its controller has it in force (R472). -/
def Dev.prtEff (d : Dev) (f : Fld) (n : Nat) (j : Nat := 0) : Nat := Sparse.get f.rst (d.prtOf n).eff (f.key n j)

/-- The controller of die `n` has an outbound path (R36, R486). -/
def Dev.outPath (d : Dev) (n : Nat) : Bool :=
  match d.prtEff PC_MODE n with
  | 1 => true
  | 2 => true
  | 3 => d.flag OUT_EN n
  | _ => false

/-- The CXL.cache personality of die `n` is on (R277, R291). -/
def Dev.cxlCache (d : Dev) (n : Nat) : Bool :=
  (d.prtEff PC_MODE n == 2 || d.prtEff PC_MODE n == 3) && (d.prtEff PC_CXL n == 1 || d.prtEff PC_CXL n == 2)

/-- What the target of an access inside the device finds (R40 from its fourth status on, then R43). -/
def Dev.targetStatus (d : Dev) (a n : Nat) : Nat :=
  let down := if (d.dieDown a n).isSome then 10 else 0
  match placeOf a with
  | .hbm => down
  | .scratch _ _ => if (scratchSlices a n).any (fun s => !d.sliceScratch s) then 2 else down
  | .tile _ off => if d.tcBase < off + n then 1 else 0
  | .ram b _ => if !d.flag QC_EXPORT b then 1 else if d.regionBusy (blockRegion b) then 3 else 0
  | .host n' _ => if d.outPath n' then down else 1
  | _ => 1

/-- A window of another device. -/
def Dev.isRemote (d : Dev) (a : Nat) : Bool :=
  match placeOf a with
  | .remote dev _ => !d.isSelf dev
  | _ => false

/-- A remote colony window, the own one included: block transfers only, in multiples of 256 B (R38). -/
def inRemoteWindow (a : Nat) : Bool :=
  match placeOf a with
  | .remote _ _ => true
  | _ => false

/-- The address an access to the own remote window really names (R38). -/
def Dev.localAddr (d : Dev) (a : Nat) : Nat :=
  match placeOf a with
  | .remote dev off => if d.isSelf dev then (remoteOffset off).getD a else a
  | _ => a

/-- The status the requesting stop finds before injection: the first three of R40 (R40, R373). -/
def Dev.stopStatus (d : Dev) (a n : Nat) : Nat :=
  match placeOf a with
  | .none => 1
  | .remote dev _ => if windowEnd a < a + n then 4 else if d.isSelf dev || d.member dev then 0 else 5
  | _ => if windowEnd a < a + n then 4 else 0

/-- The status the target finds; 0 for a window of another member, where that member finds the rest. -/
def Dev.farStatus (d : Dev) (a n : Nat) : Nat :=
  match placeOf a with
  | .remote dev off => if d.isSelf dev then (match remoteOffset off with | none => 1 | some b => d.targetStatus b n) else 0
  | _ => d.targetStatus a n

/-- The first status that applies to an access of `n` bytes at `a` (R40, R43). -/
def Dev.accStatus (d : Dev) (a n : Nat) : Nat :=
  let s := d.stopStatus a n
  if s ≠ 0 then s else d.farStatus a n

/-- A request to this address is held at its stop: its tile hands over (R28). -/
def Dev.addrHeld (d : Dev) (a : Nat) : Bool :=
  match placeOf (d.localAddr a) with
  | .tile t _ => d.tileMoves t
  | _ => false

/-- The entry a failing status writes: ADDR_DECODE for the statuses of R40, DIE_DOWN for R43. `stop` is the requester's. -/
def Dev.logStatus (d : Dev) (st a n stop : Nat) : Dev :=
  if st = 10 then
    match d.dieDown (d.localAddr a) n with
    | some t => d.logDieDown t
    | none => d
  else if 1 ≤ st ∧ st ≤ 5 then d.logEv 0x0009 .D 0 [dC st, dA a, dU 1 stop]
  else d

/-! ## Reads and writes inside the device -/

/-- The block and the access, when a device access to a queue must wait at the ring gate now (R178). -/
def Dev.qcMustWait (d : Dev) (a n : Nat) (wr : Option WrBytes) (rid tag : Nat) : Option (Nat × QAcc) :=
  if d.accStatus a n ≠ 0 then none
  else match placeOf (d.localAddr a) with
    | .ram b off =>
      let x : QAcc := { rid := rid, tag := tag, off := off, len := n, wr := wr, since := d.clk.tick }
      if (d.qcOf b).waiting ≠ [] ∨ (d.qcAccess b x).isNone = true then some (b, x) else none
    | _ => none

/-- A read the targets of chapters 05 and 09 serve: status, bytes, state. An engine that takes its answer in the same command has let a queue
that lacks entries run its wait out (log entry 31). -/
def Dev.inRead (d : Dev) (a n : Nat) (noalloc first : Bool) (orig : Nat) : Nat × List Byte × Dev :=
  match placeOf a with
  | .tile t off =>
    let (bs, bad, d) := d.sramRead t off n 4
    (if bad then 6 else 0, bs, d)
  | .ram b off =>
    match d.qcAccess b { rid := 0, tag := 0, off := off, len := n, wr := none, since := 0 } with
    | some r => r
    | none => (8, [], d)
  | .host _ _ => (9, [], d)
  | .remote _ _ => (9, [], d)
  | _ =>
    let (bs, p, d) := d.cohRead a n noalloc first orig
    (if p then 6 else 0, bs, d)

/-- A write, as `inRead`. -/
def Dev.inWrite (d : Dev) (a : Nat) (w : WrBytes) (noalloc first : Bool) (orig : Nat) : Nat × Dev :=
  match placeOf a with
  | .tile t off => (0, d.sramWrite t off w)
  | .ram b off =>
    match d.qcAccess b { rid := 0, tag := 0, off := off, len := w.length, wr := some w, since := 0 } with
    | some (st, _, d) => (st, d)
    | none => (8, d)
  | .host _ _ => (9, d)
  | .remote _ _ => (9, d)
  | _ => (0, d.cohWrite a w noalloc first orig)

/-- A read by unit `unit` at stop `stop` with a deadline bucket, of an address that is neither another member's nor a host's: status,
bytes, state. -/
def Dev.accReadBy (d : Dev) (stop a n : Nat) (noalloc first : Bool) (unit due : Nat) : Nat × List Byte × Dev :=
  let st := d.accStatus a n
  if st ≠ 0 then (st, [], d.logStatus st a n stop)
  else (d.causedBy (ridOf stop unit) due).inRead (d.localAddr a) n noalloc first (ridOf stop unit)

/-- A read with the deadline its unit sets. -/
def Dev.accRead (d : Dev) (stop a n : Nat) (noalloc first : Bool := false) (unit : Nat := 0) : Nat × List Byte × Dev :=
  d.accReadBy stop a n noalloc first unit (d.dlineOf stop unit noalloc)

/-- A write, as `accRead`. -/
def Dev.accWrite (d : Dev) (stop a : Nat) (w : WrBytes) (noalloc first : Bool := false) (unit : Nat := 0) : Nat × Dev :=
  let st := d.accStatus a w.length
  if st ≠ 0 then (st, d.logStatus st a w.length stop)
  else (d.causedBy (ridOf stop unit) (d.dlineOf stop unit noalloc)).inWrite (d.localAddr a) w noalloc first (ridOf stop unit)

/-- Written bytes are stored poisoned (R511): the sectors of a held line, or the words behind. -/
def Dev.poisonAt (d : Dev) (a n : Nat) : Dev :=
  match placeOf a with
  | .hbm => (linesOf a n).foldl line d
  | .scratch _ _ =>
    let d := (linesOf a n).foldl line d
    { d with quiet := (upTo ((a + n + 7) / 8 - a / 8)).foldl (fun q i => Sparse.set false q (a / 8 + i) (d.rawBad (8 * (a / 8 + i)) 8)) d.quiet }
  | _ => d.markBad a n true
where
  /-- One line of it. -/
  line (d : Dev) (k : Nat) : Dev :=
    let lo := a - 256 * k
    let hi := min (a + n - 256 * k) 256
    match d.celLine k with
    | some l => d.setCel k (some { l with poison := Nat.lor l.poison (sectorsOf lo hi) })
    | none => d.markBad (256 * k + lo) (hi - lo) true

/-- A little-endian number read from device memory by an engine of the device itself; what a failing access returns is 0. -/
def Dev.devNat (d : Dev) (stop a n : Nat) : Nat × Nat × Dev :=
  let (st, bs, d) := d.accRead stop a n
  (st, leNat bs, d)

/-! ## Host lines (R277, R291) -/

/-- A host-window access that the Cellar caches: the port die's CXL.cache personality is on, and the home slice takes host lines. -/
def Dev.hostCached (d : Dev) (a : Nat) : Bool :=
  match placeOf a with
  | .host n _ => d.cxlCache n && d.flag CEL_HOST_EN (homeSlice a) && !d.sliceScratch (homeSlice a)
  | _ => false

/-- A read or write of a host line: served from the slice, or the line is asked of the host with RdShared or RdOwn and the request
runs a transaction until CEL_FILL. -/
def Dev.hostLineReq (d : Dev) (k : Nat) (r : SliceReq) : Dev :=
  let own := match r.op with
    | .wr .. => true
    | _ => false
  if (d.transOf k).isSome then d.enqueue k r
  else
    match d.celLine k with
    | some l =>
      if own && l.host != 2 then (d.setTrans k (some { req := r, fill := true })).emit (.link "D2H.RdOwn" (homeOf k) [k] [])
      else d.servePlain r
    | none =>
      ((d.inc CEL_MISSES 1 (homeOf k)).setTrans k (some { req := r, fill := true })).emit
        (.link (if own then "D2H.RdOwn" else "D2H.RdShared") (homeOf k) [k] [])

end Sys2Proof.Machine
end

