-- ==== Sys2Proof/Machine/PortOps.lean ====
section
/-! DEFINITION. The test ports: bindings, capture rings and their replay, the golden endpoint, outbound requests, injection
(chapters 17 and 19). -/

namespace Sys2Proof.Config

/-- The bytes of a TLP on the wire, from its fields and its data: the PCI Express and CXL encodings. Uninterpreted, log
entry 2. -/
opaque tlpBytes : List Nat → List Byte → List Byte
/-- The DUT request a captured TLP spells. Uninterpreted, log entry 2. -/
opaque tlpRequest : List Byte → Option Sys2Proof.DutReq
/-- The bytes a KIND 4 record keeps of a link event (link, LTSSM state, rate, width, in L0): the manual gives no layout. Log entry 100. -/
opaque linkEventBytes : List Nat → List Byte
/-- The link event such bytes spell. Log entry 100. -/
opaque linkEventOf : List Byte → List Nat

end Sys2Proof.Config

namespace Sys2Proof.Machine
open Sys2Proof.Machine.Reg

/-! ## Bindings and resets of a controller -/

/-- The register-file entries of port die `n`'s bound fields (R472, R492). -/
def Dev.boundNow (d : Dev) (n : Nat) : List (Nat × Nat) :=
  d.csr.filter fun e => prtBound.any fun f => f.lo == e.1 % 64 && (f.inst? (e.1 / 64)).any (·.1 == n)

/-- The controller of die `n` takes its bindings (R472, R492). -/
def Dev.bindPort (d : Dev) (n : Nat) : Dev := d.setPrt n { d.prtOf n with eff := d.boundNow n }

/-- The controller of die `n` is out of reset: stage A has completed, no PORT reset holds it. -/
def Dev.portUp (d : Dev) (n : Nat) : Bool :=
  d.aReleased && d.fbit DIE_PD_UP n && !(d.prtOf n).fwFault && (Sparse.get none d.rst.port n).isNone

/-- In a REPLAY run the die is fed from its rings: it ignores its lanes, sends nothing, and captures nothing (R532). -/
def Dev.ringFed (d : Dev) (n : Nat) : Bool := d.running && d.fld REP_ROLE == 2 && d.fbit REP_RING n

/-- Something leaves toward the DUT, unless the die is fed from its rings. -/
def Dev.toDut (d : Dev) (n : Nat) (kind : String) (args : List Nat) (bs : List Byte) : Dev :=
  if d.ringFed n then d else d.emit (.link kind n args bs)

/-! ## Capture (R487, R488, R531, R533) -/

/-- A ring of port die `n`. -/
def Dev.ringOf (d : Dev) (n c : Nat) : CapRing := Sparse.get {} (d.prtOf n).ring c
/-- Change it. -/
def Dev.setRing (d : Dev) (n c : Nat) (x : CapRing) : Dev :=
  d.setPrt n { d.prtOf n with ring := Sparse.set {} (d.prtOf n).ring c x }

/-- What a record says beside its bytes. -/
structure CapRec where
  sop   : Nat
  eop   : Nat
  kind  : Nat
  dir   : Nat
  flags : Nat
  data  : List Byte

/-- Bytes kept: all, or SNAP. -/
def Dev.capLen (d : Dev) (n c : Nat) (x : CapRec) : Nat :=
  if d.fld CAP_SNAP n c = 0 then x.data.length else min x.data.length (d.fld CAP_SNAP n c)

/-- The bytes of a record (R488). -/
def Dev.capBytes (d : Dev) (n c : Nat) (x : CapRec) : List Byte :=
  let r := d.ringOf n c
  let len := d.capLen n c x
  let fl := x.flags + bitIf (decide (len < x.data.length)) 0 + bitIf (r.lost != 0) 4
  leBytes 8 x.sop ++ leBytes 8 x.eop ++ leBytes 4 r.seq ++ leBytes 2 len ++ leBytes 2 x.data.length ++ leBytes 1 x.kind
    ++ leBytes 1 x.dir ++ leBytes 1 fl ++ leBytes 1 0 ++ leBytes 4 r.lost
    ++ x.data.take len ++ List.replicate ((32 - len % 32) % 32) 0

/-- Write bytes into a ring from an offset on, around its end (R487: NOALLOC). -/
def Dev.ringWrite (d : Dev) (n c at_ : Nat) (bs : List Byte) : Dev :=
  let base := 4096 * d.fld CAP_BASE n c
  let size := 2 ^ d.fld CAP_SIZE n c
  let first := bs.take (size - at_)
  let d := (d.accWrite (bridgeStop n) (base + at_) (allOn first) true).2
  let rest := bs.drop (size - at_)
  if rest = [] then d else (d.accWrite (bridgeStop n) base (allOn rest) true).2

/-- Read `len` bytes of a ring from an offset on. -/
def Dev.ringRead (d : Dev) (n c at_ len : Nat) : List Byte × Dev :=
  let base := 4096 * d.fld CAP_BASE n c
  let size := 2 ^ d.fld CAP_SIZE n c
  (List.range len).foldl (fun (acc : List Byte × Dev) i =>
    let (_, bs, d) := acc.2.accRead (bridgeStop n) (base + (at_ + i) % size) 1
    (acc.1 ++ bs, d)) ([], d)

/-- Bytes of a ring not yet read by software (STOP mode). -/
def Dev.ringUsed (d : Dev) (n c : Nat) : Nat :=
  let size := 2 ^ d.fld CAP_SIZE n c
  (d.fld CAP_HEAD n c + size - d.fld CAP_TAIL n c % size) % size

/-- The ring captures KIND `kind`. -/
def Dev.captures (d : Dev) (n c kind : Nat) : Bool := d.flag CAP_EN n c && d.fbit CAP_KINDS kind n c

/-- The next record of DIR 1 of a ring from an offset on: its bytes and the offset behind it. -/
def Dev.nextOut (d : Dev) (n c : Nat) : Nat → Nat → Option (List Byte × Nat) × Dev
  | 0, _ => (none, d)
  | fuel + 1, at_ =>
    let (h, d) := d.ringRead n c at_ 32
    let len := leNat ((h.drop 20).take 2)
    let total := 32 + (len + 31) / 32 * 32
    if leNat ((h.drop 8).take 8) = 0 then (none, d)
    else if leNat ((h.drop 25).take 1) % 2 = 1 then
      let (bs, d) := d.ringRead n c at_ total
      (some (bs, at_ + total), d)
    else Dev.nextOut d n c fuel (at_ + total)

/-- COMPARE of a REPLAY (R533): the record it would have captured against the ring's next record of DIR 1. -/
def Dev.capCompare (d : Dev) (n c : Nat) (x : CapRec) : Dev :=
  let mine := d.capBytes n c x
  let r := d.ringOf n c
  let (rec_, d) := d.nextOut n c (2 ^ d.fld CAP_SIZE n c / 32) r.cmpAt
  let d := d.setRing n c { r with cmpAt := (rec_.map (·.2)).getD r.cmpAt, seq := r.seq + 1 }
  if rec_.map (·.1) = some mine || d.flag REP_DIVERGED then d
  else ((d.setF REP_DIVERGED 1).setF REP_EVT (d.fld REP_RT)).logEv 0x000F .D 0
    [dU 1 n, dU 1 c, dT (d.fld REP_RT), dN (rec_.elim 0 fun q => leNat ((q.1.drop 16).take 4))]

/-- A record for a ring (R487, R488, R531): written, or lost when STOP mode finds the ring full; a burst of losses ends with its
PRT_CAP_LOSS entry when the next record is written. -/
def Dev.capture (d : Dev) (n c : Nat) (x : CapRec) : Dev :=
  if !d.captures n c x.kind then d
  else if d.ringFed n then (if x.dir % 2 = 1 && d.flag REP_COMPARE then d.capCompare n c x else d)
  else
    let bs := d.capBytes n c x
    let r := d.ringOf n c
    let size := 2 ^ d.fld CAP_SIZE n c
    if d.flag CAP_STOP n c && decide (size ≤ d.ringUsed n c + bs.length) then
      let d := d.setRing n c { r with lost := satAdd 32 r.lost 1 }
      let d := if d.running && d.fld REP_ROLE == 1 then d.setF REP_INCOMPLETE 1 else d
      if r.lost = 0 then d.eventPulse (4 * n + 3) else d
    else
      let d := if r.lost = 0 then d else d.logEv 0x7003 .D n [dU 1 c, dN r.lost]
      let d := d.ringWrite n c (d.fld CAP_HEAD n c) bs
      (d.setF CAP_HEAD ((d.fld CAP_HEAD n c + bs.length) % size) n c).setRing n c { r with seq := (r.seq + 1) % 2 ^ 32, lost := 0 }

/-- A record stamped now. -/
def Dev.captureNow (d : Dev) (n c kind dir flags : Nat) (bs : List Byte) : Dev :=
  d.capture n c { sop := d.now, eop := d.now, kind := kind, dir := dir, flags := flags, data := bs }

/-! ## Outbound requests (R486) -/

/-- A memory request leaves die `n`: a write is complete, a read waits for its completion. -/
def Dev.outSend (d : Dev) (n : Nat) (q : Rq) (off len : Nat) (wr : Option WrBytes) : Dev :=
  let args := [(d.fld OUT_BASE n + off) % 2 ^ 64, len, d.fld OUT_FN n, d.fld OUT_PASID_EN n, d.fld OUT_PASID n]
  let bs := match wr with
    | some w => w.map (·.getD 0)
    | none => []
  let d := d.captureNow n 0 0 1 0 (Config.tlpBytes ((if wr.isSome then 1 else 0) :: args) bs)
  let d := d.toDut n (if wr.isSome then "MWr" else "MRd") args bs
  match wr with
  | some _ => d.emit (.resp (reqId q) q.tag.toNat 0 [])
  | none => d.setPrt n { d.prtOf n with outb := (d.prtOf n).outb ++ [{ q := q, len := len }] }

/-- A request into die `n`'s host window leaves, a read once fewer than 4,096 are outstanding (R471, R486). -/
def Dev.outReq (d : Dev) (n : Nat) (q : Rq) (off len : Nat) (wr : Option WrBytes) : Dev :=
  if wr.isNone && decide (4096 ≤ (d.prtOf n).outb.length) then d.setPrt n { d.prtOf n with outWait := (d.prtOf n).outWait ++ [(q, off, len)] }
  else d.outSend n q off len wr

/-- A read that waited for a tag leaves. -/
def Dev.outNext (d : Dev) (n : Nat) : Dev :=
  match (d.prtOf n).outWait with
  | [] => d
  | (q, off, len) :: r => (d.setPrt n { d.prtOf n with outWait := r }).outSend n q off len none

/-- The oldest outbound read of die `n` ends with a status and data. -/
def Dev.outEnd (d : Dev) (n st : Nat) (bs : List Byte) : Dev :=
  match (d.prtOf n).outb with
  | [] => d
  | o :: r => ((d.setPrt n { d.prtOf n with outb := r }).emit (.resp (reqId o.q) o.q.tag.toNat st bs)).outNext n

/-! ## The golden endpoint (R480 to R485) -/

/-- The first steering entry whose function and range a request matches (R480). -/
def Dev.steerOf (d : Dev) (n : Nat) (q : DutReq) : Option Nat :=
  (upTo 16).find? fun i =>
    let lo := 4096 * d.fld STEER_BASE n i
    (d.fld STEER_KIND n i == 1 || d.fld STEER_KIND n i == 2) && d.fld STEER_FN n i == q.fn.val && d.fld STEER_BAR n i == q.bar.val
      && decide (lo ≤ q.off.toNat) && decide (q.off.toNat < lo + 4096 * d.fld STEER_SIZE n i)

/-- Requests that the DUT does not wait for. -/
def dutPosted : DutKind → Bool
  | .memWr => true
  | _ => false

/-- Requests that write. -/
def dutWrites : DutKind → Bool
  | .memWr => true
  | .ioWr => true
  | .cfgWr => true
  | .cxlWr => true
  | _ => false

/-- Configuration requests. -/
def dutCfg : DutKind → Bool
  | .cfgRd => true
  | .cfgWr => true
  | _ => false

/-- CXL.mem requests. -/
def dutMem : DutKind → Bool
  | .cxlRd => true
  | .cxlWr => true
  | _ => false

/-- A number of each kind, for the link's encodings. -/
def dutCode : DutKind → Nat
  | .memRd => 0
  | .memWr => 1
  | .ioRd => 2
  | .ioWr => 3
  | .cfgRd => 4
  | .cfgWr => 5
  | .cxlRd => 6
  | .cxlWr => 7

/-- The budget of a request in ticks (R481). -/
def Dev.budget (d : Dev) (n : Nat) (k : DutKind) : Nat :=
  max 80 (min 40000 (if (dutMem k) then d.fld BUD_MEM n else d.fld BUD_CPL n))

/-- Remove a pending request. -/
def Dev.dropPend (d : Dev) (n tag : Nat) : Dev :=
  d.setPrt n { d.prtOf n with pend := (d.prtOf n).pend.filter fun p => p.req.tag.toNat != tag }

/-- Change a pending request. -/
def Dev.setPend (d : Dev) (n : Nat) (x : DutPend) : Dev :=
  d.setPrt n { d.prtOf n with pend := (d.prtOf n).pend.map fun p => if p.req.tag = x.req.tag then x else p }

/-- A pending request by tag. -/
def Dev.pendOf (d : Dev) (n tag : Nat) : Option DutPend := (d.prtOf n).pend.find? fun p => p.req.tag.toNat == tag

/-- A message toward the DUT, sent and captured. -/
def Dev.answer (d : Dev) (n : Nat) (q : DutReq) (what : String) (kind flags : Nat) (args : List Nat) (bs : List Byte) : Dev :=
  (d.captureNow n 0 kind (1 + 2 * q.link.val) flags (Config.tlpBytes (q.tag.toNat :: args) bs)).toDut n what
    (q.link.val :: q.fn.val :: q.tag.toNat :: args) bs

/-- FILL_WORD repeated over `len` bytes. -/
def fillBytes (w len : Nat) : List Byte := (upTo len).map fun i => BitVec.ofNat 8 (w / 2 ^ (8 * (i % 8)))

/-- A stand-in is queued: counted, its entry written, its event line pulsed (R483). -/
def Dev.standInLog (d : Dev) (n link typ tag cause : Nat) : Dev :=
  ((d.inc GE_STANDINS 1 n).logEv 0x7001 .D n [dU 1 link, dC typ, dU 2 tag, dC cause]).eventPulse (4 * n + 1)

/-- Queue the stand-in of a request (R481, R483, R484): cause 1 budget, 2 target status. Of a read partly answered it is the bytes not yet
sent. -/
def Dev.standIn (d : Dev) (n : Nat) (x : DutPend) (cause : Nat) : Dev :=
  let q := x.req
  let d := d.standInLog n q.link.val q.typ.toNat q.tag.toNat cause
  match q.kind with
  | .cfgRd => d.answer n q "Cpl.CRS" 5 8 [2] []
  | .cfgWr => d.answer n q "Cpl.CRS" 5 8 [2] []
  | .cxlRd => d.answer n q "MemData.Poison" 5 (8 + 32) [0] (fillBytes 0 q.len)
  | .cxlWr => d.answer n q "Cmp" 5 8 [0] []
  | _ =>
    match d.fld STANDIN_CPL n with
    | 0 => d.answer n q "Cpl.UR" 5 8 [1] []
    | 1 => d.answer n q "Cpl.CA" 5 8 [4] []
    | k => d.answer n q (if k = 2 then "CplD" else "CplD.EP") 5 (if k = 2 then 8 else 8 + 32) [0]
        (if (dutWrites q.kind) then [] else fillBytes (d.fld FILL_WORD n) (q.len - x.sent))

/-- The answer to a request whose target gave a status (R484). -/
def Dev.sendAnswer (d : Dev) (n : Nat) (x : DutPend) (st : Nat) (bs : List Byte) : Dev :=
  let q := x.req
  let wr := (dutWrites q.kind)
  let data := if wr then [] else bs
  match st with
  | 0 => (d.answer n q (if (dutMem q.kind) then (if wr then "Cmp" else "MemData") else if wr then "Cpl" else "CplD") 0 0 [0] data).dropPend n q.tag.toNat
  | 6 => (d.answer n q (if (dutMem q.kind) then "MemData.Poison" else "CplD.EP") 0 32 [0] data).dropPend n q.tag.toNat
  | 3 => (d.standIn n x 2).dropPend n q.tag.toNat
  | 8 => (d.standIn n x 2).dropPend n q.tag.toNat
  | _ =>
    if (dutMem q.kind) then (d.standIn n x 2).dropPend n q.tag.toNat
    else (d.answer n q "Cpl.UR" 0 0 [1] []).dropPend n q.tag.toNat

/-- The budget of a pending request runs out (R483). -/
def Dev.budgetOut (d : Dev) (n : Nat) (x : DutPend) : Dev :=
  if x.standin ∨ x.withheld then d
  else ((d.tickTo (x.start + d.budget n x.req.kind)).standIn n x 1).setPend n { x with standin := true }

/-! ### UpdateFC (R481, R489) -/

/-- The credits of a link. -/
def Dev.fcOf (d : Dev) (n link : Nat) : FcLink := Sparse.get {} (d.prtOf n).fc link
/-- Change them. -/
def Dev.setFc (d : Dev) (n link : Nat) (x : FcLink) : Dev :=
  d.setPrt n { d.prtOf n with fc := Sparse.set {} (d.prtOf n).fc link x }

/-- A request has left the receive buffer: its credit is free and an UpdateFC is due. -/
def Dev.fcFree (d : Dev) (n link : Nat) : Dev :=
  let x := d.fcOf n link
  d.setFc n link { x with freed := x.freed + 1, due := x.due.or (some d.clk.tick) }

/-- The ticks an UpdateFC may take. -/
def Dev.fcBudget (d : Dev) (n : Nat) : Nat := max 80 (min 40000 (d.fld BUD_FC n))

/-- An UpdateFC leaves: a DLLP, or a stand-in. -/
def Dev.fcSend (d : Dev) (n link kind flags limit : Nat) : Dev :=
  (d.captureNow n 0 kind (1 + 2 * link) flags (Config.tlpBytes [link, limit] [])).toDut n "UpdateFC" [link, limit] []

/-- The budget of a link's UpdateFC runs out: the last advertised limits are repeated (R481), unless fault 11 withholds both (R489). The
entry's request type and tag are 0 (DEDUCED, log entry 181). -/
def Dev.fcOut (d : Dev) (n link : Nat) : Dev :=
  let x := d.fcOf n link
  match x.due with
  | none => d
  | some t =>
    if x.stood ∨ t + d.fcBudget n < x.hold then d
    else
      let d := (d.tickTo (t + d.fcBudget n)).standInLog n link 0 0 1
      (d.fcSend n link 5 8 x.adv).setFc n link { x with stood := true }

/-- A link's UpdateFC reaches the response queue: sent, or discarded after its stand-in (R483). -/
def Dev.fcAnswer (d : Dev) (n link : Nat) : Dev :=
  let x := d.fcOf n link
  let late := x.stood || x.due.any fun t => decide (t + d.fcBudget n < d.clk.tick)
  if d.clk.tick < x.hold then d
  else if late then
    let d := if x.stood then d else (d.standInLog n link 0 0 1).fcSend n link 5 8 x.adv
    ((d.inc GE_LATE_DROP 1 n).captureNow n 0 6 (1 + 2 * link) 0 (Config.tlpBytes [link, x.freed] [])).setFc n link
      { x with due := none, stood := false }
  else (d.fcSend n link 1 0 x.freed).setFc n link { x with due := none, adv := x.freed }

/-- The requester a controller is on the Annulus (R235). -/
def bridgeRid (n : Nat) : Nat := ridOf (bridgeStop n) 0

/-- A posted write that its target refused is dropped and counted (R484). -/
def Dev.postedDone (d : Dev) (n st : Nat) : Dev := if st = 0 then d else d.inc GE_WR_DROP 1 n

/-- The device address that entry `i` steers a request to. -/
def Dev.steerAddr (d : Dev) (n i : Nat) (q : DutReq) : Nat := (d.fld STEER_TARGET n i + (q.off.toNat - 4096 * d.fld STEER_BASE n i)) % 2 ^ 48

/-- A request steered to memory (R480, KIND MEM): its status and data, or nothing while it waits at a RAM block's gate (R178). A posted COUNT
write counts its arrival. -/
def Dev.steerMem (d : Dev) (n i : Nat) (q : DutReq) : Option (Nat × List Byte) × Dev :=
  let a := d.steerAddr n i q
  let w := if dutWrites q.kind then some q.data else none
  match placeOf a with
  | .host _ _ => (some (9, []), d)
  | _ =>
    if d.isRemote a then (some (9, []), d)
    else match d.qcMustWait a (if dutWrites q.kind then q.data.length else q.len) w (bridgeRid n) q.tag.toNat with
      | some (b, x) => (none, d.qcArrive b x)
      | none =>
        if dutWrites q.kind then
          let (st, d) := d.accWrite (bridgeStop n) a q.data
          match placeOf (d.localAddr a) with
          | .tile t _ => (some (st, []), if st = 0 && d.flag STEER_ARRIVE n i then d.arriveAt t (d.fld STEER_AC n i) else d)
          | _ => (some (st, []), d)
        else let (st, bs, d) := d.accRead (bridgeStop n) a q.len; (some (st, bs), d)

/-- A request steered to a region becomes an IREQ (R179, R480); a region that does not run answers REGION_BUSY. -/
def Dev.steerRegion (d : Dev) (n i : Nat) (q : DutReq) : Option Nat × Dev :=
  let r := d.fld STEER_TARGET n i % 32
  if d.regionRuns r then
    let g := d.gateOf r
    let x : IReq := { tag := q.tag.toNat, read := !dutWrites q.kind, addr := q.off.toNat, len := q.len, src := bridgeRid n,
                      data := q.data.map (·.getD 0), since := if g.inq = [] then some d.clk.tick else none }
    (none, d.setGate r { g with inq := g.inq ++ [x] })
  else (some 3, d)

/-- A request for region logic finds the 64 places of the inbound queue taken (R181), or one for a tile that hands over (R28): or
4,096 non-posted requests stand open (R471): it waits at the controller (log entry 164). -/
def Dev.dutWaits (d : Dev) (n : Nat) (q : DutReq) : Bool :=
  (!dutPosted q.kind && decide (4096 ≤ (d.prtOf n).pend.length)) || !dutCfg q.kind && match d.steerOf n q with
    | none => false
    | some i =>
      if d.fld STEER_KIND n i = 1 then d.addrHeld (d.steerAddr n i q)
      else d.regionRuns (d.fld STEER_TARGET n i % 32) && decide (64 ≤ (d.gateOf (d.fld STEER_TARGET n i % 32)).inq.length)

/-- A DUT request reaches a golden endpoint (R480, R481). -/
def Dev.dutReq (d : Dev) (n : Nat) (q : DutReq) : Dev :=
  if !d.portUp n || d.prtEff PC_MODE n != 3 || d.dutWaits n q then d else
  let d := d.fcFree n q.link.val
  let d := d.captureNow n 0 0 (2 * q.link.val) 0 (Config.tlpBytes [(dutCode q.kind), q.fn.val, q.bar.val, q.off.toNat, q.tag.toNat, q.len]
    (q.data.map (·.getD 0)))
  let push (d : Dev) (x : DutPend) : Dev :=
    if (dutPosted q.kind) then d else d.setPrt n { d.prtOf n with pend := (d.prtOf n).pend ++ [x] }
  if (dutCfg q.kind) then push d { req := q, start := d.clk.tick, ans := if (dutWrites q.kind) then some (0, []) else none }
  else match d.steerOf n q with
    | none =>
      let d := d.inc GE_UNMATCHED 1 n
      if (dutPosted q.kind) then d else d.answer n q "Cpl.UR" 0 0 [1] []
    | some i =>
      if d.fld STEER_KIND n i = 1 then
        let (r, d) := d.steerMem n i q
        if (dutPosted q.kind) then d.postedDone n (r.getD (0, [])).1 else push d { req := q, start := d.clk.tick, ans := r }
      else
        let (st, d) := d.steerRegion n i q
        if (dutPosted q.kind) then d.postedDone n (st.getD 0)
        else push d { req := q, start := d.clk.tick, ans := st.map fun x => (x, []), region := some (d.fld STEER_TARGET n i % 32, q.tag.toNat) }

/-- Part of a read's answer leaves in a completion of its own: its first `k` bytes not yet sent (R483). -/
def Dev.sendPart (d : Dev) (n : Nat) (x : DutPend) (bs : List Byte) (k : Nat) : Dev :=
  (d.answer n x.req "CplD" 0 0 [0] (bs.take k)).setPend n { x with sent := x.sent + k }

/-- The answer to a pending request, or `part` bytes of a read's, reaches the response queue (R483, R484). A configuration read returns the
personality's own register, which the manual does not list: a free value (log entry 32). -/
def Dev.geAnswer (d : Dev) (n tag : Nat) (part : Option Nat) : Dev :=
  match d.pendOf n tag with
  | none => d
  | some x =>
    let (v, d) := d.draw
    match (if x.req.kind = .cfgRd then some (0, leBytes x.req.len v) else x.ans) with
    | none => d
    | some (st, bs) =>
      if x.withheld then d.dropPend n tag
      else
        let late := x.standin || decide (x.start + d.budget n x.req.kind < d.clk.tick)
        if late then
          let d := if x.standin then d else d.standIn n x 1
          ((d.inc GE_LATE_DROP 1 n).captureNow n 0 6 (1 + 2 * x.req.link.val) 0 bs).dropPend n tag
        else match part with
          | some k =>
            if x.req.kind = .memRd ∧ st = 0 ∧ x.sent + k < x.req.len then d.sendPart n x (bs.drop x.sent) k
            else d.sendAnswer n x st (bs.drop x.sent)
          | none => d.sendAnswer n x st (bs.drop x.sent)

/-! ## Injection (R489) -/

/-- Does fault `f` apply to target `t`? -/
def injApplies (f t : Nat) : Bool :=
  if 1 ≤ f ∧ f ≤ 12 then decide (t ≤ 3) else if 13 ≤ f ∧ f ≤ 15 then decide (16 ≤ t ∧ t ≤ 31)
  else f == 16 && (decide (t ≤ 3) || decide (16 ≤ t ∧ t ≤ 63))

/-- Arm entry `i` of die `n`, if it names a fault its target can have. -/
def Dev.injArm (d : Dev) (n i : Nat) : Dev :=
  let ok := injApplies (d.fld INJ_FAULT n i) (d.fld INJ_TARGET n i) && d.fld INJ_COUNT n i != 0
  d.setPrt n { d.prtOf n with inj := Sparse.set {} (d.prtOf n).inj i (if ok then { armed := true, left := d.fld INJ_COUNT n i } else {}) }

/-- EN as written: every entry armed, or every entry disarmed. -/
def Dev.injEnable (d : Dev) (n : Nat) (on : Bool) : Dev :=
  if on then (upTo 16).foldl (fun d i => d.injArm n i) d else d.setPrt n { d.prtOf n with inj := [] }

/-- The capture ring of an injection target. -/
def injRing (t : Nat) : Option Nat := if t ≤ 3 then some 0 else if 16 ≤ t ∧ t ≤ 31 then some (t - 15) else none

/-- The trigger of entry `i` occurs. -/
def Dev.injTrigger (d : Dev) (n i matched : Nat) : Dev :=
  let p := d.prtOf n
  let e := Sparse.get {} p.inj i
  let m := d.fld INJ_MATCH n i
  let occurs := match d.fld INJ_TRIG n i with
    | 1 => true
    | 2 => m == 0xFFFF || m == matched
    | _ => true
  if !d.flag INJ_EN n || !e.armed || !occurs then d
  else
    let d := if d.fld INJ_TRIG n i = 1 then d.passTo (d.fld INJ_AT n i) else d
    let every := max 1 (d.fld INJ_EVERY n i)
    let seen := e.seen + 1
    if seen % every ≠ 0 then d.setPrt n { p with inj := Sparse.set {} p.inj i { e with seen := seen } }
    else
      let e' : Inj := if e.left ≤ 1 then {} else { e with seen := seen, left := e.left - 1 }
      let f := d.fld INJ_FAULT n i
      let t := d.fld INJ_TARGET n i
      let arg := d.fld INJ_ARG n i
      let victim := p.pend.find? fun x => !x.standin && !x.withheld && (d.fld INJ_TRIG n i != 2 || x.req.typ.toNat == matched)
      let d := d.setPrt n { p with inj := Sparse.set {} p.inj i e',
                                   txAdd := if f = 15 then Sparse.set 0 p.txAdd (t - 16) arg else p.txAdd }
      let d := match f, victim with
        | 9, some x => d.setPend n { x with withheld := true }
        | _, _ => d
      let d := if f = 11 then d.setFc n t { d.fcOf n t with hold := d.clk.tick + 800 * arg } else d
      let d := match injRing t with
        | some c => d.captureNow n c 7 1 4 []
        | none => d
      (d.toDut n "inject" [f, t, arg] []).eventPulse (4 * n + 2)

/-! ## Ethernet and raw lanes (R475 to R479) -/

/-- An Ethernet port is on: its controller runs, it has a rate, and the multiplexer gives every lane of it to its block (R468, R475). -/
def Dev.ethOn (d : Dev) (n p : Nat) : Bool :=
  d.portUp n && d.prtEff EPORT_RATE n p != 0
    && (upTo (d.prtEff EPORT_LANES n p)).all fun i => d.fld LANE_MUX n (16 + 8 * (p / 8) + d.prtEff EPORT_FIRST n p + i) == 1

/-- A received frame: truncated, counted, captured, and streamed to the block's region. -/
def Dev.ethRx (d : Dev) (n p : Nat) (frame : List Byte) (fec : Nat) : Dev :=
  if !d.ethOn n p || decide (frame.length < 64) then d else
  let big := decide (16383 < frame.length)
  let d := (d.inc EPORT_FRAMES 1 n p).inc EPORT_FEC_UNC fec n p
  let d := if big then d.inc EPORT_OVERSIZE 1 n p else d
  let d := d.captureNow n (p + 1) 3 (2 * p) (bitIf (big || fec != 0) 1) (frame.take 16383)
  let r := d.prtEff ETH_REGION n (p / 8)
  if d.regionRuns r then d.emit (.link "ETH.rx" r [n, p, d.now, if big then 1 else 0] (frame.take 16383)) else d

/-- A frame from region logic: sent, captured, its departure timestamp returned when marked. -/
def Dev.ethTx (d : Dev) (n p : Nat) (frame : List Byte) (mark : Option Nat) : Dev :=
  if !d.ethOn n p || !d.regionRuns (d.prtEff ETH_REGION n (p / 8)) || decide (frame.length < 64) then d else
  let d := (d.captureNow n (p + 1) 3 (1 + 2 * p) 0 (frame.take 16383)).toDut n "ETH.tx" [p] (frame.take 16383)
  match mark with
  | none => d
  | some tag =>
    let add := Sparse.get 0 (d.prtOf n).txAdd p
    let d := d.setPrt n { d.prtOf n with txAdd := Sparse.set 0 (d.prtOf n).txAdd p 0 }
    (d.setF EPORT_TXTS ((d.now + add) % 2 ^ 48) n p).setF EPORT_TXTAG tag n p

/-- A line rate of a raw lane in Mb/s (R469). -/
def rawRate (pam4 : Bool) (r : Nat) : Bool := if pam4 then decide (20000 ≤ r ∧ r ≤ 112500) else decide (1000 ≤ r ∧ r ≤ 56250)

/-- A raw lane is bound, at a line rate of R469, and on (one at any other rate passes no word: DEDUCED, log entry 183). -/
def Dev.rawOn (d : Dev) (n l : Nat) : Bool :=
  d.portUp n && rawRate (d.prtEff RAW_PAM4 n l == 1) (d.prtEff RAW_RATE n l) && d.fld LANE_MUX n l == 2

/-- Word width of a raw lane in bytes. -/
def Dev.rawBytes (d : Dev) (n l : Nat) : Nat := if d.prtEff RAW_W128 n l = 0 then 8 else 16

/-- The gearbox port of the lane's word number `k` (R478). -/
def Dev.rawPort (d : Dev) (n l k : Nat) : Nat := d.prtEff RAW_PORT n l + (if d.prtEff RAW_PAIR n l = 1 then k % 2 else 0)

/-- A received raw word goes to its gearbox port. -/
def Dev.rawRx (d : Dev) (n l w : Nat) : Dev :=
  if !d.rawOn n l then d else
  let k := Sparse.get 0 (d.prtOf n).rawRx l
  let d := d.setPrt n { d.prtOf n with rawRx := Sparse.set 0 (d.prtOf n).rawRx l ((k + 1) % 2) }
  d.emit (.link "RAW.rx" (d.prtEff RAW_REGION n l) [d.rawPort n l k] (leBytes (d.rawBytes n l) w))

/-- A raw word is sent, IDLE_WORD where the fabric supplies none. -/
def Dev.rawTx (d : Dev) (n l : Nat) (w : Option Nat) : Dev :=
  if !d.rawOn n l then d else
  let k := Sparse.get 0 (d.prtOf n).rawTx l
  let d := d.setPrt n { d.prtOf n with rawTx := Sparse.set 0 (d.prtOf n).rawTx l ((k + 1) % 2) }
  match w with
  | some v => d.emit (.link "RAW.tx" n [l, d.rawPort n l k] (leBytes (d.rawBytes n l) v))
  | none =>
    (d.inc RAW_UNDERRUN 1 n l).emit (.link "RAW.tx" n [l, d.rawPort n l k] (fillBytes (d.prtEff RAW_IDLE n l) (d.rawBytes n l)))

/-! ## PORT resets (R58, R60, R61, R63) -/

/-- The controller of die `n` goes into reset: its links fall, its pending answers are gone, waiting outbound reads end as timed
out, its counters clear, and its PERST_HOLD is done. -/
def Dev.portClear (d : Dev) (n : Nat) : Dev :=
  let outb := (d.prtOf n).outb.map (·.q) ++ (d.prtOf n).outWait.map (·.1)
  let d := outb.foldl (fun d q => d.emit (.resp (reqId q) q.tag.toNat 8 [])) d
  let p := d.prtOf n
  let d := if (Sparse.get {} p.link 0).l0 then d.eventLevel n false else d
  let d := d.setPrt n { p with pend := [], outb := [], outWait := [], fc := [], link := [], cfgRead := false, rawTx := [], rawRx := [], txAdd := [] }
  let d := prtCounters.foldl (fun d f => (upTo f.n2).foldl (fun d j => d.setF f f.rst n j) d) d
  (d.setF CFGSTAT_BUSY 0 n).setF CFGSTAT_STATUS 0 n

/-- A PORT reset begins; one already running absorbs it (R61). -/
def Dev.portResetOn (d : Dev) (n : Nat) : Dev :=
  if (Sparse.get none d.rst.port n).isSome then d
  else { d with rst := { d.rst with port := Sparse.set none d.rst.port n (some d.clk.ts) } }.freshChal.portClear n

end Sys2Proof.Machine
end

