-- ==== Sys2Proof/Machine/CplOps.lean ====
section
/-! DEFINITION. Coupling links and block transfers: positions, routes, flits and their retry, packets, pushes and pulls (chapter 18). -/

namespace Sys2Proof.Config

/-- The offset in RADDR of a pull whose destination is the originating link stop's own response buffer (R509): not stated. -/
opaque respRaddr : Nat → Nat

end Sys2Proof.Config

namespace Sys2Proof.Machine
open Sys2Proof.Machine.Reg

/-! ## Positions (R494, R495) -/

/-- Rows and columns of the colony. -/
def Dev.nrow (d : Dev) : Nat := d.fld COL_NROW_M1 + 1
/-- Columns. -/
def Dev.ncol (d : Dev) : Nat := d.fld COL_NCOL_M1 + 1
/-- The device's own ID. -/
def Dev.selfId (d : Dev) : Nat := d.fld COL_ID
/-- Row position of an ID. -/
def rowOf (i : Nat) : Nat := i / 16
/-- Column position of an ID. -/
def colOf (i : Nat) : Nat := i % 16
/-- An ID that can be a member (R494). -/
def Dev.inColony (d : Dev) (i : Nat) : Bool := decide (rowOf i < d.nrow) && decide (colOf i < d.ncol)

/-- Size of the ring of link `k`. -/
def Dev.ringSize (d : Dev) (k : Nat) : Nat := if k < 2 then d.ncol else d.nrow

/-- The neighbour of device `i` over link `k` (R495). -/
def Dev.neighbour (d : Dev) (i k : Nat) : Nat :=
  match k with
  | 0 => rowOf i * 16 + (colOf i + 1) % d.ncol
  | 1 => rowOf i * 16 + (colOf i + d.ncol - 1) % d.ncol
  | 2 => (rowOf i + 1) % d.nrow * 16 + colOf i
  | _ => (rowOf i + d.nrow - 1) % d.nrow * 16 + colOf i

/-- The link of device `i` is OFF: its ring has size 1. -/
def Dev.linkOff (d : Dev) (k : Nat) : Bool := d.ringSize k == 1

/-- Link `k` of device `i` is its ring's wrap link. -/
def Dev.wrapLink (d : Dev) (i k : Nat) : Bool :=
  match k with
  | 0 => colOf i + 1 == d.ncol
  | 1 => colOf i == 0
  | 2 => rowOf i + 1 == d.nrow
  | _ => rowOf i == 0

/-- The far end of link `k` is its partner of the ring. -/
def farLink (k : Nat) : Nat := if k % 2 = 0 then k + 1 else k - 1

/-! ## Routes (R504, R505) -/

/-- Direction in a ring of size `s` from `a` to `b`: 0 is +, 1 is − (R504). -/
def ringDir (s a b : Nat) : Nat :=
  let x := (b + s - a) % s
  if 2 * x < s then 0 else if s < 2 * x then 1 else if a % 2 = 0 then 0 else 1

/-- A link is known to be down: one of its ends has been reported so. -/
def Dev.knownDown (d : Dev) (i k : Nat) : Bool :=
  NatSet.has d.cpl.down (4 * i + k) || NatSet.has d.cpl.down (4 * d.neighbour i k + farLink k)

/-- Walking from `i` over links `k`, is a link known down before `stop` holds? `fuel` bounds the ring. -/
def Dev.blocked (d : Dev) (k target : Nat) : Nat → Nat → Bool
  | 0, _ => false
  | fuel + 1, i => if i = target then false else d.knownDown i k || Dev.blocked d k target fuel (d.neighbour i k)

/-- Direction taken in one ring from `a` to the position of `b`, where a way is open: `base` is 0 for row rings, 2 for column rings. -/
def Dev.pickDir (d : Dev) (base a b pa pb : Nat) : Option Nat :=
  let first := ringDir (d.ringSize base) pa pb
  if a = b then some 0
  else if !d.blocked (base + first) b 32 a then some first
  else if !d.blocked (base + (1 - first)) b 32 a then some (1 - first)
  else none

/-- ROUTE toward a device (R504, R505). -/
def Dev.routeTo (d : Dev) (dev : Nat) : Option Nat :=
  let me := d.selfId
  let corner := rowOf me * 16 + colOf dev
  match d.pickDir 0 me corner (colOf me) (colOf dev), d.pickDir 2 corner dev (rowOf me) (rowOf dev) with
  | some x, some y => some (x + 2 * y)
  | _, _ => none

/-- The next link of a packet at this device; 4 when it has arrived. -/
def Dev.nextLink (d : Dev) (dst route : Nat) : Nat :=
  let me := d.selfId
  if colOf me ≠ colOf dst then route % 2
  else if rowOf me ≠ rowOf dst then 2 + route / 2 % 2
  else 4

/-- VC on link `k`: 1 on and behind the wrap link of its ring, 0 before (R504). `via` is the link and VC it came over. -/
def Dev.vcOn (d : Dev) (k : Nat) (via : Option (Nat × Nat)) : Nat :=
  if d.wrapLink d.selfId k then 1
  else match via with
    | some (j, v) => if j / 2 = k / 2 then v else 0
    | none => 0

/-! ## Packets (R503) -/

/-- Class of a message: 0 REQ, 1 RSP, 2 DAT, 3 CTL. -/
def msgClass (m : Nat) : Nat := if m = 1 then 2 else if m = 2 then 0 else if m = 3 ∨ m = 5 then 1 else 3

/-- Header bytes. -/
def CPkt.header (p : CPkt) : List Byte :=
  leBytes 1 p.msg ++ leBytes 1 p.flags ++ leBytes 2 p.dst ++ leBytes 2 p.src ++ leBytes 1 p.status ++ leBytes 1 p.route
    ++ leBytes 8 p.addr ++ leBytes 8 p.raddr ++ leBytes 4 p.len ++ leBytes 2 p.tag ++ leBytes 2 p.reqid ++ leBytes 8 p.ts
    ++ leBytes 2 p.aux ++ leBytes 2 p.gen ++ leBytes 20 0

/-- A field of a header. -/
def hdrNat (h : List Byte) (at_ n : Nat) : Nat := leNat ((h.drop at_).take n)

/-- The packet a header and its data spell. -/
def pktOf (h data : List Byte) : CPkt :=
  { msg := hdrNat h 0 1, flags := hdrNat h 1 1, dst := hdrNat h 2 2 % 512, src := hdrNat h 4 2 % 512, status := hdrNat h 6 1,
    route := hdrNat h 7 1, addr := hdrNat h 8 8 % 2 ^ 38, raddr := hdrNat h 16 8 % 2 ^ 48, len := hdrNat h 24 4, tag := hdrNat h 28 2,
    reqid := hdrNat h 30 2 % 2048, ts := hdrNat h 32 8, aux := hdrNat h 40 2, gen := hdrNat h 42 2, data := data.take (hdrNat h 24 4) }

/-- A header the link drops: another MSG value, or a nonzero reserved byte. -/
def badHeader (h : List Byte) : Bool := hdrNat h 0 1 == 0 || decide (8 < hdrNat h 0 1) || hdrNat h 44 20 != 0

/-- Flits of a packet: its header and its data, as payloads. -/
def CPkt.payloads (p : CPkt) : List (List Byte) :=
  p.header :: (upTo ((p.data.length + 63) / 64)).map fun i =>
    let s := (p.data.drop (64 * i)).take 64
    s ++ List.replicate (64 - s.length) 0

/-- Depth of a pool's buffer per VC (R501). -/
def poolDepth (pool : Nat) : Nat := if pool / 2 = 2 then 192 else 32

/-- Queue a packet at a link: it leaves by CPL_FLIT_TX. -/
def Dev.linkSend (d : Dev) (k vc : Nat) (p : CPkt) : Dev :=
  let l := d.linkOf k
  d.setLink k { l with txq := l.txq ++ [(2 * msgClass p.msg + vc, p)] }

/-- A packet of this device leaves on its route. -/
def Dev.pktSend (d : Dev) (p : CPkt) : Dev :=
  let k := d.nextLink p.dst p.route
  if k = 4 then d else d.linkSend k (d.vcOn k none) p

/-- A CTL or RSP message of this device to another: its ROUTE chosen here; one that cannot be routed is lost. -/
def Dev.pktTo (d : Dev) (p : CPkt) : Dev :=
  match d.routeTo p.dst with
  | some r => d.pktSend { p with route := r }
  | none => d

/-! ## Flits (R497 to R502) -/

/-- CPL_LINK_STAT.STATE reads UP. -/
def Dev.linkUp (d : Dev) (k : Nat) : Bool := d.fld CPL_STATE k == 2

/-- CR bytes: up to 15 credits per pool. -/
def crBytes (owed : List (Nat × Nat)) : List Byte :=
  (upTo 4).map fun c => BitVec.ofNat 8 (min 15 (Sparse.get 0 owed (2 * c)) + 16 * min 15 (Sparse.get 0 owed (2 * c + 1)))

/-- What is still owed after those. -/
def crRest (owed : List (Nat × Nat)) : List (Nat × Nat) :=
  (upTo 8).foldl (fun o p => Sparse.set 0 o p (Sparse.get 0 o p - 15)) owed

/-- The 80 bytes of a flit (R498). -/
def flitBytes (body : List Byte) (seq ack : Nat) (cr : List Byte) : List Byte :=
  let b := body ++ leBytes 2 seq ++ leBytes 2 ack ++ cr ++ leBytes 2 0
  b ++ leBytes 4 (crc32 b)

/-- ACK field. -/
def CLink.ack (l : CLink) : Nat := (l.rxSeq + 4095) % 4096 + bitIf l.acked 15

/-- Send a flit: its 66 bytes of payload and KIND, with the credits this end owes. -/
def Dev.flitOut (d : Dev) (k : Nat) (body : List Byte) (seq ack : Nat) : Dev :=
  let l := d.linkOf k
  (d.setLink k { l with owed := crRest l.owed }).emit (.link "CPL" k [] (flitBytes body seq ack (crBytes l.owed)))

/-- Pools with a packet to send and a credit, of one class. -/
def CLink.readyPool (l : CLink) (c : Nat) : Option Nat :=
  [2 * c, 2 * c + 1].find? fun p => l.txq.any (fun e => e.1 == p) && decide (Sparse.get 0 l.spent p < poolDepth p)

/-- The pool that sends in this flit time (R502). -/
def CLink.pickPool (l : CLink) : Option Nat :=
  let dat := l.readyPool 2
  if dat.isSome ∧ l.slot + 1 ≤ 64 ∧ 16 ≤ l.slot - l.dat then dat
  else match l.readyPool 1, l.readyPool 3, l.readyPool 0 with
    | some p, _, _ => some p
    | none, some p, _ => some p
    | none, none, some p => some p
    | none, none, none => dat

/-- One flit time of link `k` (R497 to R502): a NAK that is due, a replay, a flit of the pool that is chosen, or IDLE. -/
def Dev.flitTx (d : Dev) (k : Nat) : Dev :=
  if !d.linkUp k then d else
  let l := d.linkOf k
  let zero := List.replicate 64 (0 : Byte)
  if l.nakDue then
    (d.setLink k { l with nakDue := false }).flitOut k (zero ++ [3, 0]) l.txSeq (l.rxSeq + bitIf l.acked 15)
  else match l.again with
    | (s, b) :: r => (d.setLink k { l with again := r }).flitOut k b s l.ack
    | [] =>
      let datReady := (l.readyPool 2).isSome
      let pick := if l.replay.length < 256 then l.pickPool else none
      let slot := if datReady then l.slot + 1 else l.slot
      let dat := if datReady && pick.any (· / 2 == 2) then l.dat + 1 else l.dat
      let l := { l with slot := if 64 ≤ slot then 0 else slot, dat := if 64 ≤ slot then 0 else dat }
      match pick.bind fun p => (l.txq.find? fun e => e.1 == p).map fun e => (p, e.2) with
      | none => (d.setLink k l).flitOut k (zero ++ [0, 0]) l.txSeq l.ack
      | some (p, pkt) =>
        let i := Sparse.get 0 l.sent p
        let pay := pkt.payloads
        let last := i + 1 == pay.length
        let body := pay.getD i [] ++ [BitVec.ofNat 8 ((if i = 0 then 1 else 2) + 4 * (p / 2) + 16 * (p % 2) + bitIf last 5), 0]
        let l := { l with
          replay := l.replay ++ [(l.txSeq, body)], txSeq := (l.txSeq + 1) % 4096
          spent := Sparse.set 0 l.spent p (Sparse.get 0 l.spent p + 1)
          sent := Sparse.set 0 l.sent p (if last then 0 else i + 1)
          txq := if last then l.txq.eraseP (fun e => e.1 == p) else l.txq }
        ((d.setLink k l).inc CPL_TX 64 k).flitOut k body ((l.txSeq + 4095) % 4096) l.ack

/-- Free buffer places of a pool: their credits are owed to the far end (R501). -/
def CLink.free (l : CLink) (pool n : Nat) : CLink :=
  { l with occ := Sparse.set 0 l.occ pool (Sparse.get 0 l.occ pool - n), owed := Sparse.set 0 l.owed pool (Sparse.get 0 l.owed pool + n) }

/-- Sequence number `a` is at or before `b` (within half of the number space). -/
def seqLe (a b : Nat) : Bool := decide ((b + 4096 - a) % 4096 < 2048)

/-- A flit's acknowledge, credits and NAK act whatever becomes of the flit itself (log entry 40). -/
def Dev.flitControl (d : Dev) (k : Nat) (f : List Byte) : Dev :=
  let l := d.linkOf k
  let kind := hdrNat f 64 1 % 4
  let ack := hdrNat f 68 2
  let cr := (f.drop 70).take 4
  let spent := (upTo 8).foldl (fun s p =>
    Sparse.set 0 s p (Sparse.get 0 s p - (cr.getD (p / 2) 0).toNat / 16 ^ (p % 2) % 16)) l.spent
  let l := { l with spent := spent }
  let keep (e : Nat × List Byte) : Bool :=
    if kind = 3 then !(seqLe e.1 ((ack + 4095) % 4096)) else !(bitAt ack 15 && seqLe e.1 (ack % 4096))
  let s := ack % 4096
  let l := { l with replay := l.replay.filter keep, again := l.again.filter keep }
  if kind = 3 then
    let l := { l with again := l.replay, nakSeq := s, nakCnt := if l.nakSeq = s ∧ l.nakCnt ≠ 0 then l.nakCnt + 1 else 1 }
    ((d.setLink k l).inc CPL_RETRY 1 k).repAbort 7 0x8001 k
  else d.setLink k { l with nakCnt := if bitAt ack 15 && seqLe l.nakSeq s then 0 else l.nakCnt }

/-- The last flit of a packet has arrived: the packet waits in its buffer, or is dropped with CPL_BAD_MSG (R503). -/
def Dev.pktWhole (d : Dev) (k pool : Nat) (flits : List (List Byte)) : Dev :=
  let l := d.linkOf k
  let h := flits.headD []
  let l := { l with part := Sparse.set [] l.part pool [] }
  if badHeader h then (d.setLink k (l.free pool flits.length)).logEv 0x8007 .D k [dU 1 k, dB 16 (hdrNat h 0 16)]
  else d.setLink k { l with rxq := l.rxq ++ [(pool, pktOf h (flits.tail.flatMap id))] }

/-- A flit arrives (R498, R499): 80 bytes. -/
def Dev.flitRx (d : Dev) (k : Nat) (f : List Byte) : Dev :=
  if !d.linkUp k || f.length != 80 then d
  else if crc32 (f.take 76) ≠ hdrNat f 76 4 then d.setLink k { d.linkOf k with nakDue := true, disc := true }
  else
    let d := d.flitControl k f
    let l := d.linkOf k
    let kb := hdrNat f 64 1
    let kind := kb % 4
    let seq := hdrNat f 66 2 % 4096
    if seq ≠ l.rxSeq then d.setLink k { l with nakDue := l.nakDue || !l.disc, disc := true }
    else if kind = 0 ∨ kind = 3 then d.setLink k { l with disc := false }
    else
      let pool := kb / 4 % 8 / 1 % 4 * 2 + kb / 16 % 2
      let flits := Sparse.get [] l.part pool ++ [f.take 64]
      let l := { l with rxSeq := (l.rxSeq + 1) % 4096, acked := true, disc := false,
                        occ := Sparse.set 0 l.occ pool (Sparse.get 0 l.occ pool + 1), part := Sparse.set [] l.part pool flits }
      let d := d.setLink k l
      if bitAt kb 5 then d.pktWhole k pool flits else d

/-- The oldest packet of a pool, without taking it. -/
def Dev.pktHead (d : Dev) (k pool : Nat) : Option CPkt := ((d.linkOf k).rxq.find? fun e => e.1 == pool).map (·.2)

/-- Take the oldest packet of a pool: its places are free. -/
def Dev.pktTake (d : Dev) (k pool : Nat) : Dev :=
  match d.pktHead k pool with
  | none => d
  | some p =>
    let l := d.linkOf k
    d.setLink k ({ l with rxq := l.rxq.eraseP (fun e => e.1 == pool) }.free pool p.payloads.length)

/-- The oldest packet of a buffer, when it is a message `m` for this device. -/
def Dev.pktFor (d : Dev) (k vc m : Nat) : Option CPkt :=
  (d.pktHead k (2 * msgClass m + vc)).bind fun p => if p.msg = m ∧ p.dst = d.selfId then some p else none

/-! ## Transfers (R505 to R511) -/

/-- The worst of two statuses: the first that is not OK, and any other over POISON (R507). -/
def worse (a b : Nat) : Nat := if a = 0 then b else if b = 0 then a else if a = 6 then b else a

/-- The smallest TAG no open transfer of link stop `k` uses. -/
def Dev.freeTag (d : Dev) (k : Nat) : Nat :=
  ((upTo 256).find? fun t => !d.cpl.xfers.any fun x => x.stop == k && x.tag == t).getD 0

/-- Link stop `k` has a place for one more transfer (R510). -/
def Dev.xferRoom (d : Dev) (k : Nat) : Bool := decide ((d.cpl.xfers.filter fun x => x.stop == k).length < 256)

/-- A transfer ends: its requester is answered. -/
def Dev.xferEnd (d : Dev) (x : Xfer) (st : Nat) : Dev :=
  ({ d with cpl := { d.cpl with xfers := d.cpl.xfers.filter fun y => !(y.stop == x.stop && y.tag == x.tag) } }).emit
    (.resp x.rid x.rtag st (if st = 0 ∨ st = 6 then x.resp.getD [] else []))

/-- Change an open transfer. -/
def Dev.setXfer (d : Dev) (x : Xfer) : Dev :=
  { d with cpl := { d.cpl with xfers := d.cpl.xfers.map fun y => if y.stop = x.stop ∧ y.tag = x.tag then x else y } }

/-- Pieces of `[off, off + len)` that cross no 4 KiB boundary (R506): offset and length. `fuel` bounds them. -/
def pieces : Nat → Nat → Nat → List (Nat × Nat)
  | 0, _, _ => []
  | fuel + 1, off, len =>
    if len = 0 then [] else
    let n := min len (4096 - off % 4096)
    (off, n) :: pieces fuel (off + n) (len - n)

/-- The pieces of a transfer. -/
def xferPieces (off len : Nat) : List (Nat × Nat) := pieces (len / 4096 + 2) off len

/-- What a transfer that cannot begin answers: NO_MEMBER with its entry, unreachable with CPL_UNREACH (R38, R505). -/
def Dev.unreachable (d : Dev) (rid rtag dev : Nat) : Dev :=
  ((d.inc CPL_UNREACH).logEv 0x8006 .D 0 [dU 2 dev]).emit (.resp rid rtag 5 [])

/-- A piece of `n` bytes at `o` holds a poisoned part, of those that begin at `bad`. -/
def badPiece (bad : List Nat) (o n : Nat) : Bool := bad.any fun b => decide (o ≤ b) && decide (b < o + n)

/-- PUSH packets of a transfer from this device, one per piece, queued on their route. A piece with a poisoned part is marked POISON. -/
def Dev.sendPieces (d : Dev) (p : CPkt) (ps : List (Nat × Nat)) (data : List Byte) (bad : List Nat) (arrive : Bool) (fin : Bool)
    (st : Nat) : Dev :=
  let n := ps.length
  let base := (ps.headD (0, 0)).1
  ((upTo n).zip ps).foldl (fun d e =>
    let last := e.1 + 1 == n
    let off := e.2.1
    let len := e.2.2
    d.pktSend { p with
      addr := off, len := len, data := (data.drop (off - base)).take len, status := if last then st else 0
      flags := bitIf last 0 + bitIf (last && arrive) 1 + bitIf (badPiece bad (off - base) len) 2 + bitIf (last && fin) 3 }) d

/-- A transfer waits at link stop `k`. -/
def Dev.xferHold (d : Dev) (k : Nat) (w : XWait) : Dev := { d with cpl := { d.cpl with waiting := d.cpl.waiting ++ [(k, w)] } }

/-- A push of bytes to a device's offset (R507), once its link stop has a place (R510). `count`: the counter an arrival counts at. -/
def Dev.startPush (d : Dev) (rid rtag dev off : Nat) (data : List Byte) (bad : List Nat) (count : Option Nat)
    (copy : Option Nat) : Dev :=
  match d.routeTo dev with
  | none => d.unreachable rid rtag dev
  | some r =>
    let k := d.nextLink dev r
    if !d.xferRoom k then d.xferHold k (.push rid rtag dev off data bad count copy) else
    let tag := d.freeTag k
    let ps := xferPieces off data.length
    let x : Xfer := { stop := k, tag := tag, pull := false, dev := dev, dev2 := dev, len := data.length, begun := d.clk.tick,
                      wait := ps.length, rid := rid, rtag := rtag, copy := copy }
    let d := { d with cpl := { d.cpl with xfers := d.cpl.xfers ++ [x] } }
    d.sendPieces { msg := 1, dst := dev, src := d.selfId, route := r, tag := tag, reqid := rid, ts := d.now, aux := count.getD 0 }
      ps data bad count.isSome false 0

/-- Colony device address of an offset of a device. -/
def colonyAddr (dev off : Nat) : Nat := 0x8000_0000_0000 + dev * 2 ^ 38 + off

/-- A pull (R508): `raddr` a colony address; `resp` asks for the link stop's response buffer (R509). -/
def Dev.startPull (d : Dev) (rid rtag dev off len raddr dev2 : Nat) (resp : Bool) (copy : Option Nat) : Dev :=
  match d.routeTo dev with
  | none => d.unreachable rid rtag dev
  | some r =>
    let k := d.nextLink dev r
    if !d.xferRoom k then d.xferHold k (.pull rid rtag dev off len raddr dev2 resp copy) else
    let tag := d.freeTag k
    let x : Xfer := { stop := k, tag := tag, pull := true, dev := dev, dev2 := dev2, len := len, begun := d.clk.tick, wait := 1,
                      rid := rid, rtag := rtag, copy := copy, resp := if resp then some (List.replicate len 0) else none }
    let d := { d with cpl := { d.cpl with xfers := d.cpl.xfers ++ [x] } }
    d.pktSend { msg := 2, dst := dev, src := d.selfId, route := r, addr := off, raddr := if resp then colonyAddr d.selfId (Config.respRaddr tag % 2 ^ 38) else raddr,
                len := len, tag := tag, reqid := rid, ts := d.now }

/-- A transfer that waited begins; one to a device that is no member any more completes with NO_MEMBER (R517). -/
def Dev.xferStart (d : Dev) (w : XWait) : Dev :=
  match w with
  | .push rid rtag dev off data bad count copy =>
    if d.member dev then d.startPush rid rtag dev off data bad count copy else d.emit (.resp rid rtag 5 [])
  | .pull rid rtag dev off len raddr dev2 resp copy =>
    if d.member dev then d.startPull rid rtag dev off len raddr dev2 resp copy else d.emit (.resp rid rtag 5 [])

/-- Transfers that wait begin, oldest first, while their link stops have places (R510). `fuel` bounds them. -/
def Dev.xferGo (d : Dev) : Nat → Dev
  | 0 => d
  | fuel + 1 =>
    match d.cpl.waiting.find? fun e => d.xferRoom e.1 with
    | none => d
    | some e => Dev.xferGo (({ d with cpl := { d.cpl with waiting := d.cpl.waiting.erase e } }).xferStart e.2) fuel

/-- The offset in the colony map of an address of this device (R37, inverted); `none` for an address it does not list. -/
def offsetOf (a : Nat) : Option Nat :=
  match placeOf a with
  | .hbm => some a
  | .scratch _ _ => some (0x20_0000_0000 + (a - 0x0100_0000_0000))
  | .tile _ _ => some (0x30_0000_0000 + (a - 0x0200_0000_0000))
  | _ => none

/-- Read `len` bytes at an address of this device piece by piece for a transfer: the bytes up to a failing piece, which pieces were
poisoned, and the status (R511). -/
def Dev.readPieces (d : Dev) (stop : Nat) : List (Nat × Nat) → List Byte → List Nat → List Byte × List Nat × Nat × Dev
  | [], acc, bad => (acc, bad, if bad = [] then 0 else 6, d)
  | (a, n) :: r, acc, bad =>
    let (st, bs, d) := d.accRead stop a n
    if st = 0 then Dev.readPieces d stop r (acc ++ bs) bad
    else if st = 6 then Dev.readPieces d stop r (acc ++ bs) (acc.length :: bad)
    else (acc, bad, st, d)

/-- A packet's place on this device is a tile that hands over: it waits in its buffer (R28). -/
def Dev.offHeld (d : Dev) (off : Nat) : Bool :=
  match remoteOffset off with
  | some a => d.addrHeld a
  | none => false

/-- A PUSH reaches its target (R507, R508): written, answered with PUSH_CPL; data of this device's own pull completes it with
FINAL. -/
def Dev.takePush (d : Dev) (k vc : Nat) : Dev :=
  match d.pktFor k vc 1 with
  | none => d
  | some p =>
    if d.offHeld p.addr then d else
    let d := d.pktTake k (4 + vc)
    let own := d.cpl.xfers.find? fun x => x.pull && x.tag == p.tag && x.rid == p.reqid && x.dev == p.src
    let fin := bitAt p.flags 3
    match own with
    | none =>
      if fin then d.inc CPL_LATE
      else
        let (st, d) := write d k p
        d.pktTo { msg := 3, dst := p.src, src := d.selfId, status := st, len := p.len, tag := p.tag, reqid := p.reqid, ts := d.now }
    | some x =>
      let (st, d, x) := match x.resp with
        | some buf => (if bitAt p.flags 2 then 6 else 0, d,
            { x with resp := some (buf.take x.written ++ p.data ++ buf.drop (x.written + p.data.length)) })
        | none => if p.len = 0 then (0, d, x) else
            let (st, d) := write d k p
            (st, d, x)
      let x := { x with status := worse x.status (worse st p.status), written := x.written + p.len }
      if fin then d.xferEnd x x.status else d.setXfer x
where
  /-- The writes of a packet: status, and the state; a poisoned packet is written poisoned, an arrival counted. -/
  write (d : Dev) (k : Nat) (p : CPkt) : Nat × Dev :=
    match remoteOffset p.addr with
    | none => (1, d.logStatus 1 (colonyAddr d.selfId p.addr) p.len (cplStop k))
    | some a =>
      let (st, d) := d.accWrite (cplStop k) a (allOn p.data)
      if st ≠ 0 then (st, d)
      else
        let d := if bitAt p.flags 2 then d.poisonAt a p.len else d
        let d := match placeOf a with
          | .tile t _ => if bitAt p.flags 1 then d.arriveAt t (p.aux % 64) else d
          | _ => d
        (if bitAt p.flags 2 then 6 else 0, d)

/-- The pull engine of link stop `k` serves a pull: it reads the source and pushes to RADDR (R508, R511). -/
def Dev.servePull (d : Dev) (k : Nat) (p : CPkt) : Dev :=
  let (bs, bad, st, d) := match remoteOffset p.addr with
    | none => ([], [], 1, d.logStatus 1 (colonyAddr d.selfId p.addr) p.len (cplStop k))
    | some a => d.readPieces (cplStop k) (xferPieces a p.len) [] []
  let toOrigin := match placeOf p.raddr with
    | .remote dev _ => dev == p.src
    | _ => true
  let toDev := match placeOf p.raddr with
    | .remote dev _ => dev
    | _ => p.src
  let base : CPkt := { msg := 1, dst := toDev, src := d.selfId, tag := p.tag, reqid := p.reqid, ts := d.now }
  let fin : CPkt := { base with dst := p.src, flags := 9, len := 0 }
  if bs = [] then d.pktTo { fin with status := st }
  else if toOrigin then
    match d.routeTo p.src with
    | none => d
    | some r => d.sendPieces { base with route := r } (xferPieces (p.raddr % 2 ^ 38) bs.length) bs bad false true st
  else if d.isSelf toDev then
    let (ws, d) := match remoteOffset (p.raddr % 2 ^ 38) with
      | none => (1, d.logStatus 1 p.raddr bs.length (cplStop k))
      | some a =>
        let (ws, d) := d.accWrite (cplStop k) a (allOn bs)
        (ws, if ws = 0 then (xferPieces a bs.length).foldl (fun (d : Dev) (e : Nat × Nat) => if badPiece bad (e.1 - a) e.2 then d.poisonAt e.1 e.2 else d) d else d)
    d.pktTo { fin with status := worse st ws }
  else
    match d.routeTo toDev with
    | none => d.pktTo { fin with status := 5 }
    | some r =>
      let ps := xferPieces (p.raddr % 2 ^ 38) bs.length
      let d := { d with cpl := { d.cpl with pullOn := d.cpl.pullOn ++ [(k, ({ req := p, wait := ps.length, status := st } : PullJob))] } }
      d.sendPieces { base with route := r } ps bs bad false false 0

/-- A PULL reaches the pull engine: served, or queued while 16 are served; with 64 queued it stays in its buffer (R510). -/
def Dev.takePull (d : Dev) (k vc : Nat) : Dev :=
  match d.pktFor k vc 2 with
  | none => d
  | some p =>
    if d.offHeld p.addr then d
    else if (d.cpl.pullOn.filter fun e => e.1 == k).length < 16 then (d.pktTake k vc).servePull k p
    else if (d.cpl.pullQ.filter fun e => e.1 == k).length < 64 then
      let d := d.pktTake k vc
      { d with cpl := { d.cpl with pullQ := d.cpl.pullQ ++ [(k, ({ req := p } : PullJob))] } }
    else d

/-- A queued pull starts when the engine has a place (R510). -/
def Dev.pullStart (d : Dev) (k : Nat) : Dev :=
  if 16 ≤ (d.cpl.pullOn.filter fun e => e.1 == k).length then d else
  match d.cpl.pullQ.find? fun e => e.1 == k with
  | none => d
  | some e => if d.offHeld e.2.req.addr then d else ({ d with cpl := { d.cpl with pullQ := d.cpl.pullQ.eraseP fun x => x.1 == k } }).servePull k e.2.req

/-- A PUSH_CPL returns: to a push of this device, to a pull its engine serves, or too late (R507, R508, R511). -/
def Dev.takePushCpl (d : Dev) (k vc : Nat) : Dev :=
  match d.pktFor k vc 3 with
  | none => d
  | some p =>
    let d := d.pktTake k (2 + vc)
    match d.cpl.xfers.find? fun x => !x.pull && x.tag == p.tag && x.rid == p.reqid && x.dev == p.src with
    | some x =>
      let x := { x with wait := x.wait - 1, written := x.written + (if p.status = 0 then p.len else 0), status := worse x.status p.status }
      if x.wait = 0 then d.xferEnd x x.status else d.setXfer x
    | none =>
      match d.cpl.pullOn.find? fun e => e.2.req.tag == p.tag && e.2.req.reqid == p.reqid with
      | none => d.inc CPL_LATE
      | some (s, j) =>
        let j' := { j with wait := j.wait - 1, status := worse j.status p.status }
        if j'.wait = 0 then
          let d := { d with cpl := { d.cpl with pullOn := d.cpl.pullOn.erase (s, j) } }
          d.pktTo
            { msg := 1, flags := 9, dst := j.req.src, src := d.selfId, status := j'.status, tag := j.req.tag, reqid := j.req.reqid, ts := d.now }
        else { d with cpl := { d.cpl with pullOn := d.cpl.pullOn.map fun e => if e = (s, j) then (s, j') else e } }

/-- CPL_TMO in ticks (R521). -/
def Dev.cplTmo (d : Dev) : Nat :=
  let t := d.fld CPL_TMO
  800 * (if t = 0 ∨ 1000000 < t then 1000000 else t)

/-- A transfer stays open for CPL_TMO (R511). -/
def Dev.xferTimeout (d : Dev) (k tag : Nat) : Dev :=
  match d.cpl.xfers.find? fun x => x.stop == k && x.tag == tag with
  | none => d
  | some x =>
    let d := d.tickTo (x.begun + d.cplTmo)
    ((d.inc CPL_TIMEOUTS).logEv 0x8005 .D k [dU 2 x.dev, dU 2 tag, dN x.len, dN x.written]).xferEnd x 8

/-- A transit packet moves to its next link stop (R503, R505): it is held while that link trains again, and lost with one that
has failed. -/
def Dev.forward (d : Dev) (k pool : Nat) : Dev :=
  match d.pktHead k pool with
  | none => d
  | some p =>
    if p.dst = d.selfId then d else
    let j := d.nextLink p.dst p.route
    match d.fld CPL_STATE j with
    | 2 => (d.pktTake k pool).linkSend j (d.vcOn j (some (k, pool % 2))) p
    | 4 => d.pktTake k pool
    | 0 => d.pktTake k pool
    | _ => d

/-! ## Block transfers that units ask for (R38, R503, R506) -/

/-- Status of a remote end of a transfer of `len` bytes that this device finds: a shape no transfer has (R38, R506), or what R40 finds before
injection. An offset R37 does not list is the member's to answer. -/
def Dev.remoteEnd (d : Dev) (a len : Nat) : Nat :=
  if len = 0 ∨ len % 256 ≠ 0 ∨ 2 ^ 24 < len then 9
  else match placeOf a with
    | .remote dev _ =>
      if windowEnd a < a + len then 4 else if !(d.isSelf dev || d.member dev) then 5 else 0
    | _ => 9

/-- A refused transfer answers its status, with the entry of R40. -/
def Dev.xferRefuse (d : Dev) (rid rtag st a len : Nat) : Dev := (d.logStatus st a len (rid / 16)).emit (.resp rid rtag st [])

/-- RPUSH: local data to a remote member, `count` an arrival with the last packet. -/
def Dev.rpush (d : Dev) (rid rtag src dst len : Nat) (count : Option Nat) (copy : Option Nat) : Dev :=
  let st := d.remoteEnd dst len
  match placeOf dst with
  | .remote dev off =>
    if st ≠ 0 then d.xferRefuse rid rtag st dst len
    else if d.stopStatus src len ≠ 0 then d.xferRefuse rid rtag (d.stopStatus src len) src len
    else if d.isSelf dev then
      let (rs, bs, d) := d.accRead (rid / 16) src len
      if rs ≠ 0 ∧ rs ≠ 6 then d.emit (.resp rid rtag rs [])
      else
        let (ws, d) := d.accWrite (rid / 16) dst (allOn bs)
        let d := if rs = 6 && ws = 0 then d.poisonAt (d.localAddr dst) len else d
        let d := match placeOf (d.localAddr dst), count with
          | .tile t _, some k => if ws = 0 then d.arriveAt t k else d
          | _, _ => d
        d.emit (.resp rid rtag (worse ws rs) [])
    else
      let (bs, bad, rs, d) := d.readPieces (rid / 16) (xferPieces src len) [] []
      if rs ≠ 0 ∧ rs ≠ 6 then d.emit (.resp rid rtag rs [])
      else d.startPush rid rtag dev off bs bad count copy
  | _ => d.xferRefuse rid rtag 9 dst len

/-- RPULL: a remote source to a destination of this device or of a third member. -/
def Dev.rpull (d : Dev) (rid rtag src dst len : Nat) (copy : Option Nat) : Dev :=
  let st := d.remoteEnd src len
  match placeOf src with
  | .remote dev off =>
    if st ≠ 0 then d.xferRefuse rid rtag st src len
    else if d.isSelf dev then
      let (rs, bs, d) := d.accRead (rid / 16) src len
      if rs ≠ 0 ∧ rs ≠ 6 then d.emit (.resp rid rtag rs [])
      else
        let (ws, d) := d.accWrite (rid / 16) dst (allOn bs)
        let d := if rs = 6 && ws = 0 then d.poisonAt (d.localAddr dst) len else d
        d.emit (.resp rid rtag (worse ws rs) [])
    else match placeOf dst with
      | .remote dev2 _ =>
        let s2 := d.remoteEnd dst len
        if s2 ≠ 0 then d.xferRefuse rid rtag s2 dst len else d.startPull rid rtag dev off len dst dev2 false copy
      | _ =>
        let s2 := d.stopStatus dst len
        if s2 ≠ 0 then d.xferRefuse rid rtag s2 dst len
        else match offsetOf dst with
          | none => d.xferRefuse rid rtag 9 dst len
          | some o => d.startPull rid rtag dev off len (colonyAddr d.selfId o) d.selfId false copy
  | _ => d.xferRefuse rid rtag 9 src len

end Sys2Proof.Machine
end

