-- ==== Sys2Proof/Machine/AnnOps.lean ====
section
/-! DEFINITION. The Annulus: flits, credits, marks, hop retries, and the ring locks (chapter 08; colony locks with chapter 18). -/

namespace Sys2Proof.Config

/-- The RSP opcode of the answer to a request with this REQ opcode: the manual names those of snoop answers and credit returns alone. -/
opaque rspKind : Nat → BitVec 6

end Sys2Proof.Config

namespace Sys2Proof.Machine
open Sys2Proof.Machine.Reg

/-! ## Rings and credits (R230, R236, R242, R244) -/

/-- Clockwise from `s` to `t` (R236). -/
def cwFrom (s t : Nat) : Bool :=
  let x := (t + 118 - s) % 118
  decide (x < 59) || (x == 59 && s % 2 == 0)

/-- Ring pair of a class: its clockwise ring (R230). -/
def clsRing : FCls → Nat
  | .req => 0
  | .rsp => 2
  | .snp => 4
  | .datA => 6
  | .datB => 8

/-- The ring a flit takes. -/
def ringFor (s t : Nat) (c : FCls) : Nat := clsRing c + (if cwFrom s t then 0 else 1)

/-- Class number of the classes with credits: REQ 0, SNP 1, DAT-A 2 (R265). -/
def credClass : FCls → Option Nat
  | .req => some 0
  | .snp => some 1
  | .datA => some 2
  | _ => none

/-- The allotment of a class (R242). -/
def allot (c : Nat) : Nat := if c = 0 then 4 else if c = 1 then 2 else 8

/-- Key of a (source, destination, class) triple. -/
def credKey (s t c : Nat) : Nat := (s * 128 + t) * 4 + c
/-- The credits of a triple that are away from the source. -/
def Dev.credOf (d : Dev) (s t c : Nat) : Cred := Sparse.get {} d.ann.cred (credKey s t c)
/-- Set them. -/
def Dev.setCred (d : Dev) (s t c : Nat) (x : Cred) : Dev := { d with ann := { d.ann with cred := Sparse.set {} d.ann.cred (credKey s t c) x } }
/-- In flight: flits on the ring, credits owed or riding (R244). -/
def Cred.flight (x : Cred) : Nat := x.flits + x.owed + x.riding
/-- Credits the source holds. -/
def Dev.credHeld (d : Dev) (s t c : Nat) : Nat := allot c - (d.credOf s t c).flight - (d.credOf s t c).occ

/-- ANN_CRED_VAL of a triple (R265). -/
def Dev.credVal (d : Dev) : Nat :=
  let s := d.fld ANN_CRED_SRC
  let t := d.fld ANN_CRED_DST
  let c := if d.fld ANN_CRED_CLASS = 3 then 0 else d.fld ANN_CRED_CLASS
  if 118 ≤ s ∨ 118 ≤ t ∨ reservedStop s = true ∨ reservedStop t = true then 0
  else d.credHeld s t c + (d.credOf s t c).flight * 2 ^ 8 + (d.credOf s t c).occ * 2 ^ 16 + allot c * 2 ^ 24

/-- A ring is paused for good (R259). -/
def Dev.ringFailed (d : Dev) (k : Nat) : Bool := d.flag RING_FAILED k

/-- A ring that replays a segment stands still for 6 NCLK; what comes next on it comes after (R259). -/
def Dev.ringWait (d : Dev) (k : Nat) : Dev := d.pass ((Sparse.get 0 d.ann.pause k - d.nclk + 2) / 3)

/-- Key of a sequence number. -/
def seqKey (s t k : Nat) : Nat := (s * 128 + t) * 16 + k

/-! ## Layouts (R231 to R233) -/

/-- The bits of a flit (R232, R233, R286); of a DAT flit its 128 data bytes. -/
def Flit.bits (f : Flit) : Nat :=
  match f.body with
  | .req opc srcu tag addr len attr dline aux =>
    opc.toNat + srcu.val * 2 ^ 6 + tag.toNat * 2 ^ 10 + addr.toNat * 2 ^ 21 + len.val * 2 ^ 69 + attr.toNat * 2 ^ 75 + dline.toNat * 2 ^ 80
      + aux.toNat * 2 ^ 96
  | .rsp opc dstu tag status len value =>
    opc.toNat + dstu.val * 2 ^ 6 + tag.toNat * 2 ^ 10 + status.val * 2 ^ 21 + len.val * 2 ^ 25 + f.crReq * 2 ^ 31 + f.crSnp * 2 ^ 34
      + f.crDat * 2 ^ 36 + f.crHb * 2 ^ 40 + value.toNat * 2 ^ 64
  | .snp opc dstu tag addr orig cause =>
    opc.toNat + dstu.val * 2 ^ 6 + tag.toNat * 2 ^ 10 + addr.toNat * 2 ^ 21 + orig.toNat * 2 ^ 69 + cause.val * 2 ^ 80
  | .datA _ _ _ _ data _ => data.toNat
  | .datB _ _ _ _ data => data.toNat

/-- Width of a flit in bits (R230). -/
def clsWidth : FCls → Nat
  | .req => 128
  | .rsp => 128
  | .snp => 96
  | _ => 1024

/-- The 32-bit DAT header (R233). -/
def Flit.datHeader (f : Flit) : Nat :=
  match f.body with
  | .datA srcu tag beat poison _ _ => srcu.val + tag.toNat * 2 ^ 4 + beat.val * 2 ^ 15 + bitIf poison 20
  | .datB srcu tag beat poison _ => srcu.val + tag.toNat * 2 ^ 4 + beat.val * 2 ^ 15 + bitIf poison 20
  | _ => 0

/-- One step of CRC-16 with polynomial 0x1021 (R231). -/
def crc16Bit (c : Nat) (b : Bool) : Nat :=
  let top := bitAt c 15 != b
  let c := c * 2 % 2 ^ 16
  if top then Nat.xor c 0x1021 else c

/-- CRC-16 over the low `n` bits of a value, the highest first, from 0xFFFF (R231; the order of bits is log entry 133). -/
def crc16 (v n : Nat) : Nat := (upTo n).foldl (fun c i => crc16Bit c (bitAt v (n - 1 - i))) 0xFFFF

/-- The 48-bit sideband of a flit in its slot, `kept` 1 + KEEP_FOR or 0 (R231). -/
def Flit.sideband (f : Flit) (kept : Nat) : Nat :=
  let low := 1 + f.dst * 2 + f.src * 2 ^ 8 + bitIf f.last 15 + f.seq * 2 ^ 16 + (if kept = 0 then 0 else 2 ^ 24 + (kept - 1) * 2 ^ 25)
  let w := clsWidth f.body.cls
  let (v, n) := match f.body with
    | .datA _ _ _ _ _ be => (f.bits + be.toNat * 2 ^ w, w + 128)
    | _ => (f.bits, w)
  low + crc16 (v + low * 2 ^ n) (n + 32) * 2 ^ 32

/-- A request that its target does not serve (R234). -/
def Dev.badOpc (d : Dev) (stop opc rid tag : Nat) : Dev :=
  (d.logEv 0x3007 .D stop [dU 1 stop, dC opc, dU 2 rid]).emit (.resp rid tag 9 [])

/-! ## Injection (R238 to R243, R245) -/

/-- The injection queue of a stop for a ring. -/
def Dev.injOf (d : Dev) (s k : Nat) : List Flit := Sparse.get [] d.ann.injq (s * 16 + k)
/-- Set it. -/
def Dev.setInj (d : Dev) (s k : Nat) (l : List Flit) : Dev := { d with ann := { d.ann with injq := Sparse.set [] d.ann.injq (s * 16 + k) l } }

/-- Credits that `s` owes `t`, up to the width of an RSP flit's field, move into a flit (R233, R242). -/
def Dev.takeOwed (d : Dev) (s t c most : Nat) : Nat × Dev :=
  let x := d.credOf t s c
  let n := min x.owed most
  (n, d.setCred t s c { x with owed := x.owed - n, riding := x.riding + n })

/-- Owed credits of a pool start their way back, at most 15. -/
def Cred.ride (x : Cred) : Nat × Cred := (min x.owed 15, { x with owed := x.owed - min x.owed 15, riding := x.riding + min x.owed 15 })

/-- The credits an RSP flit from `s` to `t` takes with it. During a handover copy CR_DAT and CR_HB bring back the credits of its two pools
(R245). -/
def Dev.loadCredits (d : Dev) (f : Flit) : Flit × Dev :=
  let (cr, d) := d.takeOwed f.src f.dst 0 7
  let (cs, d) := d.takeOwed f.src f.dst 1 3
  match d.ann.hand with
  | some h =>
    if h.src = f.dst ∧ h.dst = f.src then
      let (a, x) := h.a.ride
      let (b, y) := h.b.ride
      ({ f with crReq := cr, crSnp := cs, crDat := a, crHb := b, hand := true }, { d with ann := { d.ann with hand := some { h with a := x, b := y } } })
    else let (cd, d) := d.takeOwed f.src f.dst 2 15; ({ f with crReq := cr, crSnp := cs, crDat := cd }, d)
  | none => let (cd, d) := d.takeOwed f.src f.dst 2 15; ({ f with crReq := cr, crSnp := cs, crDat := cd }, d)

/-- Entries of a handover's pool (R245). -/
def handAllot : Nat := 64

/-- The credits its source holds of a handover's pool: held + in flight + occupied = 64 (R244, R245). -/
def Cred.handHeld (x : Cred) : Nat := handAllot - x.flight - x.occ

/-- Whether the unit of a request has answer space left for one more (R243): 64 reads, and as many other requests. -/
def Dev.answerSpace (d : Dev) (s : Nat) (b : FlitBody) : Bool :=
  match b with
  | .req opc srcu _ _ _ _ _ _ =>
    let rd (o : Nat) : Bool := o == 1 || o == 0x10 || o == 0x11 || o == 0x12
    decide ((d.ann.open_.countP fun x => x.stop == s && x.unit == srcu.val && !x.snp && rd x.opc == rd opc.toNat) < 64)
  | _ => true

/-- The head of a queue holds what its injection spends: a credit, a credit of its handover's pool in alternate flits, or answer space (R240,
R242, R243, R245). -/
def Dev.mayInject (d : Dev) (f : Flit) : Bool :=
  if f.hand then
    match d.ann.hand with
    | some h =>
      h.src == f.src && h.dst == f.dst
        && (if f.body.cls == .datB then h.nextB && h.b.handHeld != 0 else f.body.cls == .datA && !h.nextB && h.a.handHeld != 0)
    | none => false
  else (credClass f.body.cls).all (fun c => d.credHeld f.src f.dst c != 0) && d.answerSpace f.src f.body

/-- The head of the queue of stop `s` for ring `k` is injection-ready from the NCLK in which it stands there with its credit (R241). -/
def Dev.readyLook (d : Dev) (s k : Nat) : Dev :=
  let old := Sparse.get 0 d.ann.ready (s * 16 + k)
  let new := match d.injOf s k with
    | f :: _ => if d.mayInject f then (if old = 0 then d.nclk + 1 else old) else 0
    | [] => 0
  { d with ann := { d.ann with ready := Sparse.set 0 d.ann.ready (s * 16 + k) new } }

/-- Every queue of a stop is looked at. -/
def Dev.readyAll (d : Dev) (s : Nat) : Dev := (upTo 10).foldl (fun d k => d.readyLook s k) d

/-- What names a packet of stop `s` on a ring (R239). -/
def Flit.packet (f : Flit) : Nat :=
  match f.body with
  | .req _ u t _ _ _ _ _ => 1 + (f.dst * 16 + u.val) * 2048 + t.toNat
  | .rsp _ u t _ _ _ => 1 + (f.dst * 16 + u.val) * 2048 + t.toNat
  | .snp _ u t _ _ _ => 1 + (f.dst * 16 + u.val) * 2048 + t.toNat
  | .datA u t _ _ _ _ => 1 + (f.dst * 16 + u.val) * 2048 + t.toNat
  | .datB u t _ _ _ => 1 + (f.dst * 16 + u.val) * 2048 + t.toNat

/-- A flit joins its injection queue. A packet begun there goes first to its last flit (R239): a flit of another waits with its unit. -/
def Dev.flitQueue (d : Dev) (f : Flit) : Dev :=
  let key := f.src * 16 + f.ring
  let p := Sparse.get 0 d.ann.begun key
  if p ≠ 0 ∧ p ≠ f.packet then d
  else
    let d := { d with ann := { d.ann with begun := Sparse.set 0 d.ann.begun key (if f.last then 0 else f.packet) } }
    (d.setInj f.src f.ring (d.injOf f.src f.ring ++ [f])).readyLook f.src f.ring

/-- The request or snoop whose answer gets its space (R243). -/
def AnnOpen.ofFlit (f : Flit) : Option AnnOpen :=
  match f.body with
  | .req opc u t addr len _ _ _ =>
    some { stop := f.src, unit := u.val, tag := t.toNat, dst := f.dst, snp := false, opc := opc.toNat, len := len.val, addr := addr.toNat }
  | .snp opc u t addr _ _ =>
    some { stop := f.src, unit := u.val, tag := t.toNat, dst := f.dst, snp := true, opc := opc.toNat, len := 0, addr := addr.toNat }
  | _ => none

/-- A flit enters slot `slot` of its ring (R231, R240, R242, R258). -/
def Dev.flitIn (d : Dev) (f : Flit) (slot : Nat) : Dev :=
  let key := seqKey f.src f.dst f.ring
  let q := Sparse.get 0 d.ann.seqTx key
  let d := { d with ann := { d.ann with seqTx := Sparse.set 0 d.ann.seqTx key ((q + 1) % 256) } }
  let (f, d) := if f.body.cls = .rsp then d.loadCredits f else (f, d)
  let d := match d.ann.hand with
    | some h =>
      if !f.hand || f.body.cls == FCls.rsp then d
      else
        let h := if f.body.cls == FCls.datB then { h with b := { h.b with flits := h.b.flits + 1 }, nextB := false }
          else { h with a := { h.a with flits := h.a.flits + 1 }, nextB := true }
        { d with ann := { d.ann with hand := some h } }
    | none => d
  let d := match credClass f.body.cls with
    | some x => if f.hand then d else d.setCred f.src f.dst x { d.credOf f.src f.dst x with flits := (d.credOf f.src f.dst x).flits + 1 }
    | none => d
  let d := match AnnOpen.ofFlit f with
    | some o => if d.ann.open_.any (fun x => x.stop == o.stop && x.unit == o.unit && x.tag == o.tag && x.snp == o.snp) then d
        else { d with ann := { d.ann with open_ := d.ann.open_ ++ [o] } }
    | none => d
  { d with ann := { d.ann with
      flits := d.ann.flits ++ [{ f with slot := slot, seq := q }],
      kept := Sparse.set 0 d.ann.kept (f.ring * 128 + slot) (let m := Sparse.get 0 d.ann.kept (f.ring * 128 + slot); if m = f.src + 1 then 0 else m) } }

/-- Slot `slot` of ring `k` holds a flit. -/
def Dev.slotTaken (d : Dev) (k slot : Nat) : Bool := d.ann.flits.any fun f => f.ring == k && f.slot == slot
/-- 1 + KEEP_FOR of a slot, 0 when KEEP is 0. -/
def Dev.keptFor (d : Dev) (k slot : Nat) : Nat := Sparse.get 0 d.ann.kept (k * 128 + slot)

/-- Buffer code of a class (R625). -/
def bufCode : FCls → Nat
  | .req => 0
  | .rsp => 1
  | .snp => 2
  | .datA => 3
  | .datB => 4

/-- What SECDED finds in a buffer of a stop, by the buffer's code (R260, R625): a corrected error counts, an uncorrectable payload is class D
and any other class S. -/
def Dev.bufErr (d : Dev) (t code : Nat) (e : BufErr) : Dev :=
  match e with
  | .clean => d
  | .corrected => d.inc STOP_CE 1 t
  | .payload => d.logUE 0x3004 t [dU 1 t, dC code, dC 1]
  | .header => d.logEv 0x3004 .S t [dU 1 t, dC code, dC 3]

/-- What SECDED finds in a credit counter of a stop as a flit uses it (R260, R625). -/
def Dev.creditErr (d : Dev) (t : Nat) (e : Upset) : Dev :=
  match e with
  | .clean => d
  | .single => d.inc STOP_CE 1 t
  | .double => d.logEv 0x3004 .S t [dU 1 t, dC 7, dC 3]

/-- A flit whose payload is uncorrectable is delivered with POISON = 1 (R260). -/
def Flit.poisoned (f : Flit) : Flit :=
  match f.body with
  | .datA u t b _ x be => { f with body := .datA u t b true x be }
  | .datB u t b _ x => { f with body := .datB u t b true x }
  | _ => f

/-- A payload is a DAT flit's; what is found in another flit is its header's. -/
def bufErrOf (e : BufErr) (f : Flit) : BufErr :=
  if e = .payload ∧ f.body.cls ≠ .datA ∧ f.body.cls ≠ .datB then .header else e

/-- The head of an injection queue enters the slot that passes: an empty one with KEEP = 0, or the stop's own kept one (R240). An error in
its header keeps it from being sent (log entry 171). -/
def Dev.flitGo (d : Dev) (s k slot : Nat) (e : BufErr) (c : Upset) : Dev :=
  match d.injOf s k with
  | [] => d
  | f :: r =>
    let m := d.keptFor k slot
    if d.ringFailed k || d.slotTaken k slot || (m != 0 && m != s + 1) || !d.mayInject f then d
    else
      let e := bufErrOf e f
      let d := ((d.setInj s k r).bufErr s 5 e).creditErr s (if (credClass f.body.cls).isSome then c else .clean)
      let d := if e = .header then d else d.flitIn (if e = .payload then f.poisoned else f) slot
      ({ d with ann := { d.ann with ready := Sparse.set 0 d.ann.ready (s * 16 + k) 0 } }).readyAll s

/-- A unit's flit reaches its stop's route logic: a bad destination is dropped and reported (R238), else it is queued for its ring (R236). -/
def Dev.flitNew (d : Dev) (s : Nat) (x : NewFlit) : Dev :=
  let t := x.dst.toNat
  let k := ringFor s (t % 118) x.body.cls
  if 118 ≤ t ∨ reservedStop t = true then d.logEv 0x3008 .S s [dU 1 s, dU 1 k, dU 1 t]
  else d.flitQueue { ring := k, src := s, dst := t, body := x.body, last := x.last, copy := x.copy, hand := x.hand }

/-- KEEP_MARK (R241): a stop with a flit ready for 64 NCLK marks the occupied slot that passes, one mark per ring; the outgoing tile of a
handover copy marks every second slot of its two rings (R245). A kept slot that comes back empty with nothing ready is released. -/
def Dev.keepMark (d : Dev) (s k slot : Nat) : Dev :=
  let set (v : Nat) : Dev := { d with ann := { d.ann with kept := Sparse.set 0 d.ann.kept (k * 128 + slot) v } }
  let r := Sparse.get 0 d.ann.ready (s * 16 + k)
  let hand := d.ann.hand.any fun h => h.src == s && (k == ringFor s h.dst .datA || k == ringFor s h.dst .datB)
  let mine (n : Nat) : Bool := d.keptFor k n == s + 1
  if reservedStop s || d.ringFailed k then d
  else if mine slot && !d.slotTaken k slot && r == 0 && !hand then set 0
  else if d.keptFor k slot ≠ 0 then d
  else if hand then (if mine ((slot + 1) % 118) || mine ((slot + 117) % 118) then d else (set (s + 1)).inc STOP_KEEP_CNT 1 s)
  else if r = 0 ∨ d.nclk + 1 < r + 64 ∨ d.slotTaken k slot = false ∨ (upTo 118).any mine = true then d
  else (set (s + 1)).inc STOP_KEEP_CNT 1 s

/-! ## Ejection (R242, R247, R258 to R261) -/

/-- The oldest flit of a pair on a class. -/
def Dev.oldest (d : Dev) (s t : Nat) (c : FCls) : Option Flit := d.ann.flits.find? fun f => f.src == s && f.dst == t && f.body.cls == c

/-- Flits of a pair that never arrive: gone from the ring, their credits with them (R258). -/
def Dev.loseFlits (d : Dev) (s t : Nat) (c : FCls) : Nat → Dev
  | 0 => d
  | n + 1 =>
    match d.oldest s t c with
    | none => d
    | some f => Dev.loseFlits { d with ann := { d.ann with flits := d.ann.flits.erase f } } s t c n

/-- The credits an RSP flit carries reach the source they belong to, whose queues are looked at. -/
def Dev.landCredits (d : Dev) (f : Flit) : Dev :=
  let one (d : Dev) (c n : Nat) : Dev := d.setCred f.dst f.src c { d.credOf f.dst f.src c with riding := (d.credOf f.dst f.src c).riding - n }
  let pool (x : Cred) (n : Nat) : Cred := { x with riding := x.riding - n }
  if f.body.cls ≠ .rsp then d
  else
    let d := one (one d 0 f.crReq) 1 f.crSnp
    let d := if f.hand then { d with ann := { d.ann with hand := d.ann.hand.map fun h => { h with a := pool h.a f.crDat, b := pool h.b f.crHb } } }
      else one d 2 f.crDat
    d.readyAll f.dst

/-- A flit's entry of an ejection buffer is freed, and the credit owed (R242, R245). -/
def Dev.freeEntry (d : Dev) (f : Flit) (held : Bool) : Dev :=
  let free (x : Cred) : Cred := if held then { x with occ := x.occ - 1, owed := x.owed + 1 } else { x with flits := x.flits - 1, owed := x.owed + 1 }
  if f.hand && f.body.cls != .rsp then
    { d with ann := { d.ann with hand := d.ann.hand.map fun h => if f.body.cls == .datB then { h with b := free h.b } else { h with a := free h.a } } }
  else match credClass f.body.cls with
    | some x => d.setCred f.src f.dst x (free (d.credOf f.src f.dst x))
    | none => d

/-- A flit takes an entry of its ejection buffer. -/
def Dev.takeEntry (d : Dev) (f : Flit) : Dev :=
  let take (x : Cred) : Cred := { x with flits := x.flits - 1, occ := x.occ + 1 }
  if f.hand && f.body.cls != .rsp then
    { d with ann := { d.ann with hand := d.ann.hand.map fun h => if f.body.cls == .datB then { h with b := take h.b } else { h with a := take h.a } } }
  else match credClass f.body.cls with
    | some x => d.setCred f.src f.dst x (take (d.credOf f.src f.dst x))
    | none => d

/-- Ejection buffers of a stop. -/
def Dev.ejOf (d : Dev) (t : Nat) : List (Flit × Nat) := Sparse.get [] d.ann.ejq t
/-- Set them. -/
def Dev.setEj (d : Dev) (t : Nat) (l : List (Flit × Nat)) : Dev := { d with ann := { d.ann with ejq := Sparse.set [] d.ann.ejq t l } }

/-- One flit is ejected at its destination (R242, R258, R260, R261): numbered right or not, buffered, or dropped as an orphan. One whose
header cannot be read goes no further, its entry freed (log entry 171). -/
def Dev.ejectOne (d : Dev) (s t : Nat) (c : FCls) (e : BufErr) : Dev :=
  match d.oldest s t c with
  | none => d
  | some f =>
    let d := { d with ann := { d.ann with flits := d.ann.flits.erase f } }
    let key := seqKey s t f.ring
    let want := Sparse.get 0 d.ann.seqRx key
    let d := { d with ann := { d.ann with seqRx := Sparse.set 0 d.ann.seqRx key ((f.seq + 1) % 256) } }
    let d := if want = f.seq then d
      else (d.raise ANN_SEQ_FAULT).logEv 0x3002 .S t [dU 1 f.ring, dU 1 s, dU 1 t, dN want, dN f.seq]
    let d := (d.landCredits f).bufErr t (bufCode c) (bufErrOf e f)
    if f.dead then (d.freeEntry f false).inc STOP_ORPHAN 1 t
    else if bufErrOf e f = BufErr.header then d.freeEntry f false
    else (d.takeEntry f).setEj t (d.ejOf t ++ [(if e = .payload then f.poisoned else f, d.nclk)])

/-- The NCLK count whose bit 0 decides R247: since ROOT lock, or since the run started (R524). -/
def Dev.orderCount (d : Dev) : Nat := if d.running then d.nclk - d.rep.nclk0 else d.nclk

/-- Flits reach `dst` on the two rings of a class in one NCLK: the clockwise one first when bit 0 of ANN_NCLK is 0 (R247). A pair that is not
clockwise, or not counter-clockwise, ejects nothing there. -/
def Dev.flitsEject (d : Dev) (t : Nat) (c : FCls) (cw ccw : Option Nat) (lost : Nat) (e : BufErr) : Dev :=
  let d := if cw.isSome then d.ringWait (clsRing c) else d
  let d := if ccw.isSome then d.ringWait (clsRing c + 1) else d
  let cw := cw.filter fun s => cwFrom s t && !d.ringFailed (clsRing c)
  let ccw := ccw.filter fun s => !cwFrom s t && !d.ringFailed (clsRing c + 1)
  let d := match cw, ccw with
    | some s, _ => d.loseFlits s t c lost
    | none, some s => d.loseFlits s t c lost
    | none, none => d
  let order := if d.orderCount % 2 = 0 then [cw, ccw] else [ccw, cw]
  (order.filterMap id).foldl (fun d s => d.ejectOne s t c e) d

/-- The order in which a unit that takes several classes takes flits of one NCLK (R247). -/
def clsTurn : FCls → Nat
  | .rsp => 0
  | .datB => 1
  | .snp => 2
  | .req => 3
  | .datA => 4

/-- The held flit a unit takes next for class `c`: the oldest of the class, or one of a class that goes before it, ejected in the same NCLK
(R247). -/
def Dev.nextTaken (d : Dev) (t : Nat) (c : FCls) : Option (Flit × Nat) :=
  match (d.ejOf t).find? fun e => e.1.body.cls == c with
  | none => none
  | some x =>
    let before := (d.ejOf t).filter fun e => e.2 == x.2 && decide (clsTurn e.1.body.cls < clsTurn c)
    match [FCls.rsp, .datB, .snp, .req].filterMap fun k => before.find? fun e => e.1.body.cls == k with
    | [] => some x
    | y :: _ => some y

/-- FLIT_RETURNED (R238): the flit is removed, its credit is back, the credits it carried are owed again. Nothing moves on a ring that stands
still (R259). -/
def Dev.flitReturned (d : Dev) (s t : Nat) (c : FCls) : Dev :=
  match d.oldest s t c with
  | none => d
  | some f =>
    if d.ringFailed f.ring then d
    else
    let d := d.ringWait f.ring
    let d := { d with ann := { d.ann with flits := d.ann.flits.erase f } }
    let pool (x : Cred) (n : Nat) : Cred := { x with riding := x.riding - n, owed := x.owed + n }
    let back (d : Dev) (x n : Nat) : Dev := d.setCred t s x (pool (d.credOf t s x) n)
    let spent (x : Cred) : Cred := { x with flits := x.flits - 1 }
    let d := if c ≠ .rsp then d
      else
        let d := back (back d 0 f.crReq) 1 f.crSnp
        if f.hand then { d with ann := { d.ann with hand := d.ann.hand.map fun h => { h with a := pool h.a f.crDat, b := pool h.b f.crHb } } }
        else back d 2 f.crDat
    let d := if f.hand && c != .rsp then
        { d with ann := { d.ann with hand := d.ann.hand.map fun h => if c == .datB then { h with b := spent h.b } else { h with a := spent h.a } } }
      else match credClass c with
        | some x => d.setCred s t x (spent (d.credOf s t x))
        | none => d
    ((d.raise ANN_RETURNED).logEv 0x3003 .S s [dU 1 f.ring, dU 1 s, dU 1 t]).readyAll s

/-- HOP_CRC_ERROR (R259): the segment's sender replays, and the ring stands still for 6 NCLK; the third failure of one flit in a row fails the
segment. `e` is what its retry buffer's SECDED finds (R260). -/
def Dev.hopError (d : Dev) (k sender : Nat) (again : Bool) (e : BufErr) : Dev :=
  if d.ringFailed k then d
  else
    let d := d.ringWait k
    let n := if again then Sparse.get 0 d.ann.retries k + 1 else 1
    let d := { d with ann := { d.ann with retries := Sparse.set 0 d.ann.retries k n } }.bufErr sender 6 e
    if n < 3 then
      ({ d with ann := { d.ann with pause := Sparse.set 0 d.ann.pause k (d.nclk + 6) } }.inc RING_RETRY 1 k).repAbort 5 0x3001 sender
    else (((d.setF RING_FAILED 1 k).setF RING_FAIL_SEG sender k).setF ANN_SEG_FAIL 1).logEv 0x3001 .S sender [dU 1 k, dU 1 sender]

/-- Credits that `s` owes `t`, in all. -/
def Dev.owedTo (d : Dev) (s t : Nat) : Nat :=
  (d.credOf t s 0).owed + (d.credOf t s 1).owed + (d.credOf t s 2).owed
    + (match d.ann.hand with
      | some h => if h.src = t ∧ h.dst = s then h.a.owed + h.b.owed else 0
      | none => 0)

/-- CREDIT_RETURN: a credit-only RSP flit (OPC 0x3F) that carries every credit `s` owes `t` goes to the head of its queue (R242). -/
def Dev.creditReturn (d : Dev) (s t : Nat) : Dev :=
  let k := ringFor s t .rsp
  if d.owedTo s t = 0 ∨ d.ringFailed k = true then d
  else
    let f : Flit := { ring := k, src := s, dst := t, body := .rsp 0x3F 0 0 0 0 0, last := true }
    match (upTo 118).find? fun n => !d.slotTaken k n && (d.keptFor k n == 0 || d.keptFor k n == s + 1) with
    | some n => d.flitIn f n
    | none => d.setInj s k (f :: d.injOf s k)

/-! ## Answers that go back as flits (R233, R243) -/

/-- Bytes as one number of 128 bytes. -/
def beatOf (bs : List Byte) (i : Nat) : BitVec 1024 := BitVec.ofNat 1024 (leNat ((bs.drop (128 * i)).take 128))

/-- The answer to a request served as flits: the RSP flit and its DAT-B flits join the target's injection queues. VALUE carries a CSR's or a
lock's value, a snoop's dirty mask. A request of the stop itself is answered inside it (R237). -/
def Dev.annReply (d : Dev) (v : AnnVia) (st : Nat) (bs : List Byte) (opc : BitVec 6) : Dev :=
  let dst := v.rid / 16
  let unit : Fin 16 := Fin.ofNat 16 v.rid
  let tag := BitVec.ofNat 11 v.tag
  let short := v.opc == 4 || v.opc == 5 || v.opc == 8 || v.opc == 9 || v.opc == 0xA
  let n := if short then 0 else (bs.length + 127) / 128
  let value := if short then BitVec.ofNat 64 (leNat bs) else 0
  let d := d.flitQueue { ring := ringFor v.stop dst .rsp, src := v.stop, dst := dst, last := true,
                         body := .rsp opc unit tag (Fin.ofNat 16 st) (Fin.ofNat 64 (n - 1)) value }
  (upTo n).foldl (fun d i => d.flitQueue { ring := ringFor v.stop dst .datB, src := v.stop, dst := dst, last := i + 1 == n,
                                           body := .datB unit tag (Fin.ofNat 32 i) (st == 6) (beatOf bs i) }) d

/-! ## Ring locks (R250 to R256) -/

/-- A lock. -/
def Dev.lockOf (d : Dev) (n : Nat) : Lock := Sparse.get {} d.ann.locks n
/-- Change it. -/
def Dev.setLock (d : Dev) (n : Nat) (x : Lock) : Dev := { d with ann := { d.ann with locks := Sparse.set {} d.ann.locks n x } }

/-- Type of an owner (R269). -/
def ownerType : Option Owner → Nat
  | none => 0
  | some (.tile _) => 1
  | some (.engine _) => 2
  | some (.region _) => 3
  | some .servicePort => 4
  | some (.device _) => 5

/-- Identity of an owner. -/
def ownerId : Option Owner → Nat
  | some (.tile t) => t.val
  | some (.engine e) => e.val
  | some (.region r) => r.val
  | some (.device v) => v.val
  | _ => 0

/-- ANN_LOCK_n (R269). -/
def Dev.lockReg (d : Dev) (n : Nat) : Nat :=
  let x := d.lockOf n
  x.state + ownerType x.owner * 2 ^ 4 + ownerId x.owner * 2 ^ 16 + x.waiters.length * 2 ^ 32

/-- The owner the home derives from a requester (R251). -/
def Dev.lockOwner (d : Dev) (stop unit : Nat) : Option Owner :=
  match stopKind stop with
  | .ce => some (.engine ⟨unit % 16, Nat.mod_lt _ (by decide)⟩)
  | .tile p => if h : d.ltile p < 64 then some (.tile ⟨d.ltile p, h⟩) else none
  | .gate j => if unit < 4 then some (.region ⟨(4 * j + unit) % 32, Nat.mod_lt _ (by decide)⟩) else none
  | _ => none

/-- Requester ID of a lock request. -/
def LockReq.rid (r : LockReq) : Nat := ridOf r.stop r.unit

/-- A request of another device of the colony. -/
def Dev.lockRemote (d : Dev) (r : LockReq) : Option Nat :=
  match r.owner with
  | some (.device v) => if v.val = d.selfId then none else some v.val
  | _ => none

/-- The answer to a lock request (R252): the service port's stands in ANN_SP_LOCK_RES, another device's goes back as LOCK_RES. -/
def Dev.lockAnswer (d : Dev) (r : LockReq) (res : Nat) : Dev :=
  match d.lockRemote r with
  | some dev =>
    let key := dev * 2048 + r.rid
    let d := match Sparse.get none d.cpl.seen key with
      | some x => { d with cpl := { d.cpl with seen := Sparse.set none d.cpl.seen key (some { x with res := some res }) } }
      | none => d
    let p : CPkt := { msg := 5, dst := dev, src := d.selfId, status := 0, tag := r.tag, reqid := r.rid, ts := d.now,
                      aux := r.lock + res * 2 ^ 8 }
    { d with cpl := { d.cpl with msgs := d.cpl.msgs ++ [(p, 4)] } }
  | none =>
    if r.stop = 59 ∧ r.tag = 2048 then ((d.setF ANN_SPL_RESULT res).setF ANN_SPL_LOCK r.lock).setF ANN_SPL_DONE 1
    else d.emit (.resp r.rid r.tag 0 [BitVec.ofNat 8 res])

/-- A LOCK_MISUSE entry (R251, R252). -/
def Dev.lockMisuse (d : Dev) (r : LockReq) (res : Nat) : Dev := d.logEv 0x3006 .D r.lock [dU 1 r.lock, dU 2 r.rid, dC res]

/-- A request that the table decides for its owner (R252). -/
def Dev.lockApply (d : Dev) (r : LockReq) : Dev :=
  let x := d.lockOf r.lock
  let owned := x.state == 1 || x.state == 3
  if r.op = 2 then
    if !owned ∨ x.owner ≠ r.owner then (d.lockMisuse r 3).lockAnswer r 3
    else
      let d := match x.waiters with
        | [] => d.setLock r.lock {}
        | w :: ws => (d.setLock r.lock { state := 1, owner := w.owner, waiters := ws }).lockAnswer w 0
      d.lockAnswer r 4
  else if x.state = 0 then (d.setLock r.lock { x with state := 1, owner := r.owner }).lockAnswer r 0
  else if x.state = 2 then (d.setLock r.lock { x with state := 3, owner := r.owner }).lockAnswer r 1
  else if r.op = 0 ∨ x.owner = r.owner ∨ 4 ≤ x.waiters.length then d.lockAnswer r 2
  else d.setLock r.lock { x with waiters := x.waiters ++ [r] }

/-- One request of a decision: refused, sent on to HOME, or decided here (R251, R520). -/
def Dev.lockOne (d : Dev) (r : LockReq) : Dev :=
  let home := d.fld COL_HOME
  if (d.lockRemote r).isSome then d.lockApply r
  else if r.owner = none then (d.lockMisuse r 5).lockAnswer r 5
  else if r.lock < 192 then d.lockApply r
  else if !d.member home then (d.lockMisuse r 5).lockAnswer r 5
  else if d.isSelf home then d.lockApply { r with owner := some (.device ⟨d.selfId % 512, Nat.mod_lt _ (by decide)⟩) }
  else
    let p : CPkt := { msg := 4, dst := home, src := d.selfId, tag := r.tag, reqid := r.rid, ts := d.now, aux := r.lock + r.op * 2 ^ 8 }
    { d with cpl := { d.cpl with msgs := d.cpl.msgs ++ [(p, 4)],
                                 locks := d.cpl.locks ++ [{ rid := r.rid, tag := r.tag, lock := r.lock, op := r.op, ts := d.now }] } }

/-- A lock loses its owner (R254): BROKEN, counted and logged, the first waiter granted GRANTED_BROKEN. -/
def Dev.breakLock (d : Dev) (n cause : Nat) (keepOwner : Bool := true) : Dev :=
  let x := d.lockOf n
  let det := [dU 1 n, dC (if keepOwner then ownerType x.owner else 0), dU 2 (if keepOwner then ownerId x.owner else 0), dC cause,
    dC (if x.waiters = [] then 0 else 1)]
  let d := (d.inc ANN_LOCK_BROKEN_CNT).logEv 0x3005 .I n det
  match x.waiters with
  | [] => d.setLock n { state := 2, owner := if keepOwner then x.owner else none, waiters := [] }
  | w :: ws => (d.setLock n { state := 3, owner := w.owner, waiters := ws }).lockAnswer w 1

/-- Cause code of an owner's loss (R270). -/
def lossCause : Owner → Nat
  | .tile _ => 1
  | .engine _ => 2
  | .region _ => 3
  | .servicePort => 4
  | .device _ => 5

/-- An owner is lost (R254): its waiter entries go without an answer, its locks break. -/
def Dev.ownerLost (d : Dev) (o : Owner) : Dev :=
  (d.ann.locks.map (·.1)).foldl (fun d n =>
    let x := d.lockOf n
    let x := { x with waiters := x.waiters.filter fun w => w.owner != some o }
    let d := d.setLock n x
    if (x.state = 1 ∨ x.state = 3) ∧ x.owner = some o then d.breakLock n (lossCause o) else d) d

/-- Insert a request into a decision's order: ascending (requester ID + TS) mod 2,048 (R248). -/
def lockInsert (ts : Nat) (r : LockReq) : List LockReq → List LockReq
  | [] => [r]
  | a :: l => if (r.rid + ts) % 2048 < (a.rid + ts) % 2048 then r :: a :: l else a :: lockInsert ts r l

/-- What the SECDED of the lock table finds (R260): an entry that cannot be read has lost its owner, a waiter entry goes without an answer. -/
def Dev.lockErr (d : Dev) (e : LockErr) : Dev :=
  let n := e.lock.val
  let x := d.lockOf n
  if !e.double then d.inc STOP_CE 1 59
  else match e.waiter with
    | none => (d.logEv 0x3004 .S 59 [dU 1 59, dC 8, dC 3]).breakLock n 6 false
    | some i => (d.logEv 0x3004 .S 59 [dU 1 59, dC 9, dC 3]).setLock n { x with waiters := x.waiters.eraseIdx i.val }

/-- LOCK_DECISION (R253): notices first, then the requests in their order. -/
def Dev.lockDecide (d : Dev) : Dev :=
  let notices := d.ann.notices
  let reqs := d.ann.reqs.foldl (fun l r => lockInsert d.now r l) []
  let d := { d with ann := { d.ann with notices := [], reqs := [] } }
  reqs.foldl Dev.lockOne (notices.foldl Dev.ownerLost d)

/-- A lock request reaches stop 59. One of a tile that hands over is held at its stop (R28, R256). -/
def Dev.lockAsk (d : Dev) (stop unit tag lock op : Nat) : Dev :=
  let moves := match stopKind stop with
    | .tile p => d.tileMoves (d.ltile p)
    | _ => false
  if moves then { d with safe := { d.safe with heldLock := d.safe.heldLock ++ [(ridOf stop unit, tag, lock, op)] } } else
  { d with ann := { d.ann with reqs := d.ann.reqs ++
    [{ stop := stop, unit := unit, tag := tag, owner := d.lockOwner stop unit, lock := lock, op := op }] } }

/-- An owner-loss notice is on its way. -/
def Dev.lossNotice (d : Dev) (o : Owner) : Dev := { d with ann := { d.ann with notices := d.ann.notices ++ [o] } }

/-- A write of ANN_SP_LOCK through the service port (R266). -/
def Dev.spLock (d : Dev) (v : Nat) : Dev :=
  let d := d.setF ANN_SPL_DONE 0
  { d with ann := { d.ann with reqs := d.ann.reqs ++
    [{ stop := 59, unit := 0, tag := 2048, owner := some .servicePort, lock := v % 256, op := if bitAt v 8 then 2 else 0 }] } }

/-- What a RELOAD does to the lock table (R59, R255): local owners' locks FREE and every waiter queue empty; locks other devices own stay. -/
def Dev.lockReload (d : Dev) : Dev :=
  let stays (r : LockReq) : Bool := (d.lockRemote r).isSome || r.owner == some .servicePort
  let remote (o : Option Owner) : Bool := match o with
    | some (.device v) => v.val != d.selfId
    | _ => false
  let locks := d.ann.locks.filterMap fun e =>
    if remote e.2.owner then some (e.1, { e.2 with waiters := [] }) else none
  { d with ann := { d.ann with locks := locks, reqs := d.ann.reqs.filter stays, notices := [] } }

end Sys2Proof.Machine
end

