-- ==== Sys2Proof/Machine/FmtOps.lean ====
section
/-! DEFINITION. Number formats: exact values, rounding, conversions by descriptor, scale channels and NaN capture (chapter 12). -/

namespace Sys2Proof.Machine
open Sys2Proof.Machine.Reg

/-! ## Exact values -/

/-- A value: NaN, an infinity, or (−1)^neg × m × 2^e. -/
inductive FV where
  | nan
  | inf (neg : Bool)
  | fin (neg : Bool) (m : Nat) (e : Int)
  deriving DecidableEq, Repr

/-- An integer as a value. -/
def FV.ofInt (i : Int) : FV := .fin (decide (i < 0)) i.natAbs 0
/-- Times 2^s (R348, step 1). -/
def FV.scale (x : FV) (s : Int) : FV :=
  match x with
  | .fin n m e => .fin n m (e + s)
  | y => y
/-- Is it a NaN? -/
def FV.isNan : FV → Bool
  | .nan => true
  | _ => false
/-- The opposite. -/
def FV.neg : FV → FV
  | .nan => .nan
  | .inf n => .inf !n
  | .fin n m e => .fin (!n) m e
/-- The magnitude. -/
def FV.abs : FV → FV
  | .nan => .nan
  | .inf _ => .inf false
  | .fin _ m e => .fin false m e

/-- A signed mantissa at a common exponent. -/
def alignTo (n : Bool) (m : Nat) (e c : Int) : Int := (if n then -1 else 1) * (m * 2 ^ (e - c).toNat : Nat)

/-- Exact sum; an exact zero of opposite signs is +0 (round to nearest). -/
def FV.add (a b : FV) : FV :=
  match a, b with
  | .nan, _ => .nan
  | _, .nan => .nan
  | .inf x, .inf y => if x = y then .inf x else .nan
  | .inf x, _ => .inf x
  | _, .inf y => .inf y
  | .fin n m e, .fin k l f =>
    let c := min e f
    let s := alignTo n m e c + alignTo k l f c
    if s = 0 then .fin (n && k) 0 0 else .fin (decide (s < 0)) s.natAbs c

/-- Exact product. -/
def FV.mul (a b : FV) : FV :=
  match a, b with
  | .nan, _ => .nan
  | _, .nan => .nan
  | .inf x, .inf y => .inf (x != y)
  | .inf x, .fin k l _ => if l = 0 then .nan else .inf (x != k)
  | .fin n m _, .inf y => if m = 0 then .nan else .inf (n != y)
  | .fin n m e, .fin k l f => .fin (n != k) (m * l) (e + f)

/-- Is it a finite zero? -/
def FV.isZero : FV → Bool
  | .fin _ 0 _ => true
  | _ => false

/-- Less than, for values that are no NaN. -/
def FV.lt (a b : FV) : Bool :=
  match a, b with
  | .nan, _ => false
  | _, .nan => false
  | .inf x, .inf y => x && !y
  | .inf x, _ => x
  | _, .inf y => !y
  | .fin n m e, .fin k l f =>
    let c := min e f
    decide (alignTo n m e c < alignTo k l f c)

/-- Equal as numbers. -/
def FV.eqv (a b : FV) : Bool := !a.isNan && !b.isNan && !a.lt b && !b.lt a

/-- ⌊log₂⌋ of a nonzero finite value. -/
def FV.log2 : FV → Int
  | .fin _ m e => (Nat.log2 m : Int) + e
  | _ => 0

/-! ## Rounding (R200, R348) -/

/-- A magnitude `m` shifted right by `s` and rounded by RND 0 RNE, 1 RHU, 2 RTZ, for a value of sign `neg`. -/
def roundMag (rnd : Nat) (neg : Bool) (m : Nat) (s : Int) : Nat :=
  if s ≤ 0 then m * 2 ^ (-s).toNat
  else
    let k := s.toNat
    if Nat.log2 m + 1 < k then 0
    else
      let q := m / 2 ^ k
      let r := 2 * (m % 2 ^ k)
      let up := match rnd with
        | 0 => decide (2 ^ k < r) || (r == 2 ^ k && q % 2 == 1)
        | 1 => decide (2 ^ k < r) || (r == 2 ^ k && !neg)
        | _ => false
      if up then q + 1 else q

/-! ## The float formats (R344, R345) -/

/-- A float format: exponent and fraction widths, bias, and its largest finite value as mantissa × 2^(emin + step). -/
structure FFmt where
  eb   : Nat
  fb   : Nat
  bias : Nat
  /-- the largest exponent field of a finite value, and the largest mantissa there -/
  top  : Nat
  maxM : Nat
  nan  : Nat
  hasInf : Bool

/-- The five float formats by code. -/
def ffmt (c : Nat) : FFmt :=
  match c with
  | 0 => ⟨8, 23, 127, 254, 2 ^ 24 - 1, 0x7FC00000, true⟩
  | 1 => ⟨8, 7, 127, 254, 255, 0x7FC0, true⟩
  | 2 => ⟨5, 10, 15, 30, 2047, 0x7E00, true⟩
  | 3 => ⟨4, 3, 7, 15, 14, 0x7F, false⟩
  | _ => ⟨5, 2, 15, 30, 7, 0x7E, true⟩

/-- Exponent of the smallest subnormal. -/
def FFmt.emin (f : FFmt) : Int := 1 - (f.bias : Int) - f.fb
/-- Sign bit. -/
def FFmt.sign (f : FFmt) : Nat := 2 ^ (f.eb + f.fb)

/-- The value of a code. -/
def FFmt.dec (f : FFmt) (v : Nat) : FV :=
  let s := bitAt v (f.eb + f.fb)
  let x := bits v f.fb f.eb
  let m := bits v 0 f.fb
  if f.hasInf && x == 2 ^ f.eb - 1 then (if m = 0 then .inf s else .nan)
  else if !f.hasInf && x == 15 && m == 7 then .nan
  else if x = 0 then .fin s m f.emin
  else .fin s (2 ^ f.fb + m) (f.emin + x - 1)

/-- The largest finite value's code. -/
def FFmt.maxCode (f : FFmt) : Nat := f.top * 2 ^ f.fb + (f.maxM - 2 ^ f.fb)

/-- Rounded code of a value, and whether it was clamped (R348, R349). -/
def FFmt.enc (f : FFmt) (rnd : Nat) (satf nov : Bool) (x : FV) : Nat × Bool :=
  let sg (n : Bool) : Nat := if n then f.sign else 0
  let tooBig (n isInf : Bool) : Nat × Bool :=
    if !f.hasInf then (if nov then (f.nan, false) else (sg n + f.maxCode, true))
    else if satf then (sg n + f.maxCode, true)
    else if isInf || rnd != 2 then (sg n + (2 ^ f.eb - 1) * 2 ^ f.fb, false)
    else (sg n + f.maxCode, true)
  match x with
  | .nan => (f.nan, false)
  | .inf n => tooBig n true
  | .fin n m e =>
    if m = 0 then (sg n, false)
    else
      let q0 := max f.emin ((Nat.log2 m : Int) + e - f.fb)
      let r := roundMag rnd n m (q0 - e)
      let (r, q) := if r = 2 ^ (f.fb + 1) then (2 ^ f.fb, q0 + 1) else (r, q0)
      let field := (q - f.emin).toNat + 1
      if f.top < field ∨ (f.top = field ∧ f.maxM < r) then tooBig n false
      else if r < 2 ^ f.fb then (sg n + r, false)
      else (sg n + field * 2 ^ f.fb + (r - 2 ^ f.fb), false)

/-- FP32 result of an operation, rounded to nearest even. -/
def fp32 (x : FV) : Nat := ((ffmt 0).enc 0 false false x).1
/-- The value of FP32 bits. -/
def ofFp32 (v : Nat) : FV := (ffmt 0).dec v

/-! ## Elements of every format -/

/-- A code is one of the ten formats. -/
def fmtOk (c : Nat) : Bool := decide (c ≤ 9)
/-- A float format. -/
def isFloat (c : Nat) : Bool := decide (c ≤ 4)
/-- Bits of a scalar: CI16 counts as two INT16 scalars; BX8 as its mantissa. -/
def scalarBits (c : Nat) : Nat :=
  match c with
  | 0 => 32
  | 1 => 16
  | 2 => 16
  | 5 => 16
  | 7 => 4
  | 9 => 16
  | _ => 8
/-- Bytes that `n` scalars of a format take (R344). -/
def fmtBytes (c n : Nat) : Nat := if c = 8 then 33 * ((n + 31) / 32) else (n * scalarBits c + 7) / 8

/-- Scalar `i` of a byte run: its value. -/
def scalarAt (c : Nat) (b : List Byte) (i : Nat) : FV :=
  let at_ (o n : Nat) : Nat := leNat ((b.drop o).take n)
  match c with
  | 0 => (ffmt 0).dec (at_ (4 * i) 4)
  | 1 => (ffmt 1).dec (at_ (2 * i) 2)
  | 2 => (ffmt 2).dec (at_ (2 * i) 2)
  | 3 => (ffmt 3).dec (at_ i 1)
  | 4 => (ffmt 4).dec (at_ i 1)
  | 5 => .ofInt (toSigned 16 (at_ (2 * i) 2))
  | 6 => .ofInt (toSigned 8 (at_ i 1))
  | 7 => .ofInt (toSigned 4 (at_ (i / 2) 1 / 16 ^ (i % 2)))
  | 8 =>
    let o := 33 * (i / 32)
    let e := at_ (o + 32) 1
    if e = 255 then .nan else (FV.ofInt (toSigned 8 (at_ (o + i % 32) 1))).scale ((e : Int) - 127)
  | _ => .ofInt (toSigned 16 (at_ (2 * i) 2))

/-- Raw bits of scalar `i`, zero-extended; a BX8 scalar's exponent above its mantissa (log entry 60). -/
def scalarRaw (c : Nat) (b : List Byte) (i : Nat) : Nat :=
  let at_ (o n : Nat) : Nat := leNat ((b.drop o).take n)
  match c with
  | 7 => at_ (i / 2) 1 / 16 ^ (i % 2) % 16
  | 8 => at_ (33 * (i / 32) + i % 32) 1 + 256 * at_ (33 * (i / 32) + 32) 1
  | _ => let n := scalarBits c / 8; at_ (n * i) n

/-- An integer destination of `w` bits: code, whether clamped, whether a NaN came in. -/
def encInt (w rnd : Nat) (x : FV) : Nat × Bool × Bool :=
  let hi : Int := 2 ^ (w - 1) - 1
  let clampTo (n : Bool) : Nat × Bool × Bool := (ofSigned w (if n then -hi - 1 else hi), true, false)
  match x with
  | .nan => (0, false, true)
  | .inf n => clampTo n
  | .fin n m e =>
    let r := roundMag rnd n m (-e)
    let v : Int := if n then -r else r
    if v < -hi - 1 ∨ hi < v then clampTo n else (ofSigned w v, false, false)

/-- Bytes of scalar codes of `w` bits; nibbles pair up, an odd last one with 0. -/
def packCodes (w : Nat) : List Nat → List Byte
  | [] => []
  | a :: r =>
    if w = 4 then
      match r with
      | [] => [BitVec.ofNat 8 (a % 16)]
      | b :: r => BitVec.ofNat 8 (a % 16 + 16 * (b % 16)) :: packCodes w r
    else leBytes (w / 8) a ++ packCodes w r

/-- A BX8 block of 32 values (R350): its 33 bytes, clamps, and whether a NaN was in it. -/
def encBlock (rnd : Nat) (xs : List FV) : List Byte × Nat × Bool :=
  if xs.any FV.isNan then (List.replicate 32 0 ++ [255], 0, true)
  else
    let a := xs.foldl (fun a x => if a.lt x.abs then x.abs else a) (FV.fin false 0 0)
    if a.isZero then (List.replicate 33 0, 0, false)
    else
      let e : Nat := match a with
        | .inf _ => 254
        | _ => (min 254 (max 0 (a.log2 - 6 + 127))).toNat
      let one (x : FV) : Int × Bool :=
        match x.scale (127 - (e : Int)) with
        | .fin n m f =>
          let r := roundMag rnd n m (-f)
          let v : Int := if n then -r else r
          if v < -127 then (-127, true) else if 127 < v then (127, true) else (v, false)
        | .inf n => (if n then -127 else 127, true)
        | .nan => (0, false)
      let ys := xs.map one
      (ys.map (fun y => BitVec.ofNat 8 (ofSigned 8 y.1)) ++ [BitVec.ofNat 8 e], ys.countP (·.2), false)

/-! ## Conversions (R346 to R351) -/

/-- Fields of a descriptor (R346). -/
def cvtSrc (x : Nat) : Nat := bits x 0 4
/-- DST. -/
def cvtDst (x : Nat) : Nat := bits x 4 4
/-- RND. -/
def cvtRnd (x : Nat) : Nat := bits x 8 2
/-- CHAN. -/
def cvtChan (x : Nat) : Nat := bits x 20 4

/-- Why a conversion of `n` scalars from format `src` is rejected: 0, or the reason of R347. -/
def cvtReject (src x n : Nat) : Nat :=
  let dst := cvtDst x
  if !fmtOk src || !fmtOk dst then 1
  else if cvtRnd x = 3 then 2
  else if (src == 9 && dst != 9 && dst != 0) || (dst == 9 && src != 9 && src != 0) then 3
  else if ((src == 8 || dst == 8) && n % 32 != 0) || ((src == 9 || dst == 9) && n % 2 != 0) then 4 else 0

/-- What a conversion did: the bytes written, clamps, NaN inputs counted, and its first NaN: index, propagated or produced. -/
structure CvtOut where
  out   : List Byte
  sat   : Nat
  nanIn : Nat
  nan   : Option (Nat × Bool)

/-- Blocks of 32. -/
def chunks32 : Nat → List FV → List (List FV)
  | 0, _ => []
  | n + 1, l => if l = [] then [] else l.take 32 :: chunks32 n (l.drop 32)

/-- Values converted with the scale S (R348 to R350). -/
def convert (dst x : Nat) (s : Int) (xs : List FV) : CvtOut :=
  let ys := xs.map (·.scale s)
  let rnd := cvtRnd x
  let inNan := (ys.findIdx? FV.isNan).map fun i => (i, true)
  if dst = 8 then
    let bs := (chunks32 (ys.length / 32 + 1) ys).map (encBlock rnd)
    { out := bs.flatMap (·.1), sat := (bs.map (·.2.1)).sum, nanIn := bs.countP (·.2.2), nan := inNan }
  else if isFloat dst then
    let f := ffmt dst
    let rs := ys.map (f.enc rnd (bitAt x 10) (bitAt x 11))
    let made := (ys.zip rs).findIdx? fun p => p.1.isNan || (f.dec p.2.1).isNan
    { out := packCodes (scalarBits dst) (rs.map (·.1)), sat := rs.countP (·.2), nanIn := 0,
      nan := made.map fun i => (i, (ys.getD i .nan).isNan) }
  else
    let rs := ys.map (encInt (scalarBits dst) rnd)
    { out := packCodes (scalarBits dst) (rs.map (·.1)), sat := rs.countP (·.2.1), nanIn := rs.countP (·.2.2), nan := inNan }

/-! ## Scale channels (R352 to R354) -/

/-- CUR of a tile's sixteen channels: what a command that starts now converts with (R354). -/
def Dev.curNow (d : Dev) (t : Nat) : List Nat := (upTo 16).map fun n => d.fld SCALE_CUR t n

/-- The scale S of a conversion (R346); `cur` is the CUR its command started with. -/
def cvtScale (cur : List Nat) (x : Nat) : Int := toSigned 7 (if bitAt x 19 then cur.getD (cvtChan x) 0 else bits x 12 7)

/-- E_D of a destination (R353); `none` holds SUGGEST at 0. -/
def expoOf (dst : Nat) : Option Int :=
  match dst with
  | 0 => some 127
  | 1 => some 127
  | 2 => some 15
  | 3 => some 8
  | 4 => some 15
  | 5 => some 14
  | 6 => some 6
  | 7 => some 2
  | 9 => some 14
  | _ => none

/-- SUGGEST of a channel for its RMAX (R353). -/
def Dev.suggest (d : Dev) (t n dst : Nat) : Dev :=
  let r := ofFp32 (d.fld SCALE_RMAX t n)
  if r.isZero then d
  else match expoOf dst with
    | none => d.setF SCALE_SUGGEST 0 t n
    | some e => d.setF SCALE_SUGGEST (ofSigned 7 (max (-64) (min 63 (e - r.log2 - d.fld SCALE_HEADROOM t n)))) t n

/-- Key of a channel that gathered in a command. -/
def gatherKey (e seq n : Nat) : Nat := (seq * 16 + e) * 16 + n

/-- GATHER (R352): finite magnitudes fold into RMAX. -/
def Dev.gather (d : Dev) (t x : Nat) (xs : List FV) (cmd : Option (Nat × Nat)) : Dev :=
  if !bitAt x 24 then d
  else
    let n := cvtChan x
    let fold (a : FV) (y : FV) : FV := match y with
      | .fin _ m e => if a.lt (.fin false m e) then .fin false m e else a
      | _ => a
    let old := ofFp32 (d.fld SCALE_RMAX t n)
    let new := xs.foldl fold old
    let v := ((ffmt 0).enc 0 true false new).1
    let d := match cmd with
      | some (e, q) => d.setTile t { d.tileOf t with gathered := Sparse.set false (d.tileOf t).gathered (gatherKey e q n) true }
      | none => d
    if v = d.fld SCALE_RMAX t n then d else (d.setF SCALE_RMAX v t n).suggest t n (cvtDst x)

/-! ## NaN capture (R358 to R361) -/

/-- A NaN of logical tile `t` (R359): captured while its capture is empty, and reported. `kind` 0 produced, 1 propagated. -/
def Dev.nanCapture (d : Dev) (t kind op fmt : Nat) (cmd : Option (Nat × Nat)) (where_ operands : Nat) : Dev :=
  if 64 ≤ t ∨ bitAt (d.fld NAN_CAP_0 t) 0 = true then d
  else
    let p := d.ptile t
    let (e, q) := cmd.getD (0, 0)
    let v := 1 + kind * 2 + op * 4 + fmt * 2 ^ 8 + t * 2 ^ 16 + p * 2 ^ 24 + e * 2 ^ 32 + q % 2 ^ 24 * 2 ^ 40
    let d := (((d.setF NAN_CAP_0 v t).setF NAN_CAP_TS d.now t).setF NAN_CAP_WHERE where_ t).setF NAN_CAP_OPERANDS operands t
    { d with nanRep := d.nanRep ++ [(d.now, p, t)] }

/-- The MCLK in which a report is judged (R360). -/
def judgeAt (ts : Nat) : Nat := (ts + 80 + 3) / 4

/-- GLB_NAN_FIRST judges one report. -/
def Dev.nanTake (d : Dev) (r : Nat × Nat × Nat) : Dev :=
  let held := d.fld NAN_TS
  let earlier := decide (r.1 < held) || (r.1 == held && decide (r.2.1 < d.fld NANF_PTILE))
  if d.flag NANF_FINAL || (d.flag NANF_VALID && !earlier) then d
  else (((d.raise NANF_VALID).setF NANF_PTILE r.2.1).setF NANF_LTILE r.2.2).setF NAN_TS r.1

/-- NAN_REPORT_JUDGE: the reports of the oldest report's MCLK are judged together. -/
def Dev.nanJudge (d : Dev) : Dev :=
  if !d.mlive then d else
  match d.nanRep with
  | [] => d
  | r :: _ =>
    let k := judgeAt r.1
    let now := d.nanRep.filter fun x => judgeAt x.1 == k
    let d := { d with nanRep := d.nanRep.filter fun x => judgeAt x.1 != k }.passTo (4 * k)
    now.foldl Dev.nanTake d

/-- Reports that an MCLK up to the one of FINAL judges are judged first. The number bounds them. -/
def Dev.nanSettle (d : Dev) : Nat → Dev
  | 0 => d
  | n + 1 => match d.nanRep with
    | r :: _ => if judgeAt r.1 ≤ (d.fld NAN_TS + 803) / 4 then Dev.nanSettle d.nanJudge n else d
    | [] => d

/-- NAN_FIRST_FINAL (R361): the entry's TS is the tick at which FINAL sets. -/
def Dev.nanFinal (d : Dev) : Dev :=
  if !d.mlive || !d.flag NANF_VALID || d.flag NANF_FINAL then d
  else
    let d := d.nanSettle d.nanRep.length
    let d := d.passTo (d.fld NAN_TS + 800)
    let t := d.fld NANF_LTILE
    (d.setF NANF_FINAL 1).logEv 0x000B .I 0
      [dB 8 (d.fld NAN_CAP_0 t), dB 8 (d.fld NAN_CAP_WHERE t), dB 8 (d.fld NAN_CAP_OPERANDS t), dB 4 (d.fld NAN_CAP_TS t)]

/-- A tile's capture is cleared. -/
def Dev.nanCapClear (d : Dev) (t : Nat) : Dev := (((d.setF NAN_CAP_0 0 t).setF NAN_CAP_TS 0 t).setF NAN_CAP_WHERE 0 t).setF NAN_CAP_OPERANDS 0 t

/-- GLB_NAN_FIRST.VALID is cleared: every capture, every report not yet judged (R361). -/
def Dev.nanFirstClear (d : Dev) : Dev :=
  let d := (upTo 65).foldl Dev.nanCapClear ((d.setF NANF_VALID 0).setF NANF_FINAL 0)
  { d with nanRep := [] }

/-- A rejected conversion's entry (R347, R365): reason, descriptor, issuing unit. -/
def Dev.cvtRejected (d : Dev) (t reason x unit : Nat) : Dev := d.logEv 0x1006 .D (d.ptile t) [dC reason, dN x, dC unit]

/-- A whole conversion on tile `t`: source scalars in, bytes out; counters, gathering, NaN capture. `raw` gives the operand bits of a
scalar. -/
def Dev.runCvt (d : Dev) (t x : Nat) (cur : List Nat) (xs : List FV) (raw : Nat → Nat) (base : Nat) (cmd : Option (Nat × Nat)) : List Byte × Dev :=
  let r := convert (cvtDst x) x (cvtScale cur x) xs
  let p := d.ptile t
  let d := (((d.gather t x xs cmd).inc CVT_SAT r.sat p).inc CVT_NAN_IN r.nanIn p)
  let d := match r.nan with
    | some (i, prop) => d.nanCapture t (if prop then 1 else 0) 4 (cvtDst x) cmd ((base + i) % 2 ^ 32) (raw i % 2 ^ 32)
    | none => d
  (r.out, d)

end Sys2Proof.Machine
end

