-- ==== Sys2Proof/Machine/ArrayOps.lean ====
section
/-! DEFINITION. The parts of commands on tiles, and the matrix array: step records, held loads, steps and drains (chapters 11 and 14). -/

namespace Sys2Proof.Machine
open Sys2Proof.Machine.Reg

/-! ## A command's parts (R401, R413) -/

/-- A command in flight. -/
def Dev.cmdOf (d : Dev) (e seq : Nat) : Option Cmd := (d.engOf e).flight.find? fun x => x.seq == seq
/-- Change a command in flight. -/
def Dev.updCmd (d : Dev) (e seq : Nat) (f : Cmd → Cmd) : Dev :=
  let x := d.engOf e
  d.setEng e { x with flight := x.flight.map fun y => if y.seq = seq then f y else y }

/-- A command fails for the first time. `logged`: its cause has its own entry (R414). -/
def Cmd.fail (x : Cmd) (st : Nat) (logged : Bool) : Cmd := if x.status = 0 then { x with status := st, logged := logged } else x

/-- The part of a command on tile `t` has finished. A command whose engine was reset (numbers from 2^24 up) is discarded with its last
part (R422). -/
def Dev.partDone (d : Dev) (e seq t : Nat) : Dev :=
  let d := d.updCmd e seq fun x => { x with todo := x.todo.erase t, on := x.on.erase t }
  if seq < 2 ^ 24 then d
  else
    let x := d.engOf e
    let over_ (y : Cmd) : Bool := y.seq == seq && y.todo.isEmpty && y.on.isEmpty
    (d.setEng e { x with flight := x.flight.filter fun y => !over_ y }).inc CE_CNT_ORPHAN (x.flight.countP over_) e

/-- It has failed. -/
def Dev.partFail (d : Dev) (e seq t st : Nat) (logged : Bool) : Dev :=
  (d.updCmd e seq fun x => x.fail st logged).partDone e seq t

/-! ## Step records (R326, R403) -/

/-- Physical rows of a gill (R322). -/
def gillRows (g : Nat) : Nat := [64, 64, 32, 32, 16].getD g 0
/-- Physical columns of a gill. -/
def gillCols (g : Nat) : Nat := [64, 32, 32, 16, 16].getD g 0
/-- Gills of a configuration. -/
def gillCount (g : Nat) : Nat := [1, 2, 4, 8, 16].getD g 0

/-- The logical shape K_g × N_g (R322). -/
def gillShape (g cls : Nat) : Nat × Nat :=
  match cls with
  | 0 => (2 * gillRows g, gillCols g)
  | 1 => (gillRows g, gillCols g)
  | 2 => (gillRows g, gillCols g)
  | 3 => (gillRows g / 2, gillCols g / 2)
  | _ => (gillRows g / 4, gillCols g / 4)

/-- The pairings of R323: class, held format, streaming format. -/
def pairOk (cls h s : Nat) : Bool :=
  match cls with
  | 0 => h == 7 && s == 7
  | 1 => (h == 6 && s == 6) || ((h == 3 || h == 4) && (s == 3 || s == 4))
  | 2 => (h == 8 && (s == 8 || s == 6)) || (h == 6 && s == 8)
  | 3 => (h == 1 || h == 2) && (s == 1 || s == 2)
  | 4 => h == 0 && s == 0
  | _ => h == 9 && s == 9

/-- Bytes of `n` operand elements; a complex element is two scalars. -/
def elemBytes (f n : Nat) : Nat := fmtBytes f (if f = 9 then 2 * n else n)

/-- Words a gill's output row takes (R326). -/
def outWords (cls n : Nat) : Nat := if cls = 5 then 2 * n else n

/-- A gill program's 16 bytes as a number (R403). -/
def gillOf (g v : Nat) : GillProg :=
  let r := bits v 80 16
  { gill := g, held := bits v 0 32, stream := bits v 32 32, stride := bits v 64 16, rows := if r = 0 then 65536 else r,
    accRow := bits v 96 16, accCol := bits v 112 8, heldCt := bitAt v 120 }

/-- A gill program's fields lie in their ranges (R326, R400); a row or column outside accumulator memory is ACC_RANGE's business. -/
def gillLegal (v : Nat) : Bool :=
  bits v 0 6 == 0 && bits v 32 6 == 0 && decide (1 ≤ bits v 64 16) && decide (bits v 64 16 ≤ 1024) && bits v 121 7 == 0

/-- The gill numbers a GMASK names, ascending. -/
def maskBits (n m : Nat) : List Nat := (upTo n).filter fun i => bitAt m i

/-- One step record at an offset: the step, `none` where a field is illegal, and its length. -/
def Dev.stepAt (d : Dev) (t off : Nat) : Option Step × Nat :=
  let h := d.sramNat t off 16
  let gs := maskBits 16 (bits h 16 16)
  let ps := gs.zipIdx.map fun p => (p.1, d.sramNat t (off + 16 + 16 * p.2) 16)
  let ok := bits h 3 1 == 0 && bits h 7 1 == 0 && decide (bits h 4 3 ≤ 5) && decide (bits h 8 8 ≤ 1) && h / 2 ^ 40 == 0
    && ps.all fun p => gillLegal p.2
  (if ok then some { config := bits h 0 3, cls := bits h 4 3, mode := bits h 8 8, gmask := bits h 16 16, fHeld := bits h 32 4,
                     fStream := bits h 36 4, gills := ps.map fun p => gillOf p.1 p.2 } else none,
   16 + 16 * gs.length)

/-- `n` step records; `none` where one is illegal or leaves the scratch portion. -/
def Dev.stepsAt (d : Dev) (t : Nat) : Nat → Nat → Option (List Step)
  | 0, _ => some []
  | n + 1, off =>
    match d.stepAt t off with
    | (some x, len) => if d.outsideScratch off len then none else (d.stepsAt t n (off + len)).map (x :: ·)
    | (none, _) => none

/-- Bytes that `n` step records take. -/
def Dev.stepsLen (d : Dev) (t : Nat) : Nat → Nat → Nat
  | 0, _ => 0
  | n + 1, off => let (_, len) := d.stepAt t off; len + d.stepsLen t n (off + len)

/-! ## The checks of R336 -/

/-- Words of accumulator memory a gill writes, as (first row, rows, first word, words). -/
def accSpan (x : Step) (p : GillProg) : Nat × Nat × Nat × Nat := (p.accRow, p.rows, p.accCol, outWords x.cls (gillShape x.config x.cls).2)

/-- Two spans share a word. -/
def spansMeet (a b : Nat × Nat × Nat × Nat) : Bool :=
  decide (a.1 < b.1 + b.2.1) && decide (b.1 < a.1 + a.2.1) && decide (a.2.2.1 < b.2.2.1 + b.2.2.2) && decide (b.2.2.1 < a.2.2.1 + a.2.2.2)

/-- The first gill that overlaps a later one. -/
def firstMeet (x : Step) : List GillProg → Option Nat
  | [] => none
  | p :: r => if r.any (fun q => spansMeet (accSpan x p) (accSpan x q)) then some p.gill else firstMeet x r

/-- An operand of a gill program leaves the scratch portion. -/
def Dev.badOperand (d : Dev) (x : Step) (p : GillProg) : Bool :=
  let (k, n) := gillShape x.config x.cls
  (!p.heldCt && d.outsideScratch p.held (elemBytes x.fHeld (k * n)))
    || d.outsideScratch (p.stream + (p.rows - 1) * (64 * p.stride)) (elemBytes x.fStream k)

/-- Why a step is rejected: reason and gill, in the table's order (DEDUCED, log entry 61). -/
def Dev.stepReject (d : Dev) (x : Step) : Option (Nat × Nat) :=
  let high := maskBits 16 x.gmask |>.find? fun g => decide (gillCount x.config ≤ g)
  if 5 ≤ x.config ∨ (x.cls = 2 ∧ x.config = 4) then some (1, 0)
  else match high with
  | some g => some (1, g)
  | none =>
    if !pairOk x.cls x.fHeld x.fStream then some (2, 0)
    else match x.gills.find? fun p =>
        decide (1024 < p.accRow + p.rows) || decide (64 < p.accCol + outWords x.cls (gillShape x.config x.cls).2) with
    | some p => some (3, p.gill)
    | none =>
      match firstMeet x x.gills with
      | some g => some (4, g)
      | none => (x.gills.find? fun p => d.badOperand x p).map fun p => (5, p.gill)

/-! ## Held loads (R276, R330) -/

/-- Offset, relative to HELD, of the first byte of output element `x` of a corner-turn stream of element size `e`. -/
def ctOffset (e x : Nat) : Nat :=
  let b := 4096 / e
  x / b * 4096 + x % b % 64 * 64 + x % b / 64 * e

/-- Raw held element (k, n) of an operand's bytes; BX8 bands of 32 lie one after the other, a band's blocks side by side
(DEDUCED, log entry 62). -/
def heldRaw (f nn : Nat) (b : List Byte) (k n : Nat) : Nat :=
  match f with
  | 8 => scalarRaw 8 b (32 * (k / 32 * nn + n) + k % 32)
  | 9 => scalarRaw 9 b (2 * (k * nn + n)) + 2 ^ 16 * scalarRaw 9 b (2 * (k * nn + n) + 1)
  | _ => scalarRaw f b (k * nn + n)

/-- Byte of a plain held operand where element (k, n) begins. -/
def heldByte (f nn k n : Nat) : Nat :=
  match f with
  | 7 => (k * nn + n) / 2
  | 8 => 33 * (k / 32 * nn + n) + k % 32
  | _ => (k * nn + n) * elemBytes f 1

/-- Does any byte of `[off, off + n)` of tile `t` lie in an uncorrectable word? -/
def Dev.badAt (d : Dev) (t off n : Nat) : Bool := (d.firstBad (tileAddr t off) n).isSome

/-- The columns of a held operand that carry poison: every element of a column reaches it, a block with its exponent. -/
def Dev.heldBad (d : Dev) (t : Nat) (x : Step) (p : GillProg) : Nat :=
  let (kk, nn) := gillShape x.config x.cls
  let e := elemBytes x.fHeld 1
  let bad (k n : Nat) : Bool :=
    if p.heldCt then d.badAt t (p.held + ctOffset e (k * nn + n)) e
    else if x.fHeld = 8 then d.badAt t (p.held + 33 * (k / 32 * nn + n)) 33
    else d.badAt t (p.held + heldByte x.fHeld nn k n) (max e 1)
  ((upTo nn).map fun n => bitIf ((upTo kk).any fun k => bad k n) n).sum

/-- A corner-turn load that R276 rejects: another element size, an unaligned block, or the cache portion. -/
def Dev.ctBad (d : Dev) (x : Step) (p : GillProg) : Bool :=
  let (k, n) := gillShape x.config x.cls
  let e := elemBytes x.fHeld 1
  p.heldCt && (x.fHeld == 7 || x.fHeld == 8 || !(e == 1 || e == 2 || e == 4) || p.held % 4096 != 0
    || d.outsideScratch p.held ((k * n * e + 4095) / 4096 * 4096))

/-- One gill's held operand: raw elements, mask of poisoned columns, and the reads' entries. -/
def Dev.heldOf (d : Dev) (t : Nat) (x : Step) (p : GillProg) : (List Nat × Nat) × Dev :=
  let (kk, nn) := gillShape x.config x.cls
  let e := elemBytes x.fHeld 1
  let size := elemBytes x.fHeld (kk * nn)
  if p.heldCt then
    let (bs, bad, d') := d.sramRead t p.held ((size + 4095) / 4096 * 4096) 0
    (((upTo (kk * nn)).map fun i => leNat ((bs.drop (ctOffset e i)).take e), if bad then d.heldBad t x p else 0), d')
  else
    let (bs, bad, d') := d.sramRead t p.held size 0
    (((upTo (kk * nn)).map fun i => heldRaw x.fHeld nn bs (i / nn) (i % nn), if bad then d.heldBad t x p else 0), d')

/-- The LAYER's part on the tile ends here, failed. -/
def Dev.layerFail (d : Dev) (t : Nat) (l : LayerRun) (st : Nat) (logged : Bool) : Dev :=
  (d.setTile t { d.tileOf t with layer := none, shadow := [], shadowFull := false }).partFail l.engine l.seq t st logged

/-- The steps of one CAROUSEL round (R436); all of them without CAROUSEL. -/
def LayerRun.per (l : LayerRun) : Nat := if l.wmode = 1 then l.steps.length / max l.n 1 else l.steps.length

/-- A CAROUSEL's part still has a buffer to send on (R436); its last act waits for that. -/
def LayerRun.sendsDue (l : LayerRun) : Bool := l.wmode == 1 && decide (l.sent + 1 < l.n)

/-- HELD_LOAD: the next step is checked whole (R336), then loads into the shadow bank. -/
def Dev.heldLoad (d : Dev) (t : Nat) : Dev :=
  let x := d.tileOf t
  match x.layer with
  | none => d
  | some l =>
    match l.steps[l.idx]? with
    | none => d
    | some s =>
      if x.shadowFull ∨ (l.wmode = 1 ∧ l.round < l.idx / max l.per 1) then d
      else
        match d.stepReject s with
        | some (r, g) => (d.logEv 0x1003 .D (d.ptile t) [dC r, dU 1 g, dC s.config, dC s.cls]).layerFail t l 4 true
        | none =>
          match s.gills.find? fun p => d.ctBad s p with
          | some p => (d.logEv 0x1002 .D (d.ptile t) [dO p.held, dC (elemBytes s.fHeld 1), dU 1 0]).layerFail t l 4 true
          | none =>
            let (hs, d) := s.gills.foldl (fun a p =>
              let (h, d) := a.2.heldOf t s p
              (a.1 ++ [(p.gill, h)], d)) (([] : List (Nat × (List Nat × Nat))), d)
            d.setTile t { d.tileOf t with shadow := hs, shadowFull := true }

/-! ## Arithmetic (R324, R325, R333, R334) -/

/-- FP32 codes of a NaN. -/
def isNan32 (v : Nat) : Bool := (ofFp32 v).isNan
/-- FP32 sum, rounded to nearest even. -/
def add32 (a b : Nat) : Nat := fp32 ((ofFp32 a).add (ofFp32 b))

/-- A NaN met: stage (0 multiply, 1 tree, 2 accumulate), kind, operands. -/
structure NanHit where
  op   : Nat
  kind : Nat
  a    : Nat
  b    : Nat

/-- The hit of one operation, if its result is a NaN (R358). -/
def nanHit (op : Nat) (inNan resNan : Bool) (a b : Nat) : Option NanHit :=
  if resNan then some { op, kind := if inNan then 1 else 0, a, b } else none

/-- The first of two hits. -/
def firstHit (a b : Option NanHit) : Option NanHit := a.or b

/-- Adjacent pairs added; an odd last one stands. -/
def pairUp : List Nat → List Nat × Option NanHit
  | a :: b :: r =>
    let s := add32 a b
    let (xs, h) := pairUp r
    (s :: xs, firstHit (nanHit 1 (isNan32 a || isNan32 b) (isNan32 s) a b) h)
  | l => (l, none)

/-- The column tree: pairwise sums by ascending k until one is left (R334). -/
def treeSum : Nat → List Nat → Nat × Option NanHit
  | 0, l => (l.headD 0, none)
  | n + 1, l =>
    match l with
    | [] => (0, none)
    | [a] => (a, none)
    | _ =>
      let (m, h) := pairUp l
      let (s, h') := treeSum n m
      (s, firstHit h h')

/-- The raw operand as a value of its format; BX8 as its mantissa. -/
def rawVal (f v : Nat) : FV :=
  match f with
  | 5 => .ofInt (toSigned 16 v)
  | 6 => .ofInt (toSigned 8 v)
  | 7 => .ofInt (toSigned 4 v)
  | 8 => .ofInt (toSigned 8 v)
  | 9 => .ofInt (toSigned 16 v)
  | c => (ffmt c).dec v

/-- One output of a float class: FP32 products, tree, accumulate. `flip` is what a faulty multiplier does to the first significand
product. Result, and the first NaN of each stage in stage order. -/
def floatOut (fh fs : Nat) (hs ss : List Nat) (old : Option Nat) (flip : Nat) : Nat × Option NanHit :=
  let ps := (hs.zip ss).zipIdx.map fun q =>
    let a := rawVal fh q.1.1
    let b := rawVal fs q.1.2
    let p := a.mul b
    let p := match p with
      | .fin n m e => if q.2 = 0 then FV.fin n (Nat.xor m flip) e else p
      | _ => p
    (fp32 p, nanHit 0 (a.isNan || b.isNan) (fp32 p |> isNan32) q.1.1 q.1.2)
  let (s, h1) := treeSum 8 (ps.map (·.1))
  let h0 := (ps.find? fun p => p.2.isSome).bind (·.2)
  match old with
  | none => (s, firstHit h0 h1)
  | some o => let r := add32 o s; (r, firstHit (firstHit h0 h1) (nanHit 2 (isNan32 o || isNan32 s) (isNan32 r) o s))

/-- One output of BX8 (R324): block by block, exact sums scaled, rounded and added. A NaN block is met at the multiply, before any
accumulate (R359). -/
def bx8Out (fh fs : Nat) (hs ss : List Nat) (old : Option Nat) (flip : Nat) : Nat × Option NanHit :=
  let exOf (f v : Nat) : Nat := if f = 8 then v / 256 % 256 else 127
  let block (b : Nat) : Nat × Option NanHit :=
    let h := (hs.drop (32 * b)).take 32
    let s := (ss.drop (32 * b)).take 32
    let eh := exOf fh (h.headD 0)
    let es := exOf fs (s.headD 0)
    if eh = 255 ∨ es = 255 then (0x7FC00000, some { op := 0, kind := 1, a := h.headD 0, b := s.headD 0 })
    else
      let i := ((h.zip s).map fun q => toSigned 8 q.1 * toSigned 8 q.2).sum
      let i := if b = 0 then toSigned 40 (Nat.xor (ofSigned 40 i) flip) else i
      (fp32 ((FV.ofInt i).scale ((eh : Int) + es - 254)), none)
  let bs := (upTo (hs.length / 32)).map block
  let addOne (a : Option Nat × Option NanHit) (b : Nat × Option NanHit) : Option Nat × Option NanHit :=
    match a.1 with
    | none => (some b.1, firstHit a.2 b.2)
    | some o =>
      let r := add32 o b.1
      (some r, firstHit (firstHit a.2 b.2) (nanHit 2 (isNan32 o || isNan32 b.1) (isNan32 r) o b.1))
  let r := bs.foldl addOne (old, none)
  (r.1.getD 0, firstHit ((bs.find? fun b => b.2.isSome).bind (·.2)) r.2)

/-- An integer accumulate (R333): the word written, and whether it overflowed. -/
def intAcc (sat : Bool) (old : Option Nat) (s : Int) : Nat × Bool :=
  let v := (match old with
    | some o => toSigned 32 o
    | none => 0) + s
  if v < -(2 ^ 31) ∨ 2 ^ 31 ≤ v then (ofSigned 32 (if sat then (if v < 0 then -(2 ^ 31) else 2 ^ 31 - 1) else v), true)
  else (ofSigned 32 v, false)

/-- The exact sum of an integer class. -/
def intSum (f g : Nat) (hs ss : List Nat) : Int :=
  let w (f : Nat) : Nat := if f = 7 then 4 else 8
  ((hs.zip ss).map fun q => toSigned (w f) q.1 * toSigned (w g) q.2).sum

/-- The complex sums of CI16 (R194, R325). -/
def ci16Sum (hs ss : List Nat) : Int × Int :=
  let re (v : Nat) : Int := toSigned 16 (v % 2 ^ 16)
  let im (v : Nat) : Int := toSigned 16 (v / 2 ^ 16)
  (((hs.zip ss).map fun q => re q.1 * re q.2 - im q.1 * im q.2).sum, ((hs.zip ss).map fun q => re q.1 * im q.2 + im q.1 * re q.2).sum)

/-- A sum with bits flipped by a faulty multiplier, in its 40 bits. -/
def flip40 (s : Int) (f : Nat) : Int := toSigned 40 (Nat.xor (ofSigned 40 s) f)

/-! ## A step (R329) -/

/-- The array's working state during a step. -/
structure MxRun where
  acc  : List (Nat × Nat)
  bad  : List (Nat × Bool)
  iovf : Nat := 0
  /-- the first NaN: TCLK, gill, column, accumulator row, and the hit -/
  nan  : Option (Nat × Nat × Nat × Nat × NanHit) := none

/-- TCLK of a stage after its row issues (R331). -/
def stageDelay (cls op : Nat) : Nat :=
  let m := if cls ≤ 2 then 2 else if cls = 3 then 3 else 4
  match op with
  | 0 => m
  | 1 => m + 1
  | _ => if cls ≤ 2 then 4 else if cls = 3 then 6 else 8

/-- Keep the earlier NaN (R359). -/
def MxRun.hit (r : MxRun) (row gill col accRow cls : Nat) (h : Option NanHit) : MxRun :=
  match h with
  | none => r
  | some h =>
    let k := row + stageDelay cls h.op
    match r.nan with
    | none => { r with nan := some (k, gill, col, accRow, h) }
    | some (k', g', c', _, _) =>
      if k < k' ∨ (k = k' ∧ (gill < g' ∨ (gill = g' ∧ col < c'))) then { r with nan := some (k, gill, col, accRow, h) } else r

/-- One accumulator word is written: value and mark (R328, R337). -/
def MxRun.put (r : MxRun) (key v : Nat) (mode : Nat) (bad : Bool) : MxRun :=
  { r with acc := Sparse.set 0 r.acc key v,
           bad := Sparse.set false r.bad key (bad || (mode == 1 && Sparse.get false r.bad key)) }

/-- Column `n` of streaming row `i` of a gill. -/
def MxRun.col (r : MxRun) (x : Step) (sat : Bool) (p : GillProg) (i : Nat) (held : List Nat × Nat) (row : List Nat) (rowBad : Bool)
    (flip : Option (Nat × Nat)) (n : Nat) : MxRun :=
  let (kk, nn) := gillShape x.config x.cls
  let hs := (upTo kk).map fun k => held.1.getD (k * nn + n) 0
  let a := p.accRow + i
  let bad := rowBad || bitAt held.2 n
  let fl := match flip with
    | some (c, f) => if c = n then f else 0
    | none => 0
  let key (w : Nat) : Nat := a * 64 + p.accCol + w
  let old (w : Nat) : Option Nat := if x.mode = 1 then some (Sparse.get 0 r.acc (key w)) else none
  let putInt (r : MxRun) (w : Nat) (s : Int) : MxRun :=
    let (v, o) := intAcc sat (old w) s
    let r := r.put (key w) v x.mode bad
    if o then { r with iovf := r.iovf + 1 } else r
  if x.cls = 5 then
    let (re, im) := ci16Sum hs row
    putInt (putInt r (2 * n) (flip40 re fl)) (2 * n + 1) im
  else if x.cls = 0 ∨ (x.cls = 1 ∧ x.fHeld = 6) then putInt r n (flip40 (intSum x.fHeld x.fStream hs row) fl)
  else
    let (v, h) := if x.cls = 2 then bx8Out x.fHeld x.fStream hs row (old n) fl else floatOut x.fHeld x.fStream hs row (old n) fl
    (r.put (key n) v x.mode bad).hit i p.gill n a x.cls h

/-- A streaming row's raw elements. -/
def rowRaw (f k : Nat) (b : List Byte) : List Nat :=
  (upTo k).map fun i => if f = 9 then scalarRaw 9 b (2 * i) + 2 ^ 16 * scalarRaw 9 b (2 * i + 1) else scalarRaw f b i

/-- One gill's rows. -/
def Dev.gillRun (d : Dev) (t : Nat) (x : Step) (sat : Bool) (held : List Nat × Nat) (flip : Option (Nat × Nat)) (p : GillProg)
    (r : MxRun) : MxRun × Dev :=
  let (kk, nn) := gillShape x.config x.cls
  (upTo p.rows).foldl (fun (a : MxRun × Dev) i =>
    let (bs, bad, d) := a.2.sramRead t (p.stream + i * (64 * p.stride)) (elemBytes x.fStream kk) 0
    let row := rowRaw x.fStream kk bs
    ((upTo nn).foldl (fun r n => r.col x sat p i held row bad (if i = 0 then flip else none) n) a.1, d)) (r, d)

/-- What the residue channel sees of a faulty multiplier in the step's first row (R339): the number before and after. -/
def residueSees (x : Step) (held : List Nat × Nat) (row : List Nat) (n flip : Nat) : Bool :=
  let (kk, nn) := gillShape x.config x.cls
  let hs := (upTo kk).map fun k => held.1.getD (k * nn + n) 0
  let differs (s : Int) : Bool := (flip40 s flip - s) % 3 != 0
  if x.cls = 5 then differs (ci16Sum hs row).1
  else if x.cls = 0 ∨ (x.cls = 1 ∧ x.fHeld = 6) then differs (intSum x.fHeld x.fStream hs row)
  else if x.cls = 2 then differs (((hs.take 32).zip (row.take 32)).map fun q => toSigned 8 q.1 * toSigned 8 q.2).sum
  else
    match (rawVal x.fHeld (hs.headD 0)).mul (rawVal x.fStream (row.headD 0)) with
    | .fin _ m _ => Nat.xor m flip % 3 != m % 3
    | _ => false

/-- A residue mismatch (R339): class S, the words poisoned, the RESIDUE flag. -/
def Dev.residue (d : Dev) (t : Nat) (l : LayerRun) (x : Step) (p : GillProg) (n : Nat) : Dev :=
  let y := d.tileOf t
  let ws := if x.cls = 5 then [2 * n, 2 * n + 1] else [n]
  let bad := ws.foldl (fun m w => Sparse.set false m (p.accRow * 64 + p.accCol + w) true) y.accBad
  (((d.setTile t { y with accBad := bad }).updCmd l.engine l.seq fun c => { c with residue := true }).inc MX_RES_ERR 1 (d.ptile t)).logEv
    0x1005 .S (d.ptile t) [dU 1 p.gill, dU 1 n, dO p.accRow, dC x.cls]

/-- TCLK of a step's held load, at 256 B each, shared by its gills (R330). -/
def Step.loadTime (x : Step) : Nat :=
  let (k, n) := gillShape x.config x.cls
  let size (p : GillProg) : Nat :=
    let m := elemBytes x.fHeld (k * n)
    if p.heldCt then (m + 4095) / 4096 * 4096 else m
  ((x.gills.map size).sum + 255) / 256

/-- TCLK in which a step issues rows: its longest gill's (R329). -/
def Step.time (x : Step) : Nat := (x.gills.map (·.rows)).foldl max 0

/-- TCLK the array waits for a step's held load beyond the rows of the step before it, under which it runs (R330). -/
def LayerRun.loadStall (l : LayerRun) (x : Step) : Nat :=
  match l.idx with
  | 0 => 0
  | i + 1 => x.loadTime - ((l.steps[i]?).map Step.time).getD 0

/-- ARRAY_STEP_START: the banks swap and the step streams to its end. -/
def Dev.arrayStep (d : Dev) (t : Nat) (fault : Option (Nat × Nat × Nat)) : Dev :=
  let y := d.tileOf t
  match y.layer with
  | none => d
  | some l =>
    match l.steps[l.idx]? with
    | none => d
    | some x =>
      if !y.shadowFull || (l.sendsDue && l.drainRows == 0 && l.idx + 1 == l.steps.length) then d
      else
        let p := d.ptile t
        let d := (d.setF MX_GILL x.config p).setF MX_CLASS x.cls p
        let held (g : Nat) : List Nat × Nat := Sparse.get ([], 0) y.shadow g
        let flipOf (g : Nat) : Option (Nat × Nat) := match fault with
          | some (g', c, f) => if g' = g then some (c, f) else none
          | none => none
        let (r, d) := x.gills.foldl (fun (a : MxRun × Dev) q => a.2.gillRun t x l.accSat (held q.gill) (flipOf q.gill) q a.1)
          ({ acc := y.acc, bad := y.accBad }, d)
        let more := decide (l.idx + 1 < l.steps.length)
        let finished := !more && l.drainRows == 0
        let d := d.setTile t { d.tileOf t with acc := r.acc, accBad := r.bad, active := y.shadow, shadow := [], shadowFull := false,
                                               layer := if finished then none else some { l with idx := l.idx + 1 } }
        let d := ((d.inc MX_ROWS x.time p).inc MX_STALL (l.loadStall x) p).inc MX_IOVF r.iovf p
        let d := if r.iovf = 0 then d else d.updCmd l.engine l.seq fun c => { c with iovf := true }
        let d := match r.nan with
          | some (_, g, c, a, h) => d.nanCapture t h.kind h.op 0 (some (l.engine, l.seq)) (g + c * 2 ^ 4 + a * 2 ^ 16) (h.a + h.b * 2 ^ 32)
          | none => d
        let d := match fault with
          | some (g, c, f) =>
            match x.gills.find? fun q => q.gill == g with
            | some q =>
              let row := rowRaw x.fStream (gillShape x.config x.cls).1 (d.rawRead (tileAddr t q.stream) (elemBytes x.fStream (gillShape x.config x.cls).1))
              if d.flag MX_RES_EN p ∧ c < (gillShape x.config x.cls).2 ∧ residueSees x (held g) row c f = true then d.residue t l x q c else d
            | none => d
          | none => d
        if finished then d.partDone l.engine l.seq t else d

/-! ## Drains (R332, R337) -/

/-- The check of an accumulator word as a drain reads it (R338). -/
def Dev.accUpset (d : Dev) (t row word : Nat) (single : Bool) : Dev :=
  if single then d.inc MX_ACC_CE 1 (d.ptile t)
  else
    let y := d.tileOf t
    let k := row * 64 + word / 2 * 2
    (d.setTile t { y with accBad := Sparse.set false (Sparse.set false y.accBad k true) (k + 1) true }).logEv 0x1004 .D (d.ptile t)
      [dO row, dU 1 word]

/-- The value of an accumulator word of a class. -/
def accVal (cls v : Nat) (int8 : Bool) : FV := if cls = 0 ∨ cls = 5 ∨ (cls = 1 ∧ int8) then .ofInt (toSigned 32 v) else ofFp32 v

/-- The drain of the LAYER on tile `t`, after its last step. -/
def Dev.layerDrain (d : Dev) (t : Nat) : Dev :=
  let y := d.tileOf t
  match y.layer with
  | none => d
  | some l =>
    if l.idx < l.steps.length ∨ l.sendsDue = true then d
    else
      let (cls, int8) := match l.steps.getLast? with
        | some x => (x.cls, x.fHeld == 6)
        | none => (0, true)
      let src := if cls = 5 then 9 else if cls = 0 ∨ (cls = 1 ∧ int8 = true) then 5 else 0
      let r := cvtReject src l.drainCvt 64
      if r ≠ 0 then (d.cvtRejected t r l.drainCvt 0).layerFail t l 5 true
      else
        let keys := (upTo (64 * l.drainRows)).map fun i => 64 * l.drainRow + i
        let words := keys.map fun k => Sparse.get 0 y.acc k
        let bad := keys.countP fun k => Sparse.get false y.accBad k
        let (out, d) := d.runCvt t l.drainCvt l.cur (words.map fun v => accVal cls v int8) (fun i => words.getD i 0) 0 (some (l.engine, l.seq))
        let d := d.sramWrite t l.drainDst (out.map some)
        let y := d.tileOf t
        let y := if l.clr then { y with acc := keys.foldl (fun m k => Sparse.set 0 m k 0) y.acc,
                                        accBad := keys.foldl (fun m k => Sparse.set false m k false) y.accBad } else y
        let d := (d.setTile t { y with layer := none }).updCmd l.engine l.seq fun c => { c with poison := c.poison + bad }
        d.partDone l.engine l.seq t

/-! ## The LAYER command on a tile (R402) -/

/-- A LAYER starts on tile `t`: its records are read; rows outside accumulator memory or output outside the scratch portion fail it
(DEDUCED, log entry 63). A record that an uncorrectable word holds is taken as it reads, and reported (log entry 175). -/
def Dev.layerStart (d : Dev) (e seq t : Nat) (b : Nat) (rank n slotHave : Nat) : Dev :=
  let dst := bits b 352 16
  let rows := bits b 368 16
  let outLen := rows * fmtBytes (cvtDst (bits b 288 32)) 64
  match d.stepsAt t (bits b 128 16) (bits b 96 32) with
  | none => d.partFail e seq t 2 false
  | some steps =>
    let (_, _, d) := d.sramRead t (bits b 96 32) (d.stepsLen t (bits b 128 16) (bits b 96 32)) 0
    if rows ≠ 0 ∧ (1024 < dst + rows ∨ d.outsideScratch (bits b 320 32) outLen = true) then d.partFail e seq t 2 false
    else
      let l : LayerRun := {
        engine := e, seq := seq, accSat := bitAt b 152, steps := steps, drainCvt := bits b 288 32, drainDst := bits b 320 32,
        drainRow := dst, drainRows := rows, clr := bitAt b 384, cur := d.curNow t, wmode := bits b 144 8, wsrc := bits b 160 64,
        wlen := bits b 224 32, wslot := bits b 256 32, rank := rank, n := n, have_ := slotHave }
      d.setTile t { d.tileOf t with layer := some l }

end Sys2Proof.Machine
end

