-- ==== Sys2Proof/Machine/ColonyOps.lean ====
section
/-! DEFINITION. Membership, notices, links that train and fail, barriers and locks of a colony (R496, R500, R513 to R520, R598, R599). -/

namespace Sys2Proof.Config

/-- Where a NOTICE carries its kind and link is not stated (R503, R514; log entry 41): AUX as a sender forms it. -/
opaque noticeAux : (kind link : Nat) → Nat
/-- The kind a received AUX spells. -/
opaque noticeKind : Nat → Nat
/-- The link it spells. -/
opaque noticeLink : Nat → Nat

end Sys2Proof.Config

namespace Sys2Proof.Machine
open Sys2Proof.Machine.Reg

/-! ## Barriers on this device (R518, R519) -/

/-- Queue a message for CMSG: to a link, or (4) on the route to its destination. -/
def Dev.sayTo (d : Dev) (p : CPkt) (link : Nat) : Dev := { d with cpl := { d.cpl with msgs := d.cpl.msgs ++ [(p, link)] } }

/-- Generation of a BID. -/
def Dev.barGen (d : Dev) (bid : Nat) : Nat := Sparse.get 0 d.cpl.gen bid
/-- One more generation. -/
def Dev.barNext (d : Dev) (bid : Nat) : Dev := { d with cpl := { d.cpl with gen := Sparse.set 0 d.cpl.gen bid ((d.barGen bid + 1) % 2 ^ 16) } }
/-- Set it. -/
def Dev.setGen (d : Dev) (bid g : Nat) : Dev := { d with cpl := { d.cpl with gen := Sparse.set 0 d.cpl.gen bid g } }

/-- BARRIERs of engine `e` that a test selects complete with a status. A bar is (BID, EMASK, CMD_SEQ, colony). -/
def Dev.barEndOn (d : Dev) (e st : Nat) (sel : Nat × Nat × Nat × Bool → Bool) : Dev :=
  let x := d.engOf e
  let gone := x.bars.filter sel
  let d := d.setEng e { x with bars := x.bars.filter fun b => !sel b }
  gone.foldl (fun d b => d.updCmd e b.2.2.1 fun c => { (if st = 0 then c else c.fail st false) with done := true }) d

/-- The same on every engine. -/
def Dev.barEnd (d : Dev) (st : Nat) (sel : Nat × Nat × Nat × Bool → Bool) : Dev := (upTo 16).foldl (fun d e => d.barEndOn e st sel) d

/-- The colony BARRIERs of a BID. -/
def colonyBar (bid : Nat) (b : Nat × Nat × Nat × Bool) : Bool := b.1 == bid && b.2.2.2

/-- The local part of a colony barrier is complete: every engine of its EMASK has issued it (R409, R518). -/
def Dev.barLocal (d : Dev) (bid : Nat) : Bool :=
  let on (e : Nat) : List (Nat × Nat × Nat × Bool) := (d.engOf e).bars.filter (colonyBar bid)
  let masks := (upTo 16).flatMap fun e => (on e).map (·.2.1)
  match masks with
  | [] => false
  | m :: _ => (maskBits 16 m).all fun e => !(on e).isEmpty

/-- Colony barriers complete with BARRIER_LOST: the BID's generation counts on (R598). -/
def Dev.barLost (d : Dev) (bid : Nat) : Dev :=
  let d := (d.barEnd 12 (colonyBar bid)).barNext bid
  { d with cpl := { d.cpl with pend := d.cpl.pend.filter fun p => p.1 != bid } }

/-- A colony step barrier of an engine is released, or lost (R519). -/
def Dev.stepRelease (d : Dev) (e : Nat) (lost : Bool) : Dev :=
  let x := d.engOf e
  let d := d.setEng e { x with flight := x.flight.map fun c =>
    if c.colony = 1 then { (if lost then c.fail 12 false else c) with colony := 2 } else c }
  { d with cpl := { d.cpl with pend := d.cpl.pend.filter fun p => p.1 != 16 + e } }

/-- A release reaches this device (R518, R598): a channel below 16 is a BID. -/
def Dev.takeRelease (d : Dev) (ch gen st : Nat) : Dev :=
  if 16 ≤ ch then d.stepRelease (ch - 16) (st != 0)
  else if d.cpl.lacking.contains ch then
    { d.setGen ch gen with cpl := { (d.setGen ch gen).cpl with lacking := d.cpl.lacking.erase ch } }
  else
    let d := (d.barEnd (if st = 0 then 0 else 11) (colonyBar ch)).barNext ch
    { d with cpl := { d.cpl with pend := d.cpl.pend.filter fun p => p.1 != ch } }

/-! ## Barriers at HOME (R518) -/

/-- The current members. -/
def Dev.members (d : Dev) : List Nat := (upTo 512).filter fun v => d.member v

/-- HOME releases a barrier on every member; a status other than 0 is a mismatch (log entry 42). -/
def Dev.releaseAll (d : Dev) (ch gen st : Nat) : Dev :=
  let d := { d with cpl := { d.cpl with arrive := d.cpl.arrive.filter fun a => !(a.1 == ch && (decide (ch < 16) || a.2.1 == gen)) } }
  let d := (d.members.filter fun v => v != d.selfId).foldl (fun d v =>
    d.sayTo { msg := 7, dst := v, src := d.selfId, status := st, ts := d.now, aux := ch, gen := gen } 4) d
  d.takeRelease ch gen st

/-- Every current member has arrived: release. -/
def Dev.homeCheck (d : Dev) (ch gen : Nat) : Dev :=
  if !d.members.isEmpty && d.members.all fun v => d.cpl.arrive.contains (ch, gen, v) then d.releaseAll ch gen 0 else d

/-- An arrival at HOME: a duplicate is ignored, another generation than HOME's completes the barrier with BARRIER_MISMATCH. -/
def Dev.homeArrive (d : Dev) (ch gen dev : Nat) : Dev :=
  if d.cpl.arrive.contains (ch, gen, dev) then d
  else if ch < 16 ∧ (gen + 1) % 2 ^ 16 = d.barGen ch then d
  else if ch < 16 ∧ gen ≠ d.barGen ch then d.releaseAll ch (d.barGen ch) 9
  else { d with cpl := { d.cpl with arrive := d.cpl.arrive ++ [(ch, gen, dev)] } }.homeCheck ch gen

/-- This device arrives at a colony barrier: at HOME, or lost while HOME is no member. -/
def Dev.arriveOut (d : Dev) (ch gen : Nat) : Dev :=
  let home := d.fld COL_HOME
  if !d.member home then (if ch < 16 then d.barLost ch else d.stepRelease (ch - 16) true)
  else
    let d := { d with cpl := { d.cpl with pend := d.cpl.pend ++ [(ch, gen)] } }
    if d.isSelf home then d.homeArrive ch gen d.selfId
    else d.sayTo { msg := 6, dst := home, src := d.selfId, ts := d.now, aux := ch, gen := gen } 4

/-- A colony BARRIER's local part is complete: the device arrives, unless it still waits for the generations (R598). -/
def Dev.barColony (d : Dev) (bid : Nat) : Dev :=
  if !d.barLocal bid || !d.cpl.lacking.isEmpty || d.cpl.pend.any (fun p => p.1 == bid) then d else d.arriveOut bid (d.barGen bid)

/-! ## Notices and membership (R513 to R517) -/

/-- Flood a message on every UP link but one. -/
def Dev.flood (d : Dev) (p : CPkt) (but : Nat) : Dev :=
  (upTo 4).foldl (fun d k => if k ≠ but ∧ d.linkUp k = true then d.sayTo { p with dst := d.neighbour d.selfId k } k else d) d

/-- A member is dropped: what R517 decides, the lock before the barrier (R599). -/
def Dev.dropMember (d : Dev) (m : Nat) : Dev :=
  if !d.member m then d
  else
    let d := d.setBit CPL_MEMBER (m % 64) false (m / 64)
    if m = d.selfId then d
    else
      let gone := d.cpl.xfers.filter fun x => x.dev == m || x.dev2 == m
      let d := gone.foldl (fun d x => d.xferEnd x 5) d
      let ours (e : Nat × PullJob) : Bool := e.2.req.src != m
      let d := { d with cpl := { d.cpl with pullQ := d.cpl.pullQ.filter ours, pullOn := d.cpl.pullOn.filter ours } }
      let d := d.ownerLost (.device (Fin.ofNat 512 m))
      let d := (upTo 16).foldl (fun d b => if d.cpl.pend.any (fun p => p.1 == b) then d.barLost b else d) d
      let d := { d with cpl := { d.cpl with arrive := d.cpl.arrive.filter fun a => decide (16 ≤ a.1) } }
      if m = d.fld COL_HOME then (upTo 16).foldl (fun d e => if d.cpl.pend.any (fun p => p.1 == 16 + e) then d.stepRelease e true else d) d
      else (d.cpl.arrive.map fun a => (a.1, a.2.1)).dedup.foldl (fun d a => d.homeCheck a.1 a.2) d

/-- Every link of a device that is not OFF has been reported down by its far end (R515). -/
def Dev.cutOff (d : Dev) (m : Nat) : Bool :=
  let on := (upTo 4).filter fun k => !d.linkOff k
  !on.isEmpty && on.all fun k => NatSet.has d.cpl.down (d.neighbour m k * 4 + farLink k)

/-- The arrivals and lock requests this device still has pending leave again (R520). -/
def Dev.resend (d : Dev) : Dev :=
  let home := d.fld COL_HOME
  let d := d.cpl.pend.foldl (fun d p =>
    if d.isSelf home then d else d.sayTo { msg := 6, dst := home, src := d.selfId, ts := d.now, aux := p.1, gen := p.2 } 4) d
  d.cpl.locks.foldl (fun d l =>
    d.sayTo { msg := 4, dst := home, src := d.selfId, tag := l.tag, reqid := l.rid, ts := l.ts, aux := l.lock + l.op * 2 ^ 8 } 4) d

/-- A notice is applied: kind 0 JOIN, 1 LEAVE, 2 LINK_DOWN, 3 LINK_UP of a link of the origin. -/
def Dev.applyNotice (d : Dev) (origin num kind link : Nat) : Dev :=
  let key := origin * 4 + link % 4
  let d := { d with cpl := { d.cpl with applied := Sparse.set 0 d.cpl.applied origin num } }
  let d := (d.setF CPL_MEPOCH (d.fld CPL_MEPOCH + 1)).logEv 0x8004 .I 0 [dU 2 origin, dC kind, dN num, dT (d.fld CPL_MEPOCH + 1)]
  match kind with
  | 0 =>
    let d := if d.inColony origin then d.setBit CPL_MEMBER (origin % 64) true (origin / 64) else d
    if d.isSelf (d.fld COL_HOME) && origin != d.selfId then
      (upTo 16).foldl (fun d b => d.sayTo { msg := 7, dst := origin, src := d.selfId, ts := d.now, aux := b, gen := d.barGen b } 4) d
    else d
  | 1 => d.dropMember origin
  | 2 =>
    let d := ({ d with cpl := { d.cpl with down := Sparse.set false d.cpl.down key true } }.repAbort 7 0x8004 0).resend
    let m := d.neighbour origin (link % 4)
    if d.cutOff m then d.dropMember m else d
  | _ => { d with cpl := { d.cpl with down := Sparse.set false d.cpl.down key false } }

/-- This device raises a notice: applied here, flooded on every UP link (R514). -/
def Dev.raiseNotice (d : Dev) (kind link : Nat) : Dev :=
  let n := (d.cpl.notice + 1) % 2 ^ 16
  let d := { d with cpl := { d.cpl with notice := n } }
  (d.flood { msg := 8, dst := 0, src := d.selfId, tag := n, ts := d.now, aux := Config.noticeAux kind link % 2 ^ 16 } 4).applyNotice
    d.selfId n kind link

/-- A NOTICE in a CTL buffer: a newer one than the last applied of its origin is forwarded once and applied. -/
def Dev.takeNotice (d : Dev) (k vc : Nat) : Dev :=
  match d.pktFor k vc 8 with
  | none => d
  | some p =>
    let d := d.pktTake k (6 + vc)
    if p.src = d.selfId ∨ p.tag ≤ Sparse.get 0 d.cpl.applied p.src then d
    else (d.flood p k).applyNotice p.src p.tag (Config.noticeKind p.aux % 4) (Config.noticeLink p.aux % 4)

/-- The device joins (R513): it lacks the generations of all BIDs until HOME sends them, unless it is HOME (R598). -/
def Dev.joinColony (d : Dev) : Dev :=
  let d := d.raiseNotice 0 0
  if d.isSelf (d.fld COL_HOME) then d else { d with cpl := { d.cpl with lacking := upTo 16 } }

/-- The device leaves (R516). -/
def Dev.leaveColony (d : Dev) : Dev := if d.member d.selfId then d.raiseNotice 1 0 else d

/-! ## Barrier and lock messages (R518, R520) -/

/-- BAR_ARRIVE at HOME. -/
def Dev.takeArrive (d : Dev) (k vc : Nat) : Dev :=
  match d.pktFor k vc 6 with
  | none => d
  | some p =>
    let d := d.pktTake k (6 + vc)
    if d.isSelf (d.fld COL_HOME) && d.member p.src then d.homeArrive (p.aux % 32) p.gen p.src else d

/-- BAR_RELEASE; with the last of the generations it lacked, a joining device's own barriers arrive. -/
def Dev.takeBarRelease (d : Dev) (k vc : Nat) : Dev :=
  match d.pktFor k vc 7 with
  | none => d
  | some p => (upTo 16).foldl Dev.barColony ((d.pktTake k (6 + vc)).takeRelease (p.aux % 32) p.gen p.status)

/-- LOCK_REQ at HOME: a duplicate is answered with the requester's current result, or is ignored while it waits. -/
def Dev.takeLockReq (d : Dev) (k vc : Nat) : Dev :=
  match d.pktFor k vc 4 with
  | none => d
  | some p =>
    let d := d.pktTake k (6 + vc)
    let key := p.src * 2048 + p.reqid
    let same := match Sparse.get none d.cpl.seen key with
      | some x => x.tag == p.tag && x.ts == p.ts && x.aux == p.aux
      | none => false
    if same then
      match (Sparse.get none d.cpl.seen key).bind (·.res) with
      | some r => d.sayTo { msg := 5, dst := p.src, src := d.selfId, tag := p.tag, reqid := p.reqid, ts := d.now, aux := p.aux % 256 + r * 2 ^ 8 } 4
      | none => d
    else
      let d := { d with cpl := { d.cpl with seen := Sparse.set none d.cpl.seen key (some { tag := p.tag, ts := p.ts, aux := p.aux }) } }
      { d with ann := { d.ann with reqs := d.ann.reqs ++
        [{ stop := p.reqid / 16, unit := p.reqid % 16, tag := p.tag, owner := some (.device (Fin.ofNat 512 p.src)),
           lock := p.aux % 256, op := p.aux / 256 % 4 }] } }

/-- LOCK_RES: the requester is answered. -/
def Dev.takeLockRes (d : Dev) (k vc : Nat) : Dev :=
  match d.pktFor k vc 5 with
  | none => d
  | some p =>
    let d := d.pktTake k (2 + vc)
    match d.cpl.locks.find? fun l => l.rid == p.reqid && l.tag == p.tag with
    | none => d
    | some l =>
      let d := { d with cpl := { d.cpl with locks := d.cpl.locks.erase l } }
      let res := p.aux / 256 % 256
      if l.rid = 16 * mgmtStop ∧ l.tag = 2048 then ((d.setF ANN_SPL_RESULT res).setF ANN_SPL_LOCK l.lock).setF ANN_SPL_DONE 1
      else d.emit (.resp l.rid l.tag 0 [BitVec.ofNat 8 res])

/-- CMSG: the oldest waiting message moves to its link stop. -/
def Dev.moveMsg (d : Dev) : Dev :=
  match d.cpl.msgs with
  | [] => d
  | (p, k) :: r =>
    let d := { d with cpl := { d.cpl with msgs := r } }
    if k < 4 then (if d.linkUp k then d.linkSend k (d.vcOn k none) p else d) else d.pktTo p

/-! ## Links (R496, R500) -/

/-- A_DONE starts training of every link that is not OFF (R496). -/
def Dev.linksTrain (d : Dev) : Dev :=
  if !d.flag COL_EN then d
  else (upTo 4).foldl (fun d k => if d.linkOff k then d.setF CPL_STATE 0 k else if d.fld CPL_STATE k = 0 then d.setF CPL_STATE 1 k else d) d

/-- CPL_TRAIN. -/
def Dev.linkTrained (d : Dev) (k far nrow ncol home : Nat) : Dev :=
  if !d.aReleased || d.fld CPL_STATE k != 1 then d
  else
    let d := (d.setF CPL_FAR_ID far k).setF CPL_WRAP (if d.wrapLink d.selfId k then 1 else 0) k
    if far = d.neighbour d.selfId k ∧ nrow = d.nrow ∧ ncol = d.ncol ∧ home = d.fld COL_HOME then d.setF CPL_STATE 2 k
    else (d.setF CPL_STATE 4 k).logF 0x8003 k [dU 1 k, dU 2 far, dN nrow, dN ncol, dU 2 home]

/-- A link that was UP begins to train again; what was sent and not acknowledged leaves again afterwards (R500). -/
def Dev.linkRetrain (d : Dev) (k : Nat) : Dev :=
  let l := d.linkOf k
  let d := ((d.setF CPL_STATE 3 k).inc CPL_RETRAINS 1 k).setLink k { l with again := l.replay, tries := 0, nakCnt := 0, nakDue := false, disc := false }
  d.raiseNotice 2 k

/-- CPL_LINK_DOWN: silence, or the NAK limit. -/
def Dev.linkDown (d : Dev) (k : Nat) (silence : Bool) : Dev :=
  if !d.linkUp k || (!silence && decide ((d.linkOf k).nakCnt < 8)) then d
  else ((d.logEv 0x8001 .D k [dU 1 k, dC (if silence then 1 else 2)]).repAbort 7 0x8001 k).linkRetrain k

/-- CPL_RETRAIN_DONE: up again, or after three failed attempts FAILED, its replay buffer discarded. -/
def Dev.linkRetrained (d : Dev) (k : Nat) (ok : Bool) : Dev :=
  if !d.live || d.fld CPL_STATE k != 3 then d
  else if ok then (d.setF CPL_STATE 2 k).raiseNotice 3 k
  else
    let l := d.linkOf k
    if l.tries < 2 then d.setLink k { l with tries := l.tries + 1 }
    else ((d.setF CPL_STATE 4 k).setLink k { l with replay := [], again := [], txq := [], tries := 0 }).logF 0x8002 k [dU 1 k, dN l.replay.length]

end Sys2Proof.Machine
end

