-- ==== Sys2Proof/Machine/GrpOps.lean ====
section
/-! DEFINITION. Thread groups: registers, windows, masks, parks and replays (chapter 13). -/

namespace Sys2Proof.Machine
open Sys2Proof.Machine.Reg

/-! ## Registers (R366) -/

/-- A group of a logical tile. -/
def Dev.grp (d : Dev) (t g : Nat) : Group := (d.tileOf t).grp g
/-- Change a group. -/
def Dev.setGrp (d : Dev) (t g : Nat) (y : Group) : Dev := d.setTile t ((d.tileOf t).setGrp g y)

/-- The window of the current call, 8 for the trap window (R376, R377; DEDUCED, log entry 65). -/
def Group.window (y : Group) : Nat := if y.inTrap && y.live == y.trapLive then 8 else y.frame

/-- Key of a window register. -/
def winKey (w r lane : Nat) : Nat := (w * 16 + r) * 32 + lane

/-- A register as lane `lane` of group `g` of tile `t` reads it. -/
def Group.reg (y : Group) (t g ts lane r : Nat) : Nat :=
  if r < 16 then Sparse.get 0 y.win (winKey y.window r lane)
  else if r < 24 then Sparse.get 0 y.glob ((r - 16) * 32 + lane)
  else match r with
    | 25 => lane
    | 26 => g
    | 27 => t
    | 28 => ts % 2 ^ 32
    | 29 => ts / 2 ^ 32 % 2 ^ 32
    | 30 => y.ngrp
    | 31 => y.trapArg
    | _ => 0

/-- Write a register of a lane; ZERO discards. -/
def Group.put (y : Group) (lane r v : Nat) : Group :=
  if r < 16 then { y with win := Sparse.set 0 y.win (winKey y.window r lane) (v % 2 ^ 32) }
  else if r < 24 then { y with glob := Sparse.set 0 y.glob ((r - 16) * 32 + lane) (v % 2 ^ 32) }
  else y

/-- The mask of a predicate; p0 reads 1. -/
def Group.predMask (y : Group) (p : Nat) : Nat := if p = 0 then 2 ^ 32 - 1 else Sparse.get 0 y.pred p
/-- Write a predicate in one lane; p0 discards. -/
def Group.putPred (y : Group) (lane p : Nat) (b : Bool) : Group :=
  if p = 0 then y else { y with pred := Sparse.set 0 y.pred p (setBits (Sparse.get 0 y.pred p) lane 1 (if b then 1 else 0)) }

/-- Lanes of a mask, ascending. -/
def lanesOf (m : Nat) : List Nat := maskBits 32 m

/-! ## Parks (R379) -/

/-- TIL_GRP_FAULT_g. -/
def Group.fault (y : Group) : Nat := y.fAddr % 2 ^ 48 + y.fStatus % 16 * 2 ^ 48 + y.fOpc % 128 * 2 ^ 56

/-- A group parks for a cause, where its PC stands. -/
def Dev.park (d : Dev) (t g cause : Nat) (wd : Nat := 0) (fault : Option (Nat × Nat × Nat) := none) : Dev :=
  let y := d.grp t g
  let y := match fault with
    | some (a, st, opc) => { y with fAddr := a, fStatus := st, fOpc := opc }
    | none => y
  let y := { y with st := 3, cause := cause, wdcause := wd, wait := .none,
                    repark := if y.cause = cause then satAdd 8 y.repark 1 else 0 }
  let det := [dU 1 t, dU 1 g, dC cause, dN y.pc, dB 8 y.fault]
  let d := d.setGrp t g y
  if cause = 16 then d.logEv 0x1007 .I (d.ptile t) det else d.logF 0x1007 (d.ptile t) det

/-! ## The end of a group (R375, R380, R404) -/

/-- Groups of the same VXRUN that have not ended. -/
def Tile.runGroups (x : Tile) (r : Nat × Nat) : List Nat := (upTo 16).filter fun g => (x.grp g).run == some r && (x.grp g).st != 0

/-- GBAR: once every group of the VXRUN that still runs has reached one, all go on (R372). -/
def Tile.gbarCheck (x : Tile) (r : Nat × Nat) : Tile :=
  let gs := x.runGroups r
  if gs.all fun g => (x.grp g).st == 2 && (x.grp g).wait == .gbar then
    gs.foldl (fun x g => let y := x.grp g; x.setGrp g { y with st := 1, wait := .none, pc := y.pc + 8 }) x
  else x

/-- A group ends: it is IDLE, and its VXRUN's part on the tile with its last group. -/
def Dev.groupEnd (d : Dev) (t g : Nat) (aborted : Bool) : Dev :=
  let y := d.grp t g
  let d := d.setGrp t g { y with st := 0, active := 0, alive := 0, stack := [], inTrap := false, frame := 0, live := 1, spill := 0, run := none,
                                 wait := .none, cause := 0, wdcause := 0, repark := 0, badStore := none }
  match y.run with
  | none => d
  | some r =>
    let d := if aborted then d.updCmd r.1 r.2 fun c => c.fail 8 false else d
    let d := d.setTile t ((d.tileOf t).gbarCheck r)
    if ((d.tileOf t).runGroups r).isEmpty then d.partDone r.1 r.2 t else d

/-! ## Spills, fills and replays (R376, R377, R380) -/

/-- The bytes of a window: 32 threads × 16 registers, thread 0 first. -/
def Group.winBytes (y : Group) (w : Nat) : List Byte :=
  (upTo 512).flatMap fun i => leBytes 4 (Sparse.get 0 y.win (winKey w (i % 16) (i / 16)))

/-- Load a window from its bytes. -/
def Group.loadWin (y : Group) (w : Nat) (b : List Byte) : Group :=
  { y with win := (upTo 512).foldl (fun m i => Sparse.set 0 m (winKey w (i % 16) (i / 16)) (leNat ((b.drop (4 * i)).take 4))) y.win }

/-- A spill of the oldest window would pass LIMIT. -/
def Group.noRoom (y : Group) : Bool := decide (y.limit < y.base + (y.spill + 1) * 2048)

/-- The window that FRAME + 1 names goes to the spill area. -/
def Dev.spill (d : Dev) (t g : Nat) : Dev :=
  let y := d.grp t g
  (d.sramWrite t (y.base + y.spill * 2048) (allOn (y.winBytes ((y.frame + 1) % 8)))).setGrp t g { y with spill := y.spill + 1 }

/-- The youngest spilled window comes back where FRAME − 1 names. Poisoned words are reported by the read and come back as they read (log
entry 177). -/
def Dev.fillWin (d : Dev) (t g : Nat) : Dev :=
  let y := d.grp t g
  let (b, _, d) := d.sramRead t (y.base + (y.spill - 1) * 2048) 2048 1
  d.setGrp t g ({ y with spill := y.spill - 1 }.loadWin ((y.frame + 7) % 8) b)

/-- REPLAY of a parked group: a WIN_DOUBLE first makes the pending spill or fill, or parks again (R380). -/
def Dev.replayGroup (d : Dev) (t g : Nat) : Dev :=
  let y := d.grp t g
  if y.st ≠ 3 then d
  else if y.cause ≠ 1 then d.setGrp t g { y with st := 1 }
  else if y.live = 8 then
    if y.noRoom then d.park t g 1 0
    else
      let d := d.spill t g
      d.setGrp t g { d.grp t g with st := 1, live := 7 }
  else
    let d := d.fillWin t g
    d.setGrp t g { d.grp t g with st := 1, live := 2 }

/-! ## The program counter and the reconvergence stack (R374, R375) -/

/-- The group goes on at `pc`; at the reconvergence PC the threads that wait take over. -/
def Group.goTo (y : Group) (pc : Nat) : Group :=
  let y := { y with pc := pc % 2 ^ 32, cause := 0, wdcause := 0 }
  match y.stack with
  | e :: r =>
    if e.phase = 1 ∧ y.pc = e.pc then
      { y with active := Nat.land e.waiting y.alive, pc := e.target, stack := { e with phase := 2 } :: r }
    else y
  | [] => y

/-- After an EXIT left no thread running: the other side of the innermost divergence goes on, or its JOIN. `fuel` bounds the stack. -/
def Group.afterExit (y : Group) : Nat → Group
  | 0 => y
  | n + 1 =>
    match y.stack with
    | [] => y
    | e :: r =>
      if e.phase = 1 then { y with active := Nat.land e.waiting y.alive, pc := e.target, stack := { e with phase := 2 } :: r }
      else if Nat.land e.mask y.alive ≠ 0 then { y with active := 0, pc := e.pc }
      else { y with stack := r }.afterExit n

/-- The group's next instruction. -/
def Dev.vxNext (d : Dev) (t g : Nat) : Dev := let y := d.grp t g; d.setGrp t g (y.goTo (y.pc + 8))

end Sys2Proof.Machine
end

