-- ==== Sys2Proof/Machine/Request.lean ====
section
/-! DEFINITION. Requests to device addresses as a whole: what RD and WR do wherever they lead (chapters 01, 05, 08, 09, 17, 18), and
what region logic does with its RAM blocks and its ring gate (chapter 05). -/

namespace Sys2Proof.Machine
open Sys2Proof.Machine.Reg

/-! ## RD and WR -/

/-- The lines of a host access that the slice must still ask the host for. -/
def Dev.hostMissing (d : Dev) (r : SliceReq) : Option Nat :=
  match r.op with
  | .rd a n _ _ => (linesOf a n).find? fun k => (d.celLine k).isNone || (d.transOf k).isSome
  | .wr a w _ _ _ => (linesOf a w.length).find? fun k => !(d.celLine k).any (·.host == 2) || (d.transOf k).isSome
  | _ => none

/-- The lines and sectors a plain access touches. -/
def SliceReq.touched (r : SliceReq) : List Nat :=
  match r.op with
  | .rd a n _ _ => linesOf a n
  | .wr a w _ _ _ => linesOf a w.length
  | _ => []

/-- A cached host access: served when every line of it is there and sound, else its first missing line runs a transaction (R291, R295). -/
def Dev.hostServe (d : Dev) (r : SliceReq) : Dev :=
  let d := r.touched.foldl (fun d k => d.lineCheck k 15) d
  match d.hostMissing r with
  | none => d.servePlain r
  | some k => d.hostLineReq k r

/-! ## A slice's intake (R4, R284, R288) -/

/-- Memory transactions in flight in the device (R4; log entry 169). -/
def Dev.memFlight (d : Dev) : Nat := d.cel.trans.countP (fun e => e.2.isSome) + d.cel.queue.length

/-- The line a request would wait for. -/
def Dev.waitsFor (d : Dev) (k : Nat) (r : SliceReq) : Option Nat :=
  match r.op with
  | .fence => none
  | .rd a n _ _ => d.busyLine a n
  | .wr a w _ _ _ => d.busyLine a w.length
  | _ => if d.lineBusy k then some k else none

/-- A request its slice cannot accept now: its line queue is full and the request would join it (R288), or 8,192 transactions are in flight
(R4). -/
def Dev.sliceStalls (d : Dev) (k : Nat) (r : SliceReq) : Bool :=
  match d.waitsFor k r with
  | some j => decide (64 ≤ d.cel.queue.countP fun e => homeOf e.1 == homeOf j) || decide (8192 ≤ d.memFlight)
  | none => r.op != .fence && decide (8192 ≤ d.memFlight)

/-- The class of a request at a slice (R447). -/
def SliceReq.cls (r : SliceReq) : Nat :=
  clsOf r.rid (match r.op with
    | .wr .. => true
    | .wb _ => true
    | .evc _ => true
    | .flush => true
    | .flushInv => true
    | .discard => true
    | _ => false)

/-- CEL_ARB_CFG as one value. -/
def Dev.celArb (d : Dev) (s : Nat) : Nat :=
  d.arbValue [CEL_ARB_MODE, CEL_FLOOR_RD, CEL_FLOOR_WR, CEL_FLOOR_RM, CEL_SPLIT_RD, CEL_SPLIT_WR, CEL_SPLIT_RM, CEL_STRICT] s

/-- The window of a slice's port as it decides: a new one takes the settings written by then (R448). -/
def Dev.celWin (d : Dev) (s : Nat) : ArbWin :=
  let w := Sparse.get {} d.cel.arbs s
  if w.n = 0 then { w with arb := d.celArb s } else w

/-- A grant of the port, to class `c` or, where the opportunity stays idle, to none. -/
def Dev.celGrant (d : Dev) (s : Nat) (c : Option Nat) : Dev :=
  { d with cel := { d.cel with arbs := Sparse.set {} d.cel.arbs s ((d.celWin s).granted c) } }

/-- Requests of slice `s` that its port can move, in order of arrival. -/
def Dev.celReady (d : Dev) (s : Nat) : List (Nat × Nat × SliceReq) := d.cel.intake.filter fun e => e.1 == s && !d.sliceStalls e.2.1 e.2.2

/-- The entry the port moves: of the class set the mode chooses, in DEADLINE mode the smallest slack, else the oldest (R447). -/
def Dev.celPick (d : Dev) (s : Nat) (l : List (Nat × Nat × SliceReq)) : Option (Nat × Nat × SliceReq) :=
  let w := d.celWin s
  match w.classes fun k => l.any fun e => e.2.2.cls == k with
  | none => none
  | some ks =>
    let c := l.filter fun e => ks.contains e.2.2.cls
    if bits w.arb 0 2 = 1 then c.head? else c.find? fun e => c.all fun o => decide (d.slack e.2.2.dline ≤ d.slack o.2.2.dline)

/-- A slice accepts a request for line `k`; a FENCE names its slice by any line homed there. -/
def Dev.sliceServe (d : Dev) (s k : Nat) (r : SliceReq) : Dev :=
  let r := { r with seq := d.cel.seqNext }
  let d := d.celGrant s (some r.cls)
  let d := { d with cel := { d.cel with seqNext := d.cel.seqNext + 1 } }
  let plain (a n : Nat) : Dev :=
    match d.busyLine a n with
    | some j => d.enqueue j r
    | none => if d.hostCached a then d.hostServe r else d.servePlain r
  match r.op with
  | .fence =>
    let f : Fence := { slice := s, rid := r.rid, tag := r.tag, seq := r.seq }
    { d with cel := { d.cel with fences := d.cel.fences ++ [f] } }.fenceCheck
  | .rd a n _ _ => plain a n
  | .wr a w _ _ _ => plain a w.length
  | _ => d.lineReq k r

/-- A request reaches slice `s`: accepted, or it stays in the slice's REQ ejection buffer behind those that stand there (R288). -/
def Dev.sliceArrive (d : Dev) (s k : Nat) (r : SliceReq) : Dev :=
  if d.cel.intake.any (fun e => e.1 == s) || d.sliceStalls k r then { d with cel := { d.cel with intake := d.cel.intake ++ [(s, k, r)] } }
  else d.sliceServe s k r

/-- Requests that stood in ejection buffers are accepted while their slices can, as each port's arbitration chooses (R447). `fuel` bounds
the opportunities. -/
def Dev.intakeGo (d : Dev) : Nat → Dev
  | 0 => d
  | fuel + 1 =>
    match (upTo 16).find? fun s => !(d.celReady s).isEmpty with
    | none => d
    | some s =>
      match d.celPick s (d.celReady s) with
      | none => Dev.intakeGo (d.celGrant s none) fuel
      | some e =>
        let d := { d with cel := { d.cel with intake := d.cel.intake.erase e } }
        Dev.intakeGo (d.sliceServe e.1 e.2.1 e.2.2) fuel

/-- A read of `n` bytes at `a` by requester `q`: answered, on its way, or held for a tile that hands over (R28, R40, R43, R234, R285,
R486, R509). -/
def Dev.request (d : Dev) (q : Rq) (a n : Nat) (wr : Option WrBytes) (noalloc first : Bool) (count : Option (Fin 64))
    (due : Option Nat := none) (pois : Bool := false) : Dev :=
  let dline := due.getD (d.dlineOf q.stop.val q.unit.val false)
  let rid := reqId q
  let tag := q.tag.toNat
  let d := if pois && wr.isSome && !inRemoteWindow a then { d with cel := { d.cel with badWr := d.cel.badWr ++ [(rid, tag, d.localAddr a, n)] } } else d
  let st := d.accStatus a n
  let b := d.localAddr a
  if st ≠ 0 then (d.logStatus st a n q.stop.val).emit (.resp rid tag st [])
  else if inRemoteWindow a && n % 256 != 0 then d.emit (.resp rid tag 9 [])
  else if d.addrHeld b then
    { d with safe := { d.safe with
        heldReq := d.safe.heldReq ++ [{ q := q, addr := a, len := n, wr := wr, noalloc := noalloc, first := first, count := count,
                                         dline := dline }] } }
  else match placeOf b with
    | .remote dev off =>
      match wr with
        | some w => d.startPush rid tag dev off ((upTo w.length).map fun i => (w.getD i none).getD (Config.unstrobed i))
          (if pois then (xferPieces off n).map (·.1 - off) else []) (count.map (·.val)) none
        | none => d.startPull rid tag dev off n 0 d.selfId true none
    | .host die off =>
      let op : SliceOp := match wr with
        | some w => .wr b w noalloc first none
        | none => .rd b n noalloc first
      if d.hostCached b then d.sliceArrive (homeSlice b) (b / 256) { op := op, rid := rid, tag := tag, dline := dline } else d.outReq die q off n wr
    | .ram blk off => d.qcArrive blk { rid := rid, tag := tag, off := off, len := n, wr := wr, since := d.clk.tick }
    | .tile t off =>
      match wr with
      | some w =>
        let d := d.sramWrite t off w
        (match count with | some k => d.arriveAt t k.val | none => d).emit (.resp rid tag 0 [])
      | none =>
        let (st, bs, d) := d.inRead b n noalloc first rid
        d.emit (.resp rid tag st bs)
    | _ =>
      let op : SliceOp := match wr with
        | some w => .wr b w noalloc first none
        | none => .rd b n noalloc first
      d.sliceArrive (homeSlice b) (b / 256) { op := op, rid := rid, tag := tag, dline := dline }

/-- The snoops, requests and lock requests that a handover held go on (R28, R256, R290). -/
def Dev.heldGo (d : Dev) : Dev :=
  let x := d.safe
  let d := { d with safe := { d.safe with heldReq := [], heldSnp := [], heldLock := [] } }
  let d := x.heldSnp.foldl (fun d h => d.snoopTile h.1 h.2.1 h.2.2) d
  let d := x.heldReq.foldl (fun d h => d.request h.q h.addr h.len h.wr h.noalloc h.first h.count (some h.dline)) d
  x.heldLock.foldl (fun d h => d.lockAsk (h.1 / 16) (h.1 % 16) h.2.1 h.2.2.1 h.2.2.2) d

/-- What waited goes on where a command, which found the device as `old`, has made way for it: transfers once their link stop has places
again (R510), what a handover held once it has ended (R28), requests at slices once a line or a queue has become free (R288). -/
def Dev.follow (d old : Dev) : Dev :=
  let d := if d.cpl.xfers.map (·.stop) = old.cpl.xfers.map (·.stop) then d else d.xferGo d.cpl.waiting.length
  let d := if old.safe.handover.isSome && d.safe.handover.isNone then d.heldGo else d
  if d.cel.trans = old.cel.trans ∧ d.cel.queue = old.cel.queue then d else d.intakeGo 65536

/-- A posted write by a unit of the device that takes no data back: into a host window it leaves as a memory write; its status. -/
def Dev.anyWrite (d : Dev) (stop unit a : Nat) (w : WrBytes) (noalloc first : Bool := false) : Nat × Dev :=
  let st := d.accStatus a w.length
  match placeOf a with
  | .host die off =>
    if st ≠ 0 then (st, d.logStatus st a w.length stop)
    else
      let args := [(d.fld OUT_BASE die + off) % 2 ^ 64, w.length, d.fld OUT_FN die, d.fld OUT_PASID_EN die, d.fld OUT_PASID die]
      let bs := w.map (·.getD 0)
      (0, (d.captureNow die 0 0 1 0 (Config.tlpBytes (1 :: args) bs)).toDut die "MWr" args bs)
  | _ => if d.isRemote a then (9, d) else d.accWrite stop a w noalloc first unit

/-! ## Region logic and its RAM blocks (R165 to R178) -/

/-- Region logic can use port A of block `b`: its region runs, and the device has not taken the port (R177). DEVSIDE = 2 takes it in every
queue mode, the circular log's too (log entry 167). -/
def Dev.portA (d : Dev) (b : Nat) : Bool := d.regionRuns (blockRegion b) && !(d.flag QC_EXPORT b && d.qcSide b == 2 && d.qcMode b != 0)
/-- Port B: the region that owns it runs, and the block is not exported, unless the device has port A. -/
def Dev.portB (d : Dev) (b : Nat) : Bool :=
  d.regionRuns (d.portBRegion b) && (!d.flag QC_EXPORT b || (d.qcSide b == 2 && d.qcMode b != 0))

/-- FABRIC_RAM_WRITE (R166, R167). -/
def Dev.ramWrite (d : Dev) (b : Nat) (x y : Option (Nat × Nat)) : Dev :=
  if d.qcMode b ≠ 0 then d else
  let ok (e : Nat × Nat) : Bool := decide (e.1 < d.qcEntries b)
  let x := if d.portA b then x.filter ok else none
  let y := if d.portB b then y.filter ok else none
  match x, y with
  | some u, some v =>
    if u.1 = v.1 then ((d.putEntry b u.1 u.2).raise QC_WCOLL 0 b).logEv 0x9004 .D b [dU 2 b, dO u.1]
    else (d.putEntry b u.1 u.2).putEntry b v.1 v.2
  | some u, none => d.putEntry b u.1 u.2
  | none, some v => d.putEntry b v.1 v.2
  | none, none => d

/-- An error befalls internal word `w` of block `b`. -/
def Dev.ramUpset (d : Dev) (b w : Nat) (u : Upset) : Dev :=
  match u with
  | .clean => d
  | .single => d.softAt (blockAddr b + 8 * w)
  | .double => d.markBad (blockAddr b + 8 * w) 8 true

/-- FABRIC_RAM_READ (R166 to R168): the entry, with ERR_U when its word is uncorrectable. -/
def Dev.ramRead (d : Dev) (b : Nat) (onB : Bool) (i : Nat) (u : Upset) : Dev :=
  let may := if onB then d.portB b && (d.qcMode b == 0 || d.qcMode b == 2) else d.portA b && d.qcMode b == 0
  if !may || decide (d.qcEntries b ≤ i) then d else
  let d := d.ramUpset b (i * d.qcBytes b / 8) u
  let (v, bad, d) := d.getEntry b i
  d.emit (.link "QC.read" b [i, if bad then 1 else 0] (leBytes (d.qcBytes b) v))

/-- QC_PATROL (R169): what has befallen word `w` since the last patrol cycle, then the check of the word whose turn it is. One that a user
access beat is no such command: the same word comes next. -/
def Dev.ramPatrol (d : Dev) (b w : Nat) (u : Upset) : Dev :=
  if !d.live then d else
  let d := d.ramUpset b w u
  let q := d.qcOf b
  let d := d.setQc b { q with patrol := (q.patrol + 1) % 2048 }
  (d.ramCheck b (blockAddr b + 8 * q.patrol) 8).2

/-- FIFO_PUSH (R171). -/
def Dev.fifoPush (d : Dev) (b v : Nat) : Dev :=
  if d.qcMode b ≠ 1 ∨ d.portA b = false then d
  else if d.qcFull b then (d.raise QC_OVERFLOW 0 b).logEv 0x9001 .D b [dU 2 b, dN (d.qcOf b).count]
  else (d.qcPush b v).qcWake b

/-- FIFO_POP (R171): zeros and VALID low when EMPTY. -/
def Dev.fifoPop (d : Dev) (b : Nat) : Dev :=
  if d.qcMode b ≠ 1 ∨ d.portB b = false then d
  else if (d.qcOf b).count = 0 then
    ((d.raise QC_UNDERFLOW 0 b).logEv 0x9002 .D b [dU 2 b]).emit (.link "QC.pop" b [0, 0] (leBytes (d.qcBytes b) 0))
  else
    let (v, bad, d) := d.qcPop b
    (d.emit (.link "QC.pop" b [1, if bad then 1 else 0] (leBytes (d.qcBytes b) v))).qcWake b

/-- CREDIT_PUSH (R174). -/
def Dev.creditPush (d : Dev) (b v : Nat) : Dev :=
  if d.qcMode b ≠ 3 ∨ d.portA b = false then d
  else if d.qcAvail b = 0 then (d.raise QC_CREDIT_VIOL 0 b).logEv 0x9003 .D b [dU 2 b, dT (d.qcCred b)]
  else (d.qcPush b v).qcWake b

/-- CREDIT_POP (R174). An empty queue gives zeros with VALID low as a FIFO's does, and without a flag or an entry (log entry 165). -/
def Dev.creditPop (d : Dev) (b : Nat) : Dev :=
  if d.qcMode b ≠ 3 ∨ d.portB b = false then d
  else if (d.qcOf b).count = 0 then d.emit (.link "QC.pop" b [0, 0] (leBytes (d.qcBytes b) 0))
  else
    let (v, bad, d) := d.qcPop b
    (d.emit (.link "QC.pop" b [1, if bad then 1 else 0] (leBytes (d.qcBytes b) v))).qcWake b

/-- LOG_PUSH (R173). -/
def Dev.logPush (d : Dev) (b v : Nat) : Dev :=
  let q := d.qcOf b
  if d.qcMode b ≠ 2 ∨ d.portA b = false ∨ q.stopped = true then d
  else
    let depth := d.qcDepth b
    let d := d.putEntry b q.head v
    let wrap := decide (depth ≤ q.head + 1)
    let left := if q.triggered then q.postLeft - 1 else q.postLeft
    d.setQc b { q with head := if wrap then 0 else q.head + 1, wraps := if wrap then satAdd 16 q.wraps 1 else q.wraps,
                       len := min depth (q.len + 1), postLeft := left, stopped := q.triggered && left == 0 }

/-- LOG_TRIGGER (R173): a rising edge. One that comes while TRIGGERED is set records nothing new (log entry 166). -/
def Dev.logTrigger (d : Dev) (b : Nat) (level : Bool) : Dev :=
  let q := d.qcOf b
  if d.qcMode b ≠ 2 ∨ d.portA b = false then d
  else if level && !q.trigLevel && !q.triggered then
    d.setQc b { q with trigLevel := true, triggered := true, trigAt := q.head, postLeft := d.fld QC_POST b, stopped := d.fld QC_POST b == 0 }
  else d.setQc b { q with trigLevel := level }

/-- QC_LOG.REARM (R188). -/
def Dev.logRearm (d : Dev) (b : Nat) : Dev := d.setQc b { d.qcOf b with triggered := false, stopped := false }

/-- QC_FLAG_SYNC (R172). -/
def Dev.flagSync (d : Dev) (b : Nat) (toPop : Bool) : Dev :=
  let q := d.qcOf b
  (if toPop then d.setQc b { q with hidden := q.hidden - 1 } else d.setQc b { q with freed := q.freed - 1 }).qcWake b

/-- QWAIT of a region in ticks (R189). -/
def Dev.qwait (d : Dev) (r : Nat) : Nat := 800 * max 1 (d.fld RG_QWAIT r)
/-- IWAIT of a region in ticks. -/
def Dev.iwait (d : Dev) (r : Nat) : Nat :=
  let v := d.fld RG_IWAIT r
  800 * (if v = 0 ∨ 1000 < v then 1000 else v)

/-- QUEUE_TIMEOUT (R178): the oldest waiting access of the block gives up. -/
def Dev.qcTimeout (d : Dev) (b : Nat) : Dev :=
  let q := d.qcOf b
  match q.waiting with
  | [] => d
  | x :: r =>
    let d := d.tickTo (x.since + d.qwait (blockRegion b))
    ((d.setQc b { q with waiting := r }).emit (.resp x.rid x.tag 8 [])).qcWake b

/-! ## Ring gates (R179 to R183) -/

/-- Requester ID of region `r` at its ring-gate stop. -/
def gateRid (r : Nat) : Nat := ridOf (gateStop (r / 4)) (r % 4)

/-- The requester of region `r` with a tag. -/
def gateRq (r tag : Nat) : Rq :=
  { stop := ⟨gateStop (r / 4) % 118, Nat.mod_lt _ (by decide)⟩, unit := ⟨r % 4 % 16, Nat.mod_lt _ (by decide)⟩, tag := BitVec.ofNat 11 tag }

/-- The inbound queue's head, stamped when it is first offered. -/
def Gate.offer (g : Gate) (now : Nat) : Gate :=
  match g.inq with
  | x :: r => if x.since.isSome then g else { g with inq := { x with since := some now } :: r }
  | [] => g

/-- RG_IREQ (R183): the head is accepted; a read then waits for its answer, a write is complete. -/
def Dev.ireq (d : Dev) (r : Nat) (accept : Bool) : Dev :=
  let g := d.gateOf r
  if !d.regionRuns r then d else
  match g.inq with
  | [] => d
  | x :: rest =>
    if !accept then d.setGate r (g.offer d.clk.tick)
    else
      let g' : Gate := { g with inq := rest, reads := if x.read then g.reads ++ [{ x with since := some d.clk.tick }] else g.reads }
      let d := (d.setGate r (g'.offer d.clk.tick)).emit (.link "IREQ" r [x.tag, x.addr, x.len, if x.read then 1 else 0] x.data)
      if x.read then d else d.emit (.resp x.src x.tag 0 [])

/-- RG_IWAIT (R183): IWAIT has passed for an offered request not accepted, or for a read not answered: QUEUE_TIMEOUT. -/
def Dev.iwaitEnd (d : Dev) (r tag : Nat) : Dev :=
  let g := d.gateOf r
  let late (x : IReq) : Bool := x.tag == tag && x.since.isSome
  let give (d : Dev) (x : IReq) : Dev :=
    ((d.tickTo (x.since.getD 0 + d.iwait r)).logEv 0x9007 .D r [dU 1 r, dU 1 (x.src / 16), dN x.tag]).emit (.resp x.src x.tag 8 [])
  match g.inq with
  | x :: rest =>
    if late x then give (d.setGate r ({ g with inq := rest, late := g.late ++ [tag] }.offer d.clk.tick)) x
    else
      match g.reads.find? late with
      | some y => give (d.setGate r { g with reads := g.reads.erase y, late := g.late ++ [tag] }) y
      | none => d
  | [] =>
    match g.reads.find? late with
    | some y => give (d.setGate r { g with reads := g.reads.erase y, late := g.late ++ [tag] }) y
    | none => d

/-- RG_IRSP (R182, R183): the answer of region logic, or one that comes too late. -/
def Dev.irsp (d : Dev) (r tag st : Nat) (data : List Byte) : Dev :=
  let g := d.gateOf r
  if !d.regionRuns r then d else
  match g.reads.find? fun x => x.tag == tag with
  | some x => (d.setGate r { g with reads := g.reads.erase x }).emit (.resp x.src tag st data)
  | none => if g.late.contains tag then (d.setGate r { g with late := g.late.erase tag }).inc RG_LATE_DROP 1 r else d

/-- Outstanding requests of a kind (R181, R190). -/
def Gate.outCount (g : Gate) (rd : Bool) : Nat := g.out.countP fun e => e.read == rd && !e.dead

/-- A tag on the Annulus that no outstanding request of the gate has. -/
def Gate.freeSlot (g : Gate) : Nat := ((upTo 2048).find? fun n => !g.out.any fun e => e.slot == n).getD 0

/-- Answers that can leave, in issue order for each tag (R181): what leaves, and what stays outstanding. `held` are the tags with an older
request that waits. -/
def gateReady : List OutReq → List Nat → List OutReq × List OutReq
  | [], _ => ([], [])
  | e :: r, held =>
    if e.dead then let (a, b) := gateReady r held; (a, e :: b)
    else if e.ans.isSome && !held.contains e.tag then let (a, b) := gateReady r held; (e :: a, b)
    else let (a, b) := gateReady r (e.tag :: held); (a, e :: b)

/-- An answer reaches the gate: it leaves on ORSP once every older request of its tag has its own (R181, R182); one for logic that has been
frozen since is discarded, and counted by the exchange that froze it (R212). -/
def Dev.gateAnswer (d : Dev) (r slot st : Nat) (bs : List Byte) : Dev :=
  let g := d.gateOf r
  match g.out.find? fun e => e.slot == slot with
  | none => d
  | some e =>
    if e.dead then
      let d := d.setGate r { g with out := g.out.erase e }
      if d.regionBusy r && d.fld EXCH_REGION == r && decide (5 ≤ d.fld EXCH_STATE) then
        { d with fab := { d.fab with exch := { d.fab.exch with discarded := d.fab.exch.discarded + 1 } } }
      else d
    else
      let (go, stay) := gateReady (g.out.map fun x => if x = e then { x with ans := some (st, bs) } else x) []
      go.foldl (fun d x => d.emit (.link "ORSP" r [x.tag, (x.ans.getD (0, [])).1] (x.ans.getD (0, [])).2)) (d.setGate r { g with out := stay })

/-- RG_STAT of a region (R190). -/
def Dev.rgStat (d : Dev) (r : Nat) : Nat :=
  let g := d.gateOf r
  g.outCount true + g.outCount false * 2 ^ 8 + min g.inq.length 64 * 2 ^ 16 + d.fld RG_LATE_DROP r * 2 ^ 32

end Sys2Proof.Machine
end

