-- ==== Sys2Proof/Machine/CopyOps.lean ====
section
/-! DEFINITION. The copy engine of a tile: descriptors, starting and finishing copies, conversions on the way (R383 to R386, R405). -/

namespace Sys2Proof.Machine
open Sys2Proof.Machine.Reg

/-- The stop of a logical tile. -/
def Dev.stopOf (d : Dev) (t : Nat) : Nat := tileStop (d.ptile t)

/-- The requester a unit of a tile is: 0 vector engine, 1 Lamplighter, 2 copy engine (R235; DEDUCED, log entry 66). -/
def Dev.tileRq (d : Dev) (t unit tag : Nat) : Rq :=
  { stop := Fin.ofNat 118 (d.stopOf t), unit := Fin.ofNat 16 unit, tag := BitVec.ofNat 11 tag }

/-! ## Descriptors (R384) -/

/-- A descriptor's 32 bytes as a copy. -/
def copyOf (v desc : Nat) (cmd : Option (Nat × Nat)) (cur : List Nat) : CopyJob :=
  let rows := bits v 160 16
  { src := bits v 0 48, dst := bits v 64 48, len := bits v 128 32, rows := if rows = 0 then 65536 else rows, elem := bits v 176 8,
    sstride := bits v 192 32, dstride := bits v 224 32, ctr := bits v 120 6, count := bitAt v 126, transpose := bitAt v 127,
    desc := desc, cmd := cmd, cur := cur }

/-- A destination row's length: as the source, by elements when transposing, as the conversion makes it. -/
def CopyJob.outLen (j : CopyJob) : Nat :=
  if j.transpose then 64 * j.elem
  else match j.cvt with
    | some x => fmtBytes (cvtDst x) (j.len * 8 / scalarBits (cvtSrc x))
    | none => j.len

/-- Destination rows. -/
def CopyJob.outRows (j : CopyJob) : Nat := if j.transpose then j.rows / 64 * (64 / max j.elem 1) else j.rows

/-- Does `[a, a + n)` cross its window (R39)? An address in no range crosses none: it is UNMAPPED (R40). -/
def crosses (a n : Nat) : Bool := placeOf a != .none && decide (windowEnd a < a + n)

/-- The first row that crosses its window. Rows rise by `stride`. -/
def rowCrosses (a stride n rows : Nat) : Option Nat := ((upTo rows).map fun k => a + k * stride).find? fun b => crosses b n

/-- A row of a copy that crosses its window: its address and length. -/
def CopyJob.crossing (j : CopyJob) : Option (Nat × Nat) :=
  ((rowCrosses j.src j.sstride j.len j.rows).map (·, j.len)).or ((rowCrosses j.dst j.dstride j.outLen j.outRows).map (·, j.outLen))

/-- A window of another device. -/
def remotePlace (a : Nat) : Bool :=
  match placeOf a with
  | .remote _ _ => true
  | _ => false

/-- A descriptor of tile `t` that R384 refuses; `v` its 32 bytes. Bits [55:48] of DST, which no field lists, must be 0 (DEDUCED, log entry
178). -/
def Dev.copyBad (d : Dev) (t v : Nat) (j : CopyJob) : Bool :=
  let own := match placeOf j.src with
    | .tile u off => u == t && off % 4096 == 0 && !d.outsideScratch off (64 * j.rows)
    | _ => false
  bits v 48 16 != 0 || bits v 112 8 != 0 || bits v 184 8 != 0
    || j.len % 64 != 0 || j.len == 0 || decide (2 ^ 24 < j.len) || decide (2 ^ 24 < j.len * j.rows)
    || j.sstride % 64 != 0 || j.dstride % 64 != 0
    || (j.transpose && !(j.elem == 1 || j.elem == 2 || j.elem == 4))
    || (j.transpose && !(own && j.len == 64 && j.rows % 64 == 0))
    || j.crossing.isSome
    || ((remotePlace j.src || remotePlace j.dst) && (j.rows != 1 || j.len % 256 != 0))

/-- The entry of a copy refused for a row that crosses its window (R39, R40). -/
def Dev.copyRefused (d : Dev) (t : Nat) (j : CopyJob) : Dev :=
  match j.crossing with
  | some (a, n) => d.logStatus 4 a n (tileStop (d.ptile t))
  | none => d

/-- Scalars of a CONVERT's source row; a row that is not whole BX8 blocks counts as none that R347 admits. -/
def rowScalars (x len : Nat) : Nat :=
  if cvtSrc x = 8 then len / 33 * 32 + (if len % 33 = 0 then 0 else 1) else len * 8 / scalarBits (cvtSrc x)

/-- Copies on the queue and active (R384: 32 places). -/
def Tile.copyRoom (x : Tile) : Bool := decide (x.copyQ.length < 32)

/-- A copy takes its place on the queue. -/
def Dev.copyPut (d : Dev) (t : Nat) (j : CopyJob) : Dev := d.setTile t { d.tileOf t with copyQ := (d.tileOf t).copyQ ++ [j] }

/-! ## COPY_START (R385, R486, R506) -/

/-- The die of a host window that no slice caches for the copy engine. -/
def hostDie (a : Nat) : Option (Nat × Nat) :=
  match placeOf a with
  | .host n off => some (n, off)
  | _ => none

/-- Groups that wait for a place on the copy queue issue again. -/
def Tile.wakeCopy (x : Tile) : Tile :=
  (upTo 16).foldl (fun x g => let y := x.grp g; if y.st = 2 ∧ y.wait = .copyPlace then x.setGrp g { y with st := 1, wait := .none } else x) x

/-- A remote destination that is a tile SRAM window there: the counter the last packet counts at (R383). -/
def CopyJob.remoteCount (j : CopyJob) : Option Nat :=
  match placeOf j.dst with
  | .remote _ off =>
    match remoteOffset off with
    | some a => (match placeOf a with
      | .tile _ _ => if j.count then some j.ctr else none
      | _ => none)
    | none => none
  | _ => none

/-- COPY_START: the next queued copy becomes active, at most four at once. Legs outside the device are asked for. -/
def Dev.copyStart (d : Dev) (t : Nat) : Dev :=
  let x := d.tileOf t
  match x.copyQ with
  | [] => d
  | j :: r =>
    if 4 ≤ x.copyOn.length then d
    else
      let tag := ((upTo 4).find? fun n => !x.copyOn.any fun k => k.tag == n).getD 0
      let rid := reqId (d.tileRq t 2 tag)
      let srcOut := hostDie j.src
      let remote := remotePlace j.src || remotePlace j.dst
      let j := { j with tag := tag, need := if remote then 1 else if srcOut.isSome then j.rows else 0 }
      let d := d.setTile t { x with copyQ := r, copyOn := x.copyOn ++ [j] }.wakeCopy
      if j.dead then d
      else if remotePlace j.src then d.rpull rid tag j.src j.dst j.len (some t)
      else if remotePlace j.dst then d.rpush rid tag j.src j.dst j.len j.remoteCount (some t)
      else match srcOut with
        | some (n, off) => (upTo j.rows).foldl (fun d k =>
            let a := j.src + k * j.sstride
            let st := d.accStatus a j.len
            if st ≠ 0 then (d.logStatus st a j.len (d.stopOf t)).emit (.resp rid tag st [])
            else d.outReq n (d.tileRq t 2 tag) (off + k * j.sstride) j.len none) d
        | none => d

/-! ## COPY_DONE (R383, R385) -/

/-- The copy a tile runs under a tag changes. -/
def Dev.setCopy (d : Dev) (t : Nat) (j : CopyJob) : Dev :=
  d.setTile t { d.tileOf t with copyOn := (d.tileOf t).copyOn.map fun k => if k.tag = j.tag then j else k }

/-- What one move of a copy comes to: it goes on, it ends with a status, or its packet waits at a ring gate. -/
inductive CopyMove where
  | on (j : CopyJob)
  | ended (j : CopyJob) (st : Nat)
  | waits (j : CopyJob)

/-- A row has been written whole. -/
def CopyJob.nextRow (j : CopyJob) : CopyJob := { j with row := j.row + 1, pos := 0, raw := [], buf := none }

/-- `n` bytes of what stands ready have been written. A plain row goes on with its next packet, any other with what is left. -/
def CopyJob.written (j : CopyJob) (n : Nat) : CopyJob :=
  let rest := (j.buf.getD []).drop n
  let j := { j with pos := j.pos + n, wrote := j.wrote + n, buf := some rest, ask := 0, got := none }
  if rest ≠ [] then j
  else if !j.transpose && j.cvt.isNone && decide (j.pos < j.len) then { j with raw := [], buf := none }
  else j.nextRow

/-- Bytes read have come: a plain packet stands ready at once, a conversion's row once it is whole (R346, R405). -/
def Dev.copyTook (d : Dev) (t : Nat) (j : CopyJob) (bs : List Byte) : CopyJob × Dev :=
  let j := { j with ask := 0, got := none }
  match j.cvt with
  | none => ({ j with buf := some bs }, d)
  | some x =>
    let all := j.raw ++ bs
    if all.length < j.len then ({ j with raw := all }, d)
    else
      let n := rowScalars x j.len
      let (out, d) := d.runCvt t x j.cur ((upTo n).map fun i => scalarAt (cvtSrc x) all i) (fun i => scalarRaw (cvtSrc x) all i) (j.row * n) j.cmd
      ({ j with raw := [], buf := some out }, d)

/-- A corner-turned row of the issuing tile's SRAM (R276, R384). -/
def Dev.copyTurn (d : Dev) (t : Nat) (j : CopyJob) : CopyMove × Dev :=
  let per := 64 / max j.elem 1
  let off := j.src + j.row / per * (64 * j.sstride) - tileAddr t 0
  if off % 4096 ≠ 0 ∨ d.outsideScratch off 4096 = true then (.ended j 1, d.logEv 0x1002 .D (d.ptile t) [dO off, dC j.elem, dU 1 3])
  else
    let (bs, bad, d) := d.sramRead t off 4096 3
    if bad then (.ended j 6, d)
    else (.on { j with buf := some ((upTo 64).flatMap fun i => (bs.drop (i * 64 + j.row % per * j.elem)).take j.elem) }, d)

/-- The next bytes of the source: all of a row that an answer from outside has brought, else a packet of at most 128 (DEDUCED, log entry 67). -/
def Dev.copyRead (d : Dev) (t : Nat) (j : CopyJob) : CopyMove × Dev :=
  let took (d : Dev) (bs : List Byte) : CopyMove × Dev := let (j, d) := d.copyTook t j bs; (.on j, d)
  if j.transpose then d.copyTurn t j
  else match j.got with
    | some (0, bs) => took d bs
    | some (st, _) => (.ended { j with ask := 0, got := none } st, d)
    | none =>
      match j.ext with
      | some (0, all) => took d ((all.drop (j.row * j.len)).take j.len)
      | some (st, _) => (.ended j st, d)
      | none =>
        let at_ := if j.cvt.isSome then j.raw.length else j.pos
        let n := min 128 (j.len - at_)
        let a := j.src + j.row * j.sstride + at_
        match d.qcMustWait a n none (reqId (d.tileRq t 2 j.tag)) j.tag with
        | some (b, x) => (.waits { j with need := 1, ask := 1, pkt := n }, d.qcArrive b x)
        | none =>
          let (st, bs, d) := d.accRead (d.stopOf t) a n false false 2
          if st ≠ 0 then (.ended j st, d) else took d bs

/-- The next packet of what stands ready is written. -/
def Dev.copyWrite (d : Dev) (t : Nat) (j : CopyJob) (bs : List Byte) : CopyMove × Dev :=
  match j.got with
  | some (0, _) => (.on (j.written j.pkt), d)
  | some (st, _) => (.ended { j with ask := 0, got := none } st, d)
  | none =>
    let w := allOn (bs.take 128)
    let a := j.dst + j.row * j.dstride + j.pos
    match d.qcMustWait a w.length (some w) (reqId (d.tileRq t 2 j.tag)) j.tag with
    | some (b, x) => (.waits { j with need := 1, ask := 2, pkt := w.length }, d.qcArrive b x)
    | none =>
      let (st, d) := d.anyWrite (d.stopOf t) 2 a w
      if st ≠ 0 then (.ended j st, d) else (.on (j.written w.length), d)

/-- One move of a copy's data phase (R385). -/
def Dev.copyMove (d : Dev) (t : Nat) (j : CopyJob) : CopyMove × Dev :=
  match j.buf with
  | none => d.copyRead t j
  | some [] => (.on j.nextRow, d)
  | some bs => d.copyWrite t j bs

/-- Moves until the copy ends or waits. `fuel` bounds them. -/
def Dev.copyGo (d : Dev) (t : Nat) : Nat → CopyJob → CopyMove × Dev
  | 0, j => (.ended j 0, d)
  | fuel + 1, j =>
    if j.outRows ≤ j.row then (.ended j 0, d)
    else match d.copyMove t j with
      | (.on j, d) => Dev.copyGo d t fuel j
      | r => r

/-- Moves that a copy can need. -/
def CopyJob.moves (j : CopyJob) : Nat := j.outRows * (j.len / 128 + j.outLen / 128 + j.len / 64 + 4) + 1

/-- Groups that wait on a counter whose FAULT bit has set park (R385). -/
def Dev.parkWaiters (d : Dev) (t k : Nat) : Dev :=
  (upTo 16).foldl (fun d g => let y := d.grp t g; if y.st = 2 ∧ y.wait = .counter k then d.park t g 11 else d) d

/-- The tile that counts the copy, when a tile of this device does (R383). -/
def Dev.countTile (d : Dev) (t : Nat) (j : CopyJob) : Option Nat :=
  match placeOf (d.localAddr j.dst) with
  | .tile u _ => some u
  | _ => if j.remoteCount.isSome then none else some t

/-- The end of a copy: its arrival, its fault bit and entry, its command (R383, R385, R386, R414). -/
def Dev.copyEnd (d : Dev) (t : Nat) (j : CopyJob) (bytes st : Nat) : Dev :=
  let p := d.ptile t
  let d := if j.dead then d.inc CPY_CANCELLED 1 t
    else
      let d := if st = 0 then d else (d.inc CPY_FAIL 1 t).logEv 0x1008 .D p [dO j.desc, dC st, dN bytes, dU 1 j.ctr]
      match d.countTile t j with
      | none => d
      | some u =>
        let d := if st = 0 then d else d.raise AC_FAULT j.ctr u
        let d := if st = 0 then d else d.parkWaiters u j.ctr
        if j.count then d.arriveAt u j.ctr else d
  match j.cmd with
  | none => d
  | some (e, q) => if j.dead then d.partFail e q t 7 false else if st ≠ 0 then d.partFail e q t 7 true else d.partDone e q t

/-- A copy's accesses are held: its own tile, or a tile it reads or writes, hands over (R28). -/
def Dev.copyHeld (d : Dev) (t : Nat) (j : CopyJob) : Bool := d.tileMoves t || d.addrHeld j.src || d.addrHeld j.dst

/-- COPY_DONE: the oldest active copy that waits for nothing, a handover included, moves its data, and ends unless a packet of it waits at a
ring gate: it then goes on once that is answered (R178). -/
def Dev.copyDone (d : Dev) (t : Nat) : Dev :=
  match (d.tileOf t).copyOn.find? fun j => j.need == 0 && !d.copyHeld t j with
  | none => d
  | some j =>
    let gone (d : Dev) : Dev := d.setTile t { d.tileOf t with copyOn := (d.tileOf t).copyOn.filter fun k => k.tag != j.tag }
    if j.dead then (gone d).copyEnd t j 0 3
    else if remotePlace j.src || remotePlace j.dst then
      let st := match j.ext with
        | some (s, _) => s
        | none => 0
      (gone d).copyEnd t j (if st = 0 then j.len else 0) st
    else match d.copyGo t j.moves j with
      | (.waits j, d) => d.setCopy t j
      | (.ended j st, d) => (gone d).copyEnd t j j.wrote st
      | (.on j, d) => d.setCopy t j

/-- An answer to an active copy's request (R486, R507, R508): status and bytes join what came before. One to a packet that waited at a ring
gate is that packet's alone (R178). -/
def Dev.copyAnswer (d : Dev) (t tag st : Nat) (bs : List Byte) : Dev :=
  let x := d.tileOf t
  d.setTile t { x with copyOn := x.copyOn.map fun j =>
    if j.tag = tag ∧ j.need ≠ 0 then
      if j.ask ≠ 0 then { j with need := j.need - 1, got := some (st, bs) }
      else
        let (s, b) := j.ext.getD (0, [])
        { j with need := j.need - 1, ext := some (if s = 0 then st else s, b ++ bs) }
    else j }

end Sys2Proof.Machine
end

