-- ==== Sys2Proof/Machine/EvOps.lean ====
section
/-! DEFINITION. Event mode: the areas of an EVSTEP, its neurons, synapse lists, spores, batches and barriers (chapter 16). -/

namespace Sys2Proof.Machine
open Sys2Proof.Machine.Reg

/-! ## Target tiles (R392, R393) -/

/-- The tiles of an engine's flush, ascending (R392). -/
def Dev.flushTiles (d : Dev) (e : Nat) : List Nat := maskBits 64 (d.fld CE_FLUSH e)
/-- The engine whose flush has a logical tile. -/
def Dev.flushEngine (d : Dev) (t : Nat) : Option Nat := (upTo 16).find? fun e => d.fbit CE_FLUSH t e

/-- The tiles a TGT names (R393). -/
def Dev.targets (d : Dev) (e tgt : Nat) : Option (List Nat) :=
  if tgt = 255 then some (d.flushTiles e) else if tgt < 64 ∧ d.fbit CE_FLUSH tgt e = true then some [tgt] else none

/-! ## The PARAM header (R455) -/

/-- A field of the PARAM header of an EVSTEP on a tile. -/
def Dev.evParam (d : Dev) (t : Nat) (r : EvRun) (off n : Nat) : Nat := d.sramNat t (r.param + off) n
/-- The step number T. -/
def Dev.evT (d : Dev) (t : Nat) (r : EvRun) : Nat := d.evParam t r 0 8
/-- Bytes of a segment. -/
def Dev.evSeg (d : Dev) (t : Nat) (r : EvRun) : Nat := 256 * d.evParam t r 8 2
/-- Colony segments. -/
def Dev.evCsegs (d : Dev) (t : Nat) (r : EvRun) : Nat := d.evParam t r 10 1
/-- K. -/
def Dev.evK (d : Dev) (t : Nat) (r : EvRun) : Nat := 2 ^ d.evParam t r 11 1
/-- Route entries. -/
def Dev.evRoutes (d : Dev) (t : Nat) (r : EvRun) : Nat := d.evParam t r 12 1

/-- A parameter set's 16 bytes are in range. -/
def evSetOk (v : Nat) : Bool := decide (bits v 80 8 ≤ 31) && decide (bits v 88 8 ≤ 1) && bits v 104 24 == 0

/-- A route entry is in range. -/
def evRouteOk (v : Nat) : Bool := bitAt v 15 == false && decide (64 ≤ bits v 16 7) && bits v 23 9 == 0

/-- The end of the kernel table of tile `t`: its headers and every kernel's taps (R453, R459). -/
def Dev.ktabEnd (d : Dev) (t : Nat) (r : EvRun) : Nat :=
  (upTo 256).foldl (fun n k =>
    let h := d.evParam t { r with param := r.ktab } (8 * k) 8
    if bits h 16 8 = 0 then n else max n (4 * (bits h 0 16 + bits h 16 8))) 2048

/-- Every area and PARAM field of an EVSTEP is legal on tile `t` (R453, R455, R465). -/
def Dev.evOk (d : Dev) (t : Nat) (r : EvRun) : Bool :=
  let inScratch (off n : Nat) : Bool := off % 64 == 0 && !d.outsideScratch off n
  let h := d.evParam t r 0 64
  let seg := bits h 64 16
  let cs := bits h 80 8
  let ds := bits h 88 8
  let ro := bits h 96 8
  decide (1 ≤ r.neurons) && decide (r.neurons ≤ 16384) && r.left != 0 && inScratch r.param 576
    && decide (1 ≤ seg) && decide (seg ≤ 256) && decide (cs ≤ 64) && decide (ds ≤ 4) && decide (ro ≤ 64) && h / 2 ^ 104 == 0
    && ((upTo 16).all fun i => evSetOk (d.evParam t r (64 + 16 * i) 16)) && ((upTo ro).all fun j => evRouteOk (d.evParam t r (320 + 4 * j) 4))
    && inScratch r.state (r.neurons * 8 + 2 ^ ds * r.neurons * 4) && inScratch r.ktab (d.ktabEnd t r)
    && inScratch r.inq (2 * (64 + cs) * (256 * seg)) && inScratch r.outq ((64 + ro) * (256 * seg)) && r.syn % 8 == 0

/-! ## Ring and drops -/

/-- Offset of the ring entry of neuron `n` in slot `k`. -/
def EvRun.ringAt (r : EvRun) (k n : Nat) : Nat := r.state + r.neurons * 8 + k * r.neurons * 4 + n * 4

/-- Add to a ring entry, modulo 2³²; a poisoned one counts as 0 (R465). -/
def Dev.ringAdd (d : Dev) (t : Nat) (r : EvRun) (k n : Nat) (v : Int) : Dev :=
  let (bs, bad, d) := d.sramRead t (r.ringAt k n) 4 1
  d.sramWrite t (r.ringAt k n) (allOn (leBytes 4 (((if bad then 0 else leNat bs) + ofSigned 32 v) % 2 ^ 32)))

/-- A record or entry is dropped (R464). -/
def Dev.evDrop (d : Dev) (t : Nat) (r : EvRun) (reason what : Nat) : Dev :=
  let f := match reason with
    | 1 => EV_OVF
    | 2 => EV_RANGE
    | 3 => EV_ROUTE
    | 4 => EV_ROUTE
    | _ => EV_ENTRY
  (d.inc f 1 t).logEv 0x1009 .D (d.ptile t) [dC reason, dT what, dT (d.evT t r)]

/-- A kernel delivery expands (R459): taps outside 0 to N − 1 are skipped. A poisoned header or tap is reported and taken as it reads, and
their reserved bits are ignored (log entry 180). -/
def Dev.evKernel (d : Dev) (t : Nat) (r : EvRun) (k base kn g : Nat) : Dev :=
  let (hb, _, d) := d.sramRead t (r.ktab + 8 * kn) 8 1
  let h := leNat hb
  (upTo (bits h 16 8)).foldl (fun (d : Dev) (i : Nat) =>
    let (tb, _, d) := d.sramRead t (r.ktab + 4 * bits h 0 16 + 4 * i) 4 1
    let tap := leNat tb
    let n := (base : Int) + toSigned 16 tap
    if n < 0 ∨ (r.neurons : Int) ≤ n then d else d.ringAdd t r k n.toNat (toSigned 8 (bits tap 16 8) * g)) d

/-- A contribution to this tile: base slot, weight or kernel number, payload, delay (R456, R458, R464). -/
def Dev.evApply (d : Dev) (t : Nat) (r : EvRun) (slot0 what target wt g delay : Nat) (kernel bad : Bool) : Dev :=
  let kk := d.evK t r
  if bad then d.evDrop t r 6 what
  else if kk ≤ delay then d.evDrop t r 5 what
  else if kernel then d.evKernel t r ((slot0 + delay) % kk) target wt g
  else if r.neurons ≤ target then d.evDrop t r 2 what
  else d.ringAdd t r ((slot0 + delay) % kk) target (toSigned 8 wt * g)

/-- Words skipped because of poison count toward the command's POISONED flag (R465; log entry 74). -/
def Dev.evPoison (d : Dev) (r : EvRun) (n : Nat) : Dev := if n = 0 then d else d.updCmd r.engine r.seq fun c => { c with poison := c.poison + n }

/-! ## Phase 1: scatter (R461) -/

/-- Offset of segment `s` of parity `p`. -/
def Dev.evSegAt (d : Dev) (t : Nat) (r : EvRun) (p s : Nat) : Nat := r.inq + (p * (64 + d.evCsegs t r) + s) * d.evSeg t r

/-- A delivery record. -/
def Dev.evRecord (d : Dev) (t : Nat) (r : EvRun) (step v : Nat) : Dev :=
  (d.inc EV_RECS 1 t).evApply t r step v (bits v 0 16) (bits v 16 8) (bits v 24 8) (bits v 32 4) (bitAt v 36) (bits v 37 3 != 0 || bits v 46 2 != 0)

/-- The part of tile `s` has ended while this tile's runs on: its segments read as empty (R462). -/
def Dev.evGone (d : Dev) (r : EvRun) (s : Nat) : Bool :=
  bitAt r.flags 0 && (d.cmdOf r.engine r.seq).any fun c =>
    ((d.targets r.engine (bits c.bytes 16 8)).getD []).contains s && !c.todo.contains s && !c.on.contains s

/-- One segment, line by line of 256 B; a poisoned line is skipped (R465), and with the line of its header, which nothing else tells the
records of, the whole segment: the 64 words of that line count (log entry 74). -/
def Dev.evSegment (d : Dev) (t : Nat) (r : EvRun) (step off : Nat) : Dev :=
  let h := d.sramNat t off 8
  if d.badAt t off 256 then (d.sramRead t off 256 1).2.2.evPoison r 64
  else if bits h 0 16 ≠ (step + 2 ^ 16 - 1) % 2 ^ 16 then d
  else
    let n := min (bits h 16 16) ((d.evSeg t r - 8) / 8)
    (upTo (d.evSeg t r / 256)).foldl (fun d l =>
      let mine := (upTo 32).filter fun i => decide (1 ≤ 32 * l + i) && decide (32 * l + i ≤ n)
      if mine.isEmpty then d
      else
        let (bs, bad, d) := d.sramRead t (off + 256 * l) 256 1
        if bad then d.evPoison r (2 * mine.length)
        else mine.foldl (fun d i => d.evRecord t r step (leNat ((bs.drop (8 * i)).take 8))) d) d

/-! ## Phase 2: update (R456) -/

/-- Clamp to INT32. -/
def sat32 (v : Int) : Int := if v < -(2 ^ 31) then -(2 ^ 31) else if 2 ^ 31 ≤ v then 2 ^ 31 - 1 else v

/-- One neuron: its new state word, and its payload when it fires. `p` is the parameter set, `i` the input. -/
def evNeuron (w p : Nat) (i : Int) : Nat × Option Nat :=
  let v := toSigned 32 w
  let refr := bits w 32 8
  let theta := toSigned 32 p
  let vreset := bits p 32 32
  let word (v refr : Nat) (fired : Bool) : Nat := v + refr * 2 ^ 32 + bits w 40 4 * 2 ^ 40 + bitIf fired 44
  if 0 < refr then (word vreset (refr - 1) false, none)
  else
    let v1 := sat32 (v - (v * bits p 64 16) / 2 ^ 16 + i)
    if theta ≤ v1 then
      let g := min 255 (1 + ((v1 - theta) / 2 ^ bits p 80 8)).toNat
      (word (if bits p 88 8 = 0 then vreset else ofSigned 32 (sat32 (v1 - theta))) (bits p 96 8) true, some g)
    else (word (ofSigned 32 v1) 0 false, none)

/-- All neurons in ascending order; those that fired, with their payloads. -/
def Dev.evUpdate (d : Dev) (t : Nat) (r : EvRun) (step : Nat) : List (Nat × Nat) × Dev :=
  let k := step % d.evK t r
  (upTo r.neurons).foldl (fun (a : List (Nat × Nat) × Dev) n =>
    let (wb, wbad, d) := a.2.sramRead t (r.state + 8 * n) 8 1
    let (ib, ibad, d) := d.sramRead t (r.ringAt k n) 4 1
    let w := if wbad then 0 else leNat wb
    let i := if ibad then 0 else toSigned 32 (leNat ib)
    let (w', f) := evNeuron w (d.evParam t r (64 + 16 * bits w 40 4) 16) i
    let d := (d.sramWrite t (r.state + 8 * n) (allOn (leBytes 8 w'))).sramWrite t (r.ringAt k n) (allOn (leBytes 4 0))
    match f with
    | some g => (a.1 ++ [(n, g)], d.inc EV_SPORES 1 t)
    | none => (a.1, d)) ([], d)

/-! ## Phase 3: fan-out (R457, R461) -/

/-- A batch under way: destination (below 64 a logical tile, 64 + j route j) and its records. -/
abbrev Batches := List (Nat × List Nat)

/-- Stage a record for a destination; past the segment's limit it is dropped. -/
def Dev.evStage (d : Dev) (t : Nat) (r : EvRun) (b : Batches) (dest rec_ : Nat) : Batches × Dev :=
  let l := Sparse.get [] b dest
  if (d.evSeg t r - 8) / 8 ≤ l.length then (b, d.evDrop t r 1 rec_) else (Sparse.set [] b dest (l ++ [rec_]), d)

/-- The route to a tile of another device. -/
def Dev.evRoute (d : Dev) (t : Nat) (r : EvRun) (dev tile : Nat) : Option Nat :=
  (upTo (d.evRoutes t r)).find? fun j => let v := d.evParam t r (320 + 4 * j) 4; bits v 0 9 == dev && bits v 9 6 == tile

/-- A full entry of a neuron that fired with payload `g`. -/
def Dev.evFull (d : Dev) (t : Nat) (r : EvRun) (b : Batches) (step n g v : Nat) : Batches × Dev :=
  let tile := bits v 16 6
  let dev := bits v 22 9
  let bad := bits v 14 2 != 0 || v / 2 ^ 45 != 0
  let own := dev == d.selfId
  if own && tile == t then (b, d.evApply t r (step + 1) v (bits v 0 14) (bits v 32 8) g (bits v 40 4) (bitAt v 44) bad)
  else if bad then (b, d.evDrop t r 6 v)
  else if !bitAt r.flags 0 then (b, d.evDrop t r 4 v)
  else
    let x := bits v 0 14 + bits v 32 8 * 2 ^ 16 + g * 2 ^ 24 + bits v 40 4 * 2 ^ 32 + bitIf (bitAt v 44) 36 + t * 2 ^ 40 + n * 2 ^ 48
    if own then d.evStage t r b tile x
    else match d.evRoute t r dev tile with
      | some j => d.evStage t r b (64 + j) x
      | none => (b, d.evDrop t r 3 v)

/-- A list's words from `i` on. `bad i` = word i lies in a poisoned 256 B line: it is skipped. -/
def Dev.evWords (d : Dev) (t : Nat) (r : EvRun) (step n g len : Nat) (word : Nat → Nat) (bad : Nat → Bool) :
    Nat → Nat → Batches → Batches × Dev
  | 0, _, b => (b, d)
  | fuel + 1, i, b =>
    if len ≤ i then (b, d)
    else if bad i then (d.evPoison r 1).evWords t r step n g len word bad fuel (i + 1) b
    else
      let w := word i
      if bitAt w 31 then
        if len ≤ i + 1 then (b, d.evDrop t r 6 w)
        else if bad (i + 1) then (d.evPoison r 2).evWords t r step n g len word bad fuel (i + 2) b
        else
          let (b, d) := d.evFull t r b step n g (w + 2 ^ 32 * word (i + 1))
          d.evWords t r step n g len word bad fuel (i + 2) b
      else
        (d.evApply t r (step + 1) w (bits w 0 14) (bits w 14 8) g (bits w 22 4) (bitAt w 26) (bits w 27 4 != 0)).evWords t r step n g len
          word bad fuel (i + 1) b

/-- Bytes of device memory read in requests of 256 B lines (R461): the bytes, and which lines could not be read or are poisoned. -/
def Dev.evLines (d : Dev) (stop a n : Nat) : List Byte × List Bool × Dev :=
  (linesOf a n).foldl (fun (r : List Byte × List Bool × Dev) k =>
    let lo := max a (256 * k)
    let hi := min (a + n) (256 * k + 256)
    let (st, bs, d) := r.2.2.accRead stop (256 * k) 256
    (r.1 ++ (if st = 0 ∨ st = 6 then (bs.drop (lo - 256 * k)).take (hi - lo) else List.replicate (hi - lo) 0), r.2.1 ++ [st != 0], d)) ([], [], d)

/-- The fan-out of one neuron. -/
def Dev.evFan (d : Dev) (t : Nat) (r : EvRun) (step : Nat) (b : Batches) (f : Nat × Nat) : Batches × Dev :=
  let stop := d.stopOf t
  let (ib, ibad, d) := d.evLines stop (r.syn + 8 * f.1) 8
  let x := leNat ib
  if ibad.any id then (b, d.evPoison r 2)
  else if x / 2 ^ 56 ≠ 0 ∨ x % 4 ≠ 0 then (b, d.evDrop t r 6 x)
  else
    let a := r.syn + bits x 0 40
    let len := bits x 40 16
    let (bs, bad, d) := d.evLines stop a (4 * len)
    d.evWords t r step f.1 f.2 len (fun i => leNat ((bs.drop (4 * i)).take 4))
      (fun i => bad.getD ((a + 4 * i) / 256 - a / 256) false) (len + 1) 0 b

/-! ## Phase 4: send (R461, R463) -/

/-- A batch's bytes: header and records. -/
def batchBytes (step : Nat) (l : List Nat) : List Byte := leBytes 8 (step % 2 ^ 16 + l.length * 2 ^ 16) ++ l.flatMap (leBytes 8)

/-- One batch leaves: into a tile of this device, or as a block transfer over its route. -/
def Dev.evSend (d : Dev) (t : Nat) (r : EvRun) (step : Nat) (e : Nat × List Nat) : Dev :=
  let bs := batchBytes step e.2
  let d := d.sramWrite t (r.outq + e.1 * d.evSeg t r) (allOn bs)
  if e.1 < 64 then (d.accWrite (d.stopOf t) (tileAddr e.1 (d.evSegAt t r (step % 2) t)) (allOn bs)).2
  else
    let v := d.evParam t r (320 + 4 * (e.1 - 64)) 4
    let len := (bs.length + 255) / 256 * 256
    let d := d.sramWrite t (r.outq + e.1 * d.evSeg t r) (allOn (bs ++ List.replicate (len - bs.length) 0))
    let dst := colonyAddr (bits v 0 9) (0x30_0000_0000 + bits v 9 6 * 2 ^ 21 + d.evSegAt t r (step % 2) (bits v 16 7))
    d.rpush (reqId (d.tileRq t 0 (1536 + (e.1 - 64) % 512))) (1536 + (e.1 - 64) % 512) (tileAddr t (r.outq + e.1 * d.evSeg t r)) dst len none none

/-! ## The step and its barrier -/

/-- Phase 5 ends on a tile: T + 1 is written back, and with the last step the tile's part ends. -/
def Dev.evNext (d : Dev) (t : Nat) : Dev :=
  let x := d.tileOf t
  match x.ev with
  | none => d
  | some r =>
    let d := d.sramWrite t r.param (allOn (leBytes 8 ((d.evT t r + 1) % 2 ^ 64)))
    if r.left ≤ 1 then (d.setTile t { d.tileOf t with ev := none }).partDone r.engine r.seq t
    else d.setTile t { d.tileOf t with ev := some { r with left := r.left - 1, first := false, atBarrier := false } }

/-- The tiles on which an EVSTEP's part still runs have all reached the barrier, every batch acknowledged (R462, R519). -/
def Dev.evAllThere (d : Dev) (e seq : Nat) : Bool :=
  match d.cmdOf e seq with
  | none => false
  | some c => c.todo.isEmpty && !c.on.isEmpty && c.on.all fun t => (d.tileOf t).ev.any fun r => r.atBarrier && r.pend == 0

/-- Once all are there, a colony EVSTEP arrives at its step barrier (R519). -/
def Dev.evArrive (d : Dev) (e seq : Nat) : Dev :=
  match d.cmdOf e seq with
  | none => d
  | some c =>
    match (c.on.head?.bind fun t => (d.tileOf t).ev.map fun r => (t, r)) with
    | none => d
    | some (t, r) =>
      if bitAt r.flags 1 && c.colony == 0 && d.evAllThere e seq then
        (d.updCmd e seq fun c => { c with colony := 1 }).arriveOut (16 + e) (d.evT t r % 2 ^ 16)
      else d

/-- A batch is for a tile of this device under handover, whose writes are held (R28, R461). -/
def Dev.batchHeld (d : Dev) (b : Batches) : Bool := b.any fun e => decide (e.1 < 64) && d.tileMoves e.1

/-- EV_STEP: phases 1 to 4 of the next step on tile `t`, when neither its own handover pauses it nor one of a tile it sends to holds it. -/
def Dev.evStep (d : Dev) (t : Nat) : Dev :=
  match (d.tileOf t).ev with
  | none => d
  | some r =>
    if r.atBarrier || d.tileMoves t then d
    else
      let d₀ := d
      let step := d.evT t r
      let (_, _, d) := d.sramRead t r.param 576 1
      let d := d.setF EV_T step t
      let d := if r.first then d
        else (upTo (64 + d.evCsegs t r)).foldl (fun d s =>
          if d.evGone r s then d else d.evSegment t r step (d.evSegAt t r ((step + 1) % 2) s)) d
      let (fired, d) := d.evUpdate t r step
      let (b, d) := fired.foldl (fun (a : Batches × Dev) f => a.2.evFan t r step a.1 f) ([], d)
      if d.batchHeld b then d₀ else
      let d := b.foldl (fun d e => d.evSend t r step e) d
      let d := d.setTile t { d.tileOf t with ev := some { r with atBarrier := true, pend := b.countP fun e => decide (64 ≤ e.1) } }
      if bitAt r.flags 0 then d.evArrive r.engine r.seq else d.evNext t

/-- The answer to a batch's transfer. -/
def Dev.evAnswer (d : Dev) (t : Nat) : Dev :=
  match (d.tileOf t).ev with
  | none => d
  | some r =>
    let d := d.setTile t { d.tileOf t with ev := some { r with pend := r.pend - 1 } }
    d.evArrive r.engine r.seq

/-- EV_BARRIER_RELEASE: the engine releases every tile of the EVSTEP; a lost colony barrier ends the command. -/
def Dev.evRelease (d : Dev) (e seq : Nat) : Dev :=
  match d.cmdOf e seq with
  | none => d
  | some c =>
    let colony := c.on.any fun t => (d.tileOf t).ev.any fun r => bitAt r.flags 1
    if !d.evAllThere e seq || (colony && c.colony != 2) then d
    else if c.status = 12 then c.on.foldl (fun d t => (d.setTile t { d.tileOf t with ev := none }).partDone e seq t) d
    else c.on.foldl Dev.evNext (d.updCmd e seq fun c => { c with colony := 0 })

/-- An EVSTEP starts on a tile with the fields of its command `b` (R406). -/
def evOf (e seq b : Nat) : EvRun :=
  { engine := e, seq := seq, state := bits b 96 32, neurons := bits b 128 32, syn := bits b 160 64, ktab := bits b 224 32,
    inq := bits b 256 32, outq := bits b 288 32, left := bits b 320 32, param := bits b 352 32, flags := bits b 384 8 }

end Sys2Proof.Machine
end

