-- ==== Sys2Proof/Machine/LlOps.lean ====
section
/-! DEFINITION. The Lamplighter of a tile: look-ahead, slots, fills and the CAROUSEL rotation (chapter 15), and the fields of a command. -/

namespace Sys2Proof.Machine
open Sys2Proof.Machine.Reg

/-! ## A command's fields (R399, R400) -/

/-- OPC of a command's 64 bytes. -/
def cmdOpc (b : Nat) : Nat := bits b 0 8
/-- ORDER. -/
def cmdOrder (b : Nat) : Bool := bitAt b 8
/-- TGT. -/
def cmdTgt (b : Nat) : Nat := bits b 16 8
/-- USER. -/
def cmdUser (b : Nat) : Nat := bits b 64 32
/-- Commands that need tiles. -/
def needsTile (opc : Nat) : Bool := [0x10, 0x11, 0x12, 0x13, 0x14, 0x23, 0x27].contains opc

/-! ## Slots (R430, R431, R433) -/

/-- The weight fields of a LAYER meet R431. -/
def Dev.weightsOk (d : Dev) (mode src len slot : Nat) : Bool :=
  let inside := match placeOf src with
    | .hbm => true
    | .scratch _ _ => true
    | _ => false
  inside && src % 256 == 0 && len % 256 == 0 && decide (256 ≤ len) && decide (len ≤ 2 ^ 19) && slot % 256 == 0
    && !d.outsideScratch slot (if mode = 1 then 2 * len else len)

/-- The bytes of tile SRAM a slot area takes. -/
def LlEnt.area (x : LlEnt) : Nat := if x.wmode = 1 then 2 * x.len else x.len

/-- Two slot areas share a byte. -/
def LlEnt.meets (x y : LlEnt) : Bool := decide (x.slot < y.slot + y.area) && decide (y.slot < x.slot + x.area)

/-- Entries in order: one in WAITSLOT whose slot no earlier entry holds starts filling. -/
def llSettle (l : List LlEnt) : List LlEnt :=
  l.foldl (fun acc y => acc ++ [if y.st = 1 ∧ acc.all (fun x => !x.meets y) = true then { y with st := 2 } else y]) []

/-- What has become of an entry: its command's part is over, or it has started; a discarded one goes with its last read. -/
def Dev.llKeep (d : Dev) (t : Nat) (reads : List (Nat × Nat × Nat × Nat)) (y : LlEnt) : Option LlEnt :=
  if y.dead then (if reads.any fun r => r.1 == y.pos then some y else none)
  else match y.issued with
    | none => some y
    | some q =>
      match d.cmdOf y.engine q with
      | none => none
      | some c => if c.todo.contains t then some y else if c.on.contains t && y.wmode != 0 then some { y with started := true } else none

/-- Slots of parts that have ended are released, and entries that waited for them go on (R433). -/
def Dev.llTidy (d : Dev) (t : Nat) : Dev :=
  let x := d.tileOf t
  d.setTile t { x with ll := llSettle (x.ll.filterMap (d.llKeep t x.llReads)) }

/-- Discard entries: unissued ones and their fills (R440). -/
def Dev.llDrop (d : Dev) (t : Nat) (p : LlEnt → Bool) : Dev :=
  let x := d.tileOf t
  let gone (k : Nat) : Bool := x.ll.any fun y => y.pos == k && p y && !y.dead
  let ll := x.ll.map fun y => if p y && !y.dead then { y with dead := true, pos := y.pos + 2 ^ 64 } else y
  let reads := x.llReads.map fun r => if gone r.1 then (r.1 + 2 ^ 64, r.2) else r
  (d.setTile t { x with ll := ll, llReads := reads }).llTidy t

/-- The run-ahead of an engine is discarded and its look-ahead stops (R440). -/
def Dev.llDiscard (d : Dev) (e : Nat) : Dev :=
  (d.flushTiles e).foldl (fun d t => (d.setTile t { d.tileOf t with llAt := none, llBuf := [] }).llDrop t fun y => y.issued.isNone) d

/-- An engine takes up a list: its tiles' look-ahead begins where the list stands (R427, R429, R451). -/
def Dev.llBegin (d : Dev) (e addr pos : Nat) : Dev :=
  (d.flushTiles e).foldl (fun d t =>
    let n := d.fld LL_DEPTH t
    d.setTile t { d.tileOf t with llAt := if d.flag LL_EN t then some (e, addr, pos) else none, llBuf := [],
                                  llDepth := if n = 0 ∨ 32 < n then 32 else n }) d

/-! ## Entries (R427, R428) -/

/-- The entry of a command at place `pos`, in the state it starts in. -/
def Dev.llEntry (d : Dev) (t e addr pos b : Nat) (issued : Option Nat) : LlEnt :=
  let mode := bits b 144 8
  if cmdOpc b ≠ 0x10 ∨ mode = 0 ∨ 2 < mode then { engine := e, addr := addr, pos := pos, cmd := b, issued := issued }
  else
    let src := bits b 160 64
    let len := bits b 224 32
    let ok := d.weightsOk mode src len (bits b 256 32)
    let rank := (d.flushTiles e).countP fun u => decide (u < t)
    let y : LlEnt := { engine := e, addr := addr, pos := pos, cmd := b, wmode := mode, src := if mode = 1 then src + rank * len else src,
                       len := if ok then len else 0, slot := bits b 256 32, order := cmdOrder b, issued := issued, st := if ok then 1 else 4 }
    y

/-- An entry joins the queue. -/
def Dev.llAdd (d : Dev) (t : Nat) (y : LlEnt) : Dev :=
  let d := if y.st = 4 then d.inc LL_FAULTS 1 t else d
  (d.setTile t { d.tileOf t with ll := (d.tileOf t).ll ++ [y] }).llTidy t

/-- Entries that count toward DEPTH: those whose command has not started. -/
def Tile.llCount (x : Tile) : Nat := x.ll.countP fun y => !y.started && !y.dead

/-- The command at place `pos` of the running list of engine `e` has not been issued. -/
def Dev.notIssued (d : Dev) (e pos : Nat) : Bool := (d.engOf e).run.any fun l => l.id == pos / 2 ^ 32 && decide (l.pos ≤ pos % 2 ^ 32)

/-- The command in flight that stands at a place of a list. -/
def Dev.flightAt (d : Dev) (e pos : Nat) : Option Cmd := (d.engOf e).flight.find? fun c => c.list * 2 ^ 32 + c.pos == pos && decide (c.seq < 2 ^ 24)

/-- The bytes of the list from address `a` on: those at hand, else the rest of the aligned 1,024 bytes, read now. -/
def Dev.llBytes (d : Dev) (t a : Nat) : Nat × List Byte × Dev :=
  if (d.tileOf t).llBuf.isEmpty then d.accRead (d.stopOf t) a (1024 - a % 1024) false false 1 else (0, (d.tileOf t).llBuf, d)

/-- LL_FETCH: the Lamplighter looks at the next command of the list and makes its entry (R427, R428). A fetch that fails is made again. -/
def Dev.llFetch (d : Dev) (t : Nat) : Dev :=
  let d := d.llTidy t
  match (d.tileOf t).llAt with
  | none => d
  | some (e, a, pos) =>
    let (st, bs, d) := d.llBytes t a
    let b := leNat (bs.take 64)
    let go (d : Dev) (p : Option (Nat × Nat × Nat)) (rest : List Byte := bs.drop 64) : Dev :=
      d.setTile t { d.tileOf t with llAt := p, llBuf := rest }
    let next := some (e, a + 64, pos + 1)
    if st ≠ 0 then d
    else
      let d := d.setTile t { d.tileOf t with llBuf := bs }
      match cmdOpc b with
      | 0x01 => go d none []
      | 0x02 => go d (some (e, bits b 128 48, pos + 1)) []
      | o =>
        if o = 0x20 ∨ o = 0x22 ∨ o = 0x28 then (if d.notIssued e pos || (d.flightAt e pos).isSome then d else go d next)
        else if !needsTile o || !(cmdTgt b == 255 || cmdTgt b == t) then go d next
        else if (d.tileOf t).ll.any (fun y => y.engine == e && y.pos == pos && !y.dead) then go d next
        else if (d.tileOf t).llDepth ≤ (d.tileOf t).llCount then d
        else if d.notIssued e pos then go (d.llAdd t (d.llEntry t e a pos b none)) next
        else match d.flightAt e pos with
          | some c => go (if c.todo.contains t then d.llAdd t (d.llEntry t e a pos b (some c.seq)) else d) next
          | none => go d next

/-- A command is issued to a tile: its entry knows the CMD_SEQ; a LAYER that the look-ahead will not find gets its entry now (R429). -/
def Dev.llIssue (d : Dev) (e addr pos b seq t : Nat) : Dev :=
  let x := d.tileOf t
  if x.ll.any fun y => y.engine == e && y.pos == pos && !y.dead then
    d.setTile t { x with ll := x.ll.map fun y => if y.engine = e ∧ y.pos = pos ∧ y.dead = false then { y with issued := some seq } else y }
  else if cmdOpc b = 0x10 ∧ bits b 144 8 ≠ 0 ∧ x.llAt.isNone = true then d.llAdd t (d.llEntry t e addr pos b (some seq))
  else d

/-- The entry of an issued command. -/
def Dev.llOf (d : Dev) (t e seq : Nat) : Option LlEnt := (d.tileOf t).ll.find? fun y => y.engine == e && y.issued == some seq && !y.dead

/-! ## Fills (R432, R435, R438, R439) -/

/-- Every command of the list before place `pos` has completed (R428). -/
def Dev.allBefore (d : Dev) (e pos : Nat) : Bool :=
  !d.notIssued e (pos - 1) && !(d.engOf e).flight.any fun c => c.list == pos / 2 ^ 32 && decide (c.pos < pos % 2 ^ 32) && decide (c.seq < 2 ^ 24)

/-- An entry has a fill read to send. -/
def Dev.llWants (d : Dev) (y : LlEnt) : Bool :=
  y.st == 2 && !y.dead && decide (y.asked < y.len) && (!y.order || y.pos % 2 ^ 32 == 0 || d.allBefore y.engine y.pos)

/-! ## Deadlines of fills (R443, R445) -/

/-- A LAYER's estimate in TCLK: over its steps, the most ROWS of a step's gills. -/
def stepsEst (l : List Step) : Nat := (l.map Step.time).sum

/-- A command's estimate on tile `t`; every other command estimates as 0. -/
def Dev.cmdEst (d : Dev) (t b : Nat) : Nat :=
  if cmdOpc b = 0x10 then ((d.stepsAt t (bits b 128 16) (bits b 96 32)).map stepsEst).getD 0 else 0

/-- E: the estimates of what stands ahead of an entry and has not finished on the tile, of a running LAYER the part not yet done. -/
def Dev.llAhead (d : Dev) (t : Nat) (y : LlEnt) : Nat :=
  let x := d.tileOf t
  let run := match x.layer with
    | some l => stepsEst (l.steps.drop l.idx)
    | none => 0
  let issued := (d.engOf y.engine).flight.filter fun c => c.todo.contains t && decide (c.list * 2 ^ 32 + c.pos < y.pos)
  let later := x.ll.filter fun z => z.issued.isNone && !z.dead && z.engine == y.engine && decide (z.pos < y.pos)
  run + (issued.map fun c => d.cmdEst t c.bytes).sum + (later.map fun z => d.cmdEst t z.cmd).sum

/-- DLINE of a fill read for an entry: TS + ⌈E / 2⌉ − 64 × MARGIN, at most 32,767 buckets ahead. -/
def Dev.llDline (d : Dev) (t : Nat) (y : LlEnt) : Nat :=
  let D : Int := (d.now + (d.llAhead t y + 1) / 2 : Nat) - (64 * d.fld LL_MARGIN t : Nat)
  dlineAt (min D ((64 * (d.now / 64 + 32767) + 63 : Nat) : Int))

/-- LL_FILL_READ: the first entry that may fill sends its next 256 B read with its deadline; at most 64 are in flight. -/
def Dev.llFillRead (d : Dev) (t : Nat) : Dev :=
  let d := d.llTidy t
  let x := d.tileOf t
  if 64 ≤ x.llReads.length then d
  else match x.ll.find? d.llWants with
    | none => d
    | some y =>
      let due := d.llDline t y
      (d.setTile t { x with llReads := x.llReads ++ [(y.pos, y.slot + y.asked, y.src + y.asked, due)],
                            ll := x.ll.map fun z => if z.pos = y.pos then { z with asked := z.asked + 256 } else z }).emit
        (.link "LL.read" t [y.src + y.asked, due, if y.wmode = 1 then 1 else 0] [])

/-- A Lamplighter's read of one line with its deadline: its LL bit and the slice's repeat count (R435, R443). -/
def Dev.llLine (d : Dev) (stop a : Nat) (noalloc : Bool) (due : Nat) : Nat × List Byte × Dev :=
  let k := a / 256
  let again := (d.celLine k).any (·.ll)
  let (st, bs, d) := d.accReadBy stop a 256 noalloc false 1 due
  let d := if again then d.inc CEL_REPEATS 1 (homeOf k) else d
  match d.celLine k with
  | some l => (st, bs, d.setCel k (some { l with ll := true }))
  | none => (st, bs, d)

/-- Poisoned words of tile SRAM whose source has logged the cause (R439). -/
def Dev.markQuiet (d : Dev) (t off n : Nat) : Dev :=
  (upTo (n / 8)).foldl (fun d i => { d with quiet := Sparse.set false d.quiet (tileAddr t off / 8 + i) true }) (d.markBad (tileAddr t off) n true)

/-- An entry changes. -/
def Dev.llUpd (d : Dev) (t pos : Nat) (f : LlEnt → LlEnt) : Dev :=
  let x := d.tileOf t
  d.setTile t { x with ll := x.ll.map fun y => if y.pos = pos then f y else y }

/-- LL_FILL_DATA: the data of the oldest read is written, or its failure ends the fill; data of a discarded fill is dropped. -/
def Dev.llFillData (d : Dev) (t : Nat) : Dev :=
  let d := d.llTidy t
  let x := d.tileOf t
  match x.llReads with
  | [] => d
  | (pos, off, a, due) :: r =>
    let d := d.setTile t { x with llReads := r }
    match x.ll.find? fun y => y.pos == pos && !y.dead with
    | none => (d.inc LL_STALE 1 t).llTidy t
    | some y =>
      let (st, bs, d) := d.llLine (d.stopOf t) a (y.wmode == 1) due
      if st ≠ 0 ∧ st ≠ 6 then
        let d := (d.llUpd t pos fun y => { y with st := 4, status := st }).inc LL_FAULTS 1 t
        let d := d.setTile t { d.tileOf t with llReads := (d.tileOf t).llReads.filter fun r => r.1 != pos }
        (d.setF LL_FAULT_ADDR a t).setF LL_FAULT_STATUS st t
      else
        let d := d.sramWrite t off (allOn bs)
        let d := if st = 6 then d.markQuiet t off 256 else d
        (d.inc LL_BYTES 256 t).llUpd t pos fun y => { y with got := y.got + 256, st := if y.len ≤ y.got + 256 then 3 else y.st }

/-! ## The rotation (R436 to R438) -/

/-- Bytes of tile SRAM move to another tile with their poison marks. -/
def Dev.sramMove (d : Dev) (t off u off' n : Nat) : Dev :=
  let bad := (upTo (n / 8)).filter fun i => NatSet.has d.poison (d.phys (tileAddr t off + 8 * i) / 8)
  bad.foldl (fun d i => d.markQuiet u (off' + 8 * i) 8) (d.sramWrite u off' (allOn (d.rawRead (tileAddr t off) n)))

/-- A command's part on a tile has neither ended nor still to start. -/
def Cmd.partEnded (c : Cmd) (t : Nat) : Bool := !c.todo.contains t && !c.on.contains t

/-- Held operands loaded so far, the shadow bank's included. -/
def Tile.loads (x : Tile) (l : LayerRun) : Nat := l.idx + (if x.shadowFull then 1 else 0)

/-- A tile sends its next buffer on to rank r − 1, once that tile has room for it: the round that used that buffer has made its last
held load and its own send (R437: the credit it grants). The write's deadline is the start of the next round (R443). -/
def Dev.rotateOne (d : Dev) (e seq : Nat) (ts : List Nat) (t : Nat) : Dev :=
  let x := d.tileOf t
  match x.layer, d.cmdOf e seq with
  | some l, some c =>
    if l.engine ≠ e ∨ l.seq ≠ seq ∨ l.sendsDue = false ∨ l.round < l.sent ∨ l.have_ ≤ l.sent ∨ d.tileMoves t = true then d
    else
      let u := ts.getD ((l.rank + l.n - 1) % l.n) 64
      let done (d : Dev) : Dev := d.setTile t { d.tileOf t with layer := some { l with sent := l.sent + 1 } }
      let y := d.tileOf u
      match y.layer with
      | some m =>
        if m.engine ≠ e ∨ m.seq ≠ seq then (if c.partEnded u then done d else d)
        else if y.loads m < l.sent * m.per ∨ m.sent < l.sent ∨ d.tileMoves u = true then d
        else
          let left := stepsEst ((x.layer.map fun m => (m.steps.take ((m.round + 1) * m.per)).drop m.idx).getD [])
          let to_ := l.wslot + (l.sent + 1) % 2 * l.wlen
          let d := d.emit (.link "LL.send" t [tileAddr u to_, l.wlen, dlineAt (d.now + (left + 1) / 2 : Nat)] [])
          let d := d.sramMove t (l.wslot + l.sent % 2 * l.wlen) u to_ l.wlen
          let d := d.setTile u { d.tileOf u with layer := some { m with have_ := l.sent + 2 } }
          (done d).inc LL_BYTES l.wlen u
      | none => if c.partEnded u then done d else d
  | _, _ => d

/-- The rotation of a CAROUSEL LAYER goes on as far as it can. -/
def Dev.rotate (d : Dev) (e seq : Nat) : Dev :=
  let ts := d.flushTiles e
  (upTo (2 * ts.length)).foldl (fun d _ => ts.foldl (fun d t => d.rotateOne e seq ts t) d) d

/-- Something has moved on the LAYER of tile `t`: its rotation goes on. -/
def Dev.rotating (d : Dev) (t : Nat) (f : Dev → Dev) : Dev :=
  match (d.tileOf t).layer with
  | some l => if l.wmode = 1 then (f d).rotate l.engine l.seq else f d
  | none => f d

/-- CAROUSEL_ROUND: the next round starts once its buffer is complete and the round before has issued its last row; a round that waits
for a tile whose part has ended ends the part here (R436, R438). -/
def Dev.carouselRound (d : Dev) (t : Nat) : Dev :=
  match (d.tileOf t).layer with
  | none => d
  | some l =>
    if l.wmode ≠ 1 ∨ l.n ≤ l.round + 1 ∨ l.idx ≠ (l.round + 1) * l.per then d
    else if l.round + 1 < l.have_ then (d.setTile t { d.tileOf t with layer := some { l with round := l.round + 1 } }).rotate l.engine l.seq
    else
      let u := (d.flushTiles l.engine).getD ((l.rank + 1) % l.n) 64
      match d.cmdOf l.engine l.seq with
      | some c => if c.partEnded u then (d.layerFail t l c.status true).rotate l.engine l.seq else d
      | none => d

end Sys2Proof.Machine
end

