-- ==== Sys2Proof/Machine/SafeOps.lean ====
section
/-! DEFINITION. Safety (chapter 20): self-test, witness rotation, wicks, the register signature, sensor guard channels, SAFE_N. -/

namespace Sys2Proof.Machine
open Sys2Proof.Machine.Reg

/-! ## Self-test and rotation (R540 to R547) -/

/-- FTTI_MS as it acts (R540). -/
def Dev.ftti (d : Dev) : Nat := max 8 (min 100 (d.fld SAF_FTTI_MS))
/-- QUIET_US as it acts. -/
def Dev.quietUs (d : Dev) : Nat := max 1 (min 8 (d.fld SAF_QUIET_US))

/-- The rotation starts over at identity (R25, R542); its next slot is due now. -/
def Dev.rotStart (d : Dev) : Dev :=
  let d := { d with safe := { d.safe with map := List.range 64, handover := none, skipped := false, rotating := true, slotAt := d.clk.tick,
                                          testing := false, lastRole := 0 } }
  (((d.setF SPARE_SPARE 64).setF SPARE_OUT 64).setF SPARE_HO 0).setF SPARE_EPOCH 0

/-- SELFTEST (R546): checkers and tiles that failed. -/
def Dev.selfTest (d : Dev) (checkers tiles : Nat) : Dev :=
  if !d.live || d.load.bDone || d.flag SAF_SELFTEST_OK || d.safe.sticky.contains 0x0207 then d
  else if checkers = 0 ∧ tiles = 0 then
    let d := { d with safe := { d.safe with age := (upTo 65).foldl (fun m p => Sparse.set 0 m p d.clk.ageTick) d.safe.age, overdue := [] } }
    (((d.setF SAF_SELFTEST_OK 1).setF SAF_COVERED 1).uart 0x0A).rotStart
  else d.logEv 0x0207 .S 0 [dC ((upTo 32).find? (fun i => bitAt checkers i) |>.getD 0), dM 9 tiles]

/-- Requests the tile has sent and that are not answered (R541). -/
def Dev.tileQuiet (d : Dev) (t : Nat) : Bool :=
  let x := d.tileOf t
  let mine (r : SliceReq) : Bool := r.rid / 16 == tileStop (d.ptile t)
  !(d.cel.queue.any (fun e => mine e.2) || d.cel.intake.any (fun e => mine e.2.2) || d.cel.trans.any fun e => e.2.any fun y => mine y.req) &&
  x.copyOn.all (fun j => j.need == 0) && x.llReads.isEmpty && (x.ev.all fun r => r.pend == 0)
    && (upTo 16).all fun g => (x.grp g).stores.isEmpty && (match (x.grp g).wait with
      | .load .. => false
      | _ => true)

/-- A TILE reset of logical tile `t` has begun to act (R62). -/
def Dev.tileResetting (d : Dev) (t : Nat) : Bool := (Sparse.get none d.rst.tile t).any fun r => r.1 != 1

/-- A slot is skipped (R543, R544): `reason` 1 quiet timeout, 2 TILE reset. -/
def Dev.witSkip (d : Dev) (out t reason : Nat) : Dev :=
  let again := d.safe.skipped
  let d := { d with safe := { d.safe with handover := none, skipped := true, testing := true } }
  let d := ((((d.setF SPARE_HO 0).setF SPARE_OUT (d.fld SPARE_SPARE)).inc WIT_SKIPS).setF WIT_LAST_SKIP out).logEv 0x0201 .D out
    [dU 1 out, dU 1 t, dC reason]
  if again then d.logEv 0x0202 .S out [dU 1 out, dU 1 t] else d

/-- WITNESS_SLOT: the next slot begins; one whose outgoing tile is under a TILE reset is skipped at once. -/
def Dev.witSlot (d : Dev) : Dev :=
  if !d.live || !d.safe.rotating || d.flag SAF_ROT_HALT || d.safe.handover.isSome || d.rep.hold || d.rst.reload.isSome then d
  else
    let d := d.tickTo d.safe.slotAt
    let out := (d.fld SPARE_SPARE + 1) % 65
    let t := d.ltile out
    let d := { d with safe := { d.safe with slotAt := d.safe.slotAt + 96000, testing := false } }
    if d.tileResetting t then d.witSkip out t 2
    else
      ({ d with safe := { d.safe with handover := some { out := out, ltile := t, begun := d.clk.tick } } }.setF SPARE_HO 1).setF SPARE_OUT out

/-- QUIET_POINT: every request of the outgoing tile has been answered; its state copy starts. -/
def Dev.quietPoint (d : Dev) : Dev :=
  match d.safe.handover with
  | some h => if d.live && !h.quiet && d.tileQuiet h.ltile then
      { d with
        safe := { d.safe with handover := some { h with quiet := true } }
        ann := { d.ann with hand := some { src := tileStop h.out, dst := tileStop (d.fld SPARE_SPARE) } } }
    else d
  | none => d

/-- WIT_SKIP: QUIET_US have passed without the quiet point. -/
def Dev.witTimeout (d : Dev) : Dev :=
  match d.safe.handover with
  | some h => if d.live && !h.quiet then (d.tickTo (h.begun + 800 * d.quietUs)).witSkip h.out h.ltile 1 else d
  | none => d

/-- WITNESS_SWITCH: the map switches at every stop (R27). -/
def Dev.witSwitch (d : Dev) : Dev :=
  match d.safe.handover with
  | some h =>
    if !d.live || !h.quiet then d
    else
      let d := if d.running then d.tickTo (h.begun + 19200) else d
      let old := d.fld SPARE_SPARE
      let d := { d with safe := { d.safe with map := d.safe.map.set h.ltile old, handover := none, skipped := false, testing := true,
                                              lastRole := 1 + h.ltile }, ann := { d.ann with hand := none } }
      ((((d.setF SPARE_SPARE h.out).setF SPARE_OUT h.out).setF SPARE_HO 0).setF SPARE_EPOCH ((d.fld SPARE_EPOCH + 1) % 2 ^ 32)).rotating h.ltile id
  | none => d

/-- PATTERN_TEST_DONE: the spare's signature against the fused one (R545, R547). -/
def Dev.patternDone (d : Dev) (sig : BitVec 64) (part : Nat) : Dev :=
  if !d.live || !d.safe.testing || d.flag SAF_ROT_HALT then d
  else
    let p := d.fld SPARE_SPARE
    let d := { d with safe := { d.safe with testing := false } }
    if sig = Config.witSignature then
      let us := (d.clk.ageTick - Sparse.get 0 d.safe.age p) / 800
      let d := if d.fld WIT_AGEMAX_AGE < us then (d.setF WIT_AGEMAX_AGE (min us (2 ^ 32 - 1))).setF WIT_AGEMAX_TILE p else d
      { d with safe := { d.safe with age := Sparse.set 0 d.safe.age p d.clk.ageTick, overdue := Sparse.set false d.safe.overdue p false } }
    else
      ((((d.setF WIT_FAILED p).setF SAF_ROT_HALT 1).setF SAF_COVERED 0).logEv 0x0203 .S p
        [dU 1 p, dU 1 (d.safe.lastRole - 1), dC part, dT sig.toNat]).driveSafeN

/-- WIT_OVERDUE: a serving tile's age passes FTTI_MS, once per pass. -/
def Dev.witOverdue (d : Dev) (p : Nat) : Dev :=
  if !d.released || p == d.fld SPARE_SPARE || NatSet.has d.safe.overdue p || !d.safe.rotating then d
  else
    let due := Sparse.get 0 d.safe.age p + 800000 * d.ftti + 1
    let d := d.pass (due - d.clk.ageTick)
    { d with safe := { d.safe with overdue := Sparse.set false d.safe.overdue p true } }.logEv 0x0204 .S p
      [dU 1 p, dN ((d.clk.ageTick - Sparse.get 0 d.safe.age p) / 800)]

/-! ## Wicks (R548 to R552) -/

/-- A wick's window opens at `at_`. -/
def Dev.wickWindow (d : Dev) (n : Nat) : Dev :=
  let a := d.clk.tick
  { d with safe := { d.safe with wicks := Sparse.set (0, 0) d.safe.wicks n (a + 800 * d.fld WICK_OPEN n, a + 800 * d.fld WICK_CLOSE n) } }

/-- A wick is armed, bound to the CSR path or to an engine and its list. -/
def Dev.wickArmed (d : Dev) (n : Nat) (bind : Option (Nat × Nat)) : Dev :=
  let (e, l) := bind.getD (0, 0)
  let d := { d with safe := { d.safe with wickList := Sparse.set 0 d.safe.wickList n l } }
  ((((d.setF WICK_STATE 1 n).setF WICK_EARLY 0 n).setF WICK_BIND (if bind.isSome then 1 else 0) n).setF WICK_ENGINE e n).wickWindow n

/-- An armed wick is disarmed; only a new arm leaves EXPIRED (R551, R552). -/
def Dev.wickOff (d : Dev) (n : Nat) : Dev := if d.fld WICK_STATE n = 1 then d.setF WICK_STATE 0 n else d

/-- A wick expires, early or late. -/
def Dev.wickGone (d : Dev) (n : Nat) (early : Bool) : Dev :=
  let list := d.flag WICK_BIND n
  let e := d.fld WICK_ENGINE n
  let det := [dU 1 n, dC (if early then 1 else 0), dU 1 e, dN (if list then d.fld CE_NEXT_SEQ e else 0)]
  let d := (d.setF WICK_STATE 2 n).setF WICK_EARLY (if early then 1 else 0) n
  if d.flag WICK_CLASS_F n then d.logF 0x0205 n det else d.logEv 0x0205 .S n det

/-- A kick that reaches an armed wick: accepted in its window, early before it, too late after it. -/
def Dev.wickKicked (d : Dev) (n : Nat) : Dev :=
  let (o, c) := Sparse.get (0, 0) d.safe.wicks n
  let k := d.clk.tick
  if k < o then d.wickGone n true
  else if c < k then (d.wickGone n false).inc WICK_IGNORED 1 n
  else (d.inc WICK_KICKS 1 n).wickWindow n

/-- A kick by a CSR write. -/
def Dev.wickKick (d : Dev) (n : Nat) : Dev := if d.fld WICK_STATE n = 1 then d.wickKicked n else d.inc WICK_IGNORED 1 n

/-- A KICK command of engine `e`. -/
def Dev.wickKickBy (d : Dev) (n e : Nat) : Dev :=
  if d.fld WICK_STATE n ≠ 1 then d.inc WICK_IGNORED 1 n
  else if d.flag WICK_BIND n && d.fld WICK_ENGINE n == e then d.wickKicked n
  else d.logEv 0x0206 .D n [dU 1 n, dU 1 e]

/-- WICK_EXPIRE: the window ends with no kick. -/
def Dev.wickLate (d : Dev) (n : Nat) : Dev :=
  if !d.live || d.fld WICK_STATE n != 1 then d
  else (d.tickTo (Sparse.get (0, 0) d.safe.wicks n).2).wickGone n false

/-- The action bits of a WICK_CTL_n write: DISARM, then ARM, then KICK (R548, R550, R552, R569). -/
def Dev.wickCtl (d : Dev) (n off bytes path v : Nat) : Dev :=
  let act := bitAt v 0 || bitAt v 1 || bitAt v 2
  let d := d.setF WICK_CLASS_F (bits v 3 1) n
  if !act then d
  else if bits v 48 16 ≠ 0x8B14 then d.csrAccess off bytes path 2
  else
    let d := if bitAt v 1 then d.wickOff n else d
    let d := if bitAt v 0 then
        (if d.fld WICK_STATE n = 1 then d.csrAccess off bytes path 3
         else if d.fld WICK_CLOSE n = 0 ∨ d.fld WICK_CLOSE n ≤ d.fld WICK_OPEN n then d.csrAccess off bytes path 4
         else d.wickArmed n none) else d
    if bitAt v 2 then d.wickKick n else d

/-- The wicks of an engine, those of one list of it or all (R419, R552). -/
def Dev.wicksOf (d : Dev) (e : Nat) (list : Option Nat) : List Nat :=
  (upTo 96).filter fun n => d.fld WICK_STATE n == 1 && d.flag WICK_BIND n && d.fld WICK_ENGINE n == e
    && (list.all fun l => Sparse.get 0 d.safe.wickList n == l)

/-! ## The register signature (R554) -/

/-- Every field of the register tables. -/
def allFields : List Fld := mgmtTable ++ fabricTable ++ memoryTable ++ tileTable ++ portTable

/-- Configuration that SAF_LOCK freezes; the counters run on (DEDUCED, log entry 80). -/
def sigFrozen : List Fld := [SAF_FTTI_MS, SAF_HALT_CE, SAF_QUIET_US, SAF_VEC, SGD_MODE, SGD_CLASS_S, SGD_SRC_ID, SGD_FROZEN_N, SGD_MAX_GAP,
  SGD_MAX_AGE, SGD_RING_BASE, SGD_NSLOT, SGD_SLOT_LOG2, SGD_VER]

/-- Every instance of a field, in order. -/
def Dev.fieldValues (d : Dev) (f : Fld) : List Nat := (upTo f.n1).flatMap fun i => (upTo f.n2).map fun j => d.fld f i j

/-- The signature of the LK fields, and of the configuration SAF_LOCK freezes when it was locked. -/
def Dev.regSigNow (d : Dev) : Nat :=
  let fs := allFields.filter (fun f => f.acc == .lk) ++ (if d.safe.sigLocked then sigFrozen else [])
  crc32 (Config.sigBytes (fs.flatMap d.fieldValues))

/-- The signature is taken (at B_DONE). -/
def Dev.regSigTake (d : Dev) : Dev :=
  let d := { d with safe := { d.safe with sigLocked := d.flag SAF_LOCK } }
  { d with safe := { d.safe with regSig := d.regSigNow } }

/-- REG_SIG: the recomputation, with the bits of `upset` flipped. -/
def Dev.regSigCheck (d : Dev) (upset : Nat) : Dev :=
  if !d.released then d
  else
    let found := Nat.xor d.regSigNow upset
    if found = d.safe.regSig then d else d.logEv 0x020A .S 0 [dT d.safe.regSig, dT found]

/-! ## Sensor guard channels (R555 to R561) -/

/-- A channel's state beside its registers. -/
def Dev.sgdOf (d : Dev) (n : Nat) : SgdChan := Sparse.get {} d.sgd n
/-- Change it. -/
def Dev.setSgd (d : Dev) (n : Nat) (x : SgdChan) : Dev := { d with sgd := Sparse.set {} d.sgd n x }
/-- MODE as it acts. -/
def Dev.sgdMode (d : Dev) (n : Nat) : Nat := if d.fld SGD_MODE n = 3 then 0 else d.fld SGD_MODE n
/-- Bytes of a buffer. -/
def Dev.sgdBuf (d : Dev) (n : Nat) : Nat := 2 ^ max 12 (min 22 (d.fld SGD_SLOT_LOG2 n))

/-- An event of a channel, class S or D as configured. -/
def Dev.sgdEvent (d : Dev) (ev n : Nat) (det : List DF) : Dev := d.logEv ev (if d.flag SGD_CLASS_S n then .S else .D) n det

/-- A write to SGD_CH_DB_n (R556). A sealing doorbell whose LEN no frame can have is ignored like a bad SLOT (DESIGN CHOICE, log entry 81). -/
def Dev.sgdBell (d : Dev) (n off bytes path v : Nat) : Dev :=
  let slot := bits v 0 16
  let len := bits v 16 32
  let m := d.sgdMode n
  if max 1 (d.fld SGD_NSLOT n) ≤ slot then d.csrAccess off bytes path 4
  else if m = 0 then d
  else if m = 1 ∧ (len = 0 ∨ d.sgdBuf n < len + 32) then d.csrAccess off bytes path 4
  else
    let x := d.sgdOf n
    if 4 ≤ x.bells.length then d.logEv 0x0502 .D n [dU 1 n, dU 2 slot]
    else d.setSgd n { x with bells := x.bells ++ [{ slot := slot, len := len, at_ := d.now }], lastDb := some d.clk.tick, gapUp := false }

/-- The verdict of a frame: counted, written, reported (R561). -/
def Dev.sgdVerdict (d : Dev) (n slot st gap counter : Nat) : Dev :=
  let d := d.inc SGD_FRAMES 1 n
  let s := if st = 0 then 1 else st
  let d := if d.fld SGD_VER n = 0 then d
    else (d.accWrite mgmtStop (8 * d.fld SGD_VER n + 8 * slot) (allOn (leBytes 8 (s + min gap 0xFFFF * 2 ^ 16 + counter % 2 ^ 32 * 2 ^ 32)))).2
  if st = 0 then d else (d.inc SGD_FAULTS 1 n).sgdEvent 0x0501 n [dU 1 n, dM 2 st, dT counter, dU 2 slot]

/-- The repeat run with one more payload of this CRC; whether it fails FROZEN (R559). -/
def Dev.sgdRun (d : Dev) (n crc : Nat) : Bool × Dev :=
  let x := d.sgdOf n
  let run := if x.lastCrc = some crc then satAdd 8 (d.fld SGD_RUN n) 1 else 0
  (d.fld SGD_FROZEN_N n != 0 && decide (d.fld SGD_FROZEN_N n ≤ run), (d.setF SGD_RUN run n).setSgd n { x with lastCrc := some crc })

/-- SGD_SEAL: the oldest doorbell's frame gets its header (R557). What cannot be read leaves the CRC open. -/
def Dev.sgdSeal (d : Dev) (n : Nat) : Dev :=
  let x := d.sgdOf n
  match x.bells with
  | [] => d
  | b :: r =>
    if !d.live || d.sgdMode n != 1 then d
    else
      let a := 4096 * d.fld SGD_RING_BASE n + b.slot * d.sgdBuf n
      let d := d.setSgd n { x with bells := r }
      let (st, bs, d) := d.accRead mgmtStop (a + 32) b.len
      let cnt := d.fld SGD_CNT n
      let head := leBytes 2 0x5A3C ++ leBytes 1 (d.fld SGD_SRC_ID n) ++ leBytes 1 0 ++ leBytes 4 b.len ++ leBytes 8 cnt ++ leBytes 8 b.at_
        ++ leBytes 4 0
      let (f, d) := d.draw
      let crc := if st = 0 then crc32 (head ++ bs) else f % 2 ^ 32
      let own := if st = 0 then crc32 bs else f / 2 ^ 32 % 2 ^ 32
      let d := (d.accWrite mgmtStop a (allOn (head ++ leBytes 4 crc))).2
      let d := d.setF SGD_CNT ((cnt + 1) % 2 ^ 64) n
      let (frozen, d) := d.sgdRun n own
      d.sgdVerdict n b.slot (bitIf frozen 8) 0 cnt

/-- The checks 3 to 8 of a guarded frame whose CRC matches: status bits, lost gap. -/
def Dev.sgdJudge (d : Dev) (n : Nat) (h : List Byte) (payload : List Byte) : Nat × Nat × Dev :=
  let x := d.sgdOf n
  let counter := leNat ((h.drop 8).take 8)
  let ts := leNat ((h.drop 16).take 8)
  let first := !d.flag SGD_BASELINE n
  let expected := if first then counter else d.fld SGD_CNT n
  let lost := decide (expected < counter)
  let age := d.fld SGD_MAX_AGE n
  let (frozen, d) := d.sgdRun n (crc32 payload)
  let st := bitIf (leNat ((h.drop 2).take 1) != d.fld SGD_SRC_ID n) 3 + bitIf (x.lastCnt == some counter) 4 + bitIf lost 5
    + bitIf (decide (counter < expected) || (x.lastTs.any fun t => decide (ts ≤ t))) 6
    + bitIf (age != 0 && decide (800 * age < d.now - ts)) 7 + bitIf frozen 8
  let d := if first ∨ lost = true then (d.setF SGD_CNT ((counter + 1) % 2 ^ 64) n).setF SGD_BASELINE 1 n else d
  (st, counter - expected, d)

/-- SGD_GUARD: the oldest doorbell's frame is judged (R558). A part that cannot be read counts as poisoned; a LEN out of range lets the CRC
run over the buffer (DEDUCED, log entry 81). -/
def Dev.sgdGuard (d : Dev) (n : Nat) : Dev :=
  let x := d.sgdOf n
  match x.bells with
  | [] => d
  | b :: r =>
    if !d.live || d.sgdMode n != 2 then d
    else
      let a := 4096 * d.fld SGD_RING_BASE n + b.slot * d.sgdBuf n
      let d := d.setSgd n { x with bells := r }
      let (st, h, d) := d.accRead mgmtStop a 32
      let len := leNat ((h.drop 4).take 4)
      let most := d.sgdBuf n - 32
      let (st', p, d) := d.accRead mgmtStop (a + 32) (if len = 0 ∨ most < len then most else len)
      let counter := leNat ((h.drop 8).take 8)
      let form := bitIf (leNat (h.take 2) != 0x5A3C || len == 0 || decide (most < len) || leNat ((h.drop 3).take 1) != 0
        || leNat ((h.drop 24).take 4) != 0) 1
      if st ≠ 0 ∨ st' ≠ 0 then d.sgdVerdict n b.slot (form + 2 ^ 9) 0 counter
      else if crc32 (h.take 28 ++ p) ≠ leNat (h.drop 28) then d.sgdVerdict n b.slot (form + 2 ^ 2) 0 counter
      else
        let (s, gap, d) := d.sgdJudge n h p
        let s := form + s
        let d := if s = 0 then (d.setSgd n { d.sgdOf n with lastCnt := some counter, lastTs := some (leNat ((h.drop 16).take 8)) }).setF SGD_CNT
            ((counter + 1) % 2 ^ 64) n else d
        d.sgdVerdict n b.slot s gap counter

/-- SGD_GAP: the channel has accepted no doorbell for MAX_GAP_US (R560). -/
def Dev.sgdGap (d : Dev) (n : Nat) : Dev :=
  let x := d.sgdOf n
  let g := d.fld SGD_MAX_GAP n
  match x.lastDb with
  | none => d
  | some t =>
    if !d.live || g == 0 || d.sgdMode n == 0 || x.gapUp then d
    else
      let d := (d.tickTo (t + 800 * g)).setSgd n { x with gapUp := true }
      d.sgdEvent 0x0503 n [dU 1 n, dN ((d.clk.tick - t) / 800)]

/-- A write to SGD_CH_CFG_n (R570): MODE passes through 0; setting it starts the channel afresh. -/
def Dev.sgdCfg (d : Dev) (n off bytes path v : Nat) : Dev :=
  let old := d.sgdMode n
  let new := bits v 0 2
  let d' := ((((d.setF SGD_CLASS_S (bits v 2 1) n).setF SGD_SRC_ID (bits v 8 8) n).setF SGD_FROZEN_N (bits v 16 8) n).setF SGD_MAX_GAP
    (bits v 32 16) n).setF SGD_MAX_AGE (bits v 48 16) n
  if old ≠ 0 ∧ new % 3 ≠ 0 ∧ new ≠ old then d'.csrAccess off bytes path 3
  else
    let d' := d'.setF SGD_MODE new n
    if new % 3 = old then d' else ((d'.setSgd n {}).setF SGD_RUN 0 n).setF SGD_BASELINE 0 n

/-! ## SAFE_N (R562 to R565) -/

/-- SAFE_PIN: the pad reads a level for 1 µs. -/
def Dev.safePin (d : Dev) (high : Bool) : Dev :=
  if !d.safLive then d
  else
    let d := d.setF SAF_PIN (if high then 1 else 0)
    if high = !d.safe.low then d
    else (d.setF SAF_PIN_MISMATCH 1).logEv 0x0208 .S 0 [dC (if d.safe.low then 0 else 1), dC (if high then 1 else 0)]

/-- A write to SAF_CLEAR. -/
def Dev.safClear (d : Dev) (off bytes path v : Nat) : Dev :=
  if bits v 48 16 ≠ 0x4C2D then d.csrAccess off bytes path 2
  else if !bitAt v 0 then d
  else if !d.safe.sticky.isEmpty || d.rst.rootLost || d.rst.tripped then d.csrAccess off bytes path 3
  else
    let was := d.fld SAF_FIRST_EVENT + d.fld SAF_FIRST_TS * 2 ^ 16
    (((d.setF SAF_S_PENDING 0).setF SAF_FIRST_EVENT 0).setF SAF_FIRST_TS 0).logEv 0x0209 .I 0 [dT was]

/-- SAFE_N_RELEASE: nothing asserts SAFE_N any more, 10 µs after it went low at the earliest. -/
def Dev.safeRelease (d : Dev) : Dev :=
  if !d.safLive || !d.safe.low || d.safeNLow then d
  else
    let d := d.tickTo (d.safe.lowAt + 8000)
    ({ d with safe := { d.safe with low := false } }.setF SAF_PIN 1).emit (.pulse "SAFE_N" 1)

end Sys2Proof.Machine
end

