-- ==== Sys2Proof/Machine/CeOps.lean ====
section
/-! DEFINITION. Command engines (chapter 14): lists, fetching, issuing, the commands' effects, completion, halts, seams and swaps. -/

namespace Sys2Proof.Machine
open Sys2Proof.Machine.Reg

/-! ## Legal commands (R393, R399, R400, R402 to R412) -/

/-- Bytes `lo` to `hi − 1` of a command. -/
def cmdBytes (b lo hi : Nat) : Nat := bits b (8 * lo) (8 * (hi - lo))
/-- They are all zero. -/
def zeroAt (b lo hi : Nat) : Bool := cmdBytes b lo hi == 0

/-- The opcodes of R400. -/
def opcOk (o : Nat) : Bool :=
  [0x00, 0x01, 0x02, 0x10, 0x11, 0x12, 0x13, 0x14, 0x20, 0x21, 0x22, 0x23, 0x24, 0x25, 0x26, 0x27, 0x28].contains o
/-- Opcodes whose TGT names one tile. -/
def oneTile (o : Nat) : Bool := o == 0x12 || o == 0x13 || o == 0x23

/-- The target tiles of a command of engine `e`; `none` for a TGT it does not admit. -/
def Dev.cmdTargets (d : Dev) (e b : Nat) : Option (List Nat) :=
  let o := cmdOpc b
  let g := cmdTgt b
  if !needsTile o then (if g = 255 then some [] else none)
  else if oneTile o && g == 255 then none
  else match d.targets e g with
    | some [] => none
    | r => r

/-- LAYER's fields (R402, R431, R436). -/
def Dev.layerOk (d : Dev) (e b : Nat) : Bool :=
  let mode := cmdBytes b 18 19
  let steps := cmdBytes b 16 18
  cmdBytes b 12 16 % 16 == 0 && decide (1 ≤ steps) && decide (steps ≤ 4096) && decide (mode ≤ 2) && decide (cmdBytes b 19 20 ≤ 1)
    && (if mode = 0 then zeroAt b 20 36 else d.weightsOk mode (cmdBytes b 20 28) (cmdBytes b 28 32) (cmdBytes b 32 36))
    && (mode != 1 || (cmdTgt b == 255 && steps % (d.flushTiles e).length == 0))
    && decide (cmdBytes b 48 49 ≤ 1) && zeroAt b 49 64

/-- VXRUN's fields (R404). -/
def vxrunOk (b : Nat) : Bool :=
  cmdBytes b 12 16 % 8 == 0 && cmdBytes b 20 24 % 2048 == 0 && decide (1 ≤ cmdBytes b 26 27) && decide (cmdBytes b 26 27 ≤ 16)
    && zeroAt b 27 28 && zeroAt b 60 64

/-- Bytes of COUNT elements of a format; a CI16 element is two scalars. -/
def checkBytes (f n : Nat) : Nat := fmtBytes f (if f = 9 then 2 * n else n)

/-- CHECK's fields (R410). -/
def Dev.checkOk (d : Dev) (b : Nat) : Bool :=
  let f := cmdBytes b 28 29
  let n := cmdBytes b 24 28
  decide (1 ≤ n) && decide (n ≤ 1048576) && (decide (f ≤ 6) || f == 9) && !d.outsideScratch (cmdBytes b 12 16) (checkBytes f n)
    && decide (cmdBytes b 29 30 ≤ 3) && cmdBytes b 32 40 % 64 == 0 && zeroAt b 44 64

/-- The fields of a command other than COPY and CONVERT's descriptors are legal (BAD_FIELD otherwise). -/
def Dev.cmdFieldsOk (d : Dev) (e b : Nat) (ts : List Nat) : Bool :=
  let o := cmdOpc b
  let k := cmdBytes b 12 13
  decide (bits b 8 8 ≤ 7) && (needsTile o || cmdBytes b 3 4 == 0) &&
  match o with
  | 0x00 => zeroAt b 12 64
  | 0x01 => zeroAt b 12 64
  | 0x02 => zeroAt b 12 16 && cmdBytes b 16 24 % 64 == 0 && zeroAt b 24 64
  | 0x10 => d.layerOk e b
  | 0x11 => vxrunOk b
  | 0x12 => zeroAt b 44 64
  | 0x13 => !bitAt b (96 + 127) && zeroAt b 48 64
  | 0x14 => decide (cmdBytes b 48 49 ≤ 3) && cmdBytes b 48 49 != 2 && zeroAt b 49 64 && ts.all fun t => d.evOk t (evOf e 0 b)
  | 0x20 => decide (k ≤ 2) && zeroAt b 13 16 && cmdBytes b 16 24 % 8 == 0 && zeroAt b 44 64
  | 0x21 => decide (k ≤ 3) && decide (cmdBytes b 13 14 ≤ 63) && decide (cmdBytes b 14 15 ≤ 63) && zeroAt b 15 16
      && cmdBytes b 16 24 % 8 == 0 && decide (cmdBytes b 32 34 ≤ 255) && decide (cmdBytes b 34 35 ≤ 15) && decide (cmdBytes b 35 36 ≤ 3)
      && zeroAt b 36 64
  | 0x22 => bitAt (cmdBytes b 12 14) e && decide (cmdBytes b 14 15 ≤ 15) && decide (cmdBytes b 15 16 ≤ 1) && zeroAt b 16 64
  | 0x23 => d.checkOk b
  | 0x24 => decide (k ≤ 1) && zeroAt b 13 16 && cmdBytes b 16 24 % 16 == 0 && zeroAt b 24 64
  | 0x25 => decide (k ≤ 95) && decide (cmdBytes b 13 14 ≤ 1) && zeroAt b 14 16 && zeroAt b 24 64
      && (cmdBytes b 13 14 == 1 || decide (cmdBytes b 16 20 < cmdBytes b 20 24))
  | 0x26 => decide (k ≤ 95) && zeroAt b 13 64
  | 0x27 => decide (cmdBytes b 14 15 ≤ 1) && zeroAt b 15 64
  | _ => decide (cmdBytes b 13 14 ≤ 1) && zeroAt b 14 64

/-- The descriptor of a COPY or CONVERT as a copy of tile `t`. -/
def cmdCopy (e seq b : Nat) (cur : List Nat) : CopyJob :=
  let j := copyOf (cmdBytes b 12 44) 0 (some (e, seq)) cur
  if cmdOpc b = 0x13 then { j with cvt := some (cmdBytes b 44 48) } else j

/-- The status a command fails with at issue, 0 for none, whether its cause has its own entry (R400, R405, R414; order DEDUCED, log
entry 90). -/
def Dev.cmdCheck (d : Dev) (e b : Nat) : Nat × Bool × Dev :=
  let o := cmdOpc b
  if !opcOk o then (1, false, d)
  else match d.cmdTargets e b with
  | none => (3, false, d)
  | some ts =>
    if !d.cmdFieldsOk e b ts then (2, false, d)
    else if o = 0x12 ∨ o = 0x13 then
      let t := ts.headD 0
      let j := cmdCopy e 0 b []
      if d.copyBad t (cmdBytes b 12 44) j then (6, false, d.copyRefused t j)
      else match j.cvt with
        | some x =>
          let r := cvtReject (cvtSrc x) x (rowScalars x j.len)
          if r = 0 then (0, false, d) else (5, true, d.cvtRejected t r x 1)
        | none => (0, false, d)
    else (0, false, d)

/-! ## Engine state -/

/-- Commands in flight, those of a reset engine aside (R391, R422). -/
def Eng.live (x : Eng) : List Cmd := x.flight.filter fun c => decide (c.seq < 2 ^ 24)

/-- Entries a queue holds (R395). -/
def Dev.queueLen (d : Dev) (e q : Nat) : Nat :=
  let n := d.fld CE_QSIZE e q
  if n = 0 then 0 else (d.fld CE_QTAIL e q + 4096 * n - d.fld CE_QHEAD e q) % n

/-- Queue `q` holds posted entries, or its entry list has not started. -/
def Dev.queueHas (d : Dev) (e q : Nat) : Bool := Sparse.get 0 (d.engOf e).entry q != 0 || d.queueLen e q != 0

/-- A pending swap whose time has come. -/
def Dev.swapDue (d : Dev) (e : Nat) : Bool := d.flag CE_SWAP_PENDING e && decide (d.fld CE_SWAP_AT e ≤ d.now)

/-- A preemption is due at the next seam (R397). -/
def Dev.preemptDue (d : Dev) (e : Nat) : Bool :=
  let x := d.engOf e
  d.flag CE_PREEMPT e && x.susp.isNone && d.queueHas e 0 && x.run.any fun l => l.queue != 0

/-- The first failure of the list shows in CE_ERR_SEQ (R415). -/
def Dev.showErr (d : Dev) (e : Nat) (l : CList) : Dev :=
  ((d.setF CE_ERR_SEQ l.failSeq e).setF CE_ERR_CODE l.status e).setF CE_ERR_USER l.failUser e

/-- A list becomes the running one. -/
def Dev.listRun (d : Dev) (e : Nat) (l : CList) : Dev :=
  let d := d.setEng e { d.engOf e with run := some l, seam := true }
  (((d.setF CE_STATE 1 e).setF CE_QUEUE l.queue e).showErr e l).llBegin e l.next (l.id * 2 ^ 32 + l.pos)

/-- A new list of an engine. -/
def Dev.listNew (d : Dev) (e addr q compl user vec : Nat) : Dev :=
  let x := d.engOf e
  (d.setEng e { x with nextId := x.nextId + 1 }).listRun e
    { id := x.nextId, start := addr, next := addr, queue := q, compl := compl, user := user, vector := vec }

/-- The running list ends; its record follows once its commands have completed (R416). -/
def Dev.listOver (d : Dev) (e flags : Nat) : Dev :=
  let x := d.engOf e
  match x.run with
  | none => d
  | some l =>
    let d := d.setEng e { x with run := none, ending := x.ending ++ [{ l with ended := true, flags := Nat.lor l.flags flags }], seam := true }
    if x.susp.isNone then d.setF CE_STATE 0 e else d

/-- Change the list with an id, wherever it stands. -/
def Eng.onList (x : Eng) (id : Nat) (f : CList → CList) : Eng :=
  let g (l : CList) : CList := if l.id = id then f l else l
  { x with run := x.run.map g, susp := x.susp.map g, ending := x.ending.map g }

/-! ## Completion records (R411, R416) -/

/-- The 32 bytes of a list's record. -/
def listRecord (ts e : Nat) (l : CList) : List Byte :=
  leBytes 8 ts ++ leBytes 4 l.user ++ leBytes 4 l.done ++ leBytes 1 l.status ++ leBytes 1 l.flags ++ leBytes 2 0
    ++ leBytes 4 (l.failSeq + e * 2 ^ 24) ++ leBytes 4 l.poison ++ leBytes 4 l.failUser

/-- A list's record is written, then its vector raised. -/
def Dev.writeRecord (d : Dev) (e : Nat) (l : CList) : Dev :=
  let d := if l.compl = 0 then d else (d.anyWrite 0 e l.compl (allOn (listRecord d.now e l))).2
  if l.vector = 0xFFFF then d else d.msix l.vector

/-- LIST_COMPLETE: a list that has ended and whose commands have all completed. -/
def Dev.listComplete (d : Dev) (e : Nat) : Dev :=
  let x := d.engOf e
  match x.ending.find? fun l => !x.live.any fun c => c.list == l.id with
  | none => d
  | some l => (d.setEng e { x with ending := x.ending.filter fun m => m.id != l.id }).writeRecord e l

/-! ## LIST_TAKE (R394 to R397) -/

/-- A queue entry's 32 bytes are legal (R394). -/
def entryOk (v : Nat) : Bool :=
  bits v 0 6 == 0 && bits v 64 5 == 0 && (decide (bits v 160 16 < 256) || bits v 160 16 == 0xFFFF) && bits v 176 80 == 0

/-- The head entry of queue `q` is taken. -/
def Dev.takePosted (d : Dev) (e q : Nat) : Dev :=
  let h := d.fld CE_QHEAD e q % max 1 (d.fld CE_QSIZE e q)
  let (st, bs, d) := d.accRead 0 (32 * d.fld CE_QBASE e q + 32 * h) 32 false false e
  let d := d.setF CE_QHEAD ((h + 1) % max 1 (d.fld CE_QSIZE e q)) e q
  let v := leNat bs
  let compl := bits v 64 64
  let vec := bits v 160 16
  if st = 0 ∧ entryOk v = true then d.listNew e (bits v 0 64) q compl (bits v 128 32) vec
  else
    let d := d.logEv 0x2004 .D e [dU 1 q, dO h, dB 16 (v % 2 ^ 128)]
    if st = 0 ∧ compl % 32 = 0 then
      d.writeRecord e { id := 0, start := 0, next := 0, queue := q, compl := compl, user := bits v 128 32, status := 17,
                        vector := if vec < 256 then vec else 0xFFFF }
    else d

/-- LIST_TAKE: the next list, where no swap takes its place: the suspended one when queue 0 is empty, else the lowest queue's. -/
def Dev.listTake (d : Dev) (e : Nat) : Dev :=
  let x := d.engOf e
  if !d.released || x.run.isSome || d.fld CE_STATE e == 2 || d.swapDue e then d
  else match x.susp with
    | some l =>
      if d.queueHas e 0 then take d 0 else ((d.setEng e { x with susp := none }).setF CE_SUSPENDED 0 e).listRun e l
    | none =>
      match (upTo 4).find? (d.queueHas e) with
      | some q => take d q
      | none => d
where
  /-- The first list of queue `q`. -/
  take (d : Dev) (q : Nat) : Dev :=
    let x := d.engOf e
    let a := Sparse.get 0 x.entry q
    if a = 0 then d.takePosted e q
    else (d.setEng e { x with entry := Sparse.set 0 x.entry q 0 }).listNew e (a - 1) q 0 0 0xFFFF

/-! ## Failures and halts (R414, R415) -/

/-- A failure is reported: an entry unless its cause has one, the list's first failure, and under STOP the end of issue. -/
def Dev.cmdFailed (d : Dev) (e list seq opc st user : Nat) (logged : Bool) : Dev :=
  let x := (d.engOf e).onList list fun l => if l.status = 0 then { l with status := st, failSeq := seq, failUser := user } else l
  let start := ((x.run.toList ++ x.susp.toList ++ x.ending).find? fun l => l.id == list).map (·.start)
  let d := d.setEng e x
  let d := match x.run with
    | some l => if l.id = list then d.showErr e l else d
    | none => d
  let d := if logged then d else d.logEv 0x2001 .D e [dN seq, dC opc, dC st, dN user, dA (start.getD 0)]
  if d.flag CE_ON_ERR e || (d.engOf e).stopAt.isSome then d else d.setEng e { d.engOf e with stopAt := some (seq, st) }

/-- Issue has been stopped and the last command in flight has completed: HALTED, CE_HALT, HALT_VEC. -/
def Dev.haltNow (d : Dev) (e : Nat) : Dev :=
  let x := d.engOf e
  match x.stopAt with
  | none => d
  | some (seq, st) =>
    if x.live.isEmpty then
      (((d.setEng e { x with stopAt := none }).setF CE_STATE 2 e).logEv 0x2002 .F e [dN seq, dC st, dU 1 (d.fld CE_QUEUE e)]).msix
        (d.fld CE_HALT_VEC e)
    else d

/-- LIST_FETCH (R401): the rest of the aligned 1,024 bytes; a failing fetch halts the list, or ends it under SKIP. -/
def Dev.listFetch (d : Dev) (e : Nat) : Dev :=
  let x := d.engOf e
  match x.run with
  | none => d
  | some l =>
    if !d.released || d.fld CE_STATE e != 1 || x.stopAt.isSome || !l.buf.isEmpty then d
    else
      let n := 1024 - l.next % 1024
      let (st, bs, d) := d.accRead 0 l.next n false false e
      if st = 0 then d.setEng e { d.engOf e with run := some { l with buf := bs, fetched := l.next + n } }
      else
        let d := d.cmdFailed e l.id (d.fld CE_NEXT_SEQ e) 0 16 0 false
        if d.flag CE_ON_ERR e then (d.listOver e 0).llDiscard e else d.haltNow e

/-- CE_CTL.RESUME and DROP while HALTED; DROP goes first (R415). -/
def Dev.ceResume (d : Dev) (e : Nat) : Dev :=
  let d := d.setEng e { d.engOf e with stopAt := none }
  d.setF CE_STATE (if (d.engOf e).run.isSome || (d.engOf e).susp.isSome then 1 else 0) e
/-- DROP ends the list. -/
def Dev.ceDrop (d : Dev) (e : Nat) : Dev :=
  let d := d.setEng e { d.engOf e with stopAt := none }
  let d := d.setF CE_STATE (if (d.engOf e).susp.isSome then 1 else 0) e
  (d.listOver e 32).llDiscard e

/-- A write to CE_CTL. -/
def Dev.ceCtl (d : Dev) (e v : Nat) : Dev :=
  let d := (((d.setF CE_ON_ERR (bits v 0 1) e).setF CE_PREEMPT (bits v 1 1) e).setF CE_HALT_VEC (bits v 8 8) e).setF CE_CMD_VEC (bits v 16 8) e
  if d.fld CE_STATE e ≠ 2 then d else if bitAt v 3 then d.ceDrop e else if bitAt v 2 then d.ceResume e else d

/-! ## Seams: preemption and swaps (R397, R417 to R419) -/

/-- PREEMPT: queue 0's list suspends the running one at a seam. -/
def Dev.preempt (d : Dev) (e : Nat) : Dev :=
  let x := d.engOf e
  match x.run with
  | none => d
  | some l =>
    if !d.released || d.fld CE_STATE e != 1 || !x.seam || d.swapDue e || !d.preemptDue e then d
    else
      let d := (d.setEng e { x with run := none, susp := some { l with flags := Nat.lor l.flags 16 } }).setF CE_SUSPENDED 1 e
      d.llDiscard e

/-- The swap happens: the old list, its wicks and its run-ahead go, the new list starts in the same queue. -/
def Dev.swapNow (d : Dev) (e : Nat) : Dev :=
  let x := d.engOf e
  let gone := (x.run.map fun l => (l.id, l.start)).or x.endSeam
  let old := (gone.map (·.2)).getD 0
  let ws := match gone with
    | some l => d.wicksOf e (some l.1)
    | none => []
  let addr := 64 * d.fld CE_SWAP_ADDR e
  let mask := (ws.map fun n => 2 ^ n).sum
  let d := ws.foldl Dev.wickOff (((d.setEng e { x with endSeam := none }).listOver e 8).llDiscard e)
  let d := ((d.setF CE_SWAP_PENDING 0 e).inc CE_CNT_SWAPS 1 e).logEv 0x2003 .I e [dA old, dA addr, dN (d.fld CE_NEXT_SEQ e), dM 12 mask]
  d.listNew e addr (d.fld CE_QUEUE e) (32 * d.fld CE_SWAP_COMPL e) 0 0xFFFF

/-- CE_SWAP: the first seam at or after AT; an idle engine swaps as soon as AT is there. -/
def Dev.ceSwap (d : Dev) (e : Nat) : Dev :=
  let x := d.engOf e
  if !d.released || !d.flag CE_SWAP_PENDING e || d.fld CE_STATE e == 2 || x.stopAt.isSome || !x.seam then d
  else (d.passTo (d.fld CE_SWAP_AT e)).swapNow e

/-- A write to CE_SWAP_CTL with GO (R418, R420). -/
def Dev.swapGo (d : Dev) (e off bytes path v : Nat) : Dev :=
  if bits v 48 16 ≠ 0x2C6B then d.csrAccess off bytes path 2
  else if !bitAt v 0 then d
  else if d.flag CE_SWAP_PENDING e || (d.running && d.fld CE_SWAP_AT e == 0) then d.csrAccess off bytes path 3
  else
    let d := d.setF CE_SWAP_PENDING 1 e
    if d.fld CE_STATE e = 0 ∧ d.swapDue e = true then d.ceSwap e else d

/-! ## What the engine's own commands do (R407 to R409, R412) -/

/-- A command in flight that needs no tile has done what it does. -/
def Dev.cmdDone (d : Dev) (e seq : Nat) : Dev := d.updCmd e seq fun c => { c with done := true }
/-- It fails. -/
def Dev.cmdFail (d : Dev) (e seq st : Nat) : Dev := d.updCmd e seq fun c => { c.fail st false with done := true }
/-- Done, or BAD_FIELD for an address that answers a failing status (DEDUCED, log entry 91). -/
def Dev.cmdWrote (d : Dev) (e seq st : Nat) : Dev := if st = 0 then d.cmdDone e seq else d.cmdFail e seq 2

/-- A WAIT reads its memory, or the timestamp, and ends when its condition holds (R407). -/
def Dev.waitCheck (d : Dev) (e seq b : Nat) : Dev :=
  let value := cmdBytes b 24 32
  let mask := cmdBytes b 32 40
  let over_ (d : Dev) : Dev := d.setEng e { d.engOf e with wait := .none }
  if cmdBytes b 12 13 = 2 then (if value ≤ d.now then (over_ d).cmdDone e seq else d)
  else
    let (st, bs, d) := d.accRead 0 (cmdBytes b 16 24) 8 false false e
    let m := Nat.land (leNat bs) mask
    if st ≠ 0 then (over_ d).cmdFail e seq 2
    else if (if cmdBytes b 12 13 = 0 then decide (value ≤ m) else m == value) then (over_ d).cmdDone e seq
    else d

/-- When a WAIT with a TIMEOUT expires. -/
def waitEnds (since b : Nat) : Option Nat := let t := cmdBytes b 40 44; if t = 0 then none else some (since + 800 * t)

/-- The engine's own access a command makes, to a tile that hands over: it is held (R28). -/
def Dev.ceHeld (d : Dev) (b : Nat) : Bool :=
  let own := match cmdOpc b with
    | 0x20 => decide (cmdBytes b 12 13 ≤ 1)
    | 0x21 => cmdBytes b 12 13 == 0
    | 0x24 => true
    | _ => false
  own && d.addrHeld (cmdBytes b 16 24)

/-- WAIT_POLL: one more look; a WAIT for the timestamp brings that tick when no TIMEOUT comes first. -/
def Dev.waitPoll (d : Dev) (e : Nat) : Dev :=
  match (d.engOf e).wait with
  | .none => d
  | .cond seq since =>
    if !d.released then d
    else match d.cmdOf e seq with
      | none => d
      | some c =>
        let v := cmdBytes c.bytes 24 32
        let d := if cmdBytes c.bytes 12 13 = 2 ∧ (waitEnds since c.bytes).all (fun t => decide (d.clk.tick + (v - d.now) < t)) = true then d.passTo v
          else d
        if d.ceHeld c.bytes then d else d.waitCheck e seq c.bytes

/-- WAIT_TIMEOUT. -/
def Dev.waitTimeout (d : Dev) (e : Nat) : Dev :=
  match (d.engOf e).wait with
  | .none => d
  | .cond seq since =>
    match (d.cmdOf e seq).bind fun c => waitEnds since c.bytes with
    | none => d
    | some t => if d.released then ((d.tickTo t).setEng e { d.engOf e with wait := .none }).cmdFail e seq 10 else d

/-- SIGNAL (R408). -/
def Dev.ceSignal (d : Dev) (e seq b : Nat) : Dev :=
  match cmdBytes b 12 13 with
  | 0 => let (st, d) := d.anyWrite 0 e (cmdBytes b 16 24) (allOn (leBytes 8 (cmdBytes b 24 32))); d.cmdWrote e seq st
  | 1 => (d.arriveAt (cmdBytes b 14 15) (cmdBytes b 13 14)).cmdDone e seq
  | 2 => (d.msix (cmdBytes b 32 34)).cmdDone e seq
  | _ =>
    let f := cmdBytes b 34 35
    let q := cmdBytes b 35 36
    let n := d.fld CE_QSIZE f q
    (if n = 0 then d else d.setF CE_QTAIL ((d.fld CE_QTAIL f q + 1) % n) f q).cmdDone e seq

/-- BARRIER (R409): this engine arrives; different EMASKs complete all, the last arrival completes all. -/
def Dev.ceBarrier (d : Dev) (e seq b : Nat) : Dev :=
  let mask := cmdBytes b 12 14
  let bid := cmdBytes b 14 15
  let colony := bitAt (cmdBytes b 15 16) 0
  let x := d.engOf e
  let d := d.setEng e { x with bars := x.bars ++ [(bid, mask, seq, colony)] }
  let same (k : Nat × Nat × Nat × Bool) : Bool := k.1 == bid && k.2.2.2 == colony
  let all := (upTo 16).flatMap fun f => (d.engOf f).bars.filter same
  if all.any fun k => k.2.1 != mask then d.barEnd 11 same
  else if colony then d.barColony bid
  else if (maskBits 16 mask).all fun f => (d.engOf f).bars.any same then d.barEnd 0 same
  else d

/-- The timestamp record of TSTAMP. -/
def Dev.ceStamp (d : Dev) (e seq b : Nat) : Dev :=
  let (st, d) := d.anyWrite 0 e (cmdBytes b 16 24) (allOn (leBytes 8 d.now ++ leBytes 8 (seq + e * 2 ^ 24)))
  d.cmdWrote e seq st

/-- A wick armed for another engine or the CSR path (R412). -/
def Dev.wickElsewhere (d : Dev) (n e : Nat) : Bool := d.fld WICK_STATE n == 1 && (!d.flag WICK_BIND n || d.fld WICK_ENGINE n != e)

/-- WICK. -/
def Dev.ceWick (d : Dev) (e seq list b : Nat) : Dev :=
  let n := cmdBytes b 12 13
  if d.wickElsewhere n e then d.cmdFail e seq 15
  else if cmdBytes b 13 14 = 1 then (d.wickOff n).cmdDone e seq
  else (((d.setF WICK_OPEN (cmdBytes b 16 20) n).setF WICK_CLOSE (cmdBytes b 20 24) n).wickArmed n (some (e, list))).cmdDone e seq

/-- LOCK: the request goes to stop 59. -/
def Dev.ceLock (d : Dev) (e seq b : Nat) : Dev := d.lockAsk 0 e (seq % 2048) (cmdBytes b 12 13) (if cmdBytes b 13 14 = 1 then 2 else 1)

/-- The answer to a LOCK (R252, R412); BUSY asks again (DEDUCED, log entry 92). -/
def Dev.ceLockAnswer (d : Dev) (e tag res : Nat) : Dev :=
  match (d.engOf e).live.find? fun c => c.seq % 2048 == tag && cmdOpc c.bytes == 0x28 && !c.done with
  | none => d
  | some c =>
    match res with
    | 1 => d.cmdFail e c.seq 13
    | 2 => d.ceLock e c.seq c.bytes
    | 3 => d.cmdFail e c.seq 14
    | 5 => d.cmdFail e c.seq 14
    | _ => d.cmdDone e c.seq

/-- What a legal command that needs no tile does as it issues. -/
def Dev.ceOwn (d : Dev) (e seq list b : Nat) : Dev :=
  match cmdOpc b with
  | 0x20 => (d.setEng e { d.engOf e with wait := .cond seq d.clk.tick }).waitCheck e seq b
  | 0x21 => d.ceSignal e seq b
  | 0x22 => d.ceBarrier e seq b
  | 0x24 => if cmdBytes b 12 13 = 0 then d.ceStamp e seq b else d
  | 0x25 => d.ceWick e seq list b
  | 0x26 => (d.wickKickBy (cmdBytes b 12 13) e).cmdDone e seq
  | 0x28 => d.ceLock e seq b
  | _ => d.cmdDone e seq

/-! ## Issue (R391, R401, R417) -/

/-- A command that has failed under STOP holds issue until it is reported (R415). -/
def Dev.stopHolds (d : Dev) (e : Nat) : Bool :=
  let x := d.engOf e
  x.stopAt.isSome || (!d.flag CE_ON_ERR e && x.live.any fun c => c.status != 0 && c.todo.isEmpty && c.on.isEmpty)

/-- The command that stands next, when the engine may issue it (R401) and no handover holds its access (R28). -/
def Dev.mayIssue (d : Dev) (e : Nat) : Option (CList × Nat) :=
  let x := d.engOf e
  match x.run with
  | none => none
  | some l =>
    let b := leNat (l.buf.take 64)
    let o := cmdOpc b
    let needAll := cmdOrder b || o == 0x01 || o == 0x22
    if !d.released || d.rst.pfail || d.fld CE_STATE e != 1 || x.wait != .none || d.stopHolds e || decide (64 ≤ x.live.length)
        || decide (l.buf.length < 64) || (x.seam && (d.swapDue e || d.preemptDue e)) || (needAll && x.live.any fun c => c.list == l.id)
        || d.ceHeld b then none
    else some (l, b)

/-- EXPECT of the command's counter rises in each target tile (R399). -/
def Dev.ceArm (d : Dev) (b : Nat) (ts : List Nat) : Dev :=
  if !bitAt b 30 then d
  else ts.foldl (fun d t =>
    let x := d.tileOf t
    let k := bits b 24 6
    d.setTile t { x with expect := Sparse.set 0 x.expect k ((x.expectOf k + bits b 32 32) % 2 ^ 32) }) d

/-- The next command of the running list is issued. -/
def Dev.ceIssue (d : Dev) (e : Nat) (l : CList) (b : Nat) : Dev :=
  let seq := d.fld CE_NEXT_SEQ e
  let o := cmdOpc b
  let (st, logged, d) := d.cmdCheck e b
  let ts := if st = 0 then (d.cmdTargets e b).getD [] else []
  let cmd : Cmd := { seq := seq, bytes := b, addr := l.next, list := l.id, pos := l.pos, todo := ts, status := st, logged := logged,
                     done := st != 0 }
  let link := st == 0 && o == 0x02
  let next := if link then cmdBytes b 16 24 else l.next + 64
  let l' : CList := { l with next := next, buf := if link then [] else l.buf.drop 64, pos := l.pos + 1 }
  let x := d.engOf e
  let d := (d.setEng e { x with run := some l', flight := x.flight ++ [cmd], seam := !bitAt b 9 || o == 0x01 || o == 0x02 }).setF CE_NEXT_SEQ
    ((seq + 1) % 2 ^ 24) e
  if st ≠ 0 then (d.flushTiles e).foldl (fun d t => d.llDrop t fun y => y.engine == e && y.pos == l.id * 2 ^ 32 + l.pos) d
  else if o = 0x01 then
    let d := (d.cmdDone e seq).listOver e 0
    if d.swapDue e then d.setEng e { d.engOf e with endSeam := some (l.id, l.start) } else d
  else if needsTile o then ts.foldl (fun d t => d.llIssue e l.next (l.id * 2 ^ 32 + l.pos) b seq t) (d.ceArm b ts)
  else d.ceOwn e seq l.id b

/-- A row of the opcode table: the engine issues its next command when that has this opcode. NOP's row also takes opcodes of no
command (R400). -/
def Dev.ceRow (d : Dev) (e opc : Nat) : Dev :=
  match d.mayIssue e with
  | none => d
  | some (l, b) => if cmdOpc b = opc ∨ (opc = 0 ∧ opcOk (cmdOpc b) = false) then d.ceIssue e l b else d

/-! ## CHECK (R410, R411) -/

/-- The ordered integer of a float pattern. -/
def ordered (f v : Nat) : Int :=
  let w := scalarBits f
  if bitAt v (w - 1) then -(v % 2 ^ (w - 1) : Nat) else (v : Int)

/-- One scalar pair: distance, exactly one or both NaN, a zero of each sign. -/
def scalarDist (f a b : Nat) : Nat :=
  if isFloat f then (ordered f a - ordered f b).natAbs else (toSigned (scalarBits f) a - toSigned (scalarBits f) b).natAbs

/-- What CHECK has counted. -/
structure Verdict where
  fails : Nat := 0
  first : Nat := 0xFFFFFFFF
  dist  : Nat := 0
  at_   : Nat := 0
  nans  : Nat := 0
  poison : Bool := false

/-- Element `i`: raw scalars of both sides, and whether an input is poisoned. -/
def Verdict.elem (r : Verdict) (f tol : Nat) (nanEq zeroSign : Bool) (i : Nat) (ps : List (Nat × Nat)) (bad : Bool) : Verdict :=
  let dist := (ps.map fun p => scalarDist f p.1 p.2).foldl max 0
  let nan (v : Nat) : Bool := isFloat f && ((ffmt f).dec v).isNan
  let a := (ps.headD (0, 0)).1
  let b := (ps.headD (0, 0)).2
  let one := nan a != nan b
  let two := nan a && nan b
  let zeros := isFloat f && ((ffmt f).dec a).isZero && ((ffmt f).dec b).isZero && a != b
  let miss := one || (two && !nanEq)
  let fail := bad || miss || (!two && decide (tol < dist)) || (zeroSign && zeros)
  let r := if bad then { r with poison := true } else r
  let r := if miss then { r with nans := r.nans + 1 } else r
  let r := if r.dist < dist ∧ bad = false ∧ one = false ∧ two = false then { r with dist := dist, at_ := i } else r
  if fail then { r with fails := r.fails + 1, first := min r.first i } else r

/-- The 64-byte verdict record. -/
def verdictBytes (ts case count seq e : Nat) (r : Verdict) : List Byte :=
  leBytes 8 ts ++ leBytes 4 case ++ leBytes 4 count ++ leBytes 4 r.fails ++ leBytes 4 r.first ++ leBytes 4 (min r.dist (2 ^ 32 - 1)) ++ leBytes 4 r.at_
    ++ leBytes 4 r.nans ++ leBytes 4 (seq % 2 ^ 24 + e * 2 ^ 24) ++ leBytes 1 (if r.fails = 0 ∧ r.poison = false then 1 else 0)
    ++ leBytes 1 (if r.poison then 1 else 0) ++ leBytes 22 0

/-- CHECK on its tile, from its start to its verdict. -/
def Dev.ceCheck (d : Dev) (e seq t b : Nat) : Dev :=
  let f := cmdBytes b 28 29
  let n := cmdBytes b 24 28
  let per := if f = 9 then 2 else 1
  let gold := cmdBytes b 16 24
  let dut := cmdBytes b 12 16
  let len := checkBytes f n
  let st := d.accStatus gold len
  if st ≠ 0 then (d.logStatus st gold len (d.stopOf t)).partFail e seq t 2 false
  else
    let (ds, dbad, d) := d.sramRead t dut len 1
    let (gs, gbad, d) := d.evLines (d.stopOf t) gold len
    let size := per * scalarBits f / 8
    let r := (upTo n).foldl (fun (r : Verdict) i =>
      let ps := (upTo per).map fun k => (scalarRaw f ds (per * i + k), scalarRaw f gs (per * i + k))
      let lines := (linesOf (gold + i * size) size).map fun k => gbad.getD (k - gold / 256) false
      r.elem f (cmdBytes b 30 32) (bitAt (cmdBytes b 29 30) 0) (bitAt (cmdBytes b 29 30) 1) i ps
        ((dbad && d.badAt t (dut + i * size) size) || lines.any id)) {}
    let (ws, d) := d.anyWrite (d.stopOf t) 0 (cmdBytes b 32 40) (allOn (verdictBytes d.now (cmdBytes b 40 44) n seq e r))
    if ws ≠ 0 then d.partFail e seq t 2 false else d.partDone e seq t

/-! ## CMD_TILE_START (R399, R401 to R406, R430) -/

/-- The unit a command needs is free on tile `t` (R401, R404, R405, R410, R430, R461). -/
def Dev.unitFree (d : Dev) (t : Nat) (c : Cmd) (e : Nat) : Bool :=
  let x := d.tileOf t
  let idle (g : Nat) : Bool := (x.grp g).st == 0
  match cmdOpc c.bytes with
  | 0x10 => x.layer.isNone && (bits c.bytes 144 8 == 0 || (d.llOf t e c.seq).any fun y => y.st == 3 || y.st == 4)
  | 0x11 => (upTo (cmdBytes c.bytes 26 27)).all idle
  | 0x12 => x.copyRoom
  | 0x13 => x.copyRoom
  | 0x14 => x.ev.isNone && (upTo 16).all idle
  | 0x23 => (upTo 16).any idle
  | _ => true

/-- The counter a command with ACW.WAIT waits on has been reached (R399). -/
def Dev.acwOk (d : Dev) (t b : Nat) : Bool := !bitAt b 31 || (d.tileOf t).reached (bits b 24 6)

/-- The groups of a VXRUN start on a tile (R366, R404). -/
def Dev.vxLaunch (d : Dev) (e seq t b : Nat) : Dev :=
  let n := cmdBytes b 26 27
  let size := 2048 * cmdBytes b 24 26
  (upTo n).foldl (fun d g =>
    let y := d.grp t g
    let base := cmdBytes b 20 24 + g * size
    let glob := (upTo 8).foldl (fun m r => (upTo 32).foldl (fun m lane => Sparse.set 0 m (r * 32 + lane) (cmdBytes b (28 + 4 * r) (32 + 4 * r))) m) y.glob
    d.setGrp t g { y with st := 1, inTrap := false, cause := 0, wdcause := 0, frame := 0, live := 1, spill := 0, repark := 0,
                          pc := cmdBytes b 12 16, base := base, limit := base + size, active := 2 ^ 32 - 1, alive := 2 ^ 32 - 1, stack := [],
                          glob := glob, trapVec := cmdBytes b 16 20, ngrp := n, wait := .none, run := some (e, seq), badStore := none,
                          cur := d.curNow t }) d

/-- REPLAY on a tile: its parked groups of the mask resume or end (R380, R412). -/
def Dev.ceReplay (d : Dev) (t b : Nat) : Dev :=
  (maskBits 16 (cmdBytes b 12 14)).foldl (fun d g =>
    if (d.grp t g).st ≠ 3 then d else if cmdBytes b 14 15 = 1 then d.groupEnd t g true else d.replayGroup t g) d

/-- The part of command `c` starts on tile `t`. -/
def Dev.tileStart (d : Dev) (e t : Nat) (c : Cmd) : Dev :=
  let b := c.bytes
  let d := d.updCmd e c.seq fun c => { c with todo := c.todo.erase t, on := c.on ++ [t] }
  match cmdOpc b with
  | 0x10 =>
    let ts := d.flushTiles e
    let y := d.llOf t e c.seq
    let d := if y.any fun y => y.st == 4 then d.partFail e c.seq t 16 false
      else d.layerStart e c.seq t b (ts.countP fun u => decide (u < t)) ts.length 1
    if bits b 144 8 = 1 then d.rotate e c.seq else d
  | 0x11 => d.vxLaunch e c.seq t b
  | 0x12 => d.copyPut t (cmdCopy e c.seq b (d.curNow t))
  | 0x13 => d.copyPut t (cmdCopy e c.seq b (d.curNow t))
  | 0x14 => d.setTile t { d.tileOf t with ev := some (evOf e c.seq b) }
  | 0x23 => d.ceCheck e c.seq t b
  | _ => (d.ceReplay t b).partDone e c.seq t

/-- A handover holds the part of a command on a tile, or what its CHECK reads and writes (R28, R541). -/
def Dev.partHeld (d : Dev) (t b : Nat) : Bool :=
  d.tileMoves t || (cmdOpc b == 0x23 && (d.addrHeld (cmdBytes b 16 24) || d.addrHeld (cmdBytes b 32 40)))

/-- CMD_TILE_START: in issue order on each tile, once its counter and its unit allow it. -/
def Dev.cmdTileStart (d : Dev) (e seq t : Nat) : Dev :=
  let d := d.llTidy t
  match (d.engOf e).flight.find? fun c => c.todo.contains t with
  | none => d
  | some c =>
    if !d.released || c.seq % 2 ^ 24 != seq || d.tileResetting t || d.partHeld t c.bytes || !d.acwOk t c.bytes || !d.unitFree t c e then d
    else (d.tileStart e t c).llTidy t

/-! ## CMD_COMPLETE (R354, R355, R413 to R415) -/

/-- The update of R354 and R355 for channel `n` after a command that ran on tiles `ts`. -/
def Dev.autoScale (d : Dev) (e seq n : Nat) (ts : List Nat) : Dev :=
  let key := gatherKey e seq n
  let who := ts.filter fun t => NatSet.has (d.tileOf t).gathered key
  let wide := who.filter fun t => d.flag SCALE_FLUSHWIDE t n && d.flag SCALE_AUTO_EN t n && !d.flag SCALE_PIN t n
  let sug (t : Nat) : Int := toSigned 7 (d.fld SCALE_SUGGEST t n)
  let least := (who.map sug).foldl min 63
  let d1 := who.foldl (fun d t =>
    let d := d.setTile t { d.tileOf t with gathered := Sparse.set false (d.tileOf t).gathered key false }
    if d.flag SCALE_AUTO_EN t n && !d.flag SCALE_PIN t n then (d.setF SCALE_CUR (d.fld SCALE_SUGGEST t n) t n).setF SCALE_RMAX 0 t n else d) d
  if wide.isEmpty then d1 else (d.flushTiles e).foldl (fun d t => if d.flag SCALE_PIN t n then d else d.setF SCALE_CUR (ofSigned 7 least) t n) d1

/-- The command's flags of R413 as the record shows them. -/
def Cmd.flagBits (c : Cmd) : Nat := bitIf c.iovf 0 + bitIf (c.poison != 0) 1 + bitIf c.residue 2

/-- A TSTAMP of mode 1 writes once every earlier command has completed. -/
def Dev.lateStamp (d : Dev) (e : Nat) (c : Cmd) : Dev :=
  if cmdOpc c.bytes = 0x24 ∧ c.done = false ∧ d.ceHeld c.bytes = false ∧ ((d.engOf e).live.any fun y => y.list == c.list && decide (y.pos < c.pos)) = false then
    d.ceStamp e c.seq c.bytes
  else d

/-- CMD_COMPLETE: a command whose parts have all ended. -/
def Dev.cmdComplete (d : Dev) (e seq : Nat) : Dev :=
  if !d.released then d
  else
    let d := match d.cmdOf e seq with
      | some c => d.lateStamp e c
      | none => d
    match d.cmdOf e seq with
    | none => d
    | some c =>
      let tiles := needsTile (cmdOpc c.bytes)
      if !c.todo.isEmpty || !c.on.isEmpty || (!tiles && !c.done) then d
      else
        let x := d.engOf e
        let x := { x with flight := x.flight.filter fun y => y.seq != seq }
        let x := x.onList c.list fun l => { l with done := (l.done + 1) % 2 ^ 32, flags := Nat.lor l.flags c.flagBits, poison := (l.poison + c.poison) % 2 ^ 32 }
        let d := (d.setEng e x).inc CE_CNT_DONE 1 e
        let d := if tiles then (upTo 16).foldl (fun d n => d.autoScale e seq n (d.flushTiles e)) d else d
        let d := if c.status = 0 then d else d.cmdFailed e c.list seq (cmdOpc c.bytes) c.status (cmdUser c.bytes) c.logged
        let d := if bitAt c.bytes 10 then d.msix (d.fld CE_CMD_VEC e) else d
        d.haltNow e

end Sys2Proof.Machine
end

