-- ==== Sys2Proof/Machine/VxOps.lean ====
section
/-! DEFINITION. The vector engine: checks every instruction passes, integer and float lanes, memory, flow and waits (chapter 13). The
manual gives instructions no numbers, so a command names its instruction (log entry 20). -/

namespace Sys2Proof.Machine
open Sys2Proof.Machine.Reg

/-! ## What every instruction passes (R366 to R368, R379) -/

/-- The fields an instruction uses and the FMT codes it admits. -/
structure VUse where
  fm  : List Nat := [0]
  rd  : Bool := false
  /-- RD names a predicate -/
  pd  : Bool := false
  ra  : Bool := false
  rb  : Bool := false
  rc  : Bool := false
  /-- IMM is used without IMMB -/
  im  : Bool := false
  /-- RD, RB, RA are even pairs of 64 bits -/
  rd2 : Bool := false
  rb2 : Bool := false
  ra2 : Bool := false
  /-- reads w15 without naming it: RET -/
  w15 : Bool := false

/-- The instruction reads a register (R379). -/
def VUse.reads (u : VUse) (i : VI) : Bool := u.ra || (u.rb && !i.immb) || u.rc || u.w15

/-- OPC of instruction `k` of a class. -/
def vxOpc (c k : Nat) : Nat := 16 * c + Config.vxOpcLow c k % 16

/-- The encoding is legal: unused fields 0, FMT admitted, no read-only destination, pairs even. -/
def VUse.ok (u : VUse) (i : VI) : Bool :=
  u.fm.contains i.fmt.toNat
    && (if u.rd then decide (i.rd.val ≤ 24) else if u.pd then decide (i.rd.val < 8) else i.rd.val == 0)
    && (u.ra || i.ra.val == 0) && (u.rc || i.rc.val == 0)
    && (if u.rb then !(i.immb && i.rb.val != 0) else i.rb.val == 0 && !i.immb)
    && (u.im || (u.rb && i.immb) || i.imm.toNat == 0)
    && !(u.rd2 && i.rd.val % 2 == 1) && !(u.ra2 && i.ra.val % 2 == 1) && !(u.rb2 && !i.immb && i.rb.val % 2 == 1)

/-- Threads an instruction acts in. -/
def Group.acting (y : Group) (i : VI) : Nat :=
  let p := y.predMask i.pred.val
  Nat.land y.active (if i.pneg then Nat.xor p (2 ^ 32 - 1) else p)

/-- A tile's units run: the core is released and no TILE reset holds the tile. -/
def Dev.tileRuns (d : Dev) (t : Nat) : Bool := d.released && (Sparse.get none d.rst.tile t).isNone

/-- The groups of a tile issue: its units run, and no handover of it has paused them (R387). -/
def Dev.tileIssues (d : Dev) (t : Nat) : Bool := d.tileRuns t && !d.tileMoves t

/-- A single-bit error of a register read is corrected and counted (R379, R389). -/
def Dev.regCe (d : Dev) (t : Nat) (i : VI) (u : VUse) : Dev :=
  if i.regs = .single ∧ u.reads i = true then d.inc VX_REG_CE 1 (d.ptile t) else d

/-- A group issues an instruction: after a store that failed it parks (STORE_FAULT, imprecise), a bad encoding parks it, so does a register
it reads with an uncorrectable error (REG_UE), else `f` acts. -/
def Dev.vxGo (d : Dev) (i : VI) (u : VUse) (f : Nat → Dev → Dev) : Dev :=
  let t := i.t.val
  let g := i.g.val
  let y := d.grp t g
  if !d.tileIssues t || y.st != 1 then d
  else match y.badStore with
  | some (a, st) => (d.setGrp t g { y with badStore := none }).park t g 8 0 (some (a, st, vxOpc 3 3))
  | none =>
    if !u.ok i then d.park t g 5
    else if i.regs = .double ∧ u.reads i = true ∧ y.acting i ≠ 0 then d.park t g 15
    else f (y.acting i) (d.regCe t i u)

/-- IMM, sign-extended. -/
def viImm (i : VI) : Int := toSigned 28 i.imm.toNat

/-- The second operand of a lane: RB, or IMM when IMMB. -/
def viB (i : VI) (y : Group) (ts lane : Nat) : Nat :=
  if i.immb then ofSigned 32 (viImm i) else y.reg i.t.val i.g.val ts lane i.rb.val
/-- The first operand. -/
def viA (i : VI) (y : Group) (ts lane : Nat) : Nat := y.reg i.t.val i.g.val ts lane i.ra.val
/-- The third operand. -/
def viC (i : VI) (y : Group) (ts lane : Nat) : Nat := y.reg i.t.val i.g.val ts lane i.rc.val
/-- A 64-bit operand of two registers. -/
def viPair (i : VI) (y : Group) (ts lane r : Nat) : Nat :=
  y.reg i.t.val i.g.val ts lane r + 2 ^ 32 * y.reg i.t.val i.g.val ts lane (r + 1)

/-- A value written to RD in every acting lane, computed from the group as it was; then the next instruction. -/
def Dev.vxMap (d : Dev) (i : VI) (m : Nat) (f : Group → Nat → Nat) : Dev :=
  let t := i.t.val
  let g := i.g.val
  let y := d.grp t g
  (d.setGrp t g ((lanesOf m).foldl (fun z l => z.put l i.rd.val (f y l)) y)).vxNext t g

/-- Values for RD lane by lane, each of which may draw free values. -/
def Dev.vxDraw (d : Dev) (i : VI) (m : Nat) (f : Group → Nat → Dev → Nat × Dev) : Dev :=
  let t := i.t.val
  let g := i.g.val
  let y := d.grp t g
  let (z, d) := (lanesOf m).foldl (fun (a : Group × Dev) l =>
    let (v, d) := f y l a.2
    (a.1.put l i.rd.val v, d)) (y, d)
  (d.setGrp t g z).vxNext t g

/-! ## Integer (R368, R369) -/

/-- Lane width of an integer FMT. -/
def intW (fmt : Nat) : Nat := match fmt with
  | 5 => 16
  | 6 => 8
  | 7 => 4
  | _ => 32

/-- The packed lanes of one 32-bit register operation; a lane whose result the manual does not state is a free value. -/
def packLanes (w : Nat) (f : Nat → Nat → Nat → Option Nat) (a b c : Nat) (d : Dev) : Nat × Dev :=
  (upTo (32 / w)).foldl (fun (r : Nat × Dev) k =>
    let at_ (v : Nat) : Nat := bits v (k * w) w
    match f (at_ a) (at_ b) (at_ c) with
    | some v => (r.1 + v % 2 ^ w * 2 ^ (k * w), r.2)
    | none =>
      let (v, d) := r.2.draw
      (r.1 + v % 2 ^ w * 2 ^ (k * w), d)) (0, d)

/-- An integer instruction of two or three sources. -/
def Dev.vxInt (d : Dev) (i : VI) (three : Bool) (f : Nat → Nat → Nat → Nat → Option Nat) : Dev :=
  d.vxGo i { fm := [0, 5, 6, 7], rd := true, ra := true, rb := true, rc := three } fun m d =>
    let w := intW i.fmt.toNat
    d.vxDraw i m fun y l d => packLanes w (f w) (viA i y d.now l) (viB i y d.now l) (viC i y d.now l) d

/-- Quotient (R369). -/
def idiv (w a b : Nat) : Nat :=
  let x := toSigned w a
  let z := toSigned w b
  if z = 0 then (if 0 ≤ x then 2 ^ (w - 1) - 1 else 2 ^ (w - 1)) else ofSigned w (x.tdiv z)
/-- Remainder. -/
def irem (w a b : Nat) : Nat := if toSigned w b = 0 then a else ofSigned w ((toSigned w a).tmod (toSigned w b))

/-- A comparison's answer from less-than and equality. -/
def cmpBy (op : CmpOp) (lt eq : Bool) : Bool :=
  match op with
  | .eq => eq
  | .ne => !eq
  | .lt => lt
  | .le => lt || eq
  | .gt => !lt && !eq
  | .ge => !lt

/-- A predicate written in every acting lane; what a packed comparison leaves in it is not stated: a free value. -/
def Dev.vxPred (d : Dev) (i : VI) (m : Nat) (f : Group → Nat → Bool) : Dev :=
  let t := i.t.val
  let g := i.g.val
  let y := d.grp t g
  let (z, d) := (lanesOf m).foldl (fun (a : Group × Dev) l =>
    if i.fmt.toNat = 0 then (a.1.putPred l i.rd.val (f y l), a.2)
    else let (v, d) := a.2.draw; (a.1.putPred l i.rd.val (v % 2 == 1), d)) (y, d)
  (d.setGrp t g z).vxNext t g

/-! ## Float (R369) -/

/-- The exact quotient cut at 60 more bits, with a sticky bit. -/
def FV.div (a b : FV) : FV :=
  match a, b with
  | .nan, _ => .nan
  | _, .nan => .nan
  | .inf _, .inf _ => .nan
  | .inf x, .fin k _ _ => .inf (x != k)
  | .fin n _ _, .inf y => .fin (n != y) 0 0
  | .fin n m e, .fin k l f =>
    if l = 0 then (if m = 0 then .nan else .inf (n != k))
    else
      let q := m * 2 ^ 60 / l
      .fin (n != k) (2 * q + (if m * 2 ^ 60 % l = 0 then 0 else 1)) (e - f - 61)

/-- Integer square root, bit by bit from bit `k`. -/
def isqrt : Nat → Nat → Nat → Nat
  | 0, r, _ => r
  | k + 1, r, n => if (r + 2 ^ k) * (r + 2 ^ k) ≤ n then isqrt k (r + 2 ^ k) n else isqrt k r n

/-- The square root with a sticky bit. -/
def FV.sqrt (a : FV) : FV :=
  match a with
  | .nan => .nan
  | .inf x => if x then .nan else .inf false
  | .fin n m e =>
    if m = 0 then .fin n 0 0
    else if n then .nan
    else
      let m' := if e % 2 = 0 then m * 2 ^ 60 else m * 2 ^ 61
      let e' := if e % 2 = 0 then e - 60 else e - 61
      let r := isqrt 60 0 m'
      .fin false (2 * r + (if r * r = m' then 0 else 1)) (e' / 2 - 1)

/-- FMIN (R369): a NaN on one side, or zeros of opposite sign, have no stated result. -/
def FV.minOf (a b : FV) : Option FV :=
  if a.isNan && b.isNan then some .nan
  else if a.isNan || b.isNan || (a.isZero && b.isZero && a != b) then none
  else some (if b.lt a then b else a)
/-- FMAX. -/
def FV.maxOf (a b : FV) : Option FV :=
  if a.isNan && b.isNan then some .nan
  else if a.isNan || b.isNan || (a.isZero && b.isZero && a != b) then none
  else some (if a.lt b then b else a)

/-- A lane's result: the FP32 result, rounded once more to a 16-bit format (R369; DEDUCED, log entry 68). -/
def laneEnc (fmt : Nat) (x : FV) : Nat :=
  if fmt = 0 then fp32 x else ((ffmt fmt).enc 0 false false (ofFp32 (fp32 x))).1

/-- A float instruction: its lanes, a free value where no result is stated, and the capture of the first NaN (R358, R359). -/
def Dev.vxFloat (d : Dev) (i : VI) (k sources : Nat) (f : FV → FV → FV → Option FV) : Dev :=
  d.vxGo i { fm := [0, 1, 2], rd := true, ra := true, rb := decide (2 ≤ sources), rc := sources == 3 } fun m d =>
    let fm := i.fmt.toNat
    let w := if fm = 0 then 32 else 16
    let pc := (d.grp i.t.val i.g.val).pc
    d.vxDraw i m fun y l d =>
      let a := viA i y d.now l
      let b := viB i y d.now l
      let c := viC i y d.now l
      (upTo (32 / w)).foldl (fun (r : Nat × Dev) j =>
        let at_ (v : Nat) : Nat := bits v (j * w) w
        let va := (ffmt fm).dec (at_ a)
        let vb := (ffmt fm).dec (at_ b)
        let vc := (ffmt fm).dec (at_ c)
        let (v, d) := match f va vb vc with
          | some x => (laneEnc fm x, r.2)
          | none => (r.2.draw.1 % 2 ^ w, r.2.draw.2)
        let inNan := va.isNan || (decide (2 ≤ sources) && vb.isNan) || (sources == 3 && vc.isNan)
        let d := if ((ffmt fm).dec v).isNan then
            d.nanCapture i.t.val (if inNan then 1 else 0) 3 fm y.run
              (i.g.val + l * 2 ^ 4 + vxOpc 1 k * 2 ^ 9 + pc * 2 ^ 32) (at_ a + (if sources = 1 then 0 else at_ b) * 2 ^ 32)
          else d
        (r.1 + v * 2 ^ (j * w), d)) (0, d)

/-! ## Conversions (R370) -/

/-- CVT: one element a thread, or one block of 32 for BX8; a rejected one parks the group. BX8 elements lie in a register as mantissa in
[7:0] and exponent in [15:8] (DEDUCED, log entry 60). -/
def Dev.vxCvt (d : Dev) (i : VI) : Dev :=
  d.vxGo i { rd := true, ra := true, im := true } fun m d =>
    let t := i.t.val
    let g := i.g.val
    let y := d.grp t g
    let x := i.imm.toNat % 2 ^ 25
    let block := cvtSrc x == 8 || cvtDst x == 8
    let two := cvtSrc x == 9 || cvtDst x == 9
    let n := if block then (if m = 2 ^ 32 - 1 then 32 else 1) else if two then 2 else 1
    let r := cvtReject (cvtSrc x) x n
    if r ≠ 0 then (d.cvtRejected t r x 1).park t g 14
    else
      let raw (l : Nat) : Nat := viA i y d.now l
      let vals (l : Nat) : List FV :=
        if two then [FV.ofInt (toSigned 16 (raw l)), FV.ofInt (toSigned 16 (raw l / 2 ^ 16))]
        else if cvtSrc x = 8 then
          [if bits (raw l) 8 8 = 255 then .nan else (FV.ofInt (toSigned 8 (raw l))).scale ((bits (raw l) 8 8 : Int) - 127)]
        else [rawVal (cvtSrc x) (raw l % 2 ^ scalarBits (cvtSrc x))]
      if block then
        let (bs, d) := d.runCvt t x y.cur ((upTo 32).flatMap vals) (fun k => raw k) 0 y.run
        let w := scalarBits (cvtDst x)
        let out (l : Nat) : Nat :=
          if cvtDst x = 8 then leNat ((bs.drop l).take 1) + 256 * leNat ((bs.drop 32).take 1)
          else if w = 4 then leNat ((bs.drop (l / 2)).take 1) / 16 ^ (l % 2) % 16
          else leNat ((bs.drop (l * (w / 8))).take (w / 8))
        d.vxMap i m fun _ l => out l
      else d.vxDraw i m fun y l d =>
        let (bs, d) := d.runCvt t x y.cur (vals l) (fun k => bits (raw l) (16 * k) 16) l y.run
        (leNat bs, d)

/-- A conversion instruction the manual names without saying what it computes: its results are free values (log entry 69). -/
def Dev.vxFree (d : Dev) (i : VI) (u : VUse) : Dev := d.vxGo i u fun m d => d.vxDraw i m fun _ _ d => ((d.draw).1 % 2 ^ 32, d.draw.2)

/-! ## Memory (R373, R379) -/

/-- Bytes of a memory access by FMT[1:0]. -/
def vxWidth (i : VI) : Nat := 2 ^ (i.fmt.toNat % 4)

/-- A loaded value into RD: 8 bytes fill the pair, 1 and 2 bytes leave the upper bits free (log entry 70). -/
def Dev.loadPut (d : Dev) (y : Group) (lane rd w v : Nat) : Group × Dev :=
  if w = 8 then ((y.put lane rd v).put lane (rd + 1) (v / 2 ^ 32), d)
  else if w = 4 then (y.put lane rd v, d)
  else (y.put lane rd (v % 2 ^ (8 * w) + d.draw.1 * 2 ^ (8 * w)), d.draw.2)

/-- All loaded values, lane by lane. -/
def Dev.loadAll (d : Dev) (t g rd w : Nat) (vs : List (Nat × Nat)) : Dev :=
  let (z, d) := vs.foldl (fun (a : Group × Dev) v => a.2.loadPut a.1 v.1 rd w v.2) (d.grp t g, d)
  (d.setGrp t g { z with st := 1, wait := .none }).vxNext t g

/-- The status an access to tile SRAM by offset meets: the cache portion and what lies past it are unmapped (R275). -/
def Dev.sramStatus (d : Dev) (off w : Nat) : Nat := if d.outsideScratch off w then 1 else 0

/-- The entry of an access by offset that leaves the scratch portion (R40, R275). -/
def Dev.offsetBad (d : Dev) (t off w : Nat) : Dev := d.logStatus 1 (tileAddr t off) w (d.stopOf t)

/-- LDL. -/
def Dev.vxLdl (d : Dev) (i : VI) (rivals : BitVec 8) : Dev :=
  d.vxGo i { fm := [0, 1, 2, 3], rd := true, ra := true, rd2 := i.fmt.toNat == 3 } fun m d =>
    let t := i.t.val
    let g := i.g.val
    let y := d.grp t g
    let w := vxWidth i
    let at_ (l : Nat) : Nat := viA i y d.now l
    let ls := lanesOf m
    match ls.find? fun l => at_ l % w != 0 with
    | some l => d.park t g 6 0 (some (at_ l, 0, vxOpc 3 0))
    | none =>
      match ls.find? fun l => d.sramStatus (at_ l) w != 0 with
      | some l => (d.offsetBad t (at_ l) w).park t g 7 0 (some (at_ l, 1, vxOpc 3 0))
      | none =>
        let d := if ls = [] then d else d.portClash t 1 rivals
        let (vs, bad, d) := ls.foldl (fun (a : List (Nat × Nat) × Option Nat × Dev) l =>
          let (bs, b, d) := a.2.2.sramRead t (at_ l) w 1
          (a.1 ++ [(l, leNat bs)], a.2.1.or (if b then some (at_ l) else none), d)) ([], none, d)
        match bad with
        | some a => d.park t g 10 0 (some (a, 6, vxOpc 3 0))
        | none => d.loadAll t g i.rd.val w vs

/-- The value a store writes: RB, or the pair of 8 bytes. -/
def viStore (i : VI) (y : Group) (ts lane : Nat) : Nat :=
  if vxWidth i = 8 then (if i.immb then ofSigned 64 (viImm i) else viPair i y ts lane i.rb.val) else viB i y ts lane

/-- STL: lanes ascending. -/
def Dev.vxStl (d : Dev) (i : VI) (rivals : BitVec 8) : Dev :=
  d.vxGo i { fm := [0, 1, 2, 3], ra := true, rb := true, rb2 := i.fmt.toNat == 3 } fun m d =>
    let t := i.t.val
    let g := i.g.val
    let y := d.grp t g
    let w := vxWidth i
    let at_ (l : Nat) : Nat := viA i y d.now l
    let ls := lanesOf m
    match ls.find? fun l => at_ l % w != 0 with
    | some l => d.park t g 6 0 (some (at_ l, 0, vxOpc 3 1))
    | none =>
      match ls.find? fun l => d.sramStatus (at_ l) w != 0 with
      | some l => (d.offsetBad t (at_ l) w).park t g 7 0 (some (at_ l, 1, vxOpc 3 1))
      | none =>
        let d := if ls = [] then d else d.portClash t 1 rivals
        (ls.foldl (fun d l => d.sramWrite t (at_ l) (allOn (leBytes w (viStore i y d.now l)))) d).vxNext t g

/-- An atomic on a 32-bit word of tile SRAM, lane by lane; RD takes the old value (DEDUCED, log entry 71). -/
def Dev.vxAtomic (d : Dev) (i : VI) (k : Nat) (f : Nat → Nat → Nat) : Dev :=
  d.vxGo i { fm := [0], rd := true, ra := true, rb := true } fun m d =>
    let t := i.t.val
    let g := i.g.val
    let y := d.grp t g
    let at_ (l : Nat) : Nat := viA i y d.now l
    let ls := lanesOf m
    match ls.find? fun l => at_ l % 4 != 0 with
    | some l => d.park t g 6 0 (some (at_ l, 0, vxOpc 3 k))
    | none =>
      match ls.find? fun l => d.sramStatus (at_ l) 4 != 0 with
      | some l => (d.offsetBad t (at_ l) 4).park t g 7 0 (some (at_ l, 1, vxOpc 3 k))
      | none =>
        match ls.find? fun l => d.badAt t (at_ l) 4 with
        | some l => (d.sramRead t (at_ l) 4 1).2.2.park t g 10 0 (some (at_ l, 6, vxOpc 3 k))
        | none =>
          let (z, d) := ls.foldl (fun (a : Group × Dev) l =>
            let old := a.2.sramNat t (at_ l) 4
            (a.1.put l i.rd.val old, a.2.sramWrite t (at_ l) (allOn (leBytes 4 (f old (viB i y a.2.now l)))))) (y, d)
          (d.setGrp t g z).vxNext t g

/-! ## Device accesses through the tile cache (R274, R284, R373) -/

/-- An address the tile cache holds. -/
def Dev.tcCaches (d : Dev) (a : Nat) : Bool :=
  d.tcSize != 0 && (match placeOf a with
    | .hbm => true
    | .scratch _ _ => true
    | _ => false)

/-- The tile takes a line, for reading or to write it: snoops, the slice's fill, the grant, all at once. -/
def Dev.tcGet (d : Dev) (t k : Nat) (own : Bool) : Dev :=
  let held := d.tcLine t k
  let hit := match held with
    | some l => !own || decide (2 ≤ l.st)
    | none => false
  if hit then d.inc TC_HIT 1 (d.ptile t)
  else
    let op : SliceOp := if held.isSome then .upgr t else if own then .rdEx t else .rdSh t
    let x := d.dirOf k
    let rid := ridOf (d.stopOf t) 3
    let d := (d.inc TC_MISS 1 (d.ptile t)).causedBy rid (dlineAt d.now)
    let d := (snoopsFor op x).foldl (fun d p => d.snoop k p.1 p.2 false rid 0) d
    let d := if needsData op x then (d.fetchLine k 15 false false).2 else d
    d.finishReq k { op := op, rid := rid, tag := 0, dline := dlineAt d.now } 0

/-- A load of `w` bytes through the tile cache: value, whether its sector is poisoned. -/
def Dev.tcLoad (d : Dev) (t a w : Nat) : Nat × Bool × Dev :=
  let d := d.tcGet t (a / 256) false
  match d.tcLine t (a / 256) with
  | some l => (leNat (lineSlice l.data (a % 256) (a % 256 + w)), bitAt l.poison (a % 256 / 64), d)
  | none => (0, true, d)

/-- A store through the tile cache. -/
def Dev.tcStore (d : Dev) (t a w v : Nat) : Dev :=
  let d := d.tcGet t (a / 256) true
  match d.tcLine t (a / 256) with
  | some l =>
    d.setTc t (a / 256) (some { l with st := 3, data := mergeBytes l.data (a % 256) (allOn (leBytes w v)),
                                       dirty := Nat.lor l.dirty (2 ^ (a % 256 / 64)) })
  | none => d

/-- An address whose target answers later: a host window, or a block's queue. -/
def Dev.slowPlace (a : Nat) : Bool :=
  match placeOf a with
  | .host _ _ => true
  | .ram _ _ => true
  | _ => false

/-- LDD. -/
def Dev.vxLdd (d : Dev) (i : VI) : Dev :=
  d.vxGo i { fm := [0, 1, 2, 3], rd := true, ra := true, ra2 := true, rd2 := i.fmt.toNat == 3 } fun m d =>
    let t := i.t.val
    let g := i.g.val
    let y := d.grp t g
    let w := vxWidth i
    let at_ (l : Nat) : Nat := viPair i y d.now l i.ra.val
    let opc := vxOpc 3 2
    let ls := lanesOf m
    match ls.find? fun l => at_ l % w != 0 with
    | some l => d.park t g 6 0 (some (at_ l, 0, opc))
    | none =>
      match ls.find? fun l => inRemoteWindow (at_ l) with
      | some l => d.park t g 9 0 (some (at_ l, 0, opc))
      | none =>
        match ls.find? fun l => d.accStatus (at_ l) w != 0 with
        | some l => (d.logStatus (d.accStatus (at_ l) w) (at_ l) w (d.stopOf t)).park t g 7 0 (some (at_ l, d.accStatus (at_ l) w, opc))
        | none =>
          if ls.any fun l => d.addrHeld (at_ l) || (d.tcCaches (at_ l) && (d.transOf (at_ l / 256)).isSome) then d
          else
            let slow := ls.filter fun l => Dev.slowPlace (at_ l)
            let (vs, bad, d) := ls.foldl (fun (a : List (Nat × Nat) × Option (Nat × Nat) × Dev) l =>
              let d := a.2.2
              if Dev.slowPlace (at_ l) then a
              else if d.tcCaches (at_ l) then
                let (v, p, d) := d.tcLoad t (d.localAddr (at_ l)) w
                (a.1 ++ [(l, v)], a.2.1.or (if p then some (at_ l, 6) else none), d)
              else
                let (st, bs, d) := d.accRead (d.stopOf t) (at_ l) w
                (a.1 ++ [(l, leNat bs)], a.2.1.or (if st ≠ 0 then some (at_ l, st) else none), d)) ([], none, d)
            match bad with
            | some (a, st) => d.park t g (if st = 6 then 10 else 7) 0 (some (a, st, opc))
            | none =>
              if slow.isEmpty then d.loadAll t g i.rd.val w vs
              else
                let d := d.setGrp t g { d.grp t g with st := 2, wait := .load i.rd.val w (slow.map fun l => (l, at_ l)) vs }
                slow.foldl (fun d l => d.request (d.tileRq t 0 (g * 32 + l)) (at_ l) w none false false none) d

/-- The answer to one lane of a waiting load. -/
def Dev.loadAnswer (d : Dev) (t g lane st : Nat) (bs : List Byte) : Dev :=
  let y := d.grp t g
  match y.wait with
  | .load rd w lanes got =>
    match lanes.find? fun e => e.1 == lane with
    | none => d
    | some e =>
      if st ≠ 0 then d.park t g (if st = 6 then 10 else 7) 0 (some (e.2, st, vxOpc 3 2))
      else
        let got := got ++ [(lane, leNat bs)]
        if lanes.erase e = [] then d.loadAll t g rd w got
        else d.setGrp t g { y with wait := .load rd w (lanes.erase e) got }
  | _ => d

/-- A device store of a group is known to have failed (R379): its next instruction parks it. -/
def Dev.storeFailed (d : Dev) (t g a st : Nat) : Dev :=
  let y := d.grp t g
  if y.st = 0 ∨ y.badStore.isSome then d else d.setGrp t g { y with badStore := some (a, st) }

/-- STD: what the requesting stop finds at issue parks the group at once; what the target answers parks it later. -/
def Dev.vxStd (d : Dev) (i : VI) : Dev :=
  d.vxGo i { fm := [0, 1, 2, 3], ra := true, rb := true, ra2 := true, rb2 := i.fmt.toNat == 3 } fun m d =>
    let t := i.t.val
    let g := i.g.val
    let y := d.grp t g
    let w := vxWidth i
    let at_ (l : Nat) : Nat := viPair i y d.now l i.ra.val
    let opc := vxOpc 3 3
    let ls := lanesOf m
    let issue (l : Nat) : Nat := d.stopStatus (at_ l) w
    match ls.find? fun l => at_ l % w != 0 with
    | some l => d.park t g 6 0 (some (at_ l, 0, opc))
    | none =>
      match ls.find? fun l => inRemoteWindow (at_ l) with
      | some l => d.park t g 9 0 (some (at_ l, 0, opc))
      | none =>
        match ls.find? fun l => issue l != 0 with
        | some l => (d.logStatus (issue l) (at_ l) w (d.stopOf t)).park t g 7 0 (some (at_ l, issue l, opc))
        | none =>
          if ls.any fun l => d.addrHeld (at_ l) || (d.tcCaches (at_ l) && (d.transOf (at_ l / 256)).isSome) then d
          else
            (ls.foldl (fun d l =>
              let v := viStore i y d.now l
              let st := d.accStatus (at_ l) w
              if st ≠ 0 then (d.logStatus st (at_ l) w (d.stopOf t)).storeFailed t g (at_ l) st
              else if Dev.slowPlace (at_ l) then
                let z := d.grp t g
                let tag := 512 + g * 32 + l
                (d.setGrp t g { z with stores := z.stores ++ [(tag, at_ l)] }).request (d.tileRq t 0 tag) (at_ l) w
                  (some (allOn (leBytes w v))) false false none
              else if d.tcCaches (at_ l) then d.tcStore t (d.localAddr (at_ l)) w v
              else
                let (st, d) := d.accWrite (d.stopOf t) (at_ l) (allOn (leBytes w v))
                if st ≠ 0 then d.storeFailed t g (at_ l) st else d) d).vxNext t g

/-- The answer to a device store: a failing status is the group's STORE_FAULT; a FENCE that waited for the last one goes on. -/
def Dev.storeAnswer (d : Dev) (t g tag st : Nat) : Dev :=
  let y := d.grp t g
  match y.stores.find? fun e => e.1 == tag with
  | none => d
  | some e =>
    let y := { y with stores := y.stores.erase e }
    let d := d.setGrp t g y
    let d := if st ≠ 0 then d.storeFailed t g e.2 st else d
    let y := d.grp t g
    if y.wait = .fence ∧ y.stores = [] then (d.setGrp t g { y with st := 1, wait := .none }).vxNext t g else d

/-! ## Async (R382, R384) -/

/-- The lane a group-level operand is read from: the lowest acting one (DEDUCED, log entry 72). -/
def firstLane (m : Nat) : Nat := (lanesOf m).headD 0

/-- COPY. A descriptor that cannot be read parks the group as a poisoned load does (R273; log entry 172). -/
def Dev.vxCopy (d : Dev) (i : VI) : Dev :=
  d.vxGo i { ra := true } fun m d =>
    let t := i.t.val
    let g := i.g.val
    let y := d.grp t g
    if m = 0 then d.vxNext t g
    else
      let off := viA i y d.now (firstLane m)
      let (bs, bad, d') := d.sramRead t off 32 1
      if d.outsideScratch off 32 then (d.offsetBad t off 32).park t g 7 0 (some (off, 1, vxOpc 4 0))
      else if bad then d'.park t g 10 0 (some (off, 6, vxOpc 4 0))
      else
        let d := d'
        let v := leNat bs
        let j := copyOf v off none (d.curNow t)
        if d.copyBad t v j then (d.copyRefused t j).park t g 12
        else if !(d.tileOf t).copyRoom then d.setGrp t g { y with st := 2, wait := .copyPlace }
        else (d.copyPut t j).vxNext t g

/-- ARM k, n: k from RA, n from RB or IMM. -/
def Dev.vxArm (d : Dev) (i : VI) : Dev :=
  d.vxGo i { ra := true, rb := true } fun m d =>
    let t := i.t.val
    let y := d.grp t i.g.val
    if m = 0 then d.vxNext t i.g.val
    else
      let k := viA i y d.now (firstLane m) % 64
      let n := viB i y d.now (firstLane m)
      let x := d.tileOf t
      (d.setTile t { x with expect := Sparse.set 0 x.expect k ((x.expectOf k + n) % 2 ^ 32) }).vxNext t i.g.val

/-- WAIT k. -/
def Dev.vxWaitOn (d : Dev) (i : VI) : Dev :=
  d.vxGo i { ra := true } fun m d =>
    let t := i.t.val
    let g := i.g.val
    let y := d.grp t g
    let k := viA i y d.now (firstLane m) % 64
    if m = 0 then d.vxNext t g
    else if d.fbit AC_FAULT k t then d.park t g 11
    else if (d.tileOf t).reached k then d.vxNext t g
    else d.setGrp t g { y with st := 2, wait := .counter k }

/-! ## Flow (R374 to R377) -/

/-- A branch target: IMM counts instructions. -/
def viTarget (i : VI) (y : Group) : Nat := (ofSigned 32 ((y.pc : Int) + 8 * viImm i))

/-- Would a jump to `a` leave the open SPLIT backwards? -/
def Group.backOut (y : Group) (a : Nat) : Bool :=
  match y.stack with
  | e :: _ => decide (a < e.split)
  | [] => false

/-- BR. -/
def Dev.vxBr (d : Dev) (i : VI) : Dev :=
  d.vxGo i { im := true } fun m d =>
    let t := i.t.val
    let g := i.g.val
    let y := d.grp t g
    let a := viTarget i y
    if m = 0 then d.vxNext t g
    else if y.backOut a then d.park t g 4
    else if m = y.active then d.setGrp t g (y.goTo a)
    else match y.stack with
      | e :: r =>
        if e.phase ≠ 0 then d.park t g 4
        else d.setGrp t g ({ y with active := y.active - m, stack := { e with phase := 1, waiting := m, target := a } :: r }.goTo (y.pc + 8))
      | [] => d.park t g 4

/-- SPLIT. -/
def Dev.vxSplit (d : Dev) (i : VI) : Dev :=
  d.vxGo i { im := true } fun m d =>
    let t := i.t.val
    let g := i.g.val
    let y := d.grp t g
    if m = 0 then d.vxNext t g
    else if 16 ≤ y.stack.length then d.park t g 3
    else d.setGrp t g ({ y with stack := { mask := y.active, pc := viTarget i y, split := y.pc } :: y.stack }.goTo (y.pc + 8))

/-- JOIN: it acts for the whole group, whatever threads run. -/
def Dev.vxJoin (d : Dev) (i : VI) : Dev :=
  d.vxGo i {} fun _ d =>
    let y := d.grp i.t.val i.g.val
    match y.stack with
    | e :: r => d.setGrp i.t.val i.g.val ({ y with active := Nat.land e.mask y.alive, stack := r }.goTo (y.pc + 8))
    | [] => d.vxNext i.t.val i.g.val

/-- CALL (R376, R377). One that would pass LIMIT while the trap window is in use parks with WDCAUSE 0 (DEDUCED, log entry 178). -/
def Dev.vxCall (d : Dev) (i : VI) : Dev :=
  d.vxGo i { im := true } fun m d =>
    let t := i.t.val
    let g := i.g.val
    let y := d.grp t g
    if m = 0 then d.vxNext t g
    else if y.live = 8 ∧ y.noRoom = true then d.park t g 1 0
    else if y.live = 8 ∧ y.inTrap = true then d.park t g 1 1
    else
      let d := if y.live = 8 then d.spill t g else d
      let z := d.grp t g
      let w := (y.frame + 1) % 8
      let win := (upTo 512).foldl (fun n k => Sparse.set 0 n (winKey w (k % 16) (k / 16)) (if k % 16 = 15 then y.pc + 8 else 0)) z.win
      d.setGrp t g ({ z with win := win, frame := w, live := min 8 (y.live + 1) }.goTo (viTarget i y))

/-- RET. -/
def Dev.vxRet (d : Dev) (i : VI) : Dev :=
  d.vxGo i { w15 := true } fun m d =>
    let t := i.t.val
    let g := i.g.val
    let y := d.grp t g
    if m = 0 then d.vxNext t g
    else if y.live = 1 ∧ y.spill = 0 then d.park t g 2
    else if y.live = 1 ∧ y.inTrap = true then d.park t g 1 1
    else
      let a := y.reg t g d.now (firstLane m) 15
      let d := if y.live = 1 then d.fillWin t g else d
      let z := d.grp t g
      d.setGrp t g ({ z with frame := (y.frame + 7) % 8, live := max 1 (y.live - 1) }.goTo a)

/-- EXIT. -/
def Dev.vxExit (d : Dev) (i : VI) : Dev :=
  d.vxGo i {} fun m d =>
    let t := i.t.val
    let g := i.g.val
    let y := d.grp t g
    if m = 0 then d.vxNext t g
    else
      let y := { y with active := y.active - m, alive := y.alive - Nat.land y.alive m }
      if y.alive = 0 then (d.setGrp t g y).groupEnd t g false
      else if y.active = 0 then d.setGrp t g (y.afterExit 17)
      else (d.setGrp t g y).vxNext t g

/-- TRAP: the saved PC is that of the next instruction (DEDUCED, log entry 73). -/
def Dev.vxTrap (d : Dev) (i : VI) : Dev :=
  d.vxGo i { rb := true } fun m d =>
    let t := i.t.val
    let g := i.g.val
    let y := d.grp t g
    if m = 0 then d.vxNext t g
    else if y.inTrap then d.park t g 13
    else d.setGrp t g ({ y with inTrap := true, trapPc := y.pc + 8, trapMask := y.active, trapLive := y.live,
                                trapArg := viB i y d.now (firstLane m) }.goTo y.trapVec)

/-- TRET; outside the trap window there is none to leave: ILLEGAL (DEDUCED, log entry 73). -/
def Dev.vxTret (d : Dev) (i : VI) : Dev :=
  d.vxGo i {} fun m d =>
    let t := i.t.val
    let g := i.g.val
    let y := d.grp t g
    if m = 0 then d.vxNext t g
    else if !y.inTrap then d.park t g 5
    else d.setGrp t g ({ y with inTrap := false, active := Nat.land y.trapMask y.alive }.goTo y.trapPc)

/-! ## Lane (R368) -/

/-- SHFL: each thread takes RA of the lane its RB names; of a lane that does not act, a free value (DEDUCED, log entry 69). -/
def Dev.vxShfl (d : Dev) (i : VI) : Dev :=
  d.vxGo i { fm := [0, 1, 2, 5, 6, 7], rd := true, ra := true, rb := true } fun m d =>
    d.vxDraw i m fun y l d =>
      let s := viB i y d.now l
      if s < 32 ∧ bitAt m s = true then (viA i y d.now s, d) else (d.draw.1 % 2 ^ 32, d.draw.2)

/-- VOTE on RA ≠ 0 of the acting threads (DEDUCED, log entry 69). -/
def Dev.vxVote (d : Dev) (i : VI) (op : VoteOp) : Dev :=
  d.vxGo i { fm := [0, 1, 2, 5, 6, 7], rd := true, ra := true } fun m d =>
    let y := d.grp i.t.val i.g.val
    let b := ((lanesOf m).map fun l => bitIf (viA i y d.now l != 0) l).sum
    let v := match op with
      | .any => if b = 0 then 0 else 1
      | .all => if b = m then 1 else 0
      | .ballot => b
    d.vxMap i m fun _ _ => v

/-- One packed lane of a reduction of integers. -/
def redInt (w : Nat) (op : RedOp) (a b : Nat) : Nat :=
  match op with
  | .add => (a + b) % 2 ^ w
  | .min => if toSigned w b < toSigned w a then b else a
  | .max => if toSigned w a < toSigned w b then b else a

/-- RED over the acting threads: FMT 0 is read as INT32; a float sum's order is not stated, so its result is free (log entry 69). -/
def Dev.vxRed (d : Dev) (i : VI) (op : RedOp) : Dev :=
  d.vxGo i { fm := [0, 1, 2, 5, 6, 7], rd := true, ra := true } fun m d =>
    let y := d.grp i.t.val i.g.val
    let fm := i.fmt.toNat
    let xs := (lanesOf m).map fun l => viA i y d.now l
    if fm = 1 ∨ fm = 2 then
      let pick (j : Nat) : Option Nat :=
        let f (a b : Nat) : Option Nat :=
          let r := if op = .min then ((ffmt fm).dec a).minOf ((ffmt fm).dec b) else ((ffmt fm).dec a).maxOf ((ffmt fm).dec b)
          r.map fun v => laneEnc fm v
        match xs.map fun v => bits v (16 * j) 16 with
        | [] => none
        | a :: r => if op = .add then none else r.foldl (fun s b => s.bind fun a => f a b) (some a)
      let (v, d) := (upTo 2).foldl (fun (r : Nat × Dev) j =>
        match pick j with
        | some v => (r.1 + v * 2 ^ (16 * j), r.2)
        | none => (r.1 + r.2.draw.1 % 2 ^ 16 * 2 ^ (16 * j), r.2.draw.2)) (0, d)
      d.vxMap i m fun _ _ => v
    else
      let w := intW fm
      let v := ((upTo (32 / w)).map fun k =>
        (match xs.map fun v => bits v (k * w) w with
          | [] => 0
          | a :: r => r.foldl (redInt w op) a) * 2 ^ (k * w)).sum
      d.vxMap i m fun _ _ => v

/-! ## System (R372, R373) -/

/-- GBAR. -/
def Dev.vxGbar (d : Dev) (i : VI) : Dev :=
  d.vxGo i {} fun m d =>
    let t := i.t.val
    let y := d.grp t i.g.val
    match y.run with
    | some r => if m = 0 then d.vxNext t i.g.val else d.setTile t (((d.tileOf t).setGrp i.g.val { y with st := 2, wait := .gbar }).gbarCheck r)
    | none => d.vxNext t i.g.val

/-- FENCE: with IMM[0] = 1 it also waits for every device store. -/
def Dev.vxFenceOn (d : Dev) (i : VI) : Dev :=
  d.vxGo i { im := true } fun m d =>
    let t := i.t.val
    let y := d.grp t i.g.val
    if m ≠ 0 ∧ i.imm.toNat % 2 = 1 ∧ y.stores ≠ [] then d.setGrp t i.g.val { y with st := 2, wait := .fence } else d.vxNext t i.g.val

/-- A lock request of a group: operation 0 LOCKACQ, 1 LOCKACQW, 2 LOCKREL; the group waits for the answer. -/
def Dev.vxLock (d : Dev) (i : VI) (op : Nat) : Dev :=
  d.vxGo i { rd := true, ra := true } fun m d =>
    let t := i.t.val
    let g := i.g.val
    let y := d.grp t g
    if m = 0 then d.vxNext t g
    else (d.setGrp t g { y with st := 2, wait := .lock i.rd.val m }).lockAsk (d.stopOf t) 0 (0x400 + g)
      (viA i y d.now (firstLane m) % 256) op

/-- The answer to a group's lock request: its result code in RD. -/
def Dev.vxLockAnswer (d : Dev) (t g res : Nat) : Dev :=
  let y := d.grp t g
  match y.wait with
  | .lock rd m => (d.setGrp t g { (lanesOf m).foldl (fun z l => z.put l rd res) y with st := 1, wait := .none }).vxNext t g
  | _ => d

end Sys2Proof.Machine
end

