-- ==== Sys2Proof/Machine/Deliver.lean ====
section
/-! DEFINITION. Answers reach the units that wait for them, and the retrain that an aborted colony run forces (R537). -/

namespace Sys2Proof.Machine
open Sys2Proof.Machine.Reg

/-- An answer at a test-port controller: the oldest pending request of that tag that still lacks one; a posted write that failed is
counted (R484). -/
def Dev.bridgeAnswer (d : Dev) (n tag st : Nat) (bs : List Byte) : Dev :=
  let p := d.prtOf n
  let waits (x : DutPend) : Bool := x.req.tag.toNat == tag && x.ans.isNone && !dutCfg x.req.kind
  if p.pend.any waits then
    let (pre_, post_) := (p.pend.takeWhile fun x => !waits x, p.pend.dropWhile fun x => !waits x)
    match post_ with
    | x :: r => d.setPrt n { p with pend := pre_ ++ { x with ans := some (st, bs) } :: r }
    | [] => d
  else d.postedDone n st

/-- An answer at a tile, by the unit that asked (R235, log entry 66). -/
def Dev.tileAnswer (d : Dev) (t unit tag st : Nat) (bs : List Byte) : Dev :=
  match unit with
  | 0 =>
    if tag < 512 then d.loadAnswer t (tag / 32) (tag % 32) st bs
    else if tag < 1024 then d.storeAnswer t ((tag - 512) / 32) tag st
    else if tag < 1536 then d.vxLockAnswer t (tag - 1024) (leNat bs)
    else d.evAnswer t
  | 2 => d.copyAnswer t tag st bs
  | _ => d

/-- A unit of a tile waits for an answer of this tag; a TILE reset leaves none that does (R592). -/
def Dev.tileAwaits (d : Dev) (t unit tag : Nat) : Bool :=
  let x := d.tileOf t
  match unit with
  | 0 =>
    if tag < 512 then (match (x.grp (tag / 32)).wait with
      | .load _ _ lanes _ => lanes.any fun l => l.1 == tag % 32
      | _ => false)
    else if tag < 1024 then (x.grp ((tag - 512) / 32)).stores.any fun w => w.1 == tag
    else if tag < 1536 then true
    else x.ev.any fun r => r.pend != 0
  | 2 => x.copyOn.any fun j => j.tag == tag && j.need != 0
  | _ => true

/-- An answer reaches its requester; one for a tile whose reset began since it asked is dropped at its stop as an orphan (R592). -/
def Dev.respTo (d : Dev) (rid tag st : Nat) (bs : List Byte) : Dev :=
  match stopKind (rid / 16) with
  | .ce => d.ceLockAnswer (rid % 16) tag (leNat bs)
  | .tile p =>
    let t := d.ltile p
    if t = 64 then d
    else if d.tileResetting t || !d.tileAwaits t (rid % 16) tag then d.inc STOP_ORPHAN 1 (rid / 16)
    else d.tileAnswer t (rid % 16) tag st bs
  | .gate j => d.gateAnswer (4 * j + rid % 16) tag st bs
  | .bridge n => d.bridgeAnswer n tag st bs
  | .mgmt => if rid % 16 == 0 && tag == 1 && st != 0 then d.inc MGT_WR_DROP else d
  | _ => d

/-- A write whose data came with POISON is answered: what it stored is poisoned (R260). -/
def Dev.storedBad (d : Dev) (rid tag st : Nat) : Dev :=
  match d.cel.badWr.find? fun e => e.1 == rid && e.2.1 == tag with
  | none => d
  | some e =>
    let d := { d with cel := { d.cel with badWr := d.cel.badWr.erase e } }
    if st = 0 then d.poisonAt e.2.2.1 e.2.2.2 else d

/-- An answer goes the way its request came: as flits from the target's stop (R233), or to the requester at once. -/
def Dev.answerTo (d : Dev) (rid tag st : Nat) (bs : List Byte) : Dev :=
  let d := d.storedBad rid tag st
  match d.ann.via.find? fun v => v.rid == rid && v.key == tag with
  | some v =>
    let d := { d with ann := { d.ann with via := d.ann.via.erase v } }
    if v.stop = rid / 16 then
      { d with ann := { d.ann with open_ := d.ann.open_.filter fun x => x.stop != v.stop || x.unit != rid % 16 || x.tag != v.tag } }.respTo
        rid v.tag st bs
    else d.annReply v st bs (Config.rspKind v.opc)
  | none => d.respTo rid tag st bs

/-- The answers a command gave rise to are delivered, one after the other. -/
def Dev.deliver : Nat → Nat → Dev → Dev
  | 0, _, d => d
  | n + 1, k, d =>
    match d.out[k]? with
    | none => d
    | some (.resp rid tag st bs) => Dev.deliver n (k + 1) (d.answerTo rid tag st bs)
    | some _ => Dev.deliver n (k + 1) d

/-- A run that was active before and is ABORTED now retrains each UP link (R537). -/
def Dev.abortRetrain (d : Dev) (was : Bool) : Dev :=
  if was && d.fld REP_STATE == 5 then (upTo 4).foldl (fun d k => if d.linkUp k then d.linkRetrain k else d) d else d

/-- A command's effect and what follows from it at once. -/
def runAll (s : State) (f : Dev → Dev) : Host.Outcome State Fault Refusal :=
  run s fun d => (((f d).follow d).deliver 65536 0).abortRetrain d.running

end Sys2Proof.Machine
end

