-- ==== Sys2Proof/Machine/KeepOps.lean ====
section
/-! DEFINITION. The Keep bank and the Ember record (chapter 04): writes and reads of Keep words, the commit of entries, the power-up
check, reading, user entries and clearing. -/

namespace Sys2Proof.Machine
open Sys2Proof.Machine.Reg

/-! ## Keep bank (R132 to R139) -/

/-- A user word is protected by KEEP_WP (R137). -/
def Dev.keepProtected (d : Dev) (n : Nat) : Bool := d.fbit KEEP_WP (n / 64)

/-- Requester ID of a path at the Keep bank (R235, R248). A load's records and the device's own counts come from the safety block of the
management stop (log entry 156). -/
def pathRid : Path → Nat
  | .servicePort => ridOf mgmtStop 0
  | .smbus => ridOf mgmtStop 1
  | .jtag => ridOf mgmtStop 2
  | .fabric r => ridOf (gateStop (r.val / 4)) (r.val % 4)
  | .csrSet => ridOf mgmtStop 3

/-- What the next Capture-DR of the CSR register loads (R580). -/
def Dev.tapCsr (d : Dev) : Dev := d.emit (.tap (bitIf d.mgt.jtagDone 0 + bitIf d.mgt.jtagRef 1 + d.mgt.jtagData % 2 ^ 64 * 2 ^ 32))

/-- A Keep write's path is answered: the write has completed, or is refused (R133, R139). The ring's answer to a refused one is BAD_REQ (log
entry 157). -/
def Dev.keepAnswer (d : Dev) (w : KeepWr) (ok : Bool) : Dev :=
  if w.own then d
  else match w.path with
    | .servicePort => d.emit (if ok then .wrDone else .wrError)
    | .smbus => d.emit (if ok then .wrDone else .smbNack)
    | .jtag => { d with mgt := { d.mgt with jtagDone := true, jtagRef := !ok } }.tapCsr
    | .fabric _ => match w.who with
      | some (rid, tag) => d.emit (.resp rid tag (if ok then 0 else 9) [])
      | none => d.emit (if ok then .wrDone else .wrError)
    | .csrSet => d

/-- A Keep write comes before another that arrived in the same tick: ascending (requester ID + TS) mod 2,048 (R248). -/
def Dev.keepBefore (d : Dev) (a b : KeepWr) : Bool :=
  a.at_ == b.at_ && decide ((pathRid a.path + d.now) % 2048 < (pathRid b.path + d.now) % 2048)

/-- A write takes its place among those that wait: after all that arrived before it (R133). -/
def Dev.keepInsert (d : Dev) (w : KeepWr) : List KeepWr → List KeepWr
  | [] => [w]
  | a :: l => if d.keepBefore w a then w :: a :: l else a :: Dev.keepInsert d w l

/-- A write enters the Keep bank: it starts, or waits its turn (R133). -/
def Dev.keepEnter (d : Dev) (w : KeepWr) : Dev :=
  match d.keep.running with
  | none => { d with keep := { d.keep with running := some (w, d.clk.tick) } }
  | some (r, at_) =>
    if d.keepBefore w r then { d with keep := { d.keep with running := some (w, at_), queue := r :: d.keep.queue } }
    else { d with keep := { d.keep with queue := d.keepInsert w d.keep.queue } }

/-- How a Keep write begins: it has completed at once (RO and protected words, R132, R137), waits for its end, or is refused (R139). -/
inductive KeepEnd where
  | done | waits | refused
  deriving DecidableEq, Repr

/-- A Keep write arrives (R132, R133, R137, R139). -/
def Dev.keepAccept (d : Dev) (p : Path) (n v : Nat) (who : Option (Nat × Nat)) : KeepEnd × Dev :=
  if d.rst.pfail then (.refused, { d with keep := { d.keep with refused := d.keep.refused + 1 } })
  else if n < 8 then (.done, d)
  else if d.keepProtected n then (.done, d.logEv 0x0403 .D 0 [dU 2 n, dC (pathCode p)])
  else (.waits, d.keepEnter { path := p, word := n, data := v, who := who, at_ := d.clk.tick })

/-- A word the EQ64 owns counts up, in its turn (R132, R133). -/
def Dev.keepOwn (d : Dev) (n : Nat) : Dev := d.keepEnter { path := .csrSet, word := n, data := 0, own := true, at_ := d.clk.tick }

/-- The MRAM takes a write. -/
def Dev.keepTake (d : Dev) (w : KeepWr) : Dev := d.keepCommit w.word (if w.own then d.keepWord w.word + 1 else w.data)

/-- The running Keep write completes, 1,200 ticks after its start; its path goes on and the next one starts (R133, R134). -/
def Dev.keepDone (d : Dev) : Dev :=
  match d.keep.running with
  | none => d
  | some (w, at_) =>
    let d := ((d.tickTo (at_ + 1200)).keepTake w).keepAnswer w true
    match d.keep.queue with
    | [] => { d with keep := { d.keep with running := none } }
    | x :: r => { d with keep := { d.keep with running := some (x, d.clk.tick), queue := r } }

/-- A write of a load's record stalls the load until it and those before it are done (R133). `n` bounds them. -/
def Dev.keepDrain (d : Dev) : Nat → Dev
  | 0 => d
  | n + 1 => if d.keep.running.isNone then d else Dev.keepDrain d.keepDone n

/-- The writes a reset or power failure finds: the one that runs completes (R69, R152), and the device's own counts with it. -/
def Dev.keepFlush (d : Dev) : Dev :=
  let d := match d.keep.running with
    | some (w, _) => d.keepTake w
    | none => d
  let d := (d.keep.queue.filter (·.own)).foldl Dev.keepTake d
  { d with keep := { d.keep with running := none, queue := d.keep.queue.filter fun w => !w.own } }

/-- What the check of a read finds new in word `n`, or from 4,096 in a wear counter. -/
def Dev.keepUpset (d : Dev) (n : Nat) (u : Upset) : Dev :=
  match u with
  | .clean => d
  | .single => if Sparse.get 0 d.keep.ecc n = 2 then d else { d with keep := { d.keep with ecc := Sparse.set 0 d.keep.ecc n 1 } }
  | .double => { d with keep := { d.keep with ecc := Sparse.set 0 d.keep.ecc n 2 } }

/-- KEEP_WEAR_n as it stands (R153). -/
def Dev.keepWear (d : Dev) (n : Nat) : Nat :=
  let w := Sparse.get 0 d.keep.wear n
  w + bitIf (decide (1000000 < w)) 32

/-- A read of Keep word `n`, or from 4,096 of a wear counter (R138). -/
def Dev.keepGet (d : Dev) (n : Nat) : Nat × Dev :=
  let v := if n < 4096 then d.keepWord n else d.keepWear (n - 4096)
  match Sparse.get 0 d.keep.ecc n with
  | 0 => (v, d)
  | 1 => (v, d.inc KEEP_CE)
  | _ => (2 ^ 64 - 1, (d.raise KEEP_UE).logUE 0x0402 0 [dU 2 (n % 4096)])

/-- A word the EQ64 owns counts up at once, as a reset or power failure needs it (R132). -/
def Dev.keepCount (d : Dev) (n : Nat) : Dev := d.keepCommit n (d.keepWord n + 1)

/-! ## Entries as they are stored (R140) -/

/-- FLAGS of an entry. -/
def EmbEnt.flags (e : EmbEnt) (pinned : Bool) : Nat :=
  bitIf e.opened 0 + bitIf e.preTs 1 + bitIf e.merged 2 + bitIf e.replay 3 + bitIf pinned 4

/-- Bytes 0 to 59. -/
def EmbEnt.body (e : EmbEnt) (seq epoch : Nat) (pinned : Bool) : List Byte :=
  let det := (detailBytes e.detail).take 28
  leBytes 8 seq ++ leBytes 8 e.ts ++ leBytes 2 e.event ++ leBytes 1 e.cls.code ++ leBytes 1 (e.flags pinned) ++ leBytes 2 (e.event / 256)
    ++ leBytes 2 e.inst ++ leBytes 4 epoch ++ leBytes 4 e.count ++ det ++ List.replicate (28 - det.length) 0

/-- The 64 bytes as one number. -/
def EmbEnt.word (e : EmbEnt) (seq epoch : Nat) (pinned : Bool) : Nat :=
  let b := e.body seq epoch pinned
  leNat b + crc32 b * 2 ^ 480

/-- SEQ of a stored entry. -/
def embSeqOf (w : Nat) : Nat := w % 2 ^ 64
/-- Its CRC holds. -/
def embCrcOk (w : Nat) : Bool := crc32 (leBytes 60 w) == w / 2 ^ 480 % 2 ^ 32

/-- Entry `i` of the record. -/
def Dev.embAt (d : Dev) (i : Nat) : Nat := Sparse.get 0 d.ember.area i

/-- The place after HEAD (R143). -/
def nextHead (h : Nat) : Nat := if h = 131071 then 2048 else h + 1

/-- An EMB_LOST entry takes the first of places 1 to 56 that frees (R145), or merges into one of the same lowest class (R146). -/
def Dev.embLostDue (d : Dev) : Dev :=
  if d.ember.lost = 0 ∨ 56 ≤ d.ember.queue.length then d
  else
    let e : EmbEnt := { ts := d.clk.ts, event := 0x0302, cls := .D, replay := d.running, detail := [dN d.ember.lost, dC d.ember.lostCls] }
    { d with ember := { d.ember with queue := (mergeEnt e d.ember.queue).getD (d.ember.queue ++ [e]), lost := 0, lostCls := 3 } }

/-- The oldest entry also goes to the pinned area: class D, F and S, while it has room, unless it was raised while a clear ran or one runs
now (R143, R151, log entry 158). -/
def Dev.embPins (d : Dev) (e : EmbEnt) : Bool :=
  decide (1 ≤ e.cls.code) && decide (d.ember.pinCount < 2048) && !e.noPin && !d.flag EMB_CLEARING

/-- A power-fail entry is committed with the Keep writes refused so far (R139). -/
def Dev.pfailCount (d : Dev) (e : EmbEnt) : EmbEnt :=
  if e.event = 0x0005 then { e with detail := e.detail.take 1 ++ [dN d.keep.refused] } else e

/-- The record with its oldest entry `e` committed, `r` waiting behind it: to HEAD, and to the next free pinned index. -/
def Dev.embWritten (d : Dev) (e : EmbEnt) (r : List EmbEnt) : Ember :=
  let m := d.ember
  let epoch := d.keepWord 0 % 2 ^ 32
  let pin := d.embPins e
  let area := Sparse.set 0 m.area m.head (e.word m.seqNext epoch false)
  { m with
    area := if pin then Sparse.set 0 area m.pinCount (e.word m.seqNext epoch true) else area,
    queue := r, head := nextHead m.head, wraps := if m.head = 131071 then satAdd 16 m.wraps 1 else m.wraps, seqNext := m.seqNext + 1,
    reserved := some (m.head, m.seqNext, if pin then m.pinCount + 1 else 0), pinCount := if pin then m.pinCount + 1 else m.pinCount,
    lastTs := e.ts }

/-- Commit the oldest entry of the queue (R143, R144). -/
def Dev.embCommit (d : Dev) : Dev :=
  if !d.ember.ready then d else
  match d.ember.queue with
  | [] => d
  | e₀ :: r =>
    let e := d.pfailCount e₀
    let full := d.embPins e && d.ember.pinCount == 2047
    let seq := d.ember.seqNext
    let d := { d with ember := d.embWritten e r }.embLostDue
    if full then d.logEv 0x0305 .I 0 [dT seq] else d

/-- Every queued entry commits (R69). `fuel` bounds them. -/
def Dev.embCommitAll (d : Dev) : Nat → Dev
  | 0 => d
  | fuel + 1 => if d.ember.queue = [] then d else Dev.embCommitAll d.embCommit fuel

/-- The record with entry `e` cut short after `words` whole words, those of its pinned copy counted from 8: they stand over what lay there
before (R147). Its number is used up, and so is its pinned index (log entry 159). -/
def Dev.embTorn (d : Dev) (e : EmbEnt) (words : Nat) : Ember :=
  let m := d.ember
  let w := e.word m.seqNext (d.keepWord 0 % 2 ^ 32) false
  let pin := d.embPins e
  let area := Sparse.set 0 m.area m.head (setBits (d.embAt m.head) 0 (64 * min 8 words) w)
  let wp := e.word m.seqNext (d.keepWord 0 % 2 ^ 32) true
  { m with
    area := if pin then Sparse.set 0 area m.pinCount (setBits (d.embAt m.pinCount) 0 (64 * (words - 8)) wp) else area,
    head := nextHead m.head, wraps := if m.head = 131071 then satAdd 16 m.wraps 1 else m.wraps, seqNext := m.seqNext + 1,
    reserved := some (m.head, m.seqNext, if pin then m.pinCount + 1 else 0), pinCount := if pin then m.pinCount + 1 else m.pinCount }

/-- The entry in progress as power is lost (R147, R152). -/
def Dev.embTear (d : Dev) (words : Nat) : Dev :=
  match d.ember.queue with
  | [] => d
  | e :: _ =>
    let n := if d.embPins e then 16 else 8
    if !d.ember.ready ∨ n ≤ words then d else { d with ember := d.embTorn (d.pfailCount e) words }

/-- A RESET entry (R60, R142): scope, GLB_RST_CAUSE, the unit. -/
def resetEntry (ts scope cause unit : Nat) (pre : Bool) : EmbEnt :=
  { ts := ts, event := 0x0001, cls := .I, preTs := pre, detail := [dC scope, dT cause, dU 2 unit] }

/-- The power-up check (R147): a torn entry is reported, a clear that was cut short completes (R151), and the RESET entries that
waited enter the queue (R60). -/
def Dev.embCheck (d : Dev) : Dev :=
  if d.ember.ready then d else
  let torn (d : Dev) (i seq : Nat) : Bool := embSeqOf (d.embAt i) != seq || !embCrcOk (d.embAt i)
  let d := match d.ember.clearing with
    | none => d
    | some (lo, hi, op) => (clearArea d).logEv 0x0303 .I 0 [dT lo, dT hi] op
  let d := match d.ember.reserved with
    | none => d
    | some (i, seq, pin) =>
      let d := if torn d i seq then d.logEv 0x0301 .D 0 [dO i, dT seq] else d
      if pin ≠ 0 ∧ torn d (pin - 1) seq = true then d.logEv 0x0301 .D 0 [dO (pin - 1), dT seq] else d
  let due := d.ember.resetDue
  let d := { d with ember := { d.ember with ready := true, resetDue := [] } }
  due.foldl (fun d e => d.post (resetEntry d.ember.lastTs e.1 e.2 0 true)) d
where
  /-- The pinned area as a completed clear leaves it. -/
  clearArea (d : Dev) : Dev :=
    { d with ember := { d.ember with area := d.ember.area.filter fun e => decide (2048 ≤ e.1), pinCount := 0, clearing := none } }.keepOwn 3

/-- EMB_STAT (R156). -/
def Dev.embStat (d : Dev) : Nat :=
  d.ember.head + d.ember.pinCount % 2048 * 2 ^ 20 + bitIf (d.ember.pinCount == 2048) 32 + d.ember.queue.length * 2 ^ 33
    + d.fld EMB_CLEARING * 2 ^ 40 + d.ember.wraps * 2 ^ 48

/-- A write of EMB_RD_IDX loads the entry; one above 131,071 keeps what stands (R148). -/
def Dev.embLoad (d : Dev) (v : Nat) : Dev :=
  if 131071 < v then d else
  let i := v
  let w := if i < 2048 ∧ d.ember.pinCount ≤ i then 0 else d.embAt i
  (upTo 8).foldl (fun d m => d.setF EMB_RD_DATA (w / 2 ^ (64 * m)) m) (d.setF EMB_RD_IDX i)

/-- A write of EMB_USER_CTL posts a USER entry (R149). -/
def Dev.embUser (d : Dev) (v : Nat) : Dev :=
  d.logEv (0xF000 + v % 256) .I 0 [dB 8 (d.fld EMB_USER 0), dB 8 (d.fld EMB_USER 1), dB 8 (d.fld EMB_USER 2), dB 4 (d.fld EMB_USER 3 % 2 ^ 32)]

/-- A number of `n` bits as the concatenation of 64-bit registers, the first one lowest. -/
def Dev.concat (d : Dev) (f : Fld) (at_ n : Nat) : Nat := (upTo n).foldl (fun a i => a + d.fld f (at_ + i) * 2 ^ (64 * i)) 0

/-- An attempt to clear the pinned area (R150, R151): without a running image no key authorises it. An attempt while a clear runs starts it
anew, with nothing left to name (log entry 160). -/
def Dev.pinClear (d : Dev) : Dev :=
  let idreg := d.fld ID_PART + d.fld ID_STEP * 2 ^ 16 + d.fld ID_GRADE * 2 ^ 24
  let msg := leBytes 8 (d.fld EMB_CHAL) ++ leBytes 8 idreg ++ leBytes 8 d.ember.seqNext
  let sig := BitVec.ofNat 768 (d.concat EMB_AUTH 0 12)
  if d.load.aDone && Config.ecdsaVerify d.load.pubkey (Config.sha384 msg) sig then
    let seqs := (upTo d.ember.pinCount).map fun i => embSeqOf (d.embAt i)
    let lo := seqs.headD 0
    let hi := seqs.getLastD 0
    let d := { d with ember := { d.ember with pinCount := 0, clearing := some (lo, hi, d.flag CFG_OPEN) } }
    (d.setF EMB_CLEARING 1).freshChal
  else (d.logEv 0x0304 .D 0 [dT (d.fld EMB_CHAL)]).freshChal

/-- The clear completes (R132, R151). -/
def Dev.pinClearDone (d : Dev) : Dev :=
  match d.ember.clearing with
  | none => d
  | some (lo, hi, op) => ((Dev.embCheck.clearArea d).setF EMB_CLEARING 0).logEv 0x0303 .I 0 [dT lo, dT hi] op

end Sys2Proof.Machine
end

