-- ==== Sys2Proof/Machine/SliceOps.lean ====
section
/-! DEFINITION. Signal slices and their address generators (chapter 06). -/

namespace Sys2Proof.Machine
open Sys2Proof.Machine.Reg

/-- Slice `n`. -/
def Dev.sliceOf (d : Dev) (n : Nat) : Slice := Sparse.get {} d.fab.slice n
/-- Change it. -/
def Dev.setSlice (d : Dev) (n : Nat) (x : Slice) : Dev := { d with fab := { d.fab with slice := Sparse.set {} d.fab.slice n x } }

/-- Region, column and row of a slice (R192). -/
def sliceRegion (n : Nat) : Nat := n / 128

/-- A complex number in exact integers. -/
structure CInt where
  re : Int
  im : Int
  deriving DecidableEq, Repr

/-- An operand's parts. -/
def C18.int (x : C18) : CInt := ⟨x.re.toInt, x.im.toInt⟩
/-- A × B (R194). -/
def CInt.mul (a b : CInt) : CInt := ⟨a.re * b.re - a.im * b.im, a.re * b.im + a.im * b.re⟩
/-- The conjugate. -/
def CInt.conj (a : CInt) : CInt := ⟨a.re, -a.im⟩
/-- The sum. -/
def CInt.add (a b : CInt) : CInt := ⟨a.re + b.re, a.im + b.im⟩
/-- Both parts times 2^n. -/
def CInt.shift (a : CInt) (n : Nat) : CInt := ⟨a.re * 2 ^ n, a.im * 2 ^ n⟩

/-- Does a value leave the 48-bit range (R198)? -/
def over48 (x : Int) : Bool := decide (x < -(2 ^ 47)) || decide (2 ^ 47 ≤ x)

/-- A value brought back into 48 bits: clamped or wrapped (R198). -/
def fit48 (sat : Bool) (x : Int) : Int :=
  if sat then max (-(2 ^ 47)) (min (2 ^ 47 - 1) x) else toSigned 48 (ofSigned 48 x)

/-- Rounding after a right shift by `s` (R199, R200): the exact quotient V / 2^s brought to an integer. -/
def shiftRound (mode s : Nat) (v : Int) : Int :=
  if s = 0 then v else
  let q := v / 2 ^ s
  let r := v % 2 ^ s
  match mode with
  | 0 => if 2 * r < 2 ^ s then q else if 2 ^ s < 2 * r then q + 1 else if q % 2 = 0 then q else q + 1
  | 1 => (v + 2 ^ (s - 1)) / 2 ^ s
  | 2 => if 0 ≤ v ∨ r = 0 then q else q + 1
  | _ => q

/-- The smallest n with −2^n ≤ x < 2^n, up to 47 (R201). -/
def magBits (x : Int) : Nat := ((upTo 47).find? fun n => decide (-(2 ^ n) ≤ x) && decide (x < 2 ^ n)).getD 47

/-- A part saturated to `w` bits (R199). -/
def satTo (w : Nat) (x : Int) : Int := max (-(2 ^ (w - 1))) (min (2 ^ (w - 1) - 1) x)

/-- BEX_MAX as the slice drives it: its own, or with BEX_CASC the larger of its own and the slice south of it (R203). -/
def Dev.bexOut (d : Dev) : Nat → Nat → Nat
  | 0, n => (d.sliceOf n).bex
  | fuel + 1, n =>
    let x := d.sliceOf n
    if x.cfg.bexCasc && n % 64 != 0 then max x.bex (Dev.bexOut d fuel (n - 1)) else x.bex

/-- What the slice drives at its outputs. -/
def Dev.sliceShow (d : Dev) (n : Nat) : Dev :=
  let x := d.sliceOf n
  d.emit (.link "SLICE" n [ofSigned 18 x.outRe, ofSigned 18 x.outIm, if x.valid then 1 else 0, if x.sat then 1 else 0,
    if x.ovf then 1 else 0, d.bexOut 64 n] [])

/-- An update of both accumulators (R194, R198) with its output (R199 to R202). -/
def Dev.sliceUpdate (d : Dev) (n : Nat) (v : CInt) (shift : Nat) : Dev :=
  let x := d.sliceOf n
  let c := x.cfg
  let re := fit48 c.accSat v.re
  let im := fit48 c.accSat v.im
  let s := min 47 (if c.shiftSrc then shift else c.outShift)
  let w := if c.wide then 18 else 16
  let rr := shiftRound c.rnd s re
  let ri := shiftRound c.rnd s im
  (d.setSlice n { x with accRe := re, accIm := im, ovf := x.ovf || over48 v.re || over48 v.im, outRe := satTo w rr, outIm := satTo w ri,
                         valid := true, sat := satTo w rr != rr || satTo w ri != ri,
                         bex := max x.bex (max (magBits rr) (magBits ri)) }).sliceShow n

/-- An update of a slice whose region runs. -/
def Dev.sliceOp (d : Dev) (n : Nat) (f : Slice → CInt) (shift : Nat) : Dev :=
  if d.regionRuns (sliceRegion n) then d.sliceUpdate n (f (d.sliceOf n)) shift else d

/-- HOLD and CLR: no output (R194). -/
def Dev.sliceQuiet (d : Dev) (n : Nat) (clear : Bool) : Dev :=
  if d.regionRuns (sliceRegion n) then
    let x := d.sliceOf n
    let x := if clear then { x with accRe := 0, accIm := 0 } else x
    (d.setSlice n { x with valid := false, sat := false }).sliceShow n
  else d

/-- CIN: the accumulators of the slice directly south, 0 for the southmost (R196). -/
def Dev.sliceCin (d : Dev) (n : Nat) : CInt := if n % 64 = 0 then ⟨0, 0⟩ else ⟨(d.sliceOf (n - 1)).accRe, (d.sliceOf (n - 1)).accIm⟩

/-- The accumulators. -/
def Slice.acc (x : Slice) : CInt := ⟨x.accRe, x.accIm⟩

/-- OVF_CLR (R198): an overflow of the same FCLK leaves OVF high. -/
def Dev.ovfClr (d : Dev) (n : Nat) (now : Bool) : Dev :=
  if d.regionRuns (sliceRegion n) then (d.setSlice n { d.sliceOf n with ovf := now }).sliceShow n else d

/-- BEX_CLR (R202). -/
def Dev.bexClr (d : Dev) (n : Nat) : Dev :=
  if d.regionRuns (sliceRegion n) then (d.setSlice n { d.sliceOf n with bex := 0 }).sliceShow n else d

/-! ## Address generators (R204, R205) -/

/-- The low `m` bits of `i`, reversed. -/
def bitrev : Nat → Nat → Nat
  | 0, _ => 0
  | m + 1, i => i % 2 * 2 ^ m + bitrev m (i / 2)

/-- M of BITREV: outside 1 to 15 acts as 15. -/
def SliceCfg.bits (c : SliceCfg) : Nat := if 1 ≤ c.m ∧ c.m ≤ 15 then c.m else 15

/-- STEP as a signed number. -/
def SliceCfg.stepInt (c : SliceCfg) : Int := toSigned 16 c.step

/-- The STEP of MODULO: of a magnitude of at least LEN it acts as STEP mod LEN. -/
def SliceCfg.modStep (c : SliceCfg) : Int := if c.stepInt.natAbs < c.len then c.stepInt else c.stepInt % c.len

/-- ADDR at the generator's position. -/
def Slice.agAddr (x : Slice) : Nat :=
  let c := x.ag
  match c.mode with
  | 0 => (c.base + x.idx * c.step) % 65536
  | 1 => (c.base + x.pos) % 65536
  | 2 => (c.base + bitrev c.bits (x.idx % 2 ^ c.bits) * c.step) % 65536
  | _ => (c.base + x.j * c.strideO + x.k * c.step) % 65536

/-- The generator at the start of its sequence. -/
def Slice.agStart (x : Slice) (c : SliceCfg) : Slice :=
  let x := { x with ag := c, idx := 0, pos := 0, k := 0, j := 0 }
  { x with addr := x.agAddr, wrap := c.mode == 3 && c.nI == 1 && c.nO == 1 }

/-- The next position, and whether it wraps. -/
def Slice.agNext (x : Slice) : Slice :=
  let c := x.ag
  let x := match c.mode with
    | 1 =>
      let p : Int := x.pos + c.modStep
      { x with pos := (p % c.len).toNat, wrap := decide (p < 0) || decide ((c.len : Int) ≤ p) }
    | 3 =>
      let k := if x.k + 1 < c.nI then x.k + 1 else 0
      let j := if x.k + 1 < c.nI then x.j else if x.j + 1 < c.nO then x.j + 1 else 0
      { x with k := k, j := j, wrap := k + 1 == c.nI && j + 1 == c.nO }
    | 2 => { x with wrap := (x.idx + 1) % 2 ^ c.bits == 0 }
    | _ => { x with wrap := false }
  let x := { x with idx := x.idx + 1 }
  { x with addr := x.agAddr }

/-- ADDR and WRAP as the generator drives them. -/
def Dev.agShow (d : Dev) (n : Nat) : Dev :=
  d.emit (.link "AG" n [(d.sliceOf n).addr, if (d.sliceOf n).wrap then 1 else 0] [])

/-- ADV (R204). -/
def Dev.agAdv (d : Dev) (n : Nat) : Dev :=
  if d.regionRuns (sliceRegion n) then (d.setSlice n (d.sliceOf n).agNext).agShow n else d

/-- 0 means 65,536. -/
def full16 (v : Nat) : Nat := if v = 0 then 65536 else v

/-- LOAD (R204). -/
def Dev.agLoad (d : Dev) (n : Nat) (c : SliceCfg) : Dev :=
  if d.regionRuns (sliceRegion n) then (d.setSlice n ((d.sliceOf n).agStart c)).agShow n else d

/-! ## Configuration (R206, R207) -/

/-- The static fields as R207 lays them out, bits [54:0], then LEN, STRIDE_O, N_I and N_O of 16 bits each. -/
def sliceCfgOf (v : Nat) : SliceCfg :=
  { cshift := bits v 0 5, outShift := bits v 5 6, shiftSrc := bitAt v 11, wide := bitAt v 12, rnd := bits v 13 2, accSat := bitAt v 15,
    bexCasc := bitAt v 16, mode := bits v 17 2, base := bits v 19 16, step := bits v 35 16, m := bits v 51 4,
    len := full16 (bits v 55 16), strideO := bits v 71 16, nI := full16 (bits v 87 16), nO := full16 (bits v 103 16) }

/-- A slice after a configuration load or the thaw of its region (R206). -/
def freshSlice (c : SliceCfg) : Slice := ({ cfg := c } : Slice).agStart c

end Sys2Proof.Machine
end

