-- ==== Sys2Proof/Machine/Image.lean ====
section
/-! DEFINITION. Belad images: the header and its checks, sections and their checks, and what frames and essential-bit maps become
(chapter 03; used by a load and by a region exchange). -/

namespace Sys2Proof.Machine
open Sys2Proof.Machine.Reg

/-! ## Fields -/

/-- `n` bytes at an offset as a little-endian number (R87). -/
def numAt (b : List Byte) (at_ n : Nat) : Nat := leNat ((b.drop at_).take n)
/-- `n` bytes at an offset. -/
def bytesAt (b : List Byte) (at_ n : Nat) : List Byte := (b.drop at_).take n

/-! ## The header (R87 to R90, R94) -/

/-- Section-table entry `i` of a header (R88). Bytes 44 to 47, which the table does not list, are passed over (log entry 148). -/
def sectAt (b : List Byte) (i : Nat) : Sect :=
  let e := bytesAt b (0x400 + 96 * i) 96
  { typ := numAt e 0 2, stage := numAt e 2 1, flags := numAt e 3 1, index := numAt e 4 4, offset := numAt e 8 8, length := numAt e 16 8,
    target := numAt e 24 8, iv := numAt e 32 12, digest := BitVec.ofNat 384 (numAt e 48 48) }

/-- FLASH_MODE of a header (R94). -/
def flashOf (b : List Byte) : FlashMode :=
  let f (i n : Nat) : Nat := numAt b (0x020 + i) n
  let setup (k : Nat) : Nat × List Byte := (f (8 + 8 * k) 1, bytesAt b (0x020 + 10 + 8 * k) (f (9 + 8 * k) 1))
  { width := f 0 1, ddr := f 1 1, freqMHz := f 2 1, addrBytes := f 3 1, opcode := f 4 1, dummy := f 5 1,
    setup := (upTo (f 6 1)).map setup }

/-- The header fields a load keeps. -/
def hdrOf (b : List Byte) : Hdr :=
  { secVersion := numAt b 0x00C 4, stageA := numAt b 0x012 2, flags := numAt b 0x014 4, syncTimeout := numAt b 0x018 2,
    pkIndex := numAt b 0x01A 1, keySlot := numAt b 0x01B 1, pubkey := BitVec.ofNat 768 (numAt b 0x050 96),
    wrapped := BitVec.ofNat 320 (numAt b 0x0B0 40), flash := flashOf b, sects := (upTo (numAt b 0x010 2)).map (sectAt b) }

/-- FLASH_MODE holds legal values only (R94). -/
def flashModeOk (b : List Byte) : Bool :=
  let f (i n : Nat) : Nat := numAt b (0x020 + i) n
  let len (i : Nat) : Bool := decide (f 6 1 ≤ i) || decide (f (9 + 8 * i) 1 ≤ 4)
  [1, 4, 8].contains (f 0 1) && decide (f 1 1 ≤ 1) && decide (25 ≤ f 2 1) && decide (f 2 1 ≤ 200) && [3, 4].contains (f 3 1)
    && decide (f 5 1 ≤ 32) && decide (f 6 1 ≤ 2) && f 7 1 == 0 && f 14 2 == 0 && f 22 10 == 0 && len 0 && len 1

/-- ENC of a section. -/
def Sect.enc (x : Sect) : Bool := bitAt x.flags 0

/-- The stage a section type belongs to, and whether its INDEX and TARGET are legal (R89); `none` for a type not listed. -/
def sectOk (x : Sect) : Bool :=
  let all := x.index == 0xFFFFFFFF
  let t0 := x.target == 0
  (match x.typ with
    | 0x0001 => x.index == 0 && t0
    | 0x0002 => x.stage == 0 && decide (x.index ≤ 3) && t0
    | 0x0010 => x.stage == 1 && decide (x.index ≤ 31) && t0
    | 0x0011 => x.stage == 1 && decide (x.index ≤ 31) && t0
    | 0x0020 => x.stage == 1 && (decide (x.index ≤ 63) || all)
    | 0x0030 => x.stage == 1 && decide (x.index ≤ 63)
    | 0x0040 => x.stage == 1 && x.index == 0
    | 0x0050 => x.stage == 0 && (decide (x.index ≤ 511) || all) && t0
    | 0x0051 => x.stage == 1 && (decide (x.index ≤ 511) || all) && t0
    | _ => false)
    && decide (x.stage ≤ 1) && decide (x.flags ≤ 1) && (x.enc || x.iv == 0) && x.length % 16 == 0 && decide (16 ≤ x.length)

/-- Sections lie at strictly ascending offsets without overlap (R90). -/
def ascending : List Sect → Bool
  | a :: b :: r => decide (a.offset + a.length ≤ b.offset) && ascending (b :: r)
  | _ => true

/-- FOLLOWER sections. -/
def Sect.follower (x : Sect) : Bool := x.typ == 0x0050 || x.typ == 0x0051

/-- The layout check (R90). -/
def layoutOk (h : Hdr) : Bool :=
  let a := h.sects.take h.stageA
  decide (h.stageA ≤ h.sects.length) && a.all (·.stage == 0) && (h.sects.drop h.stageA).all (·.stage == 1) && ascending h.sects
    && decide ((a.map (·.length)).sum ≤ 4 * 2 ^ 20) && h.sects.all fun x => !(x.follower && x.enc)

/-- What makes a header's fixed part acceptable (R87, R105): 0, or 1 BAD_MAGIC, 2 BAD_FORMAT. -/
def fixedForm (b : List Byte) : Nat :=
  let h := hdrOf b
  if bytesAt b 0 8 ≠ [69, 81, 54, 52, 46, 66, 76, 73] ∨ numAt b 8 4 ≠ 1 then 1
  else if b.length < 16384 ∨ h.sects.length = 0 ∨ 160 < h.sects.length ∨ 3 < h.flags ∨ 1 < h.pkIndex ∨ 1 < h.keySlot ∨ numAt b 0x01C 4 ≠ 0
      ∨ numAt b 0x0D8 0x2C8 ≠ 0 ∨ flashModeOk b = false then 2 else 0

/-- What makes a header acceptable as a form (R87, R89, R90, R105): 0, or the code of its first failure: 1 BAD_MAGIC, 2 BAD_FORMAT,
6 BAD_LAYOUT. -/
def headerForm (b : List Byte) : Nat :=
  let h := hdrOf b
  let f := fixedForm b
  if f ≠ 0 then f else if h.sects.any (fun x => !sectOk x) = true then 2 else if layoutOk h = false then 6 else 0

/-! ## Authentication and keys (R95 to R97, R626) -/

/-- The part is open: both PK_HASH fuses are blank (R96). -/
def Dev.openPart (d : Dev) : Bool := d.load.pkHash.all (·.isNone)

/-- A header's authentication (R95): 0, or 4 KEY_HASH_FAIL, 3 SIG_FAIL, 5 ROLLBACK. An open part asks for the signature alone (R96). -/
def Dev.headerAuth (d : Dev) (b : List Byte) : Nat :=
  let h := hdrOf b
  let revoked := if h.pkIndex = 0 then d.flag FUSE_PK_0_REVOKED else d.flag FUSE_PK_1_REVOKED
  let hash := Config.sha384 (bytesAt b 0x050 96)
  if !d.openPart && (d.load.pkHash.getD h.pkIndex none != some hash || revoked) then 4
  else if !Config.ecdsaVerify h.pubkey (Config.sha384 (bytesAt b 0 0x3A0 ++ bytesAt b 0x400 0x3C00)) (BitVec.ofNat 768 (numAt b 0x3A0 96)) then 3
  else if !d.openPart && h.secVersion < d.fld FUSE_MIN_VERSION then 5 else 0

/-- The KEK a header selects, where there is one and it is not revoked (R97, R98). -/
def Dev.kekOf (d : Dev) (slot : Nat) : Option (BitVec 256) :=
  if slot = 0 then (if d.flag FUSE_KEK_0_REVOKED then none else d.load.kek0) else d.load.keyStore.map Config.pufUnwrap

/-- The unwrapped content key (R97): none where the KEK is missing or the unwrap fails, which the first encrypted section then meets as
NO_KEY (log entry 149). -/
def Dev.contentKey (d : Dev) (h : Hdr) : Option (BitVec 256) := (d.kekOf h.keySlot).bind fun k => Config.aesUnwrap k h.wrapped

/-- A section's checks (R97, log entry 50): 0 and its plain bytes, or the FAIL_CODE: 7 DIGEST_FAIL, 13 NO_ENC, 9 NO_KEY, 8 TAG_FAIL. -/
def Dev.sectPlain (d : Dev) (key : Option (BitVec 256)) (x : Sect) (stored : List Byte) : Nat × List Byte :=
  if stored.length ≠ x.length ∨ Config.sha384 stored ≠ x.digest then (7, [])
  else if !x.enc then (if d.flag FUSE_ENC_REQUIRED then (13, []) else (0, stored))
  else match key with
    | none => (9, [])
    | some k => match Config.aesGcmOpen k (BitVec.ofNat 96 x.iv) stored with
      | some p => (0, p)
      | none => (8, [])

/-! ## Frames and maps (R93, R120) -/


/-- Words of a byte string, 8 bytes each. -/
def words8 : Nat → List Byte → List Nat
  | 0, _ => []
  | n + 1, b => if b = [] then [] else leNat (b.take 8) :: words8 n (b.drop 8)

/-- A table without the entries of region `r`. -/
def dropRegion {α : Type} (m : List (Nat × α)) (r : Nat) : List (Nat × α) := m.filter fun e => e.1 / frameWords != r

/-- A region's frames are written: upsets of them are gone. -/
def Dev.putFrames (d : Dev) (r : Nat) (plain : List Byte) : Dev :=
  let ws := words8 frameWords plain
  let m := ((upTo ws.length).zip ws).foldl (fun m e => Sparse.set 0 m (r * frameWords + e.1) e.2) (dropRegion d.load.frames r)
  { d with load := { d.load with frames := m, bad := dropRegion d.load.bad r, loaded := Sparse.set false d.load.loaded r true } }

/-- A region's essential-bit map is written: a word whose bit is 0 is not essential. Bits go lowest first within a byte (log entry 152). -/
def Dev.putEbm (d : Dev) (r : Nat) (plain : List Byte) : Dev :=
  let m := (upTo (min frameWords (8 * plain.length))).foldl
    (fun m i => Sparse.set false m (r * frameWords + i) (!bitAt (plain.getD (i / 8) 0).toNat (i % 8))) (dropRegion d.load.nonEss r)
  { d with load := { d.load with nonEss := m } }

/-- A region's frames and map return to their reset values. -/
def Dev.wipeRegion (d : Dev) (r : Nat) : Dev :=
  { d with load := { d.load with frames := dropRegion d.load.frames r, bad := dropRegion d.load.bad r, nonEss := dropRegion d.load.nonEss r,
                                 loaded := Sparse.set false d.load.loaded r false } }

/-- Blocks of a region (R23). -/
def blocksOf (r : Nat) : List Nat := (upTo 192).map (192 * r + ·)
/-- Slices of a region (R192). -/
def slicesOf (r : Nat) : List Nat := (upTo 128).map (128 * r + ·)

/-- The logic elements of region `r` start as its frames say. -/
def dropLogic (m : List (Nat × Le)) (r : Nat) : List (Nat × Le) := m.filter fun e => e.1 / 98304 != r

/-- The state of a region takes what its frames set (R158, R176, R184, R186, R189, R190, R206): queue controllers, ring gate settings,
signal slices, and the registers of its logic elements. -/
def Dev.configRegion (d : Dev) (r : Nat) : Dev :=
  let b := d.frameBytes r
  let put (d : Dev) (f : Fld) (v i : Nat) : Dev := d.setF f (v / 2 ^ f.lo) i
  let block (d : Dev) (n : Nat) : Dev :=
    let v := (Config.frameQcCfg b n).toNat
    let d := [QC_MODE, QC_WIDTH, QC_DUAL, QC_EXPORT, QC_DEVSIDE, QC_LIMIT, QC_AE_LEVEL, QC_AF_LEVEL].foldl (fun d f => put d f v n) d
    (d.setF QC_POST (Config.frameQcPost b n).toNat n).qcResetBlock n
  let d := (blocksOf r).foldl block d
  let g := (Config.frameRgCtl b).toNat
  let d := ([RG_CSR_EN, RG_QWAIT, RG_IWAIT].foldl (fun d f => put d f g r) d).setF RG_LATE_DROP 0 r
  let d := { d with fab := { d.fab with le := dropLogic d.fab.le r } }
  (slicesOf r).foldl (fun d n => d.setSlice n (freshSlice (sliceCfgOf (Config.frameSlice b n).toNat))) d

end Sys2Proof.Machine
end

