-- ==== Sys2Proof/Machine/ExchOps.lean ====
section
/-! DEFINITION. Live region exchange and the handover cells (chapter 07). -/

namespace Sys2Proof.Machine
open Sys2Proof.Machine.Reg

/-! ## Handover cells (R219 to R222) -/

/-- A timer starts counting at 0 with settings as HX_TMR_CMP_t lays them out. -/
def Dev.hxTimerSet (d : Dev) (r t v : Nat) : Dev :=
  let j := 16 * r + t
  let d := (((d.setF HX_CMP v r t).setF HX_PRE (v / 2 ^ 48) r t).setF HX_SRC (v / 2 ^ 56) r t).setF HX_PERIODIC (v / 2 ^ 57) r t
  { d with fab := { d.fab with
      hxStop := Sparse.set false d.fab.hxStop j false, hxBase := Sparse.set (0, 0) d.fab.hxBase j (0, d.clk.root),
      hxFirst := Sparse.set 0 d.fab.hxFirst j 0 } }

/-- The cells of a region take their settings, and what their detectors watch, from its frames, at a full configuration load alone (R219,
R221). -/
def Dev.hxFromFrames (d : Dev) (r : Nat) : Dev :=
  let b := d.frameBytes r
  let d := (upTo 16).foldl (fun d t => d.hxTimerSet r t (Config.frameHxTimer b t).toNat) d
  (upTo 32).foldl (fun d e =>
    { d with fab := { d.fab with hxWatch := Sparse.set 0 d.fab.hxWatch (32 * r + e) (Config.frameHxWatch b e).toNat } }.setF HX_SENSE
      (Config.frameHxEdge b e).toNat r e) d

/-- HX_TIMER_MATCH (R219, R220): a pulse, or in a freeze a pending match. A periodic timer restarts at the tick of the match. A match in the
first FCLK after a thaw at which a latched one left joins its pulse and counts as missed. -/
def Dev.hxMatch (d : Dev) (r t : Nat) : Dev :=
  let j := 16 * r + t
  let at_ := d.hxMatchAt r t
  let quiet := !d.released || NatSet.has d.fab.hxStop j || !(NatSet.has d.load.loaded r || d.regionBusy r)
  if quiet || decide (d.clk.root < at_) then d
  else
    let first := Sparse.get 0 d.fab.hxFirst j
    let joins := first != 0 && decide (at_ < first - 1 + d.regionDiv r)
    let d := { d with fab := { d.fab with
      hxBase := if d.flag HX_PERIODIC r t then Sparse.set (0, 0) d.fab.hxBase j (0, at_) else d.fab.hxBase,
      hxStop := Sparse.set false d.fab.hxStop j (!d.flag HX_PERIODIC r t) } }
    if d.regionBusy r then (if d.flag HX_MATCH_PEND r t then d.inc HX_MISSED 1 r t else d.setF HX_MATCH_PEND 1 r t)
    else if joins then d.inc HX_MISSED 1 r t
    else d.emit (.pulse "HX_MATCH" j)

/-- HX_CELL_READ (R222). -/
def Dev.hxRead (d : Dev) (r c : Nat) : Dev :=
  if !d.regionRuns r then d else
  let tm (i : Nat) : List Nat := let t := 4 * c + i
    [d.hxCount r t, d.fld HX_CMP r t, d.fld HX_MATCH_PEND r t, d.fld HX_MISSED r t]
  let ed (i : Nat) : List Nat := let e := 8 * c + i
    [d.fld HX_PEND r e, d.fld HX_EDGE_TS r e, d.fld HX_OVERRUN r e, d.fld HX_OVR_CNT r e]
  let d' := d.emit (.link "HX" (4 * r + c) ((upTo 4).flatMap tm ++ (upTo 8).flatMap ed) [])
  let d' := d'.setF HX_HO_PEND 0 r c
  let d' := (upTo 4).foldl (fun d i => d.setF HX_MISSED 0 r (4 * c + i)) d'
  (upTo 8).foldl (fun d i => (d.setF HX_OVERRUN 0 r (8 * c + i)).setF HX_OVR_CNT 0 r (8 * c + i)) d'

/-- HX_CELL_WRITE (R222): ignored with HX_ORDER while the cell has not been read. -/
def Dev.hxWrite (d : Dev) (r c : Nat) (x : HxSet) : Dev :=
  if !d.regionRuns r then d
  else if d.flag HX_HO_PEND r c then (d.setF HX_HO_ORDER 1 r c).logEv 0x9008 .D r [dU 1 r, dU 1 c]
  else match x with
    | .timer i cmp pre src per =>
      d.hxTimerSet r (4 * c + i.val) (cmp.toNat + pre.toNat * 2 ^ 48 + bitIf src 56 + bitIf per 57)
    | .edge i sense => d.setF HX_SENSE sense.toNat r (8 * c + i.val)

/-- The first FCLK after thaw (R220 to R222): pending pulses leave, every cell waits to be read. -/
def Dev.hxThaw (d : Dev) (r : Nat) : Dev :=
  let d := (upTo 16).foldl (fun d t =>
    let j := 16 * r + t
    let pend := d.flag HX_MATCH_PEND r t
    let d := { d with fab := { d.fab with hxFirst := Sparse.set 0 d.fab.hxFirst j (if pend then 1 + d.clk.root else 0) } }
    if pend then (d.setF HX_MATCH_PEND 0 r t).emit (.pulse "HX_MATCH" j) else d) d
  let d := (upTo 32).foldl (fun d e =>
    if d.flag HX_PEND r e then (d.setF HX_PEND 0 r e).emit (.pulse "HX_EDGE" (32 * r + e)) else d) d
  (upTo 4).foldl (fun d c => d.setF HX_HO_PEND 1 r c) d

/-! ## The sequence (R209 to R218, R223, R224) -/

/-- The running exchange's region. -/
def Dev.exchRegion (d : Dev) : Nat := d.fld EXCH_REGION
/-- The exchange acts: the core runs, the device is in RUN, power has not failed (R225). -/
def Dev.exchLive (d : Dev) (st : Nat) : Bool := d.released && !d.rst.pfail && d.fld EXCH_STATE == st

/-- The ring gate of region `r` holds OREQ ready low (R211, step 4). -/
def Dev.gateDrains (d : Dev) (r : Nat) : Bool := d.fld EXCH_STATE == 4 && d.exchRegion == r

/-- A failure before FROZEN (R223): the old logic keeps running. -/
def Dev.exchFailD (d : Dev) (code : Nat) : Dev :=
  let st := d.fld EXCH_STATE
  ((d.setF EXCH_STATE 0).setF EXCH_FAIL_CODE code).logEv 0x0107 .D d.exchRegion [dU 1 d.exchRegion, dC code, dC st]

/-- A failure in FROZEN or INIT (R224): the region stays frozen and blank. -/
def Dev.exchFailF (d : Dev) (code : Nat) : Dev :=
  let st := d.fld EXCH_STATE
  let r := d.exchRegion
  let d := ((d.hxRebase r).wipeRegion r).setBit EXCH_BLANK r true
  ((d.setF EXCH_STATE 0).setF EXCH_FAIL_CODE code).logF 0x0107 r [dU 1 r, dC code, dC st]

/-- GO (R218): accepted, or refused with its reason. `key` is the KEY written, `r` the REGION. -/
def Dev.exchGo (d : Dev) (key r : Nat) : Dev :=
  let reject (n : Nat) : Dev := d.logEv 0x0109 .D r [dU 1 r, dC n]
  if d.cfgState ≠ 5 then reject 1
  else if d.fld EXCH_STATE ≠ 0 then reject 2
  else if key ≠ 0x4E3C then reject 3
  else if d.running && d.fld EXCH_AT == 0 then reject 4
  else
    let d := { d with fab := { d.fab with exch := {} } }
    (d.setF EXCH_STATE 1).setF EXCH_REGION r

/-- WAIT_AT, or DRAIN at once (R211, R218). -/
def Dev.exchWait (d : Dev) : Dev :=
  if d.fld EXCH_AT = 0 ∨ d.fld EXCH_AT ≤ d.now then
    { d.setF EXCH_STATE 4 with fab := { d.fab with exch := { d.fab.exch with drainAt := d.clk.tick } } }
  else d.setF EXCH_STATE 3

/-- A section an exchange of region `r` may have (R209). -/
def exchSection (r : Nat) (x : Sect) : Bool :=
  x.stage == 1 && (((x.typ == 0x0010 || x.typ == 0x0011) && x.index == r) || (x.typ == 0x0040 && x.index == 0))

/-- A DATA section lies within the RAM blocks of region `r`. -/
def exchInside (r : Nat) (x : Sect) : Bool :=
  x.typ != 0x0040 || (decide (blockAddr (192 * r) ≤ x.target)
    && decide (x.target + x.length - (if x.enc then 16 else 0) ≤ blockAddr (192 * (r + 1))))

/-- What makes an exchange header acceptable as a form (R209): as a load's, but that any section not meant for the region is BAD_LAYOUT. -/
def exchForm (r : Nat) (b : List Byte) : Nat :=
  let h := hdrOf b
  let f := fixedForm b
  if f ≠ 0 then f
  else if h.stageA ≠ 0 ∨ h.sects.any (fun x => !exchSection r x) = true then 6
  else if h.sects.any (fun x => !sectOk x) = true then 2
  else if layoutOk h = false then 6 else 0

/-- Bytes of the image in device memory, and whether the read failed. The read allocates no Cellar line, so it evicts none (R215). -/
def Dev.exchRead (d : Dev) (off n : Nat) : List Byte × Bool × Dev :=
  let (st, bs, d) := d.accRead mgmtStop ((256 * d.fld EXCH_SRC + off) % 2 ^ 48) n true
  (bs, st != 0, d)

/-- EXCH_FETCH_DONE (R209, R211): the header is judged as a full load judges it. A header that cannot be read fails as one whose
signature does not verify (log entry 51). -/
def Dev.exchFetch (d : Dev) : Dev :=
  if !d.exchLive 1 then d else
  let (b, bad, d) := d.exchRead 0 16384
  let h := hdrOf b
  let form := exchForm d.exchRegion b
  let auth := d.headerAuth b
  let own := if h.sects.all (exchInside d.exchRegion) then 0 else 10
  if bad then d.exchFailD 3
  else if form ≠ 0 then d.exchFailD form
  else if auth ≠ 0 then d.exchFailD auth
  else if own ≠ 0 then d.exchFailD own
  else
    let d := { d with fab := { d.fab with exch := { sects := h.sects, content := d.contentKey h, keySlot := h.keySlot } } }
    if d.flag EXCH_PRECHECK then d.setF EXCH_STATE 2 else d.exchWait

/-- Sections read and checked in table order: the first failure's code, and what each plain section is. -/
def Dev.exchCheckAll (d : Dev) : List Sect → Nat × List (Sect × List Byte) × Dev
  | [] => (0, [], d)
  | x :: r =>
    let (b, bad, d) := d.exchRead x.offset x.length
    let (code, p) := if bad then (7, []) else d.sectPlain d.fab.exch.content x b
    if code ≠ 0 then (code, [], d)
    else
      let (c', ps, d) := Dev.exchCheckAll d r
      (c', (x, p) :: ps, d)

/-- EXCH_CHECK_DONE (R211). -/
def Dev.exchCheck (d : Dev) : Dev :=
  if !d.exchLive 2 then d else
  let (code, _, d) := d.exchCheckAll d.fab.exch.sects
  if code ≠ 0 then d.exchFailD code else d.exchWait

/-- EXCH_AT_REACHED (R211). -/
def Dev.exchAt (d : Dev) : Dev := if d.exchLive 3 then (d.passTo (d.fld EXCH_AT)).exchWait else d

/-- The region freezes (R211 to R214): its clock enables are held, what waits at its RAM blocks is answered REGION_BUSY, answers to its
requests will be discarded, its locks lose their owner. -/
def Dev.exchFreeze (d : Dev) : Dev :=
  let r := d.exchRegion
  let d := { d.setF EXCH_STATE 5 with fab := { d.fab with
    frozen := Sparse.set false d.fab.frozen r true, exch := { d.fab.exch with freezeAt := d.clk.tick, discarded := 0 } } }
  let g := d.gateOf r
  let d := d.setGate r { g with out := g.out.map fun x => { x with dead := true } }
  let d := (blocksOf r).foldl Dev.qcBusy d
  d.lossNotice (.region ⟨r % 32, Nat.mod_lt _ (by decide)⟩)

/-- ORD, OWR and IQ of a gate read 0 (R211). -/
def Gate.drained (g : Gate) : Bool := g.out.all (·.dead) && g.inq.isEmpty

/-- EXCH_DRAIN_DONE (R211): the gate's ORD, OWR and IQ read 0. -/
def Dev.exchDrained (d : Dev) : Dev :=
  let g := d.gateOf d.exchRegion
  if d.exchLive 4 && g.drained then d.exchFreeze else d

/-- DRAIN_US in ticks (R227). -/
def Dev.drainTicks (d : Dev) : Nat :=
  let u := d.fld EXCH_DRAIN_US
  800 * (if u = 0 ∨ 1000 < u then 1000 else u)

/-- EXCH_DRAIN (R212): DRAIN_US has expired first. -/
def Dev.exchDrainOut (d : Dev) : Dev :=
  let r := d.exchRegion
  let g := d.gateOf r
  if !d.exchLive 4 || g.drained then d
  else
    let d := d.tickTo (d.fab.exch.drainAt + d.drainTicks)
    let d := d.setGate r { g with inq := [] }
    let d := g.inq.foldl (fun d x => d.emit (.resp x.src x.tag 3 [])) d
    (d.logEv 0x0108 .D r [dU 1 r, dN (g.outCount true), dN (g.outCount false), dN g.inq.length]).exchFreeze

/-- A section takes effect in the frozen region (R211, R216). -/
def Dev.exchApply (d : Dev) (e : Sect × List Byte) : Dev :=
  match e.1.typ with
  | 0x0010 => (d.hxRebase e.1.index).putFrames e.1.index e.2
  | 0x0011 => d.putEbm e.1.index e.2
  | _ => d.rawWrite e.1.target (allOn e.2)

/-- EXCH_WRITE_DONE (R209 to R211, R224): frames, maps, then DATA; a failure leaves the region blank. -/
def Dev.exchWrite (d : Dev) : Dev :=
  if !d.exchLive 5 then d else
  let r := d.exchRegion
  let (code, ps, d) := d.exchCheckAll d.fab.exch.sects
  if code ≠ 0 then d.exchFailF code
  else
    let d := { d with load := { d.load with nonEss := dropRegion d.load.nonEss r } }
    let order := ps.filter (·.1.typ == 0x0010) ++ ps.filter (·.1.typ == 0x0011) ++ ps.filter (·.1.typ == 0x0040)
    (order.foldl Dev.exchApply d).setF EXCH_STATE 6

/-- EXCH_THAW (R211, R222): INIT's resets are done, the region runs its new logic. -/
def Dev.exchThaw (d : Dev) : Dev :=
  if !d.exchLive 6 then d else
  let r := d.exchRegion
  let x := d.fab.exch
  let d := d.configRegion r
  let sum := (upTo 16).foldl (fun a t => a + d.fld HX_MISSED r t) 0 + (upTo 32).foldl (fun a e => a + d.fld HX_OVR_CNT r e) 0
  let d := ({ d with fab := { d.fab with frozen := Sparse.set false d.fab.frozen r false, exch := {} },
                     load := { d.load with scrubPos := Sparse.set 0 d.load.scrubPos r 0 } }.setF EXCH_STATE 0).setBit EXCH_BLANK r false
  (d.hxThaw r).logEv 0x0106 .I r [dU 1 r, dN (d.clk.tick - x.freezeAt), dN x.discarded, dN sum]

end Sys2Proof.Machine
end

