-- ==== Sys2Proof/Machine/LoadBase.lean ====
section
/-! DEFINITION. The course of a configuration load: where it reads, how it fails, what a failure wipes, what a stage's completion releases
(chapter 03). -/

namespace Sys2Proof.Machine
open Sys2Proof.Machine.Reg

/-! ## Register groups that a reset or a wipe returns to their reset values -/

/-- A register-file key belongs to a field. -/
def Fld.holds (f : Fld) (k : Nat) : Bool := f.lo == k % 64 && (f.inst? (k / 64)).isSome

/-- A persistent field. -/
def keyPersists (k : Nat) : Bool := allFields.any fun f => f.persist && f.holds k
/-- An LK field. -/
def keyLk (k : Nat) : Bool := allFields.any fun f => f.acc == .lk && f.holds k

/-- Register-file entries that satisfy `p` return to their reset values, but for the persistent ones. -/
def Dev.csrDrop (d : Dev) (p : Nat → Bool) : Dev := { d with csr := d.csr.filter fun e => keyPersists e.1 || !p e.1 }

/-- A register's offset. -/
def keyOff (k : Nat) : Nat := k / 64

/-- An offset lies in the QC, RG or HX registers of region `r`. -/
def offOfRegion (o r : Nat) : Bool :=
  let in_ (base n : Nat) : Bool := decide (base ≤ o) && decide (o < base + n)
  in_ (0x9000000 + 192 * r * 0x800) (192 * 0x800) || in_ (0x9E00000 + r * 0x1000) 0x1000 || in_ (0x9C00000 + r * 0x10000) 0x10000

/-- Counters that clear at POR, SYS and thaw alone (R186, R190). -/
def thawCounters : List Fld := [QC_CE, QC_UE, RG_LATE_DROP]

/-- Region `r` is blank: frames, map, queue controllers, gate, slices and cells as a reset leaves them. -/
def Dev.blankRegion (d : Dev) (r : Nat) : Dev :=
  let d := (d.wipeRegion r).csrDrop fun k => offOfRegion (keyOff k) r && !thawCounters.any (·.holds k)
  { d with fab := { d.fab with
      qc := d.fab.qc.filter fun e => e.1 / 192 != r, gate := d.fab.gate.filter fun e => e.1 != r,
      slice := d.fab.slice.filter fun e => e.1 / 128 != r, hxStop := d.fab.hxStop.filter fun e => e.1 / 16 != r,
      hxBase := d.fab.hxBase.filter fun e => e.1 / 16 != r, hxFirst := d.fab.hxFirst.filter fun e => e.1 / 16 != r,
      hxWatch := d.fab.hxWatch.filter fun e => e.1 / 32 != r, le := dropLogic d.fab.le r,
      crossOut := d.fab.crossOut.filter fun e => e.1 / 4096 != r, crossIn := d.fab.crossIn.filter fun e => e.1 / 4096 != r } }

/-- Bytes of a range of device addresses, and their error marks, are zeroed with valid ECC (R59). -/
def Dev.zeroCells (d : Dev) (lo n : Nat) : Dev :=
  let in_ (k : Nat) : Bool := decide (lo ≤ k) && decide (k < lo + n)
  { d with mem := d.mem.filter fun e => !in_ e.1, poison := d.poison.filter fun e => !in_ (8 * e.1),
           soft := d.soft.filter fun e => !in_ (8 * e.1), quiet := d.quiet.filter fun e => !in_ (8 * e.1) }

/-- Zeros are written over a range of device addresses (R104). -/
def Dev.zeroRange (d : Dev) (a n : Nat) : Dev := d.rawWrite a (allOn (List.replicate n 0))

/-! ## Where a load reads (R86, R94, R107, R108, R113) -/

/-- Flash offset of a slot's header (R86). -/
def slotBase (slot : Nat) : Nat := if slot = 0 then 0x0000_0000 else 0x0000_8000

/-- A flash read in the interface the load uses. -/
def Dev.flashRead (d : Dev) (addr len : Nat) : Dev := d.emit (.flash d.load.flash d.load.flash.opcode (some addr) len [])

/-- The SETUP commands, sent as the first read is, and the switch to the header's FLASH_MODE (R94). -/
def Dev.flashSwitch (d : Dev) (m : FlashMode) : Dev :=
  let d := m.setup.foldl (fun d s => d.emit (.flash {} s.1 none 0 s.2)) d
  { d with load := { d.load with flash := m } }

/-- How CFG_MODE uses the configuration pins (R114). Modes 5 to 7 are taken as the modes without flash and followers (log entry 153). -/
def cfgPinsOf (mode : Nat) : CfgPins :=
  match mode with
  | 0 => { clk := .flash, csN := .flash, dLow := .flash, dHigh := .flash, dout := .forward }
  | 1 => { clk := .input, csN := .high, dLow := .input, dHigh := .highZ, dout := .forward }
  | 2 => { clk := .input, csN := .high, dLow := .input, dHigh := .highZ, dout := .low }
  | _ => {}

/-- The device drives CFG_DONE low (R114). -/
def Dev.doneHold (d : Dev) : Dev :=
  { d with load := { d.load with doneOwn := false } }.setF CFG_DONE_PIN 0

/-- The device releases CFG_DONE, a wired-AND: its level is then what the other members of the chain leave, which is free (R114, R124, log
entry 154). A pin already released keeps its level. -/
def Dev.doneRelease (d : Dev) : Dev :=
  if d.load.doneOwn then d
  else
    let (v, d) := d.draw
    ({ d with load := { d.load with doneOwn := true } }.setF CFG_DONE_PIN (v % 2)).emit (.pulse "CFG_DONE" 1)

/-- A load starts over, awaiting its header. `b` = stage B only. -/
def Dev.loadAwait (d : Dev) (b stream pkts : Bool) (slot : Nat) : Dev :=
  { d with load := { d.load with hdr := none, next := 0, stream := stream, pkts := pkts, slot := slot, buf := [], used := 0, bOnly := b,
                                 flash := {}, lastAt := d.clk.ts, hbmWait := none, wroteData := [], wroteReg := [], wroteTile := [],
                                 wroteCsr := [] } }.setF CFG_STATE 1

/-- LOAD_FAIL of a load that ends or falls back (R105): class S where it leaves no stage B running, else class F. -/
def Dev.loadFailed (d : Dev) (code st : Nat) (s : Bool) : Dev :=
  let det := [dC code, dC d.load.slot, dO d.load.next, dC st]
  let d := (d.setF CFG_FAIL_CODE code).uart (0xE0 + code)
  if s then d.logEv 0x0102 .S 0 det d.openPart else (d.logEv 0x0102 .F 0 det d.openPart).msix (d.fld MGT_F_VEC)

/-- What the failed stage wrote is wiped (R104). -/
def Dev.loadWipe (d : Dev) : Dev :=
  let l := d.load
  let d := l.wroteReg.foldl Dev.blankRegion d
  let d := l.wroteTile.foldl (fun d t => d.zeroCells (tileAddr t 0) (2 ^ 21)) d
  let d := l.wroteData.foldl (fun d e => d.zeroRange e.1 e.2) d
  let d := d.csrDrop fun k => l.wroteCsr.contains (keyOff k)
  { d with load := { d.load with wroteReg := [], wroteTile := [], wroteData := [], wroteCsr := [], hbmWait := none,
                                 portFw := if l.bOnly || d.cfgState == 3 then d.load.portFw else [],
                                 entryList := if l.bOnly || d.cfgState == 3 then [] else d.load.entryList } }

/-- A load fails with a FAIL_CODE, and an address-decode status (R104, R105). -/
def Dev.loadFail (d : Dev) (code st : Nat) : Dev :=
  let stageB := d.load.bOnly || d.cfgState == 3
  let d := (d.loadFailed code st stageB).loadWipe
  let d := { d with load := { d.load with hdr := none, buf := [], content := none } }
  if stageB then d.setF CFG_STATE 8
  else if !d.load.stream && d.load.slot == 0 then d.loadAwait false false false 1
  else { d with load := { d.load with stream := false, pkts := false } }.setF CFG_STATE 7

/-- From ROOT lock the boot ROM starts the load that CFG_MODE names (R101, R105, R113). -/
def Dev.bootStart (d : Dev) : Dev :=
  match d.fld CFG_MODE with
  | 0 => d.loadAwait false false false 0
  | 1 => d.loadAwait false true true 0
  | 2 => d.loadAwait false true true 0
  | 3 => d.setF CFG_STATE 6
  | 4 => d.setF CFG_STATE 6
  | _ => (d.loadFailed 2 0 false).setF CFG_STATE 7

/-- CFG_CTL.LOAD (R107, R125): a load from CFG_LOAD_DATA, of stage B alone from FAILED_B. -/
def Dev.loadStart (d : Dev) : Dev :=
  match d.cfgState with
  | 6 => d.loadAwait false true false 0
  | 7 => d.loadAwait false true false 0
  | 8 => (d.loadAwait true true false (d.fld CFG_SLOT))
  | _ => d

/-- The load of a RELOAD, once its reset phase has ended (R107, R108). -/
def Dev.reloadLoad (d : Dev) : Dev :=
  let mode := d.fld CFG_MODE
  let s := d.fld CFG_SLOT
  if d.flag CFG_RELOAD_SRC then d.loadAwait true true false s
  else if mode = 0 then d.loadAwait true false false s
  else d.loadAwait true true (mode == 1 || mode == 2) s

/-- The next section a load looks at: a load of stage B alone passes over stage A but for what it forwards (R107, R108). A reloading
follower judges stage A by the digests of its header's table, and its bytes are passed over (log entry 150). -/
def Dev.loadSkip (d : Dev) : Dev :=
  match d.load.hdr with
  | none => d
  | some h =>
    if !d.load.bOnly then d
    else
      let rest := (h.sects.drop d.load.next).takeWhile fun x => x.stage == 0 && !x.follower
      { d with load := { d.load with next := d.load.next + rest.length } }

/-- The bytes of an item at `off` of the load's stream: those before it are passed over (R116); `none` until they have come. -/
def Dev.streamTake (d : Dev) (off n : Nat) : Option (List Byte × Dev) :=
  let l := d.load
  if off < l.used ∨ l.used + l.buf.length < off + n then none
  else
    let b := l.buf.drop (off - l.used)
    some (b.take n, { d with load := { l with buf := b.drop n, used := off + n } })

/-- Bytes of a stream load arrive. -/
def Dev.streamAdd (d : Dev) (bs : List Byte) : Dev :=
  { d with load := { d.load with buf := d.load.buf ++ bs, lastAt := d.clk.ts } }

/-- A load is reading: HEADER to STAGE_B, not in a RELOAD's reset phase, and no accepted PFAIL_N has stopped it (R110). -/
def Dev.loading (d : Dev) : Bool :=
  d.live && !d.rst.pfail && d.rst.reload.isNone && decide (1 ≤ d.cfgState) && decide (d.cfgState ≤ 3)

end Sys2Proof.Machine
end

