-- ==== Sys2Proof/Machine/RstOps.lean ====
section
/-! DEFINITION. Resets and power: what each scope does to each block, power failure, rails and VAUX (chapters 02, 22 and 23). -/

namespace Sys2Proof.Machine
open Sys2Proof.Machine.Reg

/-- GLB_RST_CAUSE as a number (R83). -/
def Dev.rstCause (d : Dev) : Nat :=
  [CAUSE_POR, CAUSE_SYS_PIN, CAUSE_SYS_SW, CAUSE_RELOAD, CAUSE_PFAIL, CAUSE_THERM_TRIP, CAUSE_RAIL_ORDER, CAUSE_ROOT_LOSS, CAUSE_ENG,
    CAUSE_TILE, CAUSE_PORT].foldl (fun a f => a + d.fld f * 2 ^ f.lo) 0

/-- The RESET entry of a RELOAD, ENG, TILE or PORT reset: its TS is the tick at which the reset began to act (R60). -/
def Dev.resetLog (d : Dev) (scope unit at_ : Nat) : Dev := d.post { resetEntry at_ scope d.rstCause unit false with replay := d.running }

/-! ## POR and SYS (R58 to R60, R67, R83) -/

/-- Everything volatile at its reset value. What stays: persistent registers and what `keepCsr` names, the Keep bank with the write in
progress completed, the Ember record and its commit queue (R152), fuses and the key store, pin levels. -/
def Dev.fresh (d : Dev) (keepCsr : Nat → Bool) : Dev :=
  let d := d.keepFlush
  let pins (e : Nat × Prt) : Option (Nat × Prt) := if e.2.perstLow then some (e.1, { perstLow := true }) else none
  { csr := d.csr.filter (fun e => keyPersists e.1 || keepCsr e.1),
    out := d.out, freeCtr := d.freeCtr,
    keep := { words := d.keep.words, wear := d.keep.wear, ecc := d.keep.ecc },
    ember := d.ember,
    load := { keyStore := d.load.keyStore, kek0 := d.load.kek0, pkHash := d.load.pkHash, pins := d.load.pins },
    rst := { smbAddr := d.rst.smbAddr, jtagHold := d.rst.jtagHold, porDue := d.rst.porDue, vauxHold := d.rst.vauxHold },
    mgt := { smbAddr := 0, jtagIr := d.mgt.jtagIr },
    prt := d.prt.filterMap pins, svc := { rst := d.svc.rst } }

/-- SAFE_N falls with the reset if it was high; EMB_CHAL is fresh; a pinned-area clear goes on (R64, R150, R151). -/
def Dev.afterFresh (d : Dev) (wasLow : Bool) : Dev :=
  let d := if d.ember.clearing.isSome && d.ember.ready then d.setF EMB_CLEARING 1 else d
  (if wasLow then d else d.emit (.pulse "SAFE_N" 0)).freshChal

/-- The RESET entry of a POR or SYS is queued once the Ember record is ready (R60, R147). -/
def Dev.bigReset (d : Dev) (scope : Nat) : Dev :=
  let cause := d.rstCause
  if d.ember.ready then d.post (resetEntry d.ember.lastTs scope cause 0 true)
  else { d with ember := { d.ember with resetDue := d.ember.resetDue ++ [(scope, cause)] } }

/-- VAUX_GOOD: VAUX becomes good; rails already up are out of order (R67). -/
def Dev.vauxGood (d : Dev) (rails : Nat) : Dev :=
  { d with rst := { d.rst with vauxHold := false, porDue := true, railOrder := rails - rails % 2 }, ember := { d.ember with ready := false } }

/-- The Ember record is checked anew unless the check of this power-up is still to come (R147). -/
def Dev.emberAgain (d : Dev) : Dev := if d.rst.porDue then d else { d with ember := { d.ember with ready := false } }

/-- What a POR clears. -/
def Dev.porWipe (d : Dev) : Dev :=
  let e := d.fresh fun _ => false
  { e with rst := { e.rst with porDue := false, vauxHold := false }, mgt := {} }

/-- Rails found early (R67). -/
def Dev.railReport (d : Dev) (rails : Nat) : Dev := if rails = 0 then d else (d.raise CAUSE_RAIL_ORDER).logEv 0x0002 .D 0 [dM 2 rails]

/-- POR: every rail has become good (R59). -/
def Dev.porReset (d : Dev) : Dev :=
  (((d.emberAgain.porWipe.afterFresh d.safe.low).railReport d.rst.railOrder).keepCount 0).bigReset 0

/-- Fields that a SYS leaves: GLB_RST_CAUSE (R83) and the bytes of EMB_USER (log entry 110). -/
def keySys (k : Nat) : Bool :=
  [CAUSE_POR, CAUSE_SYS_PIN, CAUSE_SYS_SW, CAUSE_RELOAD, CAUSE_PFAIL, CAUSE_THERM_TRIP, CAUSE_RAIL_ORDER, CAUSE_ROOT_LOSS, CAUSE_ENG,
    CAUSE_TILE, CAUSE_PORT, EMB_USER].any (·.holds k)

/-- SYS, with the bit of its source (R59, R83). CPL_COLONY.ID starts at CFG_ID (R521). -/
def Dev.sysReset (d : Dev) (bit : Fld) : Dev :=
  let low := d.safe.low
  let d := ((d.fresh keySys).raise bit).afterFresh low
  ((d.setF COL_ID (d.fld CFG_CHAIN_ID)).keepCount 0).bigReset 1

/-- Power is gone without hold-up: everything volatile, and the commit queue with it (R152). -/
def Dev.vauxWipe (d : Dev) : Dev :=
  let e := d.fresh fun _ => false
  let m := d.ember
  { e with ember := { area := m.area, head := m.head, pinCount := m.pinCount, wraps := m.wraps, seqNext := m.seqNext,
                      reserved := m.reserved, lastTs := m.lastTs, clearing := m.clearing, ready := false },
           rst := { e.rst with vauxHold := true, porDue := false }, mgt := {} }

/-- The Keep write in progress is lost; a word it hit reads KEEP_UE (R152). -/
def Dev.keepHurt (d : Dev) (hit : Bool) : Dev :=
  let ecc := match d.keep.running with
    | some (w, _) => if hit then Sparse.set 0 d.keep.ecc w.word 2 else d.keep.ecc
    | none => d.keep.ecc
  { d with keep := { d.keep with running := none, queue := [], ecc := ecc } }

/-- SYS from SYS_RST_N: its release samples the straps; PFAIL_N low holds the device (R113, R612). -/
def Dev.sysPin (d : Dev) (mode cfgId smb : Nat) (pfailHigh : Bool) : Dev :=
  let d := (d.setF CFG_MODE mode).setF CFG_CHAIN_ID cfgId
  let d := d.sysReset CAUSE_SYS_PIN
  { d with rst := { d.rst with smbAddr := smb, pfailHold := !pfailHigh },
           load := { d.load with pins := cfgPinsOf mode } }.emit (.cfgPins (cfgPinsOf mode))

/-- SYS_RST_N: the filter on OSC_SAF; one that falls during a power-fail commit waits for its end (R58, R70). -/
def Dev.sysRstN (d : Dev) (lowNs : Nat) (taken : Bool) (mode cfgId smb : Nat) (pfailHigh : Bool) : Dev :=
  if !d.safLive || !(decide (1000 ≤ lowNs) || (decide (800 ≤ lowNs) && taken)) then d
  else if d.rst.pfail && !d.rst.pfailDone then { d with rst := { d.rst with sysWait := some (mode, cfgId, smb, pfailHigh) } }
  else d.sysPin mode cfgId smb pfailHigh

/-- LEAVE leaves on every UP link at once, before a SYS by software (R516). -/
def Dev.leaveNow (d : Dev) : Dev :=
  let n := d.cpl.msgs.length
  let d := d.leaveColony
  (d.cpl.msgs.drop n).foldl (fun d e => d.emit (.link "CPL.packet" e.2 [] e.1.header)) d

/-- SYS by GLB_RST_CTL. -/
def Dev.sysSw (d : Dev) : Dev := d.leaveNow.sysReset CAUSE_SYS_SW

/-- ROOT_LOCK: the clocks count from 0, the timestamp with them, and the boot ROM starts (R49, R54, R101). -/
def Dev.rootLocked (d : Dev) : Dev :=
  if d.flag CLK_ROOT_LOCK || d.rst.vauxHold || d.rst.pfailHold || d.rst.jtagHold || d.rst.rootLost || d.rst.tripped || d.rst.pfailDone
    || d.rst.pfail then d
  else
    let d := { d with clk := {} }.setF CLK_ROOT_LOCK 1
    let d := ((d.uart 0x01).uart 0x02).bootStart
    if d.cfgState = 6 then d.uart 0x09 else d

/-! ## ENG resets (R59, R409, R422, R440, R552) -/

/-- Commands of engine `e` that run on in a tile belong to no list any more: their numbers leave the range of CMD_SEQ (R422). -/
def Tile.orphan (x : Tile) (e : Nat) : Tile :=
  let up (p : Nat × Nat) : Nat × Nat := if p.1 = e then (e, p.2 + 2 ^ 24) else p
  let job (j : CopyJob) : CopyJob := { j with cmd := j.cmd.map up }
  { x with
    layer := x.layer.map fun l => { l with seq := (up (l.engine, l.seq)).2 },
    ev := x.ev.map fun r => { r with seq := (up (r.engine, r.seq)).2 },
    groups := x.groups.map fun g => (g.1, { g.2 with run := g.2.run.map up }),
    copyQ := x.copyQ.map job, copyOn := x.copyOn.map job,
    ll := x.ll.map fun y => if y.engine = e then { y with issued := y.issued.map (· + 2 ^ 24) } else y }

/-- An engine's run state is cleared; its configuration stays. `tiles`: commands with parts on tiles run on there (R422). -/
def Dev.engClear (d : Dev) (e : Nat) (tiles : Bool) : Dev :=
  let x := d.engOf e
  let d := d.llDiscard e
  let stay := if tiles then (x.flight.filter fun c => !(c.todo.isEmpty && c.on.isEmpty)).map fun c => { c with seq := c.seq + 2 ^ 24 } else []
  let d := if tiles then { d with tile := d.tile.map fun t => (t.1, t.2.orphan e) } else d
  let d := d.setEng e { flight := stay, nextId := x.nextId }
  let d := [CE_STATE, CE_SUSPENDED, CE_QUEUE, CE_NEXT_SEQ, CE_SWAP_PENDING, CE_ERR_SEQ, CE_ERR_CODE, CE_ERR_USER].foldl (fun d f => d.setF f 0 e) d
  (upTo 4).foldl (fun d q => (d.setF CE_QTAIL 0 e q).setF CE_QHEAD 0 e q) d

/-- Wicks bound to an engine are disarmed. -/
def Dev.engWicks (d : Dev) (e : Nat) : Dev := (d.wicksOf e none).foldl Dev.wickOff d

/-- An ENG reset; one already running absorbs it (R61). Its GLB_RST_CAUSE bit comes as it ends: one that is superseded sets none (R61,
log entry 146). Waiting members of its barriers complete with BARRIER_LOST (R409). -/
def Dev.engReset (d : Dev) (e : Nat) : Dev :=
  if (Sparse.get none d.rst.eng e).isSome then d
  else
    let d := { d with rst := { d.rst with eng := Sparse.set none d.rst.eng e (some d.clk.ts) } }.freshChal
    let d := (d.engWicks e).engClear e true
    let d := [CE_CNT_DONE, CE_CNT_ORPHAN, CE_CNT_SWAPS].foldl (fun d f => d.setF f 0 e) d
    d.barEnd 12 fun b => bitAt b.2.1 e

/-- ENG_RESET_DONE: the RESET entry, and the notice of the engine's loss to stop 59 (R60, R254). -/
def Dev.engDone (d : Dev) (e : Fin 16) : Dev :=
  match Sparse.get none d.rst.eng e.val with
  | none => d
  | some t => ({ d.raise CAUSE_ENG with rst := { d.rst with eng := Sparse.set none d.rst.eng e.val none } }.resetLog 3 e.val t).lossNotice (.engine e)

/-! ## TILE resets (R62, R386, R421, R590 to R593) -/

/-- An active copy of tile `t` as its reset begins (R592): it completes to nobody, the writes of what it can read still happen, and its arrival
still counts at another tile. One that waits for an answer, which is dropped at the stop, writes no more (log entry 188). -/
def Dev.copyOrphan (d : Dev) (t : Nat) (j : CopyJob) : Dev :=
  if j.dead then d
  else
    let j := { j with cmd := none }
    let (st, d) := if j.need ≠ 0 || remotePlace j.src || remotePlace j.dst then (0, d) else match d.copyGo t j.moves j with
      | (.ended _ st, d) => (st, d)
      | (_, d) => (0, d)
    match d.countTile t j with
    | some u =>
      if u = t then d
      else
        let d := if st = 0 then d else d.raise AC_FAULT j.ctr u
        if j.count then d.arriveAt u j.ctr else d
    | none => d

/-- What a tile does ends: rows in flight, groups, its own copies; parts of commands fail with TILE_RESET; copies into it are cancelled. -/
def Dev.tileHalt (d : Dev) (t : Nat) : Dev :=
  let hit (c : Cmd) : Bool := c.todo.contains t || c.on.contains t
  let d := (upTo 16).foldl (fun d e => ((d.engOf e).flight.filter hit).foldl (fun d c => d.partFail e c.seq t 9 false) d) d
  let d := (d.tileOf t).copyOn.foldl (fun d j => d.copyOrphan t j) d
  let d := d.setTile t { d.tileOf t with groups := [], layer := none, ev := none, copyQ := [], copyOn := [] }
  let into (j : CopyJob) : Bool := match placeOf (d.localAddr j.dst) with
    | .tile u _ => u == t
    | _ => false
  let mark (j : CopyJob) : CopyJob := if into j then { j with dead := true } else j
  let stop := tileStop (d.ptile t)
  let cancel (f : Flit) : Flit := if f.copy && f.dst == stop then { f with dead := true } else f
  { d with
    tile := d.tile.map fun e => (e.1, { e.2 with copyQ := e.2.copyQ.map mark, copyOn := e.2.copyOn.map mark })
    ann := { d.ann with flits := d.ann.flits.map cancel, injq := d.ann.injq.map fun e => (e.1, e.2.map cancel) } }

/-- TILE resets that waited for a handover now over begin to act (R62, R593). -/
def Dev.tileDue (d : Dev) : Dev :=
  let due := d.rst.tile.filterMap fun e => match e.2 with
    | some (1, _) => if d.safe.handover.any fun h => h.ltile == e.1 then none else some e.1
    | _ => none
  due.foldl (fun d t => { d with rst := { d.rst with tile := Sparse.set none d.rst.tile t (some (2, d.clk.ts)) } }.freshChal.tileHalt t) d

/-- A TILE reset; one already running or waiting absorbs it (R61). -/
def Dev.tileReset (d : Dev) (t : Nat) : Dev :=
  if (Sparse.get none d.rst.tile t).isSome then d
  else { d with rst := { d.rst with tile := Sparse.set none d.rst.tile t (some (1, d.clk.ts)) } }.tileDue

/-- Counters that a TILE reset clears, of the physical tile and of the logical one (R342, R362, R389, R451, R466). -/
def tileCounters : List Fld := [MX_IOVF, MX_RES_ERR, MX_ACC_CE, MX_ROWS, MX_STALL, CVT_SAT, CVT_NAN_IN]
/-- Those of the logical tile. -/
def logicalCounters : List Fld := [CPY_FAIL, CPY_CANCELLED, VX_REG_CE, LL_STALE, LL_FAULTS, LL_BYTES, LL_WAIT, EV_SPORES, EV_RECS, EV_OVF,
  EV_RANGE, EV_ROUTE, EV_ENTRY]

/-- A tile's arrays, groups, counters, queues and channels at zero (R59, R340, R357, R361, R386). -/
def Dev.tileZero (d : Dev) (t : Nat) : Dev :=
  let d := (d.setTile t {}).zeroCells (tileAddr t 0) (2 ^ 21)
  let d := [SCALE_CUR, SCALE_SUGGEST, SCALE_HEADROOM, SCALE_AUTO_EN, SCALE_PIN, SCALE_FLUSHWIDE, SCALE_RMAX].foldl
    (fun d f => (upTo 16).foldl (fun d n => d.setF f f.rst t n) d) d
  let d := [MX_GILL, MX_CLASS].foldl (fun d f => d.setF f 0 (d.ptile t)) d
  (d.setF AC_FAULT 0 t).nanCapClear t

/-- TILE_WRITEBACK_DONE: dirty lines are home; the clear phase begins with the owner-loss notice (R590, R591). Lamplighter reads in flight
will find nobody (R441). -/
def Dev.tileClear (d : Dev) (t : Fin 64) : Dev :=
  match Sparse.get none d.rst.tile t.val with
  | some (2, at_) =>
    let d := (d.tcLines t.val).foldl (fun d k => d.tcDrop t.val k) d
    let p := d.ptile t.val
    let d := d.inc STOP_ORPHAN (d.tileOf t.val).llReads.length (tileStop p)
    let d := tileCounters.foldl (fun d f => d.setF f 0 p) (d.tileZero t.val)
    let d := logicalCounters.foldl (fun d f => d.setF f 0 t.val) d
    { d with rst := { d.rst with tile := Sparse.set none d.rst.tile t.val (some (3, at_)) } }.lossNotice (.tile t)
  | _ => d

/-- TILE_RESET_DONE. -/
def Dev.tileDone (d : Dev) (t : Nat) : Dev :=
  match Sparse.get none d.rst.tile t with
  | some (3, at_) => { d.raise CAUSE_TILE with rst := { d.rst with tile := Sparse.set none d.rst.tile t none } }.resetLog 4 t at_
  | _ => d

/-! ## PORT resets (R58, R60, R473) -/

/-- PERST_N of port die `n`, an input unless its controller is in ROOT mode. -/
def Dev.perst (d : Dev) (n : Nat) (high : Bool) : Dev :=
  if d.load.aDone && d.prtEff PC_MODE n == 1 then d
  else if d.ringFed n then d
  else
    let d := d.setPrt n { d.prtOf n with perstLow := !high }
    if !d.aReleased then d
    else if high then
      match Sparse.get none d.rst.port n with
      | none => d
      | some t =>
        let d := { d.raise CAUSE_PORT with rst := { d.rst with port := Sparse.set none d.rst.port n none } }.bindPort n
        (d.setPrt n { d.prtOf n with fwFault := false }).resetLog 5 n t
    else if (Sparse.get none d.rst.port n).isSome then d
    else d.portResetOn n

/-- PERST_RELEASE: in ROOT mode, PERST_HOLD µs after A_DONE. -/
def Dev.perstRelease (d : Dev) (n : Nat) : Dev :=
  match (d.prtOf n).perstAt with
  | some t =>
    if !d.aReleased || d.prtEff PC_MODE n != 1 || (d.prtOf n).perstOut then d
    else
      let d := d.tickTo (t + 800 * d.prtEff PC_PERST_HOLD n)
      (d.setPrt n { d.prtOf n with perstOut := true }).emit (.pulse "PERST_N" n)
  | none => d

/-- A_DONE takes the port dies' bindings: ROOT controllers start PERST_HOLD, a low PERST_N holds any other (R472, R473). -/
def Dev.portsStart (d : Dev) : Dev :=
  (upTo 4).foldl (fun d n =>
    let d := d.bindPort n
    if d.prtEff PC_MODE n = 1 then d.setPrt n { d.prtOf n with perstAt := some d.clk.tick }
    else if (d.prtOf n).perstLow then d.portResetOn n else d) d

/-! ## RELOAD (R49, R59, R107, R111, R255, R292, R526) -/

/-- Requests that wait at a region's gate or blocks when a RELOAD clears the fabric are answered REGION_BUSY (log entry 111). -/
def Dev.fabricAnswer (d : Dev) : Dev :=
  let d := d.fab.qc.foldl (fun d e => e.2.waiting.foldl (fun d q => d.emit (.resp q.rid q.tag 3 [])) d) d
  d.fab.gate.foldl (fun d e => (e.2.inq ++ e.2.reads).foldl (fun d q => d.emit (.resp q.src q.tag 3 [])) d) d

/-- Open transactions of the slices end before everything is written back (R59, R292). -/
def Dev.celDrain (d : Dev) : Dev :=
  let d := d.cel.trans.foldl (fun d e => match e.2 with
    | some t => d.finishTrans e.1 t
    | none => d) d
  let q := d.cel.queue ++ d.cel.intake.map (·.2)
  (q.foldl (fun (d : Dev) (e : Nat × SliceReq) => if e.2.op == .fence then d.emit (.resp e.2.rid e.2.tag 0 []) else d.finishReq e.1 e.2 0)
    { d with cel := { d.cel with queue := [], intake := [] } }).fenceCheck

/-- What a RELOAD does as its reset phase starts. -/
def Dev.reloadClear (d : Dev) : Dev :=
  let d := d.celDrain.flushEverything
  let scratch := (upTo 16).filter d.sliceScratch
  let d := { d with cel := { lost := d.cel.lost, kept := scratch.foldl (fun m s => Sparse.set false m s true) [] } }
  let d := d.fabricAnswer
  let d := (upTo 64).foldl Dev.tileZero d
  let d := (upTo 16).foldl (fun d e => d.engClear e false) d
  let d := (upTo 32).foldl Dev.blankRegion d
  let d := ({ d with fab := {} }.zeroCells 0x0300_0000_0000 (6144 * 2 ^ 14)).csrDrop keyLk
  let d := (d.setF EXCH_STATE 0).setF EXCH_BLANK 0
  let d := { d with clk := { d.clk with fclk := [24, 24, 24, 24], fclkAt := List.replicate 4 d.clk.root,
                                        withheld := (d.clk.withheld + 47) / 48 * 48 } }
  let d := { d with rep := { d.rep with held0 := d.clk.withheld }, cpl := { d.cpl with pend := [], locks := [] } }
  let d := (upTo 96).foldl Dev.wickOff d.lockReload
  let d := if d.flag SAF_ROT_HALT || !d.flag SAF_SELFTEST_OK then d.handoverOff else d.rotStart
  { d with
    safe := { d.safe with reload := true }
    load := { d.load with bDone := false, bOnly := true, hdr := none, content := none, entryList := [], scrubPos := [] } }.driveSafeN

/-- RELOAD: ignored unless a stage A runs (R107, answered `none`); absorbed by one in its reset phase; supersedes ENG and TILE resets
(R61). A run ends; an armed one waits held for its start (R526, R534). -/
def Dev.reloadOn (d : Dev) : Option Dev :=
  if d.rst.reload.isSome then some d
  else if !([3, 4, 5, 8].contains d.cfgState) then none
  else
    let d := d.leaveColony
    let d := match d.fld REP_STATE with
      | 1 => { d with rep := { d.rep with hold := true } }
      | 2 => { d.setF REP_STATE 1 with rep := { d.rep with hold := true } }
      | 3 => d.setF REP_STATE 4
      | _ => d
    let d := { d with rst := { d.rst with reload := some d.clk.ts, eng := [], tile := [] } }.reloadClear
    some ((d.freshChal.doneHold.emit (.pulse "CFG_DONE" 0)).setF CFG_STATE 1)

/-- RELOAD_RESET_DONE: stage B loading starts. -/
def Dev.reloadDone (d : Dev) : Dev :=
  match d.rst.reload with
  | none => d
  | some t => { ((d.raise CAUSE_RELOAD).resetLog 2 0 t) with rst := { d.rst with reload := none } }.reloadLoad

/-- A write of GLB_RST_CTL (R61, R82, R107). After a thermal trip and after an accepted PFAIL_N only SYS_RST_N or POR resumes the device, so
no scope acts (R68, R74, R83). ENG and TILE during the reset phase of a RELOAD are taken as absorbed by it, which clears their blocks (log
entry 147). -/
def Dev.rstCtl (d : Dev) (off bytes path v : Nat) : Dev :=
  if bits v 48 16 ≠ 0xC1A5 then d.csrAccess off bytes path 2
  else if d.rst.tripped || d.rst.pfail then d
  else if bitAt v 0 then d.sysSw
  else
    let next (d : Dev) : Dev :=
      if bitAt v 3 then (if d.rst.reload.isSome then d else d.engReset (bits v 24 4))
      else if bitAt v 2 then (if d.rst.reload.isSome then d else d.tileReset (bits v 16 6)) else d
    if bitAt v 1 then
      match d.reloadOn with
      | some d => d
      | none => next (d.csrAccess off bytes path 3)
    else next d

/-! ## Power (R68 to R70, R594 to R596, R608) -/

/-- PFAIL_ACCEPT: 200 ns low, accepted once (R68, R69, R594, R595, R612). -/
def Dev.pfailAccept (d : Dev) (lowNs : Nat) : Dev :=
  if lowNs < 200 ∨ !d.safLive || d.rst.pfail || d.rst.pfailHold then d
  else
    let n := d.ember.queue.length
    let d := { d.raise CAUSE_PFAIL with rst := { d.rst with pfail := true } }.driveSafeN
    let d := (d.uart 0xF1).repAbort 11 0x0005 0
    let d := if d.safe.handover.isSome then d.handoverOff else d
    let d := d.leaveColony
    let d := match d.keep.running with
      | some (w, _) => d.keepAnswer w true
      | none => d
    let d := d.keepFlush
    let d := d.keep.queue.foldl (fun d w => d.keepAnswer w false) d
    let d := { d with keep := { d.keep with queue := [], refused := d.keep.refused + d.keep.queue.length } }.keepCount 1
    d.logF 0x0005 0 [dN n, dN d.keep.refused]

/-- POWER_FAIL_COMMIT_DONE: the record is complete; the device holds itself in reset, or takes the SYS_RST_N that fell meanwhile. -/
def Dev.pfailEnd (d : Dev) : Dev :=
  if !d.rst.pfail || d.rst.pfailDone then d
  else
    let d := d.embCommitAll 128
    let d := { d with rst := { d.rst with pfailDone := true }, svc := { d.svc with up := false } }
    match d.rst.sysWait with
    | some (m, c, a, h) => d.sysPin m c a h
    | none => d

/-- VAUX_LOSS: power is lost without hold-up; every block resets as at POR and stays held until VAUX is good (R152, R608). -/
def Dev.vauxLoss (d : Dev) (torn : Nat) (keepHit : Bool) : Dev :=
  if !d.safLive then d else ((d.embTear torn).keepHurt keepHit).vauxWipe.afterFresh d.safe.low

/-- RAIL_MONITOR_SAMPLE (R608, R622, R623): a rail outside its window for 10 consecutive µs. -/
def Dev.railSample (d : Dev) (inside : Nat) (mv : Int) (moving : Bool) : Dev :=
  if !d.mlive then d
  else
    let d := d.setF RAIL_GOOD inside
    if d.rst.pfail || moving then d
    else
      let was := d.clk.railOut
      let cnt (i : Nat) : Nat := if bitAt inside i then 0 else min 10 (was.getD i 0 + 1)
      let d := { d with clk := { d.clk with railOut := (upTo 9).map cnt } }
      (upTo 9).foldl (fun d i => if cnt i = 10 ∧ was.getD i 0 = 9 then
        (d.raise RAIL_OUT i).logEv 0x0011 .S 0 [dM 2 (2 ^ i), dI mv, dN (d.fld MGT_VCORE)] else d) d

/-- PFAIL_N_RISE: PFAIL_N found low at the release of SYS_RST_N rises (R612). -/
def Dev.pfailRise (d : Dev) : Dev := { d with rst := { d.rst with pfailHold := false } }

end Sys2Proof.Machine
end

