-- ==== Sys2Proof/Machine/RepOps.lean ====
section
/-! DEFINITION. Exact replay: arming, start, end, the feed of captured records (chapter 19). -/

namespace Sys2Proof.Machine
open Sys2Proof.Machine.Reg

/-- REP_ARM (R526, R527): the state a run can be armed in. -/
def Dev.repArm (d : Dev) (off bytes path : Nat) : Dev :=
  let st := d.fld REP_STATE
  if (1 ≤ st ∧ st ≤ 3) ∨ (d.cfgState ≠ 5 ∧ d.cfgState ≠ 8) then d.csrAccess off bytes path 3 else d.setF REP_STATE 1

/-- A run ends: every rule reverts (R526). -/
def Dev.repEndNow (d : Dev) : Dev :=
  let rt := d.fld REP_RT
  let role := d.fld REP_ROLE
  let d := d.logEv 0x000D .I 0 [dC role, dT rt, dC (d.fld REP_DIVERGED), dC (d.fld REP_INCOMPLETE)]
  d.setF REP_STATE 4

/-- A write of GLB_REP_CTL (R538). STOP ends the run under the role it ran with. -/
def Dev.repCtl (d : Dev) (off bytes path v : Nat) : Dev :=
  if bits v 48 16 ≠ 0x9E35 then d.csrAccess off bytes path 2
  else
    let d := if bitAt v 1 && d.running then d.repEndNow else d
    let d := ((d.setF REP_ROLE (bits v 2 2)).setF REP_RING (bits v 4 4)).setF REP_COMPARE (bits v 8 1)
    if bitAt v 0 then d.repArm off bytes path else d

/-- REP_END: RT reaches GLB_REP_LEN. -/
def Dev.repEnd (d : Dev) : Dev :=
  let n := d.fld REP_LEN
  if !d.live || !d.running || n == 0 then d else (d.pass (n - d.fld REP_RT)).repEndNow

/-- A start that fails (R527): the device is released at once. -/
def Dev.repLate (d : Dev) : Dev :=
  let d := { d with rep := { d.rep with hold := false } }
  let e : EmbEnt := { ts := d.clk.ts, event := 0x000E, cls := .D, detail := [dC 12, dT 0, dC 0, dU 2 0] }
  (((d.setF REP_STATE 5).setF REP_REASON 12).setF REP_EVT 0).post e

/-- B_DONE of an armed device: it waits for the start, unless GLB_REP_AT has passed or lies more than 2 ms ahead (R526, R527). -/
def Dev.repBDone (d : Dev) : Dev :=
  if !d.rep.hold then d
  else
    let at_ := d.fld REP_AT
    if at_ < d.clk.ts ∨ d.clk.ts + 1600000 < at_ then d.repLate else d.setF REP_STATE 2

/-- P in ROOT periods (R525). -/
def Dev.repP (d : Dev) : Nat := d.clk.fclk.foldl Nat.lcm 48

/-- The rings as a run finds them: empty in RECORD, read from offset 0 in REPLAY (R526, R532). -/
def Dev.repRings (d : Dev) : Dev :=
  (upTo 4).foldl (fun d n => (upTo 17).foldl (fun d c =>
    if !d.flag CAP_EN n c then d
    else if d.fld REP_ROLE = 1 then (d.setF CAP_HEAD 0 n c).setF CAP_TAIL 0 n c
    else d.setRing n c { d.ringOf n c with feed := 0, fseq := none, fend := false, cmpAt := 0 }) d) d

/-- The run is on: RT is 0, everything held is released (R523, R526). -/
def Dev.repRun (d : Dev) : Dev :=
  let d := ((((d.setF REP_RT 0).setF REP_T0 d.clk.ts).setF REP_REASON 0).setF REP_DIVERGED 0).setF REP_INCOMPLETE 0
  let d := (d.setF REP_EVT 0).setF REP_STATE 3
  let hbm := d.hbm.map fun (h : Nat × Hbm) => (h.1, { h.2 with patrol := 0, post := [] })
  { d with rep := { d.rep with hold := false, nclk0 := d.nclk }, hbm := hbm, safe := { d.safe with slotAt := d.clk.tick } }.repRings

/-- A droop stretch since the RELOAD aborts the run at its start edge (R525). -/
def Dev.repDroop (d : Dev) : Dev := if d.clk.withheld == d.rep.held0 then d else d.repAbort 3 0x0006 0

/-- REP_START: the first edge at or after GLB_REP_AT at which every clock has an edge (R525, R526). -/
def Dev.repStart (d : Dev) : Dev :=
  if !d.live || d.fld REP_STATE != 2 || !d.load.bDone then d
  else
    let p := d.repP
    let d := d.stampTo (d.fld REP_AT)
    let d := (d.pass ((p - d.clk.root % p) % p / 12)).repRun
    (d.logEv 0x000C .I 0 [dC (d.fld REP_ROLE), dT d.clk.ts, dN p]).repDroop

/-! ## The feed (R532) -/

/-- A link changes state (R493, R487): its entry, its record, its event line (R490). -/
def Dev.linkEvent (d : Dev) (n link ltssm rate width : Nat) (up : Bool) : Dev :=
  let p := d.prtOf n
  let old := Sparse.get {} p.link link
  let d := d.setPrt n { p with link := Sparse.set {} p.link link { ltssm := ltssm, rate := rate, width := width, l0 := up } }
  let d := if link = 0 ∧ up ≠ old.l0 then d.eventLevel n up else d
  (d.logEv 0x7002 .I n [dU 1 link, dC old.ltssm, dC ltssm, dC rate, dC width]).captureNow n 0 4 (2 * link) 0
    (Config.linkEventBytes [link, ltssm, rate, width, if up then 1 else 0])

/-- A record of DIR 0 is delivered (R532). -/
def Dev.feedRec (d : Dev) (n c kind dir : Nat) (bs : List Byte) : Dev :=
  match kind with
  | 0 => match Config.tlpRequest bs with
    | some q => d.dutReq n { q with link := Fin.ofNat 4 (dir / 2) }
    | none => d
  | 3 => d.ethRx n (c - 1) bs 0
  | 4 => match Config.linkEventOf bs with
    | [_, s, r, w, u] => d.linkEvent n (dir / 2 % 4) s r w (u != 0)
    | _ => d
  | _ => d

/-- The next record of DIR 0 of a ring, from an offset on. Records passed over must follow one another too. -/
def Dev.feedNext (d : Dev) (n c : Nat) : Nat → Dev
  | 0 => d
  | fuel + 1 =>
    let x := d.ringOf n c
    let size := 2 ^ d.fld CAP_SIZE n c
    let (h, d) := d.ringRead n c x.feed 32
    let f (o k : Nat) : Nat := leNat ((h.drop o).take k)
    let seq := f 16 4
    if x.fend then d
    else if x.fseq.any fun s => s != seq then d.setRing n c { x with fend := true }
    else if f 28 4 ≠ 0 then (d.setRing n c { x with fend := true }).repAbort 10 0x7003 n
    else
      let next := (x.feed + 32 + (f 20 2 + 31) / 32 * 32) % size
      let d := d.setRing n c { x with feed := next, fseq := some ((seq + 1) % 2 ^ 32) }
      if f 25 1 % 2 = 1 then Dev.feedNext d n c fuel
      else
        let (bs, d) := d.ringRead n c (x.feed + 32) (f 20 2)
        let d := d.pass (f 8 8 - d.fld REP_RT)
        let d := d.setRing n c { d.ringOf n c with seq := (seq + 1) % 2 ^ 32 }
        d.feedRec n c (f 24 1) (f 25 1) bs

/-- REPLAY_FEED. -/
def Dev.replayFeed (d : Dev) (n c : Nat) : Dev :=
  if !d.live || !d.ringFed n || !d.flag CAP_EN n c then d else d.feedNext n c (2 ^ d.fld CAP_SIZE n c / 32)

/-- LINK_FIX (R536): a coupling flit misses its due tick. -/
def Dev.linkFix (d : Dev) (k : Nat) : Dev := if d.live && d.linkUp k then d.repAbort 8 0x8000 k else d

end Sys2Proof.Machine
end

