-- ==== Sys2Proof/Machine/MgtOps.lean ====
section
/-! DEFINITION. The management block's own commands: BAR2, configuration requests, the status UART, telemetry, lantern probes
(chapter 21), and the ledger audit (chapter 22). -/

namespace Sys2Proof.Machine
open Sys2Proof.Machine.Reg

/-! ## The service port (R573) -/

/-- BAR2: plain coherent RD or WR from stop 59, SRCU 0, at the window base; a run refuses it (R530). The answer to a read, tag 0,
goes back as a completion when its status is OK or POISON (EP = 1), else as Unsupported Request; that to a posted write, tag 1, is
counted when it is not OK. -/
def Dev.bar2 (d : Dev) (off len : Nat) (wr : Option WrBytes) : Dev :=
  if !d.svc.up || !d.live then d
  else if d.running then (d.inc REP_HOST_REFUSED).emit .csrRefused
  else
    let n := match wr with
      | some w => w.length
      | none => len
    d.request { stop := ⟨59, by decide⟩, unit := 0, tag := if wr.isSome then 1 else 0 } (d.fld MGT_WIN_BASE * 2 ^ 30 + off) n wr
      false false none

/-! ## Configuration requests of a root port (R575) -/

/-- GO of PRT_PC_CFGREQ. `ok`: the write was of 64 bits. -/
def Dev.cfgReqGo (d : Dev) (n off bytes path : Nat) : Dev :=
  if d.prtEff PC_MODE n != 1 || d.flag CFGSTAT_BUSY n || !d.portUp n then d.csrAccess off bytes path 3
  else
    let wr := d.flag CFGREQ_WRITE n
    let args := [d.fld CFGREQ_REG n, d.fld CFGREQ_BE n, d.fld CFGREQ_FN n, d.fld CFGREQ_DEV n, d.fld CFGREQ_BUS n,
                 d.fld CFGREQ_TYPE1 n, d.fld CFGREQ_LINK n]
    let bs := if wr then leBytes 4 (d.fld CFGDATA n) else []
    let d := (d.setF CFGSTAT_BUSY 1 n).setPrt n { d.prtOf n with cfgRead := !wr }
    (d.captureNow n 0 0 (2 * d.fld CFGREQ_LINK n + 1) 0 (Config.tlpBytes ((if wr then 11 else 10) :: args) bs)).toDut n
      (if wr then "CfgWr" else "CfgRd") args bs

/-- CFGREQ_DONE: the completion, or the 50 ms timeout (status 4). -/
def Dev.cfgReqDone (d : Dev) (n status data : Nat) : Dev :=
  if !d.flag CFGSTAT_BUSY n || !d.live then d
  else
    let d := if (d.prtOf n).cfgRead && status == 0 then d.setF CFGDATA data n else d
    (d.setF CFGSTAT_STATUS status n).setF CFGSTAT_BUSY 0 n

/-! ## The status UART (R582) -/

/-- UART_LINE: the line in progress ends, the next queued one starts. -/
def Dev.uartLine (d : Dev) : Dev :=
  if !d.mlive then d
  else
    let d := match d.mgt.uartBusy with
      | some l => d.emit (.uart l)
      | none => d
    match d.mgt.uart with
    | l :: r => { d with mgt := { d.mgt with uart := r, uartBusy := some l } }
    | [] => { d with mgt := { d.mgt with uartBusy := none } }

/-- MGT_UART_USER: a code of 0x80 to 0xBF. -/
def Dev.uartUser (d : Dev) (v : Nat) : Dev :=
  let c := v % 256
  if 0x80 ≤ c ∧ c ≤ 0xBF then d.uart c else d

/-! ## Telemetry (R583) -/

/-- The hottest of the sensors and its number; of equal ones the lowest number. -/
def hottest (temps : List (BitVec 16)) : Int × Nat :=
  (temps.foldl (fun (s : Option (Int × Nat) × Nat) t =>
    let v := toSigned 16 t.toNat
    (match s.1 with
      | none => some (v, s.2)
      | some b => if b.1 < v then some (v, s.2) else some b, s.2 + 1)) (none, 0)).1.getD (0, 0)

/-- TELEMETRY_UPDATE. -/
def Dev.telemetry (d : Dev) (temps : List (BitVec 16)) (pwr vcore mj : Nat) : Dev :=
  if !d.mlive then d
  else
    let ts := temps.take 32
    let d := (ts.foldl (fun (s : Dev × Nat) t => (s.1.setF MGT_TEMP t.toNat s.2, s.2 + 1)) (d, 0)).1
    let (m, k) := hottest ts
    let d := (d.setF MGT_TEMP_MAX (ofSigned 16 m)).setF MGT_TEMP_SENSOR k
    let d := (d.setF MGT_PWR pwr).setF MGT_VCORE vcore
    d.setF MGT_ENERGY (min (2 ^ 64 - 1) (d.fld MGT_ENERGY + mj))

/-! ## Lantern probes (R584 to R587) -/

/-- A select names an assigned source, instance and signal (R584); source 0 selects nothing. -/
def probeAssigned (src inst sig : Nat) : Bool :=
  match src with
  | 0 => inst == 0 && sig == 0
  | 1 => inst < 65 && (sig < 6 || (16 ≤ sig && sig < 48))
  | 2 => inst < 16 && sig < 5
  | 3 => inst < 118 && !reservedStop inst && (sig % 16 < 10 && sig < 48)
  | 4 => inst < 16 && (sig < 4 || (8 ≤ sig && sig < 16))
  | 5 => inst < 16 && (sig < 4 || (8 ≤ sig && sig < 40))
  | 6 => inst < 4 && (sig < 4 || (8 ≤ sig && sig < 12))
  | 7 => inst < 32 && sig < 16
  | 8 => inst == 0 && sig < 5
  | _ => false

/-- Write MGT_PRB_SEL_k: the three selecting fields together, or not at all (R10, R584). -/
def Dev.probeSel (d : Dev) (k v : Nat) : Dev :=
  let d := ((d.setF PRB_SEL_ANY (bits v 32 1) k).setF PRB_SEL_INVERT (bits v 33 1) k).setF PRB_SEL_EN (bits v 34 1) k
  if probeAssigned (bits v 0 4) (bits v 8 15) (bits v 24 8) then
    ((d.setF PRB_SEL_SRC (bits v 0 4) k).setF PRB_SEL_INSTANCE (bits v 8 15) k).setF PRB_SEL_SIGNAL (bits v 24 8) k
  else d

/-- The level of the status signal a select names, where the state of the machine holds it (R584). `none`: a strobe of one cycle, an
array stall, or a region's probe net, whose level the sample brings. Tiles are physical ones. -/
def Dev.probeHeld (d : Dev) (src inst sig : Nat) : Option Bool :=
  match src with
  | 1 =>
    let t := d.ltile inst
    let x := d.tileOf t
    let hand := d.safe.handover.any fun h => h.out == inst || d.fld SPARE_SPARE == inst
    match sig with
    | 2 => some (decide (t < 64) && d.headWaits t x)
    | 3 => some (decide (t < 64) && !x.copyOn.isEmpty)
    | 4 => some hand
    | 5 => some (d.safe.testing && d.fld SPARE_SPARE == inst)
    | _ =>
      if sig < 16 then none
      else if sig < 32 then some (decide (t < 64) && (d.grp t (sig - 16)).st == 1)
      else some (decide (t < 64) && (d.grp t (sig - 32)).st == 3)
  | 2 =>
    match sig with
    | 0 => some (d.fld CE_STATE inst == 1)
    | 1 => some (d.fld CE_STATE inst == 2)
    | 3 => some (decide (64 ≤ (d.engOf inst).live.length))
    | 4 => some (d.flag CE_SWAP_PENDING inst)
    | _ => none
  | 3 =>
    if sig < 16 then some !(Sparse.get [] d.ann.injq (inst * 16 + sig)).isEmpty
    else if sig < 32 then some (d.ann.kept.any fun e => e.1 / 128 == sig - 16 && e.2 == 1 + inst)
    else none
  | 4 =>
    match sig with
    | 2 => some (decide (64 ≤ d.cel.queue.countP fun e => homeOf e.1 == inst))
    | 3 => some (d.flag CEL_BUSY inst)
    | _ => none
  | 5 =>
    match sig with
    | 2 => some (decide (128 ≤ (d.hbmOf inst).rdq.length))
    | 3 => some (decide (64 ≤ (d.hbmOf inst).wrq.length))
    | _ => none
  | 6 => if 8 ≤ sig then some (Sparse.get {} (d.prtOf inst).link (sig - 8)).l0 else none
  | 8 =>
    match sig with
    | 0 => some (d.clk.thermLvl != 0)
    | 2 => some d.rst.pfail
    | 3 => some !d.safe.low
    | 4 => some (d.flag CLK_TS_SLEW)
    | _ => none
  | _ => none

/-- What probe `k` shows (R585). The sample brings the level of each selected signal the state does not hold, and whether each was high in
some cycle since the previous sample (log entry 187). -/
def Dev.probeBit (d : Dev) (level seen : BitVec 16) (k : Nat) : Bool :=
  let src := d.fld PRB_SEL_SRC k
  let busy := src == 7 && (d.regionBusy (d.fld PRB_SEL_INSTANCE k) || !NatSet.has d.load.loaded (d.fld PRB_SEL_INSTANCE k) || !d.released)
  if !d.flag PRB_SEL_EN k || busy then false
  else
    let high := (d.probeHeld src (d.fld PRB_SEL_INSTANCE k) (d.fld PRB_SEL_SIGNAL k)).getD (level.getLsbD k)
    let raw := src != 0 && (high || (d.flag PRB_SEL_ANY k && seen.getLsbD k))
    raw != d.flag PRB_SEL_INVERT k

/-- Records of the capture ring (R586). -/
def Dev.probeRing (d : Dev) : Nat := 2 ^ min 34 (max 16 (d.fld PRB_CAP_SIZE)) / 64

/-- Close the capture (R586, R587). -/
def Dev.probeStop (d : Dev) : Dev := { d.setF PRB_STOPPED 1 with mgt := { d.mgt with prbRun := false, prbLeft := none, prbRec := [] } }

/-- Write the completed record (R586). A record whose write fails is lost; one entry is written per burst of losses (log entry 120). -/
def Dev.probeRecord (d : Dev) (rec_ : List Nat) (ts : Nat) : Dev :=
  let n := d.probeRing
  let h := d.fld PRB_HEAD
  let bs := leBytes 8 ts ++ rec_.flatMap (leBytes 2)
  let (st, d) := d.anyWrite mgmtStop 0 (d.fld PRB_CAP_BASE * 4096 + 64 * h) (allOn bs) true
  let d :=
    if st ≠ 0 then
      let d := d.inc PRB_LOST
      if d.mgt.prbBurst then d
      else ({ d with mgt := { d.mgt with prbBurst := true } }).logEv 0x0601 .D 0 [dN (d.fld PRB_LOST), dN h]
    else { d with mgt := { d.mgt with prbBurst := false } }
  let stop := d.flag PRB_CAP_STOP
  let d := d.setF PRB_HEAD ((h + 1) % n)
  if stop && h + 1 == n then d.probeStop
  else match d.mgt.prbLeft with
    | some 0 => d.probeStop
    | some (m + 1) => { d with mgt := { d.mgt with prbLeft := some m } }
    | none => d

/-- The trigger of R587: the record in progress completes, then POST more. -/
def Dev.probeTrigger (d : Dev) (v : Nat) : Dev :=
  let m := d.fld PRB_TRIG_MASK
  if m ≠ 0 ∧ !d.flag PRB_TRIGGERED ∧ Nat.land v m = d.fld PRB_TRIG_VALUE then
    let d := (d.setF PRB_TRIGGERED 1).setF PRB_TRIG_AT d.now
    { d with mgt := { d.mgt with prbLeft := some (d.fld PRB_TRIG_POST) } }
  else d

/-- PROBE_SAMPLE: pins, trigger, capture. -/
def Dev.probeSample (d : Dev) (level seen : BitVec 16) : Dev :=
  if !d.mlive then d
  else
    let v := (upTo 16).foldl (fun v k => v + bitIf (d.probeBit level seen k) k) 0
    let d := { d with mgt := { d.mgt with prbPins := if d.flag PRB_PIN_EN then v else 0 } }
    if !d.flag PRB_CAP_EN || !d.mgt.prbRun || d.flag PRB_STOPPED then d
    else
      let d := if d.mgt.prbRec.isEmpty then { d with mgt := { d.mgt with prbRecTs := d.now } } else d
      let d := d.probeTrigger v
      let r := d.mgt.prbRec ++ [v]
      if r.length < 28 then { d with mgt := { d.mgt with prbRec := r } }
      else ({ d with mgt := { d.mgt with prbRec := [] } }).probeRecord r d.mgt.prbRecTs

/-- Write MGT_PRB_CAP_CTL: EN from 0 to 1 clears TRIGGERED, STOPPED, LOST and HEAD (R587). -/
def Dev.probeCapCtl (d : Dev) (v : Nat) : Dev :=
  let was := d.flag PRB_CAP_EN
  let d := ((d.setF PRB_CAP_EN (bits v 0 1)).setF PRB_CAP_STOP (bits v 1 1)).setF PRB_CAP_SIZE (min 34 (max 16 (bits v 8 6)))
  if bitAt v 0 && !was then
    let d := (((d.setF PRB_TRIGGERED 0).setF PRB_STOPPED 0).setF PRB_LOST 0).setF PRB_HEAD 0
    { d with mgt := { d.mgt with prbRec := [], prbLeft := none, prbBurst := false, prbRun := true } }
  else if !bitAt v 0 then { d with mgt := { d.mgt with prbRec := [], prbLeft := none, prbRun := false } }
  else d

/-! ## The ledger audit (R600 to R604) -/

/-- Places of the audit's items, in the order of R601: ring triples, blocks, link pools, PCIe/CXL receive credits, the map. -/
def auditRing : Nat := 118 * 118 * 3
/-- After the fabric RAM blocks. -/
def auditBlock : Nat := auditRing + 6144
/-- After the link pools. -/
def auditPool : Nat := auditBlock + 32
/-- After the port dies' credits: die, link, VC 0 or 1, six credit types (log entry 121). -/
def auditPort : Nat := auditPool + 4 * 4 * 2 * 6
/-- After the map. -/
def auditEnd : Nat := auditPort + 1

/-- An item exists at this place. -/
def Dev.auditHas (d : Dev) (i : Nat) : Bool :=
  if i < auditRing then
    let s := i / 354
    let t := i % 354 / 3
    s != t && !reservedStop s && !reservedStop t
  else if i < auditBlock then d.qcMode (i - auditRing) == 3
  else if i < auditPool then true
  else if i < auditPort then
    let n := (i - auditPool) / 48
    let l := (i - auditPool) % 48 / 12
    d.load.aDone && (d.prtEff PC_MODE n == 1 || d.prtEff PC_MODE n == 2 || d.prtEff PC_MODE n == 3) && l ≤ d.prtEff PC_BIF n
  else i == auditPort

/-- The first item at or after a place. -/
def Dev.auditNext (d : Dev) (i : Nat) : Nat → Nat
  | 0 => auditEnd
  | fuel + 1 => if auditEnd ≤ i then auditEnd else if d.auditHas i then i else Dev.auditNext d (i + 1) fuel

/-- AUDIT of GLB_LEDGER_CTL. -/
def Dev.auditCtl (d : Dev) (off bytes path v : Nat) : Dev :=
  if bits v 48 16 ≠ 0x7C31 then d.csrAccess off bytes path 2
  else if !bitAt v 0 then d
  else if d.flag LED_BUSY then d.csrAccess off bytes path 3
  else
    let d := (((d.setF LED_BUSY 1).setF LED_SKIPPED 0).setF LED_CHECKED 0).setF LED_COUNT 0
    let d := (d.setF LED_KIND 0).setF LED_IDENT 0
    { d with mgt := { d.mgt with auditPos := d.auditNext 0 auditEnd } }

/-- One item: its kind, identifier, whether its identity holds, and the four figures sampled. -/
def Dev.auditItem (d : Dev) (i : Nat) : Nat × Nat × Bool × List Nat :=
  if i < auditRing then
    let (s, t, c) := (i / 354, i % 354 / 3, i % 3)
    let x := d.credOf s t c
    let h := d.credHeld s t c
    (1, s + t * 2 ^ 8 + c * 2 ^ 16, h + x.flight + x.occ == allot c, [h, x.flight, x.occ, allot c])
  else if i < auditBlock then
    let b := i - auditRing
    let q := d.qcOf b
    let n := d.qcDepth b
    (2, b, d.qcAvail b + q.transit + q.count == n, [d.qcAvail b, q.transit, q.count, n])
  else if i < auditPool then
    let k := i - auditBlock
    let n := poolDepth (k % 8)
    let used := Sparse.get 0 (d.linkOf (k / 8)).spent (k % 8)
    (3, k, (n - used) + used == n, [n - used, 0, used, n])
  else if i < auditPort then
    let k := i - auditPool
    (4, (k / 48) * 2 ^ 24 + (k % 48 / 12) * 2 ^ 16 + (k % 12 / 6) * 2 ^ 8 + k % 6, true, [0, 0, 0, 0])
  else
    let m := d.safe.map
    (5, 0, m.length == 64 && m.Nodup && m.all fun p => decide (p < 65), [m.length, m.eraseDups.length, d.fld SPARE_SPARE, d.fld SPARE_EPOCH])

/-- The item cannot be judged whatever the traffic: the map while a handover runs (R601). -/
def Dev.auditBarred (d : Dev) (i : Nat) : Bool := i == auditPort && d.flag SPARE_HO

/-- An item is judged (R602). -/
def Dev.auditJudge (d : Dev) (i : Nat) : Dev :=
  let (k, id, ok, figs) := d.auditItem i
  let d := d.inc LED_CHECKED
  if ok then d
  else
    let d := d.inc LED_COUNT
    if d.fld LED_COUNT = 1 then
      ((d.setF LED_KIND k).setF LED_IDENT id).logEv 0x0010 .S 0 ([dC k, dO id] ++ figs.map dN)
    else d

/-- LEDGER_ITEM_CHECK: the next item, found at its quiet point or not; after the last one the audit is done. -/
def Dev.auditStep (d : Dev) (quiet : Bool) : Dev :=
  if !d.mlive || !d.flag LED_BUSY then d
  else
    let i := d.mgt.auditPos
    let d := if i < auditEnd then (if quiet && !d.auditBarred i then d.auditJudge i else d.inc LED_SKIPPED) else d
    let j := d.auditNext (i + 1) auditEnd
    let d := { d with mgt := { d.mgt with auditPos := j } }
    if j = auditEnd then (d.setF LED_BUSY 0).raise LED_DONE else d

end Sys2Proof.Machine
end

