-- ==== Sys2Proof/Machine/CelCmd.lean ====
section
/-! DEFINITION. The commands of the Cellar (chapter 09): tile-cache and flush requests as they reach the home slice, snoops and their
answers, fills, host snoops, walks, patrol, and the mode of a slice. -/

namespace Sys2Proof.Machine
open Sys2Proof.Machine.Reg

/-- A line with a home slice (R277). -/
def Dev.homed (d : Dev) (k : Nat) : Bool :=
  match placeOf (256 * k) with
  | .hbm => true
  | .scratch _ _ => true
  | .host n _ => d.cxlCache n && d.flag CEL_HOST_EN (homeOf k)
  | _ => false

/-- A line that tile caches take: HBM or Cellar scratch, never a host line (R274, R291). -/
def tileLine (k : Nat) : Bool :=
  match placeOf (256 * k) with
  | .hbm => true
  | .scratch _ _ => true
  | _ => false

/-- The stop that a request for an address without a home slice reaches (R20, R28, R36, R38). -/
def Dev.targetStop (d : Dev) (a : Nat) : Nat :=
  match placeOf a with
  | .tile t _ => tileStop (d.ptile t)
  | .ram b _ => gateStop (blockRegion b / 4)
  | .host n _ => bridgeStop n
  | .remote _ _ => cplStop 0
  | _ => celStop (homeSlice a)

/-- A tile cache's request reaches the home slice: RD_SH, RD_EX, UPGR; the tile counts its miss. A tile without a tile cache sends none, and
an address that it does not serve is answered with its status (R33, R43, R297). -/
def Dev.tileReq (d : Dev) (t k : Nat) (op : SliceOp) : Dev :=
  let rid := ridOf (tileStop (d.ptile t)) 3
  if !d.released || d.tcSize == 0 || !tileLine k || d.tileResetting t then d
  else
    let d := d.inc TC_MISS 1 (d.ptile t)
    let st := d.accStatus (256 * k) 256
    if st ≠ 0 then (d.logStatus st (256 * k) 256 (rid / 16)).emit (.resp rid 0 st [])
    else d.sliceArrive (homeOf k) k { op := op, rid := rid, tag := 0, dline := dlineAt d.now }

/-- WB: the dirty line stands in the tile's write-back buffer, the tile line is I, and its home merges the data unless a snoop has taken it
(R284, R289). -/
def Dev.tileWb (d : Dev) (t k : Nat) : Dev :=
  match d.tcLine t k with
  | none => d
  | some l =>
    if !d.released || l.dirty == 0 || (d.wbOf t k).isSome then d
    else
      let d := (d.setTc t k none).setWb t k (some (l, false))
      d.sliceArrive (homeOf k) k { op := .wb t, rid := ridOf (tileStop (d.ptile t)) 3, tag := 0, dline := dlineAt d.now }

/-- EVC: a clean line is dropped, and its home's directory follows. -/
def Dev.tileEvc (d : Dev) (t k : Nat) : Dev :=
  if !d.released || !(d.tcLine t k).any (·.dirty == 0) then d
  else (d.setTc t k none).sliceArrive (homeOf k) k { op := .evc t, rid := ridOf (tileStop (d.ptile t)) 3, tag := 0, dline := dlineAt d.now }

/-- FLUSH, FLUSH_INV, DISCARD from any requester. Where no home slice serves the address, its target does not serve the request (R33, R40,
R43, R234). -/
def Dev.flushReq (d : Dev) (q : Rq) (k : Nat) (op : SliceOp) (opc : Nat) : Dev :=
  let rid := reqId q
  let tag := q.tag.toNat
  let st := d.accStatus (256 * k) 256
  if !d.live then d
  else if st ≠ 0 then (d.logStatus st (256 * k) 256 q.stop.val).emit (.resp rid tag st [])
  else if !d.homed k then d.badOpc (d.targetStop (256 * k)) opc rid tag
  else d.sliceArrive (homeOf k) k { op := op, rid := rid, tag := tag, dline := d.dlineOf q.stop.val q.unit.val false }

/-- FENCE at slice `s`: answered at once when nothing of its requester is left there. -/
def Dev.fenceReq (d : Dev) (q : Rq) (s : Nat) : Dev :=
  if !d.live then d else d.sliceArrive s 0 { op := .fence, rid := reqId q, tag := q.tag.toNat }

/-! ## Snoops on their way (R286, R287) -/

/-- The directory after tile `t`'s answer to a snoop of operation `op`. -/
def Dir.snooped (x : Dir) (t op : Nat) : Dir :=
  match op with
  | 1 => x.without t
  | 2 => .sh [t]
  | _ => x

/-- A transaction whose snoops are all answered and whose data is there ends. -/
def Dev.transDone (d : Dev) (k : Nat) (x : Trans) : Dev :=
  if x.snoops.isEmpty && !x.fill then d.finishTrans k x else d.setTrans k (some x)

/-- Tile `t`'s answer reaches the home slice: SNP_ACK without data, SNP_DATA with dirty sectors. Under DISCARD they are dropped. -/
def Dev.snoopAnswer (d : Dev) (t k : Nat) (withData : Bool) : Dev :=
  match d.transOf k with
  | none => d
  | some x =>
    match x.snoops.find? fun s => s.tile == t with
    | some s =>
      match s.ans with
      | some (mask, data, poison) =>
        if (mask != 0) != withData then d
        else
          let drop := x.req.op == .discard
          let dirtied := drop && mask != 0
          let d := if drop then d else d.mergeIn k mask data poison
          let d := d.setDir k ((d.dirOf k).snooped t s.op)
          d.transDone k { x with snoops := x.snoops.filter (·.tile != t), drops := if dirtied then 1 else x.drops }
      | none => d
    | none => d

/-- A plain access starts again: it waits behind another line's transaction, or is served. -/
def Dev.plainAgain (d : Dev) (a n : Nat) (r : SliceReq) : Dev :=
  match d.busyTrans a n with
  | some j => d.enqueue j r
  | none => (if d.hostCached a then d.hostServe r else d.servePlain r).fenceCheck

/-- LINE_QUEUE_ADVANCE: the next request that waits for a line whose transaction has ended. -/
def Dev.queueAdvance (d : Dev) (k : Nat) : Dev :=
  if !d.live || (d.transOf k).isSome then d
  else
    match d.cel.queue.find? fun e => e.1 == k with
    | none => d
    | some e =>
      let d := { d with cel := { d.cel with queue := d.cel.queue.erase e } }
      match e.2.op with
      | .rd a n _ _ => d.plainAgain a n e.2
      | .wr a w _ _ _ => d.plainAgain a w.length e.2
      | _ => d.startReq k e.2

/-- CEL_FILL: the data a transaction waits for arrives, from HBM or from the host (R280, R291). -/
def Dev.celFill (d : Dev) (k : Nat) (host : BitVec 2048) : Dev :=
  match d.transOf k with
  | none => d
  | some x =>
    if !d.live || !x.fill then d
    else
      let own := match x.req.op with
        | .wr .. => true
        | _ => false
      match placeOf (256 * k) with
      | .host _ _ =>
        let d := (d.makeRoom k).setTrans k none
        let d := d.setCel k (some { (d.celLine k).getD { data := host, fresh := true } with host := if own then 2 else 1 })
        (d.hostServe x.req).fenceCheck
      | _ =>
        let d := if d.sliceScratch (homeOf k) || (d.celLine k).isSome then d
          else
            let d := (d.makeRoom k).causedBy x.req.rid x.req.dline
            (d.backRead k 15).setCel k (some (d.backLine k))
        d.transDone k { x with fill := false }

/-! ## Host snoops (R291, R482) -/

/-- A late snoop answer counts (R482). -/
def Dev.snpLate (d : Dev) (n took : Nat) : Dev := if d.fld BUD_CPL n < took then d.inc GE_SNP_LATE 1 n else d

/-- An H2D snoop: 1 SnpInv, 2 SnpData, 3 SnpCur. -/
def Dev.hostSnoop (d : Dev) (n k kind took : Nat) : Dev :=
  match placeOf (256 * k) with
  | .host m _ =>
    if m ≠ n ∨ !d.portUp n ∨ !d.cxlCache n then d
    else
      let say (d : Dev) (what : String) (bs : List Byte) : Dev := (d.emit (.link what n [k] bs)).snpLate n took
      match d.celLine k with
      | none => say d "RspIHitI" []
      | some l =>
        let bs := lineSlice l.data 0 256
        let dirty := l.dirty != 0
        match kind with
        | 1 => say (d.setCel k none) (if dirty then "RspIFwdM" else "RspIHitSE") (if dirty then bs else [])
        | 2 => say (d.setCel k (some { l with host := 1, dirty := 0 })) (if dirty then "RspSFwdM" else "RspSHitSE")
                 (if dirty then bs else [])
        | _ => say d (if dirty then "RspVFwdV" else "RspVHitV") (if dirty then bs else [])
  | _ => d

/-! ## Walks (R294) -/

/-- A write of CEL_FLUSH_CTL. -/
def Dev.walkCtl (d : Dev) (s off bytes path v : Nat) : Dev :=
  if d.flag CEL_BUSY s then d.csrAccess off bytes path 3
  else if v % 4 = 0 then d
  else
    let w : Walk := { op := v % 4, all := bitAt v 2, begun := d.coreRoot }
    { d with cel := { d.cel with walk := Sparse.set none d.cel.walk s (some w) } }.setF CEL_BUSY 1 s

/-- Dirty sectors of a line and of its tile copies. -/
def Dev.dirtyMask (d : Dev) (k : Nat) : Nat :=
  (d.dirOf k).holders.foldl (fun m t => Nat.lor m ((d.tcLine t k).map (·.dirty) |>.getD 0)) ((d.celLine k).map (·.dirty) |>.getD 0)

/-- The walk's operation on line `k`. A line that runs a transaction is asked for as any requester would, behind it (R279, R288). -/
def Dev.walkLine (d : Dev) (s k op : Nat) : Dev :=
  let me := sliceUnit s 5
  if d.lineBusy k then
    d.enqueue k { op := if op = 1 then .flush else if op = 2 then .flushInv else .discard, rid := me, tag := 0, seq := d.cel.seqNext }
  else
    let n := (upTo 4).countP fun i => bitAt (d.dirtyMask k) i
    match op with
    | 1 => (d.walkCount s n 0).flushAny k me |>.2
    | 2 => (d.walkCount s n 0).flushInvLine k me |>.2
    | _ => let (m, d) := d.discardLine k me; d.walkCount s 0 m

/-- The walk of slice `s` checks its sets up to `upto` (R294): the lines of them that lie in its range. -/
def Dev.walkTo (d : Dev) (s upto : Nat) : Dev :=
  match Sparse.get none d.cel.walk s with
  | none => d
  | some w =>
    let lo := 256 * d.fld CEL_FLUSH_BASE s
    let hi := lo + 256 * d.fld CEL_FLUSH_LEN s
    let ks := (d.walkLines s).filter fun k =>
      decide (w.set ≤ bits k 4 15) && decide (bits k 4 15 < upto) && (w.all || decide (lo ≤ 256 * k ∧ 256 * k < hi))
    let d := { d with cel := { d.cel with walk := Sparse.set none d.cel.walk s (some { w with set := max w.set upto }) } }
    ks.foldl (fun d k => d.walkLine s k w.op) d

/-- Walks go on with time: one set per CCLK (R294). -/
def Dev.walkTick (d : Dev) : Dev :=
  d.cel.walk.foldl (fun d e => match e.2 with
    | some w => d.walkTo e.1 ((d.coreRoot - w.begun) / 8)
    | none => d) d

/-- CEL_FLUSH_DONE: the walk of slice `s` checks what is left of its sets, and ends once no line it asked for still waits. -/
def Dev.walkDone (d : Dev) (s : Nat) : Dev :=
  if !d.live then d
  else
    let d := d.walkTo s 32768
    let mine (k : Nat) (r : SliceReq) : Bool := homeOf k == s && r.rid == sliceUnit s 5
    match Sparse.get none d.cel.walk s with
    | none => d
    | some w =>
      if d.cel.queue.any (fun e => mine e.1 e.2) || d.cel.trans.any (fun e => e.2.any fun t => mine e.1 t.req) then d
      else
        let d := { d with cel := { d.cel with walk := Sparse.set none d.cel.walk s none } }
        let d := (((d.setF CEL_WB_SECT w.wrote s).setF CEL_DISC (min w.disc 0xFFFF) s).setF CEL_BUSY 0 s).raise CEL_DONE 0 s
        d.logEv 0x4003 .I s [dC w.op, dN w.wrote, dN w.disc]

/-! ## Patrol and errors (R295) -/

/-- An uncorrectable entry: tile copies of the set's lines are invalidated, the lines answer POISON until rewritten. -/
def Dev.entryLost (d : Dev) (k : Nat) : Dev :=
  let d := (d.invHolders k true (sliceUnit (homeOf k) 6) 1).setCel k none
  { d with cel := { d.cel with lost := Sparse.set false d.cel.lost k true } }

/-- Lines whose tag or directory entry (0, 1) or filter entry (2) lies in a set of slice `s` (R278, R283; log entry 6). -/
def Dev.entryLines (d : Dev) (s set x : Nat) : List Nat :=
  (((d.cel.lines.map (·.1)) ++ (d.cel.dir.map (·.1))).filter fun k =>
    homeOf k == s && (if x = 2 then Config.filterSet k % 4096 == set % 4096 else bits k 4 15 == set)).eraseDups

/-- A sector of a held line, or a word of scratch, goes bad; no one has met the error (R295). -/
def Dev.celUpset (d : Dev) (s a : Nat) (double : Bool) : Dev :=
  let k := a / 256
  let m := 2 ^ (a % 256 / 64)
  if homeOf k ≠ s then d
  else match d.celLine k with
    | some l => d.setCel k (some (if double then { l with bad := Nat.lor l.bad m } else { l with weak := Nat.lor l.weak m }))
    | none =>
      if !d.sliceScratch s || decide (a < hbmEnd) then d
      else if double then { d.markBad (a / 8 * 8) 8 true with quiet := Sparse.set false d.quiet (a / 8) false }
      else d.softAt a

/-- The check of a sector, or of a word of scratch (R295). -/
def Dev.celCheck (d : Dev) (s a : Nat) : Dev :=
  let k := a / 256
  if homeOf k ≠ s then d
  else if (d.celLine k).isSome then d.lineCheck k (2 ^ (a % 256 / 64))
  else if d.sliceScratch s then d.scratchCheck k (2 ^ (a % 256 / 64)) else d

/-- CEL_PATROL: what `e` says is found, or befalls the slice; then the set whose turn it is is checked (R295). -/
def Dev.celPatrol (d : Dev) (s set : Nat) (e : CelErr) : Dev :=
  if !d.live then d
  else
    let d := match e with
      | .clean => d
      | .corrected => d.inc CEL_CE 1 s
      | .latent a double => d.celUpset s a.toNat double
      | .data a => (d.celUpset s a.toNat true).celCheck s a.toNat
      | .entry x => (((d.entryLines s set x.val).foldl Dev.entryLost d).inc CEL_UE 1 s).logEv 0x4002 .S s [dO set, dC x.val]
    let n := Sparse.get 0 d.cel.patrol s
    let d := { d with cel := { d.cel with patrol := Sparse.set 0 d.cel.patrol s ((n + 1) % 32768) } }
    let ks := if d.sliceScratch s then (upTo 16).map fun i => (0x0100_0000_0000 + s * 0x0800_0000) / 256 + 16 * n + i
      else (d.cel.lines.map (·.1)).filter fun k => homeOf k == s && bits k 4 15 == n
    ks.foldl (fun d k => if d.sliceScratch s then d.scratchCheck k 15 else d.lineCheck k 15) d

/-- An error befalls a 64 B unit of the SRAM of logical tile `t`, in its first word, whose cause no source has logged (R273). -/
def Dev.sramUpset (d : Dev) (t u : Nat) (e : Upset) : Dev :=
  let a := tileAddr t (64 * u)
  match e with
  | .clean => d
  | .single => d.softAt a
  | .double => { d.markBad a 8 true with quiet := Sparse.set false d.quiet (a / 8) false }

/-- TIL_SRAM_PATROL (R273): what has befallen unit `u` of physical tile `p`, then the check, through port 6, of the unit whose turn it is in
that unit's bank. The spare holds no tile's data. -/
def Dev.sramPatrol (d : Dev) (p u : Nat) (e : Upset) : Dev :=
  let t := d.ltile p
  let key := 32 * p + u % 32
  let n := Sparse.get 0 d.cel.sramPatrol key
  let d := { d with cel := { d.cel with sramPatrol := Sparse.set 0 d.cel.sramPatrol key ((n + 1) % 1024) } }
  if 64 ≤ t then
    match e with
    | .clean => d
    | .single => d.inc TIL_SRAM_CE 1 p
    | .double => (d.inc TIL_SRAM_UE 1 p).logUE 0x1001 p [dO (64 * u), dU 1 6]
  else ((d.sramUpset t u e).sramRead t (64 * (32 * n + u % 32)) 64 6).2.2

/-! ## Modes (R274, R293) -/

/-- A slice's part of the scratch window reads zeros (R293). -/
def Dev.zeroScratch (d : Dev) (s : Nat) : Dev := d.zeroCells (0x0100_0000_0000 + s * 0x0800_0000) 0x0800_0000

/-- Drop every line a slice holds and every tile copy it tracks. -/
def Dev.sliceEmpty (d : Dev) (s : Nat) : Dev :=
  let ks := ((d.cel.lines.map (·.1)) ++ (d.cel.dir.map (·.1))).filter fun k => homeOf k == s
  ks.foldl Dev.evictLine d

/-- A write of CEL_CFG. A slice that a RELOAD left in scratch mode keeps its contents when MODE is written 1 again (R292). -/
def Dev.celMode (d : Dev) (s v : Nat) : Dev :=
  if d.load.bDone then d
  else
    let was := d.flag CEL_MODE s
    let d := d.setF CEL_HOST_EN (bits v 1 1) s
    let kept := NatSet.has d.cel.kept s
    let d := if bitAt v 0 == was then d
      else if bitAt v 0 then (if kept then d.sliceEmpty s else (d.sliceEmpty s).zeroScratch s)
      else (d.sliceEmpty s).zeroScratch s
    let d := d.setF CEL_MODE (bits v 0 1) s
    if bitAt v 0 then { d with cel := { d.cel with kept := Sparse.set false d.cel.kept s false } } else d

/-- At B_DONE a slice that was in scratch mode before a RELOAD and is in cache mode now has lost its scratch contents (R292, R293). -/
def Dev.celSettle (d : Dev) : Dev :=
  let d := d.cel.kept.foldl (fun d e => if d.flag CEL_MODE e.1 then d else d.zeroScratch e.1) d
  { d with cel := { d.cel with kept := [] } }

/-- A write of TIL_SRAM_CFG.CACHE_Q in any tile's block sets all tiles (R274); what the cache held is dropped home first. -/
def Dev.cacheQ (d : Dev) (v : Nat) : Dev :=
  if d.load.bDone then d
  else
    let d := (d.cel.tc.map (·.1)).foldl (fun d e => d.tcDrop (e / 2 ^ 40) (e % 2 ^ 40)) d
    d.setF TIL_CACHE_Q (v % 8) 0

/-- A write of HBM_ARB_CFG or CEL_ARB_CFG: sums checked, the whole write kept out on a bad one (R320, R448). -/
def arbOk (v : Nat) : Bool :=
  bits v 8 7 + bits v 16 7 + bits v 24 7 ≤ 64 && bits v 32 7 + bits v 40 7 + bits v 48 7 == 64

end Sys2Proof.Machine
end

