-- ==== Sys2Proof/Machine/ClkOps.lean ====
section
/-! DEFINITION. Clocks, the timestamp, the safe-side rule and rails (chapter 02). -/

namespace Sys2Proof.Machine
open Sys2Proof.Machine.Reg

/-! ## The safe-side rule (R71, R84) -/

/-- A move of loop `n` past its software setting to `v`: its bit, and the first move of a 1 ms window writes an entry with the moves
carried. -/
def Dev.safeside (d : Dev) (n : Nat) (v : Int) : Dev :=
  let d := d.raise SAFESIDE n
  let w := d.now / 800000 + 1
  if d.clk.window.getD n 0 = w then { d with clk := { d.clk with carried := d.clk.carried.set n (d.clk.carried.getD n 0 + 1) } }
  else
    let moves := d.clk.carried.getD n 0 + 1
    { d with clk := { d.clk with carried := d.clk.carried.set n 0, window := d.clk.window.set n w } }.logEv 0x0006 .I 0 [dC n, dI v, dN moves]

/-- A VCORE request goes out on AVSBus and waits for its acknowledgement (R72). -/
def Dev.avsAsk (d : Dev) (mv : Nat) : Dev :=
  { d with clk := { d.clk with avs := some (mv, d.clk.tick) } }.emit (.link "AVS" 0 [] (leBytes 2 mv))

/-- SAFESIDE_MOVE (R71): for AVS a VCORE request, up to 850 mV, which is a move when it lies above the floor that VFLOOR_MV sets. -/
def Dev.safesideMove (d : Dev) (n v : Nat) : Dev :=
  let floor := d.fld LOOP_VFLOOR_MV
  if !d.live then d
  else if n = 0 then
    let v := min v 850
    let d := d.avsAsk v
    if 650 ≤ floor ∧ min floor 850 < v then d.safeside 0 v else d
  else d.safeside n (toSigned 32 v)

/-! ## Root, monitors and dividers (R49 to R52) -/

/-- A CLOCK_FAULT of clock index `i` (R52). -/
def Dev.clockFault (d : Dev) (i : Nat) (ppm : Int) : Dev := d.logEv 0x0003 .S 0 [dU 1 i, dI ppm]

/-- CLOCK_MONITOR_WINDOW (R52): the window of a clock ends. -/
def Dev.clockWindow (d : Dev) (i : Nat) (ppm : Int) : Dev :=
  if !d.flag CLK_ROOT_LOCK || !d.safLive then d
  else if ppm.natAbs ≤ 20000 then d.setBit CLK_MON_OK i true
  else (d.setBit CLK_MON_OK i false).clockFault i (max (-1000000) ppm)

/-- ROOT_LOSS (R52, R627): the core is held; a class S fault of clock 0xFF that stays until SYS. -/
def Dev.lockLost (d : Dev) : Dev :=
  if !d.flag CLK_ROOT_LOCK then d
  else
    let d := ((d.setF CLK_ROOT_LOCK 0).raise CAUSE_ROOT_LOSS)
    { d with rst := { d.rst with rootLost := true }, svc := { d.svc with up := false } }.clockFault 0xFF 0

/-- The first ROOT count from now on that is a multiple of FCLK `k`'s divider and of the divider `v` (R49). Edges of FCLK `k` fall on
the multiples of its divider. -/
def Dev.fclkEdge (d : Dev) (k v : Nat) : Nat :=
  let n := Nat.lcm (max 1 (d.clk.fclk.getD k 24)) (max 1 v)
  (d.clk.root + n - 1) / n * n

/-- FCLK_DIV_SWITCH (R49): time passes to the ROOT period in which the divider written takes effect. -/
def Dev.fclkSwitch (d : Dev) (k : Nat) : Dev :=
  let v := [d.fld FCLK_DIV_0, d.fld FCLK_DIV_1, d.fld FCLK_DIV_2, d.fld FCLK_DIV_3].getD k 24
  if !d.flag CLK_ROOT_LOCK then d
  else
    let c := d.fclkEdge k v
    let d := d.pass ((c - d.clk.root + 11) / 12)
    let d := (upTo 32).foldl (fun d r => if (NatSet.has d.load.loaded r || NatSet.has d.fab.frozen r) && d.fclkOf r == k then d.hxRebase r else d) d
    { d with clk := { d.clk with fclk := d.clk.fclk.set k v, fclkAt := d.clk.fclkAt.set k c } }

/-- DROOP_STRETCH (R51, R71): one ROOT period withheld from TCLK, NCLK and CCLK; a run aborts. -/
def Dev.droop (d : Dev) : Dev :=
  if !d.live then d
  else ({ d with clk := { d.clk with withheld := d.clk.withheld + 1 } }.safeside 1 1).repAbort 3 0x0006 0

/-! ## Stepping (R73, R75, R76) -/

/-- The grade maximum in °C: 100 for grade S (R74, log entry 3). -/
def gradeMax : Nat := 100

/-- TSTEP and PWR_LIMITED as the two levels make them (R75, R78). -/
def Dev.showStep (d : Dev) : Dev :=
  (d.setF CLK_TSTEP (max d.clk.thermLvl d.clk.capLvl)).setF CLK_PWR_LIMITED (if d.clk.capLvl = 0 then 0 else 1)

/-- THERMAL_STEP_JUDGE (R73): against the hottest sensor, in 0.25 °C; a pulse is restored at every tenth judgement (1 ms) that finds
it 5 °C below the threshold. -/
def Dev.thermJudge (d : Dev) : Dev :=
  if !d.live then d else
  let t := toSigned 16 (d.fld MGT_TEMP_MAX)
  let set := d.fld LOOP_TSTEP_C
  let eff : Int := (min set gradeMax : Nat)
  let lvl := d.clk.thermLvl
  let cool := decide (t ≤ 4 * (eff - 5)) && lvl != 0
  let n := if cool then d.clk.thermAt + 1 else 0
  let lvl' := if 4 * eff < t then min 4 (lvl + 1) else if 10 ≤ n then lvl - 1 else lvl
  if lvl' = lvl then { d with clk := { d.clk with thermAt := n } }
  else
    let d := { d with clk := { d.clk with thermLvl := lvl', thermAt := 0 } }.showStep
    let d := if gradeMax < set then d.safeside 2 lvl' else d
    d.repAbort 1 0x0006 0

/-- The cap in effect in W; 0 for none (R85). -/
def Dev.capW (d : Dev) : Nat := let v := d.fld LOOP_CAP_W; if v = 0 then 0 else max 150 v

/-- POWER_CAP_STEP (R75): the 1 ms average against the cap; restored one pulse per ten judgements at or below it (log entry 8). -/
def Dev.capJudge (d : Dev) : Dev :=
  if !d.live then d else
  let cap := d.capW
  let lvl := d.clk.capLvl
  let above := decide (10 * cap < d.fld MGT_PWR)
  let n := if above || lvl == 0 then 0 else d.clk.capAt + 1
  let lvl' := if cap = 0 then 0 else if above then min 4 (lvl + 1) else if 10 ≤ n then lvl - 1 else lvl
  if lvl' = lvl then { d with clk := { d.clk with capAt := n } }
  else ({ d with clk := { d.clk with capLvl := lvl', capAt := 0 } }.showStep).repAbort 2 0x0006 0

/-- THERM_TRIP (R74, R132): 10 °C above the grade maximum; every core clock but MCLK stops until SYS_RST_N; TRIP_COUNT counts it. -/
def Dev.thermTrip (d : Dev) (sensor : Nat) (t : Int) : Dev :=
  if !d.mlive || d.rst.tripped || decide (t < gradeMax + 10) then d
  else
    let d := ((d.raise CAUSE_THERM_TRIP).uart 0xF2).logEv 0x0004 .S 0 [dU 1 sensor, dI t]
    { d with rst := { d.rst with tripped := true } }.keepOwn 2

/-- AVS_TIMEOUT (R72): 100 µs after its request an acknowledgement is missing: a class S fault whose event the manual's table does not list: a free code of the block (log entry 9). -/
def Dev.avsTimeout (d : Dev) : Dev :=
  if !d.mlive then d else
  let d := match d.clk.avs with
    | some (_, at_) => d.tickTo (at_ + 80000)
    | none => d
  let (v, d) := { d with clk := { d.clk with avs := none } }.draw
  d.logEv (v % 256) .S 0 []

/-! ## The timestamp (R54 to R57) -/

/-- APPLY (R55): OFFSET with what a slew still has to absorb, forward at once or absorbed. -/
def Dev.tsApply (d : Dev) : Dev :=
  if !d.live then d else
  let sum : Int := toSigned 32 (d.fld TSC_OFFSET) - d.clk.slewLeft
  if 0 < sum then
    let t := d.clk.ts
    let u := t + sum.toNat
    ((({ d with clk := { d.clk with ts := u, slewLeft := 0, slewPhase := 0 } }.setF CLK_TS_SLEW 0).ppsPass t u 0)).logEv 0x0007 .I 0 [dI sum]
  else { d with clk := { d.clk with slewLeft := (-sum).toNat } }.setF CLK_TS_SLEW (if sum = 0 then 0 else 1)

/-- TS_SLEW_DONE (R55): the last of the ticks is withheld, one in every 2,048. -/
def Dev.slewDone (d : Dev) : Dev :=
  if !d.flag CLK_TS_SLEW || !d.live then d else (d.pass (2048 * d.clk.slewLeft - d.clk.slewPhase)).setF CLK_TS_SLEW 0

/-- PPS_IN_EDGE (R56). -/
def Dev.ppsIn (d : Dev) : Dev := if d.live && !d.flag TSC_PPS_OUT then d.setF TS_PPS d.clk.ts else d

/-- PPS_OUT_PULSE (R56): the timestamp reaches the next multiple of 800,000,000. -/
def Dev.ppsOut (d : Dev) : Dev :=
  if !d.live || !d.flag TSC_PPS_OUT then d else d.stampTo (nextMultiple 800000000 d.clk.ts)

/-- A tick of TSCLK with RATE and slewing (R54, R55, R56). -/
def Dev.tsTick (d : Dev) : Dev := d.pass 1

/-- Key of a shadow copy: register (0 GLB_TS, 1 ANN_NCLK, 2 GLB_REP_RT, 3 other) and path. -/
def shadowKey (reg : Nat) (p : Path) : Nat := 8 * reg + pathCode p

/-- A read under the rule of R57: the value returned. -/
def Dev.shadowRead (d : Dev) (reg : Nat) (p : Path) (part : RdPart) (v : Nat) : Nat × Dev :=
  let k := shadowKey reg p
  let hi := v / 2 ^ 32 % 2 ^ 32
  match part with
  | .whole => (v % 2 ^ 64, d)
  | .low => (v % 2 ^ 32, { d with clk := { d.clk with shadow := Sparse.set none d.clk.shadow k (some (BitVec.ofNat 32 hi)) } })
  | .high =>
    match Sparse.get none d.clk.shadow k with
    | some h => (h.toNat, { d with clk := { d.clk with shadow := Sparse.set none d.clk.shadow k none } })
    | none => (hi, d)

/-- ELASTIC_BUFFER_EVENT (R53): counted per lane. -/
def Dev.elasticEvent (d : Dev) (lane : Nat) : Dev :=
  if !d.live then d
  else { d with clk := { d.clk with elastic := Sparse.set 0 d.clk.elastic lane (Sparse.get 0 d.clk.elastic lane + 1) } }

end Sys2Proof.Machine
end

