-- ==== Sys2Proof/Machine/HbmOps.lean ====
section
/-! DEFINITION. The HBM controllers: training, queues and scheduling, reads and their checks, refresh, patrol, retraining
(chapter 10). A command's data takes effect as the controller accepts it; the queues order the commands. -/

namespace Sys2Proof.Machine
open Sys2Proof.Machine.Reg

/-! ## Decode (R299) -/

/-- Pseudo-channel of a local address. -/
def hbmPc (L : Nat) : Nat := bits L 8 3
/-- Bank of a local address within its pseudo-channel: 16 × SID + 4 × bank group + bank. -/
def hbmBank (L : Nat) : Nat := 16 * (L / 2 ^ 31) + 4 * Nat.xor (bits L 13 2) (bits L 17 2) + bits L 15 2
/-- Row of a local address. -/
def hbmRow (L : Nat) : Nat := bits L 17 14
/-- Line within its 1 KiB row. -/
def hbmLineInRow (L : Nat) : Nat := bits L 11 2
/-- Channel of the stack on which pseudo-channel `p` of controller `h` lies. -/
def hbmChan (h p : Nat) : Nat := 4 * (h % 4) + p / 2
/-- Which pseudo-channel of that channel it is. -/
def hbmPseudo (p : Nat) : Nat := p % 2
/-- Where a local address lies: stack channel, its pseudo-channel, bank, row, line in the row. -/
def hbmPlace (h L : Nat) : List Nat := [hbmChan h (hbmPc L), hbmPseudo (hbmPc L), hbmBank L, hbmRow L, hbmLineInRow L]

/-! ## In and out of service (R300 to R302, R317, R318) -/

/-- Controller `h` is in service. -/
def Dev.hbmOk (d : Dev) (h : Nat) : Bool := d.live && d.fbit DIE_HBM_CTL_OK h

/-- HBM_CTL_OK bit h, and HBM_OK bit q once all four are set. -/
def Dev.setHbmOk (d : Dev) (h : Nat) (on : Bool) : Dev :=
  let d := d.setBit DIE_HBM_CTL_OK h on
  let q := h / 4
  d.setBit DIE_HBM_OK q ((upTo 4).all fun i => d.fbit DIE_HBM_CTL_OK (4 * q + i))

/-- The 6 GiB of controller `h` are zeroed with valid metadata. -/
def Dev.hbmZero (d : Dev) (h : Nat) : Dev :=
  let lo := h * hbmSize
  let hi := (h + 1) * hbmSize
  { d with mem := d.mem.filter fun e => decide (e.1 < lo) || decide (hi ≤ e.1),
           poison := d.poison.filter fun e => decide (8 * e.1 < lo) || decide (hi ≤ 8 * e.1) }

/-- A sequence that ends well: zeroed, its spares shown, in service. -/
def Dev.hbmUp (d : Dev) (h dq ca : Nat) : Dev :=
  ((((d.hbmZero h).setF HBM_DQ_SPARES dq h).setF HBM_CA_SPARES ca h).setF HBM_FAULT 0 h).setHbmOk h true

/-- A failure at a step (R302): channel 0xFF and no lanes for a failure tied to no channel. -/
def Dev.hbmFail (d : Dev) (h step chan lanes : Nat) : Dev :=
  (d.setHbmOk h false).logF 0x5003 h [dC step, dU 1 chan, dN (if chan = 0xFF then 0 else lanes)]

/-- UART 06 once the last of the 16 controllers has ended its training (R582). -/
def Dev.hbmAllTrained (d : Dev) : Dev := if (upTo 16).all (fun h => (d.hbmOf h).trained) then d.uart 0x06 else d

/-- HBM_TRAIN_DONE: once after POR or SYS. -/
def Dev.hbmTrain (d : Dev) (h : Nat) (fail : Option (Nat × Nat × Nat)) (dq ca : Nat) : Dev :=
  let x := d.hbmOf h
  if !d.live || x.trained then d
  else
    let d := d.setHbm h { x with trained := true }
    match fail with
    | none => (d.hbmUp h dq ca).hbmAllTrained
    | some (s, c, n) => (d.hbmFail h s c n).hbmAllTrained

/-- A controller answers a request: status and data, as a flit where the request came as one. -/
def Dev.hbmAnswer (d : Dev) (h rid tag st : Nat) (bs : List Byte) : Dev :=
  if tag < 2048 then d.emit (.resp rid tag st bs) else d.emit (.link "HBM.answer" h [rid, st] bs)

/-- Every queued request answers POISON and is dropped; how many there were. -/
def Dev.hbmDrop (d : Dev) (h : Nat) : Nat × Dev :=
  let x := d.hbmOf h
  let rs := (x.rdq ++ x.wrq ++ x.flying)
  (rs.length, rs.foldl (fun d r => d.hbmAnswer h r.rid r.tag 6 [])
    (d.setHbm h { x with rdq := [], wrq := [], flying := [], rows := [], used := [], retry := [], replays := [] }))

/-! ## Requests (R304, R305, R313) -/

/-- Do two ranges overlap within one 32 B unit? -/
def overlap32 (a n b m : Nat) : Bool := decide (a / 32 ≤ (b + m - 1) / 32) && decide (b / 32 ≤ (a + n - 1) / 32)

/-- Bytes of controller memory as a device address: a request stays within one 256 B line. -/
def Dev.hbmRead (d : Dev) (h L n : Nat) : List Byte := d.rawRead (d.addrOfHbm h L) n

/-- Bursts of a range whose POISON is set. -/
def Dev.hbmBadBursts (d : Dev) (h L n : Nat) : Nat :=
  (upTo ((L + n - 1) / 32 - L / 32 + 1)).countP fun i => d.rawBad (d.addrOfHbm h (32 * (L / 32 + i))) 32

/-- HBM_REQUEST: a write is stored and complete, the poison of its bursts with it; a read that queued writes cover wholly is answered, and
another keeps what it must return, the bytes of its place in the acceptance order (R305); a full queue takes nothing. -/
def Dev.hbmReq (d : Dev) (h L n : Nat) (wr : Option WrBytes) (poison : Bool) (cls dline rid : Nat) (tag : Nat := 2048) : Dev :=
  let x := d.hbmOf h
  if n = 0 ∨ hbmSize < L + n ∨ L / 256 ≠ (L + n - 1) / 256 ∨ !d.live then d
  else if !d.hbmOk h then (d.logDieDown h).hbmAnswer h rid tag 10 []
  else
    let q : HReq := { write := wr.isSome, L := L, len := n, cls := cls, dline := dline, rid := rid, at_ := d.clk.tick, nclk := d.nclk,
                      seq := x.seqNext, full := wr.elim true fun w => w.all (·.isSome), tag := tag }
    match wr with
    | some w =>
      if 64 ≤ x.wrq.length then d
      else
        let a := d.addrOfHbm h L
        let d := (d.setHbm h { x with wrq := x.wrq ++ [q], seqNext := x.seqNext + 1 }).rawWrite a w
        let d := if poison then d.markBad (a / 32 * 32) (32 * ((a + n + 31) / 32 - a / 32)) true else d
        d.hbmAnswer h rid tag 0 []
    | none =>
      let covered := (upTo n).all fun i => x.wrq.any fun w => w.full && decide (w.L ≤ L + i) && decide (L + i < w.L + w.len)
      let bad := d.hbmBadBursts h L n
      if covered then d.hbmAnswer h rid tag (if bad = 0 then 0 else 6) (d.hbmRead h L n)
      else if 128 ≤ x.rdq.length then d
      else d.setHbm h { x with rdq := x.rdq ++ [{ q with data := d.hbmRead h L n, bad := bad }], seqNext := x.seqNext + 1 }

/-! ## Scheduling (R305 to R308, R445) -/

/-- HBM_ARB_CFG as one value. -/
def Dev.hbmArb (d : Dev) (h : Nat) : Nat :=
  d.arbValue [HBM_ARB_MODE, HBM_FLOOR_RD, HBM_FLOOR_WR, HBM_FLOOR_RM, HBM_SPLIT_RD, HBM_SPLIT_WR, HBM_SPLIT_RM, HBM_STRICT] h

/-- May an entry go now: its timing is met, it is of this pseudo-channel, and no earlier one overlaps it? -/
def Hbm.may (x : Hbm) (pc ready : Nat) (e : Nat × HReq) : Bool :=
  bitAt ready e.1 && hbmPc e.2.L == pc && !(x.rdq ++ x.wrq).any fun y => decide (y.seq < e.2.seq) && overlap32 y.L y.len e.2.L e.2.len

/-- Entries with their index in HBM_SCHEDULE's mask: reads from 0, writes from 128. -/
def Hbm.entries (x : Hbm) : List (Nat × HReq) :=
  (upTo x.rdq.length).zip x.rdq ++ ((upTo x.wrq.length).map (128 + ·)).zip x.wrq

/-- The order of rules 4 to 6 as numbers compared one after the other. -/
def Dev.hbmRank (d : Dev) (h : Nat) (q : HReq) : List Nat :=
  let x := d.hbmOf h
  let hit := Sparse.get 0 x.rows (48 * hbmPc q.L + hbmBank q.L) == hbmRow q.L + 1
  let miss := if hit then 0 else 1
  let tie := (q.rid + d.now) % 2048
  if bits x.win.arb 0 2 = 1 then [q.nclk, miss, tie, q.seq] else [d.slack q.dline, miss, q.nclk, tie, q.seq]

/-- Lexicographic order. -/
def lexLt : List Nat → List Nat → Bool
  | a :: r, b :: s => if a = b then lexLt r s else decide (a < b)
  | _, _ => false

/-- The best of a list. -/
def pickBy (rank : HReq → List Nat) : List HReq → Option HReq
  | [] => none
  | q :: r => match pickBy rank r with
    | none => some q
    | some b => if lexLt (rank b) (rank q) then some b else some q

/-- AGE_MAX in ns (R319). -/
def Dev.ageMax (d : Dev) (h : Nat) : Nat := max 100 (d.fld HBM_AGE_MAX h)

/-- A page policy of CLOSED (R308). -/
def Dev.hbmClosed (d : Dev) (h : Nat) : Bool := d.fld HBM_PAGE h == 0 || d.fld HBM_PAGE_TO h == 0

/-- After a command for `q` its row stays open, or it closes (R308). -/
def Dev.hbmRowAfter (d : Dev) (h : Nat) (q : HReq) : Dev :=
  let x := d.hbmOf h
  let same := (x.rdq ++ x.wrq).any fun y =>
    hbmPc y.L == hbmPc q.L && hbmBank y.L == hbmBank q.L && hbmRow y.L == hbmRow q.L
  let k := 48 * hbmPc q.L + hbmBank q.L
  d.setHbm h { x with rows := Sparse.set 0 x.rows k (if !d.hbmClosed h || same then hbmRow q.L + 1 else 0),
                      used := Sparse.set 0 x.used k d.clk.tick }

/-- The command goes out: stack channel and its pseudo-channel, bank, row, line, direction, local address. -/
def Dev.hbmCommand (d : Dev) (h : Nat) (q : HReq) : Dev :=
  d.emit (.link "HBM.cmd" h (hbmPlace h q.L ++ [if q.write then 1 else 0, q.L]) [])

/-- Is a retry-buffer entry of channel `c` of the controller? -/
def onChan (c : Nat) (e : Nat × HReq) : Bool := hbmPc e.2.L / 2 == c

/-- The retry buffers after a command of `q` at tick `t`: what issued more than 20 ns ago has gone, and a channel's buffer holds 64 (R316). -/
def retryPut (l : List (Nat × HReq)) (t : Nat) (q : HReq) : List (Nat × HReq) :=
  let c := hbmPc q.L / 2
  let l := l.filter fun e => decide (t ≤ e.1 + 16)
  let mine := l.filter (onChan c)
  (if 64 ≤ mine.length then (match mine with | e :: _ => l.erase e | [] => l) else l) ++ [(t, q)]

/-- The chosen request's command issues: its grant counts, its row opens or closes. -/
def Dev.hbmIssue (d : Dev) (h : Nat) (q : HReq) : Dev :=
  let x := d.hbmOf h
  let x := { x with win := x.win.granted (some q.cls) }
  let x := { x with rdq := x.rdq.filter (·.seq != q.seq), wrq := x.wrq.filter (·.seq != q.seq),
                    flying := if q.write then x.flying else x.flying ++ [q], retry := retryPut x.retry d.clk.tick q,
                    replays := Sparse.set 0 x.replays (hbmPc q.L / 2) 0 }
  ((d.setHbm h x).hbmRowAfter h q).hbmCommand h q

/-- HBM_SCHEDULE: rules 2 to 6 (R305). A window of 64 begins with the settings written by then. -/
def Dev.hbmSched (d : Dev) (h pc ready : Nat) : Dev :=
  if !d.hbmOk h then d else
  let x := d.hbmOf h
  let x := if x.win.n = 0 then { x with win := { x.win with arb := d.hbmArb h } } else x
  let d := d.setHbm h x
  let c := (x.entries.filter (x.may pc ready)).map (·.2)
  if c = [] then d
  else
    let old := c.filter fun q => decide (4 * d.ageMax h < 5 * (d.clk.tick - q.at_))
    match pickBy (fun q => [q.nclk, q.seq]) old with
    | some q => d.hbmIssue h q
    | none =>
      match x.win.classes fun k => c.any fun q => q.cls == k with
      | none => d.setHbm h { x with win := x.win.granted none }
      | some ks =>
        match pickBy (d.hbmRank h) (c.filter fun q => ks.contains q.cls) with
        | some q => d.hbmIssue h q
        | none => d

/-- PAGE_TIMEOUT (R308): the row of a bank that has been idle for PAGE_TO ns closes. -/
def Dev.hbmPageOut (d : Dev) (h pc bank : Nat) : Dev :=
  let idle := d.clk.tick - Sparse.get 0 (d.hbmOf h).used (48 * pc + bank)
  if !d.hbmOk h || d.hbmClosed h || decide (5 * idle < 4 * d.fld HBM_PAGE_TO h) then d
  else d.setHbm h { d.hbmOf h with rows := Sparse.set 0 (d.hbmOf h).rows (48 * pc + bank) 0 }

/-! ## Reads and their checks (R314, R315) -/

/-- An uncorrectable finding: counted, HBM_UE. -/
def Dev.hbmUe (d : Dev) (h L kind : Nat) (patrol : Bool) : Dev :=
  (d.inc HBM_UE 1 h).logUE 0x5001 h [dA L, dU 1 (hbmPc L), dC kind, dC (if patrol then 1 else 0)]

/-- What a read at `L` that meets `bad` poisoned bursts finds: whether the answer carries POISON. A corrected burst is written back at the
bank's next idle opportunity. -/
def Dev.hbmJudge (d : Dev) (h L bad : Nat) (f : HbmFinding) (patrol : Bool) : Bool × Dev :=
  let d := d.inc HBM_POISON_RD bad h
  match f with
  | .clean => (bad != 0, d)
  | .stackCorrected => (bad != 0, d.inc HBM_STACK_CE 1 h)
  | .single => (bad != 0, (d.inc HBM_CE 1 h).emit (.link "HBM.fix" h (hbmPlace h L) []))
  | .double => (true, d.hbmUe h L 1 patrol)
  | .hash => (true, d.hbmUe h L 2 patrol)
  | .stack => (true, d.hbmUe h L 3 patrol)

/-- HBM_READ_RETURN: the oldest read issued answers. -/
def Dev.hbmReturn (d : Dev) (h : Nat) (f : HbmFinding) : Dev :=
  if !d.hbmOk h then d else
  match (d.hbmOf h).flying with
  | [] => d
  | q :: r =>
    let d := d.setHbm h { d.hbmOf h with flying := r }
    let (p, d) := d.hbmJudge h q.L q.bad f false
    d.hbmAnswer h q.rid q.tag (if p then 6 else 0) q.data

/-- HBM_PATROL (R315). -/
def Dev.hbmPatrolLine (d : Dev) (h : Nat) (f : HbmFinding) : Dev :=
  if !d.hbmOk h || d.fld HBM_SCRUB_PERIOD h == 0 then d else
  let x := d.hbmOf h
  let (_, d) := d.hbmJudge h (256 * x.patrol) (d.hbmBadBursts h (256 * x.patrol) 256) f true
  let n := x.patrol + 1
  if 256 * n = hbmSize then (d.setHbm h { d.hbmOf h with patrol := 0 }).inc HBM_PASSES 1 h else d.setHbm h { d.hbmOf h with patrol := n }

/-! ## Refresh and temperature (R309 to R312) -/

/-- The rate software sets (R310). -/
def Dev.hbmSoftRate (d : Dev) (h : Nat) : Nat := max (min 2 (d.fld HBM_MIN_RATE h)) (d.fld LOOP_HBM_REF2X)
/-- The effective rate, as HBM_REF_CFG.RATE codes it. -/
def Dev.hbmRate (d : Dev) (h : Nat) : Nat := max (max (d.hbmOf h).tempRate (d.hbmSoftRate h)) (if d.running then 1 else 0)

/-- The temperature rule with its hysteresis of 3 °C. -/
def tempRule (old : Nat) (t : Int) : Nat :=
  if 95 ≤ t then 2
  else if 92 < t ∧ old = 2 then 2
  else if 85 ≤ t then 1
  else if 82 < t ∧ 1 ≤ old then 1 else 0

/-- HBM_REFRESH: postponed up to 4 intervals outside a run while requests of the current deadline bucket wait, else issued. -/
def Dev.hbmRefr (d : Dev) (h pc : Nat) (postpone : Bool) : Dev :=
  if !d.hbmOk h then d else
  let x := d.hbmOf h
  let n := Sparse.get 0 x.post pc
  let wait := (x.rdq ++ x.wrq).any fun q => hbmPc q.L == pc && d.slack q.dline == 0
  if postpone && !d.running && decide (n < 4) && wait then d.setHbm h { x with post := Sparse.set 0 x.post pc (n + 1) }
  else (d.setHbm h { x with post := Sparse.set 0 x.post pc 0 }).emit (.link "HBM.refresh" h [pc, n + 1] [])

/-- The highest of a function over the controllers of stack `q`. -/
def stackTop (q : Nat) (f : Nat → Nat) : Nat := (upTo 4).foldl (fun m i => max m (f (4 * q + i))) 0
/-- A stack's effective rate and the rate software sets for it: the highest of its controllers' (R71; log entry 173). -/
def Dev.stackRate (d : Dev) (q : Nat) : Nat := stackTop q d.hbmRate
/-- As `stackRate`. -/
def Dev.stackSoft (d : Dev) (q : Nat) : Nat := stackTop q d.hbmSoftRate

/-- Software has written a refresh setting of a stack: one that leaves its rate below the effective one is a move (R71, R84). -/
def Dev.refreshWritten (d : Dev) (q : Nat) : Dev := if d.stackSoft q < d.stackRate q then d.safeside 3 (d.stackRate q) else d

/-- HBM_TEMP_READ (R309 to R312, R534), in service and, from the fourth step on, in training (R300). -/
def Dev.hbmTempSeen (d : Dev) (h : Nat) (t : Int) : Dev :=
  if !(d.hbmOk h || (d.live && (!(d.hbmOf h).trained || (d.hbmOf h).retrain))) then d else
  let x := d.hbmOf h
  let first := !d.flag HBM_TEMP_VALID h
  let top := if first then t else max t (toSigned 8 (d.fld HBM_TEMP_MAX h))
  let d := ((d.setF HBM_TEMP (ofSigned 8 t) h).setF HBM_TEMP_MAX (ofSigned 8 top) h).setF HBM_TEMP_VALID 1 h
  let old := d.stackRate (h / 4)
  let d := d.setHbm h { x with tempRate := tempRule x.tempRate t }
  let top := d.stackRate (h / 4)
  let d := if top ≠ old ∧ d.stackSoft (h / 4) < top then d.safeside 3 top else d
  let new := d.hbmRate h
  let d := if new = 2 ∧ (d.hbmOf h).tempRate = 2 ∧ x.tempRate ≠ 2 then d.repAbort 4 0x0006 0 else d
  let q := h / 4
  let stack := d.hbmOf (4 * q)
  if 105 ≤ t ∧ stack.hot = false then
    let low := ((upTo 4).find? fun i => d.fbit DIE_HBM_CTL_OK (4 * q + i)).getD 0
    (d.setHbm (4 * q) { stack with hot := true }).logEv 0x5004 .S (4 * q + low) [dU 1 q, dI t]
  else if t ≤ 102 ∧ stack.hot = true then d.setHbm (4 * q) { stack with hot := false }
  else d

/-! ## Parity, faults and retraining (R316 to R318) -/

/-- CA_PARITY_ALERT: the banks of the channel are precharged and its retry buffer reissued, oldest first; a command that fails on three
replays in a row faults the controller. -/
def Dev.hbmAlert (d : Dev) (h chan command : Nat) (again : Bool) : Dev :=
  if !d.hbmOk h then d else
  let x := d.hbmOf h
  let n := Sparse.get 0 x.replays chan
  if again && decide (3 ≤ n) then
    let (n, d) := d.hbmDrop h
    ((d.setHbmOk h false).setF HBM_FAULT 1 h).logF 0x5002 h [dU 1 (4 * (h % 4) + chan), dC command, dN n]
  else
    let now := d.clk.tick
    let due := x.retry.filter fun e => onChan chan e && decide (now ≤ e.1 + 16)
    let x := { x with replays := Sparse.set 0 x.replays chan (if again then n + 1 else 1),
                      rows := x.rows.filter fun e => e.1 / 96 != chan,
                      retry := x.retry.map fun e => if due.contains e then (now, e.2) else e }
    let d := due.foldl (fun d e => (d.hbmRowAfter h e.2).hbmCommand h e.2) (d.setHbm h x)
    (d.inc HBM_REPLAY 1 h).repAbort 6 0x5002 h

/-- Does a line of HBM reach controller `h`? -/
def Dev.lineOnHbm (d : Dev) (k h : Nat) : Bool := decide (256 * k < hbmEnd) && (d.hbmOfAddr (256 * k)).1 == h

/-- HBM_CTL.RETRAIN (R318): everything dirty is written back, but for controller `h` dropped and counted; every cache-mode slice is
invalid; the controller is out of service until HBM_RETRAIN. -/
def Dev.hbmRetrainOn (d : Dev) (h : Nat) : Dev :=
  let own := ((d.cel.lines.map (·.1)) ++ (d.cel.dir.map (·.1))).filter fun k => d.lineOnHbm k h
  let d := own.foldl (fun d k => let (n, d) := d.discardLine k (sliceUnit (homeOf k) 5); d.inc CEL_DISC n (homeOf k)) d
  let d := d.flushEverything
  let (_, d) := d.hbmDrop h
  (d.setHbm h { d.hbmOf h with retrain := true }).setHbmOk h false

/-- HBM_RETRAIN: the retrain ends (R318). -/
def Dev.hbmRetrainEnd (d : Dev) (h : Nat) (fail : Option (Nat × Nat × Nat)) (dq ca : Nat) : Dev :=
  let x := d.hbmOf h
  if !d.live || !x.retrain then d
  else
    let d := d.setHbm h { x with retrain := false }
    match fail with
    | none => (d.hbmUp h dq ca).logEv 0x5005 .I h [dC 0, dN (dq + ca * 2 ^ 16)]
    | some (s, c, n) => ((d.hbmFail h s c n).logEv 0x5005 .I h [dC s, dN (d.fld HBM_DQ_SPARES h + d.fld HBM_CA_SPARES h * 2 ^ 16)])

end Sys2Proof.Machine
end

