-- ==== Sys2Proof/Machine/LoadDone.lean ====
section
/-! DEFINITION. The ends of the stages of a configuration load, the stream, the keys and the scrubber (chapter 03). -/

namespace Sys2Proof.Machine
open Sys2Proof.Machine.Reg

/-- A_DONE: every stage A section has passed (R101). -/
def Dev.stageADone (d : Dev) : Dev :=
  match d.load.hdr with
  | none => d
  | some h =>
    if !d.loading || d.cfgState != 2 || d.load.next != h.stageA then d
    else
      let d := { d with load := { d.load with
        aDone := true, pubkey := h.pubkey, digestsA := (h.sects.take h.stageA).map Sect.digest,
        wroteData := [], wroteReg := [], wroteTile := [], wroteCsr := [] } }
      let d := { d with safe := { d.safe with setUp := true } }
      let d := ((d.setF CFG_SLOT d.load.slot).setF CFG_STATE 3).uart 0x05
      let d := d.logEv 0x0101 .I 0 [dC 0, dC d.load.slot, dC (d.fld CFG_A_STALE)] d.openPart
      d.portsStart.linksTrain

/-- Queues that received a CMD_LIST section start with that entry list (R396). -/
def Dev.entryLists (d : Dev) : Dev :=
  d.load.entryList.foldl (fun d e =>
    let x := d.engOf (e.1 / 4)
    d.setEng (e.1 / 4) { x with entry := Sparse.set 0 x.entry (e.1 % 4) e.2 }) d

/-- The load enters RUN: fabric, tiles and engines are released (R64, R101, R111, R396, R513, R526, R554). -/
def Dev.enterRun (d : Dev) : Dev :=
  match d.load.hdr with
  | none => d
  | some h =>
    let only := d.load.bOnly
    let d := { d.celSettle with load := { d.load with bDone := true, scrubPos := [], pubkey := if only then h.pubkey else d.load.pubkey } }
    let d := { d with safe := { d.safe with reload := false } }
    let d := ((d.setF CFG_STATE 5).doneRelease.uart 0x08).entryLists
    let d := d.logEv 0x0101 .I 0 [dC 1, dC (d.fld CFG_SLOT), dC (d.fld CFG_A_STALE)] d.openPart
    let d := if d.flag COL_EN then d.joinColony else d
    d.repBDone.regSigTake

/-- STAGE_B_DONE: stage B's last section is applied (R101, R103). -/
def Dev.stageBEnd (d : Dev) : Dev :=
  match d.load.hdr with
  | none => d
  | some h =>
    if !d.loading || d.cfgState != 3 || d.load.next != h.sects.length || d.load.hbmWait.isSome then d
    else if bitAt h.flags 0 then
      let d := { d with load := { d.load with syncAt := d.clk.ts } }
      (d.setF CFG_STATE 4).doneRelease.uart 0x07
    else d.enterRun

/-- SYNC_WAIT holds and nothing stops the load (R69, R101). -/
def Dev.syncWaits (d : Dev) : Bool := d.live && !d.rst.pfail && d.rst.reload.isNone && d.cfgState == 4

/-- B_DONE: CFG_DONE reads high for 1 µs. -/
def Dev.syncDone (d : Dev) : Dev := if d.syncWaits then (d.setF CFG_DONE_PIN 1).enterRun else d

/-- SYNC_TIMEOUT: CFG_DONE has not been high; class F; the device keeps waiting (R106). -/
def Dev.syncLate (d : Dev) : Dev :=
  match d.load.hdr with
  | none => d
  | some h =>
    if !d.syncWaits then d
    else
      let ms := if h.syncTimeout = 0 then 10000 else h.syncTimeout
      ((d.stampTo (d.load.syncAt + 800000 * ms)).setF CFG_DONE_PIN 0).loadFailed 0x0C 0 false

/-- STREAM_TIMEOUT: no data for 1 s (R105, R108, R119). -/
def Dev.streamLate (d : Dev) : Dev :=
  if d.loading && d.load.stream then (d.stampTo (d.load.lastAt + 800000000)).loadFail 0x0B 0 else d

/-- A write of CFG_CTL (R106, R107, R125). -/
def Dev.cfgCtl (d : Dev) (v : Nat) : Dev :=
  let d := d.setF CFG_RELOAD_SRC (bits v 0 1)
  let d := if bitAt v 1 && d.live && !d.rst.pfail && d.rst.reload.isNone then d.loadStart else d
  if bitAt v 2 && d.syncWaits then d.enterRun else d

/-- A write of CFG_LOAD_DATA (R126). -/
def Dev.loadData (d : Dev) (off bytes path v : Nat) : Dev :=
  if bytes ≠ 8 then d.csrAccess off bytes path 1
  else if d.loading && d.load.stream && !d.load.pkts then d.streamAdd (leBytes 8 v)
  else d.csrAccess off bytes path 3

/-- A write of CFG_KEY_CTL (R98, R99, R131). -/
def Dev.keyCtl (d : Dev) (off bytes path v : Nat) : Dev :=
  if bits v 48 16 ≠ 0x7E80 then d.csrAccess off bytes path 2
  else
    let d :=
      if !bitAt v 0 then d
      else if d.cfgState ≠ 6 then d.csrAccess off bytes path 3
      else
        let k := (upTo 4).foldl (fun k n => k + d.fld KEY_IN n * 2 ^ (64 * n)) 0
        ({ d with load := { d.load with keyStore := some (Config.pufWrap (BitVec.ofNat 256 k)) } }.setF KEY_KEK_1_VALID 1).logEv
          0x0103 .I 0 []
    if bitAt v 1 then
      ({ d with load := { d.load with keyStore := none, content := none },
                fab := { d.fab with exch := { d.fab.exch with content := none } } }.setF KEY_KEK_1_VALID 0).logEv 0x0104 .I 0 []
    else d

/-! ## The scrubber (R121 to R123) -/

/-- What the check of a frame finds: what has just happened to it, or else a double-bit upset left from before. -/
def Dev.frameFinds (d : Dev) (base : Nat) (u : FrameUpset) : FrameUpset :=
  match u with
  | .clean =>
    match (upTo 32).find? fun w => NatSet.has d.load.bad (base + w) with
    | some w => .double (Fin.ofNat 32 w)
    | none => .clean
  | _ => u

/-- CFG_SCRUB_LAST (R130). -/
def Dev.scrubLast (d : Dev) (r frame word bit kind : Nat) (ess : Bool) : Dev :=
  let d := ((d.setF SCRUB_LAST_REGION r).setF SCRUB_LAST_FRAME frame).setF SCRUB_LAST_WORD word
  ((d.setF SCRUB_LAST_BIT bit).setF SCRUB_LAST_KIND kind).setF SCRUB_LAST_ESS (if ess then 1 else 0)

/-- The register's value. -/
def Dev.scrubReg (d : Dev) : Nat :=
  d.fld SCRUB_LAST_KIND * 2 ^ 8 + d.fld SCRUB_LAST_ESS * 2 ^ 10 + d.fld SCRUB_LAST_BIT * 2 ^ 11 + d.fld SCRUB_LAST_WORD * 2 ^ 17
    + d.fld SCRUB_LAST_FRAME * 2 ^ 22 + d.fld SCRUB_LAST_REGION * 2 ^ 35

/-- SCRUB_FRAME_CHECK. -/
def Dev.scrubFrame (d : Dev) (r : Nat) (u : FrameUpset) : Dev :=
  if !d.released || !d.flag SCRUB_EN || d.regionBusy r then d
  else
    let frame := Sparse.get 0 d.load.scrubPos r
    let base := r * frameWords + 32 * frame
    let d := { d with load := { d.load with scrubPos := Sparse.set 0 d.load.scrubPos r ((frame + 1) % 6144) } }
    match d.frameFinds base u with
    | .clean => d
    | .single w b =>
      let ess := !NatSet.has d.load.nonEss (base + w.val)
      let d := d.scrubLast r frame w.val b.val 1 ess
      if ess then (d.inc SCRUB_CORR_E).logEv 0x0105 .S 0 [dT d.scrubReg] else d.inc SCRUB_CORR_NE
    | .double w =>
      let ess := !NatSet.has d.load.nonEss (base + w.val)
      let d := { d with load := { d.load with bad := Sparse.set false d.load.bad (base + w.val) true } }
      let d := (d.scrubLast r frame w.val 0 2 ess).inc SCRUB_UNCORR
      if ess then d.logEv 0x0105 .S 0 [dT d.scrubReg] else d.logUE 0x0105 0 [dT d.scrubReg]

end Sys2Proof.Machine
end

