-- ==== Sys2Proof/Machine/Csr.lean ====
section
/-! DEFINITION. A CSR access as a whole: width and alignment (R8), who may make it (R42, R530), what holds it (R63), what a register
reads (R9, R11), and what a write of each register does. -/

namespace Sys2Proof.Machine
open Sys2Proof.Machine.Reg

/-! ## Fields of a register -/

/-- The fields in the register at an offset, each with its instance. -/
def regFields (off : Nat) : List (Fld × Nat × Nat) := allFields.filterMap fun f => (f.inst? off).map fun ij => (f, ij.1, ij.2)

/-- The instance under which a field of a tile block is held: that of the logical tile on it, where the field is the logical tile's (R7). -/
def Dev.inst (d : Dev) (f : Fld) (i : Nat) : Nat := if tileLogical.contains f then d.ltile i else i

/-- What a field contributes to a read of its register (R11). -/
def Dev.readFld (d : Dev) (x : Fld × Nat × Nat) : Nat :=
  if x.1.acc == .wo then 0 else d.fld x.1 (d.inst x.1 x.2.1) x.2.2 * 2 ^ x.1.lo

/-- The stored fields of a register. -/
def Dev.regStored (d : Dev) (off : Nat) : Nat := ((regFields off).map d.readFld).sum

/-- The writable fields of a register, as a write of part of it finds the rest (R8). -/
def Dev.regKept (d : Dev) (off : Nat) : Nat :=
  if 0x1000000 ≤ off ∧ off < 0x1410000 ∧ off % 0x10000 = 0x100 then d.fld TIL_CACHE_Q 0
  else (((regFields off).filter fun x => x.1.acc == .rw || x.1.acc == .lk).map d.readFld).sum

/-! ## Registers whose value is computed -/

/-- GLB and management registers. -/
def Dev.readGlb (d : Dev) (off : Nat) : Option Nat :=
  if 0x100 ≤ off ∧ off < 0x140 then some ((upTo 8).foldl (fun a j => a + d.ptile (off - 0x100 + j) * 2 ^ (8 * j)) 0)
  else if off = 0x210 then some d.clk.ts
  else if off = 0x300000 then some d.embStat
  else if off = 0x300008 then some d.ember.seqNext
  else if 0x200400 ≤ off ∧ off < 0x200400 + 65 * 8 then
    let p := (off - 0x200400) / 8
    some (min (2 ^ 32 - 1) ((d.clk.ageTick - Sparse.get 0 d.safe.age p) / 800))
  else if 0x500000 ≤ off ∧ off < 0x500800 ∧ off % 0x40 = 0x30 then
    some (d.regStored off + min 4 (d.sgdOf ((off - 0x500000) / 0x40)).bells.length * 2 ^ 56)
  else if off = 0x600018 then some (d.regStored off + d.mgt.uart.length)
  else none

/-- The state of a thread group (R389). -/
def Group.stat (y : Group) : Nat :=
  y.st % 8 + bitIf y.inTrap 3 + y.cause % 256 * 2 ^ 4 + y.wdcause % 2 * 2 ^ 12 + y.frame % 8 * 2 ^ 13 + y.live % 16 * 2 ^ 16
    + y.stack.length % 32 * 2 ^ 20 + y.spill % 2 ^ 16 * 2 ^ 32 + y.repark % 256 * 2 ^ 48

/-- A register of a tile's groups, counters and queues: `t` the logical tile, `o` the offset in the block. -/
def Dev.readTile (d : Dev) (p o : Nat) : Option Nat :=
  let off := 0x1000000 + p * 0x10000 + o
  let t := d.ltile p
  let x := d.tileOf t
  if 0x800 ≤ o ∧ o < 0xC00 then
    let y := x.grp ((o - 0x800) / 0x40)
    match o % 0x40 with
    | 0x00 => some y.stat
    | 0x08 => some (y.pc % 2 ^ 32)
    | 0x10 => some y.fault
    | 0x18 => some y.base
    | 0x20 => some y.limit
    | _ => some 0
  else if 0xC00 ≤ o ∧ o < 0xE00 then
    let n := (o - 0xC00) / 8
    some (x.expectOf n % 2 ^ 32 + x.arrivedOf n % 2 ^ 32 * 2 ^ 32)
  else if o = 0xE08 then some (d.regStored off + min 32 x.copyQ.length)
  else if o = 0x188 then some (d.regStored off + min 32 (x.ll.filter fun y => !y.started).length + min 64 x.llReads.length * 2 ^ 8)
  else if o = 0x200 then some (d.regStored off + bitIf x.layer.isSome 8)
  else if o = 0x100 then some (d.fld TIL_CACHE_Q 0)
  else none

/-- Registers of the Annulus, the Cellar and HBM. -/
def Dev.readRing (d : Dev) (off : Nat) : Option Nat :=
  if off = 0x3000000 then some d.nclk
  else if off = 0x3000020 then some d.credVal
  else if 0x3008000 ≤ off ∧ off < 0x3008800 then some (d.lockReg ((off - 0x3008000) / 8))
  else if 0x4000000 ≤ off ∧ off < 0x4100000 ∧ off % 0x10000 = 0x8 then
    let mine := d.cel.lines.filter fun e => homeOf e.1 == (off - 0x4000000) / 0x10000 && e.2.any fun l => l.dirty != 0
    some (mine.length + (mine.map fun e => d.dirtyCount e.1).sum * 2 ^ 32)
  else if 0x5000000 ≤ off ∧ off < 0x5100000 then
    let h := (off - 0x5000000) / 0x10000
    match off % 0x10000 with
    | 0x10 => some (d.fld HBM_MIN_RATE h + d.hbmRate h * 2 ^ 8)
    | 0x48 => some (min 128 (d.hbmOf h).rdq.length + min 64 (d.hbmOf h).wrq.length * 2 ^ 8)
    | _ => none
  else none

/-- A queue controller's or ring gate's registers, and the handover timers' counts (R185, R187, R188, R190, R228). -/
def Dev.readFab (d : Dev) (off : Nat) : Option Nat :=
  if 0x9000000 ≤ off ∧ off < 0x9C00000 then
    let b := (off - 0x9000000) / 0x800
    let q := d.qcOf b
    match off % 0x800 with
    | 0x08 => some (d.regStored off + q.count + bitIf (q.count == 0) 16 + bitIf (decide (q.count ≤ d.fld QC_AE_LEVEL b)) 17
        + bitIf (d.qcAF b) 18 + bitIf (d.qcFull b) 19)
    | 0x20 => some (d.qcCred b)
    | 0x28 => some (q.head + q.trigAt * 2 ^ 16 + q.wraps * 2 ^ 32 + bitIf q.triggered 48 + bitIf q.stopped 49)
    | _ => none
  else if 0x9C00000 ≤ off ∧ off < 0x9E00000 then
    let r := (off - 0x9C00000) / 0x10000
    let o := off % 0x10000
    if o < 0x80 then some (d.hxCount r (o / 8)) else none
  else if 0x9E00000 ≤ off ∧ off < 0x9E20000 ∧ off % 0x1000 = 8 then some (d.rgStat ((off - 0x9E00000) / 0x1000))
  else none

/-- What a 64-bit register reads, but for the Keep bank (R9, R11). -/
def Dev.regValue (d : Dev) (off : Nat) : Nat :=
  let special :=
    if off < 0x1000000 then d.readGlb off
    else if off < 0x1410000 then d.readTile ((off - 0x1000000) / 0x10000) (off % 0x10000)
    else if 0x2000000 ≤ off ∧ off < 0x2100000 ∧ off % 0x10000 = 8 then
      some (d.regStored off + min 64 (d.engOf ((off - 0x2000000) / 0x10000)).live.length * 2 ^ 8)
    else if off < 0x7000000 then d.readRing off
    else if 0x8000000 ≤ off ∧ off < 0x8040000 ∧ off % 0x10000 = 0x18 then
      let k := (off - 0x8000000) / 0x10000
      let pool := d.fld CPL_POOL k
      let n := poolDepth pool
      let s := Sparse.get 0 (d.linkOf k).spent pool
      some (n - s + s * 2 ^ 16 + n * 2 ^ 24)
    else if 0x9000000 ≤ off then d.readFab off
    else none
  special.getD (d.regStored off) % 2 ^ 64

/-! ## Generic writes -/

/-- A write of `v` to the bits of mask `m` of one field (R10, R11). A bit of a W1C field that hardware set in the same cycle stays set
(R12). The one W1S field, SAF_LOCK, no hardware clears but POR and SYS. -/
def Dev.writeFld (d : Dev) (v m : Nat) (x : Fld × Nat × Nat) : Dev :=
  let f := x.1
  let i := d.inst f x.2.1
  let j := x.2.2
  let w := bits v f.lo f.w
  let k := bits m f.lo f.w
  let old := d.fld f i j
  let merged := Nat.lor (Nat.land w k) (Nat.land old (Nat.xor k (2 ^ f.w - 1)))
  let set (d : Dev) : Dev := if f.minv ≤ merged ∧ merged ≤ f.maxv then d.setF f merged i j else d
  if k = 0 then d
  else match f.acc with
    | .rw => set d
    | .wo => set d
    | .lk => if d.load.bDone then d else set d
    | .w1c => d.setF f (Nat.lor (Nat.land old (Nat.xor (Nat.land w k) (2 ^ f.w - 1))) (d.setNow f i j)) i j
    | .w1s => d.setF f (Nat.lor old (Nat.land w k)) i j
    | .ro => d

/-- A write of a register field by field. -/
def Dev.writeReg (d : Dev) (off v m : Nat) : Dev := (regFields off).foldl (fun d x => d.writeFld v m x) d

/-! ## Registers with an effect of their own. `v` is the merged 64-bit value; `m` the mask of the bits written. -/

/-- SAF_LOCK freezes this register (R569). -/
def frozenBySafLock (off : Nat) : Bool :=
  off == 0x200018 || (decide (0x500000 ≤ off) && decide (off < 0x500800) && [0x00, 0x08, 0x10, 0x18, 0x28].contains (off % 0x40))

/-- GLB and CFG registers. -/
def Dev.hookGlb (d : Dev) (off bytes path v : Nat) (m : Nat) : Option Dev :=
  match off with
  | 0x218 =>
    let d := d.writeReg off v m
    some (if bitAt v 31 then d.tsApply else d)
  | 0x240 =>
    let d := d.writeReg off v m
    some (if bitAt m 34 then (upTo 4).foldl Dev.refreshWritten d else d)
  | 0x228 => some (d.rstCtl off bytes path v)
  | 0x300 => some (if bitAt v 0 then d.nanFirstClear else d)
  | 0x400 => some (d.repCtl off bytes path v)
  | 0x500 => some (d.auditCtl off bytes path v)
  | 0x100008 => some (d.cfgCtl v)
  | 0x100010 => some (d.loadData off bytes path v)
  | 0x100200 => some (d.keyCtl off bytes path v)
  | 0x100310 => some (if bitAt v 32 then
      let d := d.writeReg off v m
      d.exchGo (bits v 48 16) (bits v 0 5) else d.writeReg off v m)
  | 0x200010 => some (d.safClear off bytes path v)
  | 0x300010 => some (d.embLoad v)
  | 0x3000A0 => some (d.embUser v)
  | 0x300200 => some (if bits v 48 16 ≠ 0x3E1D then d.csrAccess off bytes path 2 else if bitAt v 0 then d.pinClear else d)
  | 0x600020 => some (d.uartUser v)
  | 0x601110 => some (d.probeCapCtl v)
  | _ =>
    if 0x201000 ≤ off ∧ off < 0x201000 + 96 * 0x20 ∧ off % 0x20 = 0x10 then some (d.wickCtl ((off - 0x201000) / 0x20) off bytes path v)
    else if 0x500000 ≤ off ∧ off < 0x500800 then
      let n := (off - 0x500000) / 0x40
      match off % 0x40 with
      | 0x00 => some (d.sgdCfg n off bytes path v)
      | 0x20 => some (d.sgdBell n off bytes path v)
      | 0x28 => if d.sgdMode n = 2 then some d else none
      | _ => none
    else if 0x601000 ≤ off ∧ off < 0x601080 then some (d.probeSel ((off - 0x601000) / 8) v)
    else none

/-- A spill bound of group `g` (R378): only while the group is IDLE or PARKED, in order, in scratch, and BASE not over a spilled window. -/
def Dev.spillBound (d : Dev) (t g off bytes path v : Nat) (isBase : Bool) : Dev :=
  let y := d.grp t g
  let a := v % 2 ^ 21 / 2048 * 2048
  let b := if isBase then a else y.base
  let l := if isBase then y.limit else a
  if !(y.st == 0 || y.st == 3) || (isBase && y.spill != 0) then d.csrAccess off bytes path 3
  else if l < b ∨ d.tcBase < l then d.csrAccess off bytes path 4
  else d.setGrp t g { y with base := b, limit := l }

/-- TIL_GRP_CTL_g (R380). -/
def Dev.grpCtl (d : Dev) (t g off bytes path v : Nat) : Dev :=
  if bits v 48 16 ≠ 0x6A51 then d.csrAccess off bytes path 2
  else
    let d := if !bitAt v 0 then d else if (d.grp t g).st ≠ 3 then d.csrAccess off bytes path 3 else d.replayGroup t g
    if bitAt v 1 && (d.grp t g).st == 3 then d.groupEnd t g true else d

/-- TIL registers of physical tile `p`. -/
def Dev.hookTile (d : Dev) (p off bytes path v m : Nat) : Option Dev :=
  let o := off % 0x10000
  let t := d.ltile p
  if o = 0x100 then some (d.cacheQ v)
  else if 0x300 ≤ o ∧ o < 0x380 then
    let d := d.writeReg off v m
    some (if bitAt v 27 then d.setF SCALE_RMAX 0 t ((o - 0x300) / 8) else d)
  else if o = 0x400 then some (if bitAt v 0 then d.nanCapClear t else d)
  else if 0x800 ≤ o ∧ o < 0xC00 then
    let g := (o - 0x800) / 0x40
    if t = 64 then some d
    else match o % 0x40 with
      | 0x18 => some (d.spillBound t g off bytes path v true)
      | 0x20 => some (d.spillBound t g off bytes path v false)
      | 0x28 => some (d.grpCtl t g off bytes path v)
      | _ => some d
  else none

/-- CE_FLUSH (R392). -/
def Dev.ceFlush (d : Dev) (e off bytes path v : Nat) : Dev :=
  if d.load.bDone then d
  else if (upTo 16).any fun i => i != e && Nat.land (d.fld CE_FLUSH i) v != 0 then d.csrAccess off bytes path 4
  else d.setF CE_FLUSH v e

/-- A queue of an engine is in use (R396): posted entries wait, or its list runs. -/
def Dev.queueUsed (d : Dev) (e q : Nat) : Bool :=
  let x := d.engOf e
  d.queueHas e q || (x.run.any fun l => l.queue == q) || (x.susp.any fun l => l.queue == q)

/-- A queue's registers (R396, R425). -/
def Dev.queueReg (d : Dev) (e q off bytes path v : Nat) : Option Dev :=
  match off % 0x20 with
  | 0x00 => if d.queueUsed e q then some (d.csrAccess off bytes path 3) else none
  | 0x08 =>
    let n := v % 2 ^ 13
    if d.queueUsed e q then some (d.csrAccess off bytes path 3)
    else some (if n = 0 ∨ (upTo 13).any (fun i => i != 0 && 2 ^ i == n) = true then
      d.setF CE_QSIZE n e q else d)
  | 0x10 => some (if d.fld CE_QSIZE e q ≤ v % 2 ^ 12 then d.csrAccess off bytes path 4 else d.setF CE_QTAIL v e q)
  | _ => none

/-- CE registers of engine `e`. -/
def Dev.hookCe (d : Dev) (e off bytes path v : Nat) : Option Dev :=
  match off % 0x10000 with
  | 0x00 => some (d.ceCtl e v)
  | 0x10 => some (d.ceFlush e off bytes path v)
  | 0x58 => some (d.swapGo e off bytes path v)
  | o => if 0x100 ≤ o ∧ o < 0x180 then d.queueReg e ((o - 0x100) / 0x20) off bytes path v else none

/-- HBM_CTL (R318, R320). -/
def Dev.hbmCtl (d : Dev) (h off bytes path v : Nat) : Dev :=
  if bits v 48 16 ≠ 0x5B7D then d.csrAccess off bytes path 2
  else if !bitAt v 0 then d
  else if d.running || (d.hbmOf h).retrain then d.csrAccess off bytes path 3
  else d.hbmRetrainOn h

/-- Registers of the Annulus, the Cellar and HBM. -/
def Dev.hookRing (d : Dev) (off bytes path v m : Nat) : Option Dev :=
  let i := off / 0x10000 % 0x100
  let o := off % 0x10000
  if off = 0x3000028 then some (if path = 0 then d.spLock v else d.csrAccess off bytes path 5)
  else if 0x4000000 ≤ off ∧ off < 0x4100000 then
    match o with
    | 0x00 => some (d.celMode i v)
    | 0x30 => some (d.walkCtl i off bytes path v)
    | 0x50 => if arbOk v then none else some (d.csrAccess off bytes path 4)
    | _ => none
  else if 0x5000000 ≤ off ∧ off < 0x5100000 then
    match o with
    | 0x08 => if arbOk v then none else some (d.csrAccess off bytes path 4)
    | 0x10 =>
      let d := d.writeReg off v m
      some (if bitAt m 0 then d.refreshWritten (i / 4) else d)
    | 0x30 => some (d.hbmCtl i off bytes path v)
    | _ => none
  else none

/-- Rates and lane counts an Ethernet port can have (R475). -/
def ethLanes (rate : Nat) : List Nat :=
  match rate with
  | 1 => [1]
  | 2 => [1]
  | 3 => [4]
  | 4 => [1]
  | 5 => [4, 2, 1]
  | 6 => [4, 2]
  | 7 => [8, 4]
  | 8 => [8]
  | _ => []

/-- PRT_EPORT_n (R475): a rate or combination the table lacks, and a shared lane, keep the previous value and are reported (log entry
161). -/
def Dev.ethPort (d : Dev) (n p off bytes path v m : Nat) : Dev :=
  let rate := bits v 0 4
  let lo := bits v 4 4
  let k := bits v 8 4
  let other (q : Nat) : Bool :=
    let a := d.fld EPORT_FIRST n q
    q != p && q / 8 == p / 8 && d.fld EPORT_RATE n q != 0 && decide (lo < a + d.fld EPORT_LANES n q) && decide (a < lo + k)
  if rate = 0 then d.writeReg off v m
  else if (ethLanes rate).contains k = false ∨ 8 < lo + k ∨ (upTo 16).any other = true then d.csrAccess off bytes path 4
  else d.writeReg off v m

/-- The gearbox ports a raw binding takes. -/
def rawPorts (v : Nat) : List Nat := if bitAt v 19 then [bits v 24 3, bits v 24 3 + 1] else [bits v 24 3]

/-- A raw binding's line rate fits its region's clock (R478). -/
def Dev.rawFits (d : Dev) (v : Nat) : Bool :=
  let r := bits v 32 5
  let w := if bitAt v 18 then 128 else 64
  decide (bits v 0 17 * d.regionDiv r ≤ w * 9600 * (if bitAt v 19 then 2 else 1))

/-- A raw binding that R478 refuses. The bound is judged against a loaded region; one not yet loaded is judged as stage B ends. -/
def Dev.rawRefused (d : Dev) (n l v : Nat) : Bool :=
  let clash (i : Nat) : Bool :=
    let a := d.regStored (0x7060000 + i / 32 * 0x100000 + i % 32 * 16)
    i != 32 * n + l && bits a 0 17 != 0 && bits a 32 5 == bits v 32 5 && (rawPorts a).any fun k => (rawPorts v).contains k
  bits v 0 17 != 0 && ((bitAt v 19 && bitAt v 24) || (upTo 128).any clash
    || (NatSet.has d.load.loaded (bits v 32 5) && !d.rawFits v))

/-- PRT registers of die `n`. The Boolean tells of a binding refused with TARGET_FAIL. -/
def Dev.hookPort (d : Dev) (n off bytes path v m : Nat) : Option (Bool × Dev) :=
  let o := off % 0x100000
  let done (d : Dev) : Option (Bool × Dev) := some (false, d)
  if o = 0x10300 then
    let d := d.writeReg off v m
    done (if bitAt v 63 then d.cfgReqGo n off bytes path else d)
  else if 0x20100 ≤ o ∧ o < 0x20180 then done (d.ethPort n ((o - 0x20100) / 8) off bytes path v m)
  else if 0x40000 ≤ o ∧ o < 0x40000 + 17 * 32 ∧ o % 32 = 8 then
    done (d.writeReg off v (if bits v 32 16 % 32 = 0 then m else Nat.land m (2 ^ 32 - 1)))
  else if o = 0x50000 then
    done (if bits v 48 16 ≠ 0x3A9F then d.csrAccess off bytes path 2
      else
        let was := d.flag INJ_EN n
        let d := d.writeReg off v m
        if was == d.flag INJ_EN n then d else d.injEnable n (d.flag INJ_EN n))
  else if 0x50100 ≤ o ∧ o < 0x50300 then
    let t := bits v 16 8
    let bad := o % 32 == 0 && !(decide (t < 4) || (decide (16 ≤ t) && decide (t < 64)))
    let d := d.writeReg off v (if bad then setBits m 16 8 0 else m)
    done (if d.flag INJ_EN n then d.injArm n ((o - 0x50100) / 32) else d)
  else if 0x60000 ≤ o ∧ o < 0x60200 ∧ o % 16 = 0 then
    if d.rawRefused n ((o - 0x60000) / 16) v then some (true, if path = 4 then d else d.csrAccess off bytes path 4) else none
  else none

/-- CPL registers (R513, R516, R521). -/
def Dev.hookCpl (d : Dev) (off bytes path v : Nat) : Option Dev :=
  if off = 0x8000800 then (if d.member d.selfId then some (d.csrAccess off bytes path 3) else none)
  else if off = 0x8000808 then
    some (if bits v 48 16 ≠ 0x1D7A then d.csrAccess off bytes path 2
      else
        let d := if bitAt v 0 && d.cfgState == 5 && d.flag COL_EN && !d.member d.selfId then d.joinColony else d
        if bitAt v 1 then d.leaveColony else d)
  else none

/-- QC_LOG (R188). -/
def Dev.hookFab (d : Dev) (off v : Nat) : Option Dev :=
  if 0x9000000 ≤ off ∧ off < 0x9C00000 ∧ off % 0x800 = 0x28 then
    some (if bitAt v 63 then d.logRearm ((off - 0x9000000) / 0x800) else d)
  else none

/-- A write of a 64-bit register's bits `m`: a binding refused with TARGET_FAIL, and the state after. -/
def Dev.regWrite (d : Dev) (off bytes path v m : Nat) : Bool × Dev :=
  let hv := Nat.lor (Nat.land v m) (Nat.land (d.regKept off) (Nat.xor m (2 ^ 64 - 1)))
  let hook : Option (Bool × Dev) :=
    if off < 0x1000000 then (d.hookGlb off bytes path hv m).map (false, ·)
    else if off < 0x1410000 then (d.hookTile ((off - 0x1000000) / 0x10000) off bytes path hv m).map (false, ·)
    else if 0x2000000 ≤ off ∧ off < 0x2100000 then (d.hookCe ((off - 0x2000000) / 0x10000) off bytes path hv).map (false, ·)
    else if 0x3000000 ≤ off ∧ off < 0x7000000 then (d.hookRing off bytes path hv m).map (false, ·)
    else if 0x7000000 ≤ off ∧ off < 0x7400000 then d.hookPort ((off - 0x7000000) / 0x100000) off bytes path hv m
    else if 0x8000000 ≤ off ∧ off < 0x9000000 then (d.hookCpl off bytes path hv).map (false, ·)
    else if 0x9000000 ≤ off then (d.hookFab off hv).map (false, ·)
    else none
  hook.getD (false, d.writeReg off v m)

/-! ## Accesses -/

/-- How an access ends: done; refused (R530, R580); held (R63); never answered; ignored by SAF_LOCK (R569); a binding refused with
TARGET_FAIL (R478); a Keep write that completes later (R133), or is refused with an error completion (R139). -/
inductive CsrEnd where
  | done | refused | held | lost | locked | target | waits | error
  deriving DecidableEq, Repr

/-- What a replay run lets the service port, SMBus and JTAG do (R530). -/
def runAllows (off : Nat) (write : Bool) : Bool :=
  if write then off / 8 * 8 == 0x400
  else decide (off < 0x400000) || (decide (0x500000 ≤ off) && decide (off < 0x1000000))

/-- The block of an offset is under reset (R63). -/
def Dev.blockHeld (d : Dev) (off : Nat) : Bool :=
  let tile := decide (0x1000000 ≤ off) && decide (off < 0x1410000)
  let ce := decide (0x2000000 ≤ off) && decide (off < 0x2100000)
  (d.rst.reload.isSome && (tile || ce || (decide (0x4000000 ≤ off) && decide (off < 0x4100000)) || decide (0x9000000 ≤ off)))
    || (tile && d.tileResetting (d.ltile ((off - 0x1000000) / 0x10000)))
    || (ce && (Sparse.get none d.rst.eng ((off - 0x2000000) / 0x10000)).isSome)
    || (decide (0x7000000 ≤ off) && decide (off < 0x7400000) && (Sparse.get none d.rst.port ((off - 0x7000000) / 0x100000)).isSome)

/-- A path can carry an access now. -/
def Dev.pathOpen (d : Dev) (p : Path) : Bool :=
  match p with
  | .servicePort => d.mlive && d.svc.up
  | .smbus => d.mlive
  | .jtag => d.mlive
  | .fabric r => d.regionRuns r.val && d.flag RG_CSR_EN r.val
  | .csrSet => d.live

/-- A service port, SMBus or JTAG access. -/
def outsidePath (p : Path) : Bool := p == .servicePort || p == .smbus || p == .jtag

/-- A read of an offset of the Keep bank, if it is one (R136, R138, R153). -/
def Dev.keepReg (d : Dev) (off : Nat) : Option (Nat × Dev) :=
  if 0x400000 ≤ off ∧ off < 0x410000 then some (d.keepGet ((off - 0x400000) / 8)) else none

/-- The part of a 64-bit register an access covers. -/
def partOf (off bytes : Nat) : RdPart := if bytes = 8 then .whole else if off % 8 = 0 then .low else .high

/-- A read of 32 or 64 bits. -/
def Dev.csrGet (d : Dev) (p : Path) (off bytes : Nat) : Nat × Dev :=
  let base := off / 8 * 8
  let cut (v : Nat) : Nat := match partOf off bytes with
    | .whole => v
    | .low => v % 2 ^ 32
    | .high => v / 2 ^ 32
  match base with
  | 0x210 => d.shadowRead 0 p (partOf off bytes) (d.regValue base)
  | 0x3000000 => d.shadowRead 1 p (partOf off bytes) (d.regValue base)
  | 0x420 => d.shadowRead 2 p (partOf off bytes) (d.regValue base)
  | _ =>
    match d.keepReg base with
    | some (v, d) => (cut v, d)
    | none => (cut (d.regValue base), d)

/-- How a Keep write's access ends; a load's record waits for it (R11, R133, R139). -/
def Dev.keepPut (d : Dev) (p : Path) (n v : Nat) (who : Option (Nat × Nat)) : CsrEnd × Dev :=
  match d.keepAccept p n v who with
  | (.done, d) => (.done, d)
  | (.refused, d) => (.error, d)
  | (.waits, d) => if p = .csrSet then (.done, d.keepDrain (d.keep.queue.length + 1)) else (.waits, d)

/-- A write of 32 or 64 bits. A Keep word takes 64-bit writes only (R11). -/
def Dev.csrPut (d : Dev) (p : Path) (off bytes v : Nat) (who : Option (Nat × Nat)) : CsrEnd × Dev :=
  let base := off / 8 * 8
  let sh := if bytes = 8 then 0 else 32 * (off % 8 / 4)
  let m := (2 ^ (8 * bytes) - 1) * 2 ^ sh
  if 0x400000 ≤ base ∧ base < 0x408000 then
    if bytes = 8 then d.keepPut p ((base - 0x400000) / 8) v who else (.done, d)
  else if d.flag SAF_LOCK && frozenBySafLock base then (.locked, d.csrAccess off bytes (pathCode p) 6)
  else
    let (bad, d) := d.regWrite base bytes (pathCode p) (v % 2 ^ (8 * bytes) * 2 ^ sh) m
    (if bad then .target else .done, d)

/-- A path is stalled by its own Keep write; reads of Keep words are never stalled (R133, R134). -/
def Dev.keepStalls (d : Dev) (p : Path) (off : Nat) (write : Bool) : Bool :=
  let mine (w : KeepWr) : Bool := w.path == p && !w.own
  (d.keep.running.any (fun e => mine e.1) || d.keep.queue.any mine)
    && (write || !(decide (0x400000 ≤ off) && decide (off < 0x408000)))

/-- A CSR access through a path (R8, R42, R63, R74, R133, R530): how it ends, the value a read returns, the state after. -/
def Dev.csrGo (d : Dev) (p : Path) (off bytes : Nat) (wr : Option Nat) (who : Option (Nat × Nat) := none) : CsrEnd × Nat × Dev :=
  if !d.pathOpen p then (.lost, 0, d)
  else if d.rst.tripped && (decide (0x1000000 ≤ off) && !(decide (0x7000000 ≤ off) && decide (off < 0x7400000))) then (.lost, 0, d)
  else if p == .jtag && !d.flag MGT_CSR_EN then (.refused, 0, d)
  else if d.running && outsidePath p && !runAllows off wr.isSome then (.refused, 0, d.inc REP_HOST_REFUSED)
  else if !((bytes == 4 || bytes == 8) && off % bytes == 0) then (.done, 0, d.csrAccess off bytes (pathCode p) 1)
  else if d.blockHeld off || d.keepStalls p off wr.isSome then
    let h : HeldCsr := { path := p, off := off, bytes := bytes, write := wr.isSome, value := wr.getD 0, who := who }
    (.held, 0, { d with rst := { d.rst with held := d.rst.held ++ [h] } })
  else match wr with
    | none =>
      let (v, d) := d.csrGet p off bytes
      (.done, v, d)
    | some v =>
      let (e, d) := d.csrPut p off bytes v who
      (e, 0, d)

/-- What the path of a CSR access returns; a Keep write that waits answers when it completes. -/
def Dev.csrReply (d : Dev) (write : Bool) (e : CsrEnd) (v : Nat) : Dev :=
  match e with
  | .refused => d.emit .csrRefused
  | .held => d.emit .csrHeld
  | .lost => d
  | .waits => d
  | .error => d.emit .wrError
  | _ => d.emit (if write then .wrDone else .csrVal v)

/-- The answer to a fabric CSR request. -/
def Dev.fabricReply (d : Dev) (rid tag bytes : Nat) (write : Bool) (e : CsrEnd) (v : Nat) : Dev :=
  match e with
  | .held => d
  | .lost => d
  | .waits => d
  | .error => d.emit (.resp rid tag 9 [])
  | _ => d.emit (.resp rid tag 0 (if write then [] else leBytes bytes v))

/-- A write through a path other than a load's own records. -/
def Dev.csrWrite (d : Dev) (p : Path) (off bytes v : Nat) : Dev :=
  if p = .csrSet then d
  else
    let (e, _, d) := d.csrGo p off bytes (some v)
    d.csrReply true e 0

/-- A read. -/
def Dev.csrRead (d : Dev) (p : Path) (off bytes : Nat) : Dev :=
  if p = .csrSet then d
  else
    let (e, v, d) := d.csrGo p off bytes none
    d.csrReply false e v

end Sys2Proof.Machine
end

