-- ==== Sys2Proof/Machine/GateOps.lean ====
section
/-! DEFINITION. Requests of region logic at a ring gate (R180, R181), and CSR requests on the Annulus (R42, R234). -/

namespace Sys2Proof.Machine
open Sys2Proof.Machine.Reg

/-- The fabric CSR port of region `r`: the access, and its answer to requester `rid`. -/
def Dev.csrFabric (d : Dev) (r : Region) (rid tag off bytes : Nat) (wr : Option Nat) : Dev :=
  let (e, v, d) := d.csrGo (.fabric r) off bytes wr (some (rid, tag))
  d.fabricReply rid tag bytes wr.isSome e v

/-- A CSR request on the Annulus comes from a ring gate, whose SRCU names the region (R235); stop 59 serves no other's (R42, R234). -/
def Dev.csrRequest (d : Dev) (q : Rq) (off bytes : Nat) (wr : Option Nat) : Dev :=
  match stopKind q.stop.val with
  | .gate j =>
    if q.unit.val < 4 then d.csrFabric (Fin.ofNat 32 (4 * j + q.unit.val)) (reqId q) q.tag.toNat off bytes wr
    else d.badOpc mgmtStop (if wr.isSome then 5 else 4) (reqId q) q.tag.toNat
  | _ => d.badOpc mgmtStop (if wr.isSome then 5 else 4) (reqId q) q.tag.toNat

/-- A lock request on the Annulus reaches stop 59. -/
def Dev.lockReq59 (d : Dev) (q : Rq) (lock op : Nat) : Dev :=
  if d.live then d.lockAsk q.stop.val q.unit.val q.tag.toNat lock op else d

/-- Shape of an OREQ transfer (R180). -/
def Dev.oreqShape (a n : Nat) : Bool :=
  64 ≤ n && n ≤ 4096 && n % 64 == 0 && a % 4096 + n ≤ 4096

/-- A remote window takes block transfers alone (R180). -/
def oreqRemote (a n : Nat) : Bool := !inRemoteWindow a || n % 256 == 0

/-- The opcode, address and length that RG_BAD_REQ names. -/
def oreqWhat (q : OReq) : Nat × Nat × Nat :=
  match q with
  | .rd a n => (0x01, a.toNat, n)
  | .wr a w => (0x02, a.toNat, w.length)
  | .csrRd o n => (0x04, o.toNat, n)
  | .csrWr o n _ => (0x05, o.toNat, n)
  | .lockAcq l => (0x08, l.val, 0)
  | .lockRel l => (0x0A, l.val, 0)
  | .other c a n => (c.toNat, a.toNat, n)

/-- The request is counted among the gate's writes. -/
def oreqWrites (q : OReq) : Bool :=
  match q with
  | .wr _ _ => true
  | .csrWr _ _ _ => true
  | _ => false

/-- RG_OREQ: accepted while the gate is open and has room for another of its kind; a shape R180 does not name answers BAD_REQ. -/
def Dev.rgOreq (d : Dev) (r : Region) (tag : Nat) (q : OReq) : Dev :=
  let g := d.gateOf r.val
  let rd := !oreqWrites q
  if !d.regionRuns r.val || d.gateDrains r.val || 64 ≤ g.outCount rd then d
  else
    let slot := g.freeSlot
    let d := d.setGate r.val { g with out := g.out ++ [{ slot := slot, tag := tag, read := rd }] }
    let rid := gateRid r.val
    let bad (d : Dev) : Dev :=
      let x := oreqWhat q
      (d.logEv 0x9006 .D r.val [dU 1 r.val, dC x.1, dA x.2.1, dN x.2.2]).emit (.resp rid slot 9 [])
    let csrOk (n : Nat) : Bool := d.flag RG_CSR_EN r.val && (n == 4 || n == 8)
    match q with
    | .rd a n => if Dev.oreqShape a.toNat n && oreqRemote a.toNat n then d.request (gateRq r.val slot) a.toNat n none false false none else bad d
    | .wr a w =>
      if Dev.oreqShape a.toNat w.length && oreqRemote a.toNat w.length then
        d.request (gateRq r.val slot) a.toNat w.length (some w) false false none
      else bad d
    | .csrRd o n => if csrOk n then d.csrFabric r rid slot o.toNat n none else bad d
    | .csrWr o n v => if csrOk n then d.csrFabric r rid slot o.toNat n (some v.toNat) else bad d
    | .lockAcq l => d.lockAsk (gateStop (r.val / 4)) (r.val % 4) slot l.val 0
    | .lockRel l => d.lockAsk (gateStop (r.val / 4)) (r.val % 4) slot l.val 2
    | .other _ _ _ => bad d

end Sys2Proof.Machine
end

