-- ==== Sys2Proof/Machine/LoadOps.lean ====
section
/-! DEFINITION. The header and the sections of a configuration load, applied and forwarded (chapter 03). -/

namespace Sys2Proof.Machine
open Sys2Proof.Machine.Reg

/-! ## The header (R95, R101, R107) -/

/-- An accepted header opens the load's next state (R101); a load of stage B alone compares stage A by its digests (R107, R108). -/
def Dev.headerTaken (d : Dev) (h : Hdr) : Dev :=
  let d := { d with load := { d.load with hdr := some h, next := 0, content := d.contentKey h } }.uart (0x03 + d.load.slot)
  if d.load.bOnly then
    let stale := (h.sects.take h.stageA).map Sect.digest != d.load.digestsA
    ((d.setF CFG_A_STALE (if stale then 1 else 0)).setF CFG_STATE 3).loadSkip
  else d.setF CFG_STATE 2

/-- What the reading of a header does on the flash: its first 1 KiB as the default reads it, then, with a FLASH_MODE that is legal, the
switch and the rest (R86, R94). -/
def Dev.headerRead (d : Dev) (b : List Byte) : Dev :=
  if d.load.stream then d
  else
    let d := d.flashRead (slotBase d.load.slot) 0x400
    if headerForm b = 1 ∨ flashModeOk b = false then d
    else (d.flashSwitch (flashOf b)).flashRead (slotBase d.load.slot + 0x400) 0x3C00

/-- LOAD_HEADER. A stream load's header is the stream's first bytes; another's stands at its slot's place in flash. -/
def Dev.loadHeader (d : Dev) (slot : Nat) (bytes : List Byte) : Dev :=
  if !d.loading || d.cfgState != 1 then d
  else
    match (if d.load.stream then d.streamTake 0 16384 else if slot = d.load.slot then some (bytes, d) else none) with
    | none => d
    | some (b, d) =>
      let d := d.headerRead b
      let f := headerForm b
      if f ≠ 0 then d.loadFail f 0
      else
        let d := d.setF CFG_OPEN (if d.openPart then 1 else 0)
        let a := d.headerAuth b
        if a ≠ 0 then d.loadFail a 0 else d.headerTaken (hdrOf b)

/-! ## Sections -/

/-- The section that comes next, if it is of this type and its stage is being read. -/
def Dev.sectDue (d : Dev) (typ : Nat) : Option Sect :=
  match d.load.hdr with
  | none => none
  | some h =>
    match h.sects[d.load.next]? with
    | none => none
    | some x =>
      let now := (d.cfgState == 2 && x.stage == 0) || (d.cfgState == 3 && (x.stage == 1 || d.load.bOnly))
      if d.loading && x.typ == typ && now && d.load.hbmWait.isNone then some x else none

/-- The section has been dealt with. -/
def Dev.sectEnd (d : Dev) : Dev := { d with load := { d.load with next := d.load.next + 1 } }.loadSkip

/-- A section's bytes arrive, from flash as a read at its OFFSET (R86, R94): checked (R97), then applied. A section that fails its digest
is applied and forwarded in no part (log entry 151). -/
def Dev.sectRow (d : Dev) (typ : Nat) (stored : List Byte) (use : Sect → List Byte → Dev → Dev) : Dev :=
  match d.sectDue typ with
  | none => d
  | some x =>
    match (if d.load.stream then d.streamTake x.offset x.length else some (stored, d)) with
    | none => d
    | some (b, d) =>
      let d := if d.load.stream then d else d.flashRead x.offset x.length
      let (code, plain) := d.sectPlain d.load.content x b
      if code ≠ 0 then d.loadFail code 0 else use x plain d

/-- Targets that a CSR_SET record may not have, and, in stage A, LK fields and port dies that are down (R43, R91). -/
def Dev.recordBad (d : Dev) (off stage : Nat) : Bool :=
  (decide (0x100200 ≤ off) && decide (off ≤ 0x100220)) || off == 0x228 || off == 0x218
    || (stage == 0 && (regFields off).any fun x => x.1.acc == .lk)
    || (stage == 0 && decide (0x7000000 ≤ off) && decide (off < 0x7400000) && !d.fbit DIE_PD_UP ((off - 0x7000000) / 0x100000))

/-- The records of a CSR_SET section, in order (R89): `none` after a failure. -/
def Dev.csrRecords (d : Dev) (stage : Nat) : List Nat → Dev
  | off :: v :: rest =>
    if 2 ^ 28 ≤ off then Dev.csrRecords d stage rest
    else if d.recordBad off stage then d.loadFail 0x0A 0
    else
      let (e, _, d) := d.csrGo .csrSet off 8 (some v)
      let d := { d with load := { d.load with wroteCsr := off / 8 * 8 :: d.load.wroteCsr } }
      if e = .target then d.loadFail 0x0A 0 else Dev.csrRecords d stage rest
  | _ => d.sectEnd

/-- CSR_SET. -/
def Dev.useCsrSet (x : Sect) (plain : List Byte) (d : Dev) : Dev := d.csrRecords x.stage (words8 plain.length plain)

/-- PORT_FW: the die's bridge must be up (R43). -/
def Dev.usePortFw (x : Sect) (plain : List Byte) (d : Dev) : Dev :=
  if !d.fbit DIE_PD_UP x.index then d.loadFail 0x0A 0
  else { d with load := { d.load with portFw := Sparse.set [] d.load.portFw x.index plain } }.sectEnd

/-- FABRIC: frames, and what they set in the region's hard state (R89, R176, R206, R219). -/
def Dev.useFabric (x : Sect) (plain : List Byte) (d : Dev) : Dev :=
  let d := { d with load := { d.load with wroteReg := x.index :: d.load.wroteReg } }
  (((d.putFrames x.index plain).configRegion x.index).hxFromFrames x.index).sectEnd

/-- EBM. -/
def Dev.useEbm (x : Sect) (plain : List Byte) (d : Dev) : Dev :=
  ({ d with load := { d.load with wroteReg := x.index :: d.load.wroteReg } }.putEbm x.index plain).sectEnd

/-- TILE_PROG (R89, R91). -/
def Dev.useTileProg (x : Sect) (plain : List Byte) (d : Dev) : Dev :=
  let n := plain.length
  let st := if 2 ^ 21 ≤ x.target then 1 else if 2 ^ 21 < x.target + n then 4 else if d.tcBase < x.target + n then 1 else 0
  if st ≠ 0 then d.loadFail 0x0A st
  else
    let ts := if x.index = 0xFFFFFFFF then upTo 64 else [x.index]
    (ts.foldl (fun d t => { d.sramWrite t x.target (allOn plain) with load := { d.load with wroteTile := t :: d.load.wroteTile } }) d).sectEnd

/-- The address-decode status of a DATA or CMD_LIST target (R40, R91, R112). -/
def Dev.dataStatus (d : Dev) (a n : Nat) : Nat :=
  if a < hbmEnd then (if hbmEnd < a + n then 4 else 0) else d.accStatus a n

/-- The bytes of a DATA or CMD_LIST section are written: straight to HBM (R111), else as a device write of the boot ROM. -/
def Dev.dataWrite (d : Dev) (x : Sect) (plain : List Byte) : Dev :=
  let n := plain.length
  let d := { d with load := { d.load with wroteData := (x.target, n) :: d.load.wroteData, hbmWait := none } }
  let d := if x.target < hbmEnd then d.rawWrite x.target (allOn plain) else (d.anyWrite mgmtStop 0 x.target (allOn plain)).2
  let key := x.index % 16 * 4 + x.index / 16 % 4
  let d := if x.typ = 0x0030 then { d with load := { d.load with entryList := Sparse.set 0 d.load.entryList key (1 + x.target) } } else d
  d.sectEnd

/-- DATA and CMD_LIST: a target on HBM waits for its controllers, and fails with one that failed (R92). -/
def Dev.useData (x : Sect) (plain : List Byte) (d : Dev) : Dev :=
  let n := plain.length
  let st := d.dataStatus x.target n
  if st = 10 then (d.logDieDown ((d.dieDown x.target n).getD 0)).loadFail 0x0A 0
  else if st ≠ 0 then d.loadFail 0x0A st
  else if x.target < hbmEnd then
    let hs := d.hbmTouched x.target n
    let ended (h : Nat) : Bool := d.fbit DIE_HBM_CTL_OK h || (d.hbmOf h).trained
    if hs.any fun h => !ended h then { d with load := { d.load with hbmWait := some plain } }
    else match hs.find? fun h => !d.fbit DIE_HBM_CTL_OK h with
      | some h => (d.logDieDown h).loadFail 0x0A 0
      | none => d.dataWrite x plain
  else d.dataWrite x plain

/-- LOAD_HBM_WAIT_END. -/
def Dev.hbmWaitEnd (d : Dev) : Dev :=
  match d.load.hbmWait with
  | none => d
  | some plain =>
    if !d.loading then d
    else
      let d := { d with load := { d.load with hbmWait := none } }
      match d.sectDue 0x0040 with
      | some x => Dev.useData x plain d
      | none =>
        match d.sectDue 0x0030 with
        | some x => Dev.useData x plain d
        | none => d

/-! ## Forwarding (R115 to R119) -/

/-- The preamble and payload of a forwarded packet (R115). -/
def packetBytes (target kind : Nat) (payload : List Byte) : List Byte :=
  leBytes 4 0xA5C35A3C ++ leBytes 2 target ++ leBytes 2 kind ++ leBytes 8 payload.length ++ payload

/-- FOLLOWER_A and FOLLOWER_B: a leader sends the stored bytes as one packet (R114, R115). -/
def Dev.useFollower (kind : Nat) (x : Sect) (plain : List Byte) (d : Dev) : Dev :=
  let d := if d.fld CFG_MODE = 0 then d.emit (.link "CFG_DOUT" 0 [] (packetBytes (x.index % 2 ^ 16) kind plain)) else d
  d.sectEnd

/-- FOLLOWER_PACKET: a daisy follower repeats it; its own and the broadcast continue the stream that a KIND 0 packet began. -/
def Dev.followerPacket (d : Dev) (target kind : Nat) (payload : List Byte) : Dev :=
  if !d.live || !(d.fld CFG_MODE == 1 || d.fld CFG_MODE == 2) then d
  else
    let d := if d.fld CFG_MODE = 1 then d.emit (.link "CFG_DOUT" 0 [] (packetBytes target kind payload)) else d
    let mine := target == d.fld CFG_CHAIN_ID || target == 0xFFFF
    let begun := d.load.used + d.load.buf.length != 0
    if mine && d.loading && d.load.stream && d.load.pkts && (kind == 0 || (kind == 1 && begun)) then d.streamAdd payload else d

/-! ## Bindings judged as stage B ends (R476, R478) -/

/-- Mb/s of an Ethernet RATE (R475). -/
def ethMbps (rate : Nat) : Nat := [0, 10000, 25000, 40000, 50000, 100000, 200000, 400000, 800000].getD rate 0

/-- An Ethernet block of die `n` asks no more of its region than 1,024 bits per FCLK. -/
def Dev.ethFits (d : Dev) (n b : Nat) : Bool :=
  let r := d.fld ETH_REGION n b
  let sum := ((upTo 8).map fun p => ethMbps (d.fld EPORT_RATE n (8 * b + p))).sum
  !NatSet.has d.load.loaded r || decide (sum * d.regionDiv r ≤ 1024 * 9600)

/-- A raw lane of die `n` fits its region's clock. -/
def Dev.rawLaneFits (d : Dev) (n l : Nat) : Bool :=
  let v := d.regStored (0x7060000 + n * 0x100000 + l * 16)
  !NatSet.has d.load.loaded (bits v 32 5) || d.rawFits v

/-- Every Ethernet and raw binding fits. -/
def Dev.bindingsFit (d : Dev) : Bool :=
  (upTo 4).all fun n => d.ethFits n 0 && d.ethFits n 1 && (upTo 32).all fun l => d.rawLaneFits n l

/-- STAGE_B_DONE: an image whose bindings do not fit is refused with TARGET_FAIL. -/
def Dev.stageBDone (d : Dev) : Dev :=
  let d' := d.stageBEnd
  if d.cfgState = 3 ∧ d'.cfgState ≠ 3 ∧ d.bindingsFit = false then d.loadFail 0x0A 0 else d'

end Sys2Proof.Machine
end

