-- ==== Sys2Proof/Machine/LogicOps.lean ====
section
/-! DEFINITION. Region logic: logic elements, their control sets and carry chains, and the crossing wires between regions (R158 to R164,
R217). Which signal a wire carries stands in a region's frames, whose layout the manual does not give: what they set is uninterpreted
(log entry 143). -/

namespace Sys2Proof.Machine
open Sys2Proof.Machine.Reg

/-- A signal of a region: a constant, a register of an element, one of an element's two LUT functions, a crossing wire as its boundary
register gives it, or an output of a hard block. -/
inductive Wire where
  | const (v : Bool)
  | reg (e : Nat) (second : Bool)
  | lut (e : Nat) (second : Bool)
  | cross (edge wire : Nat)
  | hard (port : Nat)
  deriving DecidableEq, Repr, Inhabited

/-- What a register's D input takes (R158). -/
inductive LeD where
  | lut (second : Bool) | sum | input (w : Wire)
  deriving DecidableEq, Repr, Inhabited

/-- A logic element as its frames set it (R158, R159). -/
structure LeCfg where
  /-- the truth table; the six inputs; two functions of five inputs instead of one of six -/
  table : BitVec 64
  ins   : List Wire
  split : Bool
  /-- the D input of each register, the clock enable it selects, and what a reset leaves in it -/
  d0    : LeD
  d1    : LeD
  ce0   : Bool
  ce1   : Bool
  start : Le
  deriving DecidableEq, Repr, Inhabited

/-- The control set of a logic block, and where its carry chain begins: with a constant, or with the chain of the block directly south
(R159). -/
structure BlkCfg where
  ceA   : Wire
  ceB   : Wire
  rst   : Wire
  async : Bool
  chain : Option Bool
  deriving DecidableEq, Repr, Inhabited

end Sys2Proof.Machine

namespace Sys2Proof.Config
open Sys2Proof.Machine

/-- A logic element of a region, from the region's frames (R158). -/
opaque frameLe : List Byte → Nat → LeCfg
/-- A logic block of a region (R159). -/
opaque frameBlk : List Byte → Nat → BlkCfg
/-- The signal that drives outgoing crossing wire `wire` of edge `edge` (R163). -/
opaque frameCross : List Byte → (edge wire : Nat) → Wire
/-- An incoming crossing wire is marked as a synchronizer: its boundary register has two stages (R163). -/
opaque frameSync : List Byte → (edge wire : Nat) → Bool
/-- The carry sum and carry bit of an element, from its inputs and the carry that comes in (R158): not stated. -/
opaque carryOf : LeCfg → (ins : Nat) → (carry : Bool) → Bool × Bool
/-- What an output of a hard block shows region logic in an FCLK cycle: region, output, cycle. -/
opaque hardWire : Nat → Nat → Nat → Bool

end Sys2Proof.Config

namespace Sys2Proof.Machine
open Sys2Proof.Machine.Reg

/-- Logic blocks of a region: 96 columns by 64 rows, numbered along its rows from the north. Each holds 16 elements (R159). -/
def blockCols : Nat := 96
/-- The element whose carry enters element `e` of its block's chain: the one before it, or the last of the block directly south. -/
def carryFrom (e : Nat) : Nat := if e % 16 = 0 then (e / 16 + blockCols) * 16 + 15 else e - 1

/-- The region across edge `k` of region `r`: north 0, east 1, south 2, west 3 (R163). -/
def acrossEdge (r k : Nat) : Option Nat :=
  match k with
  | 0 => if r / 8 < 3 then some (r + 8) else none
  | 1 => if r % 8 < 7 then some (r + 1) else none
  | 2 => if r / 8 = 0 then none else some (r - 8)
  | _ => if r % 8 = 0 then none else some (r - 1)

/-- The key of wire `w` of edge `k` of region `r`. -/
def crossKey (r k w : Nat) : Nat := (4 * r + k) * 1024 + w

/-- The registers of element `e` of region `r`; before its first clock, what its frames start it with. -/
def Dev.leOf (d : Dev) (b : List Byte) (r e : Nat) : Le :=
  match d.fab.le.find? fun x => x.1 == r * 98304 + e with
  | some x => x.2
  | none => (Config.frameLe b e).start

/-- What region logic reads of an incoming crossing wire: its boundary register's last stage (R163). -/
def Dev.crossRead (d : Dev) (b : List Byte) (r k w : Nat) : Bool :=
  let x := Sparse.get (false, false) d.fab.crossIn (crossKey r k w)
  if Config.frameSync b k w then x.2 else x.1

/-- A LUT's function of its inputs (R158): one of six, or two of five that share them. -/
def lutAt (x : LeCfg) (ins : Nat) (second : Bool) : Bool :=
  if x.split then x.table.getLsbD (ins % 32 + if second then 32 else 0) else x.table.getLsbD (ins % 64)

/-- The level of a signal of region `r` between two clock edges. A path through logic is followed to depth `fuel`. -/
def Dev.wireOf (d : Dev) (b : List Byte) (r cycle : Nat) : Nat → Wire → Bool
  | _, .const v => v
  | _, .reg e second => if second then (d.leOf b r e).q1 else (d.leOf b r e).q0
  | _, .cross k w => d.crossRead b r k w
  | _, .hard p => Config.hardWire r p cycle
  | 0, .lut _ _ => false
  | fuel + 1, .lut e second =>
    let x := Config.frameLe b e
    lutAt x (ofBits (x.ins.map fun w => Dev.wireOf d b r cycle fuel w)) second
where
  /-- Bits, the first lowest, as a number. -/
  ofBits : List Bool → Nat
    | [] => 0
    | v :: r => (if v then 1 else 0) + 2 * ofBits r

/-- A path through the logic of a region passes each LUT at most once. -/
def logicDepth : Nat := 98304

/-- The carry out of element `e` (R159), followed down its chain to at most 1,024 elements: 64 blocks. -/
def Dev.carryOut (d : Dev) (b : List Byte) (r cycle : Nat) : Nat → Nat → Bool
  | 0, _ => false
  | fuel + 1, e =>
    let x := Config.frameLe b e
    let ins := Dev.wireOf.ofBits (x.ins.map (d.wireOf b r cycle logicDepth))
    (Config.carryOf x ins (if e % 16 = 0 then (Config.frameBlk b (e / 16)).chain.getD (Dev.carryOut d b r cycle fuel (carryFrom e))
      else Dev.carryOut d b r cycle fuel (carryFrom e))).2

/-- The carry sum of element `e`. -/
def Dev.carrySum (d : Dev) (b : List Byte) (r cycle e : Nat) : Bool :=
  let x := Config.frameLe b e
  let ins := Dev.wireOf.ofBits (x.ins.map (d.wireOf b r cycle logicDepth))
  let come := d.carryOut b r cycle 1024 (carryFrom e)
  (Config.carryOf x ins (if e % 16 = 0 then (Config.frameBlk b (e / 16)).chain.getD come else come)).1

/-- The level of a register's D input (R158). -/
def Dev.leD (d : Dev) (b : List Byte) (r cycle e : Nat) : LeD → Bool
  | .lut second => d.wireOf b r cycle (logicDepth + 1) (.lut e second)
  | .sum => d.carrySum b r cycle e
  | .input w => d.wireOf b r cycle logicDepth w

/-- The registers of element `e` after an FCLK edge: a register whose clock enable is high takes its D input, and the block's reset wins over
both (R158, R159). -/
def Dev.leNext (d : Dev) (b : List Byte) (r cycle e : Nat) : Le :=
  let x := Config.frameLe b e
  let k := Config.frameBlk b (e / 16)
  let q := d.leOf b r e
  let ce (sel : Bool) : Bool := d.wireOf b r cycle logicDepth (if sel then k.ceB else k.ceA)
  if d.wireOf b r cycle logicDepth k.rst then x.start
  else { q0 := if ce x.ce0 then d.leD b r cycle e x.d0 else q.q0, q1 := if ce x.ce1 then d.leD b r cycle e x.d1 else q.q1 }

/-- An asynchronous reset that an edge has raised acts without waiting for the next (R159). -/
def Dev.leAsync (d : Dev) (b : List Byte) (r cycle e : Nat) : Le :=
  let k := Config.frameBlk b (e / 16)
  if k.async && d.wireOf b r cycle logicDepth k.rst then (Config.frameLe b e).start else d.leOf b r e

/-- The registers of every element of region `r`, one by one. -/
def Dev.setLogic (d : Dev) (r : Nat) (f : Nat → Le) : Dev :=
  let kept := d.fab.le.filter fun x => x.1 / 98304 != r
  let mine := (upTo 98304).map fun e => (r * 98304 + e, f e)
  let le := kept.filter (fun x => decide (x.1 < r * 98304)) ++ mine ++ kept.filter fun x => decide (r * 98304 ≤ x.1)
  { d with fab := { d.fab with le := le } }

/-- The boundary registers of region `r` take what its neighbours drive, frozen or not, and its edge detectors see what changed (R163, R217,
R221). `old` is the device before the edge. -/
def Dev.sampleCross (d old : Dev) (r : Nat) : Dev :=
  let b := old.frameBytes r
  (upTo 4).foldl (fun d k =>
    match acrossEdge r k with
    | none => d
    | some n => (upTo 1024).foldl (fun d w =>
        let key := crossKey r k w
        let was := Sparse.get (false, false) old.fab.crossIn key
        let v := Sparse.get false old.fab.crossOut (crossKey n ((k + 2) % 4) w)
        let d := { d with fab := { d.fab with crossIn := Sparse.set (false, false) d.fab.crossIn key (v, was.1) } }
        let seen (x : Bool × Bool) : Bool := if Config.frameSync b k w then x.2 else x.1
        if seen was = seen (v, was.1) then d
        else (upTo 8).foldl (fun d i =>
          if Sparse.get 0 d.fab.hxWatch (32 * r + 8 * k + i) = w then d.hxEdgeSeen r (8 * k + i) (seen (v, was.1)) else d) d) d) d

/-- One FCLK edge of region `r` in ROOT period `x`: boundary registers, then, unless its clock enables are held, its logic and what it drives across its edges
(R162 to R164, R211, R217). -/
def Dev.fabricCycle (d old : Dev) (x r : Nat) : Dev :=
  let b := old.frameBytes r
  let cycle := old.regionEdges r x
  let d := d.sampleCross old r
  if !old.regionRuns r then d
  else
    let d := d.setLogic r fun e => old.leNext b r cycle e
    let after := d
    let d := d.setLogic r fun e => after.leAsync b r cycle e
    let mid := d
    (upTo 4).foldl (fun d k => (upTo 1024).foldl (fun d w =>
      { d with fab := { d.fab with
          crossOut := Sparse.set false d.fab.crossOut (crossKey r k w) (mid.wireOf b r cycle logicDepth (Config.frameCross b k w)) } }) d) d

/-- The regions clocked at ROOT period `x`: configured or frozen, with an edge of their FCLK there. -/
def Dev.clockedAt (d : Dev) (x : Nat) : List Nat :=
  (upTo 32).filter fun r => (NatSet.has d.load.loaded r || d.regionBusy r) && d.regionEdges r (x - 1) != d.regionEdges r x

/-- Region logic catches up with the ROOT periods that have passed, edge by edge; regions with an edge in one period take it together. -/
def Dev.fabricTick (d : Dev) : Dev :=
  if !d.released then { d with fab := { d.fab with clocked := d.clk.root } }
  else
    let lo := if d.clk.root < d.fab.clocked then 0 else d.fab.clocked
    let d := (upTo (d.clk.root - lo)).foldl (fun d i =>
      (d.clockedAt (lo + 1 + i)).foldl (fun acc r => acc.fabricCycle d (lo + 1 + i) r) d) d
    { d with fab := { d.fab with clocked := d.clk.root } }

end Sys2Proof.Machine
end

