-- ==== Sys2Proof/Machine/PathOps.lean ====
section
/-! DEFINITION. The slower paths to the registers: SMBus (R576, R577), the TAP (R578 to R581), and accesses held under R63. -/

namespace Sys2Proof.Machine
open Sys2Proof.Machine.Reg

/-! ## SMBus -/

/-- The target answers at all: VAUX is good (R576). -/
def Dev.smbOn (d : Dev) : Bool := d.safLive

/-- A CSR_WRITE is still held (R576). -/
def Dev.smbBusy (d : Dev) : Bool := d.rst.held.any fun h => h.path == .smbus && h.write

/-- A command with a wrong PEC, or any but STATUS without ROOT lock, is NACKed (R576). -/
def Dev.smbDo (d : Dev) (pecOk status : Bool) (f : Dev → Dev) : Dev :=
  if !d.smbOn then d
  else if !pecOk || !(status || d.mlive) then d.emit .smbNack
  else f d

/-- Bytes that go back to the host. -/
def Dev.smbBytes (d : Dev) (n v : Nat) : Dev := d.emit (.smb (leBytes n v))

/-- CSR_ADDR, 8 bytes on. -/
def Dev.smbNext (d : Dev) : Dev := { d with mgt := { d.mgt with smbAddr := (d.mgt.smbAddr + 8) % 2 ^ 28 } }

/-- CSR_ADDR: bits [2:0] are ignored. -/
def Dev.smbSetAddr (d : Dev) (v : Nat) : Dev := { d with mgt := { d.mgt with smbAddr := v % 2 ^ 28 / 8 * 8 } }.emit .wrDone

/-- CSR_READ. -/
def Dev.smbReadCsr (d : Dev) : Dev :=
  if d.smbBusy then d.emit .smbNack
  else if d.mgt.smbRead then d
  else
    let a := d.mgt.smbAddr
    let (e, v, d) := { d with mgt := { d.mgt with smbTmo := false } }.csrGo .smbus a 8 none
    let d := { d with mgt := { d.mgt with smbRef := e == CsrEnd.refused } }.smbNext
    match e with
    | .held => { d with mgt := { d.mgt with smbRead := true } }
    | .lost => d
    | _ => d.smbBytes 8 v

/-- CSR_WRITE: a refused one is NACKed (R530); a held one is acknowledged (R576). -/
def Dev.smbWriteCsr (d : Dev) (v : Nat) : Dev :=
  if d.smbBusy then d.emit .smbNack
  else
    let a := d.mgt.smbAddr
    let (e, _, d) := d.csrGo .smbus a 8 (some v)
    let d := { d with mgt := { d.mgt with smbRef := e == CsrEnd.refused || e == CsrEnd.locked } }.smbNext
    match e with
    | .refused => d.emit .smbNack
    | .lost => d
    | .waits => d
    | .error => d.emit .smbNack
    | _ => d.emit .wrDone

/-- CSR_STATUS. -/
def Dev.smbStat (d : Dev) : Dev := d.smbBytes 1 (bitIf d.mgt.smbRef 0 + bitIf d.smbBusy 1 + bitIf d.mgt.smbTmo 2)

/-- STATUS. -/
def Dev.smbStatus (d : Dev) : Dev :=
  let st := if d.flag CLK_ROOT_LOCK then d.cfgState else 0
  d.smbBytes 2 (st + bitIf (!d.safe.low) 4 + bitIf (d.flag SAF_S_PENDING) 5 + bitIf (d.flag SAF_ROT_HALT) 6 + bitIf d.running 7)

/-- The highest HBM_TEMP of stack `q` (R577). -/
def Dev.stackTemp (d : Dev) (q : Nat) : Nat :=
  ofSigned 8 ((upTo 4).foldl (fun (m : Int) i => max m (toSigned 8 (d.fld HBM_TEMP (4 * q + i)))) (-128))

/-- HBM_TEMP. -/
def Dev.smbTemps (d : Dev) : Dev := d.smbBytes 4 ((upTo 4).foldl (fun a q => a + d.stackTemp q * 2 ^ (8 * q)) 0)

/-- SMB_STRETCH_TIMEOUT: the CSR_READ held returns zeros (R576). -/
def Dev.smbTimeout (d : Dev) : Dev :=
  if !d.mgt.smbRead then d
  else
    let d := { d with rst := { d.rst with held := d.rst.held.filter fun h => !(h.path == Path.smbus && !h.write) } }
    { d with mgt := { d.mgt with smbRead := false, smbTmo := true } }.smbBytes 8 0

/-! ## The TAP -/

/-- Instructions that hold the core as SYS_RST_N low does (R579). -/
def tapHolds (code : Nat) : Bool := [0x00, 0x03, 0x04, 0x05, 0x06].contains code

/-- The release of that hold: as a SYS_RST_N release; the straps read as before (R579). -/
def Dev.tapRelease (d : Dev) : Dev :=
  let d := { d with rst := { d.rst with jtagHold := false } }
  let mode := d.fld CFG_MODE
  let cid := d.fld CFG_CHAIN_ID
  if d.rst.pfail && !d.rst.pfailDone then { d with rst := { d.rst with sysWait := some (mode, cid, d.rst.smbAddr, true) } }
  else d.sysPin mode cid d.rst.smbAddr true

/-- An instruction is selected (R578, R579). -/
def Dev.tapSelect (d : Dev) (code : Nat) : Dev :=
  if !d.safLive then d
  else
    let was := d.rst.jtagHold
    let d := { d with mgt := { d.mgt with jtagIr := code } }
    if tapHolds code then
      { d with rst := { d.rst with jtagHold := true }, svc := { d.svc with up := false }, safe := { d.safe with setUp := false } }.driveSafeN
    else if was then d.tapRelease
    else d

/-- An access through the TAP has ended, or waits; a Keep write refused after PFAIL_N is taken to show as REFUSED (log entry 157). -/
def Dev.tapDone (d : Dev) (e : CsrEnd) (v : Nat) : Dev :=
  let open_ := e == CsrEnd.held || e == CsrEnd.lost || e == CsrEnd.waits
  { d with mgt := { d.mgt with jtagDone := !open_, jtagRef := e == CsrEnd.refused || e == CsrEnd.error, jtagData := v } }.tapCsr

/-- CSR: an Update-DR starts the access. -/
def Dev.tapAccess (d : Dev) (dr : Nat) : Dev :=
  let d := d.tapSelect 0x10
  if !d.safLive then d
  else
    let wr := if bitAt dr 28 then some (dr / 2 ^ 32 % 2 ^ 64) else none
    let (e, v, d) := d.csrGo .jtag (dr % 2 ^ 28) (if bitAt dr 29 then 4 else 8) wr
    d.tapDone e v

/-- CFG_STREAM: a 64-bit write to CFG_LOAD_DATA (R581); no rule bars it while CSR_EN is 0. -/
def Dev.tapStream (d : Dev) (v : Nat) : Dev :=
  let d := d.tapSelect 0x11
  if !d.mlive then d
  else if d.running then d.inc REP_HOST_REFUSED
  else d.loadData 0x100010 8 2 v

/-! ## Accesses held under R63 -/

/-- A held access whose block has left reset, or whose path's Keep write is done, takes place, and its path has its answer. -/
def Dev.heldRun (d : Dev) (h : HeldCsr) : Dev :=
  let (e, v, d) := d.csrGo h.path h.off h.bytes (if h.write then some h.value else none) h.who
  match h.path with
  | .servicePort => d.csrReply h.write e v
  | .smbus => if h.write then d else { d with mgt := { d.mgt with smbRead := false } }.smbBytes 8 v
  | .jtag => d.tapDone e v
  | .fabric _ =>
    match h.who with
    | some (rid, tag) => d.fabricReply rid tag h.bytes h.write e v
    | none => d.csrReply h.write e v
  | .csrSet => d

/-- Every held access that can go ahead does, oldest first. -/
def Dev.heldRelease (d : Dev) : Dev :=
  let waits (h : HeldCsr) : Bool := d.blockHeld h.off || d.keepStalls h.path h.off h.write
  let due := d.rst.held.filter fun h => !waits h
  let d := { d with rst := { d.rst with held := d.rst.held.filter waits } }
  due.foldl Dev.heldRun d

end Sys2Proof.Machine
end

