-- ==== Sys2Proof/Machine/ClockCmds.lean ====
section
/-! DEFINITION. The commands of chapter 02: clocks, the timestamp, resets and power; and a plain register write. -/

namespace Sys2Proof.Machine

/-- A 64-bit write of a CSR (R8): the shared shape of every command that is such a write. -/
abbrev write64 (p : Path) (off : Nat) (v : Word64) (d : Dev) : Dev := d.csrWrite p off 8 v.toNat

/-- POR (R59, R67). -/
def execPor (s : State) : Host.Outcome State Fault Refusal := runAll s fun d => d.porReset

/-- VAUX_GOOD (R67). -/
def execVauxGood (rails : BitVec 9) (s : State) : Host.Outcome State Fault Refusal := runAll s fun d => d.vauxGood rails.toNat

/-- SYS_RST_N (R58, R612). -/
def execSysRstN (lowNs : Nat) (taken : Bool) (mode : BitVec 3) (cfgId : BitVec 9) (smbAddr : BitVec 2) (pfailHigh : Bool) (s : State) :
    Host.Outcome State Fault Refusal :=
  runAll s fun d => d.sysRstN lowNs taken mode.toNat cfgId.toNat smbAddr.toNat pfailHigh

/-- ROOT_LOCK (R49, R101). -/
def execRootLock (s : State) : Host.Outcome State Fault Refusal := runAll s fun d => d.rootLocked

/-- ROOT_LOSS (R52). -/
def execRootLoss (s : State) : Host.Outcome State Fault Refusal := runAll s fun d => d.lockLost

/-- CLOCK_MONITOR_WINDOW (R52). -/
def execClockMonitorWindow (clk : Fin 10) (ppm : Int) (s : State) : Host.Outcome State Fault Refusal :=
  runAll s fun d => d.clockWindow clk.val ppm

/-- FCLK_DIV_SWITCH (R49). -/
def execFclkDivSwitch (k : Fin 4) (s : State) : Host.Outcome State Fault Refusal := runAll s fun d => d.fclkSwitch k.val

/-- DROOP_STRETCH (R71). -/
def execDroopStretch (s : State) : Host.Outcome State Fault Refusal := runAll s fun d => d.droop

/-- THERMAL_STEP_JUDGE (R73). -/
def execThermalStepJudge (s : State) : Host.Outcome State Fault Refusal := runAll s fun d => d.thermJudge

/-- POWER_CAP_STEP (R75). -/
def execPowerCapStep (s : State) : Host.Outcome State Fault Refusal := runAll s fun d => d.capJudge

/-- THERM_TRIP (R74). -/
def execThermTrip (sensor : Fin 32) (tempC : Int) (s : State) : Host.Outcome State Fault Refusal :=
  runAll s fun d => d.thermTrip sensor.val tempC

/-- AVS_TIMEOUT (R72). -/
def execAvsTimeout (s : State) : Host.Outcome State Fault Refusal := runAll s fun d => d.avsTimeout

/-- SAFESIDE_MOVE (R71). -/
def execSafesideMove (loop : Fin 5) (value : BitVec 32) (s : State) : Host.Outcome State Fault Refusal :=
  runAll s fun d => d.safesideMove loop.val value.toNat

/-- RAIL_MONITOR_SAMPLE (R608). -/
def execRailMonitorSample (inside : BitVec 9) (mv : BitVec 32) (avsMoving : Bool) (s : State) : Host.Outcome State Fault Refusal :=
  runAll s fun d => d.railSample inside.toNat mv.toInt avsMoving

/-- VAUX_LOSS (R608). -/
def execVauxLoss (torn : Fin 17) (keepHit : Bool) (s : State) : Host.Outcome State Fault Refusal :=
  runAll s fun d => d.vauxLoss torn.val keepHit

/-- PFAIL_ACCEPT (R68, R69). -/
def execPfailAccept (lowNs : Nat) (s : State) : Host.Outcome State Fault Refusal := runAll s fun d => d.pfailAccept lowNs

/-- POWER_FAIL_COMMIT_DONE (R69, R70). -/
def execPowerFailCommitDone (s : State) : Host.Outcome State Fault Refusal := runAll s fun d => d.pfailEnd

/-- SYS (R58): a write of GLB_RST_CTL. -/
def execSys (p : Path) (v : Word64) (s : State) : Host.Outcome State Fault Refusal := runAll s (write64 p 0x228 v)

/-- RELOAD (R58). -/
def execReload (p : Path) (v : Word64) (s : State) : Host.Outcome State Fault Refusal := runAll s (write64 p 0x228 v)

/-- RELOAD_RESET_DONE (R63): accesses the reset held complete after it. -/
def execReloadResetDone (s : State) : Host.Outcome State Fault Refusal := runAll s fun d => d.reloadDone.heldRelease

/-- ENG (R58). -/
def execEng (p : Path) (v : Word64) (s : State) : Host.Outcome State Fault Refusal := runAll s (write64 p 0x228 v)

/-- ENG_RESET_DONE (R63). -/
def execEngResetDone (e : Engine) (s : State) : Host.Outcome State Fault Refusal := runAll s fun d => (d.engDone e).heldRelease

/-- TILE (R58). -/
def execTile (p : Path) (v : Word64) (s : State) : Host.Outcome State Fault Refusal := runAll s (write64 p 0x228 v)

/-- TILE_WRITEBACK_DONE (R590). -/
def execTileWritebackDone (t : LTile) (s : State) : Host.Outcome State Fault Refusal := runAll s fun d => d.tileClear t

/-- TILE_RESET_DONE (R63). -/
def execTileResetDone (t : LTile) (s : State) : Host.Outcome State Fault Refusal := runAll s fun d => (d.tileDone t.val).heldRelease

/-- PERST_N (R58). -/
def execPerstN (n : Unit4) (high : Bool) (s : State) : Host.Outcome State Fault Refusal :=
  runAll s fun d => (d.perst n.val high).heldRelease

/-- PERST_RELEASE (R473). -/
def execPerstRelease (n : Unit4) (s : State) : Host.Outcome State Fault Refusal := runAll s fun d => d.perstRelease n.val

/-- APPLY (R55): a write of GLB_TS_CTL. -/
def execApply (p : Path) (v : Word64) (s : State) : Host.Outcome State Fault Refusal := runAll s (write64 p 0x218 v)

/-- TS_SLEW_DONE (R55). -/
def execTsSlewDone (s : State) : Host.Outcome State Fault Refusal := runAll s fun d => d.slewDone

/-- PPS_IN_EDGE (R56). -/
def execPpsInEdge (s : State) : Host.Outcome State Fault Refusal := runAll s fun d => d.ppsIn

/-- PPS_OUT_PULSE (R56). -/
def execPpsOutPulse (s : State) : Host.Outcome State Fault Refusal := runAll s fun d => d.ppsOut

/-- A read of a part of a 64-bit register (R57). -/
def Dev.partRead (d : Dev) (p : Path) (off : Nat) : RdPart → Dev
  | .low => d.csrRead p off 4
  | .high => d.csrRead p (off + 4) 4
  | .whole => d.csrRead p off 8

/-- GLB_TS_READ (R57). -/
def execGlbTsRead (p : Path) (part : RdPart) (s : State) : Host.Outcome State Fault Refusal :=
  runAll s fun d => d.partRead p 0x210 part

/-- ANN_NCLK_READ (R57). -/
def execAnnNclkRead (p : Path) (part : RdPart) (s : State) : Host.Outcome State Fault Refusal :=
  runAll s fun d => d.partRead p 0x3000000 part

/-- GLB_REP_RT_READ (R57). -/
def execGlbRepRtRead (p : Path) (part : RdPart) (s : State) : Host.Outcome State Fault Refusal :=
  runAll s fun d => d.partRead p 0x420 part

/-- REGISTER_WRITE (R8, R11). -/
def execRegisterWrite (p : Path) (off : CsrOff) (bytes : Fin 9) (v : Word64) (s : State) : Host.Outcome State Fault Refusal :=
  runAll s fun d => d.csrWrite p off.toNat bytes.val v.toNat

/-- ELASTIC_BUFFER_EVENT (R53). -/
def execElasticBufferEvent (lane : Fin 144) (s : State) : Host.Outcome State Fault Refusal :=
  runAll s fun d => d.elasticEvent lane.val

/-- What the block does when no command waits: one tick of TSCLK passes while the core runs, region logic is clocked and slices' walks go on
(R54, R162, R294; log entries 11, 143). -/
def idle (s : State) : Host.Outcome State Fault Refusal := run s fun d => if d.live then d.tsTick.fabricTick.walkTick else d

end Sys2Proof.Machine
end

