-- ==== Sys2Proof/Machine/FabricCmds.lean ====
section
/-! DEFINITION. The commands of chapters 05 to 07: the logic fabric with its RAM blocks, queue controllers and ring gates, the signal
slices, and live region exchange. -/

namespace Sys2Proof.Machine

/-- An effect that needs the core to run. -/
def whenLive (f : Dev → Dev) (d : Dev) : Dev := if d.live then f d else d

/-- FABRIC_RAM_WRITE (R166). -/
def execFabricRamWrite (b : Fin 6144) (a : Option (Fin 16384 × BitVec 128)) (bb : Option (Fin 16384 × BitVec 128)) (s : State) :
    Host.Outcome State Fault Refusal :=
  runAll s fun d => d.ramWrite b.val (a.map fun e => (e.1.val, e.2.toNat)) (bb.map fun e => (e.1.val, e.2.toNat))

/-- FABRIC_RAM_READ (R166). -/
def execFabricRamRead (b : Fin 6144) (portB : Bool) (entry : Fin 16384) (u : Upset) (s : State) : Host.Outcome State Fault Refusal :=
  runAll s fun d => d.ramRead b.val portB entry.val u

/-- QC_PATROL (R169). -/
def execQcPatrol (b : Fin 6144) (word : Fin 2048) (u : Upset) (s : State) : Host.Outcome State Fault Refusal :=
  runAll s fun d => d.ramPatrol b.val word.val u

/-- FIFO_PUSH (R171). -/
def execFifoPush (b : Fin 6144) (v : BitVec 128) (s : State) : Host.Outcome State Fault Refusal :=
  runAll s fun d => d.fifoPush b.val v.toNat

/-- FIFO_POP (R171). -/
def execFifoPop (b : Fin 6144) (s : State) : Host.Outcome State Fault Refusal := runAll s fun d => d.fifoPop b.val

/-- LOG_PUSH (R173). -/
def execLogPush (b : Fin 6144) (v : BitVec 128) (s : State) : Host.Outcome State Fault Refusal :=
  runAll s fun d => d.logPush b.val v.toNat

/-- LOG_TRIGGER (R173). -/
def execLogTrigger (b : Fin 6144) (level : Bool) (s : State) : Host.Outcome State Fault Refusal :=
  runAll s fun d => d.logTrigger b.val level

/-- REARM (R188): a write of QC_LOG. -/
def execRearm (b : Fin 6144) (p : Path) (v : Word64) (s : State) : Host.Outcome State Fault Refusal :=
  runAll s (write64 p (0x9000028 + 0x800 * b.val) v)

/-- CREDIT_PUSH (R174). -/
def execCreditPush (b : Fin 6144) (v : BitVec 128) (s : State) : Host.Outcome State Fault Refusal :=
  runAll s fun d => d.creditPush b.val v.toNat

/-- CREDIT_POP (R174). -/
def execCreditPop (b : Fin 6144) (s : State) : Host.Outcome State Fault Refusal := runAll s fun d => d.creditPop b.val

/-- QC_FLAG_SYNC (R172). -/
def execQcFlagSync (b : Fin 6144) (toPopSide : Bool) (s : State) : Host.Outcome State Fault Refusal :=
  runAll s (whenLive fun d => d.flagSync b.val toPopSide)

/-- QC_DEVICE_ACCESS (R177): a request to the block's device address. -/
def execQcDeviceAccess (q : Rq) (b : Fin 6144) (off : BitVec 14) (len : Nat) (wr : Option WrBytes) (s : State) :
    Host.Outcome State Fault Refusal :=
  runAll s (whenLive fun d =>
    d.request q (blockAddr b.val + off.toNat) (match wr with | some w => w.length | none => len) wr false false none)

/-- QUEUE_TIMEOUT (R178). -/
def execQueueTimeout (b : Fin 6144) (s : State) : Host.Outcome State Fault Refusal := runAll s (whenLive fun d => d.qcTimeout b.val)

/-- RG_OREQ (R180). -/
def execRgOreq (r : Region) (tag : BitVec 7) (q : OReq) (s : State) : Host.Outcome State Fault Refusal :=
  runAll s fun d => d.rgOreq r tag.toNat q

/-- RG_IREQ (R183). -/
def execRgIreq (r : Region) (accept : Bool) (s : State) : Host.Outcome State Fault Refusal := runAll s fun d => d.ireq r.val accept

/-- RG_IWAIT (R183). -/
def execRgIwait (r : Region) (tag : BitVec 16) (s : State) : Host.Outcome State Fault Refusal :=
  runAll s (whenLive fun d => d.iwaitEnd r.val tag.toNat)

/-- RG_IRSP (R183). -/
def execRgIrsp (r : Region) (tag : BitVec 16) (st : Fin 11) (data : List Byte) (s : State) : Host.Outcome State Fault Refusal :=
  runAll s fun d => d.irsp r.val tag.toNat st.val data

/-! ## Signal slices (R194) -/

/-- SLICE_HOLD (R194). -/
def execSliceHold (n : Fin 4096) (s : State) : Host.Outcome State Fault Refusal := runAll s fun d => d.sliceQuiet n.val false

/-- SLICE_MUL (R194). -/
def execSliceMul (n : Fin 4096) (a b : C18) (sh : BitVec 6) (s : State) : Host.Outcome State Fault Refusal :=
  runAll s fun d => d.sliceOp n.val (fun _ => (C18.int a).mul (C18.int b)) sh.toNat

/-- SLICE_MAC (R194). -/
def execSliceMac (n : Fin 4096) (a b : C18) (sh : BitVec 6) (s : State) : Host.Outcome State Fault Refusal :=
  runAll s fun d => d.sliceOp n.val (fun x => x.acc.add ((C18.int a).mul (C18.int b))) sh.toNat

/-- SLICE_CMAC (R194). -/
def execSliceCmac (n : Fin 4096) (a b c : C18) (sh : BitVec 6) (s : State) : Host.Outcome State Fault Refusal :=
  runAll s fun d => d.sliceOp n.val (fun x => ((C18.int c).shift x.cfg.cshift).add ((C18.int a).mul (C18.int b))) sh.toNat

/-- SLICE_MULJ (R194). -/
def execSliceMulj (n : Fin 4096) (a b : C18) (sh : BitVec 6) (s : State) : Host.Outcome State Fault Refusal :=
  runAll s fun d => d.sliceOp n.val (fun _ => (C18.int a).mul (C18.int b).conj) sh.toNat

/-- SLICE_MACJ (R194). -/
def execSliceMacj (n : Fin 4096) (a b : C18) (sh : BitVec 6) (s : State) : Host.Outcome State Fault Refusal :=
  runAll s fun d => d.sliceOp n.val (fun x => x.acc.add ((C18.int a).mul (C18.int b).conj)) sh.toNat

/-- SLICE_CASC (R194, R196). -/
def execSliceCasc (n : Fin 4096) (a b : C18) (sh : BitVec 6) (s : State) : Host.Outcome State Fault Refusal :=
  runAll s fun d => d.sliceOp n.val (fun _ => (d.sliceCin n.val).add ((C18.int a).mul (C18.int b))) sh.toNat

/-- SLICE_CLR (R194). -/
def execSliceClr (n : Fin 4096) (s : State) : Host.Outcome State Fault Refusal := runAll s fun d => d.sliceQuiet n.val true

/-- OVF_CLR (R198). -/
def execOvfClr (n : Fin 4096) (overflowNow : Bool) (s : State) : Host.Outcome State Fault Refusal :=
  runAll s fun d => d.ovfClr n.val overflowNow

/-- BEX_CLR (R202). -/
def execBexClr (n : Fin 4096) (s : State) : Host.Outcome State Fault Refusal := runAll s fun d => d.bexClr n.val

/-- ADV (R204). -/
def execAdv (n : Fin 4096) (s : State) : Host.Outcome State Fault Refusal := runAll s fun d => d.agAdv n.val

/-- AG_LOAD (R204, R207): LEN, STRIDE_O, N_I and N_O from the 64-bit load port; the static fields stay. -/
def execAgLoad (n : Fin 4096) (lenHi lenLo strideHi strideLo niHi niLo noHi noLo : Byte) (s : State) : Host.Outcome State Fault Refusal :=
  runAll s fun d => d.agLoad n.val { (d.sliceOf n.val).cfg with
    len := full16 (lenHi ++ lenLo).toNat, strideO := (strideHi ++ strideLo).toNat,
    nI := full16 (niHi ++ niLo).toNat, nO := full16 (noHi ++ noLo).toNat }

/-! ## Live region exchange -/

/-- GO (R218): a write of CFG_EXCH_CTL. -/
def execGo (p : Path) (v : Word64) (s : State) : Host.Outcome State Fault Refusal := runAll s (write64 p 0x100310 v)

/-- EXCH_FETCH_DONE (R211). -/
def execExchFetchDone (s : State) : Host.Outcome State Fault Refusal := runAll s fun d => d.exchFetch

/-- EXCH_CHECK_DONE (R211). -/
def execExchCheckDone (s : State) : Host.Outcome State Fault Refusal := runAll s fun d => d.exchCheck

/-- EXCH_AT_REACHED (R211). -/
def execExchAtReached (s : State) : Host.Outcome State Fault Refusal := runAll s fun d => d.exchAt

/-- EXCH_DRAIN_DONE (R211). -/
def execExchDrainDone (s : State) : Host.Outcome State Fault Refusal := runAll s fun d => d.exchDrained

/-- EXCH_DRAIN (R212). -/
def execExchDrain (s : State) : Host.Outcome State Fault Refusal := runAll s fun d => d.exchDrainOut

/-- EXCH_WRITE_DONE (R211). -/
def execExchWriteDone (s : State) : Host.Outcome State Fault Refusal := runAll s fun d => d.exchWrite

/-- EXCH_THAW (R211). -/
def execExchThaw (s : State) : Host.Outcome State Fault Refusal := runAll s fun d => d.exchThaw

/-- HX_TIMER_MATCH (R219). -/
def execHxTimerMatch (r : Region) (t : Fin 16) (s : State) : Host.Outcome State Fault Refusal := runAll s fun d => d.hxMatch r.val t.val

/-- HX_EDGE (R221). -/
def execHxEdge (r : Region) (n : Fin 32) (rising : Bool) (s : State) : Host.Outcome State Fault Refusal :=
  runAll s fun d => d.hxEdgeSeen r.val n.val rising

/-- HX_CELL_READ (R222). -/
def execHxCellRead (r : Region) (c : Fin 4) (s : State) : Host.Outcome State Fault Refusal := runAll s fun d => d.hxRead r.val c.val

/-- HX_CELL_WRITE (R222). -/
def execHxCellWrite (r : Region) (c : Fin 4) (x : HxSet) (s : State) : Host.Outcome State Fault Refusal :=
  runAll s fun d => d.hxWrite r.val c.val x

end Sys2Proof.Machine
end

