-- ==== Sys2Proof/Machine/FlitOps.lean ====
section
/-! DEFINITION. What the unit at a stop does with the flits it takes: packets put together, requests served, snoops answered, answers
delivered (R233, R234, R239, R243, R258). -/

namespace Sys2Proof.Machine
open Sys2Proof.Machine.Reg

/-! ## Packets (R239) -/

/-- SRCU and TAG that a DAT flit names. -/
def Flit.datKey (f : Flit) : Nat × Nat :=
  match f.body with
  | .datA u t _ _ _ _ => (u.val, t.toNat)
  | .datB u t _ _ _ => (u.val, t.toNat)
  | _ => (0, 0)

/-- BEAT of a DAT flit. -/
def Flit.beat (f : Flit) : Nat :=
  match f.body with
  | .datA _ _ b _ _ _ => b.val
  | .datB _ _ b _ _ => b.val
  | _ => 0

/-- POISON of a DAT flit. -/
def Flit.poison (f : Flit) : Bool :=
  match f.body with
  | .datA _ _ _ p _ _ => p
  | .datB _ _ _ p _ => p
  | _ => false

/-- The bytes of a DAT flit, those of DAT-A where BE has a 1. -/
def Flit.bytes (f : Flit) : WrBytes :=
  match f.body with
  | .datA _ _ _ _ x be => (upTo 128).map fun i => if be.getLsbD i then some (x.extractLsb' (8 * i) 8) else none
  | .datB _ _ _ _ x => (upTo 128).map fun i => some (x.extractLsb' (8 * i) 8)
  | _ => []

/-- The flits of a packet that a stop has taken: from a source, on DAT-A or DAT-B, for a unit and tag; in the order of BEAT. -/
def Dev.packetOf (d : Dev) (src dst : Nat) (c : FCls) (key : Nat × Nat) (n : Nat) : Option (List Flit) :=
  let all := d.ann.parts.filter fun f => f.src == src && f.dst == dst && f.body.cls == c && f.datKey == key
  let inOrder := (upTo n).filterMap fun i => all.find? fun f => f.beat == i
  if inOrder.length = n then some inOrder else none

/-- They are used up. -/
def Dev.dropPacket (d : Dev) (l : List Flit) : Dev := { d with ann := { d.ann with parts := d.ann.parts.filter fun f => !l.contains f } }

/-! ## Requests (R234) -/

/-- A controller whose queue for a request is full leaves it in the ejection buffer (R288, R305). -/
def Dev.hbmFull (d : Dev) (f : Flit) : Bool :=
  match f.body, stopKind f.dst with
  | .req opc _ _ _ _ _ _ _, .hbm h =>
    if opc.toNat = 2 then decide (64 ≤ (d.hbmOf h).wrq.length) else decide (128 ≤ (d.hbmOf h).rdq.length)
  | _, _ => false

/-- DAT-A flits that a request's data takes: LEN in 64 B units, 128 B a flit. -/
def reqBeats (opc len : Nat) : Nat := if opc = 0x02 ∨ opc = 0x21 then (64 * (len + 1) + 127) / 128 else if opc = 0x13 then 2 else 0

/-- Does what sits at a stop serve an opcode (R234, R284)? -/
def servesOpc (s opc : Nat) : Bool :=
  match stopKind s with
  | .cel _ => opc == 1 || opc == 2 || (decide (0x10 ≤ opc) && decide (opc ≤ 0x14)) || (decide (0x18 ≤ opc) && decide (opc ≤ 0x1B))
  | .tile _ => opc == 1 || opc == 2 || opc == 0x20
  | .hbm _ => opc == 1 || opc == 2
  | .gate _ => opc == 1 || opc == 2
  | .bridge _ => opc == 1 || opc == 2
  | .cpl _ => opc == 1 || opc == 2 || (decide (0x21 ≤ opc) && decide (opc ≤ 0x24))
  | .mgmt => opc == 4 || opc == 5 || opc == 8 || opc == 9 || opc == 0xA || opc == 0x24
  | .ce => opc == 0x24
  | .none => false

/-- The target serves a request that has come whole, `data` what it carries, `bad` its POISON (R234, R284, R383, R414). A PULL, a transit packet and a colony
message stand for commands of their own (chapter 18). A CSR access names 64 bits; a CSR_WR of one REQ flit writes 32, of two 64 (log entry
170). -/
def Dev.annServe (d : Dev) (f : Flit) (more : Option Flit) (data : WrBytes) (bad : Bool := false) : Dev :=
  match f.body with
  | .req opc u tag addr len attr dline aux =>
    let rid := ridOf f.src u.val
    let o := opc.toNat
    let via (key : Nat) : AnnVia := { rid := rid, key := key, tag := tag.toNat, stop := f.dst, opc := o }
    let asked (key : Nat) : Dev := { d with ann := { d.ann with via := d.ann.via ++ [via key] } }
    let q : Rq := { stop := Fin.ofNat 118 f.src, unit := u, tag := tag }
    let n := 64 * (len.val + 1)
    let k := addr.toNat / 256
    let na := attr.getLsbD 0
    let ef := attr.getLsbD 1
    let d' := asked tag.toNat
    if !servesOpc f.dst o then d'.badOpc f.dst o rid tag.toNat
    else match stopKind f.dst, stopKind f.src with
      | .hbm h, _ =>
        d'.hbmReq h (d.hbmOfAddr addr.toNat).2 n (if o = 2 then some (data.take n) else none) bad (min 2 (bits aux.toNat 11 2)) dline.toNat rid
          tag.toNat
      | .tile p, _ =>
        if o = 0x20 then ((asked tag.toNat).arriveAt (d.ltile p) (aux.toNat % 64)).emit (.resp rid tag.toNat 0 [])
        else d'.request q addr.toNat n (if o = 2 then some (data.take n) else none) false false
          (if na then some (Fin.ofNat 64 aux.toNat) else none) (some dline.toNat) bad
      | _, from_ =>
        match o with
        | 1 => d'.request q addr.toNat n none na ef none (some dline.toNat)
        | 2 => d'.request q addr.toNat n (some (data.take n)) na ef none (some dline.toNat) bad
        | 0x21 => d'.request q addr.toNat n (some (data.take n)) false false none (some dline.toNat) bad
        | 4 => d'.csrRequest q addr.toNat 8 none
        | 5 =>
          match more with
          | some g =>
            let hi := match g.body with
              | .req _ _ _ _ _ _ _ x => x.toNat
              | _ => 0
            d'.csrRequest q addr.toNat 8 (some (aux.toNat + hi * 2 ^ 32))
          | none => d'.csrRequest q addr.toNat 4 (some aux.toNat)
        | 8 => d'.lockReq59 q (aux.toNat % 256) 0
        | 9 => d'.lockReq59 q (aux.toNat % 256) 1
        | 0xA => d'.lockReq59 q (aux.toNat % 256) 2
        | 0x18 => d'.flushReq q k .flush 0x18
        | 0x19 => d'.flushReq q k .flushInv 0x19
        | 0x1A => d'.flushReq q k .discard 0x1A
        | 0x1B => match stopKind f.dst with
          | .cel s => d'.fenceReq q s
          | _ => d
        | _ =>
          match from_ with
          | .tile p =>
            let t := d.ltile p
            let d' := asked 0
            match o with
            | 0x10 => d'.tileReq t k (.rdSh t)
            | 0x11 => d'.tileReq t k (.rdEx t)
            | 0x12 => d'.tileReq t k (.upgr t)
            | 0x13 => d'.tileWb t k
            | 0x14 => d'.tileEvc t k
            | _ => d
          | _ => d
  | _ => d

/-- A request whose data and flits have all been taken is served; one that lacks some waits among the parts. -/
def Dev.reqWhole (d : Dev) (f : Flit) : Dev :=
  match f.body with
  | .req opc u tag _ len _ _ _ =>
    let n := reqBeats opc.toNat len.val
    let same (g : Flit) : Bool := g.src == f.src && g.dst == f.dst && g != f && match g.body with
      | .req o' u' t' _ _ _ _ _ => o' == opc && u' == u && t' == tag
      | _ => false
    if opc.toNat = 5 && !f.last then d
    else match d.packetOf f.src f.dst .datA (u.val, tag.toNat) n with
      | none => d
      | some l =>
        let mate := if opc.toNat = 5 then d.ann.parts.find? same else none
        let d := d.dropPacket (f :: l ++ mate.toList)
        match mate with
        | some g => d.annServe g (some f) []
        | none => d.annServe f none (l.flatMap Flit.bytes) (l.any Flit.poison)
  | _ => d

/-! ## Answers (R243) -/

/-- The open request or snoop an RSP or DAT-B flit answers. -/
def Dev.openOf (d : Dev) (stop unit tag : Nat) : Option AnnOpen := d.ann.open_.find? fun x => x.stop == stop && x.unit == unit && x.tag == tag

/-- DAT-B flits that follow an RSP flit: LEN + 1 where the request reads data and it came, or a tile returns a snooped line (R233, R286). -/
def AnnOpen.beats (x : AnnOpen) (opc st len : Nat) : Nat :=
  if x.snp then (if opc = 0x31 then 2 else 0)
  else if (x.opc = 1 ∨ x.opc = 0x10 ∨ x.opc = 0x11 ∨ x.opc = 0x12) ∧ (st = 0 ∨ st = 6) ∧ (x.opc ≠ 0x12 ∨ len ≠ 0) then len + 1 else 0

/-- An answer that has come whole is the requester's: its space is free again. -/
def Dev.answerWhole (d : Dev) (x : AnnOpen) : Dev :=
  match x.rsp with
  | none => d
  | some (opc, stLen, value) =>
    let st := stLen % 16
    let n := x.beats opc st (stLen / 16)
    match d.packetOf x.dst x.stop .datB (x.unit, x.tag) n with
    | none => d
    | some l =>
      let d := d.dropPacket l
      let d := { d with ann := { d.ann with open_ := d.ann.open_.erase x } }
      let d := d.readyAll x.stop
      if x.snp then
        match stopKind x.dst with
        | .tile p => d.snoopAnswer (d.ltile p) (x.addr / 256) (opc == 0x31)
        | _ => d
      else
        let bs := (l.flatMap Flit.bytes).map (·.getD 0)
        let bs := if n = 0 then leBytes 8 value else bs.take (64 * (x.len + 1))
        d.respTo (ridOf x.stop x.unit) x.tag (if st = 0 && l.any Flit.poison then 6 else st) bs

/-- A snoop reaches its tile, which gives its answer to the slice as flits (R286, R290). -/
def Dev.snpServe (d : Dev) (f : Flit) (opc : Nat) (u : Fin 16) (tag : BitVec 11) (addr : Nat) : Dev :=
  match stopKind f.dst with
  | .tile p =>
    let t := d.ltile p
    let k := addr / 256
    let d := d.snoopTile t k opc
    match (d.transOf k).bind fun x => (x.snoops.find? fun s => s.tile == t).bind (·.ans) with
    | none => d
    | some (mask, data, poison) =>
      let v : AnnVia := { rid := ridOf f.src u.val, key := tag.toNat, tag := tag.toNat, stop := f.dst, opc := 0x30 }
      let d := d.flitQueue { ring := ringFor f.dst f.src .rsp, src := f.dst, dst := f.src, last := true,
                             body := .rsp (if mask = 0 then 0x30 else 0x31) u tag 0 (if mask = 0 then 0 else 1) (BitVec.ofNat 64 mask) }
      if mask = 0 then d
      else (upTo 2).foldl (fun d i => d.flitQueue { ring := ringFor v.stop f.src .datB, src := v.stop, dst := f.src, last := i == 1,
                                                    body := .datB u tag (Fin.ofNat 32 i) (poison != 0) (data.extractLsb' (1024 * i) 1024) }) d
  | _ => d

/-- The unit of a stop takes a flit of its ejection buffer (R242, R247): the entry is free, its credit owed. -/
def Dev.takeFlit (d : Dev) (f : Flit) : Dev :=
  let d := if f.src = f.dst then d else d.freeEntry f true
  let part (d : Dev) : Dev := { d with ann := { d.ann with parts := d.ann.parts ++ [f] } }
  match f.body with
  | .req .. => (part d).reqWhole f
  | .datA u tag _ _ _ _ =>
    if f.hand then d
    else
      let d := part d
      match d.ann.parts.find? fun g => g.src == f.src && g.dst == f.dst && (match g.body with
        | .req _ u' t' _ _ _ _ _ => u' == u && t' == tag
        | _ => false) with
      | some g => d.reqWhole g
      | none => d
  | .datB u tag _ _ _ =>
    if f.hand then d
    else match d.openOf f.dst u.val tag.toNat with
      | some x => (part d).answerWhole x
      | none => d.inc STOP_ORPHAN 1 f.dst
  | .rsp opc u tag st len value =>
    if opc = 0x3F then d
    else match d.openOf f.dst u.val tag.toNat with
      | some x =>
        let x' := { x with rsp := some (opc.toNat, st.val + 16 * len.val, value.toNat) }
        let d := { d with ann := { d.ann with open_ := d.ann.open_.map fun y => if y = x then x' else y } }
        d.answerWhole x'
      | none => d.inc STOP_ORPHAN 1 f.dst
  | .snp opc u tag addr _ _ => d.snpServe f opc.toNat u tag addr.toNat

/-- The unit takes `n` held flits of a class. -/
def Dev.takeFlits (d : Dev) (t : Nat) (c : FCls) : Nat → Dev
  | 0 => d
  | n + 1 =>
    match d.nextTaken t c with
    | none => d
    | some e =>
      if d.hbmFull e.1 then d else Dev.takeFlits ((d.setEj t ((d.ejOf t).erase e)).takeFlit e.1) t c n

/-- FLIT_EJECT (R242, R247). -/
def Dev.flitEject (d : Dev) (t : Nat) (c : FCls) (cw ccw : Option Nat) (take lost : Nat) (e : BufErr) : Dev :=
  (d.flitsEject t c cw ccw lost e).takeFlits t c take

/-- FLIT_INJECT (R237 to R240): a unit's new flit is queued, one for the stop itself served inside it; then the head of the ring's queue may
enter the slot that passes. -/
def Dev.flitInject (d : Dev) (s : Nat) (new : Option NewFlit) (k slot : Nat) (e : BufErr) (cnt : Upset) : Dev :=
  if reservedStop s then d
  else
    let d := d.ringWait k
    let d := match new with
      | none => d
      | some x =>
        if x.dst.toNat = s then
          match AnnOpen.ofFlit { ring := 0, src := s, dst := s, body := x.body, last := x.last } with
          | some o => { d with ann := { d.ann with open_ := d.ann.open_ ++ [o] } }.takeFlit { ring := 0, src := s, dst := s, body := x.body, last := x.last, dead := true }
          | none => d.takeFlit { ring := 0, src := s, dst := s, body := x.body, last := x.last, dead := true }
        else d.flitNew s x
    (d.readyLook s k).flitGo s k slot e cnt

end Sys2Proof.Machine
end

