-- ==== Sys2Proof/Machine/AnnCmds.lean ====
section
/-! DEFINITION. The commands of chapter 08: the Annulus, its flits, requests and ring locks. -/

namespace Sys2Proof.Machine

/-- FLIT_INJECT (R240). -/
def execFlitInject (src : Stop) (new : Option NewFlit) (ring : Fin 10) (slot : Fin 118) (err : BufErr) (cnt : Upset) (s : State) :
    Host.Outcome State Fault Refusal :=
  runAll s (whenLive fun d => d.flitInject src.val new ring.val slot.val err cnt)

/-- KEEP_MARK (R241, R245). -/
def execKeepMark (n : Stop) (ring : Fin 10) (slot : Fin 118) (s : State) : Host.Outcome State Fault Refusal :=
  runAll s (whenLive fun d => d.keepMark n.val ring.val slot.val)

/-- FLIT_EJECT (R242, R247). -/
def execFlitEject (dst : Stop) (cls : FCls) (cw ccw : Option Stop) (take lost : Nat) (err : BufErr) (s : State) :
    Host.Outcome State Fault Refusal :=
  runAll s (whenLive fun d => d.flitEject dst.val cls (cw.map (·.val)) (ccw.map (·.val)) take lost err)

/-- FLIT_RETURNED (R238). -/
def execFlitReturned (src dst : Stop) (cls : FCls) (s : State) : Host.Outcome State Fault Refusal :=
  runAll s (whenLive fun d => d.flitReturned src.val dst.val cls)

/-- HOP_CRC_ERROR (R259). -/
def execHopCrcError (ring : Fin 10) (sender : Stop) (e : HopErr) (s : State) : Host.Outcome State Fault Refusal :=
  runAll s (whenLive fun d => d.hopError ring.val sender.val e.again e.err)

/-- CREDIT_RETURN (R242). -/
def execCreditReturn (src dst : Stop) (s : State) : Host.Outcome State Fault Refusal :=
  runAll s (whenLive fun d => d.creditReturn src.val dst.val)

/-- RD (R234, R285). -/
def execRd (q : Rq) (addr : DevAddr) (units : Fin 64) (noalloc evictFirst : Bool) (s : State) : Host.Outcome State Fault Refusal :=
  runAll s (whenLive fun d => d.request q addr.toNat (64 * (units.val + 1)) none noalloc evictFirst none)

/-- WR (R234, R281, R382). -/
def execWr (q : Rq) (addr : DevAddr) (data : WrBytes) (noalloc evictFirst : Bool) (count : Option (Fin 64)) (s : State) :
    Host.Outcome State Fault Refusal :=
  runAll s (whenLive fun d => d.request q addr.toNat data.length (some data) noalloc evictFirst count)

/-- CSR_RD (R180, R234). -/
def execCsrRdReq (q : Rq) (off : CsrOff) (bytes : Fin 9) (s : State) : Host.Outcome State Fault Refusal :=
  runAll s (whenLive fun d => d.csrRequest q off.toNat bytes.val none)

/-- CSR_WR (R180, R234). -/
def execCsrWrReq (q : Rq) (off : CsrOff) (bytes : Fin 9) (v : Word64) (s : State) : Host.Outcome State Fault Refusal :=
  runAll s (whenLive fun d => d.csrRequest q off.toNat bytes.val (some v.toNat))

/-- LOCK_ACQ (R252). -/
def execLockAcq (q : Rq) (lock : Fin 256) (s : State) : Host.Outcome State Fault Refusal := runAll s fun d => d.lockReq59 q lock.val 0

/-- LOCK_ACQW (R252). -/
def execLockAcqw (q : Rq) (lock : Fin 256) (s : State) : Host.Outcome State Fault Refusal := runAll s fun d => d.lockReq59 q lock.val 1

/-- LOCK_REL (R252). -/
def execLockRel (q : Rq) (lock : Fin 256) (s : State) : Host.Outcome State Fault Refusal := runAll s fun d => d.lockReq59 q lock.val 2

/-- LOCK_DECISION (R253, R260). -/
def execLockDecisionWith (err : Option LockErr) (s : State) : Host.Outcome State Fault Refusal :=
  runAll s (whenLive fun d => (match err with | some e => d.lockErr e | none => d).lockDecide)

/-- LOCK_DECISION where the lock table's SECDED finds nothing. -/
def execLockDecision (s : State) : Host.Outcome State Fault Refusal := execLockDecisionWith none s

/-- LOCK_OWNER_LOSS (R254). -/
def execLockOwnerLoss (o : Owner) (s : State) : Host.Outcome State Fault Refusal := runAll s (whenLive fun d => d.lossNotice o)

/-- ANN_SP_LOCK (R266). -/
def execAnnSpLock (p : Path) (v : Word64) (s : State) : Host.Outcome State Fault Refusal := runAll s (write64 p 0x3000028 v)

end Sys2Proof.Machine
end

