-- ==== Sys2Proof/Machine/CellarCmds.lean ====
section
/-! DEFINITION. The commands of chapter 09: the Cellar, the tile caches and tile SRAM. -/

namespace Sys2Proof.Machine

/-- RD_SH (R284). -/
def execRdSh (t : LTile) (line : BitVec 40) (s : State) : Host.Outcome State Fault Refusal :=
  runAll s fun d => d.tileReq t.val line.toNat (.rdSh t.val)

/-- RD_EX (R284). -/
def execRdEx (t : LTile) (line : BitVec 40) (s : State) : Host.Outcome State Fault Refusal :=
  runAll s fun d => d.tileReq t.val line.toNat (.rdEx t.val)

/-- UPGR (R284). -/
def execUpgr (t : LTile) (line : BitVec 40) (s : State) : Host.Outcome State Fault Refusal :=
  runAll s fun d => d.tileReq t.val line.toNat (.upgr t.val)

/-- WB (R284). -/
def execWb (t : LTile) (line : BitVec 40) (s : State) : Host.Outcome State Fault Refusal := runAll s fun d => d.tileWb t.val line.toNat

/-- EVC (R284). -/
def execEvc (t : LTile) (line : BitVec 40) (s : State) : Host.Outcome State Fault Refusal := runAll s fun d => d.tileEvc t.val line.toNat

/-- FLUSH (R284). -/
def execFlush (q : Rq) (line : BitVec 40) (s : State) : Host.Outcome State Fault Refusal :=
  runAll s fun d => d.flushReq q line.toNat .flush 0x18

/-- FLUSH_INV (R284). -/
def execFlushInv (q : Rq) (line : BitVec 40) (s : State) : Host.Outcome State Fault Refusal :=
  runAll s fun d => d.flushReq q line.toNat .flushInv 0x19

/-- DISCARD (R284). -/
def execDiscard (q : Rq) (line : BitVec 40) (s : State) : Host.Outcome State Fault Refusal :=
  runAll s fun d => d.flushReq q line.toNat .discard 0x1A

/-- FENCE (R284). -/
def execFence (q : Rq) (n : Unit16) (s : State) : Host.Outcome State Fault Refusal := runAll s fun d => d.fenceReq q n.val

/-- SNP_INV (R286). -/
def execSnpInv (t : LTile) (line : BitVec 40) (s : State) : Host.Outcome State Fault Refusal :=
  runAll s (whenLive fun d => d.snoopTile t.val line.toNat 1)

/-- SNP_DOWN (R286). -/
def execSnpDown (t : LTile) (line : BitVec 40) (s : State) : Host.Outcome State Fault Refusal :=
  runAll s (whenLive fun d => d.snoopTile t.val line.toNat 2)

/-- SNP_CLEAN (R286). -/
def execSnpClean (t : LTile) (line : BitVec 40) (s : State) : Host.Outcome State Fault Refusal :=
  runAll s (whenLive fun d => d.snoopTile t.val line.toNat 3)

/-- SNP_ACK (R286). -/
def execSnpAck (t : LTile) (line : BitVec 40) (s : State) : Host.Outcome State Fault Refusal :=
  runAll s (whenLive fun d => d.snoopAnswer t.val line.toNat false)

/-- SNP_DATA (R287). -/
def execSnpData (t : LTile) (line : BitVec 40) (s : State) : Host.Outcome State Fault Refusal :=
  runAll s (whenLive fun d => d.snoopAnswer t.val line.toNat true)

/-- LINE_QUEUE_ADVANCE (R288). -/
def execLineQueueAdvance (line : BitVec 40) (s : State) : Host.Outcome State Fault Refusal := runAll s fun d => d.queueAdvance line.toNat

/-- CEL_FILL (R280, R291). -/
def execCelFill (line : BitVec 40) (host : BitVec 2048) (s : State) : Host.Outcome State Fault Refusal :=
  runAll s fun d => d.celFill line.toNat host

/-- SNPINV (R291). -/
def execSnpinvH2D (n : Unit4) (line : BitVec 40) (took : Nat) (s : State) : Host.Outcome State Fault Refusal :=
  runAll s (whenLive fun d => d.hostSnoop n.val line.toNat 1 took)

/-- SNPDATA (R291). -/
def execSnpdataH2D (n : Unit4) (line : BitVec 40) (took : Nat) (s : State) : Host.Outcome State Fault Refusal :=
  runAll s (whenLive fun d => d.hostSnoop n.val line.toNat 2 took)

/-- SNPCUR (R291). -/
def execSnpcurH2D (n : Unit4) (line : BitVec 40) (took : Nat) (s : State) : Host.Outcome State Fault Refusal :=
  runAll s (whenLive fun d => d.hostSnoop n.val line.toNat 3 took)

/-- WALK_FLUSH (R294): a write of CEL_FLUSH_CTL. -/
def execWalkFlush (n : Unit16) (p : Path) (v : Word64) (s : State) : Host.Outcome State Fault Refusal :=
  runAll s (write64 p (0x4000030 + 0x10000 * n.val) v)

/-- WALK_FLUSH_INV (R294). -/
def execWalkFlushInv (n : Unit16) (p : Path) (v : Word64) (s : State) : Host.Outcome State Fault Refusal :=
  runAll s (write64 p (0x4000030 + 0x10000 * n.val) v)

/-- WALK_DISCARD (R294). -/
def execWalkDiscard (n : Unit16) (p : Path) (v : Word64) (s : State) : Host.Outcome State Fault Refusal :=
  runAll s (write64 p (0x4000030 + 0x10000 * n.val) v)

/-- CEL_FLUSH_DONE (R294). -/
def execCelFlushDone (n : Unit16) (s : State) : Host.Outcome State Fault Refusal := runAll s fun d => d.walkDone n.val

/-- CEL_PATROL (R295). -/
def execCelPatrol (n : Unit16) (set : Fin 32768) (e : CelErr) (s : State) : Host.Outcome State Fault Refusal :=
  runAll s fun d => d.celPatrol n.val set.val e

/-- CEL_MODE_WRITE (R293): a write of CEL_CFG. -/
def execCelModeWrite (n : Unit16) (p : Path) (v : Word64) (s : State) : Host.Outcome State Fault Refusal :=
  runAll s (write64 p (0x4000000 + 0x10000 * n.val) v)

/-- CACHE_Q_WRITE (R274): a write of TIL_SRAM_CFG. -/
def execCacheQWrite (t : PTile) (p : Path) (v : Word64) (s : State) : Host.Outcome State Fault Refusal :=
  runAll s (write64 p (0x1000100 + 0x10000 * t.val) v)

/-- TIL_SRAM_PATROL (R273). -/
def execTilSramPatrol (t : PTile) (unit : Fin 32768) (u : Upset) (s : State) : Host.Outcome State Fault Refusal :=
  runAll s (whenLive fun d => d.sramPatrol t.val unit.val u)

end Sys2Proof.Machine
end

