-- ==== Sys2Proof/Machine/HbmCmds.lean ====
section
/-! DEFINITION. The commands of chapter 10: the HBM controllers and their arbitration settings. -/

namespace Sys2Proof.Machine

/-- A training or retraining failure as numbers. -/
def trainFail (f : Option (Fin 6 × BitVec 8 × BitVec 32)) : Option (Nat × Nat × Nat) := f.map fun x => (x.1.val, x.2.1.toNat, x.2.2.toNat)

/-- HBM_TRAIN_DONE (R300, R302). -/
def execHbmTrainDone (h : Unit16) (fail : Option (Fin 6 × BitVec 8 × BitVec 32)) (dqSpares : BitVec 16) (caSpares : BitVec 4) (s : State) :
    Host.Outcome State Fault Refusal :=
  runAll s fun d => d.hbmTrain h.val (trainFail fail) dqSpares.toNat caSpares.toNat

/-- HBM_REQUEST (R304, R305). -/
def execHbmRequest (h : Unit16) (L : BitVec 33) (len : Fin 257) (wr : Option WrBytes) (poison : Bool) (cls : Fin 3)
    (dline : BitVec 16) (rid : BitVec 11) (s : State) : Host.Outcome State Fault Refusal :=
  runAll s fun d =>
    d.hbmReq h.val L.toNat (match wr with | some w => w.length | none => len.val) wr poison cls.val dline.toNat rid.toNat

/-- HBM_SCHEDULE (R305). -/
def execHbmSchedule (h : Unit16) (pc : Fin 8) (ready : BitVec 192) (s : State) : Host.Outcome State Fault Refusal :=
  runAll s fun d => d.hbmSched h.val pc.val ready.toNat

/-- HBM_READ_RETURN (R314). -/
def execHbmReadReturn (h : Unit16) (f : HbmFinding) (s : State) : Host.Outcome State Fault Refusal := runAll s fun d => d.hbmReturn h.val f

/-- HBM_REFRESH (R309, R311). -/
def execHbmRefresh (h : Unit16) (pc : Fin 8) (postpone : Bool) (s : State) : Host.Outcome State Fault Refusal :=
  runAll s fun d => d.hbmRefr h.val pc.val postpone

/-- HBM_PATROL (R315). -/
def execHbmPatrol (h : Unit16) (f : HbmFinding) (s : State) : Host.Outcome State Fault Refusal := runAll s fun d => d.hbmPatrolLine h.val f

/-- HBM_TEMP_READ (R309). -/
def execHbmTempRead (h : Unit16) (tempC : BitVec 8) (s : State) : Host.Outcome State Fault Refusal :=
  runAll s fun d => d.hbmTempSeen h.val tempC.toInt

/-- PAGE_TIMEOUT (R308). -/
def execPageTimeout (h : Unit16) (pc : Fin 8) (bank : Fin 48) (s : State) : Host.Outcome State Fault Refusal :=
  runAll s fun d => d.hbmPageOut h.val pc.val bank.val

/-- CA_PARITY_ALERT (R316). -/
def execCaParityAlert (h : Unit16) (chan : Fin 4) (command : BitVec 8) (again : Bool) (s : State) : Host.Outcome State Fault Refusal :=
  runAll s fun d => d.hbmAlert h.val chan.val command.toNat again

/-- RETRAIN (R318): a write of HBM_CTL. -/
def execRetrain (h : Unit16) (p : Path) (v : Word64) (s : State) : Host.Outcome State Fault Refusal :=
  runAll s (write64 p (0x5000030 + 0x10000 * h.val) v)

/-- HBM_RETRAIN (R318). -/
def execHbmRetrain (h : Unit16) (fail : Option (Fin 6 × BitVec 8 × BitVec 32)) (dqSpares : BitVec 16) (caSpares : BitVec 4) (s : State) :
    Host.Outcome State Fault Refusal :=
  runAll s fun d => d.hbmRetrainEnd h.val (trainFail fail) dqSpares.toNat caSpares.toNat

/-- HBM_ARB_CFG_WRITE (R320): a write of HBM_ARB_CFG. -/
def execHbmArbCfgWrite (h : Unit16) (p : Path) (v : Word64) (s : State) : Host.Outcome State Fault Refusal :=
  runAll s (write64 p (0x5000008 + 0x10000 * h.val) v)

/-- CEL_ARB_CFG_WRITE (R448): a write of CEL_ARB_CFG. -/
def execCelArbCfgWrite (n : Unit16) (p : Path) (v : Word64) (s : State) : Host.Outcome State Fault Refusal :=
  runAll s (write64 p (0x4000050 + 0x10000 * n.val) v)

end Sys2Proof.Machine
end

