-- ==== Sys2Proof/Machine/ArrayCmds.lean ====
section
/-! DEFINITION. The commands of chapters 11 and 12: the matrix arrays, scale channels and NaN capture. -/

namespace Sys2Proof.Machine

/-- ARRAY_STEP_START (R329). -/
def execArrayStepStart (t : LTile) (fault : Option (Fin 16 × Fin 64 × BitVec 32)) (s : State) : Host.Outcome State Fault Refusal :=
  runAll s (whenLive fun d => d.unlessMoves t.val fun d => d.arrayStep t.val (fault.map fun x => (x.1.val, x.2.1.val, x.2.2.toNat)))

/-- HELD_LOAD (R330). -/
def execHeldLoad (t : LTile) (s : State) : Host.Outcome State Fault Refusal := runAll s (whenLive fun d => d.unlessMoves t.val fun d => d.heldLoad t.val)

/-- The drain of the LAYER on tile `t` is next, and it reads accumulator row `row`. -/
def Dev.drainReads (d : Dev) (t row : Nat) : Bool :=
  (d.tileOf t).layer.any fun l =>
    decide (l.steps.length ≤ l.idx) && !l.sendsDue && decide (l.drainRow ≤ row) && decide (row < l.drainRow + l.drainRows)

/-- DRAIN (R332, R338). -/
def execDrain (t : LTile) (upset : Option (Fin 1024 × Fin 64 × Upset)) (s : State) : Host.Outcome State Fault Refusal :=
  runAll s (whenLive fun d => d.unlessMoves t.val fun d =>
    let d := match upset with
      | some x =>
        if x.2.2 == Upset.clean || !d.drainReads t.val x.1.val then d else d.accUpset t.val x.1.val x.2.1.val (x.2.2 == Upset.single)
      | none => d
    d.layerDrain t.val)

/-- SCALE_CLR (R362): a write of TIL_SCALE_n. -/
def execScaleClr (t : PTile) (n : Fin 16) (p : Path) (v : Word64) (s : State) : Host.Outcome State Fault Refusal :=
  runAll s (write64 p (0x1000300 + 0x10000 * t.val + 8 * n.val) v)

/-- NAN_REPORT_JUDGE (R360). -/
def execNanReportJudge (s : State) : Host.Outcome State Fault Refusal := runAll s fun d => d.nanJudge

/-- NAN_FIRST_FINAL (R361). -/
def execNanFirstFinal (s : State) : Host.Outcome State Fault Refusal := runAll s fun d => d.nanFinal

/-- NAN_FIRST_CLEAR (R361): a write of GLB_NAN_FIRST. -/
def execNanFirstClear (p : Path) (v : Word64) (s : State) : Host.Outcome State Fault Refusal := runAll s (write64 p 0x300 v)

/-- NAN_CAP_CLEAR (R361): a write of TIL_NAN_CAP_0. -/
def execNanCapClear (t : PTile) (p : Path) (v : Word64) (s : State) : Host.Outcome State Fault Refusal :=
  runAll s (write64 p (0x1000400 + 0x10000 * t.val) v)

end Sys2Proof.Machine
end

