-- ==== Sys2Proof/Machine/VectorCmds.lean ====
section
/-! DEFINITION. The commands of chapter 13: the instructions of thread groups, group control, asynchronous copies and arrivals. -/

namespace Sys2Proof.Machine

/-! ## Integer (R368, R369): lanes wrap, and are two's complement where a sign matters -/

/-- ADD (R368). -/
def execVadd (i : VI) (s : State) : Host.Outcome State Fault Refusal := runAll s fun d => d.vxInt i false fun _ a b _ => some (a + b)

/-- SUB (R368). -/
def execVsub (i : VI) (s : State) : Host.Outcome State Fault Refusal :=
  runAll s fun d => d.vxInt i false fun w a b _ => some (a + 2 ^ w - b)

/-- MUL (R368). -/
def execVmul (i : VI) (s : State) : Host.Outcome State Fault Refusal := runAll s fun d => d.vxInt i false fun _ a b _ => some (a * b)

/-- MULH (R368): the upper half of the signed product (DEDUCED, log entry 76). -/
def execMulh (i : VI) (s : State) : Host.Outcome State Fault Refusal :=
  runAll s fun d => d.vxInt i false fun w a b _ => some (ofSigned w (toSigned w a * toSigned w b / 2 ^ w))

/-- MAD (R368). -/
def execMad (i : VI) (s : State) : Host.Outcome State Fault Refusal := runAll s fun d => d.vxInt i true fun _ a b c => some (a * b + c)

/-- DIV (R369). -/
def execVdiv (i : VI) (s : State) : Host.Outcome State Fault Refusal := runAll s fun d => d.vxInt i false fun w a b _ => some (idiv w a b)

/-- REM (R369). -/
def execVrem (i : VI) (s : State) : Host.Outcome State Fault Refusal := runAll s fun d => d.vxInt i false fun w a b _ => some (irem w a b)

/-- AND (R368). -/
def execVand (i : VI) (s : State) : Host.Outcome State Fault Refusal :=
  runAll s fun d => d.vxInt i false fun _ a b _ => some (Nat.land a b)

/-- OR (R368). -/
def execVor (i : VI) (s : State) : Host.Outcome State Fault Refusal :=
  runAll s fun d => d.vxInt i false fun _ a b _ => some (Nat.lor a b)

/-- XOR (R368). -/
def execVxor (i : VI) (s : State) : Host.Outcome State Fault Refusal :=
  runAll s fun d => d.vxInt i false fun _ a b _ => some (Nat.xor a b)

/-- SHL (R368): a shift by the lane width or more is not stated (log entry 77). -/
def execShl (i : VI) (s : State) : Host.Outcome State Fault Refusal :=
  runAll s fun d => d.vxInt i false fun w a b _ => if b < w then some (a * 2 ^ b) else none

/-- SHR (R368). -/
def execShr (i : VI) (s : State) : Host.Outcome State Fault Refusal :=
  runAll s fun d => d.vxInt i false fun w a b _ => if b < w then some (a / 2 ^ b) else none

/-- SAR (R368). -/
def execSar (i : VI) (s : State) : Host.Outcome State Fault Refusal :=
  runAll s fun d => d.vxInt i false fun w a b _ => if b < w then some (ofSigned w (toSigned w a / 2 ^ b)) else none

/-- MIN (R368). -/
def execVmin (i : VI) (s : State) : Host.Outcome State Fault Refusal :=
  runAll s fun d => d.vxInt i false fun w a b _ => some (if toSigned w b < toSigned w a then b else a)

/-- MAX (R368). -/
def execVmax (i : VI) (s : State) : Host.Outcome State Fault Refusal :=
  runAll s fun d => d.vxInt i false fun w a b _ => some (if toSigned w a < toSigned w b then b else a)

/-- CMP (R368): INT32 lanes decide a predicate; what packed lanes leave in it is free (log entry 20). -/
def execCmp (i : VI) (op : CmpOp) (s : State) : Host.Outcome State Fault Refusal :=
  runAll s fun d => d.vxGo i { fm := [0, 5, 6, 7], pd := true, ra := true, rb := true } fun m d =>
    d.vxPred i m fun y l =>
      cmpBy op (decide (toSigned 32 (viA i y d.now l) < toSigned 32 (viB i y d.now l))) (viA i y d.now l == viB i y d.now l)

/-! ## Float (R369) -/

/-- FADD (R368). -/
def execFadd (i : VI) (s : State) : Host.Outcome State Fault Refusal := runAll s fun d => d.vxFloat i 0 2 fun a b _ => some (a.add b)

/-- FSUB (R369). -/
def execFsub (i : VI) (s : State) : Host.Outcome State Fault Refusal := runAll s fun d => d.vxFloat i 1 2 fun a b _ => some (a.add b.neg)

/-- FMUL (R369). -/
def execFmul (i : VI) (s : State) : Host.Outcome State Fault Refusal := runAll s fun d => d.vxFloat i 2 2 fun a b _ => some (a.mul b)

/-- FMA (R369): rounded once. -/
def execFma (i : VI) (s : State) : Host.Outcome State Fault Refusal :=
  runAll s fun d => d.vxFloat i 3 3 fun a b c => some ((a.mul b).add c)

/-- FMIN (R369). -/
def execFmin (i : VI) (s : State) : Host.Outcome State Fault Refusal := runAll s fun d => d.vxFloat i 4 2 fun a b _ => a.minOf b

/-- FMAX (R369). -/
def execFmax (i : VI) (s : State) : Host.Outcome State Fault Refusal := runAll s fun d => d.vxFloat i 5 2 fun a b _ => a.maxOf b

/-- FDIV (R369). -/
def execFdiv (i : VI) (s : State) : Host.Outcome State Fault Refusal := runAll s fun d => d.vxFloat i 6 2 fun a b _ => some (a.div b)

/-- FSQRT (R369). -/
def execFsqrt (i : VI) (s : State) : Host.Outcome State Fault Refusal := runAll s fun d => d.vxFloat i 7 1 fun a _ _ => some a.sqrt

/-- FCMP (R368): FP32 as IEEE 754 compares, a NaN unordered; what packed lanes leave in the predicate is free (log entry 20). -/
def execFcmp (i : VI) (op : CmpOp) (s : State) : Host.Outcome State Fault Refusal :=
  runAll s fun d => d.vxGo i { fm := [0, 1, 2], pd := true, ra := true, rb := true } fun m d =>
    d.vxPred i m fun y l =>
      let a := ofFp32 (viA i y d.now l)
      let b := ofFp32 (viB i y d.now l)
      if a.isNan || b.isNan then op == .ne else cmpBy op (a.lt b) (a.eqv b)

/-! ## Convert -/

/-- CVT (R370). -/
def execCvt (i : VI) (s : State) : Host.Outcome State Fault Refusal := runAll s fun d => d.vxCvt i

/-- PACK (R368). -/
def execPack (i : VI) (s : State) : Host.Outcome State Fault Refusal :=
  runAll s fun d => d.vxFree i { rd := true, ra := true, rb := true, im := true }

/-- UNPACK (R368). -/
def execUnpack (i : VI) (s : State) : Host.Outcome State Fault Refusal :=
  runAll s fun d => d.vxFree i { rd := true, ra := true, rb := true, im := true }

/-! ## Memory -/

/-- LDL (R373). -/
def execLdl (i : LocalAcc) (s : State) : Host.Outcome State Fault Refusal := runAll s fun d => d.vxLdl i.vi i.rivals

/-- STL (R373). -/
def execStl (i : LocalAcc) (s : State) : Host.Outcome State Fault Refusal := runAll s fun d => d.vxStl i.vi i.rivals

/-- LDD (R373). -/
def execLdd (i : VI) (s : State) : Host.Outcome State Fault Refusal := runAll s fun d => d.vxLdd i

/-- STD (R373). -/
def execStd (i : VI) (s : State) : Host.Outcome State Fault Refusal := runAll s fun d => d.vxStd i

/-- ATADD (R368). -/
def execAtadd (i : VI) (s : State) : Host.Outcome State Fault Refusal := runAll s fun d => d.vxAtomic i 4 fun old v => (old + v) % 2 ^ 32

/-- ATMAX (R368): as MAX, signed (DEDUCED, log entry 71). -/
def execAtmax (i : VI) (s : State) : Host.Outcome State Fault Refusal :=
  runAll s fun d => d.vxAtomic i 5 fun old v => if toSigned 32 old < toSigned 32 v then v else old

/-- STORE_FAULT (R379). -/
def execStoreFault (t : LTile) (g : Fin 16) (addr : DevAddr) (status : BitVec 4) (s : State) : Host.Outcome State Fault Refusal :=
  runAll s fun d => if d.tileRuns t.val then d.storeFailed t.val g.val addr.toNat status.toNat else d

/-! ## Async -/

/-- COPY (R384). -/
def execVxCopy (i : VI) (s : State) : Host.Outcome State Fault Refusal := runAll s fun d => d.vxCopy i

/-- ARM (R382). -/
def execArm (i : VI) (s : State) : Host.Outcome State Fault Refusal := runAll s fun d => d.vxArm i

/-- WAIT (R382). -/
def execVxWait (i : VI) (s : State) : Host.Outcome State Fault Refusal := runAll s fun d => d.vxWaitOn i

/-- ACRD (R368): the counter that RA names, as WAIT names one, read into RD (log entry 75). -/
def execAcrd (i : VI) (s : State) : Host.Outcome State Fault Refusal :=
  runAll s fun d => d.vxGo i { rd := true, ra := true } fun m d =>
    let x := d.tileOf i.t.val
    d.vxMap i m fun y l =>
      let k := viA i y d.now l % 64
      Config.acrdValue (x.expectOf k) (x.arrivedOf k) % 2 ^ 32

/-! ## Flow -/

/-- BR (R374). -/
def execBr (i : VI) (s : State) : Host.Outcome State Fault Refusal := runAll s fun d => d.vxBr i

/-- SPLIT (R374). -/
def execSplit (i : VI) (s : State) : Host.Outcome State Fault Refusal := runAll s fun d => d.vxSplit i

/-- JOIN (R374). -/
def execJoin (i : VI) (s : State) : Host.Outcome State Fault Refusal := runAll s fun d => d.vxJoin i

/-- CALL (R376). -/
def execCall (i : VI) (s : State) : Host.Outcome State Fault Refusal := runAll s fun d => d.vxCall i

/-- RET (R376). -/
def execRet (i : VI) (s : State) : Host.Outcome State Fault Refusal := runAll s fun d => d.vxRet i

/-- EXIT (R375). -/
def execExit (i : VI) (s : State) : Host.Outcome State Fault Refusal := runAll s fun d => d.vxExit i

/-- TRAP (R377). -/
def execTrap (i : VI) (s : State) : Host.Outcome State Fault Refusal := runAll s fun d => d.vxTrap i

/-- TRET (R377). -/
def execTret (i : VI) (s : State) : Host.Outcome State Fault Refusal := runAll s fun d => d.vxTret i

/-! ## Lane -/

/-- SHFL (R368). -/
def execShfl (i : VI) (s : State) : Host.Outcome State Fault Refusal := runAll s fun d => d.vxShfl i

/-- VOTE (R368). -/
def execVote (i : VI) (op : VoteOp) (s : State) : Host.Outcome State Fault Refusal := runAll s fun d => d.vxVote i op

/-- RED (R368). -/
def execRed (i : VI) (op : RedOp) (s : State) : Host.Outcome State Fault Refusal := runAll s fun d => d.vxRed i op

/-! ## System -/

/-- GBAR (R372). -/
def execGbar (i : VI) (s : State) : Host.Outcome State Fault Refusal := runAll s fun d => d.vxGbar i

/-- FENCE (R372). -/
def execVxFence (i : VI) (s : State) : Host.Outcome State Fault Refusal := runAll s fun d => d.vxFenceOn i

/-- LOCKACQ (R373). -/
def execLockacq (i : VI) (s : State) : Host.Outcome State Fault Refusal := runAll s fun d => d.vxLock i 0

/-- LOCKACQW (R373). -/
def execLockacqw (i : VI) (s : State) : Host.Outcome State Fault Refusal := runAll s fun d => d.vxLock i 1

/-- LOCKREL (R373). -/
def execLockrel (i : VI) (s : State) : Host.Outcome State Fault Refusal := runAll s fun d => d.vxLock i 2

/-- NOP (R368). -/
def execVxNop (i : VI) (s : State) : Host.Outcome State Fault Refusal :=
  runAll s fun d => d.vxGo i {} fun _ d => d.vxNext i.t.val i.g.val

/-- BRK (R379): the group parks with BREAK; with no thread acting it does nothing. -/
def execBrk (i : VI) (s : State) : Host.Outcome State Fault Refusal :=
  runAll s fun d => d.vxGo i {} fun m d => if m = 0 then d.vxNext i.t.val i.g.val else d.park i.t.val i.g.val 16

/-! ## Group control, copies, arrivals -/

/-- Offset of a register of TIL_GRP's block of group `g` in the block of physical tile `t`. -/
abbrev grpReg (t g off : Nat) : Nat := 0x1000800 + 0x10000 * t + 0x40 * g + off

/-- GRP_REPLAY (R380): a write of TIL_GRP_CTL_g. -/
def execGrpReplay (t : PTile) (g : Fin 16) (p : Path) (v : Word64) (s : State) : Host.Outcome State Fault Refusal :=
  runAll s (write64 p (grpReg t.val g.val 0x28) v)

/-- GRP_ABORT (R380). -/
def execGrpAbort (t : PTile) (g : Fin 16) (p : Path) (v : Word64) (s : State) : Host.Outcome State Fault Refusal :=
  runAll s (write64 p (grpReg t.val g.val 0x28) v)

/-- SPILL_BASE_WRITE (R378). -/
def execSpillBaseWrite (t : PTile) (g : Fin 16) (p : Path) (v : Word64) (s : State) : Host.Outcome State Fault Refusal :=
  runAll s (write64 p (grpReg t.val g.val 0x18) v)

/-- SPILL_LIMIT_WRITE (R378). -/
def execSpillLimitWrite (t : PTile) (g : Fin 16) (p : Path) (v : Word64) (s : State) : Host.Outcome State Fault Refusal :=
  runAll s (write64 p (grpReg t.val g.val 0x20) v)

/-- COPY_START (R385). -/
def execCopyStart (t : LTile) (s : State) : Host.Outcome State Fault Refusal := runAll s fun d => if d.tileRuns t.val then d.copyStart t.val else d

/-- COPY_DONE (R383, R385). -/
def execCopyDone (t : LTile) (s : State) : Host.Outcome State Fault Refusal := runAll s fun d => if d.tileRuns t.val then d.copyDone t.val else d

/-- ARRIVE (R382). -/
def execArrive (t : LTile) (k : Fin 64) (s : State) : Host.Outcome State Fault Refusal := runAll s (whenLive fun d => d.arriveAt t.val k.val)

end Sys2Proof.Machine
end

