-- ==== Sys2Proof/Machine/EngineCmds.lean ====
section
/-! DEFINITION. The commands of chapters 14 to 16: command engines and their lists, the Lamplighter, and event mode. -/

namespace Sys2Proof.Machine

/-- An effect of released tiles and engines while power holds. -/
def whenReleased (f : Dev → Dev) (d : Dev) : Dev := if d.released then f d else d

/-- DOORBELL (R395): a write of CE_QTAIL_q. -/
def execDoorbell (e : Engine) (q : Fin 4) (p : Path) (v : Word64) (s : State) : Host.Outcome State Fault Refusal :=
  runAll s (write64 p (0x2000110 + 0x10000 * e.val + 0x20 * q.val) v)

/-- CE_FLUSH_WRITE (R392): a write of CE_FLUSH. -/
def execCeFlushWrite (e : Engine) (p : Path) (v : Word64) (s : State) : Host.Outcome State Fault Refusal :=
  runAll s (write64 p (0x2000010 + 0x10000 * e.val) v)

/-- LIST_TAKE (R396). -/
def execListTake (e : Engine) (s : State) : Host.Outcome State Fault Refusal := runAll s fun d => d.listTake e.val

/-- LIST_FETCH (R401). -/
def execListFetch (e : Engine) (s : State) : Host.Outcome State Fault Refusal := runAll s fun d => d.listFetch e.val

/-- CMD_TILE_START (R401). -/
def execCmdTileStart (e : Engine) (seq : BitVec 24) (t : LTile) (s : State) : Host.Outcome State Fault Refusal :=
  runAll s fun d => d.cmdTileStart e.val seq.toNat t.val

/-- CMD_COMPLETE (R413). -/
def execCmdComplete (e : Engine) (seq : BitVec 24) (s : State) : Host.Outcome State Fault Refusal :=
  runAll s fun d => d.cmdComplete e.val seq.toNat

/-- LIST_COMPLETE (R416). -/
def execListComplete (e : Engine) (s : State) : Host.Outcome State Fault Refusal := runAll s fun d => d.listComplete e.val

/-- PREEMPT (R397). -/
def execPreempt (e : Engine) (s : State) : Host.Outcome State Fault Refusal := runAll s fun d => d.preempt e.val

/-! ## The commands of a list (R400 to R412): issue of the next command, when it has this opcode -/

/-- NOP (R412). A code of no command is issued here too, and fails with BAD_OPC. -/
def execNop (e : Engine) (s : State) : Host.Outcome State Fault Refusal := runAll s fun d => d.ceRow e.val 0x00

/-- END (R412). -/
def execEnd (e : Engine) (s : State) : Host.Outcome State Fault Refusal := runAll s fun d => d.ceRow e.val 0x01

/-- LINK (R412). -/
def execLink (e : Engine) (s : State) : Host.Outcome State Fault Refusal := runAll s fun d => d.ceRow e.val 0x02

/-- LAYER (R402). -/
def execLayer (e : Engine) (s : State) : Host.Outcome State Fault Refusal := runAll s fun d => d.ceRow e.val 0x10

/-- VXRUN (R404). -/
def execVxrun (e : Engine) (s : State) : Host.Outcome State Fault Refusal := runAll s fun d => d.ceRow e.val 0x11

/-- COPY (R405). -/
def execCeCopy (e : Engine) (s : State) : Host.Outcome State Fault Refusal := runAll s fun d => d.ceRow e.val 0x12

/-- CONVERT (R405). -/
def execConvert (e : Engine) (s : State) : Host.Outcome State Fault Refusal := runAll s fun d => d.ceRow e.val 0x13

/-- EVSTEP (R406). -/
def execEvstep (e : Engine) (s : State) : Host.Outcome State Fault Refusal := runAll s fun d => d.ceRow e.val 0x14

/-- WAIT (R407). -/
def execCeWait (e : Engine) (s : State) : Host.Outcome State Fault Refusal := runAll s fun d => d.ceRow e.val 0x20

/-- WAIT_POLL (R407). -/
def execWaitPoll (e : Engine) (s : State) : Host.Outcome State Fault Refusal := runAll s fun d => d.waitPoll e.val

/-- WAIT_TIMEOUT (R407). -/
def execWaitTimeout (e : Engine) (s : State) : Host.Outcome State Fault Refusal := runAll s fun d => d.waitTimeout e.val

/-- SIGNAL (R408). -/
def execSignal (e : Engine) (s : State) : Host.Outcome State Fault Refusal := runAll s fun d => d.ceRow e.val 0x21

/-- BARRIER (R409). -/
def execBarrier (e : Engine) (s : State) : Host.Outcome State Fault Refusal := runAll s fun d => d.ceRow e.val 0x22

/-- CHECK (R410). -/
def execCheck (e : Engine) (s : State) : Host.Outcome State Fault Refusal := runAll s fun d => d.ceRow e.val 0x23

/-- TSTAMP (R412). -/
def execTstamp (e : Engine) (s : State) : Host.Outcome State Fault Refusal := runAll s fun d => d.ceRow e.val 0x24

/-- WICK (R412). -/
def execWick (e : Engine) (s : State) : Host.Outcome State Fault Refusal := runAll s fun d => d.ceRow e.val 0x25

/-- KICK (R412). -/
def execKick (e : Engine) (s : State) : Host.Outcome State Fault Refusal := runAll s fun d => d.ceRow e.val 0x26

/-- REPLAY (R412). -/
def execReplay (e : Engine) (s : State) : Host.Outcome State Fault Refusal := runAll s fun d => d.ceRow e.val 0x27

/-- LOCK (R412). -/
def execLock (e : Engine) (s : State) : Host.Outcome State Fault Refusal := runAll s fun d => d.ceRow e.val 0x28

/-- RESUME (R415): a write of CE_CTL. -/
def execResume (e : Engine) (p : Path) (v : Word64) (s : State) : Host.Outcome State Fault Refusal :=
  runAll s (write64 p (0x2000000 + 0x10000 * e.val) v)

/-- DROP (R415). -/
def execDrop (e : Engine) (p : Path) (v : Word64) (s : State) : Host.Outcome State Fault Refusal :=
  runAll s (write64 p (0x2000000 + 0x10000 * e.val) v)

/-- SWAP_GO (R418): a write of CE_SWAP_CTL. -/
def execSwapGo (e : Engine) (p : Path) (v : Word64) (s : State) : Host.Outcome State Fault Refusal :=
  runAll s (write64 p (0x2000058 + 0x10000 * e.val) v)

/-- CE_SWAP (R418). -/
def execCeSwap (e : Engine) (s : State) : Host.Outcome State Fault Refusal := runAll s fun d => d.ceSwap e.val

/-! ## Lamplighter and event mode -/

/-- LL_FETCH (R427). -/
def execLlFetch (t : LTile) (s : State) : Host.Outcome State Fault Refusal := runAll s fun d => if d.tileIssues t.val then d.llFetch t.val else d

/-- LL_FILL_READ (R432). -/
def execLlFillRead (t : LTile) (s : State) : Host.Outcome State Fault Refusal :=
  runAll s fun d => if d.tileIssues t.val then d.llFillRead t.val else d

/-- LL_FILL_DATA (R432). -/
def execLlFillData (t : LTile) (s : State) : Host.Outcome State Fault Refusal := runAll s (whenReleased fun d => d.llFillData t.val)

/-- CAROUSEL_ROUND (R436). -/
def execCarouselRound (t : LTile) (s : State) : Host.Outcome State Fault Refusal := runAll s (whenReleased fun d => d.unlessMoves t.val fun d => d.carouselRound t.val)

/-- EV_STEP (R461). -/
def execEvStep (t : LTile) (s : State) : Host.Outcome State Fault Refusal := runAll s (whenReleased fun d => d.evStep t.val)

/-- EV_BARRIER_RELEASE (R462). -/
def execEvBarrierRelease (e : Engine) (seq : BitVec 24) (s : State) : Host.Outcome State Fault Refusal :=
  runAll s (whenReleased fun d => d.evRelease e.val seq.toNat)

end Sys2Proof.Machine
end

