-- ==== Sys2Proof/Machine/PortCmds.lean ====
section
/-! DEFINITION. The commands of chapter 17: test ports, the golden endpoint, outbound requests, injection, and the service port's link. -/

namespace Sys2Proof.Machine
open Sys2Proof.Machine.Reg

/-- The traffic of a die whose rings feed a replay comes from the feed alone (R532). -/
def Dev.unlessFed (d : Dev) (n : Nat) (f : Dev → Dev) : Dev := if d.ringFed n then d else f d

/-- DUT_REQUEST (R480). -/
def execDutRequest (n : Unit4) (q : DutReq) (s : State) : Host.Outcome State Fault Refusal :=
  runAll s fun d => d.unlessFed n.val fun d => d.dutReq n.val q

/-- GE_ANSWER (R483). -/
def execGeAnswer (n : Unit4) (a : GeSent) (s : State) : Host.Outcome State Fault Refusal :=
  runAll s fun d =>
    if d.portUp n.val then
      match a.what with
      | .req tag => d.geAnswer n.val tag.toNat (a.part.map (·.toNat))
      | .fc link => if d.prtEff PC_MODE n.val = 3 then d.fcAnswer n.val link.val else d
    else d

/-- BUDGET_EXPIRE (R483). -/
def execBudgetExpire (n : Unit4) (w : GeResp) (s : State) : Host.Outcome State Fault Refusal :=
  runAll s fun d =>
    if d.portUp n.val then
      match w with
      | .req tag => match d.pendOf n.val tag.toNat with
        | some x => d.budgetOut n.val x
        | none => d
      | .fc link => d.fcOut n.val link.val
    else d

/-- ETH_FRAME_RX (R476). -/
def execEthFrameRx (n : Unit4) (p : Fin 16) (frame : List Byte) (fecUnc : Nat) (s : State) : Host.Outcome State Fault Refusal :=
  runAll s fun d => d.unlessFed n.val fun d => d.ethRx n.val p.val frame fecUnc

/-- ETH_FRAME_TX (R477). -/
def execEthFrameTx (n : Unit4) (p : Fin 16) (frame : List Byte) (mark : Option (BitVec 16)) (s : State) : Host.Outcome State Fault Refusal :=
  runAll s fun d => d.ethTx n.val p.val frame (mark.map (·.toNat))

/-- RAW_RX_WORD (R479). -/
def execRawRxWord (n : Unit4) (l : Fin 32) (w : BitVec 128) (s : State) : Host.Outcome State Fault Refusal :=
  runAll s fun d => d.rawRx n.val l.val w.toNat

/-- RAW_TX_WORD (R479). -/
def execRawTxWord (n : Unit4) (l : Fin 32) (w : Option (BitVec 128)) (s : State) : Host.Outcome State Fault Refusal :=
  runAll s fun d => d.rawTx n.val l.val (w.map (·.toNat))

/-- LANE_MARGIN_MOVE (R71, R470): a burst of 16 or more errors moves the sampling point. -/
def execLaneMarginMove (n : Unit4) (_l : Fin 32) (errors : Nat) (value : BitVec 32) (s : State) : Host.Outcome State Fault Refusal :=
  runAll s fun d => if d.portUp n.val && decide (16 ≤ errors) then d.safeside 4 value.toInt else d

/-- INJ_FIRE (R489). -/
def execInjFire (n : Unit4) (i : Fin 16) (matched : BitVec 16) (s : State) : Host.Outcome State Fault Refusal :=
  runAll s fun d => if d.portUp n.val then d.injTrigger n.val i.val matched.toNat else d

/-- EN (R489): a write of PRT_INJ_CTL. -/
def execEn (n : Unit4) (p : Path) (v : Word64) (s : State) : Host.Outcome State Fault Refusal :=
  runAll s (write64 p (0x7050000 + 0x100000 * n.val) v)

/-- OUTBOUND_REQUEST (R36, R486): a request to the die's host window. -/
def execOutboundRequest (n : Unit4) (q : Rq) (off : DevAddr) (len : Nat) (wr : Option WrBytes) (s : State) :
    Host.Outcome State Fault Refusal :=
  runAll s (whenLive fun d =>
    d.request q (0x4000_0000_0000 + n.val * 2 ^ 44 + off.toNat % 2 ^ 44) (match wr with | some w => w.length | none => len) wr false false none)

/-- The status and bytes of an outbound read's end (R486). -/
def outResult : OutEnd → Nat × List Byte
  | .ok bs => (0, bs)
  | .timeout => (8, [])
  | .error => (1, [])
  | .poisoned bs => (6, bs)

/-- OUTBOUND_COMPLETION (R486). -/
def execOutboundCompletion (n : Unit4) (e : OutEnd) (s : State) : Host.Outcome State Fault Refusal :=
  runAll s fun d => if d.portUp n.val then d.outEnd n.val (outResult e).1 (outResult e).2 else d

/-- An uncorrectable error a link reports, unless an injected fault is what caused it (R489, R493). -/
def Dev.linkErr (d : Dev) (n link : Nat) (err : Option (BitVec 32 × Bool)) : Dev :=
  match err with
  | some (v, false) => d.logEv 0x7004 .D n [dU 1 link, dO v.toNat]
  | _ => d

/-- PRT_LINK (R493). -/
def execPrtLink (n : Unit4) (link : Fin 4) (ltssm rate width : BitVec 8) (e : LinkNow) (s : State) :
    Host.Outcome State Fault Refusal :=
  runAll s fun d => d.unlessFed n.val fun d =>
    if d.portUp n.val then (d.linkEvent n.val link.val ltssm.toNat rate.toNat width.toNat e.up).linkErr n.val link.val e.err else d

/-- CFGREQ_GO (R575): a write of PRT_PC_CFGREQ. -/
def execCfgreqGo (n : Unit4) (p : Path) (v : Word64) (s : State) : Host.Outcome State Fault Refusal :=
  runAll s (write64 p (0x7010300 + 0x100000 * n.val) v)

/-- CFGREQ_DONE (R575). -/
def execCfgreqDone (n : Unit4) (status : Fin 5) (data : BitVec 32) (s : State) : Host.Outcome State Fault Refusal :=
  runAll s fun d => d.cfgReqDone n.val status.val data.toNat

/-- The service port's link falls: its locks lose their owner (R254). -/
def Dev.svcFall (d : Dev) : Dev := if d.svc.up then { d with svc := { d.svc with up := false } }.lossNotice .servicePort else d

/-- SVC_PERST (R491): low resets the service-port controller alone. -/
def execSvcPerst (high : Bool) (s : State) : Host.Outcome State Fault Refusal :=
  runAll s fun d =>
    let d := if high then d else d.svcFall
    { d with svc := { d.svc with rst := !high } }

/-- SVC_LINK_DOWN (R254): the link leaves L0, or a function-level reset leaves it up. -/
def execSvcLinkDown (flr : Bool) (s : State) : Host.Outcome State Fault Refusal :=
  runAll s fun d => if flr then (if d.svc.up then d.lossNotice .servicePort else d) else d.svcFall

/-- BAR2_ACCESS (R573). -/
def execBar2Access (off : BitVec 30) (len : Nat) (wr : Option WrBytes) (s : State) : Host.Outcome State Fault Refusal :=
  runAll s fun d => d.bar2 off.toNat len wr

/-- SVC_LINK_UP (R491). -/
def execSvcLinkUp (s : State) : Host.Outcome State Fault Refusal :=
  runAll s fun d => if d.mlive && !d.svc.rst then { d with svc := { d.svc with up := true } } else d

/-- PRT_FW_FAULT (R493): the controller is held in PORT reset. -/
def execPrtFwFault (n : Unit4) (code : BitVec 32) (s : State) : Host.Outcome State Fault Refusal :=
  runAll s fun d =>
    if d.portUp n.val then
      let d := (d.portResetOn n.val).logF 0x7005 n.val [dU 1 n.val, dO code.toNat]
      d.setPrt n.val { d.prtOf n.val with fwFault := true }
    else d

end Sys2Proof.Machine
end

