-- ==== Sys2Proof/Machine/ColonyCmds.lean ====
section
/-! DEFINITION. The commands of chapters 18 and 19: colonies of coupled devices, and exact replay. -/

namespace Sys2Proof.Machine

/-- CPL_TRAIN (R496). -/
def execCplTrain (k : Unit4) (farId : DevId) (nrow : Fin 64) (ncol : Fin 32) (home : DevId) (s : State) : Host.Outcome State Fault Refusal :=
  runAll s fun d => d.linkTrained k.val farId.val nrow.val ncol.val home.val

/-- CPL_FLIT_RX (R499). -/
def execCplFlitRx (k : Unit4) (flit : List Byte) (s : State) : Host.Outcome State Fault Refusal := runAll s fun d => d.flitRx k.val flit

/-- CPL_FLIT_TX (R502). -/
def execCplFlitTx (k : Unit4) (s : State) : Host.Outcome State Fault Refusal := runAll s fun d => d.flitTx k.val

/-- CPL_LINK_DOWN (R500). -/
def execCplLinkDown (k : Unit4) (silence : Bool) (s : State) : Host.Outcome State Fault Refusal := runAll s fun d => d.linkDown k.val silence

/-- CPL_RETRAIN_DONE (R500). -/
def execCplRetrainDone (k : Unit4) (ok : Bool) (s : State) : Host.Outcome State Fault Refusal := runAll s fun d => d.linkRetrained k.val ok

/-- PUSH (R507). -/
def execPush (k : Unit4) (vc : Fin 2) (s : State) : Host.Outcome State Fault Refusal := runAll s (whenLive fun d => d.takePush k.val vc.val)

/-- PULL (R508). -/
def execPull (k : Unit4) (vc : Fin 2) (s : State) : Host.Outcome State Fault Refusal := runAll s (whenLive fun d => d.takePull k.val vc.val)

/-- PULL_ENGINE_START (R510). -/
def execPullEngineStart (k : Unit4) (s : State) : Host.Outcome State Fault Refusal := runAll s (whenLive fun d => d.pullStart k.val)

/-- PUSH_CPL (R507). -/
def execPushCpl (k : Unit4) (vc : Fin 2) (s : State) : Host.Outcome State Fault Refusal :=
  runAll s (whenLive fun d => d.takePushCpl k.val vc.val)

/-- LOCK_REQ (R520). -/
def execLockReq (k : Unit4) (vc : Fin 2) (s : State) : Host.Outcome State Fault Refusal :=
  runAll s (whenLive fun d => d.takeLockReq k.val vc.val)

/-- LOCK_RES (R520). -/
def execLockRes (k : Unit4) (vc : Fin 2) (s : State) : Host.Outcome State Fault Refusal :=
  runAll s (whenLive fun d => d.takeLockRes k.val vc.val)

/-- BAR_ARRIVE (R518). -/
def execBarArrive (k : Unit4) (vc : Fin 2) (s : State) : Host.Outcome State Fault Refusal :=
  runAll s (whenLive fun d => d.takeArrive k.val vc.val)

/-- BAR_RELEASE (R518). -/
def execBarRelease (k : Unit4) (vc : Fin 2) (s : State) : Host.Outcome State Fault Refusal :=
  runAll s (whenLive fun d => d.takeBarRelease k.val vc.val)

/-- NOTICE (R514). -/
def execNotice (k : Unit4) (vc : Fin 2) (s : State) : Host.Outcome State Fault Refusal := runAll s (whenLive fun d => d.takeNotice k.val vc.val)

/-- CPL_TIMEOUT (R511). -/
def execCplTimeout (k : Unit4) (tag : BitVec 16) (s : State) : Host.Outcome State Fault Refusal :=
  runAll s (whenLive fun d => d.xferTimeout k.val tag.toNat)

/-- RPUSH (R503). -/
def execRpush (q : Rq) (src dst : DevAddr) (len : BitVec 25) (arrive : Option (Fin 64)) (s : State) : Host.Outcome State Fault Refusal :=
  runAll s (whenLive fun d => d.rpush (reqId q) q.tag.toNat src.toNat dst.toNat len.toNat (arrive.map (·.val)) none)

/-- RPULL (R503). -/
def execRpull (q : Rq) (src dst : DevAddr) (len : BitVec 25) (s : State) : Host.Outcome State Fault Refusal :=
  runAll s (whenLive fun d => d.rpull (reqId q) q.tag.toNat src.toNat dst.toNat len.toNat none)

/-- CFWD (R503). -/
def execCfwd (k : Unit4) (pool : Fin 8) (s : State) : Host.Outcome State Fault Refusal := runAll s (whenLive fun d => d.forward k.val pool.val)

/-- CMSG (R503). -/
def execCmsg (s : State) : Host.Outcome State Fault Refusal := runAll s (whenLive fun d => d.moveMsg)

/-- LEAVE (R516): a write of CPL_JOIN_CTL. -/
def execLeave (p : Path) (v : Word64) (s : State) : Host.Outcome State Fault Refusal := runAll s (write64 p 0x8000808 v)

/-- JOIN (R513). -/
def execCplJoin (p : Path) (v : Word64) (s : State) : Host.Outcome State Fault Refusal := runAll s (write64 p 0x8000808 v)

/-! ## Exact replay -/

/-- ARM (R526): a write of GLB_REP_CTL. -/
def execRepArm (p : Path) (v : Word64) (s : State) : Host.Outcome State Fault Refusal := runAll s (write64 p 0x400 v)

/-- STOP (R526). -/
def execRepStop (p : Path) (v : Word64) (s : State) : Host.Outcome State Fault Refusal := runAll s (write64 p 0x400 v)

/-- REP_START (R526). -/
def execRepStart (s : State) : Host.Outcome State Fault Refusal := runAll s fun d => d.repStart

/-- REP_END (R526). -/
def execRepEnd (s : State) : Host.Outcome State Fault Refusal := runAll s fun d => d.repEnd

/-- REPLAY_FEED (R532). -/
def execReplayFeed (n : Unit4) (g : Fin 17) (s : State) : Host.Outcome State Fault Refusal := runAll s fun d => d.replayFeed n.val g.val

/-- LINK_FIX (R536). -/
def execLinkFix (k : Unit4) (s : State) : Host.Outcome State Fault Refusal := runAll s fun d => d.linkFix k.val

end Sys2Proof.Machine
end

