-- ==== Sys2Proof/Machine/LoadCmds.lean ====
section
/-! DEFINITION. The commands of chapters 03 and 04: configuration images and loading, the Keep bank and the Ember record. -/

namespace Sys2Proof.Machine

/-- LOAD_HEADER (R95). -/
def execLoadHeader (slot : Fin 2) (bytes : List Byte) (s : State) : Host.Outcome State Fault Refusal :=
  runAll s fun d => d.loadHeader slot.val bytes

/-- CSR_SET (R89). -/
def execCsrSet (stored : List Byte) (s : State) : Host.Outcome State Fault Refusal :=
  runAll s fun d => d.sectRow 0x0001 stored Dev.useCsrSet

/-- PORT_FW (R89). -/
def execPortFw (stored : List Byte) (s : State) : Host.Outcome State Fault Refusal :=
  runAll s fun d => d.sectRow 0x0002 stored Dev.usePortFw

/-- FABRIC (R89). -/
def execFabric (stored : List Byte) (s : State) : Host.Outcome State Fault Refusal :=
  runAll s fun d => d.sectRow 0x0010 stored Dev.useFabric

/-- EBM (R89). -/
def execEbm (stored : List Byte) (s : State) : Host.Outcome State Fault Refusal :=
  runAll s fun d => d.sectRow 0x0011 stored Dev.useEbm

/-- TILE_PROG (R89). -/
def execTileProg (stored : List Byte) (s : State) : Host.Outcome State Fault Refusal :=
  runAll s fun d => d.sectRow 0x0020 stored Dev.useTileProg

/-- CMD_LIST (R89): written by address as DATA is. -/
def execCmdList (stored : List Byte) (s : State) : Host.Outcome State Fault Refusal :=
  runAll s fun d => d.sectRow 0x0030 stored Dev.useData

/-- DATA (R89). -/
def execData (stored : List Byte) (s : State) : Host.Outcome State Fault Refusal :=
  runAll s fun d => d.sectRow 0x0040 stored Dev.useData

/-- LOAD_HBM_WAIT_END (R92). -/
def execLoadHbmWaitEnd (s : State) : Host.Outcome State Fault Refusal := runAll s fun d => d.hbmWaitEnd

/-- FOLLOWER_A (R89). -/
def execFollowerA (stored : List Byte) (s : State) : Host.Outcome State Fault Refusal :=
  runAll s fun d => d.sectRow 0x0050 stored (Dev.useFollower 0)

/-- FOLLOWER_B (R89). -/
def execFollowerB (stored : List Byte) (s : State) : Host.Outcome State Fault Refusal :=
  runAll s fun d => d.sectRow 0x0051 stored (Dev.useFollower 1)

/-- FOLLOWER_PACKET (R116). -/
def execFollowerPacket (target : BitVec 16) (kind : BitVec 8) (payload : List Byte) (s : State) : Host.Outcome State Fault Refusal :=
  runAll s fun d => d.followerPacket target.toNat kind.toNat payload

/-- A_DONE (R101). -/
def execADone (s : State) : Host.Outcome State Fault Refusal := runAll s fun d => d.stageADone

/-- STAGE_B_DONE (R101). -/
def execStageBDone (s : State) : Host.Outcome State Fault Refusal := runAll s fun d => d.stageBDone

/-- B_DONE (R101). -/
def execBDone (s : State) : Host.Outcome State Fault Refusal := runAll s fun d => d.syncDone

/-- SYNC_TIMEOUT (R106). -/
def execSyncTimeout (s : State) : Host.Outcome State Fault Refusal := runAll s fun d => d.syncLate

/-- STREAM_TIMEOUT (R105). -/
def execStreamTimeout (s : State) : Host.Outcome State Fault Refusal := runAll s fun d => d.streamLate

/-- FORCE_START (R106): a write of CFG_CTL. -/
def execForceStart (p : Path) (v : Word64) (s : State) : Host.Outcome State Fault Refusal := runAll s (write64 p 0x100008 v)

/-- LOAD (R107). -/
def execLoad (p : Path) (v : Word64) (s : State) : Host.Outcome State Fault Refusal := runAll s (write64 p 0x100008 v)

/-- CFG_LOAD_DATA (R126). -/
def execCfgLoadData (p : Path) (bytes : Fin 9) (v : Word64) (s : State) : Host.Outcome State Fault Refusal :=
  runAll s fun d => d.csrWrite p 0x100010 bytes.val v.toNat

/-- ENROLL (R98): a write of CFG_KEY_CTL. -/
def execEnroll (p : Path) (v : Word64) (s : State) : Host.Outcome State Fault Refusal := runAll s (write64 p 0x100200 v)

/-- ZEROIZE (R99). -/
def execZeroize (p : Path) (v : Word64) (s : State) : Host.Outcome State Fault Refusal := runAll s (write64 p 0x100200 v)

/-- SCRUB_FRAME_CHECK (R121). -/
def execScrubFrameCheck (r : Region) (u : FrameUpset) (s : State) : Host.Outcome State Fault Refusal :=
  runAll s fun d => d.scrubFrame r.val u

/-! ## Keep bank and Ember record -/

/-- KEEP_WRITE (R132). -/
def execKeepWrite (p : Path) (n : Fin 4096) (bytes : Fin 9) (v : Word64) (s : State) : Host.Outcome State Fault Refusal :=
  runAll s fun d => d.csrWrite p (0x400000 + 8 * n.val) bytes.val v.toNat

/-- KEEP_WRITE_DONE (R133). -/
def execKeepWriteDone (s : State) : Host.Outcome State Fault Refusal := runAll s fun d => d.keepDone.heldRelease

/-- KEEP_READ (R138): of a word, or from 4,096 of its wear counter. -/
def execKeepRead (p : Path) (n : Fin 8192) (u : Upset) (s : State) : Host.Outcome State Fault Refusal :=
  runAll s fun d => (d.keepUpset n.val u).csrRead p (0x400000 + 8 * n.val) 8

/-- EMBER_COMMIT (R143). -/
def execEmberCommit (s : State) : Host.Outcome State Fault Refusal := runAll s fun d => d.embCommit

/-- EMBER_POWERUP_CHECK (R147). -/
def execEmberPowerupCheck (s : State) : Host.Outcome State Fault Refusal := runAll s fun d => d.embCheck

/-- EMB_RD_IDX (R148). -/
def execEmbRdIdx (p : Path) (v : Word64) (s : State) : Host.Outcome State Fault Refusal := runAll s (write64 p 0x300010 v)

/-- EMB_USER_CTL (R149). -/
def execEmbUserCtl (p : Path) (v : Word64) (s : State) : Host.Outcome State Fault Refusal := runAll s (write64 p 0x3000A0 v)

/-- PIN_CLEAR (R150): a write of EMB_CTL. -/
def execPinClear (p : Path) (v : Word64) (s : State) : Host.Outcome State Fault Refusal := runAll s (write64 p 0x300200 v)

/-- PIN_CLEAR_DONE (R151). -/
def execPinClearDone (s : State) : Host.Outcome State Fault Refusal := runAll s fun d => d.pinClearDone

end Sys2Proof.Machine
end

