-- ==== Sys2Proof/Machine/SafetyCmds.lean ====
section
/-! DEFINITION. The commands of chapter 20: the witness rotation, wicks, register signatures, sensor guard channels, SAFE_N and locks. -/

namespace Sys2Proof.Machine

/-- SELFTEST (R546). -/
def execSelftest (checkers : BitVec 32) (tiles : BitVec 65) (s : State) : Host.Outcome State Fault Refusal :=
  runAll s fun d => d.selfTest checkers.toNat tiles.toNat

/-- WITNESS_SLOT (R541). -/
def execWitnessSlot (s : State) : Host.Outcome State Fault Refusal := runAll s fun d => d.witSlot.tileDue

/-- QUIET_POINT (R541). -/
def execQuietPoint (s : State) : Host.Outcome State Fault Refusal := runAll s fun d => d.quietPoint

/-- WIT_SKIP (R543): a TILE reset that waited for the handover then acts (R593). -/
def execWitSkip (s : State) : Host.Outcome State Fault Refusal := runAll s fun d => d.witTimeout.tileDue

/-- WITNESS_SWITCH (R27, R541). -/
def execWitnessSwitch (s : State) : Host.Outcome State Fault Refusal := runAll s fun d => d.witSwitch.tileDue

/-- PATTERN_TEST_DONE (R545). -/
def execPatternTestDone (signature : Word64) (part : Fin 9) (s : State) : Host.Outcome State Fault Refusal :=
  runAll s fun d => d.patternDone signature part.val

/-- WIT_OVERDUE (R545). -/
def execWitOverdue (p : PTile) (s : State) : Host.Outcome State Fault Refusal := runAll s fun d => d.witOverdue p.val

/-- WICK_ARM (R548): a write of WICK_CTL_n. -/
def execWickArm (n : Fin 96) (p : Path) (v : Word64) (s : State) : Host.Outcome State Fault Refusal :=
  runAll s (write64 p (0x201010 + 0x20 * n.val) v)

/-- WICK_DISARM (R552). -/
def execWickDisarm (n : Fin 96) (p : Path) (v : Word64) (s : State) : Host.Outcome State Fault Refusal :=
  runAll s (write64 p (0x201010 + 0x20 * n.val) v)

/-- WICK_KICK (R550). -/
def execWickKick (n : Fin 96) (p : Path) (v : Word64) (s : State) : Host.Outcome State Fault Refusal :=
  runAll s (write64 p (0x201010 + 0x20 * n.val) v)

/-- WICK_EXPIRE (R549). -/
def execWickExpire (n : Fin 96) (s : State) : Host.Outcome State Fault Refusal := runAll s fun d => d.wickLate n.val

/-- REG_SIG (R554). -/
def execRegSig (upset : BitVec 32) (s : State) : Host.Outcome State Fault Refusal := runAll s fun d => d.regSigCheck upset.toNat

/-- SGD_DOORBELL (R556): a write of SGD_CH_DB_n. -/
def execSgdDoorbell (n : Fin 32) (p : Path) (v : Word64) (s : State) : Host.Outcome State Fault Refusal :=
  runAll s (write64 p (0x500020 + 0x40 * n.val) v)

/-- SGD_SEAL (R557). -/
def execSgdSeal (n : Fin 32) (s : State) : Host.Outcome State Fault Refusal := runAll s fun d => d.sgdSeal n.val

/-- SGD_GUARD (R558). -/
def execSgdGuard (n : Fin 32) (s : State) : Host.Outcome State Fault Refusal := runAll s fun d => d.sgdGuard n.val

/-- SGD_GAP (R560). -/
def execSgdGap (n : Fin 32) (s : State) : Host.Outcome State Fault Refusal := runAll s fun d => d.sgdGap n.val

/-- SAFE_PIN (R564). -/
def execSafePin (high : Bool) (s : State) : Host.Outcome State Fault Refusal := runAll s fun d => d.safePin high

/-- SAF_CLEAR (R565): a write of SAF_CLEAR. -/
def execSafClear (p : Path) (v : Word64) (s : State) : Host.Outcome State Fault Refusal := runAll s (write64 p 0x200010 v)

/-- SAFE_N_RELEASE (R565). -/
def execSafeNRelease (s : State) : Host.Outcome State Fault Refusal := runAll s fun d => d.safeRelease

/-- SAF_LOCK (R569): a write of SAF_LOCK. -/
def execSafLock (p : Path) (v : Word64) (s : State) : Host.Outcome State Fault Refusal := runAll s (write64 p 0x200020 v)

end Sys2Proof.Machine
end

