-- ==== Sys2Proof/Machine/MgtCmds.lean ====
section
/-! DEFINITION. The commands of chapters 21 and 22: SMBus, the TAP, the UART, telemetry, lantern probes, the ledger audit; and the end
of a bridge or bond test (chapter 01). -/

namespace Sys2Proof.Machine
open Sys2Proof.Machine.Reg

/-! ## SMBus (R576, R577) -/

/-- CSR_ADDR (R577). -/
def execCsrAddr (v : BitVec 32) (pecOk : Bool) (s : State) : Host.Outcome State Fault Refusal :=
  runAll s fun d => d.smbDo pecOk false fun d => d.smbSetAddr v.toNat

/-- CSR_READ (R577). -/
def execCsrRead (pecOk : Bool) (s : State) : Host.Outcome State Fault Refusal := runAll s fun d => d.smbDo pecOk false Dev.smbReadCsr

/-- CSR_WRITE (R577). -/
def execCsrWrite (v : Word64) (pecOk : Bool) (s : State) : Host.Outcome State Fault Refusal :=
  runAll s fun d => d.smbDo pecOk false fun d => d.smbWriteCsr v.toNat

/-- CSR_STATUS (R577). -/
def execCsrStatus (pecOk : Bool) (s : State) : Host.Outcome State Fault Refusal := runAll s fun d => d.smbDo pecOk false Dev.smbStat

/-- STATUS (R577): answered before ROOT lock too (R576). -/
def execStatus (pecOk : Bool) (s : State) : Host.Outcome State Fault Refusal := runAll s fun d => d.smbDo pecOk true Dev.smbStatus

/-- TEMP_MAX (R577). -/
def execTempMax (pecOk : Bool) (s : State) : Host.Outcome State Fault Refusal :=
  runAll s fun d => d.smbDo pecOk false fun d => d.smbBytes 2 (d.fld MGT_TEMP_MAX)

/-- POWER (R577). -/
def execPower (pecOk : Bool) (s : State) : Host.Outcome State Fault Refusal :=
  runAll s fun d => d.smbDo pecOk false fun d => d.smbBytes 2 (d.fld MGT_PWR)

/-- EMB_SEQ (R577). -/
def execEmbSeq (pecOk : Bool) (s : State) : Host.Outcome State Fault Refusal :=
  runAll s fun d => d.smbDo pecOk false fun d => d.smbBytes 8 d.ember.seqNext

/-- HBM_TEMP (R577). -/
def execHbmTemp (pecOk : Bool) (s : State) : Host.Outcome State Fault Refusal := runAll s fun d => d.smbDo pecOk false Dev.smbTemps

/-- SMB_STRETCH_TIMEOUT (R576). -/
def execSmbStretchTimeout (s : State) : Host.Outcome State Fault Refusal := runAll s fun d => d.smbTimeout

/-! ## The TAP (R578 to R581) -/

/-- EXTEST (R578). -/
def execExtest (s : State) : Host.Outcome State Fault Refusal := runAll s fun d => d.tapSelect 0x00

/-- SAMPLE/PRELOAD (R578). -/
def execSamplePreload (s : State) : Host.Outcome State Fault Refusal := runAll s fun d => d.tapSelect 0x01

/-- The TAP selects IDCODE, and its register reads the device's code. -/
def Dev.tapIdcode (d : Dev) : Dev := if d.safLive then (d.tapSelect 0x02).emit (.tap 0xB0E645CF) else d

/-- IDCODE (R578). -/
def execIdcode (s : State) : Host.Outcome State Fault Refusal := runAll s fun d => d.tapIdcode

/-- CLAMP (R578). -/
def execClamp (s : State) : Host.Outcome State Fault Refusal := runAll s fun d => d.tapSelect 0x03

/-- HIGHZ (R578). -/
def execHighz (s : State) : Host.Outcome State Fault Refusal := runAll s fun d => d.tapSelect 0x04

/-- EXTEST_PULSE (R578). -/
def execExtestPulse (s : State) : Host.Outcome State Fault Refusal := runAll s fun d => d.tapSelect 0x05

/-- EXTEST_TRAIN (R578). -/
def execExtestTrain (s : State) : Host.Outcome State Fault Refusal := runAll s fun d => d.tapSelect 0x06

/-- CSR (R580). -/
def execCsr (dr : BitVec 96) (s : State) : Host.Outcome State Fault Refusal := runAll s fun d => d.tapAccess dr.toNat

/-- CFG_STREAM (R581). -/
def execCfgStream (v : Word64) (s : State) : Host.Outcome State Fault Refusal := runAll s fun d => d.tapStream v.toNat

/-- BYPASS (R578). -/
def execBypass (s : State) : Host.Outcome State Fault Refusal := runAll s fun d => d.tapSelect 0xFF

/-- TRST (R578): TRST_N low selects IDCODE. -/
def execTrst (s : State) : Host.Outcome State Fault Refusal := runAll s fun d => d.tapSelect 0x02

/-! ## UART, telemetry, probes, audit -/

/-- UART_LINE (R582). -/
def execUartLine (s : State) : Host.Outcome State Fault Refusal := runAll s fun d => d.uartLine

/-- UART_USER (R582): a write of MGT_UART_USER. -/
def execUartUser (p : Path) (v : Word64) (s : State) : Host.Outcome State Fault Refusal := runAll s (write64 p 0x600020 v)

/-- TELEMETRY_UPDATE (R583). -/
def execTelemetryUpdate (temps : List (BitVec 16)) (pwr vcore : BitVec 16) (mj : BitVec 32) (s : State) :
    Host.Outcome State Fault Refusal :=
  runAll s fun d => d.telemetry temps pwr.toNat vcore.toNat mj.toNat

/-- PROBE_SAMPLE (R585). -/
def execProbeSample (level seen : BitVec 16) (s : State) : Host.Outcome State Fault Refusal := runAll s fun d => d.probeSample level seen

/-- PRB_CAP_EN (R587): a write of MGT_PRB_CAP_CTL. -/
def execPrbCapEn (p : Path) (v : Word64) (s : State) : Host.Outcome State Fault Refusal := runAll s (write64 p 0x601110 v)

/-- AUDIT (R601): a write of GLB_LEDGER_CTL. -/
def execAudit (p : Path) (v : Word64) (s : State) : Host.Outcome State Fault Refusal := runAll s (write64 p 0x500 v)

/-- LEDGER_ITEM_CHECK (R601). -/
def execLedgerItemCheck (quiet : Bool) (s : State) : Host.Outcome State Fault Refusal := runAll s fun d => d.auditStep quiet

/-- PFAIL_N_RISE (R612). -/
def execPfailNRise (s : State) : Host.Outcome State Fault Refusal := runAll s fun d => d.pfailRise

/-- A bridge or bond test that passes shows in GLB_DIE_STAT (R43). -/
def Dev.dieTested (d : Dev) (n : Nat) (passed : Bool) : Dev :=
  if !d.mlive || !passed then d else if n < 4 then d.setBit DIE_PD_UP n true else d.setBit DIE_CEL_OK (n - 4) true

/-- BRIDGE_AND_BOND_TEST_DONE (R43). -/
def execBridgeAndBondTestDone (n : Fin 6) (passed : Bool) (s : State) : Host.Outcome State Fault Refusal :=
  runAll s fun d => d.dieTested n.val passed

end Sys2Proof.Machine
end

