-- ==== Sys2Proof/Machine/Dispatch.lean ====
section
/-! DEFINITION. The dispatch: one arm per command, one meaning per arm. -/

namespace Sys2Proof.Machine

def exec (i : Instr) (s : State) : Host.Outcome State Fault Refusal :=
  match i with
  | .por => Sys2Proof.Machine.execPor s
  | .vauxGood rails => Sys2Proof.Machine.execVauxGood rails s
  | .sysRstN lowNs taken mode cfgId smbAddr pfailHigh => Sys2Proof.Machine.execSysRstN lowNs taken mode cfgId smbAddr pfailHigh s
  | .rootLock => Sys2Proof.Machine.execRootLock s
  | .rootLoss => Sys2Proof.Machine.execRootLoss s
  | .clockMonitorWindow clk ppm => Sys2Proof.Machine.execClockMonitorWindow clk ppm s
  | .fclkDivSwitch k => Sys2Proof.Machine.execFclkDivSwitch k s
  | .droopStretch => Sys2Proof.Machine.execDroopStretch s
  | .thermalStepJudge => Sys2Proof.Machine.execThermalStepJudge s
  | .powerCapStep => Sys2Proof.Machine.execPowerCapStep s
  | .thermTrip sensor tempC => Sys2Proof.Machine.execThermTrip sensor tempC s
  | .avsTimeout => Sys2Proof.Machine.execAvsTimeout s
  | .safesideMove loop value => Sys2Proof.Machine.execSafesideMove loop value s
  | .railMonitorSample inside mv avsMoving => Sys2Proof.Machine.execRailMonitorSample inside mv avsMoving s
  | .vauxLoss torn keepHit => Sys2Proof.Machine.execVauxLoss torn keepHit s
  | .pfailAccept lowNs => Sys2Proof.Machine.execPfailAccept lowNs s
  | .powerFailCommitDone => Sys2Proof.Machine.execPowerFailCommitDone s
  | .sys p v => Sys2Proof.Machine.execSys p v s
  | .reload p v => Sys2Proof.Machine.execReload p v s
  | .reloadResetDone => Sys2Proof.Machine.execReloadResetDone s
  | .eng p v => Sys2Proof.Machine.execEng p v s
  | .engResetDone e => Sys2Proof.Machine.execEngResetDone e s
  | .tile p v => Sys2Proof.Machine.execTile p v s
  | .tileWritebackDone t => Sys2Proof.Machine.execTileWritebackDone t s
  | .tileResetDone t => Sys2Proof.Machine.execTileResetDone t s
  | .perstN d high => Sys2Proof.Machine.execPerstN d high s
  | .perstRelease d => Sys2Proof.Machine.execPerstRelease d s
  | .apply p v => Sys2Proof.Machine.execApply p v s
  | .tsSlewDone => Sys2Proof.Machine.execTsSlewDone s
  | .ppsInEdge => Sys2Proof.Machine.execPpsInEdge s
  | .ppsOutPulse => Sys2Proof.Machine.execPpsOutPulse s
  | .glbTsRead p part => Sys2Proof.Machine.execGlbTsRead p part s
  | .annNclkRead p part => Sys2Proof.Machine.execAnnNclkRead p part s
  | .glbRepRtRead p part => Sys2Proof.Machine.execGlbRepRtRead p part s
  | .registerWrite p off bytes v => Sys2Proof.Machine.execRegisterWrite p off bytes v s
  | .elasticBufferEvent lane => Sys2Proof.Machine.execElasticBufferEvent lane s
  | .loadHeader slot bytes => Sys2Proof.Machine.execLoadHeader slot bytes s
  | .csrSet stored => Sys2Proof.Machine.execCsrSet stored s
  | .portFw stored => Sys2Proof.Machine.execPortFw stored s
  | .fabric stored => Sys2Proof.Machine.execFabric stored s
  | .ebm stored => Sys2Proof.Machine.execEbm stored s
  | .tileProg stored => Sys2Proof.Machine.execTileProg stored s
  | .cmdList stored => Sys2Proof.Machine.execCmdList stored s
  | .data stored => Sys2Proof.Machine.execData stored s
  | .loadHbmWaitEnd => Sys2Proof.Machine.execLoadHbmWaitEnd s
  | .followerA stored => Sys2Proof.Machine.execFollowerA stored s
  | .followerB stored => Sys2Proof.Machine.execFollowerB stored s
  | .followerPacket target kind payload => Sys2Proof.Machine.execFollowerPacket target kind payload s
  | .aDone => Sys2Proof.Machine.execADone s
  | .stageBDone => Sys2Proof.Machine.execStageBDone s
  | .bDone => Sys2Proof.Machine.execBDone s
  | .syncTimeout => Sys2Proof.Machine.execSyncTimeout s
  | .streamTimeout => Sys2Proof.Machine.execStreamTimeout s
  | .forceStart p v => Sys2Proof.Machine.execForceStart p v s
  | .load p v => Sys2Proof.Machine.execLoad p v s
  | .cfgLoadData p bytes v => Sys2Proof.Machine.execCfgLoadData p bytes v s
  | .enroll p v => Sys2Proof.Machine.execEnroll p v s
  | .zeroize p v => Sys2Proof.Machine.execZeroize p v s
  | .scrubFrameCheck r u => Sys2Proof.Machine.execScrubFrameCheck r u s
  | .keepWrite p n bytes v => Sys2Proof.Machine.execKeepWrite p n bytes v s
  | .keepWriteDone => Sys2Proof.Machine.execKeepWriteDone s
  | .keepRead p n u => Sys2Proof.Machine.execKeepRead p n u s
  | .emberCommit => Sys2Proof.Machine.execEmberCommit s
  | .emberPowerupCheck => Sys2Proof.Machine.execEmberPowerupCheck s
  | .embRdIdx p v => Sys2Proof.Machine.execEmbRdIdx p v s
  | .embUserCtl p v => Sys2Proof.Machine.execEmbUserCtl p v s
  | .pinClear p v => Sys2Proof.Machine.execPinClear p v s
  | .pinClearDone => Sys2Proof.Machine.execPinClearDone s
  | .fabricRamWrite b a bb => Sys2Proof.Machine.execFabricRamWrite b a bb s
  | .fabricRamRead b portB entry u => Sys2Proof.Machine.execFabricRamRead b portB entry u s
  | .qcPatrol b word u => Sys2Proof.Machine.execQcPatrol b word u s
  | .fifoPush b v => Sys2Proof.Machine.execFifoPush b v s
  | .fifoPop b => Sys2Proof.Machine.execFifoPop b s
  | .logPush b v => Sys2Proof.Machine.execLogPush b v s
  | .logTrigger b level => Sys2Proof.Machine.execLogTrigger b level s
  | .rearm b p v => Sys2Proof.Machine.execRearm b p v s
  | .creditPush b v => Sys2Proof.Machine.execCreditPush b v s
  | .creditPop b => Sys2Proof.Machine.execCreditPop b s
  | .qcFlagSync b toPopSide => Sys2Proof.Machine.execQcFlagSync b toPopSide s
  | .qcDeviceAccess q b off len wr => Sys2Proof.Machine.execQcDeviceAccess q b off len wr s
  | .queueTimeout b => Sys2Proof.Machine.execQueueTimeout b s
  | .rgOreq r tag q => Sys2Proof.Machine.execRgOreq r tag q s
  | .rgIreq r accept => Sys2Proof.Machine.execRgIreq r accept s
  | .rgIwait r tag => Sys2Proof.Machine.execRgIwait r tag s
  | .rgIrsp r tag st data => Sys2Proof.Machine.execRgIrsp r tag st data s
  | .sliceHold n => Sys2Proof.Machine.execSliceHold n s
  | .sliceMul n a b sh => Sys2Proof.Machine.execSliceMul n a b sh s
  | .sliceMac n a b sh => Sys2Proof.Machine.execSliceMac n a b sh s
  | .sliceCmac n a b c sh => Sys2Proof.Machine.execSliceCmac n a b c sh s
  | .sliceMulj n a b sh => Sys2Proof.Machine.execSliceMulj n a b sh s
  | .sliceMacj n a b sh => Sys2Proof.Machine.execSliceMacj n a b sh s
  | .sliceCasc n a b sh => Sys2Proof.Machine.execSliceCasc n a b sh s
  | .sliceClr n => Sys2Proof.Machine.execSliceClr n s
  | .ovfClr n overflowNow => Sys2Proof.Machine.execOvfClr n overflowNow s
  | .bexClr n => Sys2Proof.Machine.execBexClr n s
  | .adv n => Sys2Proof.Machine.execAdv n s
  | .agLoad n lenHi lenLo strideHi strideLo niHi niLo noHi noLo => Sys2Proof.Machine.execAgLoad n lenHi lenLo strideHi strideLo niHi niLo noHi noLo s
  | .go p v => Sys2Proof.Machine.execGo p v s
  | .exchFetchDone => Sys2Proof.Machine.execExchFetchDone s
  | .exchCheckDone => Sys2Proof.Machine.execExchCheckDone s
  | .exchAtReached => Sys2Proof.Machine.execExchAtReached s
  | .exchDrainDone => Sys2Proof.Machine.execExchDrainDone s
  | .exchDrain => Sys2Proof.Machine.execExchDrain s
  | .exchWriteDone => Sys2Proof.Machine.execExchWriteDone s
  | .exchThaw => Sys2Proof.Machine.execExchThaw s
  | .hxTimerMatch r t => Sys2Proof.Machine.execHxTimerMatch r t s
  | .hxEdge r d rising => Sys2Proof.Machine.execHxEdge r d rising s
  | .hxCellRead r c => Sys2Proof.Machine.execHxCellRead r c s
  | .hxCellWrite r c x => Sys2Proof.Machine.execHxCellWrite r c x s
  | .flitInject src new ring slot err cnt => Sys2Proof.Machine.execFlitInject src new ring slot err cnt s
  | .keepMark sl ring slot => Sys2Proof.Machine.execKeepMark sl ring slot s
  | .flitEject dst cls cw ccw take lost err => Sys2Proof.Machine.execFlitEject dst cls cw ccw take lost err s
  | .flitReturned src dst cls => Sys2Proof.Machine.execFlitReturned src dst cls s
  | .hopCrcError ring sender e => Sys2Proof.Machine.execHopCrcError ring sender e s
  | .creditReturn src dst => Sys2Proof.Machine.execCreditReturn src dst s
  | .rd q addr units noalloc evictFirst => Sys2Proof.Machine.execRd q addr units noalloc evictFirst s
  | .wr q addr data noalloc evictFirst count => Sys2Proof.Machine.execWr q addr data noalloc evictFirst count s
  | .csrRdReq q off bytes => Sys2Proof.Machine.execCsrRdReq q off bytes s
  | .csrWrReq q off bytes v => Sys2Proof.Machine.execCsrWrReq q off bytes v s
  | .lockAcq q lock => Sys2Proof.Machine.execLockAcq q lock s
  | .lockAcqw q lock => Sys2Proof.Machine.execLockAcqw q lock s
  | .lockRel q lock => Sys2Proof.Machine.execLockRel q lock s
  | .lockDecision err => Sys2Proof.Machine.execLockDecisionWith err s
  | .lockOwnerLoss o => Sys2Proof.Machine.execLockOwnerLoss o s
  | .annSpLock p v => Sys2Proof.Machine.execAnnSpLock p v s
  | .rdSh t line => Sys2Proof.Machine.execRdSh t line s
  | .rdEx t line => Sys2Proof.Machine.execRdEx t line s
  | .upgr t line => Sys2Proof.Machine.execUpgr t line s
  | .wb t line => Sys2Proof.Machine.execWb t line s
  | .evc t line => Sys2Proof.Machine.execEvc t line s
  | .flush q line => Sys2Proof.Machine.execFlush q line s
  | .flushInv q line => Sys2Proof.Machine.execFlushInv q line s
  | .discard q line => Sys2Proof.Machine.execDiscard q line s
  | .fence q sl => Sys2Proof.Machine.execFence q sl s
  | .snpInv t line => Sys2Proof.Machine.execSnpInv t line s
  | .snpDown t line => Sys2Proof.Machine.execSnpDown t line s
  | .snpClean t line => Sys2Proof.Machine.execSnpClean t line s
  | .snpAck t line => Sys2Proof.Machine.execSnpAck t line s
  | .snpData t line => Sys2Proof.Machine.execSnpData t line s
  | .lineQueueAdvance line => Sys2Proof.Machine.execLineQueueAdvance line s
  | .celFill line host => Sys2Proof.Machine.execCelFill line host s
  | .snpinvH2D d line took => Sys2Proof.Machine.execSnpinvH2D d line took s
  | .snpdataH2D d line took => Sys2Proof.Machine.execSnpdataH2D d line took s
  | .snpcurH2D d line took => Sys2Proof.Machine.execSnpcurH2D d line took s
  | .walkFlush sl p v => Sys2Proof.Machine.execWalkFlush sl p v s
  | .walkFlushInv sl p v => Sys2Proof.Machine.execWalkFlushInv sl p v s
  | .walkDiscard sl p v => Sys2Proof.Machine.execWalkDiscard sl p v s
  | .celFlushDone sl => Sys2Proof.Machine.execCelFlushDone sl s
  | .celPatrol sl set e => Sys2Proof.Machine.execCelPatrol sl set e s
  | .celModeWrite sl p v => Sys2Proof.Machine.execCelModeWrite sl p v s
  | .cacheQWrite t p v => Sys2Proof.Machine.execCacheQWrite t p v s
  | .tilSramPatrol t unit u => Sys2Proof.Machine.execTilSramPatrol t unit u s
  | .hbmTrainDone h fail dqSpares caSpares => Sys2Proof.Machine.execHbmTrainDone h fail dqSpares caSpares s
  | .hbmRequest h L len wr poison cls dline rid => Sys2Proof.Machine.execHbmRequest h L len wr poison cls dline rid s
  | .hbmSchedule h pc ready => Sys2Proof.Machine.execHbmSchedule h pc ready s
  | .hbmReadReturn h f => Sys2Proof.Machine.execHbmReadReturn h f s
  | .hbmRefresh h pc postpone => Sys2Proof.Machine.execHbmRefresh h pc postpone s
  | .hbmPatrol h f => Sys2Proof.Machine.execHbmPatrol h f s
  | .hbmTempRead h tempC => Sys2Proof.Machine.execHbmTempRead h tempC s
  | .pageTimeout h pc bank => Sys2Proof.Machine.execPageTimeout h pc bank s
  | .caParityAlert h chan command again => Sys2Proof.Machine.execCaParityAlert h chan command again s
  | .retrain h p v => Sys2Proof.Machine.execRetrain h p v s
  | .hbmRetrain h fail dqSpares caSpares => Sys2Proof.Machine.execHbmRetrain h fail dqSpares caSpares s
  | .hbmArbCfgWrite h p v => Sys2Proof.Machine.execHbmArbCfgWrite h p v s
  | .celArbCfgWrite sl p v => Sys2Proof.Machine.execCelArbCfgWrite sl p v s
  | .arrayStepStart t fault => Sys2Proof.Machine.execArrayStepStart t fault s
  | .heldLoad t => Sys2Proof.Machine.execHeldLoad t s
  | .drain t upset => Sys2Proof.Machine.execDrain t upset s
  | .scaleClr t n p v => Sys2Proof.Machine.execScaleClr t n p v s
  | .nanReportJudge => Sys2Proof.Machine.execNanReportJudge s
  | .nanFirstFinal => Sys2Proof.Machine.execNanFirstFinal s
  | .nanFirstClear p v => Sys2Proof.Machine.execNanFirstClear p v s
  | .nanCapClear t p v => Sys2Proof.Machine.execNanCapClear t p v s
  | .vadd vi => Sys2Proof.Machine.execVadd vi s
  | .vsub vi => Sys2Proof.Machine.execVsub vi s
  | .vmul vi => Sys2Proof.Machine.execVmul vi s
  | .mulh vi => Sys2Proof.Machine.execMulh vi s
  | .mad vi => Sys2Proof.Machine.execMad vi s
  | .vdiv vi => Sys2Proof.Machine.execVdiv vi s
  | .vrem vi => Sys2Proof.Machine.execVrem vi s
  | .vand vi => Sys2Proof.Machine.execVand vi s
  | .vor vi => Sys2Proof.Machine.execVor vi s
  | .vxor vi => Sys2Proof.Machine.execVxor vi s
  | .shl vi => Sys2Proof.Machine.execShl vi s
  | .shr vi => Sys2Proof.Machine.execShr vi s
  | .sar vi => Sys2Proof.Machine.execSar vi s
  | .vmin vi => Sys2Proof.Machine.execVmin vi s
  | .vmax vi => Sys2Proof.Machine.execVmax vi s
  | .cmp vi op => Sys2Proof.Machine.execCmp vi op s
  | .fadd vi => Sys2Proof.Machine.execFadd vi s
  | .fsub vi => Sys2Proof.Machine.execFsub vi s
  | .fmul vi => Sys2Proof.Machine.execFmul vi s
  | .fma vi => Sys2Proof.Machine.execFma vi s
  | .fmin vi => Sys2Proof.Machine.execFmin vi s
  | .fmax vi => Sys2Proof.Machine.execFmax vi s
  | .fdiv vi => Sys2Proof.Machine.execFdiv vi s
  | .fsqrt vi => Sys2Proof.Machine.execFsqrt vi s
  | .fcmp vi op => Sys2Proof.Machine.execFcmp vi op s
  | .cvt vi => Sys2Proof.Machine.execCvt vi s
  | .pack vi => Sys2Proof.Machine.execPack vi s
  | .unpack vi => Sys2Proof.Machine.execUnpack vi s
  | .ldl vi => Sys2Proof.Machine.execLdl vi s
  | .stl vi => Sys2Proof.Machine.execStl vi s
  | .ldd vi => Sys2Proof.Machine.execLdd vi s
  | .std vi => Sys2Proof.Machine.execStd vi s
  | .atadd vi => Sys2Proof.Machine.execAtadd vi s
  | .atmax vi => Sys2Proof.Machine.execAtmax vi s
  | .storeFault t g addr status => Sys2Proof.Machine.execStoreFault t g addr status s
  | .vxCopy vi => Sys2Proof.Machine.execVxCopy vi s
  | .arm vi => Sys2Proof.Machine.execArm vi s
  | .vxWait vi => Sys2Proof.Machine.execVxWait vi s
  | .acrd vi => Sys2Proof.Machine.execAcrd vi s
  | .br vi => Sys2Proof.Machine.execBr vi s
  | .split vi => Sys2Proof.Machine.execSplit vi s
  | .join vi => Sys2Proof.Machine.execJoin vi s
  | .call vi => Sys2Proof.Machine.execCall vi s
  | .ret vi => Sys2Proof.Machine.execRet vi s
  | .exit vi => Sys2Proof.Machine.execExit vi s
  | .trap vi => Sys2Proof.Machine.execTrap vi s
  | .tret vi => Sys2Proof.Machine.execTret vi s
  | .shfl vi => Sys2Proof.Machine.execShfl vi s
  | .vote vi op => Sys2Proof.Machine.execVote vi op s
  | .red vi op => Sys2Proof.Machine.execRed vi op s
  | .gbar vi => Sys2Proof.Machine.execGbar vi s
  | .vxFence vi => Sys2Proof.Machine.execVxFence vi s
  | .lockacq vi => Sys2Proof.Machine.execLockacq vi s
  | .lockacqw vi => Sys2Proof.Machine.execLockacqw vi s
  | .lockrel vi => Sys2Proof.Machine.execLockrel vi s
  | .vxNop vi => Sys2Proof.Machine.execVxNop vi s
  | .brk vi => Sys2Proof.Machine.execBrk vi s
  | .grpReplay t g p v => Sys2Proof.Machine.execGrpReplay t g p v s
  | .grpAbort t g p v => Sys2Proof.Machine.execGrpAbort t g p v s
  | .spillBaseWrite t g p v => Sys2Proof.Machine.execSpillBaseWrite t g p v s
  | .spillLimitWrite t g p v => Sys2Proof.Machine.execSpillLimitWrite t g p v s
  | .copyStart t => Sys2Proof.Machine.execCopyStart t s
  | .copyDone t => Sys2Proof.Machine.execCopyDone t s
  | .arrive t k => Sys2Proof.Machine.execArrive t k s
  | .doorbell e q p v => Sys2Proof.Machine.execDoorbell e q p v s
  | .ceFlushWrite e p v => Sys2Proof.Machine.execCeFlushWrite e p v s
  | .listTake e => Sys2Proof.Machine.execListTake e s
  | .listFetch e => Sys2Proof.Machine.execListFetch e s
  | .cmdTileStart e seq t => Sys2Proof.Machine.execCmdTileStart e seq t s
  | .cmdComplete e seq => Sys2Proof.Machine.execCmdComplete e seq s
  | .listComplete e => Sys2Proof.Machine.execListComplete e s
  | .preempt e => Sys2Proof.Machine.execPreempt e s
  | .nop e => Sys2Proof.Machine.execNop e s
  | .end_ e => Sys2Proof.Machine.execEnd e s
  | .link e => Sys2Proof.Machine.execLink e s
  | .layer e => Sys2Proof.Machine.execLayer e s
  | .vxrun e => Sys2Proof.Machine.execVxrun e s
  | .ceCopy e => Sys2Proof.Machine.execCeCopy e s
  | .convert e => Sys2Proof.Machine.execConvert e s
  | .evstep e => Sys2Proof.Machine.execEvstep e s
  | .ceWait e => Sys2Proof.Machine.execCeWait e s
  | .waitPoll e => Sys2Proof.Machine.execWaitPoll e s
  | .waitTimeout e => Sys2Proof.Machine.execWaitTimeout e s
  | .signal e => Sys2Proof.Machine.execSignal e s
  | .barrier e => Sys2Proof.Machine.execBarrier e s
  | .check e => Sys2Proof.Machine.execCheck e s
  | .tstamp e => Sys2Proof.Machine.execTstamp e s
  | .wick e => Sys2Proof.Machine.execWick e s
  | .kick e => Sys2Proof.Machine.execKick e s
  | .replay e => Sys2Proof.Machine.execReplay e s
  | .lock e => Sys2Proof.Machine.execLock e s
  | .resume e p v => Sys2Proof.Machine.execResume e p v s
  | .drop e p v => Sys2Proof.Machine.execDrop e p v s
  | .swapGo e p v => Sys2Proof.Machine.execSwapGo e p v s
  | .ceSwap e => Sys2Proof.Machine.execCeSwap e s
  | .llFetch t => Sys2Proof.Machine.execLlFetch t s
  | .llFillRead t => Sys2Proof.Machine.execLlFillRead t s
  | .llFillData t => Sys2Proof.Machine.execLlFillData t s
  | .carouselRound t => Sys2Proof.Machine.execCarouselRound t s
  | .evStep t => Sys2Proof.Machine.execEvStep t s
  | .evBarrierRelease e seq => Sys2Proof.Machine.execEvBarrierRelease e seq s
  | .dutRequest d q => Sys2Proof.Machine.execDutRequest d q s
  | .geAnswer d a => Sys2Proof.Machine.execGeAnswer d a s
  | .budgetExpire d w => Sys2Proof.Machine.execBudgetExpire d w s
  | .ethFrameRx d n frame fecUnc => Sys2Proof.Machine.execEthFrameRx d n frame fecUnc s
  | .ethFrameTx d n frame mark => Sys2Proof.Machine.execEthFrameTx d n frame mark s
  | .rawRxWord d l w => Sys2Proof.Machine.execRawRxWord d l w s
  | .rawTxWord d l w => Sys2Proof.Machine.execRawTxWord d l w s
  | .laneMarginMove d l errors value => Sys2Proof.Machine.execLaneMarginMove d l errors value s
  | .injFire d n matched => Sys2Proof.Machine.execInjFire d n matched s
  | .en d p v => Sys2Proof.Machine.execEn d p v s
  | .outboundRequest d q off len wr => Sys2Proof.Machine.execOutboundRequest d q off len wr s
  | .outboundCompletion d e => Sys2Proof.Machine.execOutboundCompletion d e s
  | .prtLink d link ltssm rate width e => Sys2Proof.Machine.execPrtLink d link ltssm rate width e s
  | .cfgreqGo d p v => Sys2Proof.Machine.execCfgreqGo d p v s
  | .cfgreqDone d status data => Sys2Proof.Machine.execCfgreqDone d status data s
  | .svcPerst high => Sys2Proof.Machine.execSvcPerst high s
  | .svcLinkDown flr => Sys2Proof.Machine.execSvcLinkDown flr s
  | .bar2Access off len wr => Sys2Proof.Machine.execBar2Access off len wr s
  | .svcLinkUp => Sys2Proof.Machine.execSvcLinkUp s
  | .prtFwFault d code => Sys2Proof.Machine.execPrtFwFault d code s
  | .cplTrain k farId nrow ncol home => Sys2Proof.Machine.execCplTrain k farId nrow ncol home s
  | .cplFlitRx k flit => Sys2Proof.Machine.execCplFlitRx k flit s
  | .cplFlitTx k => Sys2Proof.Machine.execCplFlitTx k s
  | .cplLinkDown k silence => Sys2Proof.Machine.execCplLinkDown k silence s
  | .cplRetrainDone k ok => Sys2Proof.Machine.execCplRetrainDone k ok s
  | .push k vc => Sys2Proof.Machine.execPush k vc s
  | .pull k vc => Sys2Proof.Machine.execPull k vc s
  | .pullEngineStart k => Sys2Proof.Machine.execPullEngineStart k s
  | .pushCpl k vc => Sys2Proof.Machine.execPushCpl k vc s
  | .lockReq k vc => Sys2Proof.Machine.execLockReq k vc s
  | .lockRes k vc => Sys2Proof.Machine.execLockRes k vc s
  | .barArrive k vc => Sys2Proof.Machine.execBarArrive k vc s
  | .barRelease k vc => Sys2Proof.Machine.execBarRelease k vc s
  | .notice k vc => Sys2Proof.Machine.execNotice k vc s
  | .cplTimeout k tag => Sys2Proof.Machine.execCplTimeout k tag s
  | .rpush q src dst len arrive => Sys2Proof.Machine.execRpush q src dst len arrive s
  | .rpull q src dst len => Sys2Proof.Machine.execRpull q src dst len s
  | .cfwd k pool => Sys2Proof.Machine.execCfwd k pool s
  | .cmsg => Sys2Proof.Machine.execCmsg s
  | .leave p v => Sys2Proof.Machine.execLeave p v s
  | .cplJoin p v => Sys2Proof.Machine.execCplJoin p v s
  | .repArm p v => Sys2Proof.Machine.execRepArm p v s
  | .repStop p v => Sys2Proof.Machine.execRepStop p v s
  | .repStart => Sys2Proof.Machine.execRepStart s
  | .repEnd => Sys2Proof.Machine.execRepEnd s
  | .replayFeed d g => Sys2Proof.Machine.execReplayFeed d g s
  | .linkFix k => Sys2Proof.Machine.execLinkFix k s
  | .selftest checkers tiles => Sys2Proof.Machine.execSelftest checkers tiles s
  | .witnessSlot => Sys2Proof.Machine.execWitnessSlot s
  | .quietPoint => Sys2Proof.Machine.execQuietPoint s
  | .witSkip => Sys2Proof.Machine.execWitSkip s
  | .witnessSwitch => Sys2Proof.Machine.execWitnessSwitch s
  | .patternTestDone signature part => Sys2Proof.Machine.execPatternTestDone signature part s
  | .witOverdue p => Sys2Proof.Machine.execWitOverdue p s
  | .wickArm n p v => Sys2Proof.Machine.execWickArm n p v s
  | .wickDisarm n p v => Sys2Proof.Machine.execWickDisarm n p v s
  | .wickKick n p v => Sys2Proof.Machine.execWickKick n p v s
  | .wickExpire n => Sys2Proof.Machine.execWickExpire n s
  | .regSig upset => Sys2Proof.Machine.execRegSig upset s
  | .sgdDoorbell n p v => Sys2Proof.Machine.execSgdDoorbell n p v s
  | .sgdSeal n => Sys2Proof.Machine.execSgdSeal n s
  | .sgdGuard n => Sys2Proof.Machine.execSgdGuard n s
  | .sgdGap n => Sys2Proof.Machine.execSgdGap n s
  | .safePin high => Sys2Proof.Machine.execSafePin high s
  | .safClear p v => Sys2Proof.Machine.execSafClear p v s
  | .safeNRelease => Sys2Proof.Machine.execSafeNRelease s
  | .safLock p v => Sys2Proof.Machine.execSafLock p v s
  | .csrAddr v pecOk => Sys2Proof.Machine.execCsrAddr v pecOk s
  | .csrRead pecOk => Sys2Proof.Machine.execCsrRead pecOk s
  | .csrWrite v pecOk => Sys2Proof.Machine.execCsrWrite v pecOk s
  | .csrStatus pecOk => Sys2Proof.Machine.execCsrStatus pecOk s
  | .status pecOk => Sys2Proof.Machine.execStatus pecOk s
  | .tempMax pecOk => Sys2Proof.Machine.execTempMax pecOk s
  | .power pecOk => Sys2Proof.Machine.execPower pecOk s
  | .embSeq pecOk => Sys2Proof.Machine.execEmbSeq pecOk s
  | .hbmTemp pecOk => Sys2Proof.Machine.execHbmTemp pecOk s
  | .smbStretchTimeout => Sys2Proof.Machine.execSmbStretchTimeout s
  | .extest => Sys2Proof.Machine.execExtest s
  | .samplePreload => Sys2Proof.Machine.execSamplePreload s
  | .idcode => Sys2Proof.Machine.execIdcode s
  | .clamp => Sys2Proof.Machine.execClamp s
  | .highz => Sys2Proof.Machine.execHighz s
  | .extestPulse => Sys2Proof.Machine.execExtestPulse s
  | .extestTrain => Sys2Proof.Machine.execExtestTrain s
  | .csr dr => Sys2Proof.Machine.execCsr dr s
  | .cfgStream v => Sys2Proof.Machine.execCfgStream v s
  | .bypass => Sys2Proof.Machine.execBypass s
  | .trst => Sys2Proof.Machine.execTrst s
  | .uartLine => Sys2Proof.Machine.execUartLine s
  | .uartUser p v => Sys2Proof.Machine.execUartUser p v s
  | .telemetryUpdate temps pwr vcore mj => Sys2Proof.Machine.execTelemetryUpdate temps pwr vcore mj s
  | .probeSample level seen => Sys2Proof.Machine.execProbeSample level seen s
  | .prbCapEn p v => Sys2Proof.Machine.execPrbCapEn p v s
  | .audit p v => Sys2Proof.Machine.execAudit p v s
  | .ledgerItemCheck quiet => Sys2Proof.Machine.execLedgerItemCheck quiet s
  | .pfailNRise => Sys2Proof.Machine.execPfailNRise s
  | .bridgeAndBondTestDone n passed => Sys2Proof.Machine.execBridgeAndBondTestDone n passed s

end Sys2Proof.Machine
end

