-- ==== Sys2Proof/Safety.lean ====
section
/-! DEFINITION. What the claims call a safe state and a safe run, in the block's own terms. -/

namespace Sys2Proof.Machine

/-- The invariant every step keeps: device memory stands in its canonical form, so that equal memories are equal data. -/
abbrev Inv (s : State) : Prop := Memory.wf s.dev.mem = true

/-- The device as a command finds it: what the last command sent out is gone. -/
def State.fresh (s : State) : Dev := { s.dev with out := [] }

/-- The command runs to its end and leaves the device `d`, the queue as it was. -/
def Leaves (c : Instr) (s : State) (d : Dev) : Prop := exec c s = .next { s with dev := d }

/-- The command runs to its end and leaves a device of which `P` holds, the queue as it was. -/
def Ends (c : Instr) (s : State) (P : Dev → Prop) : Prop := ∃ d, Leaves c s d ∧ P d

/-- What follows at once from a command's effect `d`: what waited for it goes on, answers reach the units that wait for them, a colony
run that aborted retrains its links (R537). -/
def settle (s : State) (d : Dev) : Dev := (((d.follow s.fresh).deliver 65536 0).abortRetrain s.dev.running).tidy

/-- The command runs to its end; its own effect is `d`, and what follows at once from it is `settle`. -/
def Gives (c : Instr) (s : State) (d : Dev) : Prop := exec c s = .next { s with dev := settle s d }

/-- No replay run is active, and device memory stands in its canonical form. -/
abbrev Calm (s : State) : Prop := s.dev.running = false ∧ Inv s

/-- What a POR or a SYS clears (R59): memory, tiles, engines, fabric, Cellar, HBM training, Annulus, coupling links, the replay engine
and the clocks; the boot ROM has yet to start, the service port is down, SAFE_N is low. -/
abbrev Cleared (d : Dev) : Prop :=
  d.mem = [] ∧ d.tile = [] ∧ d.eng = [] ∧ d.hbm = [] ∧ d.fab = {} ∧ d.ann = {} ∧ d.cel = {} ∧ d.cpl = {} ∧ d.rep = {} ∧ d.sgd = []
    ∧ d.clk = {} ∧ d.svc.up = false ∧ d.safe.low = true ∧ d.cfgState = 0 ∧ d.flag Reg.CLK_ROOT_LOCK = false

/-- A read of 4 or 8 bytes through path `p` reaches the register at `off`, as `Reaches` for a write. -/
abbrev Readable (d : Dev) (p : Path) (off : Nat) : Prop :=
  p ≠ .csrSet ∧ d.pathOpen p = true ∧ (d.rst.tripped = true → off < 0x1000000 ∨ (0x7000000 ≤ off ∧ off < 0x7400000))
    ∧ (p = .jtag → d.flag Reg.MGT_CSR_EN = true) ∧ (d.running = true → outsidePath p = true → runAllows off false = true)
    ∧ d.blockHeld off = false ∧ d.keepStalls p off false = false

/-- A 64-bit write through path `p` reaches the register at `off`: the path is open to it (R42, R74, R580), no replay run turns it
away (R530), no reset holds it (R63), no Keep write of the path's own stalls it (R133) and SAF_LOCK does not
freeze it (R569). -/
abbrev Reaches (d : Dev) (p : Path) (off : Nat) : Prop :=
  p ≠ .csrSet ∧ d.pathOpen p = true ∧ (d.rst.tripped = true → off < 0x1000000 ∨ (0x7000000 ≤ off ∧ off < 0x7400000))
    ∧ (p = .jtag → d.flag Reg.MGT_CSR_EN = true) ∧ (d.running = true → outsidePath p = true → runAllows off true = true)
    ∧ d.blockHeld off = false ∧ (d.flag Reg.SAF_LOCK = true → frozenBySafLock off = false)
    ∧ d.keepStalls p off true = false

/-- A run of `n` steps that stops nowhere. -/
def runs (n : Nat) (s t : State) : Prop := Host.Core.run core n s = .next t

/-- SAFE_N is driven low: the state in which the device vouches for nothing (R64, R563). -/
def failSafe (s : State) : Prop := s.dev.safe.low = true

end Sys2Proof.Machine
end

