-- ==== Sys2Proof/Certificates/Slice0/Obligations.lean ====
section
/-! DEFINITION. The statements about the EQ64. Each clause of a statement stands under a comment that says it in words; `Leaves`, `Gives`
and `Ends` of `Safety` say that a command runs to its end and what it leaves. -/

set_option linter.all false
set_option maxRecDepth 100000

open Sys2Proof Sys2Proof.Machine Sys2Proof.Machine.Reg

/-- A step runs the command at the front of the queue on the rest of it; on an empty queue one tick of TSCLK passes while the core
runs, and nothing happens while it is held (the model's choice, log entry 11). -/
def Obligations.StepRunsFrontCommand : Prop :=
  (∀ (c : Instr) (s : State), step { s with pending := c :: s.pending } = exec c s)
  ∧ (∀ s : State, s.pending = [] → Inv s → s.dev.live = false → step s = .next { s with dev := s.fresh })
  ∧ (∀ s : State, s.pending = [] → s.dev.live = true → step s = .next { s with dev := s.fresh.tsTick.tidy })

/-- Every command runs to its end from every state and leaves the queue as it found it, and so does every step but for the command
it takes: no state stops the block. -/
def Obligations.EveryCommandCompletes : Prop :=
  (∀ (c : Instr) (s : State), ∃ d : Dev, Leaves c s d)
  ∧ (∀ s : State, ∃ t : State, step s = .next t ∧ t.pending = s.pending.tail)

/-- The invariant holds after every step. -/
def Obligations.EveryStepKeepsInv : Prop := ∀ s t : State, Inv s → step s = .next t → Inv t

/-- Fields whose reset value in the manual's tables is not 0, with that value. -/
def Sys2Proof.Machine.resetNonzero : List (Fld × Nat) :=
  [(ID_PART, 0x0E64), (ID_STEP, 0xB0), (SPARE_SPARE, 0x40), (SPARE_OUT, 0x40), (FCLK_DIV_0, 0x18), (FCLK_DIV_1, 0x18),
    (FCLK_DIV_2, 0x18), (FCLK_DIV_3, 0x18), (CAUSE_POR, 1), (SCRUB_EN, 1), (SAF_FTTI_MS, 10), (SAF_QUIET_US, 4)]
  ++ [(WIT_FAILED, 0x7F), (SGD_CLASS_S, 1), (SGD_NSLOT, 1), (SGD_SLOT_LOG2, 12), (MGT_CSR_EN, 1), (PRB_DIV, 1), (PRB_CAP_SIZE, 16),
    (EXCH_DRAIN_US, 100), (HBM_PAGE_TO, 64), (HBM_AGE_MAX, 2000), (HBM_FLOOR_RD, 16), (HBM_FLOOR_WR, 16), (HBM_FLOOR_RM, 8)]
  ++ [(HBM_SPLIT_RD, 32), (HBM_SPLIT_WR, 24), (HBM_SPLIT_RM, 8), (HBM_SCRUB_PERIOD, 3200), (CEL_FLOOR_RD, 16), (CEL_FLOOR_WR, 16),
    (CEL_FLOOR_RM, 8), (CEL_SPLIT_RD, 32), (CEL_SPLIT_WR, 24), (CEL_SPLIT_RM, 8), (MX_RES_EN, 1), (SCALE_HEADROOM, 1), (LL_EN, 1)]
  ++ [(LL_DEPTH, 32), (LL_MARGIN, 2), (LL_COPY_SLACK, 16), (CE_PREEMPT, 1), (PC_MAXGEN, 6), (PC_PERST_HOLD, 1000), (BUD_CPL, 640),
    (BUD_MEM, 640), (BUD_FC, 640), (STANDIN_CPL, 1), (CFGREQ_BE, 15), (EPORT_LANES, 1), (CPL_SLACK, 16), (CPL_TMO, 10000)]

/-- Right after the first POR of a part (R58, R59): memory, tiles, engines, queues and buffers are empty, SAFE_N is low, the service
port is down, the core waits for ROOT lock, the reset counter of Keep word 0 has counted once (R132), and every register field reads
its reset value. -/
def Obligations.ResetState : Prop :=
  Inv State.reset
  ∧ State.reset.pending = []
  ∧ Cleared State.reset.dev
  ∧ State.reset.dev.live = false
  ∧ (∀ n, State.reset.dev.keepWord n = if n = 0 then 1 else 0)
  ∧ State.reset.dev.ember.area = []
  ∧ (∀ a, State.reset.dev.byte a = 0)
  ∧ (∀ e ∈ resetNonzero, ∀ i j, State.reset.dev.fld e.1 i j = e.2)
  ∧ (∀ f : Fld, f.rst = 0 → ∀ i j, State.reset.dev.fld f i j = 0)

/-- A class S detection (R563): S_PENDING reads 1, SAFE_N is driven low, SAF_FIRST takes the first pending cause and, of several in one
MCLK, the lowest event code; with HALT_CE every engine that runs enters HALTED, without it none does; vector VEC is raised, once for
several in one MCLK. -/
def Obligations.ClassSReaction : Prop :=
  (∀ (d : Dev) (ev : Nat), (d.reactS ev).flag SAF_S_PENDING = true ∧ (d.reactS ev).safe.low = true)
  -- SAF_FIRST: the first pending cause
  ∧ (∀ (d : Dev) (ev : Nat), ev < 2 ^ 16 → d.flag SAF_S_PENDING = false →
      (d.reactS ev).fld SAF_FIRST_EVENT = ev ∧ (d.reactS ev).fld SAF_FIRST_TS = d.clk.ts % 2 ^ 48)
  -- it stays for later ones, and for those of its own MCLK whose code is no lower
  ∧ (∀ (d : Dev) (ev : Nat), d.flag SAF_S_PENDING = true → d.safe.sFirst ≠ some (d.clk.root / 48) ∨ d.fld SAF_FIRST_EVENT ≤ ev →
      (d.reactS ev).fld SAF_FIRST_EVENT = d.fld SAF_FIRST_EVENT ∧ (d.reactS ev).fld SAF_FIRST_TS = d.fld SAF_FIRST_TS)
  -- a lower code of its own MCLK takes its place
  ∧ (∀ (d : Dev) (ev : Nat), ev < 2 ^ 16 → d.flag SAF_S_PENDING = true → d.safe.sFirst = some (d.clk.root / 48) →
      ev < d.fld SAF_FIRST_EVENT → (d.reactS ev).fld SAF_FIRST_EVENT = ev)
  -- the engines
  ∧ (∀ (d : Dev) (ev : Nat) (e : Fin 16), (d.reactS ev).fld CE_STATE e.val
      = if d.flag SAF_HALT_CE = true ∧ d.fld CE_STATE e.val = 1 then 2 else d.fld CE_STATE e.val)
  -- the vector, and the message while the service port is up: once for several detections in one MCLK
  ∧ (∀ (d : Dev) (ev : Nat), d.flag SAF_S_PENDING = false ∨ d.safe.sLast ≠ some (d.clk.root / 48) →
      (d.reactS ev).fbit MGT_INT_STAT (d.fld SAF_VEC % 64) (d.fld SAF_VEC % 256 / 64) = true
        ∧ (d.svc.up = true → Out.msix (d.fld SAF_VEC) ∈ (d.reactS ev).out))
  ∧ (∀ (d : Dev) (ev : Nat), d.flag SAF_S_PENDING = true → d.safe.low = true → d.safe.sLast = some (d.clk.root / 48) →
      (d.reactS ev).out = d.out ∧ ∀ n, (d.reactS ev).fld MGT_INT_STAT n = d.fld MGT_INT_STAT n)
  -- the frame: no memory, tile, list, fabric, link or Keep word changes
  ∧ (∀ (d : Dev) (ev : Nat), (d.reactS ev).mem = d.mem ∧ (d.reactS ev).tile = d.tile ∧ (d.reactS ev).eng = d.eng
      ∧ (d.reactS ev).fab = d.fab ∧ (d.reactS ev).prt = d.prt ∧ (d.reactS ev).cpl = d.cpl ∧ (d.reactS ev).keep = d.keep
      ∧ (d.reactS ev).ember = d.ember ∧ (d.reactS ev).rst = d.rst)
  -- a class S report queues its entry, then reacts
  ∧ (∀ (d : Dev) (ev inst : Nat) (l : List DF), (d.logEv ev .S inst l).flag SAF_S_PENDING = true
      ∧ (d.logEv ev .S inst l).safe.low = true ∧ (d.running = true → (d.logEv ev .S inst l).fld REP_STATE = 5))

/-- The divider that GLB_FCLK_DIV names for FCLK `k`. -/
def Sys2Proof.Machine.Dev.newDiv (d : Dev) (k : Nat) : Nat :=
  [d.fld FCLK_DIV_0, d.fld FCLK_DIV_1, d.fld FCLK_DIV_2, d.fld FCLK_DIV_3].getD k 24

/-- Clock commands of chapter 02 (R49, R52, R53, R72, R74, R132).
It says where these complete with their own effect: rootLoss, clockMonitorWindow, fclkDivSwitch, thermTrip, avsTimeout,
elasticBufferEvent. -/
def Obligations.ClockEvents : Prop :=
  -- CLOCK_MONITOR_WINDOW: within 2 % MON_OK reads 1, outside it reads 0 and a class S entry names clock and deviation
  (∀ (s : State) (i : Fin 10) (ppm : Int), Inv s → s.dev.flag CLK_ROOT_LOCK = true → s.dev.safLive = true → ppm.natAbs ≤ 20000 →
    Leaves (.clockMonitorWindow i ppm) s (s.fresh.setBit CLK_MON_OK i.val true))
  ∧ (∀ (s : State) (i : Fin 10) (ppm : Int), s.dev.flag CLK_ROOT_LOCK = true → s.dev.safLive = true → 20000 < ppm.natAbs →
    Gives (.clockMonitorWindow i ppm) s ((s.fresh.setBit CLK_MON_OK i.val false).logEv 0x0003 .S 0 [dU 1 i.val, dI (max (-1000000) ppm)]))
  -- ROOT_LOSS: the core is held, the service port is down, a class S entry names clock 0xFF
  ∧ (∀ s : State, s.dev.flag CLK_ROOT_LOCK = true →
    Gives .rootLoss s
      ({ (s.fresh.setF CLK_ROOT_LOCK 0).raise CAUSE_ROOT_LOSS with
          rst := { s.dev.rst with rootLost := true }, svc := { s.dev.svc with up := false } }.logEv 0x0003 .S 0 [dU 1 0xFF, dI 0]))
  -- FCLK_DIV_SWITCH: the divider written takes effect at the first ROOT count from now on that both dividers divide, and time passes to it
  ∧ (∀ (s : State) (k : Fin 4), s.dev.flag CLK_ROOT_LOCK = true → s.dev.clk.fclkAt.length = 4 →
    Ends (.fclkDivSwitch k) s fun d => d.clk.fclk = s.dev.clk.fclk.set k.val (s.dev.newDiv k.val)
      ∧ s.dev.clk.root ≤ d.clk.fclkAt.getD k.val 0
      ∧ d.clk.fclkAt.getD k.val 0 < s.dev.clk.root + Nat.lcm (max 1 (s.dev.clk.fclk.getD k.val 24)) (max 1 (s.dev.newDiv k.val))
      ∧ d.clk.fclkAt.getD k.val 0 % max 1 (s.dev.clk.fclk.getD k.val 24) = 0 ∧ d.clk.fclkAt.getD k.val 0 % max 1 (s.dev.newDiv k.val) = 0
      ∧ d.clk.fclkAt.getD k.val 0 ≤ d.clk.root ∧ d.clk.root < d.clk.fclkAt.getD k.val 0 + 12
      ∧ d.clk.root = s.dev.clk.root + 12 * (d.clk.tick - s.dev.clk.tick) ∧ d.mem = s.dev.mem ∧ d.tile = s.dev.tile ∧ d.eng = s.dev.eng)
  -- ELASTIC_BUFFER_EVENT: the lane's event is counted, and nothing else happens
  ∧ (∀ (s : State) (lane : Fin 144), Inv s → s.dev.live = true →
    Leaves (.elasticBufferEvent lane) s
      { s.fresh with clk := { s.dev.clk with
          elastic := Sparse.set 0 s.dev.clk.elastic lane.val (Sparse.get 0 s.dev.clk.elastic lane.val + 1) } })
  -- THERM_TRIP: from 10 °C above the grade maximum on, the core clocks stop and TRIP_COUNT counts in Keep word 2
  ∧ (∀ (s : State) (n : Fin 32) (t : Int), s.dev.mlive = true → s.dev.rst.tripped = false → 110 ≤ t →
    Gives (.thermTrip n t) s
      ({ ((s.fresh.raise CAUSE_THERM_TRIP).uart 0xF2).logEv 0x0004 .S 0 [dU 1 n.val, dI t] with
          rst := { s.dev.rst with tripped := true } }.keepOwn 2))
  -- AVS_TIMEOUT: a class S fault, 100 µs after the request it answers; its event code is a free value (log entry 9)
  ∧ (∀ s : State, s.dev.mlive = true → s.dev.clk.avs = none →
    Gives .avsTimeout s
      ({ s.fresh with freeCtr := s.dev.freeCtr + 1 }.logEv (Config.freeValue s.dev.freeCtr % 256) .S 0 []))
  ∧ (∀ (s : State) (mv t : Nat), s.dev.mlive = true → s.dev.clk.avs = some (mv, t) →
    Ends .avsTimeout s fun d => d.flag SAF_S_PENDING = true ∧ d.safe.low = true ∧ d.clk.avs = none ∧ t + 80000 ≤ d.clk.tick
      ∧ d.freeCtr = s.dev.freeCtr + 1 ∧ d.mem = s.dev.mem)

/-- Power-up, the reset pins and power failure (R59, R67 to R70, R83, R113, R132, R521, R608, R612).
It says where these complete with their own effect: por, vauxGood, sysRstN, rootLock, vauxLoss, pfailAccept, powerFailCommitDone,
pfailNRise. -/
def Obligations.PowerAndResetPins : Prop :=
  -- POR: everything volatile is cleared, GLB_RST_CAUSE.POR set, the reset count of Keep word 0 counts, the Keep bank stays
  (∀ s : State, Ends .por s fun d => Cleared d ∧ d.flag CAUSE_POR = true ∧ d.rst.vauxHold = false
      ∧ (s.dev.keep.running = none → s.dev.keep.queue = [] → ∀ n, d.keepWord n = if n = 0 then (s.dev.keepWord 0 + 1) % 2 ^ 64 else s.dev.keepWord n))
  -- SYS_RST_N: the same with SYS_PIN; the straps are sampled; PFAIL_N low holds the device
  ∧ (∀ (s : State) (ns : Nat) (taken : Bool) (mode : BitVec 3) (id : BitVec 9) (smb : BitVec 2) (high : Bool),
      s.dev.safLive = true → 1000 ≤ ns ∨ (800 ≤ ns ∧ taken = true) → (s.dev.rst.pfail = true → s.dev.rst.pfailDone = true) →
      s.dev.keep.running = none → s.dev.keep.queue = [] →
      Ends (.sysRstN ns taken mode id smb high) s fun d => Cleared d ∧ d.flag CAUSE_SYS_PIN = true ∧ d.fld CFG_MODE = mode.toNat
        ∧ d.fld CFG_CHAIN_ID = id.toNat ∧ d.fld COL_ID = id.toNat ∧ d.rst.smbAddr = smb.toNat ∧ d.rst.pfailHold = !high
        ∧ d.flag CAUSE_POR = s.dev.flag CAUSE_POR
        ∧ ∀ n, d.keepWord n = if n = 0 then (s.dev.keepWord 0 + 1) % 2 ^ 64 else s.dev.keepWord n)
  -- a pulse shorter than 0.8 µs is ignored
  ∧ (∀ (s : State) (ns : Nat) (taken : Bool) (mode : BitVec 3) (id : BitVec 9) (smb : BitVec 2) (high : Bool),
      Inv s → ns < 800 → Leaves (.sysRstN ns taken mode id smb high) s s.fresh)
  -- VAUX_GOOD: the rails found early wait for the POR of this power-up
  ∧ (∀ (s : State) (rails : BitVec 9), Inv s →
      Leaves (.vauxGood rails) s
        { s.fresh with rst := { s.dev.rst with vauxHold := false, porDue := true, railOrder := rails.toNat - rails.toNat % 2 },
                       ember := { s.dev.ember with ready := false } })
  -- VAUX_LOSS: everything volatile is lost and every block is held; the Keep words stay
  ∧ (∀ (s : State) (torn : Fin 17) (hit : Bool), s.dev.safLive = true →
      Ends (.vauxLoss torn hit) s fun d => Cleared d ∧ d.rst.vauxHold = true ∧ d.live = false ∧ ∀ n, d.keepWord n = s.dev.keepWord n)
  -- PFAIL_N_RISE: the hold of a PFAIL_N found low at the release of SYS_RST_N ends
  ∧ (∀ s : State, Inv s → Leaves .pfailNRise s { s.fresh with rst := { s.dev.rst with pfailHold := false } })
  -- ROOT_LOCK: the clocks and the timestamp start at 0 and the boot ROM starts what CFG_MODE names
  ∧ (∀ s : State, Inv s → s.dev.flag CLK_ROOT_LOCK = false → s.dev.rst.vauxHold = false → s.dev.rst.pfailHold = false →
      s.dev.rst.jtagHold = false → s.dev.rst.rootLost = false → s.dev.rst.tripped = false → s.dev.rst.pfail = false →
      s.dev.rst.pfailDone = false →
      Ends .rootLock s fun d => d.flag CLK_ROOT_LOCK = true ∧ d.clk = {} ∧ d.live = true
        ∧ d.cfgState = (if s.dev.fld CFG_MODE ≤ 2 then 1 else if s.dev.fld CFG_MODE ≤ 4 then 6 else 7))
  -- PFAIL_ACCEPT: a pulse shorter than 200 ns is ignored
  ∧ (∀ (s : State) (ns : Nat), Inv s → ns < 200 → Leaves (.pfailAccept ns) s s.fresh)
  -- a longer one sets the cause, drives SAFE_N low, counts in Keep word 1 and queues the power-fail entry of class F
  ∧ (∀ (s : State) (ns : Nat), Calm s → 200 ≤ ns → s.dev.safLive = true → s.dev.rst.pfail = false → s.dev.rst.pfailHold = false →
      s.dev.member s.dev.selfId = false → s.dev.safe.handover = none → s.dev.keep.running = none → s.dev.keep.queue = [] →
      Gives (.pfailAccept ns) s
        ((((({ s.fresh.raise CAUSE_PFAIL with rst := { s.dev.rst with pfail := true } }.driveSafeN).uart 0xF1).keepCount 1).logF 0x0005 0
          [dN s.dev.ember.queue.length, dN s.dev.keep.refused])))
  -- once accepted, no scope of GLB_RST_CTL acts: only SYS_RST_N or a POR resumes the device; the same after a thermal trip (R68, R74)
  ∧ (∀ (s : State) (p : Path) (v : Word64), Inv s → Reaches s.dev p 0x228 → bits v.toNat 48 16 = 0xC1A5 → s.dev.rst.tripped || s.dev.rst.pfail →
      ∀ c ∈ [Instr.sys p v, .reload p v, .eng p v, .tile p v], Leaves c s (s.fresh.emit .wrDone))
  -- POWER_FAIL_COMMIT_DONE: the device holds itself in reset
  ∧ (∀ s : State, Inv s → s.dev.rst.pfail = true → s.dev.rst.pfailDone = false → s.dev.ember.queue = [] → s.dev.rst.sysWait = none →
      Leaves .powerFailCommitDone s
        { s.fresh with rst := { s.dev.rst with pfailDone := true }, svc := { s.dev.svc with up := false } })
  -- a SYS_RST_N that fell meanwhile is acted on now
  ∧ (∀ (s : State) (m c a : Nat) (h : Bool), s.dev.rst.pfail = true → s.dev.rst.pfailDone = false → s.dev.ember.queue = [] →
      s.dev.rst.sysWait = some (m, c, a, h) →
      Gives .powerFailCommitDone s
        ({ s.fresh with rst := { s.dev.rst with pfailDone := true }, svc := { s.dev.svc with up := false } }.sysPin m c a h))

/-- A write of `v` to GLB_RST_CTL carries the key, and neither a thermal trip nor an accepted PFAIL_N holds the device (R68, R74, R82). -/
abbrev RstTaken (d : Dev) (v : Word64) : Prop := bits v.toNat 48 16 = 0xC1A5 ∧ d.rst.tripped = false ∧ d.rst.pfail = false

/-- The resets that GLB_RST_CTL raises (R58 to R63, R82, R83): the key, the scopes and the ends of their reset phases.
It says where these complete with their own effect: sys, reload, reloadResetDone, eng, engResetDone, tile, tileWritebackDone,
tileResetDone. -/
def Obligations.ResetsBySoftware : Prop :=
  -- a write without the key is ignored and writes a class D entry
  (∀ (s : State) (p : Path) (v : Word64), Inv s → Reaches s.dev p 0x228 → bits v.toNat 48 16 ≠ 0xC1A5 → ∀ c ∈ [Instr.sys p v, .reload p v, .eng p v, .tile p v],
    Leaves c s ((s.fresh.csrAccess 0x228 8 (pathCode p) 2).emit .wrDone))
  -- SYS: everything SYS clears is cleared, and SYS_SW is set
  ∧ (∀ (s : State) (p : Path) (v : Word64), Reaches s.dev p 0x228 → RstTaken s.dev v → v.getLsbD 0 = true →
      s.dev.member s.dev.selfId = false → s.dev.keep.running = none →
      Ends (.sys p v) s fun d => Cleared d ∧ d.flag CAUSE_SYS_SW = true
        ∧ ∀ n, d.keepWord n = if n = 0 then (s.dev.keepWord 0 + 1) % 2 ^ 64 else s.dev.keepWord n)
  -- RELOAD outside READY, SYNC_WAIT, STAGE_B and FAILED_B is ignored and reported
  ∧ (∀ (s : State) (p : Path) (v : Word64), Inv s → Reaches s.dev p 0x228 → RstTaken s.dev v → v.getLsbD 0 = false →
      v.getLsbD 1 = true → v.getLsbD 2 = false → v.getLsbD 3 = false → s.dev.rst.reload = none → s.dev.cfgState ∉ [3, 4, 5, 8] →
      Leaves (.reload p v) s ((s.fresh.csrAccess 0x228 8 (pathCode p) 3).emit .wrDone))
  -- one in its reset phase absorbs another
  ∧ (∀ (s : State) (p : Path) (v : Word64), Inv s → Reaches s.dev p 0x228 → RstTaken s.dev v → v.getLsbD 0 = false →
      v.getLsbD 1 = true → s.dev.rst.reload.isSome = true → Leaves (.reload p v) s (s.fresh.emit .wrDone))
  -- RELOAD while a stage A runs: its cause, its reset phase, and the load of stage B is due
  ∧ (∀ (s : State) (p : Path) (v : Word64), Reaches s.dev p 0x228 → RstTaken s.dev v → v.getLsbD 0 = false →
      v.getLsbD 1 = true → s.dev.rst.reload = none → s.dev.cfgState ∈ [3, 4, 5, 8] → s.dev.member s.dev.selfId = false → s.dev.fld REP_STATE = 0 →
      Gives (.reload p v) s
        (((({ s.fresh with rst := { s.dev.rst with reload := some s.dev.clk.ts, eng := [], tile := [] } }.reloadClear.freshChal.doneHold).emit
          (.pulse "CFG_DONE" 0)).setF CFG_STATE 1).emit .wrDone))
  -- RELOAD_RESET_DONE: the RESET entry, and stage B alone loads; held accesses go ahead
  ∧ (∀ (s : State) (t : Nat), s.dev.rst.reload = some t →
      Gives .reloadResetDone s
        ({ ((s.fresh.raise CAUSE_RELOAD).resetLog 2 0 t) with rst := { s.dev.rst with reload := none } }.reloadLoad.heldRelease))
  -- ENG: the engine's cause bit and its reset; absorbed while one runs
  ∧ (∀ (s : State) (p : Path) (v : Word64), Reaches s.dev p 0x228 → RstTaken s.dev v → v.getLsbD 0 = false →
      v.getLsbD 1 = false → v.getLsbD 3 = true → s.dev.rst.reload = none →
      Gives (.eng p v) s ((s.fresh.engReset (bits v.toNat 24 4)).emit .wrDone))
  ∧ (∀ (s : State) (p : Path) (v : Word64), Inv s → Reaches s.dev p 0x228 → RstTaken s.dev v → v.getLsbD 0 = false →
      v.getLsbD 1 = false → v.getLsbD 3 = true → s.dev.rst.reload = none → (Sparse.get none s.dev.rst.eng (bits v.toNat 24 4)).isSome = true →
      Leaves (.eng p v) s (s.fresh.emit .wrDone))
  -- ENG_RESET_DONE: the RESET entry, and the notice of the engine's locks
  ∧ (∀ (s : State) (e : Engine) (t : Nat), Sparse.get none s.dev.rst.eng e.val = some t →
      Gives (.engResetDone e) s
        ((({ s.fresh.raise CAUSE_ENG with rst := { s.dev.rst with eng := Sparse.set none s.dev.rst.eng e.val none } }.resetLog 3 e.val t).lossNotice
          (.engine e)).heldRelease))
  -- TILE: the tile's cause bit; with no handover of that tile its work ends at once, else the reset waits
  ∧ (∀ (s : State) (p : Path) (v : Word64), Reaches s.dev p 0x228 → RstTaken s.dev v → v.getLsbD 0 = false →
      v.getLsbD 1 = false → v.getLsbD 3 = false → v.getLsbD 2 = true → s.dev.rst.reload = none →
      Sparse.get none s.dev.rst.tile (bits v.toNat 16 6) = none →
      Gives (.tile p v) s
        (({ s.fresh with
            rst := { s.dev.rst with tile := Sparse.set none s.dev.rst.tile (bits v.toNat 16 6) (some (1, s.dev.clk.ts)) } }.tileDue).emit .wrDone))
  -- TILE_WRITEBACK_DONE outside a write-back changes nothing; in it the tile's lines are home and the tile is zeroed
  ∧ (∀ (s : State) (t : LTile), Inv s → (Sparse.get none s.dev.rst.tile t.val).all (fun r => r.1 != 2) = true → Leaves (.tileWritebackDone t) s s.fresh)
  ∧ (∀ (s : State) (t : LTile) (x : Nat), Sparse.get none s.dev.rst.tile t.val = some (2, x) →
      Gives (.tileWritebackDone t) s (s.fresh.tileClear t))
  ∧ (∀ (s : State) (t : LTile) (x : Nat), Inv s → Sparse.get none s.dev.rst.tile t.val = some (2, x) → s.dev.cel.tc = [] →
      Ends (.tileWritebackDone t) s fun d => Sparse.get none d.rst.tile t.val = some (3, x) ∧ d.tileOf t.val = {}
        ∧ d.ann.notices = s.dev.ann.notices ++ [.tile t]
        ∧ ∀ a : Nat, d.byte a = if tileAddr t.val 0 ≤ a ∧ a < tileAddr t.val 0 + 2 ^ 21 then 0 else s.dev.byte a)
  -- TILE_RESET_DONE: the RESET entry
  ∧ (∀ (s : State) (t : LTile) (x : Nat), Sparse.get none s.dev.rst.tile t.val = some (3, x) →
      Gives (.tileResetDone t) s
        (({ s.fresh.raise CAUSE_TILE with rst := { s.dev.rst with tile := Sparse.set none s.dev.rst.tile t.val none } }.resetLog 4 t.val x).heldRelease))

/-- The safe-side loops, clock stepping, the timestamp and its reads (R54 to R57, R71, R73, R75, R76, R80, R81, R84, R608).
It says where these complete with their own effect: droopStretch, thermalStepJudge, powerCapStep, safesideMove, railMonitorSample,
apply, tsSlewDone, ppsInEdge, ppsOutPulse. -/
def Obligations.ClockLoopsAndTimestamp : Prop :=
  -- SAFESIDE_MOVE: a further move in the same 1 ms window is carried without an entry
  (∀ (s : State) (n : Fin 5) (v : BitVec 32), Inv s → s.dev.live = true → n.val ≠ 0 →
    s.dev.clk.window.getD n.val 0 = s.dev.now / 800000 + 1 →
    Leaves (.safesideMove n v) s
      { s.fresh.raise SAFESIDE n.val with
          clk := { s.dev.clk with carried := s.dev.clk.carried.set n.val (s.dev.clk.carried.getD n.val 0 + 1) } })
  -- the first move of a window writes an entry with the moves carried
  ∧ (∀ (s : State) (n : Fin 5) (v : BitVec 32), Inv s → s.dev.live = true → n.val ≠ 0 →
    s.dev.clk.window.getD n.val 0 ≠ s.dev.now / 800000 + 1 →
    Leaves (.safesideMove n v) s
      ({ s.fresh.raise SAFESIDE n.val with
          clk := { s.dev.clk with carried := s.dev.clk.carried.set n.val 0,
                                  window := s.dev.clk.window.set n.val (s.dev.now / 800000 + 1) } }.logEv 0x0006 .I 0
        [dC n.val, dI (toSigned 32 v.toNat), dN (s.dev.clk.carried.getD n.val 0 + 1)]))
  -- AVS requests VCORE, at most 850 mV: a move only above a floor VFLOOR_MV sets
  ∧ (∀ (s : State) (v : BitVec 32), Inv s → s.dev.live = true →
    s.dev.fld LOOP_VFLOOR_MV < 650 ∨ min v.toNat 850 ≤ s.dev.fld LOOP_VFLOOR_MV →
    Leaves (.safesideMove 0 v) s
      ({ s.fresh with clk := { s.dev.clk with avs := some (min v.toNat 850, s.dev.clk.tick) } }.emit
        (.link "AVS" 0 [] (leBytes 2 (min v.toNat 850)))))
  ∧ (∀ (s : State) (v : BitVec 32), Inv s → s.dev.live = true → 650 ≤ s.dev.fld LOOP_VFLOOR_MV →
    s.dev.fld LOOP_VFLOOR_MV < min v.toNat 850 → s.dev.clk.window.getD 0 0 = s.dev.now / 800000 + 1 →
    Leaves (.safesideMove 0 v) s
      { ({ s.fresh with clk := { s.dev.clk with avs := some (min v.toNat 850, s.dev.clk.tick) } }.emit
          (.link "AVS" 0 [] (leBytes 2 (min v.toNat 850)))).raise SAFESIDE 0 with
          clk := { s.dev.clk with avs := some (min v.toNat 850, s.dev.clk.tick),
                                  carried := s.dev.clk.carried.set 0 (s.dev.clk.carried.getD 0 0 + 1) } })
  -- DROOP_STRETCH: one ROOT period is withheld, a move of loop 1; a run aborts with code 3
  ∧ (∀ s : State, s.dev.live = true → s.dev.running = false →
    Ends .droopStretch s fun d => d.clk.withheld = s.dev.clk.withheld + 1 ∧ d.fbit SAFESIDE 1 = true ∧ d.clk.root = s.dev.clk.root
      ∧ d.clk.ts = s.dev.clk.ts ∧ d.fld REP_STATE = s.dev.fld REP_STATE ∧ d.tile = s.dev.tile ∧ d.eng = s.dev.eng ∧ d.hbm = s.dev.hbm)
  ∧ (∀ s : State, s.dev.live = true → s.dev.running = true →
    Ends .droopStretch s fun d => d.clk.withheld = s.dev.clk.withheld + 1 ∧ d.fbit SAFESIDE 1 = true ∧ d.clk.root = s.dev.clk.root
      ∧ d.fld REP_STATE = 5 ∧ d.fld REP_REASON = 3)
  -- THERMAL_STEP_JUDGE: above the lower of TSTEP_C and 100 °C one more pulse in eight goes, down to four
  ∧ (∀ s : State, s.dev.live = true → 4 * (min (s.dev.fld LOOP_TSTEP_C) 100 : Nat) < toSigned 16 (s.dev.fld MGT_TEMP_MAX) →
    Ends .thermalStepJudge s fun d => d.clk.thermLvl = (if s.dev.clk.thermLvl = 4 then 4 else min 4 (s.dev.clk.thermLvl + 1))
      ∧ d.clk.thermAt = 0 ∧ d.clk.capLvl = s.dev.clk.capLvl)
  -- 5 °C below it a tenth judgement in a row restores one pulse, an earlier one none
  ∧ (∀ s : State, s.dev.live = true → toSigned 16 (s.dev.fld MGT_TEMP_MAX) ≤ 4 * ((min (s.dev.fld LOOP_TSTEP_C) 100 : Nat) - 5 : Int) →
    s.dev.clk.thermLvl ≠ 0 → s.dev.clk.thermAt = 9 →
    Ends .thermalStepJudge s fun d => d.clk.thermLvl = s.dev.clk.thermLvl - 1 ∧ d.clk.thermAt = 0)
  ∧ (∀ s : State, Inv s → s.dev.live = true → toSigned 16 (s.dev.fld MGT_TEMP_MAX) ≤ 4 * ((min (s.dev.fld LOOP_TSTEP_C) 100 : Nat) - 5 : Int) →
    s.dev.clk.thermLvl ≠ 0 → s.dev.clk.thermAt < 9 →
    Leaves .thermalStepJudge s { s.fresh with clk := { s.dev.clk with thermAt := s.dev.clk.thermAt + 1 } })
  -- between the two the judgements start over
  ∧ (∀ s : State, Inv s → s.dev.live = true → 4 * ((min (s.dev.fld LOOP_TSTEP_C) 100 : Nat) - 5 : Int) < toSigned 16 (s.dev.fld MGT_TEMP_MAX) →
    toSigned 16 (s.dev.fld MGT_TEMP_MAX) ≤ 4 * (min (s.dev.fld LOOP_TSTEP_C) 100 : Nat) →
    Leaves .thermalStepJudge s { s.fresh with clk := { s.dev.clk with thermAt := 0 } })
  -- GLB_CLK_STAT shows the fewer pulses of the two levels; a step ends a run; above the grade maximum it is a move of loop 2
  ∧ (∀ s : State, s.dev.live = true → 4 * (min (s.dev.fld LOOP_TSTEP_C) 100 : Nat) < toSigned 16 (s.dev.fld MGT_TEMP_MAX) →
    s.dev.clk.thermLvl < 4 → s.dev.clk.capLvl < 8 →
    Ends .thermalStepJudge s fun d => d.fld CLK_TSTEP = max (s.dev.clk.thermLvl + 1) s.dev.clk.capLvl
      ∧ (s.dev.running = true → d.fld REP_STATE = 5 ∧ d.fld REP_REASON = 1) ∧ (s.dev.running = false → d.fld REP_STATE = s.dev.fld REP_STATE)
      ∧ (100 < s.dev.fld LOOP_TSTEP_C → d.fbit SAFESIDE 2 = true)
      ∧ (s.dev.fld LOOP_TSTEP_C ≤ 100 → d.fld SAFESIDE = s.dev.fld SAFESIDE))
  -- POWER_CAP_STEP: an average above the cap takes one more pulse, down to four
  ∧ (∀ s : State, s.dev.live = true → s.dev.fld LOOP_CAP_W ≠ 0 → 10 * max 150 (s.dev.fld LOOP_CAP_W) < s.dev.fld MGT_PWR →
    s.dev.clk.capLvl < 4 → s.dev.clk.thermLvl < 8 →
    Ends .powerCapStep s fun d => d.clk.capLvl = s.dev.clk.capLvl + 1 ∧ d.clk.capAt = 0 ∧ d.clk.thermLvl = s.dev.clk.thermLvl
      ∧ d.fld CLK_TSTEP = max s.dev.clk.thermLvl (s.dev.clk.capLvl + 1) ∧ d.flag CLK_PWR_LIMITED = true
      ∧ (s.dev.running = true → d.fld REP_STATE = 5 ∧ d.fld REP_REASON = 2) ∧ (s.dev.running = false → d.fld REP_STATE = s.dev.fld REP_STATE))
  -- at four, or without cap and level, nothing moves
  ∧ (∀ s : State, Inv s → s.dev.live = true → s.dev.fld LOOP_CAP_W ≠ 0 → 10 * max 150 (s.dev.fld LOOP_CAP_W) < s.dev.fld MGT_PWR →
    s.dev.clk.capLvl = 4 → Leaves .powerCapStep s { s.fresh with clk := { s.dev.clk with capAt := 0 } })
  ∧ (∀ s : State, Inv s → s.dev.live = true → s.dev.fld LOOP_CAP_W = 0 → s.dev.clk.capLvl = 0 →
    Leaves .powerCapStep s { s.fresh with clk := { s.dev.clk with capAt := 0 } })
  -- a cap that is taken away restores every pulse; an average at or below it restores one at every tenth judgement (log entry 8)
  ∧ (∀ s : State, s.dev.live = true → s.dev.fld LOOP_CAP_W = 0 → s.dev.clk.capLvl ≠ 0 →
    Ends .powerCapStep s fun d => d.clk.capLvl = 0 ∧ d.flag CLK_PWR_LIMITED = false)
  ∧ (∀ s : State, s.dev.live = true → s.dev.fld LOOP_CAP_W ≠ 0 → s.dev.fld MGT_PWR ≤ 10 * max 150 (s.dev.fld LOOP_CAP_W) →
    s.dev.clk.capLvl ≠ 0 → Ends .powerCapStep s fun d =>
      if s.dev.clk.capAt < 9 then d.clk.capLvl = s.dev.clk.capLvl ∧ d.clk.capAt = s.dev.clk.capAt + 1
      else d.clk.capLvl = s.dev.clk.capLvl - 1 ∧ d.clk.capAt = 0)
  -- RAIL_MONITOR_SAMPLE: GOOD shows the rails inside their windows, and each rail's µs outside in a row count
  ∧ (∀ (s : State) (good : BitVec 9) (mv : BitVec 32), s.dev.mlive = true → s.dev.rst.pfail = false →
    Ends (.railMonitorSample good mv false) s fun d => d.fld RAIL_GOOD = good.toNat
      ∧ ∀ i : Fin 9, d.clk.railOut.getD i.val 0 = if good.getLsbD i.val then 0 else min 10 (s.dev.clk.railOut.getD i.val 0 + 1))
  -- no rail is judged once PFAIL_N is accepted, or while VCORE moves
  ∧ (∀ (s : State) (good : BitVec 9) (mv : BitVec 32) (moving : Bool), Inv s → s.dev.mlive = true → s.dev.rst.pfail = true ∨ moving = true →
    Leaves (.railMonitorSample good mv moving) s (s.fresh.setF RAIL_GOOD good.toNat))
  -- one rail outside for the tenth µs in a row: its bit, and a class S entry
  ∧ (∀ (s : State) (n : Fin 9) (mv : BitVec 32), s.dev.mlive = true → s.dev.rst.pfail = false → s.dev.clk.railOut.getD n.val 0 = 9 →
    Gives (.railMonitorSample (BitVec.ofNat 9 (0x1FF - 2 ^ n.val)) mv false) s
      (({ s.fresh.setF RAIL_GOOD (0x1FF - 2 ^ n.val) with
          clk := { s.dev.clk with railOut := (upTo 9).map fun i => if i = n.val then 10 else 0 } }.raise RAIL_OUT n.val).logEv
        0x0011 .S 0 [dM 2 (2 ^ n.val), dI mv.toInt, dN (s.dev.fld MGT_VCORE)]))
  -- APPLY: a sum ahead of the timestamp moves it at once, and TS_STEP says by how much
  ∧ (∀ (s : State) (p : Path) (v : Word64), Inv s → Reaches s.dev p 0x218 → v.getLsbD 31 = true → s.dev.live = true →
    v.getLsbD 16 = false → 0 < toSigned 32 (bits v.toNat 32 32) - s.dev.clk.slewLeft →
    Leaves (.apply p v) s
      ((({ ((s.fresh.setF TSC_RATE (bits v.toNat 0 16)).setF TSC_PPS_OUT 0).setF TSC_OFFSET (bits v.toNat 32 32) with
          clk := { s.dev.clk with ts := s.dev.clk.ts + (toSigned 32 (bits v.toNat 32 32) - s.dev.clk.slewLeft).toNat, slewLeft := 0,
                                  slewPhase := 0 } }.setF
        CLK_TS_SLEW 0).logEv 0x0007 .I 0 [dI (toSigned 32 (bits v.toNat 32 32) - s.dev.clk.slewLeft)]).emit .wrDone))
  -- with PPS_OUT = 1 the same, and one pulse for each multiple of 800,000,000 it passes
  ∧ (∀ (s : State) (p : Path) (v : Word64), Reaches s.dev p 0x218 → v.getLsbD 31 = true → s.dev.live = true →
    v.getLsbD 16 = true → 0 < toSigned 32 (bits v.toNat 32 32) - s.dev.clk.slewLeft →
    Ends (.apply p v) s fun d => d.clk.ts = s.dev.clk.ts + (toSigned 32 (bits v.toNat 32 32) - s.dev.clk.slewLeft).toNat
      ∧ d.clk.slewLeft = 0 ∧ d.flag CLK_TS_SLEW = false ∧ s.dev.clk.ppsUntil ≤ d.clk.ppsUntil
      ∧ d.out = List.replicate (d.clk.ts / 800000000 - s.dev.clk.ts / 800000000) (.pulse "PTP_PPS" 1) ++ [.wrDone]
      ∧ (d.clk.ts / 800000000 ≠ s.dev.clk.ts / 800000000 → s.dev.clk.tick + 1000 ≤ d.clk.ppsUntil))
  -- a sum behind it is left to absorb, and TS_SLEW reads 1; a sum of 0 leaves none
  ∧ (∀ (s : State) (p : Path) (v : Word64), Inv s → Reaches s.dev p 0x218 → v.getLsbD 31 = true → s.dev.live = true →
    toSigned 32 (bits v.toNat 32 32) - s.dev.clk.slewLeft ≤ 0 →
    Leaves (.apply p v) s
      (({ ((s.fresh.setF TSC_RATE (bits v.toNat 0 16)).setF TSC_PPS_OUT (bits v.toNat 16 1)).setF TSC_OFFSET (bits v.toNat 32 32) with
          clk := { s.dev.clk with slewLeft := (s.dev.clk.slewLeft - toSigned 32 (bits v.toNat 32 32)).toNat } }.setF
        CLK_TS_SLEW (if toSigned 32 (bits v.toNat 32 32) = s.dev.clk.slewLeft then 0 else 1)).emit .wrDone))
  -- a write with APPLY = 0 sets the fields alone
  ∧ (∀ (s : State) (p : Path) (v : Word64), Inv s → Reaches s.dev p 0x218 → v.getLsbD 31 = false →
    Leaves (.apply p v) s
      ((((s.fresh.setF TSC_RATE (bits v.toNat 0 16)).setF TSC_PPS_OUT (bits v.toNat 16 1)).setF TSC_OFFSET (bits v.toNat 32 32)).emit .wrDone))
  -- PPS_IN_EDGE latches the timestamp, while PTP_PPS is an input
  ∧ (∀ s : State, Inv s → s.dev.live = true → s.dev.flag TSC_PPS_OUT = false →
    Leaves .ppsInEdge s (s.fresh.setF TS_PPS s.dev.clk.ts))
  ∧ (∀ s : State, Inv s → s.dev.flag TSC_PPS_OUT = true → Leaves .ppsInEdge s s.fresh)
  -- PPS_OUT_PULSE: at the next multiple of 800,000,000 the pin rises, for 1,000 ticks at least
  ∧ (∀ s : State, s.dev.live = true → s.dev.flag TSC_PPS_OUT = true → s.dev.clk.slewOwed = 0 → s.dev.clk.tsFrac.natAbs < 2 ^ 26 →
    Ends .ppsOutPulse s fun d => nextMultiple 800000000 s.dev.clk.ts ≤ d.clk.ts ∧ d.clk.ts ≤ nextMultiple 800000000 s.dev.clk.ts + 1
      ∧ d.clk.ppsUntil = max s.dev.clk.ppsUntil (d.clk.tick + 1000) ∧ d.out = [.pulse "PTP_PPS" 1] ∧ d.mem = s.dev.mem)
  -- TS_SLEW_DONE: what a negative OFFSET left is absorbed, one tick in every 2,048; with RATE = 0 the timestamp advances by all the others
  ∧ (∀ s : State, s.dev.live = true → s.dev.flag CLK_TS_SLEW = true → s.dev.clk.slewPhase < 2048 →
    Ends .tsSlewDone s fun d => d.clk.tick = s.dev.clk.tick + (2048 * s.dev.clk.slewLeft - s.dev.clk.slewPhase)
      ∧ d.clk.slewLeft = 0 ∧ d.flag CLK_TS_SLEW = false ∧ d.mem = s.dev.mem
      ∧ (s.dev.fld TSC_RATE = 0 → s.dev.clk.tsFrac = 0 → s.dev.clk.slewOwed = 0 → 0 < s.dev.clk.slewLeft →
          d.clk.ts = s.dev.clk.ts + 2047 * s.dev.clk.slewLeft - s.dev.clk.slewPhase))

/-- The reads of the three registers R57 names, by number: GLB_TS, ANN_NCLK, GLB_REP_RT. -/
def Sys2Proof.Machine.timeRead (r : Fin 3) (p : Path) (part : RdPart) : Instr :=
  match r with
  | 0 => .glbTsRead p part
  | 1 => .annNclkRead p part
  | _ => .glbRepRtRead p part

/-- What they read, all 64 bits. -/
def Sys2Proof.Machine.timeValue (d : Dev) (r : Fin 3) : Nat :=
  (match r with
  | 0 => d.clk.ts
  | 1 => d.nclk
  | _ => d.fld REP_RT) % 2 ^ 64

/-- Their offsets. -/
def Sys2Proof.Machine.timeOff (r : Fin 3) : Nat :=
  match r with
  | 0 => 0x210
  | 1 => 0x3000000
  | _ => 0x420

/-- The shadow copies of R57, and plain register writes (R8, R9, R11, R133, R137).
It says where these complete with their own effect: glbTsRead, annNclkRead, glbRepRtRead, registerWrite. -/
def Obligations.RegisterAccess : Prop :=
  -- a 32-bit read of bits [31:0] latches bits [63:32] for its path and marks the copy pending
  (∀ (s : State) (r : Fin 3) (p : Path), Inv s → Readable s.dev p (timeOff r) →
    Leaves (timeRead r p .low) s
      ({ s.fresh with clk := { s.dev.clk with
          shadow := Sparse.set none s.dev.clk.shadow (shadowKey r.val p) (some (BitVec.ofNat 32 (timeValue s.dev r / 2 ^ 32))) } }.emit
        (.csrVal (timeValue s.dev r % 2 ^ 32))))
  -- the next read of bits [63:32] through that path returns the copy and clears the mark
  ∧ (∀ (s : State) (r : Fin 3) (p : Path) (h : BitVec 32), Inv s → Readable s.dev p (timeOff r + 4) →
      Sparse.get none s.dev.clk.shadow (shadowKey r.val p) = some h →
      Leaves (timeRead r p .high) s
        ({ s.fresh with clk := { s.dev.clk with shadow := Sparse.set none s.dev.clk.shadow (shadowKey r.val p) none } }.emit (.csrVal h.toNat)))
  -- with no copy pending it returns the live bits; a 64-bit read is atomic and leaves the copies alone
  ∧ (∀ (s : State) (r : Fin 3) (p : Path), Inv s → Readable s.dev p (timeOff r + 4) →
      Sparse.get none s.dev.clk.shadow (shadowKey r.val p) = none →
      Leaves (timeRead r p .high) s (s.fresh.emit (.csrVal (timeValue s.dev r / 2 ^ 32))))
  ∧ (∀ (s : State) (r : Fin 3) (p : Path), Inv s → Readable s.dev p (timeOff r) →
      Leaves (timeRead r p .whole) s (s.fresh.emit (.csrVal (timeValue s.dev r))))
  -- REGISTER_WRITE of a whole read-write register: EMB_USER
  ∧ (∀ (s : State) (p : Path) (i : Fin 4) (v : Word64), Inv s → Reaches s.dev p (0x300080 + 8 * i.val) →
      Leaves (.registerWrite p (BitVec.ofNat 28 (0x300080 + 8 * i.val)) 8 v) s ((s.fresh.setF EMB_USER v.toNat i.val).emit .wrDone))
  -- of 32 bits of it: the other half keeps its value
  ∧ (∀ (s : State) (p : Path) (i : Fin 4) (v : Word64), Inv s → Reaches s.dev p (0x300080 + 8 * i.val) →
      Leaves (.registerWrite p (BitVec.ofNat 28 (0x300080 + 8 * i.val)) 4 v) s
        ((s.fresh.setF EMB_USER (v.toNat % 2 ^ 32 + s.dev.fld EMB_USER i.val / 2 ^ 32 * 2 ^ 32) i.val).emit .wrDone))
  -- of another width, or not naturally aligned: no effect but a CSR_ACCESS entry with cause 1
  ∧ (∀ (s : State) (p : Path) (off : CsrOff) (n : Fin 9) (v : Word64), Inv s → Reaches s.dev p off.toNat →
      ¬ ((n.val = 4 ∨ n.val = 8) ∧ off.toNat % n.val = 0) → off.toNat < 0x400000 ∨ 0x408000 ≤ off.toNat →
      Leaves (.registerWrite p off n v) s ((s.fresh.csrAccess off.toNat n.val (pathCode p) 1).emit .wrDone))
  -- of an unprotected user word of the Keep bank: it starts, and is answered when it completes
  ∧ (∀ (s : State) (p : Path) (k : Fin 4096) (v : Word64), Inv s → Reaches s.dev p (0x400000 + 8 * k.val) →
      8 ≤ k.val → s.dev.keepProtected k.val = false → s.dev.rst.pfail = false → s.dev.keep.running = none →
      Leaves (.registerWrite p (BitVec.ofNat 28 (0x400000 + 8 * k.val)) 8 v) s
        { s.fresh with keep := { s.dev.keep with running := some ({ path := p, word := k.val, data := v.toNat, at_ := s.dev.clk.tick }, s.dev.clk.tick) } })

/-- PERST_N of a port die, an input or (in ROOT mode) an output (R58, R60, R473).
It says where these complete with their own effect: perstN, perstRelease. -/
def Obligations.PortResets : Prop :=
  -- PERST_N low: the controller's reset begins, with a fresh challenge (R150)
  (∀ (s : State) (n : Unit4), s.dev.aReleased = true → s.dev.prtEff PC_MODE n.val ≠ 1 → s.dev.ringFed n.val = false →
      Sparse.get none s.dev.rst.port n.val = none →
      Gives (.perstN n false) s
        (({ s.fresh.setPrt n.val { s.dev.prtOf n.val with perstLow := true } with
            rst := { s.dev.rst with port := Sparse.set none s.dev.rst.port n.val (some s.dev.clk.ts) } }.freshChal.portClear n.val).heldRelease))
  -- a second fall while it runs is absorbed
  ∧ (∀ (s : State) (n : Unit4), Inv s → s.dev.aReleased = true → s.dev.prtEff PC_MODE n.val ≠ 1 → s.dev.ringFed n.val = false →
      (Sparse.get none s.dev.rst.port n.val).isSome = true → s.dev.rst.held = [] →
      Leaves (.perstN n false) s (s.fresh.setPrt n.val { s.dev.prtOf n.val with perstLow := true }))
  -- before the released stage A the level is kept for the binding; in ROOT mode the pin is an output; a ring port has no controller
  ∧ (∀ (s : State) (n : Unit4) (h : Bool), Inv s → s.dev.load.aDone = false → s.dev.ringFed n.val = false → s.dev.rst.held = [] →
      Leaves (.perstN n h) s (s.fresh.setPrt n.val { s.dev.prtOf n.val with perstLow := !h }))
  ∧ (∀ (s : State) (n : Unit4) (h : Bool), Inv s → s.dev.rst.held = [] →
      ((s.dev.load.aDone = true ∧ s.dev.prtEff PC_MODE n.val = 1) ∨ s.dev.ringFed n.val = true) → Leaves (.perstN n h) s s.fresh)
  -- its rise: the binding takes effect, the cause bit is set and the RESET entry names the port
  ∧ (∀ (s : State) (n : Unit4) (t : Nat), Inv s → s.dev.aReleased = true → s.dev.prtEff PC_MODE n.val ≠ 1 → s.dev.ringFed n.val = false →
      Sparse.get none s.dev.rst.port n.val = some t → s.dev.rst.held = [] →
      Ends (.perstN n true) s fun d => Sparse.get none d.rst.port n.val = none ∧ (d.prtOf n.val).perstLow = false ∧ (d.prtOf n.val).fwFault = false
        ∧ (d.prtOf n.val).eff = s.dev.boundNow n.val
        ∧ d.flag CAUSE_PORT = true
        ∧ d.ember = ((s.dev.raise CAUSE_PORT).resetLog 5 n.val t).ember ∧ d.mem = s.dev.mem)
  -- PERST_RELEASE: in ROOT mode the pin rises PERST_HOLD µs after A_DONE
  ∧ (∀ (s : State) (n : Unit4) (t : Nat), Inv s → s.dev.aReleased = true → s.dev.prtEff PC_MODE n.val = 1 → (s.dev.prtOf n.val).perstOut = false →
      (s.dev.prtOf n.val).perstAt = some t →
      Gives (.perstRelease n) s
        (((s.fresh.tickTo (t + 800 * s.dev.prtEff PC_PERST_HOLD n.val)).setPrt n.val { s.dev.prtOf n.val with perstOut := true }).emit
          (.pulse "PERST_N" n.val)))

/-- A header is due: the load stands in HEADER and reads flash slot `slot`. -/
abbrev Sys2Proof.Machine.HeaderDue (d : Dev) (slot : Fin 2) : Prop :=
  d.loading = true ∧ d.cfgState = 1 ∧ d.load.stream = false ∧ d.load.slot = slot.val

/-- Section `x` of type `typ` is due, in the clear, and `b` is what its digest says (R97). -/
abbrev Sys2Proof.Machine.Arrives (d : Dev) (typ : Nat) (x : Sect) (b : List Byte) : Prop :=
  d.sectDue typ = some x ∧ d.load.stream = false ∧ d.load.bOnly = false ∧ b.length = x.length ∧ Config.sha384 b = x.digest
    ∧ x.enc = false ∧ d.flag FUSE_ENC_REQUIRED = false

/-- The state in which a section that flash gives is applied: its bytes have been read at its OFFSET (R86, R94). -/
abbrev Sys2Proof.Machine.State.sectRead (s : State) (x : Sect) : Dev := s.fresh.flashRead x.offset x.length

/-- The section after it comes next (R101). -/
abbrev Sys2Proof.Machine.Dev.andNext (d : Dev) : Dev := { d with load := { d.load with next := d.load.next + 1 } }

/-- The header and the sections of a load (R87, R89, R91, R92, R95, R97, R101, R104, R105, R115).
It says where these complete with their own effect: loadHeader, csrSet, portFw, fabric, ebm, tileProg, cmdList, data,
loadHbmWaitEnd, followerA, followerB, followerPacket. -/
def Obligations.LoadHeaderAndSections : Prop :=
  -- one that is no header of its form fails with the code of R105: slot 0 falls back to slot 1, slot 1 ends in FAILED_A
  (∀ (s : State) (slot : Fin 2) (b : List Byte), HeaderDue s.dev slot → headerForm b ≠ 0 →
    Gives (.loadHeader slot b) s ((s.fresh.headerRead b).loadFail (headerForm b) 0))
  -- the header is read from its slot in flash (R86, R94), and one whose authentication fails also fails, with that check's code; CFG_STAT.OPEN shows an open part
  ∧ (∀ (s : State) (slot : Fin 2) (b : List Byte), HeaderDue s.dev slot → s.dev.load.bOnly = false → headerForm b = 0 →
      Gives (.loadHeader slot b) s
        (let d := (s.fresh.headerRead b).setF CFG_OPEN (if s.dev.openPart then 1 else 0)
         if s.dev.headerAuth b ≠ 0 then d.loadFail (s.dev.headerAuth b) 0
         else ({ d with load := { d.load with hdr := some (hdrOf b), next := 0, content := s.dev.contentKey (hdrOf b) } }.uart
           (0x03 + slot.val)).setF CFG_STATE 2))
  -- a failed stage A of slot 0 leaves the load reading slot 1, and of slot 1 leaves FAILED_A
  ∧ (∀ (d : Dev) (c st : Nat), d.load.bOnly = false → d.cfgState = 1 → d.load.stream = false → c < 16 →
      (d.loadFail c st).cfgState = (if d.load.slot = 0 then 1 else 7) ∧ (d.loadFail c st).fld CFG_FAIL_CODE = c
        ∧ (d.loadFail c st).load.slot = (if d.load.slot = 0 then 1 else d.load.slot) ∧ (d.loadFail c st).load.hdr = none)
  -- a section whose digest does not match fails with DIGEST_FAIL, of any type
  ∧ (∀ (s : State) (x : Sect) (b : List Byte), s.dev.load.stream = false → b.length ≠ x.length →
    ∀ c ∈ [(0x0001, Instr.csrSet b), (0x0002, .portFw b), (0x0010, .fabric b), (0x0011, .ebm b), (0x0020, .tileProg b), (0x0030, .cmdList b),
      (0x0040, .data b), (0x0050, .followerA b), (0x0051, .followerB b)], s.dev.sectDue c.1 = some x → Gives c.2 s ((s.sectRead x).loadFail 7 0))
  -- CSR_SET: a record writes its register (EMB_USER 0 here), and the load remembers it
  ∧ (∀ (s : State) (x : Sect) (v : Word64), Inv s → Arrives s.dev 0x0001 x (leBytes 8 0x300080 ++ leBytes 8 v.toNat) → s.dev.live = true →
      s.dev.rst.tripped = false → s.dev.keepStalls .csrSet 0x300080 true = false →
      Leaves (.csrSet (leBytes 8 0x300080 ++ leBytes 8 v.toNat)) s
        (Dev.andNext { (s.sectRead x).setF EMB_USER v.toNat 0 with load := { s.dev.load with wroteCsr := 0x300080 :: s.dev.load.wroteCsr } }))
  -- a record for GLB_RST_CTL, GLB_TS_CTL or the key registers fails the load
  ∧ (∀ (s : State) (x : Sect) (v : Word64), ∀ off ∈ [0x228, 0x218, 0x100200, 0x100220], Arrives s.dev 0x0001 x (leBytes 8 off ++ leBytes 8 v.toNat) →
      Gives (.csrSet (leBytes 8 off ++ leBytes 8 v.toNat)) s ((s.sectRead x).loadFail 0x0A 0))
  -- PORT_FW: the firmware is kept for the die, or the load fails where the die is down
  ∧ (∀ (s : State) (x : Sect) (b : List Byte), Inv s → Arrives s.dev 0x0002 x b → s.dev.fbit DIE_PD_UP x.index = true →
      Leaves (.portFw b) s (Dev.andNext { s.sectRead x with load := { s.dev.load with portFw := Sparse.set [] s.dev.load.portFw x.index b } }))
  ∧ (∀ (s : State) (x : Sect) (b : List Byte), Arrives s.dev 0x0002 x b → s.dev.fbit DIE_PD_UP x.index = false →
      Gives (.portFw b) s ((s.sectRead x).loadFail 0x0A 0))
  -- FABRIC: the region's frames, and what they set in its hard state
  ∧ (∀ (s : State) (x : Sect) (b : List Byte), Arrives s.dev 0x0010 x b →
      Gives (.fabric b) s
        (Dev.andNext (((({ s.sectRead x with load := { s.dev.load with wroteReg := x.index :: s.dev.load.wroteReg } }.putFrames x.index b).configRegion
          x.index).hxFromFrames x.index))))
  -- EBM: the region's essential-bit map
  ∧ (∀ (s : State) (x : Sect) (b : List Byte), Inv s → Arrives s.dev 0x0011 x b →
      Leaves (.ebm b) s
        (Dev.andNext ({ s.sectRead x with load := { s.dev.load with wroteReg := x.index :: s.dev.load.wroteReg } }.putEbm x.index b)))
  -- TILE_PROG of one tile: its bytes, if the tile has them
  ∧ (∀ (s : State) (x : Sect) (b : List Byte), Inv s → Arrives s.dev 0x0020 x b → x.index < 64 → x.target + b.length ≤ s.dev.tcBase → 0 < b.length →
      Ends (.tileProg b) s fun d => d.load.next = s.dev.load.next + 1 ∧ d.load.wroteTile = x.index :: s.dev.load.wroteTile
        ∧ ∀ a : Nat, d.byte a = if tileAddr x.index x.target ≤ a ∧ a < tileAddr x.index x.target + b.length
            then b.getD (a - tileAddr x.index x.target) 0 else s.dev.byte a)
  -- CMD_LIST and DATA on a trained controller: the bytes lie in HBM, and a list is its queue's entry list
  ∧ (∀ (s : State) (x : Sect) (b : List Byte), Arrives s.dev 0x0030 x b → x.target + b.length ≤ hbmEnd → s.dev.dataStatus x.target b.length = 0 →
      (∀ h ∈ s.dev.hbmTouched x.target b.length, s.dev.fbit DIE_HBM_CTL_OK h = true) →
      Gives (.cmdList b) s
        (Dev.andNext ({ s.sectRead x with load := { s.dev.load with
            wroteData := (x.target, b.length) :: s.dev.load.wroteData, hbmWait := none,
            entryList := Sparse.set 0 s.dev.load.entryList (x.index % 16 * 4 + x.index / 16 % 4) (1 + x.target) } }.rawWrite x.target (allOn b))))
  ∧ (∀ (s : State) (x : Sect) (b : List Byte), Arrives s.dev 0x0040 x b → x.typ = 0x0040 → x.target + b.length ≤ hbmEnd → s.dev.dataStatus x.target b.length = 0 →
      (∀ h ∈ s.dev.hbmTouched x.target b.length, s.dev.fbit DIE_HBM_CTL_OK h = true) →
      Gives (.data b) s
        (Dev.andNext ({ s.sectRead x with load := { s.dev.load with wroteData := (x.target, b.length) :: s.dev.load.wroteData, hbmWait := none } }.rawWrite
            x.target (allOn b))))
  -- on a controller that has not trained yet the section waits; LOAD_HBM_WAIT_END ends the wait
  ∧ (∀ (s : State) (x : Sect) (b : List Byte), Inv s → Arrives s.dev 0x0040 x b → x.target + b.length ≤ hbmEnd → s.dev.dataStatus x.target b.length = 0 →
      (s.dev.hbmTouched x.target b.length).any (fun h => !(s.dev.fbit DIE_HBM_CTL_OK h || (s.dev.hbmOf h).trained)) = true →
      Leaves (.data b) s { s.sectRead x with load := { s.dev.load with hbmWait := some b } })
  ∧ (∀ (s : State) (x : Sect) (b : List Byte), s.dev.load.hbmWait = some b → s.dev.loading = true →
      ({ s.dev with load := { s.dev.load with hbmWait := none } } : Dev).sectDue 0x0040 = some x →
      Gives .loadHbmWaitEnd s (Dev.useData x b { s.fresh with load := { s.dev.load with hbmWait := none } }))
  -- FOLLOWER_A and FOLLOWER_B: in mode 0 the stored bytes leave as one packet of KIND 0 or 1
  ∧ (∀ (s : State) (x : Sect) (b : List Byte), Inv s → s.dev.fld CFG_MODE = 0 →
      ∀ c ∈ [(0x0050, 0, Instr.followerA b), (0x0051, 1, .followerB b)], Arrives s.dev c.1 x b → x.follower = true →
        Leaves c.2.2 s (Dev.andNext ((s.sectRead x).emit (.link "CFG_DOUT" 0 [] (packetBytes (x.index % 2 ^ 16) c.2.1 b)))))
  -- FOLLOWER_PACKET: a daisy follower repeats it, and takes it if it is meant
  ∧ (∀ (s : State) (target : BitVec 16) (b : List Byte), Inv s → s.dev.loading = true → s.dev.fld CFG_MODE = 1 → s.dev.load.stream = true → s.dev.load.pkts = true →
      target.toNat = s.dev.fld CFG_CHAIN_ID ∨ target.toNat = 0xFFFF →
      Leaves (.followerPacket target 0 b) s
        ({ s.fresh with load := { s.dev.load with buf := s.dev.load.buf ++ b, lastAt := s.dev.clk.ts } }.emit
          (.link "CFG_DOUT" 0 [] (packetBytes target.toNat 0 b))))

/-- The ends of the stages of a load, its timeouts, and what CFG_CTL and CFG_LOAD_DATA do (R101, R105, R106, R107, R125, R126).
It says where these complete with their own effect: aDone, stageBDone, bDone, syncTimeout, streamTimeout, forceStart, load,
cfgLoadData. -/
def Obligations.LoadStages : Prop :=
  -- A_DONE: stage A's set-up is released, the slot is shown, STATE leaves STAGE_A, port dies and links start
  (∀ (s : State) (h : Hdr), s.dev.load.hdr = some h → s.dev.loading = true → s.dev.cfgState = 2 → s.dev.load.next = h.stageA →
    Gives .aDone s
      ((((({ s.fresh with
          load := { s.dev.load with aDone := true, pubkey := h.pubkey, digestsA := (h.sects.take h.stageA).map Sect.digest,
                                    wroteData := [], wroteReg := [], wroteTile := [], wroteCsr := [] },
          safe := { s.dev.safe with setUp := true } }.setF CFG_SLOT s.dev.load.slot).setF CFG_STATE 3).uart 0x05).logEv 0x0101 .I 0
        [dC 0, dC s.dev.load.slot, dC (s.dev.fld CFG_A_STALE)] s.dev.openPart).portsStart.linksTrain))
  -- STAGE_B_DONE: with SYNC_START the device waits in SYNC_WAIT, CFG_DONE released; without, it enters RUN
  ∧ (∀ (s : State) (h : Hdr), Inv s → s.dev.load.hdr = some h → s.dev.loading = true → s.dev.cfgState = 3 → s.dev.load.next = h.sects.length →
      s.dev.load.hbmWait = none → bitAt h.flags 0 = true → s.dev.bindingsFit = true →
      Leaves .stageBDone s
        ((({ s.fresh with load := { s.dev.load with syncAt := s.dev.clk.ts } }.setF CFG_STATE 4).doneRelease).uart 0x07))
  ∧ (∀ (s : State) (h : Hdr), s.dev.load.hdr = some h → s.dev.loading = true → s.dev.cfgState = 3 → s.dev.load.next = h.sects.length →
      s.dev.load.hbmWait = none → bitAt h.flags 0 = false → s.dev.bindingsFit = true →
      Gives .stageBDone s s.fresh.enterRun)
  -- an image whose bindings do not fit their regions fails with TARGET_FAIL
  ∧ (∀ (s : State) (h : Hdr), s.dev.load.hdr = some h → s.dev.loading = true → s.dev.cfgState = 3 → s.dev.load.next = h.sects.length →
      s.dev.load.hbmWait = none → bitAt h.flags 0 = true → s.dev.bindingsFit = false →
      Gives .stageBDone s (s.fresh.loadFail 0x0A 0))
  -- B_DONE and FORCE_START end SYNC_WAIT: the device enters RUN
  ∧ (∀ s : State, s.dev.syncWaits = true → Gives .bDone s (s.fresh.setF CFG_DONE_PIN 1).enterRun)
  ∧ (∀ (s : State) (p : Path) (v : Word64), Reaches s.dev p 0x100008 → v.getLsbD 1 = false → v.getLsbD 2 = true → s.dev.syncWaits = true →
      Gives (.forceStart p v) s (((s.fresh.setF CFG_RELOAD_SRC (bits v.toNat 0 1)).enterRun).emit .wrDone))
  -- SYNC_TIMEOUT: class F with code 12, and the device keeps waiting
  ∧ (∀ (s : State) (h : Hdr), s.dev.load.hdr = some h → s.dev.syncWaits = true →
      Gives .syncTimeout s
        ((s.fresh.pass (s.dev.load.syncAt + 800000 * (if h.syncTimeout = 0 then 10000 else h.syncTimeout) - s.dev.clk.ts)).loadFailed 0x0C 0 false))
  -- STREAM_TIMEOUT: no data for 1 s fails the load with code 11
  ∧ (∀ s : State, s.dev.loading = true → s.dev.load.stream = true →
      Gives .streamTimeout s ((s.fresh.pass (s.dev.load.lastAt + 800000000 - s.dev.clk.ts)).loadFail 0x0B 0))
  -- LOAD from WAIT_IMAGE or FAILED_A: a load from CFG_LOAD_DATA begins, its header first
  ∧ (∀ (s : State) (p : Path) (v : Word64), Inv s → Reaches s.dev p 0x100008 → v.getLsbD 1 = true → v.getLsbD 2 = false → s.dev.live = true → s.dev.rst.pfail = false →
      s.dev.rst.reload = none → s.dev.cfgState = 6 ∨ s.dev.cfgState = 7 →
      Leaves (.load p v) s
        (({ s.fresh.setF CFG_RELOAD_SRC (bits v.toNat 0 1) with load := { s.dev.load with
            hdr := none, next := 0, stream := true, pkts := false, slot := 0, flash := {}, buf := [], used := 0, bOnly := false,
            lastAt := s.dev.clk.ts,
            hbmWait := none, wroteData := [], wroteReg := [], wroteTile := [], wroteCsr := [] } }.setF CFG_STATE 1).emit .wrDone))
  -- CFG_LOAD_DATA: 8 bytes join the stream; of another width, or with no such load, nothing but a CSR_ACCESS entry
  ∧ (∀ (s : State) (p : Path) (v : Word64), Inv s → Reaches s.dev p 0x100010 → s.dev.loading = true → s.dev.load.stream = true → s.dev.load.pkts = false →
      Leaves (.cfgLoadData p 8 v) s
        ({ s.fresh with load := { s.dev.load with buf := s.dev.load.buf ++ leBytes 8 v.toNat, lastAt := s.dev.clk.ts } }.emit .wrDone))
  ∧ (∀ (s : State) (p : Path) (v : Word64), Inv s → Reaches s.dev p 0x100010 → s.dev.loading = false →
      Leaves (.cfgLoadData p 8 v) s ((s.fresh.csrAccess 0x100010 8 (pathCode p) 3).emit .wrDone))
  ∧ (∀ (s : State) (p : Path) (v : Word64), Inv s → Reaches s.dev p 0x100010 →
      Leaves (.cfgLoadData p 4 v) s ((s.fresh.csrAccess 0x100010 4 (pathCode p) 1).emit .wrDone))

/-- The key store and the frame scrubber (R98, R99, R121, R122, R130, R131).
It says where these complete with their own effect: enroll, zeroize, scrubFrameCheck. -/
def Obligations.KeysAndScrubber : Prop :=
  -- a write of CFG_KEY_CTL without the key does nothing but a class D entry
  (∀ (s : State) (p : Path) (v : Word64), Inv s → Reaches s.dev p 0x100200 → bits v.toNat 48 16 ≠ 0x7E80 → ∀ c ∈ [Instr.enroll p v, .zeroize p v],
    Leaves c s ((s.fresh.csrAccess 0x100200 8 (pathCode p) 2).emit .wrDone))
  -- ENROLL in WAIT_IMAGE: the key written stands in the key store, wrapped, and KEK_1 is valid; class I
  ∧ (∀ (s : State) (p : Path) (v : Word64), Inv s → Reaches s.dev p 0x100200 → bits v.toNat 48 16 = 0x7E80 → v.getLsbD 0 = true → v.getLsbD 1 = false → s.dev.cfgState = 6 →
      Leaves (.enroll p v) s
        ((({ s.fresh with load := { s.dev.load with keyStore := some (Config.pufWrap (BitVec.ofNat 256
            (s.dev.fld KEY_IN 0 + s.dev.fld KEY_IN 1 * 2 ^ 64 + s.dev.fld KEY_IN 2 * 2 ^ 128 + s.dev.fld KEY_IN 3 * 2 ^ 192))) } }.setF
          KEY_KEK_1_VALID 1).logEv 0x0103 .I 0 []).emit .wrDone))
  -- in any other state it is refused, cause 3
  ∧ (∀ (s : State) (p : Path) (v : Word64), Inv s → Reaches s.dev p 0x100200 → bits v.toNat 48 16 = 0x7E80 → v.getLsbD 0 = true → v.getLsbD 1 = false → s.dev.cfgState ≠ 6 →
      Leaves (.enroll p v) s ((s.fresh.csrAccess 0x100200 8 (pathCode p) 3).emit .wrDone))
  -- ZEROIZE: the wrapped key and every content key are gone, a running exchange's too
  ∧ (∀ (s : State) (p : Path) (v : Word64), Inv s → Reaches s.dev p 0x100200 → bits v.toNat 48 16 = 0x7E80 → v.getLsbD 0 = false → v.getLsbD 1 = true →
      Leaves (.zeroize p v) s
        ((({ s.fresh with
            load := { s.dev.load with keyStore := none, content := none }
            fab := { s.dev.fab with exch := { s.dev.fab.exch with content := none } } }.setF KEY_KEK_1_VALID 0).logEv 0x0104 .I 0 []).emit .wrDone))
  -- SCRUB_FRAME_CHECK: a clean frame only moves the scrubber on, cycling through the region
  ∧ (∀ (s : State) (r : Region), Inv s → s.dev.released = true → s.dev.flag SCRUB_EN = true → s.dev.regionBusy r.val = false →
      (∀ w : Fin 32, NatSet.has s.dev.load.bad (r.val * 196608 + 32 * Sparse.get 0 s.dev.load.scrubPos r.val + w.val) = false) →
      Leaves (.scrubFrameCheck r .clean) s
        { s.fresh with load := { s.dev.load with
            scrubPos := Sparse.set 0 s.dev.load.scrubPos r.val ((Sparse.get 0 s.dev.load.scrubPos r.val + 1) % 6144) } })
  -- a single-bit upset in a non-essential word is corrected and counted, in an essential one it is class S too
  ∧ (∀ (s : State) (r : Region) (w : Fin 32) (b : Fin 64), s.dev.released = true → s.dev.flag SCRUB_EN = true → s.dev.regionBusy r.val = false →
      Gives (.scrubFrameCheck r (.single w b)) s
        (let f := Sparse.get 0 s.dev.load.scrubPos r.val
         let ess := !NatSet.has s.dev.load.nonEss (r.val * 196608 + 32 * f + w.val)
         let d := { s.fresh with load := { s.dev.load with scrubPos := Sparse.set 0 s.dev.load.scrubPos r.val ((f + 1) % 6144) } }.scrubLast r.val f w.val b.val 1 ess
         if ess then (d.inc SCRUB_CORR_E).logEv 0x0105 .S 0 [dT d.scrubReg] else d.inc SCRUB_CORR_NE))
  -- a double-bit upset is left as it is, counted, and class D in a non-essential word, class S in an essential one
  ∧ (∀ (s : State) (r : Region) (w : Fin 32), s.dev.released = true → s.dev.flag SCRUB_EN = true → s.dev.regionBusy r.val = false →
      Gives (.scrubFrameCheck r (.double w)) s
        (let f := Sparse.get 0 s.dev.load.scrubPos r.val
         let k := r.val * 196608 + 32 * f + w.val
         let ess := !NatSet.has s.dev.load.nonEss k
         let d := ({ s.fresh with load := { s.dev.load with scrubPos := Sparse.set 0 s.dev.load.scrubPos r.val ((f + 1) % 6144),
                                                            bad := Sparse.set false s.dev.load.bad k true } }.scrubLast r.val f w.val 0 2 ess).inc SCRUB_UNCORR
         if ess then d.logEv 0x0105 .S 0 [dT d.scrubReg] else d.logUE 0x0105 0 [dT d.scrubReg]))
  -- one left from before is found again each time the scrubber comes by
  ∧ (∀ (s : State) (r : Region), s.dev.released = true → s.dev.flag SCRUB_EN = true → s.dev.regionBusy r.val = false →
      ∀ w : Fin 32, (∀ v : Fin 32, NatSet.has s.dev.load.bad (r.val * 196608 + 32 * Sparse.get 0 s.dev.load.scrubPos r.val + v.val) = decide (v = w)) →
      Gives (.scrubFrameCheck r .clean) s (s.fresh.scrubFrame r.val (.double w)))

/-- A Keep write that path `p` sends now, word `n` with value `v`. -/
abbrev Sys2Proof.Machine.State.keepWr (s : State) (p : Path) (n : Nat) (v : Word64) : KeepWr :=
  { path := p, word := n, data := v.toNat, at_ := s.dev.clk.tick }

/-- The Keep bank (R132 to R139).
It says where these complete with their own effect: keepWrite, keepWriteDone, keepRead. -/
def Obligations.KeepBank : Prop :=
  -- KEEP_WRITE of an unprotected user word starts at once where no write runs
  (∀ (s : State) (p : Path) (n : Fin 4096) (v : Word64), Inv s → Reaches s.dev p (0x400000 + 8 * n.val) → 8 ≤ n.val → s.dev.keepProtected n.val = false →
    s.dev.rst.pfail = false → s.dev.keep.running = none →
    Leaves (.keepWrite p n 8 v) s { s.fresh with keep := { s.dev.keep with running := some (s.keepWr p n.val v, s.dev.clk.tick) } })
  -- it waits its turn where one does, behind all that arrived before it
  ∧ (∀ (s : State) (p : Path) (n : Fin 4096) (v : Word64) (r : KeepWr) (t : Nat), Inv s → Reaches s.dev p (0x400000 + 8 * n.val) → 8 ≤ n.val →
      s.dev.keepProtected n.val = false → s.dev.rst.pfail = false → s.dev.keep.running = some (r, t) → r.at_ ≠ s.dev.clk.tick →
      (∀ x ∈ s.dev.keep.queue, x.at_ ≠ s.dev.clk.tick) →
      Leaves (.keepWrite p n 8 v) s { s.fresh with keep := { s.dev.keep with queue := s.dev.keep.queue ++ [s.keepWr p n.val v] } })
  -- of two that arrive in one tick the one with the lower (requester ID + TS) mod 2,048 goes first
  ∧ (∀ (s : State) (p : Path) (n : Fin 4096) (v : Word64) (r : KeepWr) (t : Nat), Inv s → Reaches s.dev p (0x400000 + 8 * n.val) → 8 ≤ n.val →
      s.dev.keepProtected n.val = false → s.dev.rst.pfail = false → s.dev.keep.running = some (r, t) → r.at_ = s.dev.clk.tick → s.dev.keep.queue = [] →
      Leaves (.keepWrite p n 8 v) s
        { s.fresh with keep :=
          if (pathRid p + s.dev.now) % 2048 < (pathRid r.path + s.dev.now) % 2048 then
            { s.dev.keep with running := some (s.keepWr p n.val v, t), queue := [r] }
          else { s.dev.keep with queue := [s.keepWr p n.val v] } })
  -- words 0 to 7 are the device's own: such a write changes nothing
  ∧ (∀ (s : State) (p : Path) (n : Fin 4096) (v : Word64), Inv s → Reaches s.dev p (0x400000 + 8 * n.val) → n.val < 8 → s.dev.rst.pfail = false →
      Leaves (.keepWrite p n 8 v) s (s.fresh.emit .wrDone))
  -- a 32-bit write is ignored and completes
  ∧ (∀ (s : State) (p : Path) (n : Fin 4096) (v : Word64), Inv s → Reaches s.dev p (0x400000 + 8 * n.val) →
      Leaves (.keepWrite p n 4 v) s (s.fresh.emit .wrDone))
  -- a write of a protected word is ignored, completes normally and writes KEEP_WP_VIOL
  ∧ (∀ (s : State) (p : Path) (n : Fin 4096) (v : Word64), Inv s → Reaches s.dev p (0x400000 + 8 * n.val) → 8 ≤ n.val → s.dev.keepProtected n.val = true →
      s.dev.rst.pfail = false →
      Leaves (.keepWrite p n 8 v) s ((s.fresh.logEv 0x0403 .D 0 [dU 2 n.val, dC (pathCode p)]).emit .wrDone))
  -- after PFAIL_N every write is refused with an error completion, and counted
  ∧ (∀ (s : State) (p : Path) (n : Fin 4096) (v : Word64), Inv s → Reaches s.dev p (0x400000 + 8 * n.val) → s.dev.rst.pfail = true →
      Leaves (.keepWrite p n 8 v) s ({ s.fresh with keep := { s.dev.keep with refused := s.dev.keep.refused + 1 } }.emit .wrError))
  -- KEEP_WRITE_DONE: 1,200 ticks after its start the write takes effect and its path is answered; the next write starts, held accesses go on
  ∧ (∀ (s : State) (w : KeepWr) (t : Nat), s.dev.keep.running = some (w, t) →
      Gives .keepWriteDone s
        (let d := ((s.fresh.tickTo (t + 1200)).keepTake w).keepAnswer w true
         ({ d with keep := { d.keep with running := d.keep.queue.head?.map fun x => (x, d.clk.tick), queue := d.keep.queue.tail } }.heldRelease)))
  -- the word and its wear change together, its check bits are fresh; a count of the device's own adds 1; past 1,000,000 the word is reported worn
  ∧ (∀ (d : Dev) (w : KeepWr),
      (d.keepTake w).keepWord w.word = (if w.own then d.keepWord w.word + 1 else w.data) % 2 ^ 64
        ∧ Sparse.get 0 (d.keepTake w).keep.wear w.word = satAdd 32 (Sparse.get 0 d.keep.wear w.word) 1
        ∧ Sparse.get 0 (d.keepTake w).keep.ecc w.word = 0
        ∧ (d.keepTake w).flag KEEP_WORN_ANY = (d.flag KEEP_WORN_ANY || decide (Sparse.get 0 d.keep.wear w.word = 1000000)))
  -- KEEP_READ of a word, or from 4,096 of its wear counter: what stands there; a corrected one is counted and not rewritten
  ∧ (∀ (s : State) (p : Path) (n : Fin 8192), Inv s → Readable s.dev p (0x400000 + 8 * n.val) → Sparse.get 0 s.dev.keep.ecc n.val = 0 →
      Leaves (.keepRead p n .clean) s (s.fresh.emit (.csrVal (if n.val < 4096 then s.dev.keepWord n.val else s.dev.keepWear (n.val - 4096)))))
  ∧ (∀ (s : State) (p : Path) (n : Fin 8192), Inv s → Readable s.dev p (0x400000 + 8 * n.val) → Sparse.get 0 s.dev.keep.ecc n.val ≠ 2 →
      Leaves (.keepRead p n .single) s
        (({ s.fresh with keep := { s.dev.keep with ecc := Sparse.set 0 s.dev.keep.ecc n.val 1 } }.inc KEEP_CE).emit
          (.csrVal (if n.val < 4096 then s.dev.keepWord n.val else s.dev.keepWear (n.val - 4096)))))
  -- an uncorrectable one reads all ones and writes KEEP_UE
  ∧ (∀ (s : State) (p : Path) (n : Fin 8192), Readable s.dev p (0x400000 + 8 * n.val) →
      Gives (.keepRead p n .double) s
        ((({ s.fresh with keep := { s.dev.keep with ecc := Sparse.set 0 s.dev.keep.ecc n.val 2 } }.raise KEEP_UE).logEv 0x0402 .D 0
          [dU 2 (n.val % 4096)]).emit (.csrVal (2 ^ 64 - 1))))

/-- The SEQs of the pinned entries. -/
def Sys2Proof.Machine.Dev.pinnedSeqs (d : Dev) : List Nat := (upTo d.ember.pinCount).map fun i => embSeqOf (d.embAt i)

/-- The Ember record (R143, R147 to R151).
It says where these complete with their own effect: emberCommit, emberPowerupCheck, embRdIdx, pinClear, pinClearDone. -/
def Obligations.EmberRecord : Prop :=
  -- EMBER_COMMIT: the oldest entry stands at HEAD with the next SEQ, HEAD advances and wraps from 131,071 to 2,048
  (∀ (s : State) (e : EmbEnt) (r : List EmbEnt), Inv s → s.dev.ember.ready = true → s.dev.ember.queue = e :: r → s.dev.ember.lost = 0 → s.dev.ember.pinCount ≠ 2047 →
    2048 ≤ s.dev.ember.head →
    Ends .emberCommit s fun d => d.embAt s.dev.ember.head = (s.dev.pfailCount e).word s.dev.ember.seqNext (s.dev.keepWord 0 % 2 ^ 32) false
      ∧ d.ember.head = (if s.dev.ember.head = 131071 then 2048 else s.dev.ember.head + 1) ∧ d.ember.queue = r ∧ d.ember.seqNext = s.dev.ember.seqNext + 1
      ∧ d.ember.lastTs = e.ts ∧ d.csr = s.dev.csr ∧ d.mem = s.dev.mem)
  -- a class D, F or S entry is also copied to the next free pinned index, while there is one and no clear ran when it was raised or runs now
  ∧ (∀ (s : State) (e : EmbEnt) (r : List EmbEnt), Inv s → s.dev.ember.ready = true → s.dev.ember.queue = e :: r → 2048 ≤ s.dev.ember.head →
      s.dev.ember.lost = 0 → s.dev.ember.pinCount < 2047 → s.dev.flag EMB_CLEARING = false → e.noPin = false →
      Ends .emberCommit s fun d => d.ember.pinCount = (if e.cls = .I then s.dev.ember.pinCount else s.dev.ember.pinCount + 1)
        ∧ (e.cls ≠ .I → d.embAt s.dev.ember.pinCount = (s.dev.pfailCount e).word s.dev.ember.seqNext (s.dev.keepWord 0 % 2 ^ 32) true))
  -- EMBER_POWERUP_CHECK on a whole record: the record is ready and the RESET entries that waited enter the queue
  ∧ (∀ s : State, Inv s → s.dev.ember.ready = false → s.dev.ember.clearing = none → s.dev.ember.reserved = none →
      Gives .emberPowerupCheck s
        (s.dev.ember.resetDue.foldl (fun d e => d.post (resetEntry s.dev.ember.lastTs e.1 e.2 0 true))
          { s.fresh with ember := { s.dev.ember with ready := true, resetDue := [] } }))
  -- a torn reserved entry is reported by an EMB_TORN entry naming its index and SEQ
  ∧ (∀ (s : State) (i q : Nat), Inv s → s.dev.ember.ready = false → s.dev.ember.clearing = none → s.dev.ember.reserved = some (i, q, 0) →
      embSeqOf (s.dev.embAt i) ≠ q → s.dev.ember.resetDue = [] → s.dev.running = false →
      Ends .emberPowerupCheck s fun d => d.ember.ready = true ∧ d.ember.queue = (s.dev.logEv 0x0301 .D 0 [dO i, dT q]).ember.queue ∧ d.mem = s.dev.mem)
  -- so is a torn pinned copy
  ∧ (∀ (s : State) (i q k : Nat), Inv s → s.dev.ember.ready = false → s.dev.ember.clearing = none → s.dev.ember.reserved = some (i, q, k + 1) →
      embSeqOf (s.dev.embAt i) = q → embCrcOk (s.dev.embAt i) = true → embSeqOf (s.dev.embAt k) ≠ q → s.dev.ember.resetDue = [] → s.dev.running = false →
      Ends .emberPowerupCheck s fun d => d.ember.ready = true ∧ d.ember.queue = (s.dev.logEv 0x0301 .D 0 [dO k, dT q]).ember.queue ∧ d.mem = s.dev.mem)
  -- EMB_RD_IDX: the entry's 64 bytes stand in EMB_RD_DATA; a pinned index at or above PIN_COUNT reads zeros
  ∧ (∀ (s : State) (p : Path) (v : Word64), Inv s → Reaches s.dev p 0x300010 → v.toNat < 131072 →
      Ends (.embRdIdx p v) s fun d => d.fld EMB_RD_IDX = v.toNat ∧ d.out = [.wrDone] ∧ d.ember = s.dev.ember ∧ d.mem = s.dev.mem
        ∧ ∀ m : Fin 8, d.fld EMB_RD_DATA m.val = (if v.toNat < 2048 ∧ s.dev.ember.pinCount ≤ v.toNat then 0 else s.dev.embAt v.toNat / 2 ^ (64 * m.val) % 2 ^ 64))
  -- an index above 131,071 changes nothing
  ∧ (∀ (s : State) (p : Path) (v : Word64), Inv s → Reaches s.dev p 0x300010 → 131071 < v.toNat → Leaves (.embRdIdx p v) s (s.fresh.emit .wrDone))
  -- PIN_CLEAR without the key does nothing but a class D entry
  ∧ (∀ (s : State) (p : Path) (v : Word64), Inv s → Reaches s.dev p 0x300200 → bits v.toNat 48 16 ≠ 0x3E1D →
      Leaves (.pinClear p v) s ((s.fresh.csrAccess 0x300200 8 (pathCode p) 2).emit .wrDone))
  -- with it: a signature over EMB_CHAL, GLB_ID and EMB_SEQ_NEXT that verifies under a running image's key starts the clear, another writes AUTH_FAIL; EMB_CHAL is fresh
  ∧ (∀ (s : State) (p : Path) (v : Word64), Inv s → Reaches s.dev p 0x300200 → bits v.toNat 48 16 = 0x3E1D → v.getLsbD 0 = true →
      Gives (.pinClear p v) s
        (Dev.emit (Dev.freshChal
          (if s.dev.load.aDone && Config.ecdsaVerify s.dev.load.pubkey (Config.sha384 (leBytes 8 (s.dev.fld EMB_CHAL) ++ leBytes 8 (s.dev.fld ID_PART + s.dev.fld ID_STEP * 2 ^ 16
              + s.dev.fld ID_GRADE * 2 ^ 24) ++ leBytes 8 s.dev.ember.seqNext)) (BitVec.ofNat 768 (s.dev.concat EMB_AUTH 0 12)) then
            { s.fresh with ember := { s.dev.ember with pinCount := 0, clearing := some (s.dev.pinnedSeqs.headD 0, s.dev.pinnedSeqs.getLastD 0, s.dev.flag CFG_OPEN) } }.setF
              EMB_CLEARING 1
           else s.fresh.logEv 0x0304 .D 0 [dT (s.dev.fld EMB_CHAL)])) .wrDone))
  -- PIN_CLEAR_DONE: indices 0 to 2,047 are zero, Keep word 3 counts in its turn, CLEARING reads 0 and a PIN_CLEARED entry is queued
  ∧ (∀ (s : State) (lo hi : Nat) (op : Bool), Inv s → s.dev.ember.clearing = some (lo, hi, op) →
      Ends .pinClearDone s fun d => d.flag EMB_CLEARING = false ∧ d.ember.clearing = none ∧ d.ember.pinCount = 0 ∧ d.keep = (s.dev.keepOwn 3).keep
        ∧ (∀ i : Fin 2048, d.embAt i.val = 0) ∧ (∀ i : Nat, 2048 ≤ i → d.embAt i = s.dev.embAt i))
  -- one that a power loss cut short completes at the next power-up
  ∧ (∀ (s : State) (lo hi : Nat) (op : Bool), s.dev.ember.ready = false → s.dev.ember.clearing = some (lo, hi, op) → s.dev.ember.reserved = none →
      s.dev.ember.resetDue = [] →
      Gives .emberPowerupCheck s
        (let d := ({ s.fresh with ember := { s.dev.ember with
            area := s.dev.ember.area.filter fun e => decide (2048 ≤ e.1), pinCount := 0, clearing := none } }.keepOwn 3).logEv 0x0303 .I 0 [dT lo, dT hi] op
         { d with ember := { d.ember with ready := true, resetDue := [] } }))

/-- R149: a write to EMB_USER_CTL posts a USER entry.
It says where these complete with their own effect: embUserCtl. -/
def Obligations.UserEntries : Prop :=
  -- the write queues an entry of class I with event code 0xF000 + CODE whose detail is EMB_USER_0 to EMB_USER_2 and the low half of EMB_USER_3
  (∀ (s : State) (p : Path) (v : Word64), Inv s → Reaches s.dev p 0x3000A0 →
      Leaves (.embUserCtl p v) s
        ((s.fresh.post { ts := s.dev.clk.ts, event := 0xF000 + v.toNat % 256, cls := .I, replay := s.dev.running, detail :=
          [dB 8 (s.dev.fld EMB_USER 0), dB 8 (s.dev.fld EMB_USER 1), dB 8 (s.dev.fld EMB_USER 2), dB 4 (s.dev.fld EMB_USER 3 % 2 ^ 32)] }).emit .wrDone))
  -- as it is stored, the event code stands in bytes 16 and 17, and the detail in bytes 32 to 59, byte by byte
  ∧ (∀ (ts code a b c e seq epoch : Nat) (pin : Bool), code < 256 → a < 2 ^ 64 → b < 2 ^ 64 → c < 2 ^ 64 → e < 2 ^ 32 →
      let w := EmbEnt.word { ts := ts, event := 0xF000 + code, cls := .I, detail := [dB 8 a, dB 8 b, dB 8 c, dB 4 e] } seq epoch pin
      w / 2 ^ 128 % 2 ^ 16 = 0xF000 + code ∧ w / 2 ^ 256 % 2 ^ 64 = a ∧ w / 2 ^ 320 % 2 ^ 64 = b ∧ w / 2 ^ 384 % 2 ^ 64 = c ∧ w / 2 ^ 448 % 2 ^ 32 = e)

/-- The device after a read of `n` bytes at `a` in block `b` that finds no uncorrectable word: single-bit errors are corrected and counted
(R168). -/
abbrev Sys2Proof.Machine.Dev.readSound (d : Dev) (b a n : Nat) : Dev := (d.inc QC_CE (d.softCount a n) b).softFix a n

/-- Fabric RAM and the queues on it, as region logic uses them (R166 to R174, R188).
It says where these complete with their own effect: fabricRamWrite, fabricRamRead, qcPatrol, fifoPush, fifoPop, logPush,
logTrigger, rearm, creditPush, creditPop, qcFlagSync. -/
def Obligations.FabricRamAndQueues : Prop :=
  -- FABRIC_RAM_WRITE through port A: the entry takes the value; no other byte changes
  (∀ (s : State) (b : Fin 6144) (i : Fin 16384) (v : BitVec 128), Inv s → s.dev.qcMode b.val = 0 → s.dev.portA b.val = true → i.val < s.dev.qcEntries b.val →
    Ends (.fabricRamWrite b (some (i, v)) none) s fun d => d.csr = s.dev.csr ∧ d.fab = s.dev.fab ∧
      ∀ a : Nat, d.byte a = if s.dev.entryAddr b.val i.val ≤ a ∧ a < s.dev.entryAddr b.val i.val + s.dev.qcBytes b.val
        then (leBytes (s.dev.qcBytes b.val) v.toNat).getD (a - s.dev.entryAddr b.val i.val) 0 else s.dev.byte a)
  -- both ports at one entry: port A's data stands, WCOLL is set and a class D entry is written
  ∧ (∀ (s : State) (b : Fin 6144) (i : Fin 16384) (v w : BitVec 128), Inv s → s.dev.qcMode b.val = 0 → s.dev.portA b.val = true → s.dev.portB b.val = true →
      i.val < s.dev.qcEntries b.val →
      Gives (.fabricRamWrite b (some (i, v)) (some (i, w))) s
        (((s.fresh.putEntry b.val i.val v.toNat).raise QC_WCOLL 0 b.val).logEv 0x9004 .D b.val [dU 2 b.val, dO i.val]))
  -- FABRIC_RAM_READ of a sound word returns the entry; a corrected one is counted
  ∧ (∀ (s : State) (b : Fin 6144) (i : Fin 16384), Inv s → s.dev.qcMode b.val = 0 → s.dev.portA b.val = true → i.val < s.dev.qcEntries b.val →
      s.dev.rawBad (s.dev.entryAddr b.val i.val) (s.dev.qcBytes b.val) = false →
      Leaves (.fabricRamRead b false i .clean) s
        ((s.fresh.readSound b.val (s.dev.entryAddr b.val i.val) (s.dev.qcBytes b.val)).emit (.link "QC.read" b.val [i.val, 0] (leBytes (s.dev.qcBytes b.val) (leNat (s.dev.rawRead (s.dev.entryAddr b.val i.val) (s.dev.qcBytes b.val)))))))
  -- with an uncorrectable word it reads with ERR_U high, counts and writes QC_UE; port B reads in RAM mode and in a circular log
  ∧ (∀ (s : State) (b : Fin 6144) (i : Fin 16384), Inv s → s.dev.qcMode b.val = 0 ∨ s.dev.qcMode b.val = 2 → s.dev.portB b.val = true →
      i.val < s.dev.qcEntries b.val → s.dev.qcWidth b.val ≤ 3 →
      Ends (.fabricRamRead b true i .double) s fun d => d.mem = s.dev.mem ∧ d.fld QC_UE b.val = (s.dev.inc QC_UE 1 b.val).fld QC_UE b.val
        ∧ (s.dev.running = false → d.ember = (s.dev.logEv 0x9005 .D b.val [dU 2 b.val, dO (i.val * s.dev.qcBytes b.val / 8)]).ember)
        ∧ d.out = [.link "QC.read" b.val [i.val, 1] (leBytes (s.dev.qcBytes b.val) (leNat (s.dev.rawRead (s.dev.entryAddr b.val i.val) (s.dev.qcBytes b.val))))])
  -- QC_PATROL checks the word whose turn it is and moves on
  ∧ (∀ (s : State) (b : Fin 6144) (w : Fin 2048), Inv s → s.dev.live = true → (s.dev.qcOf b.val).patrol = w.val →
      s.dev.rawBad (blockAddr b.val + 8 * w.val) 8 = false →
      Leaves (.qcPatrol b w .clean) s
        ((s.fresh.setQc b.val { s.dev.qcOf b.val with patrol := (w.val + 1) % 2048 }).readSound b.val (blockAddr b.val + 8 * w.val) 8))
  -- a corrected word counts and stands corrected
  ∧ (∀ (s : State) (b : Fin 6144) (w : Fin 2048), Inv s → s.dev.live = true → (s.dev.qcOf b.val).patrol = w.val →
      s.dev.rawBad (blockAddr b.val + 8 * w.val) 8 = false →
      Ends (.qcPatrol b w .single) s fun d => d.csr = (s.dev.inc QC_CE 1 b.val).csr ∧ d.softCount (blockAddr b.val + 8 * w.val) 8 = 0 ∧ d.mem = s.dev.mem
        ∧ (d.qcOf b.val).patrol = (w.val + 1) % 2048 ∧ d.ember = s.dev.ember)
  -- an uncorrectable one counts and writes QC_UE
  ∧ (∀ (s : State) (b : Fin 6144) (w : Fin 2048), Inv s → s.dev.live = true → (s.dev.qcOf b.val).patrol = w.val →
      Ends (.qcPatrol b w .double) s fun d => d.mem = s.dev.mem ∧ d.fld QC_UE b.val = (s.dev.inc QC_UE 1 b.val).fld QC_UE b.val
        ∧ (s.dev.running = false → d.ember = (s.dev.logEv 0x9005 .D b.val [dU 2 b.val, dO w.val]).ember) ∧ (d.qcOf b.val).patrol = (w.val + 1) % 2048)
  -- FIFO_PUSH: the entry lands behind the last; while FULL it is dropped, OVERFLOW is set and QC_OVERFLOW written
  ∧ (∀ (s : State) (b : Fin 6144) (v : BitVec 128), s.dev.qcMode b.val = 1 → s.dev.portA b.val = true → s.dev.qcFull b.val = false →
      Gives (.fifoPush b v) s
        (((s.fresh.putEntry b.val (((s.dev.qcOf b.val).rd + (s.dev.qcOf b.val).len) % s.dev.qcDepth b.val) v.toNat).setQc b.val
          { s.dev.qcOf b.val with len := (s.dev.qcOf b.val).len + 1, hidden := (s.dev.qcOf b.val).hidden + 1 }).qcWake b.val))
  ∧ (∀ (s : State) (b : Fin 6144) (v : BitVec 128), Inv s → s.dev.qcMode b.val = 1 → s.dev.portA b.val = true → s.dev.qcFull b.val = true →
      Leaves (.fifoPush b v) s
        ((s.fresh.raise QC_OVERFLOW 0 b.val).logEv 0x9001 .D b.val [dU 2 b.val, dN (s.dev.qcOf b.val).count]))
  -- FIFO_POP: the oldest entry leaves, VALID high; while EMPTY zeros, VALID low, UNDERFLOW and QC_UNDERFLOW
  ∧ (∀ (s : State) (b : Fin 6144), s.dev.qcMode b.val = 1 → s.dev.portB b.val = true → (s.dev.qcOf b.val).count ≠ 0 →
      s.dev.rawBad (s.dev.entryAddr b.val (s.dev.qcOf b.val).rd) (s.dev.qcBytes b.val) = false →
      Gives (.fifoPop b) s
        ((((s.fresh.readSound b.val (s.dev.entryAddr b.val (s.dev.qcOf b.val).rd) (s.dev.qcBytes b.val)).setQc b.val { s.dev.qcOf b.val with
            rd := ((s.dev.qcOf b.val).rd + 1) % s.dev.qcDepth b.val, len := (s.dev.qcOf b.val).len - 1, freed := (s.dev.qcOf b.val).freed + 1 }).emit
          (.link "QC.pop" b.val [1, 0]
            (leBytes (s.dev.qcBytes b.val) (leNat (s.dev.rawRead (s.dev.entryAddr b.val (s.dev.qcOf b.val).rd) (s.dev.qcBytes b.val)))))).qcWake b.val))
  ∧ (∀ (s : State) (b : Fin 6144), Inv s → s.dev.qcMode b.val = 1 → s.dev.portB b.val = true → (s.dev.qcOf b.val).count = 0 →
      Leaves (.fifoPop b) s
        (((s.fresh.raise QC_UNDERFLOW 0 b.val).logEv 0x9002 .D b.val [dU 2 b.val]).emit (.link "QC.pop" b.val [0, 0] (leBytes (s.dev.qcBytes b.val) 0))))
  -- LOG_PUSH: written at HEAD, which advances and wraps; a triggered log counts POST down and stops
  ∧ (∀ (s : State) (b : Fin 6144) (v : BitVec 128), s.dev.qcMode b.val = 2 → s.dev.portA b.val = true → (s.dev.qcOf b.val).stopped = false →
      Gives (.logPush b v) s
        (let q := s.dev.qcOf b.val
         let wrap := decide (s.dev.qcDepth b.val ≤ q.head + 1)
         let left := if q.triggered then q.postLeft - 1 else q.postLeft
         (s.fresh.putEntry b.val q.head v.toNat).setQc b.val
           { q with head := if wrap then 0 else q.head + 1, wraps := if wrap then satAdd 16 q.wraps 1 else q.wraps,
                    len := min (s.dev.qcDepth b.val) (q.len + 1), postLeft := left, stopped := q.triggered && left == 0 }))
  ∧ (∀ (s : State) (b : Fin 6144) (v : BitVec 128), Inv s → (s.dev.qcOf b.val).stopped = true → Leaves (.logPush b v) s s.fresh)
  -- LOG_TRIGGER: a rising edge records HEAD and takes POST
  ∧ (∀ (s : State) (b : Fin 6144), Inv s → s.dev.qcMode b.val = 2 → s.dev.portA b.val = true → (s.dev.qcOf b.val).trigLevel = false → (s.dev.qcOf b.val).triggered = false →
      Leaves (.logTrigger b true) s
        (s.fresh.setQc b.val { s.dev.qcOf b.val with trigLevel := true, triggered := true, trigAt := (s.dev.qcOf b.val).head,
                                                     postLeft := s.dev.fld QC_POST b.val, stopped := s.dev.fld QC_POST b.val == 0 }))
  -- any other edge or level is only kept as the level
  ∧ (∀ (s : State) (b : Fin 6144) (l : Bool), Inv s → s.dev.qcMode b.val = 2 → s.dev.portA b.val = true →
      l = false ∨ (s.dev.qcOf b.val).trigLevel = true ∨ (s.dev.qcOf b.val).triggered = true →
      Leaves (.logTrigger b l) s (s.fresh.setQc b.val { s.dev.qcOf b.val with trigLevel := l }))
  -- REARM: the log takes pushes again
  ∧ (∀ (s : State) (b : Fin 6144) (p : Path) (v : Word64), Inv s → Reaches s.dev p (0x9000028 + 0x800 * b.val) → v.getLsbD 63 = true →
      Leaves (.rearm b p v) s ((s.fresh.setQc b.val { s.dev.qcOf b.val with triggered := false, stopped := false }).emit .wrDone))
  -- CREDIT_PUSH takes a credit; without one it is dropped, CREDIT_VIOL is set and QC_CREDIT_VIOL written
  ∧ (∀ (s : State) (b : Fin 6144) (v : BitVec 128), s.dev.qcMode b.val = 3 → s.dev.portA b.val = true → s.dev.qcAvail b.val ≠ 0 →
      Gives (.creditPush b v) s
        (((s.fresh.putEntry b.val (((s.dev.qcOf b.val).rd + (s.dev.qcOf b.val).len) % s.dev.qcDepth b.val) v.toNat).setQc b.val
          { s.dev.qcOf b.val with len := (s.dev.qcOf b.val).len + 1, hidden := (s.dev.qcOf b.val).hidden + 1 }).qcWake b.val))
  ∧ (∀ (s : State) (b : Fin 6144) (v : BitVec 128), Inv s → s.dev.qcMode b.val = 3 → s.dev.portA b.val = true → s.dev.qcAvail b.val = 0 →
      Leaves (.creditPush b v) s ((s.fresh.raise QC_CREDIT_VIOL 0 b.val).logEv 0x9003 .D b.val [dU 2 b.val, dT (s.dev.qcCred b.val)]))
  -- CREDIT_POP: the oldest entry leaves; of an empty queue zeros, VALID low
  ∧ (∀ (s : State) (b : Fin 6144), s.dev.qcMode b.val = 3 → s.dev.portB b.val = true → (s.dev.qcOf b.val).count ≠ 0 →
      s.dev.rawBad (s.dev.entryAddr b.val (s.dev.qcOf b.val).rd) (s.dev.qcBytes b.val) = false →
      Gives (.creditPop b) s
        ((((s.fresh.readSound b.val (s.dev.entryAddr b.val (s.dev.qcOf b.val).rd) (s.dev.qcBytes b.val)).setQc b.val { s.dev.qcOf b.val with
            rd := ((s.dev.qcOf b.val).rd + 1) % s.dev.qcDepth b.val, len := (s.dev.qcOf b.val).len - 1, freed := (s.dev.qcOf b.val).freed + 1 }).emit
          (.link "QC.pop" b.val [1, 0]
            (leBytes (s.dev.qcBytes b.val) (leNat (s.dev.rawRead (s.dev.entryAddr b.val (s.dev.qcOf b.val).rd) (s.dev.qcBytes b.val)))))).qcWake b.val))
  ∧ (∀ (s : State) (b : Fin 6144), Inv s → s.dev.qcMode b.val = 3 → s.dev.portB b.val = true → (s.dev.qcOf b.val).count = 0 →
      Leaves (.creditPop b) s (s.fresh.emit (.link "QC.pop" b.val [0, 0] (leBytes (s.dev.qcBytes b.val) 0))))
  -- QC_FLAG_SYNC: a push becomes visible to the pop side, or a pop's place to the push side
  ∧ (∀ (s : State) (b : Fin 6144) (pop : Bool), s.dev.live = true →
      Gives (.qcFlagSync b pop) s
        ((s.fresh.setQc b.val (if pop then { s.dev.qcOf b.val with hidden := (s.dev.qcOf b.val).hidden - 1 }
                              else { s.dev.qcOf b.val with freed := (s.dev.qcOf b.val).freed - 1 })).qcWake b.val))

/-- A read that region `r`'s gate accepts with tag `tag`. -/
abbrev Sys2Proof.Machine.Dev.newOreq (d : Dev) (r tag : Nat) : OutReq := { slot := (d.gateOf r).freeSlot, tag := tag, read := true }

/-- Device accesses to a block, and the ring gates (R177, R178, R180, R183).
It says where these complete with their own effect: qcDeviceAccess, queueTimeout, rgOreq, rgIreq, rgIwait, rgIrsp. -/
def Obligations.FabricDeviceSide : Prop :=
  -- QC_DEVICE_ACCESS to a block that is not exported answers UNMAPPED and writes ADDR_DECODE
  (∀ (s : State) (q : Rq) (b : Fin 6144) (off : BitVec 14) (w : WrBytes), s.dev.live = true → s.dev.flag QC_EXPORT b.val = false → off.toNat + w.length ≤ 16384 →
    Gives (.qcDeviceAccess q b off 0 (some w)) s
      ((s.fresh.logEv 0x0009 .D 0 [dC 1, dA (blockAddr b.val + off.toNat), dU 1 q.stop.val]).emit (.resp (reqId q) q.tag.toNat 1 [])))
  -- of an exported block that is no queue it writes the bytes
  ∧ (∀ (s : State) (q : Rq) (b : Fin 6144) (off : BitVec 14) (w : WrBytes), s.dev.live = true → s.dev.flag QC_EXPORT b.val = true → off.toNat + w.length ≤ 16384 → 0 < w.length →
      s.dev.regionBusy (blockRegion b.val) = false → s.dev.qcMode b.val = 0 → (s.dev.qcOf b.val).waiting = [] →
      Gives (.qcDeviceAccess q b off 0 (some w)) s ((s.fresh.rawWrite (blockAddr b.val + off.toNat) w).emit (.resp (reqId q) q.tag.toNat 0 [])))
  -- of a frozen region it answers REGION_BUSY
  ∧ (∀ (s : State) (q : Rq) (b : Fin 6144) (off : BitVec 14) (n : Nat), s.dev.live = true → s.dev.flag QC_EXPORT b.val = true → off.toNat + n ≤ 16384 → 0 < n →
      s.dev.regionBusy (blockRegion b.val) = true →
      Gives (.qcDeviceAccess q b off n none) s
        ((s.fresh.logStatus 3 (blockAddr b.val + off.toNat) n q.stop.val).emit (.resp (reqId q) q.tag.toNat 3 [])))
  -- QUEUE_TIMEOUT: the oldest waiting access answers QUEUE_TIMEOUT and moves nothing
  ∧ (∀ (s : State) (b : Fin 6144) (x : QAcc), s.dev.live = true → (s.dev.qcOf b.val).waiting = [x] →
      Gives (.queueTimeout b) s
        (((s.fresh.tickTo (x.since + 800 * max 1 (s.dev.fld RG_QWAIT (blockRegion b.val)))).setQc b.val { s.dev.qcOf b.val with waiting := [] }).emit
          (.resp x.rid x.tag 8 [])))
  -- RG_OREQ of a shape R180 does not name answers BAD_REQ and writes RG_BAD_REQ
  ∧ (∀ (s : State) (r : Region) (tag : BitVec 7) (a : DevAddr) (n : Nat), s.dev.regionRuns r.val = true → s.dev.gateDrains r.val = false →
      (s.dev.gateOf r.val).outCount true < 64 → (Dev.oreqShape a.toNat n && oreqRemote a.toNat n) = false →
      Gives (.rgOreq r tag (.rd a n)) s
        (((s.fresh.setGate r.val { s.dev.gateOf r.val with out := (s.dev.gateOf r.val).out ++ [s.dev.newOreq r.val tag.toNat] }).logEv 0x9006 .D r.val
          [dU 1 r.val, dC 1, dA a.toNat, dN n]).emit (.resp (gateRid r.val) (s.dev.gateOf r.val).freeSlot 9 [])))
  -- a good read becomes a request on the ring; a full gate accepts nothing
  ∧ (∀ (s : State) (r : Region) (tag : BitVec 7) (a : DevAddr) (n : Nat), s.dev.regionRuns r.val = true → s.dev.gateDrains r.val = false →
      (s.dev.gateOf r.val).outCount true < 64 → Dev.oreqShape a.toNat n = true → oreqRemote a.toNat n = true →
      Gives (.rgOreq r tag (.rd a n)) s
        ((s.fresh.setGate r.val { s.dev.gateOf r.val with out := (s.dev.gateOf r.val).out ++ [s.dev.newOreq r.val tag.toNat] }).request
          (gateRq r.val (s.dev.gateOf r.val).freeSlot) a.toNat n none false false none))
  ∧ (∀ (s : State) (r : Region) (tag : BitVec 7) (a : DevAddr) (n : Nat), Inv s → 64 ≤ (s.dev.gateOf r.val).outCount true →
      Leaves (.rgOreq r tag (.rd a n)) s s.fresh)
  -- RG_IREQ: an accepted write is complete and answered, an accepted read waits for its answer
  ∧ (∀ (s : State) (r : Region) (x : IReq), s.dev.regionRuns r.val = true → (s.dev.gateOf r.val).inq = [x] → x.read = false →
      Gives (.rgIreq r true) s
        (((s.fresh.setGate r.val { s.dev.gateOf r.val with inq := [] }).emit (.link "IREQ" r.val [x.tag, x.addr, x.len, 0] x.data)).emit (.resp x.src x.tag 0 [])))
  ∧ (∀ (s : State) (r : Region) (x : IReq), Inv s → s.dev.regionRuns r.val = true → (s.dev.gateOf r.val).inq = [x] → x.read = true →
      Leaves (.rgIreq r true) s
        ((s.fresh.setGate r.val { s.dev.gateOf r.val with inq := [], reads := (s.dev.gateOf r.val).reads ++ [{ x with since := some s.dev.clk.tick }] }).emit
          (.link "IREQ" r.val [x.tag, x.addr, x.len, 1] x.data)))
  -- RG_IWAIT: a read not answered within IWAIT answers QUEUE_TIMEOUT and writes a class D entry
  ∧ (∀ (s : State) (r : Region) (x : IReq) (t : Nat), s.dev.live = true → (s.dev.gateOf r.val).inq = [] → (s.dev.gateOf r.val).reads = [x] → x.since = some t → x.tag < 65536 →
      Gives (.rgIwait r (BitVec.ofNat 16 x.tag)) s
        ((((s.fresh.setGate r.val { s.dev.gateOf r.val with reads := [], late := (s.dev.gateOf r.val).late ++ [x.tag] }).tickTo (t + s.dev.iwait r.val)).logEv
          0x9007 .D r.val [dU 1 r.val, dU 1 (x.src / 16), dN x.tag]).emit (.resp x.src x.tag 8 [])))
  -- RG_IRSP: the answer, with its status, reaches the requester, or is dropped and counted where it comes too late
  ∧ (∀ (s : State) (r : Region) (x : IReq) (c : Fin 11) (bs : List Byte), s.dev.regionRuns r.val = true → (s.dev.gateOf r.val).reads = [x] → x.tag < 65536 →
      Gives (.rgIrsp r (BitVec.ofNat 16 x.tag) c bs) s
        ((s.fresh.setGate r.val { s.dev.gateOf r.val with reads := [] }).emit (.resp x.src x.tag c.val bs)))
  ∧ (∀ (s : State) (r : Region) (tag : BitVec 16) (c : Fin 11) (bs : List Byte), Inv s → s.dev.regionRuns r.val = true → (s.dev.gateOf r.val).reads = [] →
      (s.dev.gateOf r.val).late = [tag.toNat] →
      Leaves (.rgIrsp r tag c bs) s ((s.fresh.setGate r.val { s.dev.gateOf r.val with late := [] }).inc RG_LATE_DROP 1 r.val))

/-- Command `c` on slice `n` puts the update `(re, im)`, taken into 48 bits as ACC_SAT says, into both accumulators together, with
OUT_VALID 1; no other slice, no register and no byte of memory changes. -/
abbrev Sys2Proof.Machine.SliceUpdates (c : Instr) (s : State) (n : Fin 4096) (re im : Int) : Prop :=
  Ends c s fun d => (d.sliceOf n.val).accRe = fit48 (s.dev.sliceOf n.val).cfg.accSat re ∧ (d.sliceOf n.val).accIm = fit48 (s.dev.sliceOf n.val).cfg.accSat im
    ∧ (d.sliceOf n.val).valid = true ∧ (∀ m : Nat, m ≠ n.val → d.sliceOf m = s.dev.sliceOf m) ∧ d.csr = s.dev.csr ∧ d.mem = s.dev.mem

/-- The six updates of R194 on slice `n`, each with the value it brings to the accumulators before R198. -/
def Sys2Proof.Machine.sliceUpdates (d : Dev) (n : Fin 4096) (a b c : C18) (sh : BitVec 6) : List (Instr × CInt) :=
  let x := d.sliceOf n.val
  let p := (C18.int a).mul (C18.int b)
  let q := (C18.int a).mul (C18.int b).conj
  [(.sliceMul n a b sh, p), (.sliceMac n a b sh, x.acc.add p), (.sliceCmac n a b c sh, ((C18.int c).shift x.cfg.cshift).add p), (.sliceMulj n a b sh, q),
   (.sliceMacj n a b sh, x.acc.add q), (.sliceCasc n a b sh, (d.sliceCin n.val).add p)]

/-- R194: OP selects the accumulator update of the cycle.
It says where these complete with their own effect: sliceHold, sliceMul, sliceMac, sliceCmac, sliceMulj, sliceMacj, sliceCasc,
sliceClr. -/
def Obligations.SliceOperations : Prop :=
  -- HOLD: unchanged, OUT_VALID 0
  (∀ (s : State) (n : Fin 4096), Inv s → s.dev.regionRuns (sliceRegion n.val) = true →
    Ends (.sliceHold n) s fun d => (d.sliceOf n.val).accRe = (s.dev.sliceOf n.val).accRe ∧ (d.sliceOf n.val).accIm = (s.dev.sliceOf n.val).accIm
      ∧ (d.sliceOf n.val).valid = false ∧ (∀ m : Nat, m ≠ n.val → d.sliceOf m = s.dev.sliceOf m) ∧ d.csr = s.dev.csr ∧ d.mem = s.dev.mem)
  -- MUL: A × B
  ∧ (∀ (s : State) (n : Fin 4096) (a b : C18) (sh : BitVec 6), Inv s → s.dev.regionRuns (sliceRegion n.val) = true →
      SliceUpdates (.sliceMul n a b sh) s n (a.re.toInt * b.re.toInt - a.im.toInt * b.im.toInt) (a.re.toInt * b.im.toInt + a.im.toInt * b.re.toInt))
  -- MAC: ACC + A × B
  ∧ (∀ (s : State) (n : Fin 4096) (a b : C18) (sh : BitVec 6), Inv s → s.dev.regionRuns (sliceRegion n.val) = true →
      SliceUpdates (.sliceMac n a b sh) s n ((s.dev.sliceOf n.val).accRe + (a.re.toInt * b.re.toInt - a.im.toInt * b.im.toInt))
        ((s.dev.sliceOf n.val).accIm + (a.re.toInt * b.im.toInt + a.im.toInt * b.re.toInt)))
  -- CMAC: C × 2^CSHIFT + A × B
  ∧ (∀ (s : State) (n : Fin 4096) (a b c : C18) (sh : BitVec 6), Inv s → s.dev.regionRuns (sliceRegion n.val) = true →
      SliceUpdates (.sliceCmac n a b c sh) s n
        (c.re.toInt * 2 ^ (s.dev.sliceOf n.val).cfg.cshift + (a.re.toInt * b.re.toInt - a.im.toInt * b.im.toInt))
        (c.im.toInt * 2 ^ (s.dev.sliceOf n.val).cfg.cshift + (a.re.toInt * b.im.toInt + a.im.toInt * b.re.toInt)))
  -- MULJ: A × conj(B)
  ∧ (∀ (s : State) (n : Fin 4096) (a b : C18) (sh : BitVec 6), Inv s → s.dev.regionRuns (sliceRegion n.val) = true →
      SliceUpdates (.sliceMulj n a b sh) s n (a.re.toInt * b.re.toInt + a.im.toInt * b.im.toInt) (a.im.toInt * b.re.toInt - a.re.toInt * b.im.toInt))
  -- MACJ: ACC + A × conj(B)
  ∧ (∀ (s : State) (n : Fin 4096) (a b : C18) (sh : BitVec 6), Inv s → s.dev.regionRuns (sliceRegion n.val) = true →
      SliceUpdates (.sliceMacj n a b sh) s n ((s.dev.sliceOf n.val).accRe + (a.re.toInt * b.re.toInt + a.im.toInt * b.im.toInt))
        ((s.dev.sliceOf n.val).accIm + (a.im.toInt * b.re.toInt - a.re.toInt * b.im.toInt)))
  -- CASC: CIN + A × B; CIN is the accumulator of the slice directly south, 0 in the southmost slice
  ∧ (∀ (s : State) (n : Fin 4096) (a b : C18) (sh : BitVec 6), Inv s → s.dev.regionRuns (sliceRegion n.val) = true →
      SliceUpdates (.sliceCasc n a b sh) s n
        ((if n.val % 64 = 0 then 0 else (s.dev.sliceOf (n.val - 1)).accRe) + (a.re.toInt * b.re.toInt - a.im.toInt * b.im.toInt))
        ((if n.val % 64 = 0 then 0 else (s.dev.sliceOf (n.val - 1)).accIm) + (a.re.toInt * b.im.toInt + a.im.toInt * b.re.toInt)))
  -- CLR: 0, OUT_VALID 0
  ∧ (∀ (s : State) (n : Fin 4096), Inv s → s.dev.regionRuns (sliceRegion n.val) = true →
      Ends (.sliceClr n) s fun d => (d.sliceOf n.val).accRe = 0 ∧ (d.sliceOf n.val).accIm = 0 ∧ (d.sliceOf n.val).valid = false
        ∧ (∀ m : Nat, m ≠ n.val → d.sliceOf m = s.dev.sliceOf m) ∧ d.csr = s.dev.csr ∧ d.mem = s.dev.mem)
  -- each part of A × B is exact in 37 bits
  ∧ (∀ a b : C18, -(2 ^ 36) ≤ a.re.toInt * b.re.toInt - a.im.toInt * b.im.toInt ∧ a.re.toInt * b.re.toInt - a.im.toInt * b.im.toInt < 2 ^ 36
      ∧ -(2 ^ 36) ≤ a.re.toInt * b.im.toInt + a.im.toInt * b.re.toInt ∧ a.re.toInt * b.im.toInt + a.im.toInt * b.re.toInt < 2 ^ 36)

/-- R198: what an update that leaves the 48-bit range does, OVF and OVF_CLR.
It says where these complete with their own effect: ovfClr. -/
def Obligations.SliceOverflow : Prop :=
  -- ACC_SAT = 0: the result wraps modulo 2^48
  (∀ x : Int, fit48 false x = (x + 2 ^ 47) % 2 ^ 48 - 2 ^ 47)
  -- ACC_SAT = 1: it clamps to 2^47 − 1 or −2^47
  ∧ (∀ x : Int, fit48 true x = if 2 ^ 47 ≤ x then 2 ^ 47 - 1 else if x < -(2 ^ 47) then -(2 ^ 47) else x)
  -- in both cases OVF goes high, and it stays high until OVF_CLR
  ∧ (∀ (s : State) (n : Fin 4096) (a b c : C18) (sh : BitVec 6), Inv s → s.dev.regionRuns (sliceRegion n.val) = true →
      ∀ e ∈ sliceUpdates s.dev n a b c sh,
        Ends e.1 s fun d => (d.sliceOf n.val).ovf = ((s.dev.sliceOf n.val).ovf || over48 e.2.re || over48 e.2.im)
          ∧ (d.sliceOf n.val).accRe = fit48 (s.dev.sliceOf n.val).cfg.accSat e.2.re ∧ (d.sliceOf n.val).accIm = fit48 (s.dev.sliceOf n.val).cfg.accSat e.2.im)
  ∧ (∀ x : Int, over48 x = true ↔ x < -(2 ^ 47) ∨ 2 ^ 47 ≤ x)
  ∧ (∀ (s : State) (n : Fin 4096), Inv s → ∀ c ∈ [Instr.sliceHold n, .sliceClr n, .bexClr n, .adv n],
      Ends c s fun d => (d.sliceOf n.val).ovf = (s.dev.sliceOf n.val).ovf)
  -- OVF_CLR: OVF is low, but an overflow of the same FCLK leaves it high
  ∧ (∀ (s : State) (n : Fin 4096) (now : Bool), Inv s → s.dev.regionRuns (sliceRegion n.val) = true →
      Ends (.ovfClr n now) s fun d => d.sliceOf n.val = { s.dev.sliceOf n.val with ovf := now }
        ∧ (∀ m : Nat, m ≠ n.val → d.sliceOf m = s.dev.sliceOf m) ∧ d.csr = s.dev.csr ∧ d.mem = s.dev.mem)
  -- accumulators and OVF are zero after configuration load
  ∧ (∀ (d : Dev) (r n : Nat), n ∈ slicesOf r →
      ((d.configRegion r).sliceOf n).accRe = 0 ∧ ((d.configRegion r).sliceOf n).accIm = 0 ∧ ((d.configRegion r).sliceOf n).ovf = false)

/-- The two bytes of 16 bits. -/
abbrev Sys2Proof.Machine.hiByte (w : BitVec 16) : Byte := w.extractLsb' 8 8

abbrev Sys2Proof.Machine.loByte (w : BitVec 16) : Byte := w.extractLsb' 0 8

/-- The output of a slice, its magnitude, and the address generators (R199 to R202, R204, R205).
It says where these complete with their own effect: bexClr, adv, agLoad. -/
def Obligations.SliceOutputAndAddresses : Prop :=
  -- a valid output is the accumulator shifted, rounded and saturated; SAT of this output alone; BEX_MAX takes its magnitude
  (∀ (s : State) (n : Fin 4096) (a b : C18) (sh : BitVec 6), Inv s → s.dev.regionRuns (sliceRegion n.val) = true →
    Ends (.sliceMul n a b sh) s fun d =>
      let c := (s.dev.sliceOf n.val).cfg
      let k := min 47 (if c.shiftSrc then sh.toNat else c.outShift)
      let w := if c.wide then 18 else 16
      let re := shiftRound c.rnd k (d.sliceOf n.val).accRe
      let im := shiftRound c.rnd k (d.sliceOf n.val).accIm
      (d.sliceOf n.val).outRe = max (-(2 ^ (w - 1))) (min (2 ^ (w - 1) - 1) re) ∧ (d.sliceOf n.val).outIm = max (-(2 ^ (w - 1))) (min (2 ^ (w - 1) - 1) im)
        ∧ (d.sliceOf n.val).sat = ((d.sliceOf n.val).outRe != re || (d.sliceOf n.val).outIm != im)
        ∧ (d.sliceOf n.val).bex = max (s.dev.sliceOf n.val).bex (max (magBits re) (magBits im)))
  -- the four modes, exactly: RNE, RHU, RTZ and TRUNC of the quotient V / 2^s
  ∧ (∀ (k : Nat) (v : Int), 0 < k → shiftRound 3 k v = v / 2 ^ k ∧ shiftRound 1 k v = (v + 2 ^ (k - 1)) / 2 ^ k
      ∧ shiftRound 2 k v = Int.tdiv v (2 ^ k)
      ∧ (2 * (v - shiftRound 0 k v * 2 ^ k)).natAbs ≤ 2 ^ k ∧ ((2 * (v - shiftRound 0 k v * 2 ^ k)).natAbs = 2 ^ k → shiftRound 0 k v % 2 = 0))
  ∧ (∀ (m : Nat) (v : Int), shiftRound m 0 v = v)
  -- MAGBITS: the smallest n up to 47 with −2^n ≤ x < 2^n
  ∧ (∀ x : Int, -(2 ^ 47) ≤ x → x < 2 ^ 47 → -(2 ^ magBits x) ≤ x ∧ x < 2 ^ magBits x ∧ magBits x ≤ 47
      ∧ (∀ m : Nat, m < magBits x → ¬ (-(2 ^ m) ≤ x ∧ x < 2 ^ m)))
  -- HOLD and CLR are not measured and drive SAT low
  ∧ (∀ (s : State) (n : Fin 4096), Inv s → s.dev.regionRuns (sliceRegion n.val) = true →
      (Ends (.sliceHold n) s fun d => (d.sliceOf n.val).bex = (s.dev.sliceOf n.val).bex ∧ (d.sliceOf n.val).sat = false)
        ∧ Ends (.sliceClr n) s fun d => (d.sliceOf n.val).bex = (s.dev.sliceOf n.val).bex ∧ (d.sliceOf n.val).sat = false)
  -- BEX_CLR starts a new block: BEX_MAX reads 0
  ∧ (∀ (s : State) (n : Fin 4096), Inv s → s.dev.regionRuns (sliceRegion n.val) = true →
      Ends (.bexClr n) s fun d => d.sliceOf n.val = { s.dev.sliceOf n.val with bex := 0 }
        ∧ (∀ m : Nat, m ≠ n.val → d.sliceOf m = s.dev.sliceOf m) ∧ d.csr = s.dev.csr ∧ d.mem = s.dev.mem)
  -- AG_LOAD: LEN, STRIDE_O, N_I and N_O from the load port, where 0 means 65,536; the other parameters are the static fields; the sequence
  -- starts anew, at BASE in every mode
  ∧ (∀ (s : State) (n : Fin 4096) (len so nI nO : BitVec 16), Inv s → s.dev.regionRuns (sliceRegion n.val) = true →
    (s.dev.sliceOf n.val).cfg.base < 65536 →
    Ends (.agLoad n (hiByte len) (loByte len) (hiByte so) (loByte so) (hiByte nI) (loByte nI) (hiByte nO) (loByte nO)) s fun d => (d.sliceOf n.val).addr = (s.dev.sliceOf n.val).cfg.base ∧ (d.sliceOf n.val).idx = 0
      ∧ (d.sliceOf n.val).ag = { (s.dev.sliceOf n.val).cfg with
          len := if len = 0 then 65536 else len.toNat, strideO := so.toNat, nI := if nI = 0 then 65536 else nI.toNat,
          nO := if nO = 0 then 65536 else nO.toNat }
      ∧ (d.sliceOf n.val).accRe = (s.dev.sliceOf n.val).accRe ∧ (d.sliceOf n.val).cfg = (s.dev.sliceOf n.val).cfg
      ∧ (∀ k : Nat, k ≠ n.val → d.sliceOf k = s.dev.sliceOf k) ∧ d.csr = s.dev.csr ∧ d.mem = s.dev.mem)
  -- ADV in LINEAR: BASE + i × STEP modulo 2^16, WRAP never
  ∧ (∀ (s : State) (n : Fin 4096), Inv s → s.dev.regionRuns (sliceRegion n.val) = true → (s.dev.sliceOf n.val).ag.mode = 0 →
      Ends (.adv n) s fun d => (d.sliceOf n.val).idx = (s.dev.sliceOf n.val).idx + 1 ∧ (d.sliceOf n.val).wrap = false
        ∧ (d.sliceOf n.val).addr = ((s.dev.sliceOf n.val).ag.base + ((s.dev.sliceOf n.val).idx + 1) * (s.dev.sliceOf n.val).ag.step) % 65536)
  -- in MODULO: p takes STEP modulo LEN, WRAP where p passes either end
  ∧ (∀ (s : State) (n : Fin 4096), Inv s → s.dev.regionRuns (sliceRegion n.val) = true → (s.dev.sliceOf n.val).ag.mode = 1 → 0 < (s.dev.sliceOf n.val).ag.len →
      (s.dev.sliceOf n.val).pos < (s.dev.sliceOf n.val).ag.len →
      Ends (.adv n) s fun d =>
        let p : Int := (s.dev.sliceOf n.val).pos + (s.dev.sliceOf n.val).ag.modStep
        let l : Int := (s.dev.sliceOf n.val).ag.len
        ((d.sliceOf n.val).pos : Int) = (if p < 0 then p + l else if l ≤ p then p - l else p)
          ∧ (d.sliceOf n.val).wrap = decide (p < 0 ∨ l ≤ p) ∧ (d.sliceOf n.val).addr = ((s.dev.sliceOf n.val).ag.base + (d.sliceOf n.val).pos) % 65536)
  -- a STEP of a magnitude of at least LEN acts as STEP mod LEN
  ∧ (∀ c : SliceCfg, 0 < c.len → c.modStep = (if (toSigned 16 c.step).natAbs < c.len then toSigned 16 c.step else toSigned 16 c.step % c.len)
      ∧ c.modStep.natAbs < c.len)
  -- in BITREV: WRAP when i mod 2^M returns to 0; the examples of R205
  ∧ (∀ (s : State) (n : Fin 4096), Inv s → s.dev.regionRuns (sliceRegion n.val) = true → (s.dev.sliceOf n.val).ag.mode = 2 →
      Ends (.adv n) s fun d =>
        let m := (s.dev.sliceOf n.val).ag.bits
        let i := (s.dev.sliceOf n.val).idx + 1
        (d.sliceOf n.val).wrap = decide (i % 2 ^ m = 0)
          ∧ (d.sliceOf n.val).addr = ((s.dev.sliceOf n.val).ag.base + bitrev m (i % 2 ^ m) * (s.dev.sliceOf n.val).ag.step) % 65536)
  ∧ (bitrev 10 1 = 512 ∧ bitrev 10 3 = 768 ∧ bitrev 10 6 = 384)
  -- in STRIDE2D: k runs to N_I − 1, then j advances; both restart after the last
  ∧ (∀ (s : State) (n : Fin 4096), Inv s → s.dev.regionRuns (sliceRegion n.val) = true → (s.dev.sliceOf n.val).ag.mode = 3 →
      Ends (.adv n) s fun d =>
        let x := s.dev.sliceOf n.val
        let y := d.sliceOf n.val
        (y.k, y.j) = (if x.k + 1 < x.ag.nI then (x.k + 1, x.j) else if x.j + 1 < x.ag.nO then (0, x.j + 1) else (0, 0))
          ∧ y.wrap = decide (y.k + 1 = x.ag.nI ∧ y.j + 1 = x.ag.nO) ∧ y.addr = (x.ag.base + y.j * x.ag.strideO + y.k * x.ag.step) % 65536)

/-- Why a GO with value `v` is rejected (R218), or 0: not in RUN, an exchange runs, the wrong key, or in a replay run without AT. -/
def Sys2Proof.Machine.Dev.goReason (d : Dev) (v : Nat) : Nat :=
  if d.cfgState ≠ 5 then 1 else if d.fld EXCH_STATE ≠ 0 then 2 else if bits v 48 16 ≠ 0x4E3C then 3
  else if d.running = true ∧ d.fld EXCH_AT = 0 then 4 else 0

/-- Live region exchange (R211 to R218, R223, R224, R227).
It says where these complete with their own effect: go, exchFetchDone, exchCheckDone, exchAtReached, exchDrainDone, exchDrain,
exchWriteDone, exchThaw. -/
def Obligations.RegionExchange : Prop :=
  -- GO is rejected with a class D entry that names the reason
  (∀ (s : State) (p : Path) (v : Word64), Inv s → Reaches s.dev p 0x100310 → v.getLsbD 32 = true → s.dev.goReason v.toNat ≠ 0 →
    Ends (.go p v) s fun d => d.fld EXCH_STATE = s.dev.fld EXCH_STATE ∧ d.mem = s.dev.mem ∧ d.fab = s.dev.fab
      ∧ d.ember = (s.dev.logEv 0x0109 .D (bits v.toNat 0 5) [dU 1 (bits v.toNat 0 5), dC (s.dev.goReason v.toNat)]).ember)
  -- an accepted GO: the exchange of REGION begins to fetch
  ∧ (∀ (s : State) (p : Path) (v : Word64), Inv s → Reaches s.dev p 0x100310 → v.getLsbD 32 = true → s.dev.goReason v.toNat = 0 →
      Ends (.go p v) s fun d => d.fld EXCH_STATE = 1 ∧ d.fld EXCH_REGION = bits v.toNat 0 5 ∧ d.fab.exch = {} ∧ d.mem = s.dev.mem ∧ d.ember = s.dev.ember)
  -- EXCH_FETCH_DONE: an unreadable header, one that fails its form, its signature or the rules of a region ends the exchange before the
  -- region freezes; one that passes is kept, and with PRECHECK its sections are checked next, else the wait for AT begins
  ∧ (∀ s : State, s.dev.exchLive 1 = true →
      Gives .exchFetchDone s
        (let b := (s.fresh.exchRead 0 16384).1
         let d := (s.fresh.exchRead 0 16384).2.2
         let h := hdrOf b
         if (s.fresh.exchRead 0 16384).2.1 then d.exchFailD 3
         else if exchForm d.exchRegion b ≠ 0 then d.exchFailD (exchForm d.exchRegion b)
         else if d.headerAuth b ≠ 0 then d.exchFailD (d.headerAuth b)
         else if h.sects.all (exchInside d.exchRegion) = false then d.exchFailD 10
         else
          let e := { d with fab := { d.fab with exch := { sects := h.sects, content := d.contentKey h, keySlot := h.keySlot } } }
          if e.flag EXCH_PRECHECK then e.setF EXCH_STATE 2 else e.exchWait))
  -- such a failure leaves a class D entry, EXCH_FAIL_CODE and EXCH_STATE 0; the memory and the region's logic stay
  ∧ (∀ (s : State) (k : Nat), s.dev.exchFailD k = ((s.dev.setF EXCH_STATE 0).setF EXCH_FAIL_CODE k).logEv 0x0107 .D s.dev.exchRegion [dU 1 s.dev.exchRegion, dC k, dC (s.dev.fld EXCH_STATE)]
        ∧ (s.dev.exchFailD k).mem = s.dev.mem ∧ (s.dev.exchFailD k).fab = s.dev.fab)
  -- EXCH_CHECK_DONE with nothing left to check: DRAIN at once where AT is 0 or has passed, else WAIT_AT
  ∧ (∀ s : State, Inv s → s.dev.exchLive 2 = true → s.dev.fab.exch.sects = [] →
      Leaves .exchCheckDone s
        (if s.dev.fld EXCH_AT = 0 ∨ s.dev.fld EXCH_AT ≤ s.dev.now then
          { s.fresh.setF EXCH_STATE 4 with fab := { s.dev.fab with exch := { s.dev.fab.exch with drainAt := s.dev.clk.tick } } }
         else s.fresh.setF EXCH_STATE 3))
  -- a section that cannot be read or fails its check ends the exchange, and the region goes on as it was
  ∧ (∀ (s : State) (x : Sect) (l : List Sect), s.dev.exchLive 2 = true → s.dev.fab.exch.sects = x :: l → (s.fresh.exchRead x.offset x.length).2.1 = true →
      Gives .exchCheckDone s ((s.fresh.exchRead x.offset x.length).2.2.exchFailD 7))
  -- EXCH_AT_REACHED: the region drains
  ∧ (∀ s : State, Inv s → s.dev.exchLive 3 = true → s.dev.running = false → s.dev.clk.ts ≤ s.dev.fld EXCH_AT →
      Ends .exchAtReached s fun d => d.fld EXCH_STATE = 4 ∧ d.clk.ts = s.dev.fld EXCH_AT ∧ d.fab.exch.drainAt = d.clk.tick ∧ d.mem = s.dev.mem)
  -- EXCH_DRAIN_DONE: nothing outstanding, the region freezes and its locks lose their owner
  ∧ (∀ s : State, Inv s → s.dev.exchLive 4 = true → (s.dev.gateOf s.dev.exchRegion).drained = true →
      Ends .exchDrainDone s fun d => d.fld EXCH_STATE = 5 ∧ d.regionBusy s.dev.exchRegion = true ∧ d.fab.exch.freezeAt = s.dev.clk.tick
        ∧ d.ann.notices.length = s.dev.ann.notices.length + 1 ∧ d.mem = s.dev.mem)
  -- EXCH_DRAIN: DRAIN_US is over; what waits inbound answers REGION_BUSY, what was outstanding is reported, and the region freezes
  ∧ (∀ s : State, s.dev.exchLive 4 = true → (s.dev.gateOf s.dev.exchRegion).drained = false →
      Gives .exchDrain s
        ((((s.dev.gateOf s.dev.exchRegion).inq.foldl (fun d x => d.emit (.resp x.src x.tag 3 []))
            ((s.fresh.tickTo (s.dev.fab.exch.drainAt + s.dev.drainTicks)).setGate s.dev.exchRegion { s.dev.gateOf s.dev.exchRegion with inq := [] })).logEv 0x0108 .D s.dev.exchRegion
          [dU 1 s.dev.exchRegion, dN ((s.dev.gateOf s.dev.exchRegion).outCount true), dN ((s.dev.gateOf s.dev.exchRegion).outCount false), dN (s.dev.gateOf s.dev.exchRegion).inq.length]).exchFreeze))
  -- EXCH_WRITE_DONE: frames, then maps, then DATA; with no section the region's map is gone and INIT begins
  ∧ (∀ s : State, Inv s → s.dev.exchLive 5 = true → s.dev.fab.exch.sects = [] →
      Leaves .exchWriteDone s
        ({ s.fresh with load := { s.dev.load with nonEss := dropRegion s.dev.load.nonEss s.dev.exchRegion } }.setF EXCH_STATE 6))
  -- a section that cannot be read then leaves the region frozen and blank, class F
  ∧ (∀ (s : State) (x : Sect), s.dev.exchLive 5 = true → s.dev.fab.exch.sects = [x] → (s.fresh.exchRead x.offset x.length).2.1 = true →
      Gives .exchWriteDone s
        (((((((s.fresh.exchRead x.offset x.length).2.2.hxRebase s.dev.exchRegion).wipeRegion s.dev.exchRegion).setBit EXCH_BLANK s.dev.exchRegion true).setF EXCH_STATE 0).setF EXCH_FAIL_CODE 7).logF 0x0107
          s.dev.exchRegion [dU 1 s.dev.exchRegion, dC 7, dC 5]))
  -- EXCH_THAW: the region runs its new logic, its scrubber starts at frame 0, and a class I entry gives the freeze time
  ∧ (∀ s : State, s.dev.exchLive 6 = true →
      Gives .exchThaw s
        (let d := s.fresh.configRegion s.dev.exchRegion
         let sum := (upTo 16).foldl (fun a t => a + d.fld HX_MISSED s.dev.exchRegion t) 0 + (upTo 32).foldl (fun a e => a + d.fld HX_OVR_CNT s.dev.exchRegion e) 0
         let e := ({ d with fab := { d.fab with frozen := Sparse.set false d.fab.frozen s.dev.exchRegion false, exch := {} },
                            load := { d.load with scrubPos := Sparse.set 0 d.load.scrubPos s.dev.exchRegion 0 } }.setF EXCH_STATE 0).setBit EXCH_BLANK s.dev.exchRegion false
         (e.hxThaw s.dev.exchRegion).logEv 0x0106 .I s.dev.exchRegion
           [dU 1 s.dev.exchRegion, dN (e.clk.tick - s.dev.fab.exch.freezeAt), dN s.dev.fab.exch.discarded, dN sum]))

/-- Timer `t` of region `r` after its match: a periodic one counts from 0 at the tick of the match, a one-shot one has stopped (R219). -/
abbrev Sys2Proof.Machine.Dev.hxNext (d : Dev) (r t : Nat) : Dev :=
  { d with fab := { d.fab with
      hxBase := if d.flag HX_PERIODIC r t then Sparse.set (0, 0) d.fab.hxBase (16 * r + t) (0, d.hxMatchAt r t) else d.fab.hxBase,
      hxStop := Sparse.set false d.fab.hxStop (16 * r + t) (!d.flag HX_PERIODIC r t) } }

/-- The handover cells (R219 to R222).
It says where these complete with their own effect: hxTimerMatch, hxEdge, hxCellRead, hxCellWrite. -/
def Obligations.HandoverCells : Prop :=
  -- HX_TIMER_MATCH of a running region: a pulse; a periodic timer starts anew at the tick of the match, a one-shot one stops
  (∀ (s : State) (r : Region) (t : Fin 16), Inv s → s.dev.released = true → NatSet.has s.dev.fab.hxStop (16 * r.val + t.val) = false →
    NatSet.has s.dev.load.loaded r.val = true → s.dev.regionBusy r.val = false → s.dev.hxMatchAt r.val t.val ≤ s.dev.clk.root →
    Sparse.get 0 s.dev.fab.hxFirst (16 * r.val + t.val) = 0 →
    Leaves (.hxTimerMatch r t) s ((s.fresh.hxNext r.val t.val).emit (.pulse "HX_MATCH" (16 * r.val + t.val))))
  -- a match in the first FCLK after a thaw that gave a held pulse joins that pulse and counts as missed; a later one is a pulse
  ∧ (∀ (s : State) (r : Region) (t : Fin 16) (at_ : Nat), Inv s → s.dev.released = true → NatSet.has s.dev.fab.hxStop (16 * r.val + t.val) = false →
      NatSet.has s.dev.load.loaded r.val = true → s.dev.regionBusy r.val = false → s.dev.hxMatchAt r.val t.val ≤ s.dev.clk.root →
      Sparse.get 0 s.dev.fab.hxFirst (16 * r.val + t.val) = 1 + at_ →
      Leaves (.hxTimerMatch r t) s
        (if s.dev.hxMatchAt r.val t.val < at_ + s.dev.regionDiv r.val then (s.fresh.hxNext r.val t.val).inc HX_MISSED 1 r.val t.val
         else (s.fresh.hxNext r.val t.val).emit (.pulse "HX_MATCH" (16 * r.val + t.val))))
  -- in a freeze the first match is held, a further one counted as missed
  ∧ (∀ (s : State) (r : Region) (t : Fin 16), Inv s → s.dev.released = true → NatSet.has s.dev.fab.hxStop (16 * r.val + t.val) = false →
      s.dev.regionBusy r.val = true → s.dev.hxMatchAt r.val t.val ≤ s.dev.clk.root →
      Leaves (.hxTimerMatch r t) s
        (if s.dev.flag HX_MATCH_PEND r.val t.val then (s.fresh.hxNext r.val t.val).inc HX_MISSED 1 r.val t.val
         else (s.fresh.hxNext r.val t.val).setF HX_MATCH_PEND 1 r.val t.val))
  -- a timer that has not reached CMP, or has stopped there, gives nothing
  ∧ (∀ (s : State) (r : Region) (t : Fin 16), Inv s → s.dev.clk.root < s.dev.hxMatchAt r.val t.val ∨ NatSet.has s.dev.fab.hxStop (16 * r.val + t.val) = true →
      Leaves (.hxTimerMatch r t) s s.fresh)
  -- HX_EDGE that SENSE selects: a pulse while the region runs
  ∧ (∀ (s : State) (r : Region) (n : Fin 32) (up : Bool), Inv s → s.dev.released = true → bitAt (s.dev.fld HX_SENSE r.val n.val) (if up then 0 else 1) = true →
      s.dev.regionBusy r.val = false → Leaves (.hxEdge r n up) s (s.fresh.emit (.pulse "HX_EDGE" (32 * r.val + n.val))))
  -- in a freeze the first is held with its timestamp, a further one is an overrun
  ∧ (∀ (s : State) (r : Region) (n : Fin 32) (up : Bool), Inv s → s.dev.released = true → bitAt (s.dev.fld HX_SENSE r.val n.val) (if up then 0 else 1) = true →
      s.dev.regionBusy r.val = true →
      Leaves (.hxEdge r n up) s
        (if s.dev.flag HX_PEND r.val n.val then (s.fresh.setF HX_OVERRUN 1 r.val n.val).inc HX_OVR_CNT 1 r.val n.val
         else (s.fresh.setF HX_PEND 1 r.val n.val).setF HX_EDGE_TS s.dev.now r.val n.val))
  -- an edge SENSE does not select is nothing
  ∧ (∀ (s : State) (r : Region) (n : Fin 32) (up : Bool), Inv s → bitAt (s.dev.fld HX_SENSE r.val n.val) (if up then 0 else 1) = false →
      Leaves (.hxEdge r n up) s s.fresh)
  -- HX_CELL_READ: the cell may be written from now on, its missed counts and overruns start at 0
  ∧ (∀ (s : State) (r : Region) (c : Fin 4), Inv s → s.dev.regionRuns r.val = true →
      Ends (.hxCellRead r c) s fun d => d.flag HX_HO_PEND r.val c.val = false ∧ d.out.length = 1 ∧ d.mem = s.dev.mem ∧ d.fab = s.dev.fab
        ∧ (∀ i : Fin 4, d.fld HX_MISSED r.val (4 * c.val + i.val) = 0) ∧ (∀ i : Fin 8, d.flag HX_OVERRUN r.val (8 * c.val + i.val) = false
          ∧ d.fld HX_OVR_CNT r.val (8 * c.val + i.val) = 0))
  -- HX_CELL_WRITE before that is ignored: HO_ORDER is set and a class D entry written
  ∧ (∀ (s : State) (r : Region) (c : Fin 4) (x : HxSet), Inv s → s.dev.regionRuns r.val = true → s.dev.flag HX_HO_PEND r.val c.val = true →
      Leaves (.hxCellWrite r c x) s ((s.fresh.setF HX_HO_ORDER 1 r.val c.val).logEv 0x9008 .D r.val [dU 1 r.val, dU 1 c.val]))
  -- after it, a timer takes its settings and counts from 0, an edge takes its SENSE
  ∧ (∀ (s : State) (r : Region) (c i : Fin 4) (cmp : BitVec 48) (pre : BitVec 8) (src per : Bool), Inv s → s.dev.regionRuns r.val = true → s.dev.flag HX_HO_PEND r.val c.val = false →
      Ends (.hxCellWrite r c (.timer i cmp pre src per)) s fun d => d.fld HX_CMP r.val (4 * c.val + i.val) = cmp.toNat
        ∧ d.fld HX_PRE r.val (4 * c.val + i.val) = pre.toNat ∧ d.flag HX_SRC r.val (4 * c.val + i.val) = src ∧ d.flag HX_PERIODIC r.val (4 * c.val + i.val) = per
        ∧ d.hxCount r.val (4 * c.val + i.val) = 0 ∧ d.mem = s.dev.mem)
  ∧ (∀ (s : State) (r : Region) (c : Fin 4) (i : Fin 8) (sense : BitVec 2), Inv s → s.dev.regionRuns r.val = true → s.dev.flag HX_HO_PEND r.val c.val = false →
      Leaves (.hxCellWrite r c (.edge i sense)) s (s.fresh.setF HX_SENSE sense.toNat r.val (8 * c.val + i.val)))

/-- The head `f` of stop `src`'s queue for ring `k` may enter slot `slot` (R240, R242, R243). -/
abbrev Sys2Proof.Machine.Dev.slotTakes (d : Dev) (src k slot : Nat) (f : Flit) : Bool :=
  !d.ringFailed k && !d.slotTaken k slot && (d.keptFor k slot == 0 || d.keptFor k slot == src + 1) && d.mayInject f

/-- The flit that a unit of stop `src` hands over, as it stands in its queue (R231, R236). -/
abbrev Sys2Proof.NewFlit.queued (x : NewFlit) (src : Nat) : Flit :=
  { ring := ringFor src x.dst.toNat x.body.cls, src := src, dst := x.dst.toNat, body := x.body, last := x.last, copy := x.copy, hand := x.hand }

/-- Flits, marks, credits and hop retries of the Annulus (R231, R233, R236 to R244, R247, R258 to R260).
It says where these complete with their own effect: flitInject, keepMark, flitEject, flitReturned, hopCrcError, creditReturn. -/
def Obligations.AnnulusFlits : Prop :=
  -- FLIT_INJECT of a unit's flit: it joins its stop's queue for the ring of R236, here with no slot to enter
  (∀ (s : State) (src : Stop) (x : NewFlit) (k : Fin 10) (n : Fin 118), Inv s → s.dev.live = true → reservedStop src.val = false → x.dst.toNat < 118 →
    reservedStop x.dst.toNat = false → src.val ≠ x.dst.toNat → Sparse.get 0 s.dev.ann.begun (src.val * 16 + ringFor src.val x.dst.toNat x.body.cls) = 0 →
    s.dev.slotTaken k.val n.val = true →
    Ends (.flitInject src (some x) k n .clean .clean) s fun d =>
      d.injOf src.val (ringFor src.val x.dst.toNat x.body.cls) = s.dev.injOf src.val (ringFor src.val x.dst.toNat x.body.cls) ++ [x.queued src.val]
        ∧ d.ann.flits = s.dev.ann.flits ∧ d.ann.cred = s.dev.ann.cred ∧ d.ann.locks = s.dev.ann.locks ∧ d.mem = s.dev.mem)
  -- while a packet is under way on that ring a flit of another waits with its unit (R239)
  ∧ (∀ (s : State) (src : Stop) (x : NewFlit) (k : Fin 10) (n : Fin 118), Inv s → s.dev.live = true → reservedStop src.val = false → x.dst.toNat < 118 →
      reservedStop x.dst.toNat = false → src.val ≠ x.dst.toNat → s.dev.slotTaken k.val n.val = true →
      Sparse.get 0 s.dev.ann.begun (src.val * 16 + ringFor src.val x.dst.toNat x.body.cls) ≠ 0 →
      Sparse.get 0 s.dev.ann.begun (src.val * 16 + ringFor src.val x.dst.toNat x.body.cls) ≠ (x.queued src.val).packet →
      Ends (.flitInject src (some x) k n .clean .clean) s fun d => d.ann.injq = s.dev.ann.injq ∧ d.ann.flits = s.dev.ann.flits ∧ d.mem = s.dev.mem)
  -- the head of a queue enters the free slot that passes, or the stop's own kept one, with the pair's next number; a credit is spent
  ∧ (∀ (s : State) (src : Stop) (k : Fin 10) (n : Fin 118) (f : Flit), Inv s → s.dev.live = true → reservedStop src.val = false →
      (s.dev.injOf src.val k.val).head? = some f → f.src = src.val ∧ f.ring = k.val ∧ f.hand = false → f.body.cls ≠ .rsp → s.dev.slotTakes src.val k.val n.val f = true →
      Ends (.flitInject src none k n .clean .clean) s fun d =>
        d.ann.flits = s.dev.ann.flits ++ [{ f with slot := n.val, seq := Sparse.get 0 s.dev.ann.seqTx (seqKey f.src f.dst f.ring) }]
        ∧ d.injOf src.val k.val = (s.dev.injOf src.val k.val).tail ∧ d.keptFor k.val n.val = 0
        ∧ (∀ x : Fin 3, d.credHeld src.val f.dst x.val + (if credClass f.body.cls = some x.val then 1 else 0) = s.dev.credHeld src.val f.dst x.val)
        ∧ d.mem = s.dev.mem ∧ d.ann.locks = s.dev.ann.locks)
  -- an RSP flit carries credits its source owes: up to 7 of REQ, 3 of SNP and 15 of DAT-A
  ∧ (∀ (s : State) (src : Stop) (k : Fin 10) (n : Fin 118) (f : Flit), Inv s → s.dev.live = true → reservedStop src.val = false →
      (s.dev.injOf src.val k.val).head? = some f → f.src = src.val ∧ f.ring = k.val ∧ f.hand = false → f.body.cls = .rsp → s.dev.ann.hand = none →
      s.dev.slotTakes src.val k.val n.val f = true →
      Ends (.flitInject src none k n .clean .clean) s fun d =>
        d.ann.flits = s.dev.ann.flits ++ [{ f with
            slot := n.val, seq := Sparse.get 0 s.dev.ann.seqTx (seqKey f.src f.dst f.ring), crReq := min (s.dev.credOf f.dst src.val 0).owed 7,
            crSnp := min (s.dev.credOf f.dst src.val 1).owed 3, crDat := min (s.dev.credOf f.dst src.val 2).owed 15 }]
        ∧ d.injOf src.val k.val = (s.dev.injOf src.val k.val).tail ∧ (∀ x : Fin 3, d.credHeld f.dst src.val x.val = s.dev.credHeld f.dst src.val x.val) ∧ d.mem = s.dev.mem)
  -- with no flit queued, a slot that is taken or kept for another stop, a failed ring, no credit or no answer space, nothing enters
  ∧ (∀ (s : State) (src : Stop) (k : Fin 10) (n : Fin 118), Inv s → reservedStop src.val = false → (s.dev.injOf src.val k.val).head?.any (fun f => s.dev.slotTakes src.val k.val n.val f) = false →
      Ends (.flitInject src none k n .clean .clean) s fun d => d.ann.injq = s.dev.ann.injq ∧ d.ann.flits = s.dev.ann.flits ∧ d.ann.cred = s.dev.ann.cred
        ∧ d.ann.kept = s.dev.ann.kept ∧ d.mem = s.dev.mem)
  -- a destination that is no stop: dropped, a class S entry
  ∧ (∀ (s : State) (src : Stop) (x : NewFlit) (k : Fin 10) (n : Fin 118), s.dev.live = true → reservedStop src.val = false → 118 ≤ x.dst.toNat →
      s.dev.slotTaken k.val n.val = true →
      Gives (.flitInject src (some x) k n .clean .clean) s
        (((s.fresh.ringWait k.val).logEv 0x3008 .S src.val [dU 1 src.val, dU 1 (ringFor src.val (x.dst.toNat % 118) x.body.cls), dU 1 x.dst.toNat]).readyLook
          src.val k.val))
  -- KEEP_MARK: a head ready for 64 NCLK marks the occupied slot that passes, one to a ring, and the stop counts it
  ∧ (∀ (s : State) (n : Stop) (k : Fin 10) (i : Fin 118), Inv s → s.dev.live = true → reservedStop n.val = false → s.dev.ringFailed k.val = false →
      s.dev.ann.hand = none → s.dev.keptFor k.val i.val = 0 → s.dev.slotTaken k.val i.val = true →
      Sparse.get 0 s.dev.ann.ready (n.val * 16 + k.val) ≠ 0 → Sparse.get 0 s.dev.ann.ready (n.val * 16 + k.val) + 64 ≤ s.dev.nclk + 1 →
      (∀ j : Fin 118, s.dev.keptFor k.val j.val ≠ n.val + 1) →
      Leaves (.keepMark n k i) s
        ({ s.fresh with ann := { s.dev.ann with kept := Sparse.set 0 s.dev.ann.kept (k.val * 128 + i.val) (n.val + 1) } }.inc STOP_KEEP_CNT 1 n.val))
  -- one not ready for so long marks none; a kept slot that comes back empty to a stop with nothing ready is released
  ∧ (∀ (s : State) (n : Stop) (k : Fin 10) (i : Fin 118), Inv s → s.dev.ann.hand = none → s.dev.keptFor k.val i.val ≠ n.val + 1 →
      (Sparse.get 0 s.dev.ann.ready (n.val * 16 + k.val) = 0 ∨ s.dev.nclk + 1 < Sparse.get 0 s.dev.ann.ready (n.val * 16 + k.val) + 64) →
      Leaves (.keepMark n k i) s s.fresh)
  ∧ (∀ (s : State) (n : Stop) (k : Fin 10) (i : Fin 118), Inv s → s.dev.live = true → reservedStop n.val = false → s.dev.ringFailed k.val = false →
      s.dev.ann.hand = none → s.dev.keptFor k.val i.val = n.val + 1 → s.dev.slotTaken k.val i.val = false →
      Sparse.get 0 s.dev.ann.ready (n.val * 16 + k.val) = 0 →
      Leaves (.keepMark n k i) s { s.fresh with ann := { s.dev.ann with kept := Sparse.set 0 s.dev.ann.kept (k.val * 128 + i.val) 0 } })
  -- FLIT_EJECT: the pair's oldest flit, numbered right, takes one entry of the ejection buffer
  ∧ (∀ (s : State) (src dst : Stop) (c : FCls) (x : Fin 3) (f : Flit), Inv s → s.dev.live = true → cwFrom src.val dst.val = true → s.dev.ringFailed (clsRing c) = false →
      credClass c = some x.val → s.dev.oldest src.val dst.val c = some f → f.dead = false → f.hand = false →
      Sparse.get 0 s.dev.ann.seqRx (seqKey src.val dst.val f.ring) = f.seq →
      Ends (.flitEject dst c (some src) none 0 0 .clean) s fun d =>
        d.ann.flits = s.dev.ann.flits.erase f ∧ (d.ejOf dst.val).map (·.1) = (s.dev.ejOf dst.val).map (·.1) ++ [f]
        ∧ d.credOf src.val dst.val x.val = { s.dev.credOf src.val dst.val x.val with flits := (s.dev.credOf src.val dst.val x.val).flits - 1, occ := (s.dev.credOf src.val dst.val x.val).occ + 1 }
        ∧ Sparse.get 0 d.ann.seqRx (seqKey src.val dst.val f.ring) = (f.seq + 1) % 256 ∧ d.mem = s.dev.mem)
  -- one numbered wrong is delivered too, and reported: ANN_SEQ_FAULT and a class S entry
  ∧ (∀ (s : State) (src dst : Stop) (c : FCls) (f : Flit), Inv s → s.dev.live = true → cwFrom src.val dst.val = true → s.dev.ringFailed (clsRing c) = false →
      s.dev.oldest src.val dst.val c = some f → f.dead = false → Sparse.get 0 s.dev.ann.seqRx (seqKey src.val dst.val f.ring) ≠ f.seq →
      Ends (.flitEject dst c (some src) none 0 0 .clean) s fun d =>
        d.flag ANN_SEQ_FAULT = true ∧ d.flag SAF_S_PENDING = true ∧ Sparse.get 0 d.ann.seqRx (seqKey src.val dst.val f.ring) = (f.seq + 1) % 256
          ∧ (d.ejOf dst.val).map (·.1) = (s.dev.ejOf dst.val).map (·.1) ++ [f] ∧ d.mem = s.dev.mem)
  -- one of a cancelled copy is dropped as an orphan
  ∧ (∀ (s : State) (src dst : Stop) (c : FCls) (f : Flit), Inv s → s.dev.live = true → cwFrom src.val dst.val = true → s.dev.ringFailed (clsRing c) = false →
      s.dev.oldest src.val dst.val c = some f → f.dead = true → Sparse.get 0 s.dev.ann.seqRx (seqKey src.val dst.val f.ring) = f.seq →
      Ends (.flitEject dst c (some src) none 0 0 .clean) s fun d => d.ejOf dst.val = s.dev.ejOf dst.val ∧ d.mem = s.dev.mem
        ∧ d.fld STOP_ORPHAN dst.val = (s.dev.inc STOP_ORPHAN 1 dst.val).fld STOP_ORPHAN dst.val)
  -- a flit that the unit takes frees its entry, whose credit is then owed to the source; then the unit serves it
  ∧ (∀ (s : State) (dst : Stop) (c : FCls) (e : Flit × Nat), s.dev.live = true → s.dev.nextTaken dst.val c = some e → s.dev.hbmFull e.1 = false →
      Gives (.flitEject dst c none none 1 0 .clean) s ((s.fresh.setEj dst.val ((s.dev.ejOf dst.val).erase e)).takeFlit e.1))
  ∧ (∀ (d : Dev) (f : Flit) (x : Fin 3), f.hand = false → credClass f.body.cls = some x.val →
      (d.freeEntry f true).credOf f.src f.dst x.val
        = { d.credOf f.src f.dst x.val with occ := (d.credOf f.src f.dst x.val).occ - 1, owed := (d.credOf f.src f.dst x.val).owed + 1 })
  -- FLIT_RETURNED: the flit is gone, its credit back, ANN_RETURNED set with a class S entry
  ∧ (∀ (s : State) (src dst : Stop) (c : FCls) (x : Fin 3) (f : Flit), s.dev.live = true → credClass c = some x.val → s.dev.oldest src.val dst.val c = some f →
      f.hand = false → s.dev.ringFailed f.ring = false →
      Gives (.flitReturned src dst c) s
        ((((({ s.fresh.ringWait f.ring with ann := { s.dev.ann with flits := s.dev.ann.flits.erase f } }).setCred src.val dst.val x.val
            { s.dev.credOf src.val dst.val x.val with flits := (s.dev.credOf src.val dst.val x.val).flits - 1 }).raise ANN_RETURNED).logEv 0x3003 .S src.val
              [dU 1 f.ring, dU 1 src.val, dU 1 dst.val]).readyAll src.val))
  -- HOP_CRC_ERROR: the first errors of a flit are replayed and counted, the ring stands still for 6 NCLK; the third in a row fails it, class S
  ∧ (∀ (s : State) (k : Fin 10) (n : Stop), s.dev.live = true → s.dev.ringFailed k.val = false →
      Gives (.hopCrcError k n ⟨false, .clean⟩) s
        (({ s.fresh.ringWait k.val with ann := { s.dev.ann with
            retries := Sparse.set 0 s.dev.ann.retries k.val 1
            pause := Sparse.set 0 s.dev.ann.pause k.val ((s.fresh.ringWait k.val).nclk + 6) } }.inc RING_RETRY 1 k.val).repAbort 5 0x3001 n.val))
  ∧ (∀ (s : State) (k : Fin 10) (n : Stop), s.dev.live = true → s.dev.ringFailed k.val = false → Sparse.get 0 s.dev.ann.retries k.val = 2 →
      Gives (.hopCrcError k n ⟨true, .clean⟩) s
        ((((({ s.fresh.ringWait k.val with ann := { s.dev.ann with retries := Sparse.set 0 s.dev.ann.retries k.val 3 } }).setF RING_FAILED 1 k.val).setF
          RING_FAIL_SEG n.val k.val).setF ANN_SEG_FAIL 1).logEv 0x3001 .S n.val [dU 1 k.val, dU 1 n.val]))
  -- CREDIT_RETURN: nothing owed, no flit; else one RSP flit carries what is owed, in a free slot or at the head of the queue
  ∧ (∀ (s : State) (src dst : Stop), Inv s → s.dev.owedTo src.val dst.val = 0 → Leaves (.creditReturn src dst) s s.fresh)
  ∧ (∀ (s : State) (src dst : Stop), Inv s → s.dev.live = true → s.dev.ringFailed (ringFor src.val dst.val .rsp) = false → s.dev.owedTo src.val dst.val ≠ 0 →
      s.dev.ann.flits = [] → s.dev.ann.kept = [] →
      Ends (.creditReturn src dst) s fun d => d.ann.flits.length = 1
        ∧ (s.dev.credOf dst.val src.val 0).owed = (d.credOf dst.val src.val 0).owed + min (s.dev.credOf dst.val src.val 0).owed 7 ∧ d.mem = s.dev.mem ∧ d.csr = s.dev.csr)

/-- Lock requests of stop `n` are held: its tile hands over (R28, R256). -/
def Sys2Proof.Machine.Dev.lockWaits (d : Dev) (n : Nat) : Bool :=
  match stopKind n with
  | .tile p => d.tileMoves (d.ltile p)
  | _ => false

/-- The ring locks (R250 to R254, R256, R260, R266).
It says where these complete with their own effect: lockAcq, lockAcqw, lockRel, lockDecision, lockOwnerLoss, annSpLock. -/
def Obligations.RingLocks : Prop :=
  -- a lock request stands at stop 59 until the next decision
  (∀ (s : State) (q : Rq) (n : Fin 256), Inv s → s.dev.live = true → s.dev.lockWaits q.stop.val = false →
    Leaves (.lockAcq q n) s { s.fresh with ann := { s.dev.ann with reqs := s.dev.ann.reqs ++
      [{ stop := q.stop.val, unit := q.unit.val, tag := q.tag.toNat, owner := s.dev.lockOwner q.stop.val q.unit.val, lock := n.val, op := 0 }] } })
  ∧ (∀ (s : State) (q : Rq) (n : Fin 256), Inv s → s.dev.live = true → s.dev.lockWaits q.stop.val = false →
      Leaves (.lockAcqw q n) s { s.fresh with ann := { s.dev.ann with reqs := s.dev.ann.reqs ++
        [{ stop := q.stop.val, unit := q.unit.val, tag := q.tag.toNat, owner := s.dev.lockOwner q.stop.val q.unit.val, lock := n.val, op := 1 }] } })
  ∧ (∀ (s : State) (q : Rq) (n : Fin 256), Inv s → s.dev.live = true → s.dev.lockWaits q.stop.val = false →
      Leaves (.lockRel q n) s { s.fresh with ann := { s.dev.ann with reqs := s.dev.ann.reqs ++
        [{ stop := q.stop.val, unit := q.unit.val, tag := q.tag.toNat, owner := s.dev.lockOwner q.stop.val q.unit.val, lock := n.val, op := 2 }] } })
  -- that of a tile that hands over is held, and answered after the switch
  ∧ (∀ (s : State) (q : Rq) (n : Fin 256), Inv s → s.dev.live = true → s.dev.lockWaits q.stop.val = true →
      ∀ c ∈ [(Instr.lockAcq q n, 0), (.lockAcqw q n, 1), (.lockRel q n, 2)],
        Leaves c.1 s { s.fresh with safe := { s.dev.safe with heldLock := s.dev.safe.heldLock ++ [(reqId q, q.tag.toNat, n.val, c.2)] } })
  -- so does what the service port asks for in ANN_SP_LOCK, whose DONE bit reads 0 until the answer
  ∧ (∀ (s : State) (v : Word64), Inv s → Reaches s.dev .servicePort 0x3000028 →
      Leaves (.annSpLock .servicePort v) s
        (Dev.emit { s.fresh.setF ANN_SPL_DONE 0 with ann := { s.dev.ann with reqs := s.dev.ann.reqs ++
          [{ stop := 59, unit := 0, tag := 2048, owner := some .servicePort, lock := v.toNat % 256, op := if v.getLsbD 8 then 2 else 0 }] } } .wrDone))
  -- a write through another path is ignored and reported
  ∧ (∀ (s : State) (p : Path) (v : Word64), Inv s → p ≠ .servicePort → Reaches s.dev p 0x3000028 →
      Leaves (.annSpLock p v) s ((s.fresh.csrAccess 0x3000028 8 (pathCode p) 5).emit .wrDone))
  -- LOCK_OWNER_LOSS: so does the notice
  ∧ (∀ (s : State) (o : Owner), Inv s → s.dev.live = true →
      Leaves (.lockOwnerLoss o) s { s.fresh with ann := { s.dev.ann with notices := s.dev.ann.notices ++ [o] } })
  -- LOCK_DECISION: a FREE lock is granted, a BROKEN one granted as broken
  ∧ (∀ (s : State) (r : LockReq), s.dev.live = true → s.dev.ann.notices = [] → s.dev.ann.reqs = [r] → r.lock < 192 → r.owner ≠ none → s.dev.lockRemote r = none →
      r.op ≠ 2 → (s.dev.lockOf r.lock).state = 0 →
      Gives (.lockDecision none) s
        (({ s.fresh with ann := { s.dev.ann with reqs := [] } }.setLock r.lock { s.dev.lockOf r.lock with state := 1, owner := r.owner }).lockAnswer r 0))
  ∧ (∀ (s : State) (r : LockReq), s.dev.live = true → s.dev.ann.notices = [] → s.dev.ann.reqs = [r] → r.lock < 192 → r.owner ≠ none → s.dev.lockRemote r = none →
      r.op ≠ 2 → (s.dev.lockOf r.lock).state = 2 →
      Gives (.lockDecision none) s
        (({ s.fresh with ann := { s.dev.ann with reqs := [] } }.setLock r.lock { s.dev.lockOf r.lock with state := 3, owner := r.owner }).lockAnswer r 1))
  -- of an owned lock, LOCK_ACQ answers BUSY; LOCK_ACQW waits where another owns it and fewer than 4 wait
  ∧ (∀ (s : State) (r : LockReq), s.dev.live = true → s.dev.ann.notices = [] → s.dev.ann.reqs = [r] → r.lock < 192 → r.owner ≠ none → s.dev.lockRemote r = none →
      r.op = 0 → ((s.dev.lockOf r.lock).state = 1 ∨ (s.dev.lockOf r.lock).state = 3) →
      Gives (.lockDecision none) s ({ s.fresh with ann := { s.dev.ann with reqs := [] } }.lockAnswer r 2))
  ∧ (∀ (s : State) (r : LockReq), Inv s → s.dev.live = true → s.dev.ann.notices = [] → s.dev.ann.reqs = [r] → r.lock < 192 → r.owner ≠ none → s.dev.lockRemote r = none →
      r.op = 1 → ((s.dev.lockOf r.lock).state = 1 ∨ (s.dev.lockOf r.lock).state = 3) → (s.dev.lockOf r.lock).owner ≠ r.owner →
      (s.dev.lockOf r.lock).waiters.length < 4 →
      Leaves (.lockDecision none) s
        ({ s.fresh with ann := { s.dev.ann with reqs := [] } }.setLock r.lock { s.dev.lockOf r.lock with waiters := (s.dev.lockOf r.lock).waiters ++ [r] }))
  -- LOCK_REL by the owner frees it, or hands it to the first waiter; by another it is NOT_OWNER and a class D entry
  ∧ (∀ (s : State) (r : LockReq), s.dev.live = true → s.dev.ann.notices = [] → s.dev.ann.reqs = [r] → r.lock < 192 → r.owner ≠ none → s.dev.lockRemote r = none →
      r.op = 2 → ((s.dev.lockOf r.lock).state = 1 ∨ (s.dev.lockOf r.lock).state = 3) → (s.dev.lockOf r.lock).owner = r.owner →
      Gives (.lockDecision none) s
        (let d : Dev := { s.fresh with ann := { s.dev.ann with reqs := [] } }
         (match (s.dev.lockOf r.lock).waiters with
          | [] => d.setLock r.lock {}
          | w :: ws => (d.setLock r.lock { state := 1, owner := w.owner, waiters := ws }).lockAnswer w 0).lockAnswer r 4))
  ∧ (∀ (s : State) (r : LockReq), s.dev.live = true → s.dev.ann.notices = [] → s.dev.ann.reqs = [r] → r.lock < 192 → r.owner ≠ none → s.dev.lockRemote r = none →
      r.op = 2 → (s.dev.lockOf r.lock).owner ≠ r.owner →
      Gives (.lockDecision none) s
        (({ s.fresh with ann := { s.dev.ann with reqs := [] } }.logEv 0x3006 .D r.lock [dU 1 r.lock, dU 2 r.rid, dC 3]).lockAnswer r 3))
  -- a request that has no owner identity is denied
  ∧ (∀ (s : State) (r : LockReq), s.dev.live = true → s.dev.ann.notices = [] → s.dev.ann.reqs = [r] → r.owner = none →
      Gives (.lockDecision none) s
        (({ s.fresh with ann := { s.dev.ann with reqs := [] } }.logEv 0x3006 .D r.lock [dU 1 r.lock, dU 2 r.rid, dC 5]).lockAnswer r 5))
  -- a loss of an owner comes before the requests: its one lock breaks, counted, with a class I entry
  ∧ (∀ (s : State) (o : Owner) (n : Nat), Inv s → s.dev.live = true → s.dev.ann.notices = [o] → s.dev.ann.reqs = [] →
      s.dev.ann.locks = [(n, { state := 1, owner := some o, waiters := [] })] →
      Ends (.lockDecision none) s fun d => d.lockOf n = { state := 2, owner := some o, waiters := [] } ∧ d.ann.notices = []
        ∧ d.fld ANN_LOCK_BROKEN_CNT = satAdd 32 (s.dev.fld ANN_LOCK_BROKEN_CNT) 1 ∧ d.mem = s.dev.mem)
  -- a lock entry that cannot be read has lost its owner without a trace of it; a waiter entry goes without an answer; both class S
  ∧ (∀ (s : State) (e : LockErr), Inv s → s.dev.live = true → s.dev.ann.notices = [] → s.dev.ann.reqs = [] → e.double = true → e.waiter = none →
      (s.dev.lockOf e.lock.val).waiters = [] →
      Ends (.lockDecision (some e)) s fun d => d.lockOf e.lock.val = { state := 2, owner := none, waiters := [] } ∧ d.flag SAF_S_PENDING = true
        ∧ d.fld ANN_LOCK_BROKEN_CNT = satAdd 32 (s.dev.fld ANN_LOCK_BROKEN_CNT) 1 ∧ d.mem = s.dev.mem)
  ∧ (∀ (s : State) (e : LockErr) (i : Fin 4), Inv s → s.dev.live = true → s.dev.ann.notices = [] → s.dev.ann.reqs = [] → e.double = true → e.waiter = some i →
      Ends (.lockDecision (some e)) s fun d => (d.lockOf e.lock.val).waiters = (s.dev.lockOf e.lock.val).waiters.eraseIdx i.val
        ∧ (d.lockOf e.lock.val).owner = (s.dev.lockOf e.lock.val).owner ∧ d.flag SAF_S_PENDING = true ∧ d.mem = s.dev.mem)
  ∧ (∀ (s : State) (e : LockErr), Inv s → s.dev.live = true → s.dev.ann.notices = [] → s.dev.ann.reqs = [] → e.double = false →
      Ends (.lockDecision (some e)) s fun d => d.ann.locks = s.dev.ann.locks ∧ d.fld STOP_CE 59 = (s.dev.inc STOP_CE 1 59).fld STOP_CE 59
        ∧ d.flag SAF_S_PENDING = s.dev.flag SAF_S_PENDING ∧ d.mem = s.dev.mem)

/-- A place the Cellar slices serve. -/
def Sys2Proof.Machine.atSlices : Place → Bool
  | .hbm => true
  | .scratch _ _ => true
  | _ => false

/-- A request for `n` bytes at `a` goes to what serves the address: no status of R40 or R43 stops it, a remote window is asked for whole
blocks (R38), and no tile that hands over holds it (R28). -/
abbrev Sys2Proof.Machine.Dev.goes (d : Dev) (a n : Nat) : Bool :=
  d.accStatus a n == 0 && !(inRemoteWindow a && n % 256 != 0) && !d.addrHeld (d.localAddr a)

/-- RD and WR as their home slice takes them, with the deadline of the requester (R285, R443). -/
abbrev Sys2Proof.Machine.Dev.rdAsk (d : Dev) (q : Rq) (a n : Nat) (na ef : Bool) : SliceReq :=
  { op := .rd (d.localAddr a) n na ef, rid := reqId q, tag := q.tag.toNat, dline := d.dlineOf q.stop.val q.unit.val false }

/-- WR. -/
abbrev Sys2Proof.Machine.Dev.wrAsk (d : Dev) (q : Rq) (a : Nat) (w : WrBytes) (na ef : Bool) : SliceReq :=
  { op := .wr (d.localAddr a) w na ef none, rid := reqId q, tag := q.tag.toNat, dline := d.dlineOf q.stop.val q.unit.val false }

/-- Its home slice accepts request `r` at once: nothing stands in its ejection buffer, its line queue and the device's 8,192 transactions have
room (R4, R288). -/
abbrev Sys2Proof.Machine.Dev.accepts (d : Dev) (b : Nat) (r : SliceReq) : Bool :=
  !(d.cel.intake.any (fun e => e.1 == homeSlice b) || d.sliceStalls (b / 256) r)

/-- Requests that ride the Annulus (R40, R180, R234, R285, R382).
It says where these complete with their own effect: rd, wr, csrRdReq, csrWrReq. -/
def Obligations.AnnulusRequests : Prop :=
  -- RD and WR of an address nothing serves: the status of R40 comes back, ADDR_DECODE or DIE_DOWN is written
  (∀ (s : State) (q : Rq) (a : DevAddr) (u : Fin 64) (na ef : Bool), s.dev.live = true → s.dev.accStatus a.toNat (64 * (u.val + 1)) ≠ 0 →
    Gives (.rd q a u na ef) s
      ((s.fresh.logStatus (s.dev.accStatus a.toNat (64 * (u.val + 1))) a.toNat (64 * (u.val + 1)) q.stop.val).emit
        (.resp (reqId q) q.tag.toNat (s.dev.accStatus a.toNat (64 * (u.val + 1))) [])))
  ∧ (∀ (s : State) (q : Rq) (a : DevAddr) (w : WrBytes) (na ef : Bool) (n : Option (Fin 64)), s.dev.live = true → s.dev.accStatus a.toNat w.length ≠ 0 →
      Gives (.wr q a w na ef n) s
        ((s.fresh.logStatus (s.dev.accStatus a.toNat w.length) a.toNat w.length q.stop.val).emit (.resp (reqId q) q.tag.toNat (s.dev.accStatus a.toNat w.length) [])))
  -- one that ends in a tile which hands over is held for the incoming tile
  ∧ (∀ (s : State) (q : Rq) (a : DevAddr) (u : Fin 64) (na ef : Bool), Inv s → s.dev.live = true → s.dev.accStatus a.toNat (64 * (u.val + 1)) = 0 →
      (inRemoteWindow a.toNat && (64 * (u.val + 1)) % 256 != 0) = false → s.dev.addrHeld (s.dev.localAddr a.toNat) = true →
      Leaves (.rd q a u na ef) s { s.fresh with safe := { s.dev.safe with heldReq := s.dev.safe.heldReq ++
        [{ q := q, addr := a.toNat, len := 64 * (u.val + 1), wr := none, noalloc := na, first := ef, count := none,
           dline := s.dev.dlineOf q.stop.val q.unit.val false }] } })
  -- RD of tile SRAM answers its bytes
  ∧ (∀ (s : State) (q : Rq) (a : DevAddr) (u : Fin 64) (na ef : Bool) (t off : Nat), s.dev.live = true → s.dev.goes a.toNat (64 * (u.val + 1)) = true →
      placeOf (s.dev.localAddr a.toNat) = .tile t off →
      Gives (.rd q a u na ef) s
        ((s.fresh.sramRead t off (64 * (u.val + 1)) 4).2.2.emit (.resp (reqId q) q.tag.toNat (if (s.fresh.sramRead t off (64 * (u.val + 1)) 4).2.1 then 6 else 0)
          (s.fresh.sramRead t off (64 * (u.val + 1)) 4).1)))
  -- WR of tile SRAM stores its bytes and, where it names one, raises an arrival counter of the tile
  ∧ (∀ (s : State) (q : Rq) (a : DevAddr) (w : WrBytes) (na ef : Bool) (n : Option (Fin 64)) (t off : Nat), s.dev.live = true → s.dev.goes a.toNat w.length = true →
      placeOf (s.dev.localAddr a.toNat) = .tile t off →
      Gives (.wr q a w na ef n) s
        ((match n with
          | some k => (s.fresh.sramWrite t off w).arriveAt t k.val
          | none => s.fresh.sramWrite t off w).emit (.resp (reqId q) q.tag.toNat 0 [])))
  -- of HBM and scratch: its home slice accepts it, and serves it or queues it behind a transaction of its line; else it stays in the slice's
  -- ejection buffer
  ∧ (∀ (s : State) (q : Rq) (a : DevAddr) (u : Fin 64) (na ef : Bool), s.dev.live = true → s.dev.goes a.toNat (64 * (u.val + 1)) = true →
      atSlices (placeOf (s.dev.localAddr a.toNat)) = true → s.dev.accepts (s.dev.localAddr a.toNat) (s.dev.rdAsk q a.toNat (64 * (u.val + 1)) na ef) = true →
      Gives (.rd q a u na ef) s
        (s.fresh.sliceServe (homeSlice (s.dev.localAddr a.toNat)) (s.dev.localAddr a.toNat / 256) (s.dev.rdAsk q a.toNat (64 * (u.val + 1)) na ef)))
  ∧ (∀ (s : State) (q : Rq) (a : DevAddr) (w : WrBytes) (na ef : Bool) (n : Option (Fin 64)), s.dev.live = true → s.dev.goes a.toNat w.length = true →
      atSlices (placeOf (s.dev.localAddr a.toNat)) = true → s.dev.accepts (s.dev.localAddr a.toNat) (s.dev.wrAsk q a.toNat w na ef) = true →
      Gives (.wr q a w na ef n) s
        (s.fresh.sliceServe (homeSlice (s.dev.localAddr a.toNat)) (s.dev.localAddr a.toNat / 256) (s.dev.wrAsk q a.toNat w na ef)))
  ∧ (∀ (s : State) (q : Rq) (a : DevAddr) (u : Fin 64) (na ef : Bool), Inv s → s.dev.live = true → s.dev.goes a.toNat (64 * (u.val + 1)) = true →
      atSlices (placeOf (s.dev.localAddr a.toNat)) = true → s.dev.accepts (s.dev.localAddr a.toNat) (s.dev.rdAsk q a.toNat (64 * (u.val + 1)) na ef) = false →
      Leaves (.rd q a u na ef) s
        { s.fresh with cel := { s.dev.cel with intake := s.dev.cel.intake ++
          [(homeSlice (s.dev.localAddr a.toNat), s.dev.localAddr a.toNat / 256, s.dev.rdAsk q a.toNat (64 * (u.val + 1)) na ef)] } })
  -- accepting gives the request its number and the slice's port one grant; a line under a transaction queues it, else it is served
  ∧ (∀ (d : Dev) (k a n : Nat) (na ef : Bool) (rid tag dline : Nat), d.hostCached a = false →
      d.sliceServe (homeOf k) k { op := .rd a n na ef, rid := rid, tag := tag, dline := dline }
        = (let r : SliceReq := { op := .rd a n na ef, rid := rid, tag := tag, dline := dline, seq := d.cel.seqNext }
           let e : Dev := { d.celGrant (homeOf k) (some r.cls) with cel := { (d.celGrant (homeOf k) (some r.cls)).cel with seqNext := d.cel.seqNext + 1 } }
           match d.busyLine a n with
           | some j => e.enqueue j r
           | none => e.servePlain r))
  -- of a RAM block: the access arrives at its queue and cache unit
  ∧ (∀ (s : State) (q : Rq) (a : DevAddr) (u : Fin 64) (na ef : Bool) (blk off : Nat), s.dev.live = true → s.dev.goes a.toNat (64 * (u.val + 1)) = true →
      placeOf (s.dev.localAddr a.toNat) = .ram blk off →
      Gives (.rd q a u na ef) s
        (s.fresh.qcArrive blk { rid := reqId q, tag := q.tag.toNat, off := off, len := (64 * (u.val + 1)), wr := none, since := s.dev.clk.tick }))
  ∧ (∀ (s : State) (q : Rq) (a : DevAddr) (w : WrBytes) (na ef : Bool) (n : Option (Fin 64)) (blk off : Nat), s.dev.live = true → s.dev.goes a.toNat w.length = true →
      placeOf (s.dev.localAddr a.toNat) = .ram blk off →
      Gives (.wr q a w na ef n) s
        (s.fresh.qcArrive blk { rid := reqId q, tag := q.tag.toNat, off := off, len := w.length, wr := some w, since := s.dev.clk.tick }))
  -- of a host window: its home slice where the window is cached, else a request on the host's link
  ∧ (∀ (s : State) (q : Rq) (a : DevAddr) (u : Fin 64) (na ef : Bool) (die off : Nat), s.dev.live = true → s.dev.goes a.toNat (64 * (u.val + 1)) = true →
      placeOf (s.dev.localAddr a.toNat) = .host die off →
      Gives (.rd q a u na ef) s
        (if s.dev.hostCached (s.dev.localAddr a.toNat) then
           s.fresh.sliceArrive (homeSlice (s.dev.localAddr a.toNat)) (s.dev.localAddr a.toNat / 256) (s.dev.rdAsk q a.toNat (64 * (u.val + 1)) na ef)
         else s.fresh.outReq die q off (64 * (u.val + 1)) none))
  ∧ (∀ (s : State) (q : Rq) (a : DevAddr) (w : WrBytes) (na ef : Bool) (n : Option (Fin 64)) (die off : Nat), s.dev.live = true → s.dev.goes a.toNat w.length = true →
      placeOf (s.dev.localAddr a.toNat) = .host die off →
      Gives (.wr q a w na ef n) s
        (if s.dev.hostCached (s.dev.localAddr a.toNat) then
           s.fresh.sliceArrive (homeSlice (s.dev.localAddr a.toNat)) (s.dev.localAddr a.toNat / 256) (s.dev.wrAsk q a.toNat w na ef)
         else s.fresh.outReq die q off w.length (some w)))
  -- of a remote window in less than whole blocks: BAD_REQ; of another member's in whole blocks: a pull, or a push in which the bytes that carry
  -- no strobe are free (log entry 168)
  ∧ (∀ (s : State) (q : Rq) (a : DevAddr) (u : Fin 64) (na ef : Bool), s.dev.live = true → s.dev.accStatus a.toNat (64 * (u.val + 1)) = 0 →
      inRemoteWindow a.toNat = true → (64 * (u.val + 1)) % 256 ≠ 0 → Gives (.rd q a u na ef) s (s.fresh.emit (.resp (reqId q) q.tag.toNat 9 [])))
  ∧ (∀ (s : State) (q : Rq) (a : DevAddr) (u : Fin 64) (na ef : Bool) (dev off : Nat), s.dev.live = true → s.dev.goes a.toNat (64 * (u.val + 1)) = true →
      placeOf (s.dev.localAddr a.toNat) = .remote dev off →
      Gives (.rd q a u na ef) s (s.fresh.startPull (reqId q) q.tag.toNat dev off (64 * (u.val + 1)) 0 s.dev.selfId true none))
  ∧ (∀ (s : State) (q : Rq) (a : DevAddr) (w : WrBytes) (na ef : Bool) (n : Option (Fin 64)) (dev off : Nat), s.dev.live = true →
      s.dev.goes a.toNat w.length = true → placeOf (s.dev.localAddr a.toNat) = .remote dev off →
      Gives (.wr q a w na ef n) s
        (s.fresh.startPush (reqId q) q.tag.toNat dev off ((upTo w.length).map fun i => (w.getD i none).getD (Config.unstrobed i)) []
          (n.map (·.val)) none))
  -- CSR_RD and CSR_WR of a ring gate: the fabric path of the region its unit number names
  ∧ (∀ (s : State) (q : Rq) (off : CsrOff) (n : Fin 9) (j : Nat), s.dev.live = true → stopKind q.stop.val = .gate j → q.unit.val < 4 →
      Gives (.csrRdReq q off n) s (s.fresh.csrFabric (Fin.ofNat 32 (4 * j + q.unit.val)) (reqId q) q.tag.toNat off.toNat n.val none))
  ∧ (∀ (s : State) (q : Rq) (off : CsrOff) (n : Fin 9) (v : Word64) (j : Nat), s.dev.live = true → stopKind q.stop.val = .gate j → q.unit.val < 4 →
      Gives (.csrWrReq q off n v) s (s.fresh.csrFabric (Fin.ofNat 32 (4 * j + q.unit.val)) (reqId q) q.tag.toNat off.toNat n.val (some v.toNat)))
  -- such a read of GLB_ID answers the part's identity
  ∧ (∀ (s : State) (q : Rq) (j : Nat), Inv s → s.dev.live = true → stopKind q.stop.val = .gate j → q.unit.val < 4 →
      Readable s.dev (.fabric (Fin.ofNat 32 (4 * j + q.unit.val))) 0 →
      Ends (.csrRdReq q 0 8) s fun d => d.out = [.resp (reqId q) q.tag.toNat 0 (leBytes 8 (s.dev.fld ID_PART + s.dev.fld ID_STEP * 2 ^ 16 + s.dev.fld ID_GRADE * 2 ^ 24))]
        ∧ d.mem = s.dev.mem ∧ d.ember = s.dev.ember)
  -- of any other requester stop 59 serves neither: BAD_REQ and a class D entry
  ∧ (∀ (s : State) (q : Rq) (off : CsrOff) (n : Fin 9) (v : Word64), s.dev.live = true → (∀ j : Fin 8, stopKind q.stop.val ≠ .gate j.val) →
      Gives (.csrRdReq q off n) s (s.fresh.badOpc mgmtStop 4 (reqId q) q.tag.toNat)
        ∧ Gives (.csrWrReq q off n v) s (s.fresh.badOpc mgmtStop 5 (reqId q) q.tag.toNat))

/-- Requester ID of tile `t`'s cache (R235). -/
def Sys2Proof.Machine.Dev.cacheRid (d : Dev) (t : Nat) : Nat := ridOf (tileStop (d.ptile t)) 3

/-- A request of tile `t`'s cache: its deadline is the time at which it leaves (R235, R444). -/
abbrev Sys2Proof.Machine.Dev.tcAsk (d : Dev) (t : Nat) (op : SliceOp) : SliceReq :=
  { op := op, rid := d.cacheRid t, tag := 0, dline := dlineAt d.now }

/-- The slice of line `k` has accepted request `r`: its port has made a grant, the request has its place in the order (R284, R447). -/
abbrev Sys2Proof.Machine.Dev.took (d : Dev) (k : Nat) (r : SliceReq) : Dev :=
  { d.celGrant (homeOf k) (some r.cls) with cel := { (d.celGrant (homeOf k) (some r.cls)).cel with seqNext := d.cel.seqNext + 1 } }

/-- The request as the slice holds it. -/
abbrev Sys2Proof.Machine.Dev.held (d : Dev) (r : SliceReq) : SliceReq := { r with seq := d.cel.seqNext }

/-- Tile `t`'s cache sends a request for line `k`: it is released, it caches, the line is one it may hold, and no status of R40 or R43
stops it. -/
abbrev Sys2Proof.Machine.TileSends (d : Dev) (t k : Nat) : Prop :=
  d.released = true ∧ d.tcSize ≠ 0 ∧ tileLine k = true ∧ d.tileResetting t = false ∧ d.accStatus (256 * k) 256 = 0

/-- ... and its home slice accepts it at once and runs nothing for the line. -/
abbrev Sys2Proof.Machine.TileAsks (d : Dev) (t k : Nat) (op : SliceOp) : Prop :=
  TileSends d t k ∧ d.accepts (256 * k) (d.tcAsk t op) = true ∧ d.lineBusy k = false

/-- The tile has counted its miss, the home slice has accepted the request. -/
abbrev Sys2Proof.Machine.Dev.asked (d : Dev) (t k : Nat) (op : SliceOp) : Dev := (d.inc TC_MISS 1 (d.ptile t)).took k (d.tcAsk t op)

/-- Tile `t` gets line `k` in state `st` (1 S, 2 E) with its data, the directory becomes `x`, the answer carries the line: status 6 where any
of it is poisoned (R284, R295). -/
abbrev Sys2Proof.Machine.Dev.granted (d : Dev) (t k st : Nat) (l : Line) (x : Dir) (r : SliceReq) : Dev :=
  let p := if d.lineLost k then 15 else l.poison
  ((((d.causedBy r.rid r.dline).tcTake t k st l.data p).setDir k x).emit
    (.resp r.rid r.tag (if p = 0 then 0 else 6) (lineSlice l.data 0 256))).fenceCheck

/-- Snoop of operation `op` to tile `u` for request `r` (R286). -/
abbrev Sys2Proof.Machine.snoopFor (r : SliceReq) (cause op u : Nat) : Snoop := { tile := u, op := op, orig := r.rid, cause := cause }

/-- Tile-cache requests at the home slice (R282 to R289).
It says where these complete with their own effect: rdSh, rdEx, upgr, wb, evc. -/
def Obligations.TileCacheRequests : Prop :=
  -- RD_SH of a line no tile holds: the tile gets it exclusive and clean
  (∀ (s : State) (t : LTile) (k : BitVec 40) (l : Line), TileAsks s.dev t.val k.toNat (.rdSh t.val) → s.dev.sliceScratch (homeOf k.toNat) = false →
    s.dev.celLine k.toNat = some l → s.dev.dirOf k.toNat = .none →
    Gives (.rdSh t k) s (((s.fresh.asked t.val k.toNat (.rdSh t.val)).inc CEL_HITS 1 (homeOf k.toNat)).granted t.val k.toNat 2 l (.ex t.val)
      (s.dev.held (s.dev.tcAsk t.val (.rdSh t.val)))))
  -- RD_SH of a line others share: it joins them
  ∧ (∀ (s : State) (t : LTile) (k : BitVec 40) (l : Line) (h : List Nat), TileAsks s.dev t.val k.toNat (.rdSh t.val) →
      s.dev.sliceScratch (homeOf k.toNat) = false → s.dev.celLine k.toNat = some l → s.dev.dirOf k.toNat = .sh h →
      Gives (.rdSh t k) s (((s.fresh.asked t.val k.toNat (.rdSh t.val)).inc CEL_HITS 1 (homeOf k.toNat)).granted t.val k.toNat 1 l (.sh (addSharer t.val h))
        (s.dev.held (s.dev.tcAsk t.val (.rdSh t.val)))))
  -- RD_SH of a line another tile has exclusive: SNP_DOWN goes to that tile first
  ∧ (∀ (s : State) (t : LTile) (k : BitVec 40) (u : Nat), TileAsks s.dev t.val k.toNat (.rdSh t.val) → s.dev.sliceScratch (homeOf k.toNat) = false →
      (s.dev.celLine k.toNat).isSome = true → s.dev.dirOf k.toNat = .ex u → u ≠ t.val →
      Gives (.rdSh t k) s
        ((((s.fresh.asked t.val k.toNat (.rdSh t.val)).inc CEL_HITS 1 (homeOf k.toNat)).sendSnoop k.toNat 2 u (s.dev.cacheRid t.val) 0).setTrans k.toNat
          (some { req := s.dev.held (s.dev.tcAsk t.val (.rdSh t.val)), snoops := [snoopFor (s.dev.tcAsk t.val (.rdSh t.val)) 0 2 u] })))
  -- a miss asks HBM for the line
  ∧ (∀ (s : State) (t : LTile) (k : BitVec 40), TileAsks s.dev t.val k.toNat (.rdSh t.val) → s.dev.sliceScratch (homeOf k.toNat) = false →
      s.dev.celLine k.toNat = none → s.dev.dirOf k.toNat = .none → 256 * k.toNat < hbmEnd →
      Gives (.rdSh t k) s
        (((s.fresh.asked t.val k.toNat (.rdSh t.val)).inc CEL_MISSES 1 (homeOf k.toNat)).setTrans k.toNat
          (some { req := s.dev.held (s.dev.tcAsk t.val (.rdSh t.val)), fill := true })))
  -- of a line of scratch: its slice serves it from its own array, and its filter takes an entry
  ∧ (∀ (s : State) (t : LTile) (k : BitVec 40), TileAsks s.dev t.val k.toNat (.rdSh t.val) → s.dev.sliceScratch (homeOf k.toNat) = true →
      s.dev.celLine k.toNat = none → s.dev.dirOf k.toNat = .none → hbmEnd ≤ 256 * k.toNat →
      Gives (.rdSh t k) s
        (let e := (((s.fresh.asked t.val k.toNat (.rdSh t.val)).causedBy (s.dev.cacheRid t.val) (dlineAt s.dev.now)).filterRoom k.toNat)
         e.granted t.val k.toNat 2 ((e.celLine k.toNat).getD (e.backLine k.toNat)) (.ex t.val) (s.dev.held (s.dev.tcAsk t.val (.rdSh t.val)))))
  -- RD_EX of a line no other tile holds: exclusive
  ∧ (∀ (s : State) (t : LTile) (k : BitVec 40) (l : Line), TileAsks s.dev t.val k.toNat (.rdEx t.val) → s.dev.sliceScratch (homeOf k.toNat) = false →
      s.dev.celLine k.toNat = some l → (s.dev.dirOf k.toNat = .none ∨ s.dev.dirOf k.toNat = .sh [t.val]) →
      Gives (.rdEx t k) s (((s.fresh.asked t.val k.toNat (.rdEx t.val)).inc CEL_HITS 1 (homeOf k.toNat)).granted t.val k.toNat 2 l (.ex t.val)
        (s.dev.held (s.dev.tcAsk t.val (.rdEx t.val)))))
  -- RD_EX of a shared line: SNP_INV to every other holder, in tile order
  ∧ (∀ (s : State) (t : LTile) (k : BitVec 40) (h : List Nat), TileAsks s.dev t.val k.toNat (.rdEx t.val) → s.dev.sliceScratch (homeOf k.toNat) = false →
      (s.dev.celLine k.toNat).isSome = true → s.dev.dirOf k.toNat = .sh h → (h.any fun u => u != t.val) = true →
      Gives (.rdEx t k) s
        (((h.filter (· != t.val)).foldl (fun (d : Dev) u => d.sendSnoop k.toNat 1 u (s.dev.cacheRid t.val) 0)
            ((s.fresh.asked t.val k.toNat (.rdEx t.val)).inc CEL_HITS 1 (homeOf k.toNat))).setTrans k.toNat
          (some { req := s.dev.held (s.dev.tcAsk t.val (.rdEx t.val)),
                  snoops := (h.filter (· != t.val)).map (snoopFor (s.dev.tcAsk t.val (.rdEx t.val)) 0 1) })))
  -- UPGR of the only sharer: its copy becomes exclusive, no data moves
  ∧ (∀ (s : State) (t : LTile) (k : BitVec 40) (l : TLine), TileAsks s.dev t.val k.toNat (.upgr t.val) → s.dev.dirOf k.toNat = .sh [t.val] →
      s.dev.tcLine t.val k.toNat = some l →
      Gives (.upgr t k) s
        ((((((s.fresh.asked t.val k.toNat (.upgr t.val)).causedBy (s.dev.cacheRid t.val) (dlineAt s.dev.now)).setTc t.val k.toNat (some { l with st := 2 })).setDir
          k.toNat (.ex t.val)).emit (.resp (s.dev.cacheRid t.val) 0 0 [])).fenceCheck))
  -- UPGR among several sharers: the others are invalidated first
  ∧ (∀ (s : State) (t : LTile) (k : BitVec 40) (h : List Nat), TileAsks s.dev t.val k.toNat (.upgr t.val) → s.dev.dirOf k.toNat = .sh h →
      h.contains t.val = true → (h.any fun u => u != t.val) = true →
      Gives (.upgr t k) s
        (((h.filter (· != t.val)).foldl (fun (d : Dev) u => d.sendSnoop k.toNat 1 u (s.dev.cacheRid t.val) 0) (s.fresh.asked t.val k.toNat (.upgr t.val))).setTrans k.toNat
          (some { req := s.dev.held (s.dev.tcAsk t.val (.upgr t.val)),
                  snoops := (h.filter (· != t.val)).map (snoopFor (s.dev.tcAsk t.val (.upgr t.val)) 0 1) })))
  -- UPGR of a tile that is no sharer any more: as RD_EX, with the line's data
  ∧ (∀ (s : State) (t : LTile) (k : BitVec 40) (l : Line), TileAsks s.dev t.val k.toNat (.upgr t.val) → s.dev.sliceScratch (homeOf k.toNat) = false →
      s.dev.celLine k.toNat = some l → s.dev.dirOf k.toNat = .none → s.dev.tcLine t.val k.toNat = none →
      Gives (.upgr t k) s (((s.fresh.asked t.val k.toNat (.upgr t.val)).inc CEL_HITS 1 (homeOf k.toNat)).granted t.val k.toNat 2 l (.ex t.val)
        (s.dev.held (s.dev.tcAsk t.val (.upgr t.val)))))
  -- a request for a line whose transaction runs, or that others wait for, waits behind them
  ∧ (∀ (s : State) (t : LTile) (k : BitVec 40), TileSends s.dev t.val k.toNat → s.dev.accepts (256 * k.toNat) (s.dev.tcAsk t.val (.rdEx t.val)) = true →
      s.dev.lineBusy k.toNat = true →
      Gives (.rdEx t k) s ((s.fresh.asked t.val k.toNat (.rdEx t.val)).enqueue k.toNat (s.dev.held (s.dev.tcAsk t.val (.rdEx t.val)))))
  -- where the slice can accept nothing it waits in the slice's ejection buffer
  ∧ (∀ (s : State) (t : LTile) (k : BitVec 40), Inv s → TileSends s.dev t.val k.toNat → s.dev.accepts (256 * k.toNat) (s.dev.tcAsk t.val (.rdEx t.val)) = false →
      Leaves (.rdEx t k) s
        { s.fresh.inc TC_MISS 1 (s.dev.ptile t.val) with cel := { s.dev.cel with intake := s.dev.cel.intake ++
          [(homeOf k.toNat, k.toNat, s.dev.tcAsk t.val (.rdEx t.val))] } })
  -- an address that no slice serves: its status comes back
  ∧ (∀ (s : State) (t : LTile) (k : BitVec 40), s.dev.released = true → s.dev.tcSize ≠ 0 → tileLine k.toNat = true → s.dev.tileResetting t.val = false →
      s.dev.accStatus (256 * k.toNat) 256 ≠ 0 →
      Gives (.rdSh t k) s
        (((s.fresh.inc TC_MISS 1 (s.dev.ptile t.val)).logStatus (s.dev.accStatus (256 * k.toNat) 256) (256 * k.toNat) 256 (tileStop (s.dev.ptile t.val))).emit
          (.resp (s.dev.cacheRid t.val) 0 (s.dev.accStatus (256 * k.toNat) 256) [])))
  -- WB: the dirty sectors merge at home, the tile forgets the line, and so does the directory
  ∧ (∀ (s : State) (t : LTile) (k : BitVec 40) (l : TLine), s.dev.released = true → s.dev.tcLine t.val k.toNat = some l → l.dirty ≠ 0 →
      s.dev.wbOf t.val k.toNat = none → s.dev.accepts (256 * k.toNat) (s.dev.tcAsk t.val (.wb t.val)) = true → s.dev.lineBusy k.toNat = false →
      Gives (.wb t k) s
        (let e := (((((s.fresh.setTc t.val k.toNat none).setWb t.val k.toNat (some (l, false))).took k.toNat (s.dev.tcAsk t.val (.wb t.val))).causedBy
            (s.dev.cacheRid t.val) (dlineAt s.dev.now)).mergeIn k.toNat l.dirty l.data l.poison).setWb t.val k.toNat none
         ((e.setDir k.toNat ((e.dirOf k.toNat).without t.val)).emit (.resp (s.dev.cacheRid t.val) 0 0 [])).fenceCheck))
  -- behind a transaction of the line it waits in the tile's write-back buffer; the tile line is I from then on
  ∧ (∀ (s : State) (t : LTile) (k : BitVec 40) (l : TLine), s.dev.released = true → s.dev.tcLine t.val k.toNat = some l → l.dirty ≠ 0 →
      s.dev.wbOf t.val k.toNat = none → s.dev.accepts (256 * k.toNat) (s.dev.tcAsk t.val (.wb t.val)) = true → s.dev.lineBusy k.toNat = true →
      Gives (.wb t k) s
        ((((s.fresh.setTc t.val k.toNat none).setWb t.val k.toNat (some (l, false))).took k.toNat (s.dev.tcAsk t.val (.wb t.val))).enqueue k.toNat
          (s.dev.held (s.dev.tcAsk t.val (.wb t.val)))))
  -- EVC: a clean copy just goes, and the directory forgets the tile
  ∧ (∀ (s : State) (t : LTile) (k : BitVec 40) (l : TLine), s.dev.released = true → s.dev.tcLine t.val k.toNat = some l → l.dirty = 0 →
      s.dev.accepts (256 * k.toNat) (s.dev.tcAsk t.val (.evc t.val)) = true → s.dev.lineBusy k.toNat = false →
      Gives (.evc t k) s
        (((((s.fresh.setTc t.val k.toNat none).took k.toNat (s.dev.tcAsk t.val (.evc t.val))).causedBy (s.dev.cacheRid t.val) (dlineAt s.dev.now)).setDir
          k.toNat ((s.dev.dirOf k.toNat).without t.val)).emit (.resp (s.dev.cacheRid t.val) 0 0 []) |>.fenceCheck))
  -- merging at home: the dirty sectors' data and poison replace the line's, the line is dirty there; a scratch-mode slice writes them to memory
  ∧ (∀ (d : Dev) (k m p : Nat) (b : BitVec 2048) (l : Line), m ≠ 0 → d.celLine k = some l →
      d.mergeIn k m b p = d.setCel k (some { l with
        data := mergeSectors m l.data b, dirty := Nat.lor l.dirty m, poison := Nat.lor (maskMinus l.poison m) (Nat.land p m), ll := false }))
  ∧ (∀ (d : Dev) (k m p : Nat) (b : BitVec 2048), m ≠ 0 → d.celLine k = none → d.mergeIn k m b p = d.backWrite k m b p)

/-- A request of requester `q`, with its deadline (R444). -/
abbrev Sys2Proof.Machine.Dev.rqAsk (d : Dev) (q : Rq) (op : SliceOp) : SliceReq :=
  { op := op, rid := reqId q, tag := q.tag.toNat, dline := d.dlineOf q.stop.val q.unit.val false }

/-- Requester `q`'s FLUSH, FLUSH_INV or DISCARD of line `k` reaches its home slice, which accepts it and runs nothing for the line. -/
abbrev Sys2Proof.Machine.LineAsks (d : Dev) (q : Rq) (k : Nat) (op : SliceOp) : Prop :=
  d.live = true ∧ d.homed k = true ∧ d.accStatus (256 * k) 256 = 0 ∧ d.accepts (256 * k) (d.rqAsk q op) = true ∧ d.lineBusy k = false

/-- A tile owns the line. -/
abbrev Sys2Proof.Machine.Dir.owned : Dir → Bool
  | .ex _ => true
  | _ => false

/-- The slice serves it. -/
abbrev Sys2Proof.Machine.Dev.serves (d : Dev) (q : Rq) (k : Nat) (op : SliceOp) : Dev :=
  (d.took k (d.rqAsk q op)).causedBy (reqId q) (d.dlineOf q.stop.val q.unit.val false)

/-- Its answer: status 0, no data. -/
abbrev Sys2Proof.Machine.Dev.doneFor (d : Dev) (q : Rq) : Dev := (d.emit (.resp (reqId q) q.tag.toNat 0 [])).fenceCheck

/-- A FENCE of requester `q` as its slice accepts it. -/
abbrev Sys2Proof.Machine.Dev.fenceAsk (d : Dev) (q : Rq) : SliceReq := { op := .fence, rid := reqId q, tag := q.tag.toNat, seq := d.cel.seqNext }

/-- FLUSH, FLUSH_INV, DISCARD and FENCE (R284, R285, R288, R291).
It says where these complete with their own effect: flush, flushInv, discard, fence, lineQueueAdvance. -/
def Obligations.FlushRequests : Prop :=
  -- FLUSH of a line tiles do not own: its dirty sectors go to memory, it stays, clean; a host line leaves the slice
  (∀ (s : State) (q : Rq) (k : BitVec 40) (l : Line), LineAsks s.dev q k.toNat .flush → (s.dev.dirOf k.toNat).owned = false →
    s.dev.celLine k.toNat = some l → reqId q ≠ sliceUnit (homeOf k.toNat) 5 →
    Gives (.flush q k) s
      ((if l.host = 0 then ((s.fresh.serves q k.toNat .flush).writeBackLine k.toNat l).setCel k.toNat (some { l with dirty := 0 })
        else ((s.fresh.serves q k.toNat .flush).hostEvict k.toNat l).setCel k.toNat none).doneFor q))
  -- of a line a tile owns: SNP_CLEAN first
  ∧ (∀ (s : State) (q : Rq) (k : BitVec 40) (u : Nat), LineAsks s.dev q k.toNat .flush → s.dev.dirOf k.toNat = .ex u →
      Gives (.flush q k) s
        (((s.fresh.took k.toNat (s.dev.rqAsk q .flush)).sendSnoop k.toNat 3 u (reqId q) 3).setTrans k.toNat
          (some { req := s.dev.held (s.dev.rqAsk q .flush), snoops := [snoopFor (s.dev.rqAsk q .flush) 3 3 u] })))
  -- FLUSH_INV of a line no tile holds writes it back and drops it
  ∧ (∀ (s : State) (q : Rq) (k : BitVec 40) (l : Line), LineAsks s.dev q k.toNat .flushInv → s.dev.dirOf k.toNat = .none →
      s.dev.celLine k.toNat = some l → reqId q ≠ sliceUnit (homeOf k.toNat) 5 →
      Gives (.flushInv q k) s
        ((let e := (s.fresh.serves q k.toNat .flushInv).setDir k.toNat .none
          (if l.host = 0 then e.writeBackLine k.toNat l else e.hostEvict k.toNat l).setCel k.toNat none).doneFor q))
  -- of one tiles hold: SNP_INV to every holder first
  ∧ (∀ (s : State) (q : Rq) (k : BitVec 40), LineAsks s.dev q k.toNat .flushInv → s.dev.dirOf k.toNat ≠ .none → (s.dev.dirOf k.toNat).holders ≠ [] →
      Gives (.flushInv q k) s
        (((s.dev.dirOf k.toNat).holders.foldl (fun (d : Dev) u => d.sendSnoop k.toNat 1 u (reqId q) 3) (s.fresh.took k.toNat (s.dev.rqAsk q .flushInv))).setTrans k.toNat
          (some { req := s.dev.held (s.dev.rqAsk q .flushInv), snoops := (s.dev.dirOf k.toNat).holders.map (snoopFor (s.dev.rqAsk q .flushInv) 3 1) })))
  -- DISCARD drops it without a write-back, counted where it was dirty
  ∧ (∀ (s : State) (q : Rq) (k : BitVec 40), LineAsks s.dev q k.toNat .discard → s.dev.dirOf k.toNat = .none →
      reqId q ≠ sliceUnit (homeOf k.toNat) 5 →
      Gives (.discard q k) s
        (((((s.fresh.serves q k.toNat .discard).setDir k.toNat .none).setCel k.toNat none).inc CEL_DISC
          (if (s.dev.celLine k.toNat).any (·.dirty != 0) then 1 else 0) (homeOf k.toNat)).doneFor q))
  -- behind a transaction of the line they wait
  ∧ (∀ (s : State) (q : Rq) (k : BitVec 40), s.dev.live = true → s.dev.homed k.toNat = true → s.dev.accStatus (256 * k.toNat) 256 = 0 → s.dev.lineBusy k.toNat = true →
      s.dev.accepts (256 * k.toNat) (s.dev.rqAsk q .flush) = true →
      Gives (.flush q k) s ((s.fresh.took k.toNat (s.dev.rqAsk q .flush)).enqueue k.toNat (s.dev.held (s.dev.rqAsk q .flush)))
      ∧ Gives (.flushInv q k) s ((s.fresh.took k.toNat (s.dev.rqAsk q .flushInv)).enqueue k.toNat (s.dev.held (s.dev.rqAsk q .flushInv)))
      ∧ Gives (.discard q k) s ((s.fresh.took k.toNat (s.dev.rqAsk q .discard)).enqueue k.toNat (s.dev.held (s.dev.rqAsk q .discard))))
  -- a status of R40 or R43 comes back
  ∧ (∀ (s : State) (q : Rq) (k : BitVec 40), s.dev.live = true → s.dev.accStatus (256 * k.toNat) 256 ≠ 0 →
      Gives (.flush q k) s ((s.fresh.logStatus (s.dev.accStatus (256 * k.toNat) 256) (256 * k.toNat) 256 q.stop.val).emit
          (.resp (reqId q) q.tag.toNat (s.dev.accStatus (256 * k.toNat) 256) []))
      ∧ Gives (.flushInv q k) s ((s.fresh.logStatus (s.dev.accStatus (256 * k.toNat) 256) (256 * k.toNat) 256 q.stop.val).emit
          (.resp (reqId q) q.tag.toNat (s.dev.accStatus (256 * k.toNat) 256) []))
      ∧ Gives (.discard q k) s ((s.fresh.logStatus (s.dev.accStatus (256 * k.toNat) 256) (256 * k.toNat) 256 q.stop.val).emit
          (.resp (reqId q) q.tag.toNat (s.dev.accStatus (256 * k.toNat) 256) [])))
  -- of an address without a home slice its target does not serve the request: status 9 and a class D entry
  ∧ (∀ (s : State) (q : Rq) (k : BitVec 40), s.dev.live = true → s.dev.accStatus (256 * k.toNat) 256 = 0 → s.dev.homed k.toNat = false →
      Gives (.flush q k) s (s.fresh.badOpc (s.dev.targetStop (256 * k.toNat)) 0x18 (reqId q) q.tag.toNat)
      ∧ Gives (.flushInv q k) s (s.fresh.badOpc (s.dev.targetStop (256 * k.toNat)) 0x19 (reqId q) q.tag.toNat)
      ∧ Gives (.discard q k) s (s.fresh.badOpc (s.dev.targetStop (256 * k.toNat)) 0x1A (reqId q) q.tag.toNat))
  -- FENCE takes its place in the slice's order and is answered once nothing of its requester that came before is open
  ∧ (∀ (s : State) (q : Rq) (n : Unit16), s.dev.live = true → (s.dev.cel.intake.any fun e => e.1 == n.val) = false →
      Gives (.fence q n) s
        { s.fresh.celGrant n.val (some (s.dev.fenceAsk q).cls) with
            cel := { (s.fresh.celGrant n.val (some (s.dev.fenceAsk q).cls)).cel with
              seqNext := s.dev.cel.seqNext + 1,
              fences := s.dev.cel.fences ++ [Fence.mk n.val (reqId q) q.tag.toNat s.dev.cel.seqNext] } }.fenceCheck)
  -- one before which nothing is open answers at once, one before which a request of its requester is open waits
  ∧ (∀ (d : Dev) (f : Fence), d.cel.fences = [f] → d.fenceOpen f = false →
      d.fenceCheck = { d with cel := { d.cel with fences := [] } }.emit (.resp f.rid f.tag 0 []))
  ∧ (∀ (d : Dev) (f : Fence) (k : Nat) (x : Trans), d.cel.fences = [f] → d.cel.trans = [(k, some x)] → homeOf k = f.slice → x.req.rid = f.rid →
      x.req.seq < f.seq → d.fenceCheck = d)
  -- LINE_QUEUE_ADVANCE starts the next request of a line that runs none
  ∧ (∀ (s : State) (k : BitVec 40) (r : SliceReq) (l : List (Nat × SliceReq)), s.dev.live = true → s.dev.transOf k.toNat = none → s.dev.cel.queue = (k.toNat, r) :: l →
      (match r.op with | .rd .. => false | .wr .. => false | _ => true) = true →
      Gives (.lineQueueAdvance k) s ({ s.fresh with cel := { s.dev.cel with queue := l } }.startReq k.toNat r))
  ∧ (∀ (s : State) (k : BitVec 40) (r : SliceReq) (l : List (Nat × SliceReq)) (a n : Nat) (x y : Bool), s.dev.live = true → s.dev.transOf k.toNat = none →
      s.dev.cel.queue = (k.toNat, r) :: l → r.op = .rd a n x y →
      Gives (.lineQueueAdvance k) s ({ s.fresh with cel := { s.dev.cel with queue := l } }.plainAgain a n r))
  ∧ (∀ (s : State) (k : BitVec 40) (r : SliceReq) (l : List (Nat × SliceReq)) (a : Nat) (w : WrBytes) (x y : Bool) (c : Option (Fin 64)), s.dev.live = true →
      s.dev.transOf k.toNat = none → s.dev.cel.queue = (k.toNat, r) :: l → r.op = .wr a w x y c →
      Gives (.lineQueueAdvance k) s ({ s.fresh with cel := { s.dev.cel with queue := l } }.plainAgain a w.length r))
  -- with nothing waiting, or a transaction still running, it changes nothing
  ∧ (∀ (s : State) (k : BitVec 40), Inv s → (s.dev.transOf k.toNat ≠ none ∨ s.dev.cel.queue = []) → Leaves (.lineQueueAdvance k) s s.fresh)

/-- Snoops of tiles and hosts, their answers, and fills (R280, R286, R287, R291, R482).
It says where these complete with their own effect: snpInv, snpDown, snpClean, snpAck, snpData, celFill, snpinvH2D, snpdataH2D,
snpcurH2D. -/
def Obligations.SnoopsAndFills : Prop :=
  -- SNP_INV takes the tile's copy away; the answer carries its dirty sectors
  (∀ (s : State) (t : LTile) (k : BitVec 40) (x : Trans) (y : Snoop) (l : TLine), s.dev.live = true → s.dev.tileMoves t.val = false →
    s.dev.transOf k.toNat = some x → x.snoops = [y] → y.tile = t.val ∧ y.op = 1 ∧ y.ans = none → s.dev.wbOf t.val k.toNat = none → s.dev.tcLine t.val k.toNat = some l →
    Gives (.snpInv t k) s
      ((s.fresh.setTc t.val k.toNat none).setTrans k.toNat (some { x with snoops := [{ y with ans := some (l.dirty, l.data, l.poison) }] })))
  -- SNP_DOWN leaves it shared and clean
  ∧ (∀ (s : State) (t : LTile) (k : BitVec 40) (x : Trans) (y : Snoop) (l : TLine), s.dev.live = true → s.dev.tileMoves t.val = false →
      s.dev.transOf k.toNat = some x → x.snoops = [y] → y.tile = t.val ∧ y.op = 2 ∧ y.ans = none → s.dev.wbOf t.val k.toNat = none → s.dev.tcLine t.val k.toNat = some l →
      Gives (.snpDown t k) s
        ((s.fresh.setTc t.val k.toNat (some { l with st := 1, dirty := 0 })).setTrans k.toNat
          (some { x with snoops := [{ y with ans := some (l.dirty, l.data, l.poison) }] })))
  -- SNP_CLEAN leaves it exclusive and clean
  ∧ (∀ (s : State) (t : LTile) (k : BitVec 40) (x : Trans) (y : Snoop) (l : TLine), s.dev.live = true → s.dev.tileMoves t.val = false →
      s.dev.transOf k.toNat = some x → x.snoops = [y] → y.tile = t.val ∧ y.op = 3 ∧ y.ans = none → s.dev.wbOf t.val k.toNat = none → s.dev.tcLine t.val k.toNat = some l →
      Gives (.snpClean t k) s
        ((s.fresh.setTc t.val k.toNat (some { l with st := if l.st = 3 then 2 else l.st, dirty := 0 })).setTrans k.toNat
          (some { x with snoops := [{ y with ans := some (l.dirty, l.data, l.poison) }] })))
  -- a tile that holds no copy answers without data
  ∧ (∀ (s : State) (t : LTile) (k : BitVec 40) (x : Trans) (y : Snoop), s.dev.live = true → s.dev.tileMoves t.val = false →
      s.dev.transOf k.toNat = some x → x.snoops = [y] → y.tile = t.val ∧ y.op = 1 ∧ y.ans = none → s.dev.wbOf t.val k.toNat = none → s.dev.tcLine t.val k.toNat = none →
      Gives (.snpInv t k) s (s.fresh.setTrans k.toNat (some { x with snoops := [{ y with ans := some (0, 0, 0) }] })))
  -- one whose WB of the line is under way answers from its write-back buffer, and the WB then merges nothing
  ∧ (∀ (s : State) (t : LTile) (k : BitVec 40) (x : Trans) (y : Snoop) (l : TLine), s.dev.live = true → s.dev.tileMoves t.val = false →
      s.dev.transOf k.toNat = some x → x.snoops = [y] → y.tile = t.val ∧ y.op = 1 ∧ y.ans = none → s.dev.wbOf t.val k.toNat = some (l, false) →
      Gives (.snpInv t k) s
        ((s.fresh.setWb t.val k.toNat (some (l, true))).setTrans k.toNat (some { x with snoops := [{ y with ans := some (l.dirty, l.data, l.poison) }] })))
  ∧ (∀ (d : Dev) (t k : Nat) (l : TLine) (r : SliceReq), r.op = .wb t → d.wbOf t k = some (l, true) →
      d.finishReq k r 0 = (((d.causedBy r.rid r.dline).setWb t k none).setDir k ((d.dirOf k).without t)).emit (.resp r.rid r.tag 0 []))
  -- one for a tile that hands over is held for the incoming tile
  ∧ (∀ (s : State) (t : LTile) (k : BitVec 40), Inv s → s.dev.live = true → s.dev.tileMoves t.val = true →
      Leaves (.snpInv t k) s { s.fresh with safe := { s.dev.safe with heldSnp := s.dev.safe.heldSnp ++ [(t.val, k.toNat, 1)] } }
      ∧ Leaves (.snpDown t k) s { s.fresh with safe := { s.dev.safe with heldSnp := s.dev.safe.heldSnp ++ [(t.val, k.toNat, 2)] } }
      ∧ Leaves (.snpClean t k) s { s.fresh with safe := { s.dev.safe with heldSnp := s.dev.safe.heldSnp ++ [(t.val, k.toNat, 3)] } })
  -- SNP_ACK, not the last answer: the directory follows it, the transaction goes on
  ∧ (∀ (s : State) (t : LTile) (k : BitVec 40) (x : Trans) (z y : Snoop) (b : BitVec 2048) (p : Nat), s.dev.live = true → s.dev.transOf k.toNat = some x →
      x.snoops = [z, y] → z.tile = t.val ∧ z.ans = some (0, b, p) → y.tile ≠ t.val →
      Gives (.snpAck t k) s
        ((s.fresh.setDir k.toNat ((s.dev.dirOf k.toNat).snooped t.val z.op)).setTrans k.toNat (some { x with snoops := [y] })))
  -- the last answer ends the transaction: its request completes
  ∧ (∀ (s : State) (t : LTile) (k : BitVec 40) (x : Trans) (z : Snoop) (b : BitVec 2048) (p : Nat), s.dev.live = true → s.dev.transOf k.toNat = some x →
      x.snoops = [z] → z.tile = t.val ∧ z.ans = some (0, b, p) → x.fill = false →
      Gives (.snpAck t k) s
        ((s.fresh.setDir k.toNat ((s.dev.dirOf k.toNat).snooped t.val z.op)).finishTrans k.toNat { x with snoops := [] }))
  -- SNP_DATA: the dirty sectors merge at home first
  ∧ (∀ (s : State) (t : LTile) (k : BitVec 40) (x : Trans) (z : Snoop) (m : Nat) (b : BitVec 2048) (p : Nat), s.dev.live = true → s.dev.transOf k.toNat = some x →
      x.snoops = [z] → z.tile = t.val ∧ z.ans = some (m, b, p) → m ≠ 0 → x.fill = false ∧ x.req.op ≠ .discard →
      Gives (.snpData t k) s
        (((s.fresh.mergeIn k.toNat m b p).setDir k.toNat (((s.fresh.mergeIn k.toNat m b p).dirOf k.toNat).snooped t.val z.op)).finishTrans k.toNat { x with snoops := [] }))
  -- under DISCARD they are dropped, and counted
  ∧ (∀ (s : State) (t : LTile) (k : BitVec 40) (x : Trans) (z : Snoop) (m : Nat) (b : BitVec 2048) (p : Nat), s.dev.live = true → s.dev.transOf k.toNat = some x →
      x.snoops = [z] → z.tile = t.val ∧ z.ans = some (m, b, p) → m ≠ 0 → x.fill = false ∧ x.req.op = .discard →
      Gives (.snpData t k) s
        ((s.fresh.setDir k.toNat ((s.dev.dirOf k.toNat).snooped t.val z.op)).finishTrans k.toNat { x with snoops := [], drops := 1 }))
  -- an answer of the other kind than the tile gave changes nothing
  ∧ (∀ (s : State) (t : LTile) (k : BitVec 40) (x : Trans) (z : Snoop) (b : BitVec 2048) (p : Nat), Inv s → s.dev.transOf k.toNat = some x →
      x.snoops = [z] → z.tile = t.val ∧ z.ans = some (0, b, p) → Leaves (.snpData t k) s s.fresh)
  -- CEL_FILL: the line arrives from HBM in a slice of the cache, and a transaction whose snoops are answered ends
  ∧ (∀ (s : State) (k : BitVec 40) (h : BitVec 2048) (x : Trans), s.dev.live = true → s.dev.transOf k.toNat = some x → x.fill = true → x.snoops = [] →
      placeOf (256 * k.toNat) = .hbm → s.dev.sliceScratch (homeOf k.toNat) = false → s.dev.celLine k.toNat = none →
      Gives (.celFill k h) s
        (let e := (s.fresh.makeRoom k.toNat).causedBy x.req.rid x.req.dline
         ((e.backRead k.toNat 15).setCel k.toNat (some (e.backLine k.toNat))).finishTrans k.toNat { x with fill := false }))
  -- one that still waits for snoops goes on
  ∧ (∀ (s : State) (k : BitVec 40) (h : BitVec 2048) (x : Trans), s.dev.live = true → s.dev.transOf k.toNat = some x → x.fill = true → x.snoops ≠ [] →
      placeOf (256 * k.toNat) = .hbm → s.dev.celLine k.toNat ≠ none →
      Gives (.celFill k h) s (s.fresh.setTrans k.toNat (some { x with fill := false })))
  -- a host line arrives with the data the host sent, E for a write and S for a read, and the request is served
  ∧ (∀ (s : State) (k : BitVec 40) (h : BitVec 2048) (x : Trans) (n off : Nat), s.dev.live = true → s.dev.transOf k.toNat = some x → x.fill = true →
      placeOf (256 * k.toNat) = .host n off → (s.fresh.makeRoom k.toNat).celLine k.toNat = none →
      Gives (.celFill k h) s
        (((((s.fresh.makeRoom k.toNat).setTrans k.toNat none).setCel k.toNat
          (some { data := h, fresh := true, host := match x.req.op with | .wr .. => 2 | _ => 1 })).hostServe x.req).fenceCheck))
  -- a line the slice does not hold is answered RspIHitI; an answer that took longer than BUD_CPL counts
  ∧ (∀ (s : State) (n : Unit4) (k : BitVec 40) (took off : Nat), Inv s → s.dev.live = true → s.dev.portUp n.val = true → s.dev.cxlCache n.val = true →
    placeOf (256 * k.toNat) = .host n.val off → s.dev.celLine k.toNat = none →
    Leaves (.snpinvH2D n k took) s
      (let d := s.fresh.emit (.link "RspIHitI" n.val [k.toNat] [])
       if s.dev.fld BUD_CPL n.val < took then d.inc GE_SNP_LATE 1 n.val else d))
  -- SnpInv: the line leaves, a dirty one with its data
  ∧ (∀ (s : State) (n : Unit4) (k : BitVec 40) (took off : Nat) (l : Line), Inv s → s.dev.live = true → s.dev.portUp n.val = true → s.dev.cxlCache n.val = true →
      placeOf (256 * k.toNat) = .host n.val off → s.dev.celLine k.toNat = some l → took ≤ s.dev.fld BUD_CPL n.val →
      Leaves (.snpinvH2D n k took) s
        ((s.fresh.setCel k.toNat none).emit (.link (if l.dirty = 0 then "RspIHitSE" else "RspIFwdM") n.val [k.toNat] (if l.dirty = 0 then [] else lineSlice l.data 0 256))))
  -- SnpData: it stays, shared and clean
  ∧ (∀ (s : State) (n : Unit4) (k : BitVec 40) (took off : Nat) (l : Line), Inv s → s.dev.live = true → s.dev.portUp n.val = true → s.dev.cxlCache n.val = true →
      placeOf (256 * k.toNat) = .host n.val off → s.dev.celLine k.toNat = some l → took ≤ s.dev.fld BUD_CPL n.val →
      Leaves (.snpdataH2D n k took) s
        ((s.fresh.setCel k.toNat (some { l with host := 1, dirty := 0 })).emit
          (.link (if l.dirty = 0 then "RspSHitSE" else "RspSFwdM") n.val [k.toNat] (if l.dirty = 0 then [] else lineSlice l.data 0 256))))
  -- SnpCur: it stays as it is
  ∧ (∀ (s : State) (n : Unit4) (k : BitVec 40) (took off : Nat) (l : Line), Inv s → s.dev.live = true → s.dev.portUp n.val = true → s.dev.cxlCache n.val = true →
      placeOf (256 * k.toNat) = .host n.val off → s.dev.celLine k.toNat = some l → took ≤ s.dev.fld BUD_CPL n.val →
      Leaves (.snpcurH2D n k took) s
        (s.fresh.emit (.link (if l.dirty = 0 then "RspVHitV" else "RspVFwdV") n.val [k.toNat] (if l.dirty = 0 then [] else lineSlice l.data 0 256))))
  -- a host's snoop of a line that is not its own changes nothing
  ∧ (∀ (s : State) (n : Unit4) (k : BitVec 40) (took : Nat), Inv s → 256 * k.toNat < hbmEnd →
      Leaves (.snpinvH2D n k took) s s.fresh ∧ Leaves (.snpdataH2D n k took) s s.fresh ∧ Leaves (.snpcurH2D n k took) s s.fresh)

/-- Slice `s` has nothing under way for its own walk: no request of its flush walker runs or waits. -/
abbrev Sys2Proof.Machine.Dev.walkerIdle (d : Dev) (s : Nat) : Bool :=
  !(d.cel.queue.any (fun e => homeOf e.1 == s && e.2.rid == sliceUnit s 5)
    || d.cel.trans.any fun e => e.2.any fun t => homeOf e.1 == s && t.req.rid == sliceUnit s 5)

/-- The end of walk `w` of slice `s`: its counts read, BUSY reads 0 and DONE 1, and a class I entry is written (R294, R296). -/
abbrev Sys2Proof.Machine.Dev.walkEnds (d : Dev) (s : Nat) (w : Walk) : Dev :=
  ((((({ d with cel := { d.cel with walk := Sparse.set none d.cel.walk s none } }.setF CEL_WB_SECT w.wrote s).setF CEL_DISC (min w.disc 0xFFFF) s).setF
    CEL_BUSY 0 s).raise CEL_DONE 0 s).logEv 0x4003 .I s [dC w.op, dN w.wrote, dN w.disc])

/-- The flush walker of a slice (R279, R294, R296).
It says where these complete with their own effect: walkFlush, walkFlushInv, walkDiscard, celFlushDone. -/
def Obligations.FlushWalks : Prop :=
  -- a write of CEL_FLUSH_CTL with OP 1, 2 or 3 starts the walk: BUSY reads 1
  (∀ (s : State) (n : Unit16) (p : Path) (v : Word64), Reaches s.dev p (0x4000030 + 0x10000 * n.val) → s.dev.flag CEL_BUSY n.val = false → v.toNat % 4 = 1 →
    Gives (.walkFlush n p v) s
      ((({ s.fresh with cel := { s.dev.cel with walk := Sparse.set none s.dev.cel.walk n.val (some { op := 1, all := v.getLsbD 2, begun := s.dev.coreRoot }) } }).setF
        CEL_BUSY 1 n.val).emit .wrDone))
  ∧ (∀ (s : State) (n : Unit16) (p : Path) (v : Word64), Reaches s.dev p (0x4000030 + 0x10000 * n.val) → s.dev.flag CEL_BUSY n.val = false → v.toNat % 4 = 2 →
      Gives (.walkFlushInv n p v) s
        ((({ s.fresh with cel := { s.dev.cel with walk := Sparse.set none s.dev.cel.walk n.val (some { op := 2, all := v.getLsbD 2, begun := s.dev.coreRoot }) } }).setF
          CEL_BUSY 1 n.val).emit .wrDone))
  ∧ (∀ (s : State) (n : Unit16) (p : Path) (v : Word64), Reaches s.dev p (0x4000030 + 0x10000 * n.val) → s.dev.flag CEL_BUSY n.val = false → v.toNat % 4 = 3 →
      Gives (.walkDiscard n p v) s
        ((({ s.fresh with cel := { s.dev.cel with walk := Sparse.set none s.dev.cel.walk n.val (some { op := 3, all := v.getLsbD 2, begun := s.dev.coreRoot }) } }).setF
          CEL_BUSY 1 n.val).emit .wrDone))
  -- while BUSY = 1 such a write is ignored and reported
  ∧ (∀ (s : State) (n : Unit16) (p : Path) (v : Word64), Reaches s.dev p (0x4000030 + 0x10000 * n.val) → s.dev.flag CEL_BUSY n.val = true →
      Gives (.walkFlush n p v) s ((s.fresh.csrAccess (0x4000030 + 0x10000 * n.val) 8 (pathCode p) 3).emit .wrDone)
      ∧ Gives (.walkFlushInv n p v) s ((s.fresh.csrAccess (0x4000030 + 0x10000 * n.val) 8 (pathCode p) 3).emit .wrDone)
      ∧ Gives (.walkDiscard n p v) s ((s.fresh.csrAccess (0x4000030 + 0x10000 * n.val) 8 (pathCode p) 3).emit .wrDone))
  -- CEL_FLUSH_DONE: the rest of the sets is checked, and the walk ends with its counts
  ∧ (∀ (s : State) (n : Unit16) (w : Walk), s.dev.live = true → Sparse.get none (s.fresh.walkTo n.val 32768).cel.walk n.val = some w →
      (s.fresh.walkTo n.val 32768).walkerIdle n.val = true →
      Gives (.celFlushDone n) s ((s.fresh.walkTo n.val 32768).walkEnds n.val w))
  -- while a line it has asked for still waits, it goes on
  ∧ (∀ (s : State) (n : Unit16) (w : Walk), s.dev.live = true → Sparse.get none (s.fresh.walkTo n.val 32768).cel.walk n.val = some w →
      (s.fresh.walkTo n.val 32768).walkerIdle n.val = false →
      Gives (.celFlushDone n) s (s.fresh.walkTo n.val 32768))
  -- a set it reaches: the lines of it that lie in the range, or all, are worked on; no set is checked twice
  ∧ (∀ (d : Dev) (n k upto : Nat) (w : Walk), Sparse.get none d.cel.walk n = some w → d.walkLines n = [k] → w.set ≤ bits k 4 15 ∧ bits k 4 15 < upto →
      (w.all = true ∨ (d.fld CEL_FLUSH_BASE n ≤ k ∧ k < d.fld CEL_FLUSH_BASE n + d.fld CEL_FLUSH_LEN n)) →
      d.walkTo n upto = ({ d with cel := { d.cel with walk := Sparse.set none d.cel.walk n (some { w with set := upto }) } } : Dev).walkLine n k w.op)
  ∧ (∀ (d : Dev) (n k upto : Nat) (w : Walk), Sparse.get none d.cel.walk n = some w → d.walkLines n = [k] →
      (bits k 4 15 < w.set ∨ upto ≤ bits k 4 15 ∨ (w.all = false ∧ (k < d.fld CEL_FLUSH_BASE n ∨ d.fld CEL_FLUSH_BASE n + d.fld CEL_FLUSH_LEN n ≤ k))) →
      d.walkTo n upto = { d with cel := { d.cel with walk := Sparse.set none d.cel.walk n (some { w with set := max w.set upto }) } })
  -- a line that runs no transaction is flushed, flushed and dropped, or discarded, and the walk counts its dirty sectors or the dropped line
  ∧ (∀ (d : Dev) (n k : Nat), d.lineBusy k = false →
      d.walkLine n k 1 = ((d.walkCount n ((upTo 4).countP fun i => bitAt (d.dirtyMask k) i) 0).flushAny k (sliceUnit n 5)).2
      ∧ d.walkLine n k 2 = ((d.walkCount n ((upTo 4).countP fun i => bitAt (d.dirtyMask k) i) 0).flushInvLine k (sliceUnit n 5)).2
      ∧ d.walkLine n k 3 = (d.discardLine k (sliceUnit n 5)).2.walkCount n 0 (if d.lineDirty k then 1 else 0))
  -- one that runs a transaction is asked for behind it
  ∧ (∀ (d : Dev) (n k : Nat), d.lineBusy k = true →
      d.walkLine n k 1 = d.enqueue k { op := .flush, rid := sliceUnit n 5, tag := 0, seq := d.cel.seqNext }
      ∧ d.walkLine n k 2 = d.enqueue k { op := .flushInv, rid := sliceUnit n 5, tag := 0, seq := d.cel.seqNext }
      ∧ d.walkLine n k 3 = d.enqueue k { op := .discard, rid := sliceUnit n 5, tag := 0, seq := d.cel.seqNext })
  -- no walk, no effect
  ∧ (∀ (s : State) (n : Unit16), Inv s → Sparse.get none s.dev.cel.walk n.val = none → Leaves (.celFlushDone n) s s.fresh)

/-- Slice `s`'s patrol checks the set whose turn it is, and goes on to the next (R295). -/
abbrev Sys2Proof.Machine.Dev.patrolNext (d : Dev) (s : Nat) : Dev :=
  let n := Sparse.get 0 d.cel.patrol s
  let e : Dev := { d with cel := { d.cel with patrol := Sparse.set 0 d.cel.patrol s ((n + 1) % 32768) } }
  if e.sliceScratch s then
    ((upTo 16).map fun i => (0x0100_0000_0000 + s * 0x0800_0000) / 256 + 16 * n + i).foldl (fun (d : Dev) k => d.scratchCheck k 15) e
  else ((e.cel.lines.map (·.1)).filter fun k => homeOf k == s && bits k 4 15 == n).foldl (fun (d : Dev) k => d.lineCheck k 15) e

/-- The patrol of tile `p`'s SRAM goes on in the bank of unit `u` (R273). -/
abbrev Sys2Proof.Machine.Dev.patrolTurn (d : Dev) (p u : Nat) : Dev :=
  let key := 32 * p + u % 32
  { d with cel := { d.cel with sramPatrol := Sparse.set 0 d.cel.sramPatrol key ((Sparse.get 0 d.cel.sramPatrol key + 1) % 1024) } }

/-- Patrol and modes of the Cellar and of tile SRAM (R273, R274, R293, R295).
It says where these complete with their own effect: celPatrol, celModeWrite, cacheQWrite, tilSramPatrol. -/
def Obligations.CellarPatrolAndModes : Prop :=
  -- CEL_PATROL goes round the sets of its slice; a corrected error it is told of counts
  (∀ (s : State) (n : Unit16) (set : Fin 32768), s.dev.live = true →
    Gives (.celPatrol n set .clean) s (s.fresh.patrolNext n.val) ∧ Gives (.celPatrol n set .corrected) s ((s.fresh.inc CEL_CE 1 n.val).patrolNext n.val))
  -- an error that befalls a sector is met there and then, or by whatever reads or checks the sector next
  ∧ (∀ (s : State) (n : Unit16) (set : Fin 32768) (a : DevAddr) (b : Bool), s.dev.live = true →
      Gives (.celPatrol n set (.data a)) s (((s.fresh.celUpset n.val a.toNat true).celCheck n.val a.toNat).patrolNext n.val)
      ∧ Gives (.celPatrol n set (.latent a b)) s ((s.fresh.celUpset n.val a.toNat b).patrolNext n.val))
  ∧ (∀ (d : Dev) (n a : Nat) (l : Line), homeOf (a / 256) = n → d.celLine (a / 256) = some l →
      d.celUpset n a false = d.setCel (a / 256) (some { l with weak := Nat.lor l.weak (2 ^ (a % 256 / 64)) })
      ∧ d.celUpset n a true = d.setCel (a / 256) (some { l with bad := Nat.lor l.bad (2 ^ (a % 256 / 64)) }))
  -- the check of a sector with a single-bit error corrects and counts it
  ∧ (∀ (d : Dev) (k : Nat) (i : Fin 4) (l : Line), d.celLine k = some l → l.weak = 2 ^ i.val → l.bad = 0 →
      d.lineCheck k 15 = (d.inc CEL_CE 1 (homeOf k)).setCel k (some { l with weak := 0, poison := Nat.lor l.poison 0 }))
  -- of a dirty sector that cannot be corrected poisons and counts it, class D
  ∧ (∀ (d : Dev) (k : Nat) (i : Fin 4) (l : Line), d.celLine k = some l → l.weak = 0 → l.bad = 2 ^ i.val → bitAt l.dirty i.val = true →
      d.lineCheck k 15 = ((((d.inc CEL_CE 0 (homeOf k)).inc CEL_UE 1 (homeOf k)).logUE 0x4001 (homeOf k) [dA (256 * k + 64 * i.val), dU 1 i.val, dC 0]).setCel k
        (some { l with weak := 0, bad := 0, poison := Nat.lor l.poison (2 ^ i.val) })))
  -- of a clean one of the device's own memory fetches it anew, and counts that
  ∧ (∀ (d : Dev) (k : Nat) (i : Fin 4) (l : Line), d.celLine k = some l → l.weak = 0 → l.bad = 2 ^ i.val → bitAt l.dirty i.val = false → l.host = 0 →
      d.lineCheck k 15 =
        ((((d.inc CEL_CE 0 (homeOf k)).backRead k (2 ^ i.val)).setCel k
          (some { l with weak := 0, bad := 0,
                         data := mergeSectors (2 ^ i.val) l.data ((d.inc CEL_CE 0 (homeOf k)).backLine k).data,
                         poison := Nat.lor (maskMinus (Nat.lor l.poison 0) (2 ^ i.val)) (Nat.land ((d.inc CEL_CE 0 (homeOf k)).backLine k).poison (2 ^ i.val)) })).inc
            CEL_REFETCH 1 (homeOf k)).repAbort 9 0x4000 (homeOf k))
  -- scratch data is poisoned and counted, class D
  ∧ (∀ (d : Dev) (n a : Nat), homeOf (a / 256) = n → d.celLine (a / 256) = none → d.sliceScratch n = true → hbmEnd ≤ a → NatSet.has d.quiet (a / 8) = false →
      d.celUpset n a true = { d.markBad (a / 8 * 8) 8 true with quiet := Sparse.set false d.quiet (a / 8) false })
  -- a lost tag, directory or filter entry is class S: no line of the set, and no tile's copy of one, stays
  ∧ (∀ (s : State) (n : Unit16) (set : Fin 32768) (x : Fin 3), s.dev.live = true →
      Gives (.celPatrol n set (.entry x)) s
        (((((s.dev.entryLines n.val set.val x.val).foldl Dev.entryLost s.fresh).inc CEL_UE 1 n.val).logEv 0x4002 .S n.val [dO set.val, dC x.val]).patrolNext n.val))
  ∧ (∀ (d : Dev) (k t : Nat), (d.dirOf k = .ex t ∨ d.dirOf k = .sh [t]) → d.wbOf t k = none → d.mem = [] →
      (d.entryLost k).celLine k = none ∧ (d.entryLost k).dirOf k = .none ∧ (d.entryLost k).lineLost k = true ∧ (d.entryLost k).tcLine t k = none)
  -- CEL_MODE_WRITE before stage B ends: a slice that enters scratch mode is emptied and zeroed, one that leaves it starts empty
  ∧ (∀ (s : State) (n : Unit16) (p : Path) (v : Word64), Reaches s.dev p (0x4000000 + 0x10000 * n.val) → s.dev.load.bDone = false → v.getLsbD 0 = true →
      s.dev.flag CEL_MODE n.val = false → NatSet.has s.dev.cel.kept n.val = false →
      Gives (.celModeWrite n p v) s
        (let d := (((s.fresh.setF CEL_HOST_EN (bits v.toNat 1 1) n.val).sliceEmpty n.val).zeroScratch n.val).setF CEL_MODE 1 n.val
         Dev.emit { d with cel := { d.cel with kept := Sparse.set false d.cel.kept n.val false } } .wrDone))
  ∧ (∀ (s : State) (n : Unit16) (p : Path) (v : Word64), Reaches s.dev p (0x4000000 + 0x10000 * n.val) → s.dev.load.bDone = false → v.getLsbD 0 = false →
      s.dev.flag CEL_MODE n.val = true →
      Gives (.celModeWrite n p v) s
        (((((s.fresh.setF CEL_HOST_EN (bits v.toNat 1 1) n.val).sliceEmpty n.val).zeroScratch n.val).setF CEL_MODE 0 n.val).emit .wrDone))
  -- after it the field is locked
  ∧ (∀ (s : State) (n : Unit16) (p : Path) (v : Word64), Inv s → Reaches s.dev p (0x4000000 + 0x10000 * n.val) → s.dev.load.bDone = true →
      Leaves (.celModeWrite n p v) s (s.fresh.emit .wrDone))
  -- CACHE_Q_WRITE sets every tile's portion; it too is locked after stage B
  ∧ (∀ (s : State) (t : PTile) (p : Path) (v : Word64), Inv s → Reaches s.dev p (0x1000100 + 0x10000 * t.val) → s.dev.load.bDone = false → s.dev.cel.tc = [] →
      Leaves (.cacheQWrite t p v) s ((s.fresh.setF TIL_CACHE_Q (v.toNat % 8) 0).emit .wrDone))
  ∧ (∀ (s : State) (t : PTile) (p : Path) (v : Word64), Inv s → Reaches s.dev p (0x1000100 + 0x10000 * t.val) → s.dev.load.bDone = true →
      Leaves (.cacheQWrite t p v) s (s.fresh.emit .wrDone))
  -- a slice that a RELOAD left in scratch mode keeps its contents when MODE is written 1 again
  ∧ (∀ (s : State) (n : Unit16) (p : Path) (v : Word64), Reaches s.dev p (0x4000000 + 0x10000 * n.val) → s.dev.load.bDone = false → v.getLsbD 0 = true →
      s.dev.flag CEL_MODE n.val = false → NatSet.has s.dev.cel.kept n.val = true →
      Gives (.celModeWrite n p v) s
        (let d := ((s.fresh.setF CEL_HOST_EN (bits v.toNat 1 1) n.val).sliceEmpty n.val).setF CEL_MODE 1 n.val
         Dev.emit { d with cel := { d.cel with kept := Sparse.set false d.cel.kept n.val false } } .wrDone))
  -- TIL_SRAM_PATROL: what has befallen unit `u` befalls its first word; then the unit of that bank whose turn it is is read through port 6
  ∧ (∀ (s : State) (t : PTile) (u : Fin 32768) (e : Upset), s.dev.live = true → s.dev.ltile t.val < 64 →
      Gives (.tilSramPatrol t u e) s
        (((s.fresh.patrolTurn t.val u.val).sramUpset (s.dev.ltile t.val) u.val e).sramRead
          (s.dev.ltile t.val) (64 * (32 * Sparse.get 0 s.dev.cel.sramPatrol (32 * t.val + u.val % 32) + u.val % 32)) 64 6).2.2)
  -- the errors of the spare, which holds no tile's data, are counted and logged as they are found
  ∧ (∀ (s : State) (t : PTile) (u : Fin 32768), s.dev.live = true → 64 ≤ s.dev.ltile t.val →
      Gives (.tilSramPatrol t u .single) s
        (Dev.inc (s.fresh.patrolTurn t.val u.val) TIL_SRAM_CE 1 t.val)
      ∧ Gives (.tilSramPatrol t u .double) s
        ((Dev.inc (s.fresh.patrolTurn t.val u.val) TIL_SRAM_UE 1 t.val).logUE 0x1001 t.val [dO (64 * u.val), dU 1 6]))

/-- A request as controller `h` takes it into a queue: when it arrived, in ticks and NCLKs, and its place in the acceptance order (R305); one
that no flit brought carries no tag. -/
abbrev Sys2Proof.Machine.Dev.hbmNew (d : Dev) (h L n : Nat) (write full : Bool) (cls dline rid : Nat) : HReq :=
  { write := write, L := L, len := n, cls := cls, dline := dline, rid := rid, at_ := d.clk.tick, nclk := d.nclk, seq := (d.hbmOf h).seqNext, full := full }

/-- A request of `n` bytes at `L` stays within the controller's 6 GiB and within one line (R299, R304). -/
abbrev Sys2Proof.Machine.hbmFits (L n : Nat) : Prop := n ≠ 0 ∧ L + n ≤ hbmSize ∧ L % 256 + n ≤ 256

/-- Controller `h` as a command opportunity finds it: a new window of 64 takes the settings written by then (R306, R448). -/
abbrev Sys2Proof.Machine.Dev.hbmTurn (d : Dev) (h : Nat) : Dev :=
  d.setHbm h { d.hbmOf h with win := if (d.hbmOf h).win.n = 0 then { (d.hbmOf h).win with arb := d.hbmArb h } else (d.hbmOf h).win }

/-- Requests, commands and refreshes of an HBM controller (R304 to R308, R311, R313, R314).
It says where these complete with their own effect: hbmRequest, hbmSchedule, hbmReadReturn, hbmRefresh, pageTimeout. -/
def Obligations.HbmQueues : Prop :=
  -- HBM_REQUEST, a write with room in the queue: stored and complete at acceptance, its bursts marked where its data is poisoned
  (∀ (s : State) (h : Unit16) (L : BitVec 33) (w : WrBytes) (p : Bool) (cls : Fin 3) (dl : BitVec 16) (rid : BitVec 11), s.dev.hbmOk h.val = true →
    hbmFits L.toNat w.length → (s.dev.hbmOf h.val).wrq.length < 64 →
    Gives (.hbmRequest h L 0 (some w) p cls dl rid) s
      (let a := s.dev.addrOfHbm h.val L.toNat
       let e := (s.fresh.setHbm h.val { s.dev.hbmOf h.val with
          wrq := (s.dev.hbmOf h.val).wrq ++ [s.dev.hbmNew h.val L.toNat w.length true (w.all (·.isSome)) cls.val dl.toNat rid.toNat],
          seqNext := (s.dev.hbmOf h.val).seqNext + 1 }).rawWrite a w
       (if p then e.markBad (a / 32 * 32) (32 * ((a + w.length + 31) / 32 - a / 32)) true else e).emit (.link "HBM.answer" h.val [rid.toNat, 0] [])))
  -- a read that queued writes do not cover waits in the read queue, with what memory holds at its place in the acceptance order
  ∧ (∀ (s : State) (h : Unit16) (L : BitVec 33) (n : Fin 257) (p : Bool) (cls : Fin 3) (dl : BitVec 16) (rid : BitVec 11), s.dev.hbmOk h.val = true →
      hbmFits L.toNat n.val → ((s.dev.hbmOf h.val).wrq.any fun w => w.full && decide (w.L ≤ L.toNat) && decide (L.toNat < w.L + w.len)) = false →
      (s.dev.hbmOf h.val).rdq.length < 128 →
      Gives (.hbmRequest h L n none p cls dl rid) s
        (s.fresh.setHbm h.val { s.dev.hbmOf h.val with
          rdq := (s.dev.hbmOf h.val).rdq ++ [{ s.dev.hbmNew h.val L.toNat n.val false true cls.val dl.toNat rid.toNat with
            data := s.dev.hbmRead h.val L.toNat n.val, bad := s.dev.hbmBadBursts h.val L.toNat n.val }],
          seqNext := (s.dev.hbmOf h.val).seqNext + 1 }))
  -- one that a queued write covers wholly is answered from the write queue
  ∧ (∀ (s : State) (h : Unit16) (L : BitVec 33) (n : Fin 257) (p : Bool) (q : HReq) (cls : Fin 3) (dl : BitVec 16) (rid : BitVec 11), s.dev.hbmOk h.val = true →
      hbmFits L.toNat n.val → (s.dev.hbmOf h.val).wrq = [q] → q.full = true ∧ q.L ≤ L.toNat ∧ L.toNat + n.val ≤ q.L + q.len →
      Gives (.hbmRequest h L n none p cls dl rid) s
        (s.fresh.emit (.link "HBM.answer" h.val [rid.toNat, if s.dev.hbmBadBursts h.val L.toNat n.val = 0 then 0 else 6] (s.dev.hbmRead h.val L.toNat n.val))))
  -- a full queue takes nothing
  ∧ (∀ (s : State) (h : Unit16) (L : BitVec 33) (w : WrBytes) (p : Bool) (cls : Fin 3) (dl : BitVec 16) (rid : BitVec 11), Inv s → s.dev.hbmOk h.val = true →
      64 ≤ (s.dev.hbmOf h.val).wrq.length → Leaves (.hbmRequest h L 0 (some w) p cls dl rid) s s.fresh)
  -- a controller out of service answers DIE_DOWN with its entry
  ∧ (∀ (s : State) (h : Unit16) (L : BitVec 33) (n : Fin 257) (p : Bool) (cls : Fin 3) (dl : BitVec 16) (rid : BitVec 11), s.dev.live = true → s.dev.hbmOk h.val = false →
      hbmFits L.toNat n.val →
      Gives (.hbmRequest h L n none p cls dl rid) s ((s.fresh.logDieDown h.val).emit (.link "HBM.answer" h.val [rid.toNat, 10] [])))
  -- HBM_SCHEDULE, one request ready that has waited past AGE_MAX: its command goes out, whatever the mode
  ∧ (∀ (s : State) (h : Unit16) (pc : Fin 8) (r : BitVec 192) (q : HReq), s.dev.hbmOk h.val = true → (s.dev.hbmOf h.val).rdq = [q] → (s.dev.hbmOf h.val).wrq = [] →
      hbmPc q.L = pc.val → r.getLsbD 0 = true → 4 * s.dev.ageMax h.val < 5 * (s.dev.clk.tick - q.at_) →
      Gives (.hbmSchedule h pc r) s ((s.fresh.hbmTurn h.val).hbmIssue h.val q))
  -- one that has not: the mode decides, and STRICT may keep its opportunity idle
  ∧ (∀ (s : State) (h : Unit16) (pc : Fin 8) (r : BitVec 192) (q : HReq), s.dev.hbmOk h.val = true → (s.dev.hbmOf h.val).rdq = [q] → (s.dev.hbmOf h.val).wrq = [] →
      hbmPc q.L = pc.val → r.getLsbD 0 = true → 5 * (s.dev.clk.tick - q.at_) ≤ 4 * s.dev.ageMax h.val → q.cls < 3 →
      Gives (.hbmSchedule h pc r) s
        (let e := s.fresh.hbmTurn h.val
         match (e.hbmOf h.val).win.classes fun k => q.cls == k with
         | some _ => e.hbmIssue h.val q
         | none => e.setHbm h.val { e.hbmOf h.val with win := (e.hbmOf h.val).win.granted none }))
  -- in SPLIT mode the opportunities of a window belong to read, write, remote in turn; a class with nothing ready leaves its own to the next in
  -- that order, or, with STRICT, idle
  ∧ (∀ (w : ArbWin) (c : Nat), bits w.arb 0 2 = 1 → c < 3 →
      w.classes (fun k => c == k) =
        (let own := if w.n < bits w.arb 32 7 then 0 else if w.n < bits w.arb 32 7 + bits w.arb 40 7 then 1 else 2
         if own = c then some [c] else if bitAt w.arb 56 then none else some [c]))
  -- in DEADLINE mode a class below its floor goes first, in the order read, write, remote; with none such the smallest slack decides over all
  ∧ (∀ (w : ArbWin), bits w.arb 0 2 ≠ 1 →
      w.classes (fun _ => true) =
        (if w.per.getD 0 0 < bits w.arb 8 7 then some [0] else if w.per.getD 1 0 < bits w.arb 16 7 then some [1]
         else if w.per.getD 2 0 < bits w.arb 24 7 then some [2] else some [0, 1, 2]))
  -- a request that has waited past AGE_MAX goes before every younger one
  ∧ (∀ (s : State) (h : Unit16) (pc : Fin 8) (r : BitVec 192) (p q : HReq), s.dev.hbmOk h.val = true → (s.dev.hbmOf h.val).rdq = [p, q] ∧ (s.dev.hbmOf h.val).wrq = [] →
      hbmPc p.L = pc.val ∧ hbmPc q.L = pc.val → p.seq < q.seq → overlap32 p.L p.len q.L q.len = false → r.getLsbD 0 = true ∧ r.getLsbD 1 = true →
      5 * (s.dev.clk.tick - p.at_) ≤ 4 * s.dev.ageMax h.val ∧ 4 * s.dev.ageMax h.val < 5 * (s.dev.clk.tick - q.at_) →
      Gives (.hbmSchedule h pc r) s ((s.fresh.hbmTurn h.val).hbmIssue h.val q))
  -- of two that overlap, the earlier accepted goes first
  ∧ (∀ (s : State) (h : Unit16) (pc : Fin 8) (r : BitVec 192) (p q : HReq), s.dev.hbmOk h.val = true → (s.dev.hbmOf h.val).rdq = [p, q] ∧ (s.dev.hbmOf h.val).wrq = [] →
      hbmPc p.L = pc.val → p.seq < q.seq → overlap32 p.L p.len q.L q.len = true → r.getLsbD 0 = true → 4 * s.dev.ageMax h.val < 5 * (s.dev.clk.tick - p.at_) →
      Gives (.hbmSchedule h pc r) s ((s.fresh.hbmTurn h.val).hbmIssue h.val p))
  -- nothing ready: nothing issues
  ∧ (∀ (s : State) (h : Unit16) (pc : Fin 8) (r : BitVec 192), s.dev.hbmOk h.val = true → (s.dev.hbmOf h.val).rdq = [] → (s.dev.hbmOf h.val).wrq = [] →
      Gives (.hbmSchedule h pc r) s (s.fresh.hbmTurn h.val))
  -- the command names channel, pseudo-channel, bank, row and line of the request
  ∧ (∀ (d : Dev) (h : Fin 16) (L : Nat) (q : HReq), q.L = L →
      (d.hbmCommand h.val q).out = d.out ++ [.link "HBM.cmd" h.val
        ([4 * (h.val % 4) + L / 256 % 8 / 2, L / 256 % 8 % 2, 16 * (L / 2 ^ 31) + 4 * Nat.xor (bits L 13 2) (bits L 17 2) + bits L 15 2, bits L 17 14, bits L 11 2]
          ++ [if q.write then 1 else 0, L]) []])
  -- HBM_READ_RETURN: the oldest read issued answers, with what its place in the order holds; POISON where a burst of it is bad
  ∧ (∀ (s : State) (h : Unit16) (q : HReq) (r : List HReq), s.dev.hbmOk h.val = true → (s.dev.hbmOf h.val).flying = q :: r →
      Gives (.hbmReadReturn h .clean) s
        (((s.fresh.setHbm h.val { s.dev.hbmOf h.val with flying := r }).inc HBM_POISON_RD q.bad h.val).hbmAnswer h.val q.rid q.tag (if q.bad = 0 then 0 else 6) q.data)
      ∧ Gives (.hbmReadReturn h .stackCorrected) s
        ((((s.fresh.setHbm h.val { s.dev.hbmOf h.val with flying := r }).inc HBM_POISON_RD q.bad h.val).inc HBM_STACK_CE 1 h.val).hbmAnswer h.val q.rid q.tag
          (if q.bad = 0 then 0 else 6) q.data)
      ∧ Gives (.hbmReadReturn h .single) s
        (((((s.fresh.setHbm h.val { s.dev.hbmOf h.val with flying := r }).inc HBM_POISON_RD q.bad h.val).inc HBM_CE 1 h.val).emit
          (.link "HBM.fix" h.val (hbmPlace h.val q.L) [])).hbmAnswer h.val q.rid q.tag (if q.bad = 0 then 0 else 6) q.data))
  -- an error the checks cannot correct: POISON, counted and logged with its kind
  ∧ (∀ (s : State) (h : Unit16) (q : HReq) (r : List HReq), s.dev.hbmOk h.val = true → (s.dev.hbmOf h.val).flying = q :: r →
      Gives (.hbmReadReturn h .double) s
        ((((s.fresh.setHbm h.val { s.dev.hbmOf h.val with flying := r }).inc HBM_POISON_RD q.bad h.val).hbmUe h.val q.L 1 false).hbmAnswer h.val q.rid q.tag 6 q.data)
      ∧ Gives (.hbmReadReturn h .hash) s
        ((((s.fresh.setHbm h.val { s.dev.hbmOf h.val with flying := r }).inc HBM_POISON_RD q.bad h.val).hbmUe h.val q.L 2 false).hbmAnswer h.val q.rid q.tag 6 q.data)
      ∧ Gives (.hbmReadReturn h .stack) s
        ((((s.fresh.setHbm h.val { s.dev.hbmOf h.val with flying := r }).inc HBM_POISON_RD q.bad h.val).hbmUe h.val q.L 3 false).hbmAnswer h.val q.rid q.tag 6 q.data))
  -- the answer of a request that came as a flit goes back as flits
  ∧ (∀ (d : Dev) (h rid tag st : Nat) (bs : List Byte), tag < 2048 → d.hbmAnswer h rid tag st bs = d.emit (.resp rid tag st bs))
  -- PAGE_TIMEOUT closes the row of a bank idle for PAGE_TO ns where rows stay open, and no other
  ∧ (∀ (s : State) (h : Unit16) (pc : Fin 8) (b : Fin 48), s.dev.hbmOk h.val = true → s.dev.hbmClosed h.val = false →
      4 * s.dev.fld HBM_PAGE_TO h.val ≤ 5 * (s.dev.clk.tick - Sparse.get 0 (s.dev.hbmOf h.val).used (48 * pc.val + b.val)) →
      Gives (.pageTimeout h pc b) s
        (s.fresh.setHbm h.val { s.dev.hbmOf h.val with rows := Sparse.set 0 (s.dev.hbmOf h.val).rows (48 * pc.val + b.val) 0 }))
  ∧ (∀ (s : State) (h : Unit16) (pc : Fin 8) (b : Fin 48), Inv s →
      (s.dev.hbmClosed h.val = true ∨ 5 * (s.dev.clk.tick - Sparse.get 0 (s.dev.hbmOf h.val).used (48 * pc.val + b.val)) < 4 * s.dev.fld HBM_PAGE_TO h.val) →
      Leaves (.pageTimeout h pc b) s s.fresh)
  -- HBM_REFRESH: issued with every one postponed before it
  ∧ (∀ (s : State) (h : Unit16) (pc : Fin 8), Inv s → s.dev.hbmOk h.val = true →
      Leaves (.hbmRefresh h pc false) s
        ((s.fresh.setHbm h.val { s.dev.hbmOf h.val with post := Sparse.set 0 (s.dev.hbmOf h.val).post pc.val 0 }).emit
          (.link "HBM.refresh" h.val [pc.val, Sparse.get 0 (s.dev.hbmOf h.val).post pc.val + 1] [])))
  -- no fifth one in a row is postponed, and none in a run
  ∧ (∀ (s : State) (h : Unit16) (pc : Fin 8), Inv s → s.dev.hbmOk h.val = true → (s.dev.running = true ∨ 4 ≤ Sparse.get 0 (s.dev.hbmOf h.val).post pc.val) →
      Leaves (.hbmRefresh h pc true) s
        ((s.fresh.setHbm h.val { s.dev.hbmOf h.val with post := Sparse.set 0 (s.dev.hbmOf h.val).post pc.val 0 }).emit
          (.link "HBM.refresh" h.val [pc.val, Sparse.get 0 (s.dev.hbmOf h.val).post pc.val + 1] [])))
  -- one is postponed while a request of the current bucket waits
  ∧ (∀ (s : State) (h : Unit16) (pc : Fin 8) (q : HReq), Inv s → s.dev.hbmOk h.val = true → s.dev.running = false → Sparse.get 0 (s.dev.hbmOf h.val).post pc.val < 4 →
      (s.dev.hbmOf h.val).rdq = [q] → hbmPc q.L = pc.val → s.dev.slack q.dline = 0 →
      Leaves (.hbmRefresh h pc true) s
        (s.fresh.setHbm h.val { s.dev.hbmOf h.val with post := Sparse.set 0 (s.dev.hbmOf h.val).post pc.val (Sparse.get 0 (s.dev.hbmOf h.val).post pc.val + 1) }))

/-- Commands of channel `c` that its retry buffer still holds: those that issued within 20 ns (R316). -/
abbrev Sys2Proof.Machine.Dev.retryDue (d : Dev) (h c : Nat) : List (Nat × HReq) :=
  (d.hbmOf h).retry.filter fun e => onChan c e && decide (d.clk.tick ≤ e.1 + 16)

/-- Training, checks, temperature, faults and retraining of HBM (R300, R302, R309, R312, R315 to R318, R320, R448).
It says where these complete with their own effect: hbmTrainDone, hbmPatrol, hbmTempRead, caParityAlert, retrain, hbmRetrain,
hbmArbCfgWrite, celArbCfgWrite. -/
def Obligations.HbmHealth : Prop :=
  -- HBM_TRAIN_DONE, well: the 6 GiB are zeroed, the spares shown, the controller in service; UART 06 after the last of the 16
  (∀ (s : State) (h : Unit16) (dq : BitVec 16) (ca : BitVec 4), s.dev.live = true → (s.dev.hbmOf h.val).trained = false →
    Gives (.hbmTrainDone h none dq ca) s
      (((((((s.fresh.setHbm h.val { s.dev.hbmOf h.val with trained := true }).hbmZero h.val).setF HBM_DQ_SPARES dq.toNat h.val).setF HBM_CA_SPARES ca.toNat h.val).setF HBM_FAULT 0 h.val).setHbmOk
        h.val true).hbmAllTrained))
  -- a failure at any step: out of service, a class F entry with step, channel and failing lanes
  ∧ (∀ (s : State) (h : Unit16) (st : Fin 6) (c : BitVec 8) (n : BitVec 32) (dq : BitVec 16) (ca : BitVec 4), s.dev.live = true → (s.dev.hbmOf h.val).trained = false →
      Gives (.hbmTrainDone h (some (st, c, n)) dq ca) s
        ((((s.fresh.setHbm h.val { s.dev.hbmOf h.val with trained := true }).setHbmOk h.val false).logF 0x5003 h.val
          [dC st.val, dU 1 c.toNat, dN (if c = 0xFF then 0 else n.toNat)]).hbmAllTrained))
  -- it happens once after POR or SYS
  ∧ (∀ (s : State) (h : Unit16) (f : Option (Fin 6 × BitVec 8 × BitVec 32)) (dq : BitVec 16) (ca : BitVec 4), Inv s → (s.dev.hbmOf h.val).trained = true →
      Leaves (.hbmTrainDone h f dq ca) s s.fresh)
  -- HBM_PATROL: the next line of 256 bytes is read and judged; a pass ends at 6 GiB
  ∧ (∀ (s : State) (h : Unit16) (f : HbmFinding), s.dev.hbmOk h.val = true → s.dev.fld HBM_SCRUB_PERIOD h.val ≠ 0 →
      256 * ((s.dev.hbmOf h.val).patrol + 1) ≠ hbmSize →
      Gives (.hbmPatrol h f) s
        (let e := (s.fresh.hbmJudge h.val (256 * (s.dev.hbmOf h.val).patrol) (s.dev.hbmBadBursts h.val (256 * (s.dev.hbmOf h.val).patrol) 256) f true).2
         e.setHbm h.val { e.hbmOf h.val with patrol := (s.dev.hbmOf h.val).patrol + 1 }))
  ∧ (∀ (s : State) (h : Unit16) (f : HbmFinding), s.dev.hbmOk h.val = true → s.dev.fld HBM_SCRUB_PERIOD h.val ≠ 0 →
      256 * ((s.dev.hbmOf h.val).patrol + 1) = hbmSize →
      Gives (.hbmPatrol h f) s
        (let e := (s.fresh.hbmJudge h.val (256 * (s.dev.hbmOf h.val).patrol) (s.dev.hbmBadBursts h.val (256 * (s.dev.hbmOf h.val).patrol) 256) f true).2
         (e.setHbm h.val { e.hbmOf h.val with patrol := 0 }).inc HBM_PASSES 1 h.val))
  -- an error it finds is judged as a read's, and its entry says that the patrol found it
  ∧ (∀ (d : Dev) (h L bad : Nat),
      (d.hbmJudge h L bad .single true).2 = ((d.inc HBM_POISON_RD bad h).inc HBM_CE 1 h).emit (.link "HBM.fix" h (hbmPlace h L) [])
      ∧ (d.hbmJudge h L bad .double true).2 = ((d.inc HBM_POISON_RD bad h).inc HBM_UE 1 h).logUE 0x5001 h [dA L, dU 1 (hbmPc L), dC 1, dC 1])
  -- HBM_TEMP_READ: the rate the temperature asks for, with 3 °C of hysteresis
  ∧ (∀ (s : State) (h : Unit16) (t : BitVec 8), Inv s → s.dev.hbmOk h.val = true → t.toInt < 105 → (s.dev.hbmOf (4 * (h.val / 4))).hot = false →
      Ends (.hbmTempRead h t) s fun d => d.fld HBM_TEMP h.val = t.toNat ∧ d.flag HBM_TEMP_VALID h.val = true ∧ d.mem = s.dev.mem
        ∧ (d.hbmOf h.val).tempRate = (if 95 ≤ t.toInt then 2 else if 92 < t.toInt ∧ (s.dev.hbmOf h.val).tempRate = 2 then 2 else if 85 ≤ t.toInt then 1
            else if 82 < t.toInt ∧ 1 ≤ (s.dev.hbmOf h.val).tempRate then 1 else 0)
        ∧ (s.dev.flag HBM_TEMP_VALID h.val = false → d.fld HBM_TEMP_MAX h.val = t.toNat))
  -- 105 °C: a class S entry, once until the stack has cooled to 102 °C
  ∧ (∀ (s : State) (h : Unit16) (t : BitVec 8), Inv s → s.dev.hbmOk h.val = true → 105 ≤ t.toInt → (s.dev.hbmOf (4 * (h.val / 4))).hot = false →
      Ends (.hbmTempRead h t) s fun d => (d.hbmOf (4 * (h.val / 4))).hot = true ∧ d.flag SAF_S_PENDING = true ∧ d.mem = s.dev.mem)
  -- CA_PARITY_ALERT: the banks of the channel are precharged, what stands in its retry buffer is reissued, oldest first, and the replay counts
  ∧ (∀ (s : State) (h : Unit16) (c : Fin 4) (x : BitVec 8) (a : Bool), s.dev.hbmOk h.val = true →
      (a = true → Sparse.get 0 (s.dev.hbmOf h.val).replays c.val < 3) →
      Gives (.caParityAlert h c x a) s
        (((((s.dev.retryDue h.val c.val).foldl (fun (d : Dev) e => (d.hbmRowAfter h.val e.2).hbmCommand h.val e.2)
          (s.fresh.setHbm h.val { s.dev.hbmOf h.val with
            replays := Sparse.set 0 (s.dev.hbmOf h.val).replays c.val (if a then Sparse.get 0 (s.dev.hbmOf h.val).replays c.val + 1 else 1),
            rows := (s.dev.hbmOf h.val).rows.filter fun e => e.1 / 96 != c.val,
            retry := (s.dev.hbmOf h.val).retry.map fun e => if (s.dev.retryDue h.val c.val).contains e then (s.dev.clk.tick, e.2) else e })).inc
              HBM_REPLAY 1 h.val).repAbort 6 0x5002 h.val)))
  -- the command that fails on three replays in a row faults the controller: every queued request answers POISON, class F
  ∧ (∀ (s : State) (h : Unit16) (c : Fin 4) (x : BitVec 8), s.dev.hbmOk h.val = true → 3 ≤ Sparse.get 0 (s.dev.hbmOf h.val).replays c.val →
      Gives (.caParityAlert h c x true) s
        ((((s.fresh.hbmDrop h.val).2.setHbmOk h.val false).setF HBM_FAULT 1 h.val).logF 0x5002 h.val
          [dU 1 (4 * (h.val % 4) + c.val), dC x.toNat, dN ((s.dev.hbmOf h.val).rdq.length + (s.dev.hbmOf h.val).wrq.length + (s.dev.hbmOf h.val).flying.length)]))
  -- RETRAIN with the key: everything dirty goes home, the controller is out of service
  ∧ (∀ (s : State) (h : Unit16) (p : Path) (v : Word64), Reaches s.dev p (0x5000030 + 0x10000 * h.val) → bits v.toNat 48 16 = 0x5B7D → v.getLsbD 0 = true →
      (s.dev.hbmOf h.val).retrain = false →
      Gives (.retrain h p v) s ((s.fresh.hbmRetrainOn h.val).emit .wrDone))
  -- with a wrong key, or while a retrain runs, it is refused
  ∧ (∀ (s : State) (h : Unit16) (p : Path) (v : Word64), Reaches s.dev p (0x5000030 + 0x10000 * h.val) → bits v.toNat 48 16 ≠ 0x5B7D →
      Gives (.retrain h p v) s ((s.fresh.csrAccess (0x5000030 + 0x10000 * h.val) 8 (pathCode p) 2).emit .wrDone))
  ∧ (∀ (s : State) (h : Unit16) (p : Path) (v : Word64), Reaches s.dev p (0x5000030 + 0x10000 * h.val) → bits v.toNat 48 16 = 0x5B7D → v.getLsbD 0 = true →
      (s.dev.hbmOf h.val).retrain = true →
      Gives (.retrain h p v) s ((s.fresh.csrAccess (0x5000030 + 0x10000 * h.val) 8 (pathCode p) 3).emit .wrDone))
  -- HBM_RETRAIN: the result, in a class I entry
  ∧ (∀ (s : State) (h : Unit16) (dq : BitVec 16) (ca : BitVec 4), s.dev.live = true → (s.dev.hbmOf h.val).retrain = true →
      Gives (.hbmRetrain h none dq ca) s
        (((s.fresh.setHbm h.val { s.dev.hbmOf h.val with retrain := false }).hbmUp h.val dq.toNat ca.toNat).logEv 0x5005 .I h.val [dC 0, dN (dq.toNat + ca.toNat * 2 ^ 16)]))
  ∧ (∀ (s : State) (h : Unit16), Inv s → (s.dev.hbmOf h.val).retrain = false → Leaves (.hbmRetrain h none 0 0) s s.fresh)
  -- HBM_ARB_CFG and CEL_ARB_CFG: a write whose floors exceed 64 or whose shares are not 64 is kept out, with an entry
  ∧ (∀ (s : State) (h : Unit16) (p : Path) (v : Word64), Reaches s.dev p (0x5000008 + 0x10000 * h.val) → arbOk v.toNat = false →
      Gives (.hbmArbCfgWrite h p v) s ((s.fresh.csrAccess (0x5000008 + 0x10000 * h.val) 8 (pathCode p) 4).emit .wrDone))
  ∧ (∀ (s : State) (h : Unit16) (p : Path) (v : Word64), Inv s → Reaches s.dev p (0x5000008 + 0x10000 * h.val) → arbOk v.toNat = true →
      Ends (.hbmArbCfgWrite h p v) s fun d => d.fld HBM_ARB_MODE h.val = (if v.toNat % 4 < 2 then v.toNat % 4 else s.dev.fld HBM_ARB_MODE h.val) ∧ d.fld HBM_STRICT h.val = bits v.toNat 56 1 ∧ d.fld HBM_FLOOR_RD h.val = bits v.toNat 8 7 ∧ d.fld HBM_FLOOR_WR h.val = bits v.toNat 16 7
        ∧ d.fld HBM_FLOOR_RM h.val = bits v.toNat 24 7 ∧ d.fld HBM_SPLIT_RD h.val = bits v.toNat 32 7 ∧ d.fld HBM_SPLIT_WR h.val = bits v.toNat 40 7
        ∧ d.fld HBM_SPLIT_RM h.val = bits v.toNat 48 7 ∧ d.mem = s.dev.mem ∧ d.hbm = s.dev.hbm)
  ∧ (∀ (s : State) (n : Unit16) (p : Path) (v : Word64), Reaches s.dev p (0x4000050 + 0x10000 * n.val) → arbOk v.toNat = false →
      Gives (.celArbCfgWrite n p v) s ((s.fresh.csrAccess (0x4000050 + 0x10000 * n.val) 8 (pathCode p) 4).emit .wrDone))
  ∧ (∀ (s : State) (n : Unit16) (p : Path) (v : Word64), Inv s → Reaches s.dev p (0x4000050 + 0x10000 * n.val) → arbOk v.toNat = true →
      Ends (.celArbCfgWrite n p v) s fun d => d.fld CEL_ARB_MODE n.val = (if v.toNat % 4 < 2 then v.toNat % 4 else s.dev.fld CEL_ARB_MODE n.val) ∧ d.fld CEL_STRICT n.val = bits v.toNat 56 1 ∧ d.fld CEL_FLOOR_RD n.val = bits v.toNat 8 7 ∧ d.fld CEL_FLOOR_WR n.val = bits v.toNat 16 7
        ∧ d.fld CEL_FLOOR_RM n.val = bits v.toNat 24 7 ∧ d.fld CEL_SPLIT_RD n.val = bits v.toNat 32 7 ∧ d.fld CEL_SPLIT_WR n.val = bits v.toNat 40 7
        ∧ d.fld CEL_SPLIT_RM n.val = bits v.toNat 48 7 ∧ d.mem = s.dev.mem)

/-- Held column `n` of gill `g` as the shadow bank of tile `t` holds it. -/
def Sys2Proof.Machine.Dev.heldColumn (d : Dev) (t : Nat) (x : Step) (p : GillProg) (n : Nat) : List Nat :=
  (upTo (gillShape x.config x.cls).1).map fun k =>
    ((Sparse.get ([], 0) (d.tileOf t).shadow p.gill).1).getD (k * (gillShape x.config x.cls).2 + n) 0

/-- The first streaming row of a gill as tile SRAM holds it. -/
def Sys2Proof.Machine.Dev.streamRow (d : Dev) (t : Nat) (x : Step) (p : GillProg) : List Nat :=
  rowRaw x.fStream (gillShape x.config x.cls).1 (d.rawRead (tileAddr t p.stream) (elemBytes x.fStream (gillShape x.config x.cls).1))

/-- The word a step accumulates on, where its mode says so. -/
def Sys2Proof.Machine.Dev.accOld (d : Dev) (t : Nat) (x : Step) (k : Nat) : Option Nat :=
  if x.mode = 1 then some (Sparse.get 0 (d.tileOf t).acc k) else none

/-- Tile `t` runs a LAYER whose next step is `x`, loaded, of one gill `p` and one row. -/
abbrev Sys2Proof.Machine.OneRowStep (d : Dev) (t : Nat) (l : LayerRun) (x : Step) (p : GillProg) : Prop :=
  d.live = true ∧ d.tileMoves t = false ∧ (d.tileOf t).layer = some l ∧ l.steps[l.idx]? = some x ∧ (d.tileOf t).shadowFull = true
    ∧ (l.sendsDue && l.drainRows == 0 && l.idx + 1 == l.steps.length) = false ∧ x.gills = [p] ∧ p.rows = 1

/-- A step of the matrix array (R325, R329, R333, R334).
It says where these complete with their own effect: arrayStepStart. -/
def Obligations.ArraySteps : Prop :=
  -- the banks swap and the LAYER goes on; without a drain its last step ends its part
  (∀ (s : State) (t : LTile) (l : LayerRun) (x : Step) (p : GillProg), Inv s → OneRowStep s.dev t.val l x p →
    Ends (.arrayStepStart t none) s fun d => (d.tileOf t.val).active = (s.dev.tileOf t.val).shadow ∧ (d.tileOf t.val).shadow = [] ∧ (d.tileOf t.val).shadowFull = false
      ∧ (d.tileOf t.val).layer = (if l.steps.length ≤ l.idx + 1 ∧ l.drainRows = 0 then none else some { l with idx := l.idx + 1 }) ∧ d.mem = s.dev.mem)
  -- INT8 and INT4: the exact sum, added where the mode accumulates, wrapped or saturated
  ∧ (∀ (s : State) (t : LTile) (l : LayerRun) (x : Step) (p : GillProg), Inv s → OneRowStep s.dev t.val l x p → (x.cls = 0 ∨ (x.cls = 1 ∧ x.fHeld = 6)) →
      Ends (.arrayStepStart t none) s fun d => ∀ n : Fin 64, n.val < (gillShape x.config x.cls).2 →
        Sparse.get 0 (d.tileOf t.val).acc (64 * p.accRow + p.accCol + n.val) =
          (intAcc l.accSat (s.dev.accOld t.val x (64 * p.accRow + p.accCol + n.val)) (intSum x.fHeld x.fStream (s.dev.heldColumn t.val x p n.val) (s.dev.streamRow t.val x p))).1)
  -- CI16: real part in the even word, imaginary part in the odd one
  ∧ (∀ (s : State) (t : LTile) (l : LayerRun) (x : Step) (p : GillProg), Inv s → OneRowStep s.dev t.val l x p → x.cls = 5 →
      Ends (.arrayStepStart t none) s fun d => ∀ n : Fin 64, n.val < (gillShape x.config x.cls).2 →
        Sparse.get 0 (d.tileOf t.val).acc (64 * p.accRow + p.accCol + 2 * n.val) =
          (intAcc l.accSat (s.dev.accOld t.val x (64 * p.accRow + p.accCol + 2 * n.val)) (ci16Sum (s.dev.heldColumn t.val x p n.val) (s.dev.streamRow t.val x p)).1).1
        ∧ Sparse.get 0 (d.tileOf t.val).acc (64 * p.accRow + p.accCol + 2 * n.val + 1) =
          (intAcc l.accSat (s.dev.accOld t.val x (64 * p.accRow + p.accCol + 2 * n.val + 1)) (ci16Sum (s.dev.heldColumn t.val x p n.val) (s.dev.streamRow t.val x p)).2).1)
  -- the float classes: FP32 products, the pairwise tree, the accumulate; BX8 block by block
  ∧ (∀ (s : State) (t : LTile) (l : LayerRun) (x : Step) (p : GillProg), Inv s → OneRowStep s.dev t.val l x p → x.cls ≠ 0 → x.cls ≠ 5 → ¬(x.cls = 1 ∧ x.fHeld = 6) →
      Ends (.arrayStepStart t none) s fun d => ∀ n : Fin 64, n.val < (gillShape x.config x.cls).2 →
        Sparse.get 0 (d.tileOf t.val).acc (64 * p.accRow + p.accCol + n.val) =
          (if x.cls = 2 then bx8Out x.fHeld x.fStream (s.dev.heldColumn t.val x p n.val) (s.dev.streamRow t.val x p) (s.dev.accOld t.val x (64 * p.accRow + p.accCol + n.val)) 0
           else floatOut x.fHeld x.fStream (s.dev.heldColumn t.val x p n.val) (s.dev.streamRow t.val x p) (s.dev.accOld t.val x (64 * p.accRow + p.accCol + n.val)) 0).1)
  -- a multiplier fault that the residue channel sees: counted, class S
  ∧ (∀ (s : State) (t : LTile) (l : LayerRun) (x : Step) (p : GillProg) (f : BitVec 32) (g : Fin 16), Inv s → OneRowStep s.dev t.val l x p → p.gill = g.val →
      s.dev.flag MX_RES_EN (s.dev.ptile t.val) = true →
      residueSees x (Sparse.get ([], 0) (s.dev.tileOf t.val).shadow g.val) (s.dev.streamRow t.val x p) 0 f.toNat = true → 0 < (gillShape x.config x.cls).2 →
      Ends (.arrayStepStart t (some (g, 0, f))) s fun d => d.fld MX_RES_ERR (s.dev.ptile t.val) = satAdd 16 (s.dev.fld MX_RES_ERR (s.dev.ptile t.val)) 1
        ∧ d.flag SAF_S_PENDING = true ∧ d.mem = s.dev.mem)
  -- before the held operands are loaded nothing streams
  ∧ (∀ (s : State) (t : LTile) (f : Option (Fin 16 × Fin 64 × BitVec 32)), Inv s → (s.dev.tileOf t.val).shadowFull = false →
      Leaves (.arrayStepStart t f) s s.fresh)
  -- while the tile hands over, its array does nothing
  ∧ (∀ (s : State) (t : LTile) (f : Option (Fin 16 × Fin 64 × BitVec 32)) (u : Option (Fin 1024 × Fin 64 × Upset)), Inv s → s.dev.tileMoves t.val = true →
      Leaves (.arrayStepStart t f) s s.fresh ∧ Leaves (.heldLoad t) s s.fresh ∧ Leaves (.drain t u) s s.fresh)
  -- the step counts its rows; the wait for a held load beyond the rows it runs under counts too
  ∧ (∀ (s : State) (t : LTile) (l : LayerRun) (x : Step) (p : GillProg), Inv s → OneRowStep s.dev t.val l x p →
      Ends (.arrayStepStart t none) s fun d => d.fld MX_ROWS (s.dev.ptile t.val) = satAdd 48 (s.dev.fld MX_ROWS (s.dev.ptile t.val)) 1
        ∧ d.fld MX_STALL (s.dev.ptile t.val) = satAdd 48 (s.dev.fld MX_STALL (s.dev.ptile t.val)) (l.loadStall x)
        ∧ d.fld MX_GILL (s.dev.ptile t.val) = x.config ∧ d.fld MX_CLASS (s.dev.ptile t.val) = x.cls)

/-- The format in which a drain reads accumulator words of a step's class: CI16, INT32 or FP32 (R332). -/
abbrev Sys2Proof.Machine.Step.drainFmt (x : Step) : Nat := if x.cls = 5 then 9 else if x.cls = 0 ∨ (x.cls = 1 ∧ (x.fHeld == 6) = true) then 5 else 0

/-- Held loads and drains (R276, R330, R332, R336 to R338).
It says where these complete with their own effect: heldLoad, drain. -/
def Obligations.ArrayLoadsAndDrains : Prop :=
  -- HELD_LOAD: the held operand of the next step's one gill fills the shadow bank
  (∀ (s : State) (t : LTile) (l : LayerRun) (x : Step) (p : GillProg), s.dev.live = true ∧ s.dev.tileMoves t.val = false → (s.dev.tileOf t.val).layer = some l → l.wmode ≠ 1 → l.steps[l.idx]? = some x →
    (s.dev.tileOf t.val).shadowFull = false → s.dev.stepReject x = none → x.gills = [p] → s.dev.ctBad x p = false →
    Gives (.heldLoad t) s
      (let d : Dev := (s.fresh.heldOf t.val x p).2
       d.setTile t.val { d.tileOf t.val with shadow := [(p.gill, (s.fresh.heldOf t.val x p).1)], shadowFull := true }))
  -- a step that R336 rejects: its reason and gill in a class D entry, the command fails with status 4
  ∧ (∀ (s : State) (t : LTile) (l : LayerRun) (x : Step) (r g : Nat), s.dev.live = true ∧ s.dev.tileMoves t.val = false → (s.dev.tileOf t.val).layer = some l → l.wmode ≠ 1 → l.steps[l.idx]? = some x →
      (s.dev.tileOf t.val).shadowFull = false → s.dev.stepReject x = some (r, g) →
      Gives (.heldLoad t) s
        ((s.fresh.logEv 0x1003 .D (s.dev.ptile t.val) [dC r, dU 1 g, dC x.config, dC x.cls]).layerFail t.val l 4 true))
  -- with a full shadow bank, or no LAYER, nothing loads
  ∧ (∀ (s : State) (t : LTile), Inv s → ((s.dev.tileOf t.val).shadowFull = true ∨ (s.dev.tileOf t.val).layer = none) → Leaves (.heldLoad t) s s.fresh)
  -- DRAIN waits for the last step
  ∧ (∀ (s : State) (t : LTile) (l : LayerRun), Inv s → (s.dev.tileOf t.val).layer = some l → l.idx < l.steps.length → Leaves (.drain t none) s s.fresh)
  -- a conversion that R347 rejects fails the command with status 5
  ∧ (∀ (s : State) (t : LTile) (l : LayerRun) (x : Step), s.dev.live = true ∧ s.dev.tileMoves t.val = false → (s.dev.tileOf t.val).layer = some l → l.idx = l.steps.length → l.sendsDue = false →
      l.steps.getLast? = some x → cvtReject x.drainFmt l.drainCvt 64 ≠ 0 →
      Gives (.drain t none) s
        ((s.fresh.cvtRejected t.val (cvtReject x.drainFmt l.drainCvt 64) l.drainCvt 0).layerFail t.val l 5 true))
  -- the rows of accumulator memory, converted, reach tile SRAM; poisoned words count in the completion; CLR clears what was read
  ∧ (∀ (s : State) (t : LTile) (l : LayerRun) (x : Step), s.dev.live = true ∧ s.dev.tileMoves t.val = false → (s.dev.tileOf t.val).layer = some l → l.idx = l.steps.length → l.sendsDue = false →
      l.steps.getLast? = some x → cvtReject x.drainFmt l.drainCvt 64 = 0 →
      Gives (.drain t none) s
        (let keys := (upTo (64 * l.drainRows)).map fun i => 64 * l.drainRow + i
         let words := keys.map fun k => Sparse.get 0 (s.dev.tileOf t.val).acc k
         let r := s.fresh.runCvt t.val l.drainCvt l.cur (words.map fun v => accVal x.cls v (x.fHeld == 6)) (fun i => words.getD i 0) 0 (some (l.engine, l.seq))
         let d : Dev := r.2.sramWrite t.val l.drainDst (r.1.map some)
         let y := d.tileOf t.val
         let y : Tile := if l.clr then { y with acc := keys.foldl (fun m k => Sparse.set 0 m k 0) y.acc, accBad := keys.foldl (fun m k => Sparse.set false m k false) y.accBad } else y
         ((d.setTile t.val { y with layer := none }).updCmd l.engine l.seq fun c =>
            { c with poison := c.poison + keys.countP fun k => Sparse.get false (s.dev.tileOf t.val).accBad k }).partDone l.engine l.seq t.val))
  -- a double-bit error in accumulator memory that the drain reads poisons both words of its code word, class D; a single-bit error counts
  ∧ (∀ (s : State) (t : LTile) (row : Fin 1024) (w : Fin 64), s.dev.live = true ∧ s.dev.tileMoves t.val = false → s.dev.drainReads t.val row.val = true →
      Gives (.drain t (some (row, w, .single))) s ((s.fresh.inc MX_ACC_CE 1 (s.dev.ptile t.val)).layerDrain t.val)
      ∧ Gives (.drain t (some (row, w, .double))) s
        (((s.fresh.setTile t.val { s.dev.tileOf t.val with
            accBad := Sparse.set false (Sparse.set false (s.dev.tileOf t.val).accBad (row.val * 64 + w.val / 2 * 2) true) (row.val * 64 + w.val / 2 * 2 + 1) true }).logEv
              0x1004 .D (s.dev.ptile t.val) [dO row.val, dU 1 w.val]).layerDrain t.val))

/-- FINAL sets, with the entry that shows the first tile's capture (R361). -/
abbrev Sys2Proof.Machine.Dev.nanFinalNow (d : Dev) : Dev :=
  let t := d.fld NANF_LTILE
  (d.setF NANF_FINAL 1).logEv 0x000B .I 0
    [dB 8 (d.fld NAN_CAP_0 t), dB 8 (d.fld NAN_CAP_WHERE t), dB 8 (d.fld NAN_CAP_OPERANDS t), dB 4 (d.fld NAN_CAP_TS t)]

/-- Scale channels and the device-wide first NaN (R354, R360 to R362).
It says where these complete with their own effect: scaleClr, nanReportJudge, nanFirstFinal, nanFirstClear, nanCapClear. -/
def Obligations.ScaleAndNanRegisters : Prop :=
  -- a write of TIL_SCALE_n sets CUR, HEADROOM, AUTO_EN, PIN and FLUSHWIDE; CLR clears RMAX
  (∀ (s : State) (t : PTile) (n : Fin 16) (p : Path) (v : Word64), Inv s → Reaches s.dev p (0x1000300 + 0x10000 * t.val + 8 * n.val) →
    Ends (.scaleClr t n p v) s fun d => d.fld SCALE_CUR (s.dev.ltile t.val) n.val = bits v.toNat 0 7 ∧ d.fld SCALE_HEADROOM (s.dev.ltile t.val) n.val = bits v.toNat 16 2
      ∧ d.fld SCALE_AUTO_EN (s.dev.ltile t.val) n.val = bits v.toNat 24 1 ∧ d.fld SCALE_PIN (s.dev.ltile t.val) n.val = bits v.toNat 25 1
      ∧ d.fld SCALE_FLUSHWIDE (s.dev.ltile t.val) n.val = bits v.toNat 26 1 ∧ d.fld SCALE_SUGGEST (s.dev.ltile t.val) n.val = s.dev.fld SCALE_SUGGEST (s.dev.ltile t.val) n.val
      ∧ d.fld SCALE_RMAX (s.dev.ltile t.val) n.val = (if v.getLsbD 27 then 0 else s.dev.fld SCALE_RMAX (s.dev.ltile t.val) n.val) ∧ d.mem = s.dev.mem ∧ d.out = [.wrDone])
  -- NAN_REPORT_JUDGE: a report is judged at its MCLK
  ∧ (∀ (s : State) (r : Nat × Nat × Nat), s.dev.mlive = true → s.dev.nanRep = [r] →
      Gives .nanReportJudge s (({ s.fresh with nanRep := [] }.passTo (4 * judgeAt r.1)).nanTake r))
  -- two that fall in one MCLK are judged together, the others stay
  ∧ (∀ (s : State) (r q o : Nat × Nat × Nat), s.dev.mlive = true → s.dev.nanRep = [r, q, o] → judgeAt q.1 = judgeAt r.1 → judgeAt o.1 ≠ judgeAt r.1 →
      Gives .nanReportJudge s ((({ s.fresh with nanRep := [o] }.passTo (4 * judgeAt r.1)).nanTake r).nanTake q))
  -- an empty GLB_NAN_FIRST takes it
  ∧ (∀ (d : Dev) (r : Nat × Nat × Nat), d.flag NANF_VALID = false → d.flag NANF_FINAL = false → r.2.1 < 65 ∧ r.2.2 < 64 ∧ r.1 < 2 ^ 64 →
      (d.nanTake r).flag NANF_VALID = true ∧ (d.nanTake r).fld NANF_PTILE = r.2.1 ∧ (d.nanTake r).fld NANF_LTILE = r.2.2 ∧ (d.nanTake r).fld NAN_TS = r.1)
  -- one that holds a report takes an earlier one, and of the same tick one from a lower tile; no other
  ∧ (∀ (d : Dev) (r : Nat × Nat × Nat), d.flag NANF_VALID = true → d.flag NANF_FINAL = false → r.2.1 < 65 ∧ r.2.2 < 64 ∧ r.1 < 2 ^ 64 →
      (r.1 < d.fld NAN_TS ∨ (r.1 = d.fld NAN_TS ∧ r.2.1 < d.fld NANF_PTILE)) →
      (d.nanTake r).flag NANF_VALID = true ∧ (d.nanTake r).fld NANF_PTILE = r.2.1 ∧ (d.nanTake r).fld NANF_LTILE = r.2.2 ∧ (d.nanTake r).fld NAN_TS = r.1)
  ∧ (∀ (d : Dev) (r : Nat × Nat × Nat), d.flag NANF_VALID = true → ¬(r.1 < d.fld NAN_TS ∨ (r.1 = d.fld NAN_TS ∧ r.2.1 < d.fld NANF_PTILE)) → d.nanTake r = d)
  -- after FINAL none is taken
  ∧ (∀ (d : Dev) (r : Nat × Nat × Nat), d.flag NANF_FINAL = true → d.nanTake r = d)
  -- NAN_FIRST_FINAL: at GLB_NAN_TS + 800 the first is final, with its class I entry
  ∧ (∀ s : State, s.dev.mlive = true → s.dev.flag NANF_VALID = true → s.dev.flag NANF_FINAL = false →
      (∀ r ∈ s.dev.nanRep, (s.dev.fld NAN_TS + 803) / 4 < judgeAt r.1) →
      Gives .nanFirstFinal s ((s.fresh.passTo (s.dev.fld NAN_TS + 800)).nanFinalNow))
  -- a report that the same MCLK or an earlier one judges comes first
  ∧ (∀ (s : State) (r : Nat × Nat × Nat), s.dev.mlive = true → s.dev.flag NANF_VALID = true → s.dev.flag NANF_FINAL = false → s.dev.nanRep = [r] →
      judgeAt r.1 ≤ (s.dev.fld NAN_TS + 803) / 4 →
      Gives .nanFirstFinal s ((s.fresh.nanJudge.passTo (s.fresh.nanJudge.fld NAN_TS + 800)).nanFinalNow))
  -- with nothing captured, or FINAL set already, it changes nothing
  ∧ (∀ s : State, Inv s → (s.dev.flag NANF_VALID = false ∨ s.dev.flag NANF_FINAL = true) → Leaves .nanFirstFinal s s.fresh)
  -- NAN_FIRST_CLEAR: every capture and every report not yet judged goes with VALID
  ∧ (∀ (s : State) (p : Path) (v : Word64), Inv s → Reaches s.dev p 0x300 → v.getLsbD 0 = true →
      Ends (.nanFirstClear p v) s fun d => d.flag NANF_VALID = false ∧ d.flag NANF_FINAL = false ∧ d.nanRep = [] ∧ (∀ t : Fin 65, d.fld NAN_CAP_0 t.val = 0) ∧ d.mem = s.dev.mem)
  -- NAN_CAP_CLEAR re-arms one tile
  ∧ (∀ (s : State) (t : PTile) (p : Path) (v : Word64), Reaches s.dev p (0x1000400 + 0x10000 * t.val) → v.getLsbD 0 = true →
      Gives (.nanCapClear t p v) s
        (((((s.fresh.setF NAN_CAP_0 0 (s.dev.ltile t.val)).setF NAN_CAP_TS 0 (s.dev.ltile t.val)).setF NAN_CAP_WHERE 0 (s.dev.ltile t.val)).setF NAN_CAP_OPERANDS 0 (s.dev.ltile t.val)).emit .wrDone))

/-- The group that issues instruction `i`, the threads it acts in, and its operands in a thread. -/
abbrev Sys2Proof.Machine.Dev.iGrp (d : Dev) (i : VI) : Group := d.grp i.t.val i.g.val

abbrev Sys2Proof.Machine.Dev.iAct (d : Dev) (i : VI) : Nat := (d.iGrp i).acting i

abbrev Sys2Proof.Machine.Dev.iA (d : Dev) (i : VI) (l : Nat) : Nat := viA i (d.iGrp i) d.now l

abbrev Sys2Proof.Machine.Dev.iB (d : Dev) (i : VI) (l : Nat) : Nat := viB i (d.iGrp i) d.now l

abbrev Sys2Proof.Machine.Dev.iC (d : Dev) (i : VI) (l : Nat) : Nat := viC i (d.iGrp i) d.now l

/-- The group of `i` issues it: tile and group run, no handover has paused it, no store of the group has failed, the encoding is legal for the
fields `u`, and no register that a thread reads holds an uncorrectable error. -/
abbrev Sys2Proof.Machine.Issues (d : Dev) (u : VUse) (i : VI) : Prop :=
  d.tileIssues i.t.val = true ∧ (d.iGrp i).st = 1 ∧ (d.iGrp i).badStore = none ∧ u.ok i = true
    ∧ ¬(i.regs = .double ∧ u.reads i = true ∧ d.iAct i ≠ 0)

/-- A single-bit error of the registers it reads has been corrected and counted (R379). -/
abbrev Sys2Proof.Machine.Dev.counted (d : Dev) (i : VI) : Dev := if i.regs = .single then d.inc VX_REG_CE 1 (d.ptile i.t.val) else d

/-- RD of every acting thread takes its value of `f`, and the group goes on to its next instruction. -/
abbrev Sys2Proof.Machine.WritesRd (c : Instr) (i : VI) (s : State) (f : Nat → Nat) : Prop :=
  Leaves c s ((s.fresh.counted i).vxMap i (s.dev.iAct i) fun _ l => f l)

/-- Packed lanes of width `w` of three 32-bit operands. -/
def Sys2Proof.Machine.perLane (w : Nat) (f : Nat → Nat → Nat → Nat) (a b c : Nat) : Nat :=
  ((upTo (32 / w)).map fun k => f (bits a (k * w) w) (bits b (k * w) w) (bits c (k * w) w) % 2 ^ w * 2 ^ (k * w)).sum

/-- The two- and three-operand fields of an integer instruction. -/
abbrev Sys2Proof.Machine.intUse (three : Bool) : VUse := { fm := [0, 5, 6, 7], rd := true, ra := true, rb := true, rc := three }

/-- The vector instructions with the fields each uses (R368). -/
def Sys2Proof.Machine.vxTable (i : VI) (r : BitVec 8) : List (Instr × VUse) :=
  [(.vadd i, intUse false), (.vsub i, intUse false), (.vmul i, intUse false), (.mulh i, intUse false), (.mad i, intUse true), (.vdiv i, intUse false),
   (.vrem i, intUse false), (.vand i, intUse false), (.vor i, intUse false), (.vxor i, intUse false), (.shl i, intUse false), (.shr i, intUse false),
   (.sar i, intUse false), (.vmin i, intUse false), (.vmax i, intUse false), (.cmp i .lt, { fm := [0, 5, 6, 7], pd := true, ra := true, rb := true })]
  ++ [(.fadd i, { fm := [0, 1, 2], rd := true, ra := true, rb := true }), (.fsub i, { fm := [0, 1, 2], rd := true, ra := true, rb := true }),
   (.fmul i, { fm := [0, 1, 2], rd := true, ra := true, rb := true }), (.fma i, { fm := [0, 1, 2], rd := true, ra := true, rb := true, rc := true }),
   (.fmin i, { fm := [0, 1, 2], rd := true, ra := true, rb := true }), (.fmax i, { fm := [0, 1, 2], rd := true, ra := true, rb := true }),
   (.fdiv i, { fm := [0, 1, 2], rd := true, ra := true, rb := true }), (.fsqrt i, { fm := [0, 1, 2], rd := true, ra := true }),
   (.fcmp i .lt, { fm := [0, 1, 2], pd := true, ra := true, rb := true })]
  ++ [(.cvt i, { rd := true, ra := true, im := true }), (.pack i, { rd := true, ra := true, rb := true, im := true }),
   (.unpack i, { rd := true, ra := true, rb := true, im := true })]
  ++ [(.ldl ⟨i, r⟩, { fm := [0, 1, 2, 3], rd := true, ra := true, rd2 := i.fmt.toNat == 3 }), (.stl ⟨i, r⟩, { fm := [0, 1, 2, 3], ra := true, rb := true, rb2 := i.fmt.toNat == 3 }),
   (.ldd i, { fm := [0, 1, 2, 3], rd := true, ra := true, ra2 := true, rd2 := i.fmt.toNat == 3 }),
   (.std i, { fm := [0, 1, 2, 3], ra := true, rb := true, ra2 := true, rb2 := i.fmt.toNat == 3 }),
   (.atadd i, { rd := true, ra := true, rb := true }), (.atmax i, { rd := true, ra := true, rb := true })]
  ++ [(.vxCopy i, { ra := true }), (.arm i, { ra := true, rb := true }), (.vxWait i, { ra := true }), (.acrd i, { rd := true, ra := true }),
   (.br i, { im := true }), (.split i, { im := true }), (.join i, { fm := [0] }), (.call i, { im := true }), (.ret i, { fm := [0] }), (.exit i, { fm := [0] }), (.trap i, { rb := true }), (.tret i, { fm := [0] })]
  ++ [(.shfl i, { fm := [0, 1, 2, 5, 6, 7], rd := true, ra := true, rb := true }), (.vote i .any, { fm := [0, 1, 2, 5, 6, 7], rd := true, ra := true }),
   (.red i .add, { fm := [0, 1, 2, 5, 6, 7], rd := true, ra := true }), (.gbar i, { fm := [0] }), (.vxFence i, { im := true }), (.lockacq i, { rd := true, ra := true }),
   (.lockacqw i, { rd := true, ra := true }), (.lockrel i, { rd := true, ra := true }), (.vxNop i, { fm := [0] }), (.brk i, { fm := [0] })]

/-- The instructions that change nothing but RD of the acting threads and the group's place in its program. -/
def Sys2Proof.Machine.rdOnly (i : VI) : List (Instr × VUse) :=
  (vxTable i 0).take 15 ++ [(.pack i, { rd := true, ra := true, rb := true, im := true }), (.unpack i, { rd := true, ra := true, rb := true, im := true }),
   (.acrd i, { rd := true, ra := true }), (.shfl i, { fm := [0, 1, 2, 5, 6, 7], rd := true, ra := true, rb := true }),
   (.vote i .any, { fm := [0, 1, 2, 5, 6, 7], rd := true, ra := true }), (.vote i .ballot, { fm := [0, 1, 2, 5, 6, 7], rd := true, ra := true }),
   (.red i .add, { fm := [0, 1, 2, 5, 6, 7], rd := true, ra := true }), (.red i .max, { fm := [0, 1, 2, 5, 6, 7], rd := true, ra := true })]

/-- What every vector instruction passes before it acts, and what the register instructions leave alone (R366, R368, R379). -/
def Obligations.VectorIssueAndFrame : Prop :=
  -- an encoding the class does not admit parks the group with ILLEGAL, whatever the instruction
  (∀ (s : State) (i : VI) (r : BitVec 8), s.dev.tileIssues i.t.val = true → (s.dev.iGrp i).st = 1 → (s.dev.iGrp i).badStore = none →
    ∀ e ∈ vxTable i r, e.2.ok i = false → Gives e.1 s (s.fresh.park i.t.val i.g.val 5))
  -- a register that it reads with an uncorrectable error parks it with REG_UE, where some thread acts
  ∧ (∀ (s : State) (i : VI) (r : BitVec 8), s.dev.tileIssues i.t.val = true → (s.dev.iGrp i).st = 1 → (s.dev.iGrp i).badStore = none → i.regs = .double → s.dev.iAct i ≠ 0 →
      ∀ e ∈ vxTable i r, e.2.ok i = true → e.2.reads i = true → Gives e.1 s (s.fresh.park i.t.val i.g.val 15))
  -- a store of the group that failed parks it at its next instruction, with the store's address and status
  ∧ (∀ (s : State) (i : VI) (r : BitVec 8) (a st : Nat), s.dev.tileIssues i.t.val = true → (s.dev.iGrp i).st = 1 → (s.dev.iGrp i).badStore = some (a, st) →
      ∀ e ∈ vxTable i r, Gives e.1 s ((s.fresh.setGrp i.t.val i.g.val { s.dev.iGrp i with badStore := none }).park i.t.val i.g.val 8 0 (some (a, st, vxOpc 3 3))))
  -- a group that does not run, or that a handover has paused, issues nothing
  ∧ (∀ (s : State) (i : VI) (r : BitVec 8), Inv s → ((s.dev.iGrp i).st ≠ 1 ∨ s.dev.tileIssues i.t.val = false) → ∀ e ∈ vxTable i r, Leaves e.1 s s.fresh)
  -- a park: the group stands at its PC with the cause, reported as class F
  ∧ (∀ (s : State) (i : VI), Inv s → s.dev.tileIssues i.t.val = true → (s.dev.iGrp i).st = 1 → (s.dev.iGrp i).badStore = none → i.rc ≠ 0 →
      Ends (.vadd i) s fun d => (d.iGrp i).st = 3 ∧ (d.iGrp i).cause = 5 ∧ (d.iGrp i).pc = (s.dev.iGrp i).pc ∧ (d.iGrp i).active = (s.dev.iGrp i).active ∧ d.mem = s.dev.mem)
  -- the register instructions change RD of the acting threads alone
  ∧ (∀ (s : State) (i : VI), Inv s → s.dev.tileIssues i.t.val = true → (s.dev.iGrp i).st = 1 → (s.dev.iGrp i).badStore = none →
      i.regs ≠ .double → ∀ e ∈ rdOnly i, e.2.ok i = true → Ends e.1 s fun d =>
        d.mem = s.dev.mem ∧ (i.regs = .clean → d.csr = s.dev.csr) ∧ d.cel = s.dev.cel ∧ d.ember = s.dev.ember ∧ d.out = []
        ∧ (∀ (t : LTile) (g : Fin 16), ¬(t = i.t ∧ g = i.g) → d.grp t.val g.val = s.dev.grp t.val g.val)
        ∧ (∀ (l : Fin 32) (r : Fin 32), (bitAt (s.dev.iAct i) l.val = false ∨ r ≠ i.rd) →
            (d.iGrp i).reg i.t.val i.g.val s.dev.clk.ts l.val r.val = (s.dev.iGrp i).reg i.t.val i.g.val s.dev.clk.ts l.val r.val)
        ∧ (d.iGrp i).pred = (s.dev.iGrp i).pred ∧ (d.iGrp i).st = 1)
  -- a write to register 24 is discarded
  ∧ (∀ (s : State) (i : VI), Inv s → Issues s.dev (intUse false) i → i.rd.val = 24 →
      Leaves (.vadd i) s ((s.fresh.counted i).setGrp i.t.val i.g.val (s.dev.iGrp i) |>.vxNext i.t.val i.g.val))

/-- The lanes of an integer instruction. -/
abbrev Sys2Proof.Machine.Dev.intLanes (d : Dev) (i : VI) (f : Nat → Nat → Nat → Nat → Nat) (l : Nat) : Nat :=
  perLane (intW i.fmt.toNat) (f (intW i.fmt.toNat)) (d.iA i l) (d.iB i l) (d.iC i l)

/-- Integer instructions (R368, R369): lanes of 32, 16, 8 or 4 bits, wrapped.
It says where these complete with their own effect: vadd, vsub, vmul, mulh, mad, vdiv, vrem, vand, vor, vxor, shl, shr, sar, vmin,
vmax, cmp. -/
def Obligations.IntegerInstructions : Prop :=
  (∀ (s : State) (i : VI), Inv s → Issues s.dev (intUse false) i →
    WritesRd (.vadd i) i s (s.dev.intLanes i fun _ a b _ => a + b)
    ∧ WritesRd (.vsub i) i s (s.dev.intLanes i fun w a b _ => a + (2 ^ w - b))
    ∧ WritesRd (.vmul i) i s (s.dev.intLanes i fun _ a b _ => a * b)
    ∧ WritesRd (.vand i) i s (s.dev.intLanes i fun _ a b _ => Nat.land a b)
    ∧ WritesRd (.vor i) i s (s.dev.intLanes i fun _ a b _ => Nat.lor a b)
    ∧ WritesRd (.vxor i) i s (s.dev.intLanes i fun _ a b _ => Nat.xor a b)
    ∧ WritesRd (.vmin i) i s (s.dev.intLanes i fun w a b _ => ofSigned w (min (toSigned w a) (toSigned w b)))
    ∧ WritesRd (.vmax i) i s (s.dev.intLanes i fun w a b _ => ofSigned w (max (toSigned w a) (toSigned w b))))
  -- MULH: the upper half of the signed product (the model's reading, log entry 76)
  ∧ (∀ (s : State) (i : VI), Inv s → Issues s.dev (intUse false) i →
      WritesRd (.mulh i) i s (s.dev.intLanes i fun w a b _ => ofSigned w (toSigned w a * toSigned w b / 2 ^ w)))
  ∧ (∀ (s : State) (i : VI), Inv s → Issues s.dev (intUse true) i → WritesRd (.mad i) i s (s.dev.intLanes i fun _ a b c => a * b + c))
  -- DIV and REM round toward zero; by 0 the quotient is the largest positive or most negative value, the remainder the dividend
  ∧ (∀ (s : State) (i : VI), Inv s → Issues s.dev (intUse false) i →
      WritesRd (.vdiv i) i s (s.dev.intLanes i fun w a b _ => if toSigned w b = 0 then (if toSigned w a < 0 then 2 ^ (w - 1) else 2 ^ (w - 1) - 1)
        else ofSigned w ((toSigned w a).tdiv (toSigned w b)))
      ∧ WritesRd (.vrem i) i s (s.dev.intLanes i fun w a b _ => if toSigned w b = 0 then a else ofSigned w ((toSigned w a).tmod (toSigned w b))))
  -- shifts by less than the lane width
  ∧ (∀ (s : State) (i : VI), Inv s → Issues s.dev (intUse false) i →
      ((lanesOf (s.dev.iAct i)).all fun l => (upTo (32 / intW i.fmt.toNat)).all fun k => decide (bits (s.dev.iB i l) (k * intW i.fmt.toNat) (intW i.fmt.toNat) < intW i.fmt.toNat)) = true →
      WritesRd (.shl i) i s (s.dev.intLanes i fun _ a b _ => a * 2 ^ b)
      ∧ WritesRd (.shr i) i s (s.dev.intLanes i fun _ a b _ => a / 2 ^ b)
      ∧ WritesRd (.sar i) i s (s.dev.intLanes i fun w a b _ => ofSigned w (toSigned w a / 2 ^ b)))
  -- a shift by the lane width or more leaves a free value (log entry 77)
  ∧ (∀ (s : State) (i : VI) (l : Fin 32), Inv s → Issues s.dev (intUse false) i → i.fmt = 0 → s.dev.iAct i = 2 ^ l.val → 32 ≤ s.dev.iB i l.val →
      Leaves (.shl i) s (Dev.vxMap { s.fresh.counted i with freeCtr := s.dev.freeCtr + 1 } i (s.dev.iAct i) fun _ _ => Config.freeValue s.dev.freeCtr % 2 ^ 32)
      ∧ Leaves (.shr i) s (Dev.vxMap { s.fresh.counted i with freeCtr := s.dev.freeCtr + 1 } i (s.dev.iAct i) fun _ _ => Config.freeValue s.dev.freeCtr % 2 ^ 32)
      ∧ Leaves (.sar i) s (Dev.vxMap { s.fresh.counted i with freeCtr := s.dev.freeCtr + 1 } i (s.dev.iAct i) fun _ _ => Config.freeValue s.dev.freeCtr % 2 ^ 32))
  -- so does every packed lane that is shifted so far, and no other
  ∧ (∀ (s : State) (i : VI), Inv s → Issues s.dev (intUse false) i →
      Leaves (.shl i) s ((s.fresh.counted i).vxDraw i (s.dev.iAct i) fun y l d =>
        packLanes (intW i.fmt.toNat) (fun a b _ => if b < intW i.fmt.toNat then some (a * 2 ^ b) else none) (viA i y s.dev.now l) (viB i y s.dev.now l) (viC i y s.dev.now l) d)
      ∧ Leaves (.shr i) s ((s.fresh.counted i).vxDraw i (s.dev.iAct i) fun y l d =>
        packLanes (intW i.fmt.toNat) (fun a b _ => if b < intW i.fmt.toNat then some (a / 2 ^ b) else none) (viA i y s.dev.now l) (viB i y s.dev.now l) (viC i y s.dev.now l) d)
      ∧ Leaves (.sar i) s ((s.fresh.counted i).vxDraw i (s.dev.iAct i) fun y l d =>
        packLanes (intW i.fmt.toNat) (fun a b _ => if b < intW i.fmt.toNat then some (ofSigned (intW i.fmt.toNat) (toSigned (intW i.fmt.toNat) a / 2 ^ b)) else none)
          (viA i y s.dev.now l) (viB i y s.dev.now l) (viC i y s.dev.now l) d))
  -- CMP of INT32: the predicate of every acting thread
  ∧ (∀ (s : State) (i : VI) (op : CmpOp), Inv s → Issues s.dev { fm := [0, 5, 6, 7], pd := true, ra := true, rb := true } i → i.fmt = 0 →
      Leaves (.cmp i op) s
        (((s.fresh.counted i).setGrp i.t.val i.g.val ((lanesOf (s.dev.iAct i)).foldl (fun z l => z.putPred l i.rd.val
          (match op with
           | .eq => s.dev.iA i l == s.dev.iB i l
           | .ne => !(s.dev.iA i l == s.dev.iB i l)
           | .lt => decide (toSigned 32 (s.dev.iA i l) < toSigned 32 (s.dev.iB i l))
           | .le => decide (toSigned 32 (s.dev.iA i l) < toSigned 32 (s.dev.iB i l)) || s.dev.iA i l == s.dev.iB i l
           | .gt => !decide (toSigned 32 (s.dev.iA i l) < toSigned 32 (s.dev.iB i l)) && !(s.dev.iA i l == s.dev.iB i l)
           | .ge => !decide (toSigned 32 (s.dev.iA i l) < toSigned 32 (s.dev.iB i l)))) (s.dev.iGrp i))).vxNext i.t.val i.g.val))

/-- The lanes of a float instruction: computed in FP32, once more rounded for 16-bit lanes. -/
abbrev Sys2Proof.Machine.Dev.floatLanes (d : Dev) (i : VI) (f : FV → FV → FV → FV) (l : Nat) : Nat :=
  perLane (if i.fmt.toNat = 0 then 32 else 16)
    (fun a b c => laneEnc i.fmt.toNat (f ((ffmt i.fmt.toNat).dec a) ((ffmt i.fmt.toNat).dec b) ((ffmt i.fmt.toNat).dec c))) (d.iA i l) (d.iB i l) (d.iC i l)

/-- No acting lane's result is a NaN. -/
abbrev Sys2Proof.Machine.Dev.noNan (d : Dev) (i : VI) (f : FV → FV → FV → FV) : Bool :=
  (lanesOf (d.iAct i)).all fun l => (upTo (if i.fmt.toNat = 0 then 1 else 2)).all fun j =>
    !((ffmt i.fmt.toNat).dec (bits (d.floatLanes i f l) (j * 16) (if i.fmt.toNat = 0 then 32 else 16))).isNan

/-- Every acting lane has a result of FMIN or FMAX that R369 states. -/
abbrev Sys2Proof.Machine.Dev.stated (d : Dev) (i : VI) (f : FV → FV → Option FV) : Bool :=
  (lanesOf (d.iAct i)).all fun l => (upTo (if i.fmt.toNat = 0 then 1 else 2)).all fun j =>
    (f ((ffmt i.fmt.toNat).dec (bits (d.iA i l) (j * 16) (if i.fmt.toNat = 0 then 32 else 16)))
      ((ffmt i.fmt.toNat).dec (bits (d.iB i l) (j * 16) (if i.fmt.toNat = 0 then 32 else 16)))).isSome

/-- The fields of a float instruction of two sources. -/
abbrev Sys2Proof.Machine.floatUse : VUse := { fm := [0, 1, 2], rd := true, ra := true, rb := true }

/-- Float and convert instructions (R358, R368 to R370).
It says where these complete with their own effect: fadd, fsub, fmul, fma, fmin, fmax, fdiv, fsqrt, fcmp, cvt, pack, unpack. -/
def Obligations.FloatAndConvert : Prop :=
  (∀ (s : State) (i : VI), Inv s → Issues s.dev floatUse i → s.dev.noNan i (fun a b _ => a.add b) = true → WritesRd (.fadd i) i s (s.dev.floatLanes i fun a b _ => a.add b))
  ∧ (∀ (s : State) (i : VI), Inv s → Issues s.dev floatUse i → s.dev.noNan i (fun a b _ => a.add b.neg) = true →
      WritesRd (.fsub i) i s (s.dev.floatLanes i fun a b _ => a.add b.neg))
  ∧ (∀ (s : State) (i : VI), Inv s → Issues s.dev floatUse i → s.dev.noNan i (fun a b _ => a.mul b) = true → WritesRd (.fmul i) i s (s.dev.floatLanes i fun a b _ => a.mul b))
  ∧ (∀ (s : State) (i : VI), Inv s → Issues s.dev { floatUse with rc := true } i → s.dev.noNan i (fun a b c => (a.mul b).add c) = true →
      WritesRd (.fma i) i s (s.dev.floatLanes i fun a b c => (a.mul b).add c))
  ∧ (∀ (s : State) (i : VI), Inv s → Issues s.dev floatUse i → s.dev.noNan i (fun a b _ => a.div b) = true → WritesRd (.fdiv i) i s (s.dev.floatLanes i fun a b _ => a.div b))
  ∧ (∀ (s : State) (i : VI), Inv s → Issues s.dev { floatUse with rb := false } i → s.dev.noNan i (fun a _ _ => a.sqrt) = true →
      WritesRd (.fsqrt i) i s (s.dev.floatLanes i fun a _ _ => a.sqrt))
  -- FMIN and FMAX where both operands are numbers, or zeros of one sign
  ∧ (∀ (s : State) (i : VI), Inv s → Issues s.dev floatUse i → s.dev.stated i FV.minOf = true → s.dev.noNan i (fun a b _ => if b.lt a then b else a) = true →
      WritesRd (.fmin i) i s (s.dev.floatLanes i fun a b _ => if b.lt a then b else a))
  ∧ (∀ (s : State) (i : VI), Inv s → Issues s.dev floatUse i → s.dev.stated i FV.maxOf = true → s.dev.noNan i (fun a b _ => if a.lt b then b else a) = true →
      WritesRd (.fmax i) i s (s.dev.floatLanes i fun a b _ => if a.lt b then b else a))
  -- of one NaN and one number, or of zeros of opposite sign, R369 states no result: a free value
  ∧ (∀ (s : State) (i : VI) (l : Fin 32), Inv s → Issues s.dev floatUse i → i.fmt = 0 → i.rd.val < 24 → s.dev.iAct i = 2 ^ l.val →
      (FV.minOf (ofFp32 (s.dev.iA i l.val)) (ofFp32 (s.dev.iB i l.val))).isNone = true →
      (Ends (.fmin i) s fun d => (d.iGrp i).reg i.t.val i.g.val d.now l.val i.rd.val = Config.freeValue s.dev.freeCtr % 2 ^ 32 ∧ d.freeCtr = s.dev.freeCtr + 1 ∧ d.mem = s.dev.mem)
      ∧ (Ends (.fmax i) s fun d => (d.iGrp i).reg i.t.val i.g.val d.now l.val i.rd.val = Config.freeValue s.dev.freeCtr % 2 ^ 32 ∧ d.freeCtr = s.dev.freeCtr + 1 ∧ d.mem = s.dev.mem))
  -- a NaN is canonical, and the first one of the tile is captured with its operands
  ∧ (∀ (s : State) (i : VI) (l : Fin 32), Inv s → Issues s.dev floatUse i → i.fmt = 0 → i.rd.val < 24 → s.dev.iAct i = 2 ^ l.val →
      (fp32 ((ofFp32 (s.dev.iA i l.val)).mul (ofFp32 (s.dev.iB i l.val))) |> isNan32) = true → s.dev.fld NAN_CAP_0 i.t.val = 0 →
      Ends (.fmul i) s fun d => (d.iGrp i).reg i.t.val i.g.val d.now l.val i.rd.val = 0x7FC00000 ∧ d.fld NAN_CAP_0 i.t.val % 2 = 1
        ∧ d.fld NAN_CAP_OPERANDS i.t.val = (s.dev.iA i l.val + s.dev.iB i l.val * 2 ^ 32) % 2 ^ 64 ∧ d.nanRep.length = s.dev.nanRep.length + 1 ∧ d.mem = s.dev.mem)
  -- FCMP: unordered with a NaN, for which only NE holds
  ∧ (∀ (s : State) (i : VI) (op : CmpOp), Inv s → Issues s.dev { fm := [0, 1, 2], pd := true, ra := true, rb := true } i → i.fmt = 0 →
      Leaves (.fcmp i op) s
        (((s.fresh.counted i).setGrp i.t.val i.g.val ((lanesOf (s.dev.iAct i)).foldl (fun z l => z.putPred l i.rd.val
          (if isNan32 (s.dev.iA i l) || isNan32 (s.dev.iB i l) then op == .ne
           else cmpBy op ((ofFp32 (s.dev.iA i l)).lt (ofFp32 (s.dev.iB i l))) ((ofFp32 (s.dev.iA i l)).eqv (ofFp32 (s.dev.iB i l))))) (s.dev.iGrp i))).vxNext i.t.val i.g.val))
  -- CVT that R347 rejects parks the group, and its entry is written
  ∧ (∀ (s : State) (i : VI), Issues s.dev { rd := true, ra := true, im := true } i → cvtRnd i.imm.toNat = 3 → cvtSrc i.imm.toNat ≤ 9 → cvtDst i.imm.toNat ≤ 9 →
      Gives (.cvt i) s (((s.fresh.counted i).cvtRejected i.t.val 2 (i.imm.toNat % 2 ^ 25) 1).park i.t.val i.g.val 14))
  -- CVT of scalars, thread by thread
  ∧ (∀ (s : State) (i : VI), Issues s.dev { rd := true, ra := true, im := true } i → cvtReject (cvtSrc i.imm.toNat) i.imm.toNat 1 = 0 → cvtSrc i.imm.toNat < 8 → cvtDst i.imm.toNat < 8 →
      Gives (.cvt i) s
        ((s.fresh.counted i).vxDraw i (s.dev.iAct i) fun y l d =>
          (leNat (d.runCvt i.t.val (i.imm.toNat % 2 ^ 25) (s.dev.iGrp i).cur [rawVal (cvtSrc i.imm.toNat) (viA i y s.dev.clk.ts l % 2 ^ scalarBits (cvtSrc i.imm.toNat))] (fun k => bits (viA i y s.dev.clk.ts l) (16 * k) 16) l y.run).1,
           (d.runCvt i.t.val (i.imm.toNat % 2 ^ 25) (s.dev.iGrp i).cur [rawVal (cvtSrc i.imm.toNat) (viA i y s.dev.clk.ts l % 2 ^ scalarBits (cvtSrc i.imm.toNat))] (fun k => bits (viA i y s.dev.clk.ts l) (16 * k) 16) l y.run).2)))
  -- PACK and UNPACK, whose result the manual does not state, write a free value (log entry 69)
  ∧ (∀ (s : State) (i : VI) (l : Fin 32), Inv s → Issues s.dev { rd := true, ra := true, rb := true, im := true } i → i.rd.val < 24 → s.dev.iAct i = 2 ^ l.val →
      (Ends (.pack i) s fun d => (d.iGrp i).reg i.t.val i.g.val d.now l.val i.rd.val = Config.freeValue s.dev.freeCtr % 2 ^ 32 ∧ d.freeCtr = s.dev.freeCtr + 1 ∧ d.mem = s.dev.mem)
      ∧ (Ends (.unpack i) s fun d => (d.iGrp i).reg i.t.val i.g.val d.now l.val i.rd.val = Config.freeValue s.dev.freeCtr % 2 ^ 32 ∧ d.freeCtr = s.dev.freeCtr + 1 ∧ d.mem = s.dev.mem))
  -- CVT to or from BX8 with a thread that does not act is rejected with BAD_BLOCK
  ∧ (∀ (s : State) (i : VI), Issues s.dev { rd := true, ra := true, im := true } i → cvtDst i.imm.toNat = 8 → cvtSrc i.imm.toNat < 8 → cvtRnd i.imm.toNat ≠ 3 →
      s.dev.iAct i ≠ 2 ^ 32 - 1 →
      Gives (.cvt i) s (((s.fresh.counted i).cvtRejected i.t.val 4 (i.imm.toNat % 2 ^ 25) 1).park i.t.val i.g.val 14))

/-- The fields of the memory instructions. -/
abbrev Sys2Proof.Machine.ldlUse (i : VI) : VUse := { fm := [0, 1, 2, 3], rd := true, ra := true, rd2 := i.fmt.toNat == 3 }

abbrev Sys2Proof.Machine.stlUse (i : VI) : VUse := { fm := [0, 1, 2, 3], ra := true, rb := true, rb2 := i.fmt.toNat == 3 }

abbrev Sys2Proof.Machine.lddUse (i : VI) : VUse := { fm := [0, 1, 2, 3], rd := true, ra := true, ra2 := true, rd2 := i.fmt.toNat == 3 }

abbrev Sys2Proof.Machine.stdUse (i : VI) : VUse := { fm := [0, 1, 2, 3], ra := true, rb := true, ra2 := true, rb2 := i.fmt.toNat == 3 }

abbrev Sys2Proof.Machine.atUse : VUse := { rd := true, ra := true, rb := true }

/-- Every acting thread's offset is aligned to the access and lies in the scratch portion of tile SRAM. -/
abbrev Sys2Proof.Machine.Dev.offsetsOk (d : Dev) (i : VI) (w : Nat) : Prop :=
  ∀ l ∈ lanesOf (d.iAct i), d.iA i l % w = 0 ∧ d.outsideScratch (d.iA i l) w = false

/-- No word that an acting thread reads is uncorrectable. -/
abbrev Sys2Proof.Machine.Dev.offsetsGood (d : Dev) (i : VI) (w : Nat) : Prop := ∀ l ∈ lanesOf (d.iAct i), d.badAt i.t.val (d.iA i l) w = false

/-- Port 1 has had its turn among the ports `r` that address the same bank (R272), where some thread acts. -/
abbrev Sys2Proof.Machine.Dev.turned (d : Dev) (i : VI) (r : BitVec 8) (m : Nat) : Dev :=
  if lanesOf m = [] then d.counted i else (d.counted i).portClash i.t.val 1 r

/-- A device address of a thread. -/
abbrev Sys2Proof.Machine.Dev.iAddr (d : Dev) (i : VI) (l : Nat) : Nat := viPair i (d.iGrp i) d.now l i.ra.val

/-- Thread `l` alone acts, and its address is aligned and in no remote window. -/
abbrev Sys2Proof.Machine.Dev.oneAddr (d : Dev) (i : VI) (l : Nat) : Prop :=
  d.iAct i = 2 ^ l ∧ d.iAddr i l % vxWidth i = 0 ∧ inRemoteWindow (d.iAddr i l) = false

/-- Neither a tile that hands over nor a transaction of its line holds the access back (R28, R288). -/
abbrev Sys2Proof.Machine.Dev.addrFree (d : Dev) (a : Nat) : Prop := d.addrHeld a = false ∧ ¬(d.tcCaches a = true ∧ (d.transOf (a / 256)).isSome = true)

/-- Loads, stores and atomics of a group (R28, R272, R273, R275, R368, R373, R379).
It says where these complete with their own effect: ldl, stl, ldd, std, atadd, atmax, storeFault. -/
def Obligations.VectorMemory : Prop :=
  -- LDL: the bytes of every acting thread's offset, read through port 1, go to its RD
  (∀ (s : State) (i : VI) (r : BitVec 8), Issues s.dev (ldlUse i) i → s.dev.offsetsOk i (vxWidth i) → s.dev.offsetsGood i (vxWidth i) →
    Gives (.ldl ⟨i, r⟩) s
      (((lanesOf (s.dev.iAct i)).foldl (fun (d : Dev) l => (d.sramRead i.t.val (s.dev.iA i l) (vxWidth i) 1).2.2) (s.fresh.turned i r (s.dev.iAct i))).loadAll
        i.t.val i.g.val i.rd.val (vxWidth i) ((lanesOf (s.dev.iAct i)).map fun l => (l, leNat (s.dev.rawRead (tileAddr i.t.val (s.dev.iA i l)) (vxWidth i))))))
  -- a word fills RD
  ∧ (∀ (s : State) (i : VI) (r : BitVec 8) (l : Fin 32), Inv s → Issues s.dev (ldlUse i) i → i.fmt = 2 → i.rd.val < 24 → s.dev.iAct i = 2 ^ l.val → s.dev.offsetsOk i 4 →
      s.dev.offsetsGood i 4 →
      Ends (.ldl ⟨i, r⟩) s fun d => d.mem = s.dev.mem
        ∧ (d.iGrp i).reg i.t.val i.g.val d.now l.val i.rd.val = leNat (s.dev.rawRead (tileAddr i.t.val (s.dev.iA i l.val)) 4))
  -- 8 bytes fill the even register and the one above it
  ∧ (∀ (s : State) (i : VI) (r : BitVec 8) (l : Fin 32), Inv s → Issues s.dev (ldlUse i) i → i.fmt = 3 → i.rd.val < 24 → s.dev.iAct i = 2 ^ l.val → s.dev.offsetsOk i 8 →
      s.dev.offsetsGood i 8 →
      Ends (.ldl ⟨i, r⟩) s fun d => d.mem = s.dev.mem
        ∧ (d.iGrp i).reg i.t.val i.g.val d.now l.val i.rd.val = leNat (s.dev.rawRead (tileAddr i.t.val (s.dev.iA i l.val)) 4)
        ∧ (d.iGrp i).reg i.t.val i.g.val d.now l.val (i.rd.val + 1) = leNat (s.dev.rawRead (tileAddr i.t.val (s.dev.iA i l.val) + 4) 4))
  -- 1 or 2 bytes fill the low bytes; what stands above them is free (log entry 70)
  ∧ (∀ (s : State) (i : VI) (r : BitVec 8) (l : Fin 32), Inv s → Issues s.dev (ldlUse i) i → i.fmt.toNat < 2 → i.rd.val < 24 → s.dev.iAct i = 2 ^ l.val →
      s.dev.offsetsOk i (2 ^ i.fmt.toNat) → s.dev.offsetsGood i (2 ^ i.fmt.toNat) →
      Ends (.ldl ⟨i, r⟩) s fun d => d.mem = s.dev.mem ∧ d.freeCtr = s.dev.freeCtr + 1
        ∧ (d.iGrp i).reg i.t.val i.g.val d.now l.val i.rd.val % 2 ^ (8 * 2 ^ i.fmt.toNat) = leNat (s.dev.rawRead (tileAddr i.t.val (s.dev.iA i l.val)) (2 ^ i.fmt.toNat)))
  -- a misaligned offset parks the group, one outside the scratch portion too, with its entry, and so does a poisoned word
  ∧ (∀ (s : State) (i : VI) (r : BitVec 8) (l : Fin 32), Issues s.dev (ldlUse i) i → s.dev.iAct i = 2 ^ l.val → s.dev.iA i l.val % vxWidth i ≠ 0 →
      Gives (.ldl ⟨i, r⟩) s ((s.fresh.counted i).park i.t.val i.g.val 6 0 (some (s.dev.iA i l.val, 0, vxOpc 3 0))))
  ∧ (∀ (s : State) (i : VI) (r : BitVec 8) (l : Fin 32), Issues s.dev (ldlUse i) i → s.dev.iAct i = 2 ^ l.val → s.dev.iA i l.val % vxWidth i = 0 →
      s.dev.outsideScratch (s.dev.iA i l.val) (vxWidth i) = true →
      Gives (.ldl ⟨i, r⟩) s
        (((s.fresh.counted i).logStatus 1 (tileAddr i.t.val (s.dev.iA i l.val)) (vxWidth i) (s.dev.stopOf i.t.val)).park i.t.val i.g.val 7 0
          (some (s.dev.iA i l.val, 1, vxOpc 3 0))))
  ∧ (∀ (s : State) (i : VI) (r : BitVec 8) (l : Fin 32), Issues s.dev (ldlUse i) i → s.dev.iAct i = 2 ^ l.val → s.dev.offsetsOk i (vxWidth i) →
      s.dev.badAt i.t.val (s.dev.iA i l.val) (vxWidth i) = true →
      Gives (.ldl ⟨i, r⟩) s
        (((s.fresh.turned i r (s.dev.iAct i)).sramRead i.t.val (s.dev.iA i l.val) (vxWidth i) 1).2.2.park i.t.val i.g.val 10 0
          (some (s.dev.iA i l.val, 6, vxOpc 3 0))))
  -- the ports that meet at a bank are served by (port + TS) mod 8; each cycle that one loses counts, and stalls the array where it is the array's
  ∧ (∀ (d : Dev) (t : LTile) (p : Fin 8), d.portClash t.val 1 (2 ^ p.val) =
      (d.inc TIL_CONFLICT (if p.val = 1 then 0 else 1) (d.ptile t.val)).inc MX_STALL
        (if p.val = 0 ∧ (1 + d.now) % 8 < (0 + d.now) % 8 then 1 else 0) (d.ptile t.val))
  -- STL: the acting threads' values in ascending order
  ∧ (∀ (s : State) (i : VI) (r : BitVec 8), Issues s.dev (stlUse i) i → s.dev.offsetsOk i (vxWidth i) →
      Gives (.stl ⟨i, r⟩) s
        (((lanesOf (s.dev.iAct i)).foldl (fun (d : Dev) l => d.sramWrite i.t.val (s.dev.iA i l) (allOn (leBytes (vxWidth i) (viStore i (s.dev.iGrp i) s.dev.now l))))
          (s.fresh.turned i r (s.dev.iAct i))).vxNext i.t.val i.g.val))
  -- what one thread stores stands in tile SRAM, and every other byte of memory is as it was
  ∧ (∀ (s : State) (i : VI) (r : BitVec 8) (l : Fin 32), Inv s → Issues s.dev (stlUse i) i → i.fmt = 2 → s.dev.iAct i = 2 ^ l.val → s.dev.offsetsOk i 4 →
      Ends (.stl ⟨i, r⟩) s fun d => d.rawRead (tileAddr i.t.val (s.dev.iA i l.val)) 4 = leBytes 4 (s.dev.iB i l.val)
        ∧ ∀ a : Nat, (a < tileAddr i.t.val (s.dev.iA i l.val) ∨ tileAddr i.t.val (s.dev.iA i l.val) + 4 ≤ a) → d.byte a = s.dev.byte a)
  ∧ (∀ (s : State) (i : VI) (r : BitVec 8) (l : Fin 32), Issues s.dev (stlUse i) i → s.dev.iAct i = 2 ^ l.val → s.dev.iA i l.val % vxWidth i ≠ 0 →
      Gives (.stl ⟨i, r⟩) s ((s.fresh.counted i).park i.t.val i.g.val 6 0 (some (s.dev.iA i l.val, 0, vxOpc 3 1))))
  -- ATADD and ATMAX on a word of tile SRAM; RD takes the word as it was (log entry 71)
  ∧ (∀ (s : State) (i : VI) (l : Fin 32), Issues s.dev atUse i → s.dev.iAct i = 2 ^ l.val → s.dev.offsetsOk i 4 → s.dev.offsetsGood i 4 →
      Gives (.atadd i) s
        ((((s.fresh.counted i).sramWrite i.t.val (s.dev.iA i l.val) (allOn (leBytes 4 ((s.dev.sramNat i.t.val (s.dev.iA i l.val) 4 + s.dev.iB i l.val) % 2 ^ 32)))).setGrp
          i.t.val i.g.val ((s.dev.iGrp i).put l.val i.rd.val (s.dev.sramNat i.t.val (s.dev.iA i l.val) 4))).vxNext i.t.val i.g.val)
      ∧ Gives (.atmax i) s
        ((((s.fresh.counted i).sramWrite i.t.val (s.dev.iA i l.val) (allOn (leBytes 4
            (if toSigned 32 (s.dev.sramNat i.t.val (s.dev.iA i l.val) 4) < toSigned 32 (s.dev.iB i l.val) then s.dev.iB i l.val
             else s.dev.sramNat i.t.val (s.dev.iA i l.val) 4)))).setGrp
          i.t.val i.g.val ((s.dev.iGrp i).put l.val i.rd.val (s.dev.sramNat i.t.val (s.dev.iA i l.val) 4))).vxNext i.t.val i.g.val))
  -- LDD of memory that the tile's cache does not hold: the slice, or the tile, answers
  ∧ (∀ (s : State) (i : VI) (l : Fin 32), Issues s.dev (lddUse i) i → s.dev.oneAddr i l.val → s.dev.addrFree (s.dev.iAddr i l.val) →
      s.dev.tcCaches (s.dev.iAddr i l.val) = false → Dev.slowPlace (s.dev.iAddr i l.val) = false → s.dev.accStatus (s.dev.iAddr i l.val) (vxWidth i) = 0 →
      ((s.fresh.counted i).accRead (s.dev.stopOf i.t.val) (s.dev.iAddr i l.val) (vxWidth i)).1 = 0 →
      Gives (.ldd i) s
        (((s.fresh.counted i).accRead (s.dev.stopOf i.t.val) (s.dev.iAddr i l.val) (vxWidth i)).2.2.loadAll i.t.val i.g.val i.rd.val (vxWidth i)
          [(l.val, leNat ((s.fresh.counted i).accRead (s.dev.stopOf i.t.val) (s.dev.iAddr i l.val) (vxWidth i)).2.1)]))
  -- of memory it does hold: through it
  ∧ (∀ (s : State) (i : VI) (l : Fin 32), Issues s.dev (lddUse i) i → s.dev.oneAddr i l.val → s.dev.addrFree (s.dev.iAddr i l.val) →
      s.dev.tcCaches (s.dev.iAddr i l.val) = true → s.dev.accStatus (s.dev.iAddr i l.val) (vxWidth i) = 0 →
      ((s.fresh.counted i).tcLoad i.t.val (s.dev.localAddr (s.dev.iAddr i l.val)) (vxWidth i)).2.1 = false →
      Gives (.ldd i) s
        (((s.fresh.counted i).tcLoad i.t.val (s.dev.localAddr (s.dev.iAddr i l.val)) (vxWidth i)).2.2.loadAll i.t.val i.g.val i.rd.val (vxWidth i)
          [(l.val, ((s.fresh.counted i).tcLoad i.t.val (s.dev.localAddr (s.dev.iAddr i l.val)) (vxWidth i)).1)]))
  -- of a host window or a block's queue: the group waits for the answer
  ∧ (∀ (s : State) (i : VI) (l : Fin 32), Issues s.dev (lddUse i) i → s.dev.oneAddr i l.val → s.dev.addrFree (s.dev.iAddr i l.val) →
      Dev.slowPlace (s.dev.iAddr i l.val) = true → s.dev.accStatus (s.dev.iAddr i l.val) (vxWidth i) = 0 →
      Gives (.ldd i) s
        (((s.fresh.counted i).setGrp i.t.val i.g.val { s.dev.iGrp i with st := 2, wait := .load i.rd.val (vxWidth i) [(l.val, s.dev.iAddr i l.val)] [] }).request
          (s.dev.tileRq i.t.val 0 (i.g.val * 32 + l.val)) (s.dev.iAddr i l.val) (vxWidth i) none false false none))
  -- one that a handover or a transaction holds back waits at the instruction
  ∧ (∀ (s : State) (i : VI) (l : Fin 32), Issues s.dev (lddUse i) i → s.dev.oneAddr i l.val → ¬s.dev.addrFree (s.dev.iAddr i l.val) →
      s.dev.accStatus (s.dev.iAddr i l.val) (vxWidth i) = 0 → Gives (.ldd i) s (s.fresh.counted i))
  -- of a remote window, the own one included: parked; of an address nothing serves: parked with its status and entry
  ∧ (∀ (s : State) (i : VI) (l : Fin 32), Issues s.dev (lddUse i) i → s.dev.iAct i = 2 ^ l.val → s.dev.iAddr i l.val % vxWidth i = 0 → inRemoteWindow (s.dev.iAddr i l.val) = true →
      Gives (.ldd i) s ((s.fresh.counted i).park i.t.val i.g.val 9 0 (some (s.dev.iAddr i l.val, 0, vxOpc 3 2))))
  ∧ (∀ (s : State) (i : VI) (l : Fin 32), Issues s.dev (lddUse i) i → s.dev.oneAddr i l.val → s.dev.accStatus (s.dev.iAddr i l.val) (vxWidth i) ≠ 0 →
      Gives (.ldd i) s
        (((s.fresh.counted i).logStatus (s.dev.accStatus (s.dev.iAddr i l.val) (vxWidth i)) (s.dev.iAddr i l.val) (vxWidth i) (s.dev.stopOf i.t.val)).park i.t.val i.g.val 7 0
          (some (s.dev.iAddr i l.val, s.dev.accStatus (s.dev.iAddr i l.val) (vxWidth i), vxOpc 3 2))))
  -- STD to such memory: what it is asked for is done, and the group goes on
  ∧ (∀ (s : State) (i : VI) (l : Fin 32), Issues s.dev (stdUse i) i → s.dev.oneAddr i l.val → s.dev.addrFree (s.dev.iAddr i l.val) →
      s.dev.tcCaches (s.dev.iAddr i l.val) = false → Dev.slowPlace (s.dev.iAddr i l.val) = false → s.dev.accStatus (s.dev.iAddr i l.val) (vxWidth i) = 0 →
      ((s.fresh.counted i).accWrite (s.dev.stopOf i.t.val) (s.dev.iAddr i l.val) (allOn (leBytes (vxWidth i) (viStore i (s.dev.iGrp i) s.dev.now l.val)))).1 = 0 →
      Gives (.std i) s
        (((s.fresh.counted i).accWrite (s.dev.stopOf i.t.val) (s.dev.iAddr i l.val)
          (allOn (leBytes (vxWidth i) (viStore i (s.dev.iGrp i) s.dev.now l.val)))).2.vxNext i.t.val i.g.val))
  ∧ (∀ (s : State) (i : VI) (l : Fin 32), Issues s.dev (stdUse i) i → s.dev.oneAddr i l.val → s.dev.addrFree (s.dev.iAddr i l.val) →
      s.dev.tcCaches (s.dev.iAddr i l.val) = true → s.dev.accStatus (s.dev.iAddr i l.val) (vxWidth i) = 0 →
      Gives (.std i) s
        (((s.fresh.counted i).tcStore i.t.val (s.dev.localAddr (s.dev.iAddr i l.val)) (vxWidth i) (viStore i (s.dev.iGrp i) s.dev.now l.val)).vxNext i.t.val i.g.val))
  ∧ (∀ (s : State) (i : VI) (l : Fin 32), Issues s.dev (stdUse i) i → s.dev.oneAddr i l.val → s.dev.addrFree (s.dev.iAddr i l.val) →
      Dev.slowPlace (s.dev.iAddr i l.val) = true → s.dev.accStatus (s.dev.iAddr i l.val) (vxWidth i) = 0 →
      Gives (.std i) s
        ((((s.fresh.counted i).setGrp i.t.val i.g.val { s.dev.iGrp i with stores := (s.dev.iGrp i).stores ++ [(512 + i.g.val * 32 + l.val, s.dev.iAddr i l.val)] }).request
          (s.dev.tileRq i.t.val 0 (512 + i.g.val * 32 + l.val)) (s.dev.iAddr i l.val) (vxWidth i)
          (some (allOn (leBytes (vxWidth i) (viStore i (s.dev.iGrp i) s.dev.now l.val)))) false false none).vxNext i.t.val i.g.val))
  -- what the requesting stop finds parks the group at once
  ∧ (∀ (s : State) (i : VI) (l : Fin 32), Issues s.dev (stdUse i) i → s.dev.oneAddr i l.val → s.dev.stopStatus (s.dev.iAddr i l.val) (vxWidth i) ≠ 0 →
      Gives (.std i) s
        (((s.fresh.counted i).logStatus (s.dev.stopStatus (s.dev.iAddr i l.val) (vxWidth i)) (s.dev.iAddr i l.val) (vxWidth i) (s.dev.stopOf i.t.val)).park i.t.val i.g.val 7 0
          (some (s.dev.iAddr i l.val, s.dev.stopStatus (s.dev.iAddr i l.val) (vxWidth i), vxOpc 3 3))))
  -- a status the target finds is imprecise: the group goes on, and parks at its next instruction
  ∧ (∀ (s : State) (i : VI) (l : Fin 32), Issues s.dev (stdUse i) i → s.dev.oneAddr i l.val → s.dev.addrFree (s.dev.iAddr i l.val) →
      s.dev.stopStatus (s.dev.iAddr i l.val) (vxWidth i) = 0 → s.dev.accStatus (s.dev.iAddr i l.val) (vxWidth i) ≠ 0 →
      Gives (.std i) s
        ((((s.fresh.counted i).logStatus (s.dev.accStatus (s.dev.iAddr i l.val) (vxWidth i)) (s.dev.iAddr i l.val) (vxWidth i) (s.dev.stopOf i.t.val)).storeFailed
          i.t.val i.g.val (s.dev.iAddr i l.val) (s.dev.accStatus (s.dev.iAddr i l.val) (vxWidth i))).vxNext i.t.val i.g.val))
  -- STORE_FAULT: the group's next instruction will park it
  ∧ (∀ (s : State) (t : LTile) (g : Fin 16) (a : DevAddr) (st : BitVec 4), s.dev.tileRuns t.val = true → (s.dev.grp t.val g.val).st ≠ 0 → (s.dev.grp t.val g.val).badStore = none →
      Gives (.storeFault t g a st) s (s.fresh.setGrp t.val g.val { s.dev.grp t.val g.val with badStore := some (a.toNat, st.toNat) }))

/-- The descriptor that COPY names: its offset, whether it lies outside scratch, what its read gives, and the copy it describes. -/
abbrev Sys2Proof.Machine.Dev.descAt (d : Dev) (i : VI) : Nat := d.iA i (firstLane (d.iAct i))

abbrev Sys2Proof.Machine.Dev.descOut (d : Dev) (i : VI) : Bool := d.outsideScratch (d.descAt i) 32

abbrev Sys2Proof.Machine.State.descRead (s : State) (i : VI) : List Byte × Bool × Dev := (s.fresh.counted i).sramRead i.t.val (s.dev.descAt i) 32 1

abbrev Sys2Proof.Machine.State.descCopy (s : State) (i : VI) : CopyJob :=
  copyOf (leNat (s.descRead i).1) (s.dev.descAt i) none (s.dev.curNow i.t.val)

/-- The oldest active copy of a tile that waits for no answer and no handover (R28). -/
abbrev Sys2Proof.Machine.Dev.copyReady (d : Dev) (t : Nat) : Option CopyJob := (d.tileOf t).copyOn.find? fun j => j.need == 0 && !d.copyHeld t j

/-- A copy is active no longer. -/
abbrev Sys2Proof.Machine.Dev.copyGone (d : Dev) (t : Nat) (j : CopyJob) : Dev :=
  d.setTile t { d.tileOf t with copyOn := (d.tileOf t).copyOn.filter fun k => k.tag != j.tag }

/-- How far a copy's moves bring it: the status it ends with, none while a packet of it waits, and the copy and the device as they then stand. -/
abbrev Sys2Proof.Machine.State.copyRun (s : State) (t : Nat) (j : CopyJob) : (Option Nat × CopyJob) × Dev :=
  match s.fresh.copyGo t j.moves j with
  | (.waits k, d) => ((none, k), d)
  | (.on k, d) => ((none, k), d)
  | (.ended k st, d) => ((some st, k), d)

/-- One row of at most 128 bytes between two places of a tile's own scratch that do not overlap, all of it good. -/
abbrev Sys2Proof.Machine.Dev.plainCopy (d : Dev) (t : Nat) (j : CopyJob) : Bool :=
  decide (j.rows = 1 ∧ 0 < j.len ∧ j.len ≤ 128 ∧ j.row = 0 ∧ j.pos = 0 ∧ j.wrote = 0) && j.raw == [] && j.buf.isNone && j.ext.isNone && j.got.isNone && j.cvt.isNone
    && j.cmd.isNone && !j.transpose && !j.dead && decide (tileAddr t 0 ≤ j.src ∧ tileAddr t 0 ≤ j.dst ∧ (j.src + j.len ≤ j.dst ∨ j.dst + j.len ≤ j.src))
    && !d.outsideScratch (j.src - tileAddr t 0) j.len && !d.outsideScratch (j.dst - tileAddr t 0) j.len && !d.badAt t (j.src - tileAddr t 0) j.len
    && (d.dieDown j.src j.len).isNone && (d.dieDown j.dst j.len).isNone

/-- Asynchronous instructions, copies and arrivals (R382 to R386).
It says where these complete with their own effect: vxCopy, arm, vxWait, acrd, copyStart, copyDone, arrive. -/
def Obligations.VectorAsync : Prop :=
  -- COPY: a legal descriptor takes a place on the copy queue, and the group goes on; with no place free the group waits
  (∀ (s : State) (i : VI), Issues s.dev { ra := true } i → s.dev.iAct i ≠ 0 → s.dev.descOut i = false → (s.descRead i).2.1 = false →
    s.dev.copyBad i.t.val (leNat (s.descRead i).1) (s.descCopy i) = false →
    Gives (.vxCopy i) s
      (if (s.dev.tileOf i.t.val).copyQ.length < 32 then ((s.descRead i).2.2.copyPut i.t.val (s.descCopy i)).vxNext i.t.val i.g.val
       else (s.descRead i).2.2.setGrp i.t.val i.g.val { s.dev.iGrp i with st := 2, wait := .copyPlace }))
  -- a descriptor that R384 refuses parks the group, with an entry for a row that crosses its window
  ∧ (∀ (s : State) (i : VI), Issues s.dev { ra := true } i → s.dev.iAct i ≠ 0 → s.dev.descOut i = false → (s.descRead i).2.1 = false →
      s.dev.copyBad i.t.val (leNat (s.descRead i).1) (s.descCopy i) = true →
      Gives (.vxCopy i) s (((s.descRead i).2.2.copyRefused i.t.val (s.descCopy i)).park i.t.val i.g.val 12))
  -- one outside scratch, or with an uncorrectable word, parks it as a load would (log entry 172)
  ∧ (∀ (s : State) (i : VI), Issues s.dev { ra := true } i → s.dev.iAct i ≠ 0 → s.dev.descOut i = true →
      Gives (.vxCopy i) s (((s.fresh.counted i).offsetBad i.t.val (s.dev.descAt i) 32).park i.t.val i.g.val 7 0 (some (s.dev.descAt i, 1, vxOpc 4 0))))
  ∧ (∀ (s : State) (i : VI), Issues s.dev { ra := true } i → s.dev.iAct i ≠ 0 → s.dev.descOut i = false → (s.descRead i).2.1 = true →
      Gives (.vxCopy i) s ((s.descRead i).2.2.park i.t.val i.g.val 10 0 (some (s.dev.descAt i, 6, vxOpc 4 0))))
  -- ARM adds n to EXPECT
  ∧ (∀ (s : State) (i : VI), Inv s → Issues s.dev { ra := true, rb := true } i → s.dev.iAct i ≠ 0 →
      let k := s.dev.iA i (firstLane (s.dev.iAct i)) % 64
      Leaves (.arm i) s
        (((s.fresh.counted i).setTile i.t.val { s.dev.tileOf i.t.val with
          expect := Sparse.set 0 (s.dev.tileOf i.t.val).expect k (((s.dev.tileOf i.t.val).expectOf k + s.dev.iB i (firstLane (s.dev.iAct i))) % 2 ^ 32) }).vxNext i.t.val i.g.val))
  -- WAIT goes on once ARRIVED has reached EXPECT, waits before, and parks on a FAULT bit
  ∧ (∀ (s : State) (i : VI), Inv s → Issues s.dev { ra := true } i → s.dev.iAct i ≠ 0 → s.dev.fbit AC_FAULT (s.dev.iA i (firstLane (s.dev.iAct i)) % 64) i.t.val = false →
      Leaves (.vxWait i) s
        (if (s.dev.tileOf i.t.val).reached (s.dev.iA i (firstLane (s.dev.iAct i)) % 64) then (s.fresh.counted i).vxNext i.t.val i.g.val
         else (s.fresh.counted i).setGrp i.t.val i.g.val { s.dev.iGrp i with st := 2, wait := .counter (s.dev.iA i (firstLane (s.dev.iAct i)) % 64) }))
  ∧ (∀ (s : State) (i : VI), Inv s → Issues s.dev { ra := true } i → s.dev.iAct i ≠ 0 → s.dev.fbit AC_FAULT (s.dev.iA i (firstLane (s.dev.iAct i)) % 64) i.t.val = true →
      Leaves (.vxWait i) s ((s.fresh.counted i).park i.t.val i.g.val 11))
  -- ACRD: an unknown function of EXPECT and ARRIVED (log entry 75)
  ∧ (∀ (s : State) (i : VI), Inv s → Issues s.dev { rd := true, ra := true } i →
      WritesRd (.acrd i) i s fun l => Config.acrdValue ((s.dev.tileOf i.t.val).expectOf (s.dev.iA i l % 64)) ((s.dev.tileOf i.t.val).arrivedOf (s.dev.iA i l % 64)) % 2 ^ 32)
  -- ARRIVE counts, and the groups that waited for the counter go on behind their WAIT
  ∧ (∀ (s : State) (t : LTile) (k : Fin 64), Inv s → s.dev.live = true →
      Leaves (.arrive t k) s
        (s.fresh.setTile t.val ({ s.dev.tileOf t.val with
          arrived := Sparse.set 0 (s.dev.tileOf t.val).arrived k.val (((s.dev.tileOf t.val).arrivedOf k.val + 1) % 2 ^ 32) }.wakeCounter k.val)))
  -- COPY_START: where fewer than four are active the next copy becomes active under a free tag; of one that reads host memory each row is asked
  -- for at the host, an RPULL or RPUSH at the other device
  ∧ (∀ (s : State) (t : LTile) (j : CopyJob) (r : List CopyJob), s.dev.tileRuns t.val = true → (s.dev.tileOf t.val).copyQ = j :: r → (s.dev.tileOf t.val).copyOn.length < 4 →
      Gives (.copyStart t) s
        (let tag := ((upTo 4).find? fun n => !(s.dev.tileOf t.val).copyOn.any fun k => k.tag == n).getD 0
         let rem := remotePlace j.src || remotePlace j.dst
         let k := { j with tag := tag, need := if rem then 1 else if (hostDie j.src).isSome then j.rows else 0 }
         let d := s.fresh.setTile t.val { s.dev.tileOf t.val with copyQ := r, copyOn := (s.dev.tileOf t.val).copyOn ++ [k] }.wakeCopy
         if j.dead then d
         else if remotePlace j.src then d.rpull (reqId (s.dev.tileRq t.val 2 tag)) tag j.src j.dst j.len (some t.val)
         else if remotePlace j.dst then d.rpush (reqId (s.dev.tileRq t.val 2 tag)) tag j.src j.dst j.len k.remoteCount (some t.val)
         else match hostDie j.src with
           | none => d
           | some (n, off) => (upTo j.rows).foldl (fun (d : Dev) m =>
               let st := d.accStatus (j.src + m * j.sstride) j.len
               if st ≠ 0 then (d.logStatus st (j.src + m * j.sstride) j.len (s.dev.stopOf t.val)).emit (.resp (reqId (s.dev.tileRq t.val 2 tag)) tag st [])
               else d.outReq n (s.dev.tileRq t.val 2 tag) (off + m * j.sstride) j.len none) d))
  ∧ (∀ (s : State) (t : LTile), Inv s → ((s.dev.tileOf t.val).copyQ = [] ∨ 4 ≤ (s.dev.tileOf t.val).copyOn.length) → Leaves (.copyStart t) s s.fresh)
  -- COPY_DONE: the oldest active copy that waits for nothing moves its packets in row order; it ends with the status met, or goes on waiting where a
  -- packet waits at a ring gate (R178)
  ∧ (∀ (s : State) (t : LTile) (j : CopyJob), s.dev.tileRuns t.val = true → s.dev.copyReady t.val = some j → j.dead = false →
      remotePlace j.src = false → remotePlace j.dst = false →
      Gives (.copyDone t) s
        (match (s.copyRun t.val j).1.1 with
         | none => (s.copyRun t.val j).2.setCopy t.val (s.copyRun t.val j).1.2
         | some st => ((s.copyRun t.val j).2.copyGone t.val j).copyEnd t.val (s.copyRun t.val j).1.2 (s.copyRun t.val j).1.2.wrote st))
  -- one to or from another device ends with the answer that came, a dead one as cancelled
  ∧ (∀ (s : State) (t : LTile) (j : CopyJob), s.dev.tileRuns t.val = true → s.dev.copyReady t.val = some j → j.dead = false → (remotePlace j.src || remotePlace j.dst) = true →
      Gives (.copyDone t) s
        (let st := (j.ext.map fun x => x.1).getD 0
         (s.fresh.copyGone t.val j).copyEnd t.val j (if st = 0 then j.len else 0) st))
  ∧ (∀ (s : State) (t : LTile) (j : CopyJob), s.dev.tileRuns t.val = true → s.dev.copyReady t.val = some j → j.dead = true →
      Gives (.copyDone t) s ((s.fresh.copyGone t.val j).copyEnd t.val j 0 3))
  -- a packet: at most 128 bytes of a plain row are read, and what stands ready is written on
  ∧ (∀ (s : State) (t : LTile) (j : CopyJob), Inv s → s.dev.tileRuns t.val = true → s.dev.copyReady t.val = some j → s.dev.plainCopy t.val j = true →
      Ends (.copyDone t) s fun d => (d.tileOf t.val).copyOn = (s.dev.tileOf t.val).copyOn.filter (fun k => k.tag != j.tag)
        ∧ (∀ n : Fin 128, n.val < j.len → d.rawRead (j.dst + n.val) 1 = s.dev.rawRead (j.src + n.val) 1)
        ∧ (∀ a : Fin 256, j.dst + j.len ≤ 0x020000200000 + a.val * 64 ∨ 0x020000200000 + a.val * 64 < j.dst → d.rawRead (0x020000200000 + a.val * 64) 1 = s.dev.rawRead (0x020000200000 + a.val * 64) 1)
        ∧ (d.tileOf t.val).arrivedOf j.ctr = ((s.dev.tileOf t.val).arrivedOf j.ctr + if j.count then 1 else 0) % 2 ^ 32)
  ∧ (∀ (s : State) (t : LTile), Inv s → (s.dev.tileRuns t.val = false ∨ s.dev.copyReady t.val = none) → Leaves (.copyDone t) s s.fresh)

/-- Flow instructions (R374 to R377).
It says where these complete with their own effect: br, split, join, call, ret, exit, trap, tret. -/
def Obligations.VectorFlow : Prop :=
  -- BR with every active thread: the group goes to PC + 8 × IMM
  (∀ (s : State) (i : VI), Inv s → Issues s.dev { im := true } i → s.dev.iAct i ≠ 0 → s.dev.iAct i = (s.dev.iGrp i).active → (s.dev.iGrp i).backOut (viTarget i (s.dev.iGrp i)) = false →
    Leaves (.br i) s (s.fresh.setGrp i.t.val i.g.val ((s.dev.iGrp i).goTo (viTarget i (s.dev.iGrp i)))))
  -- with some of them inside a SPLIT: the others go on, those that branch wait
  ∧ (∀ (s : State) (i : VI) (e : Recon) (r : List Recon), Inv s → Issues s.dev { im := true } i → s.dev.iAct i ≠ 0 → s.dev.iAct i ≠ (s.dev.iGrp i).active →
      (s.dev.iGrp i).backOut (viTarget i (s.dev.iGrp i)) = false → (s.dev.iGrp i).stack = e :: r → e.phase = 0 →
      Leaves (.br i) s
        (s.fresh.setGrp i.t.val i.g.val ({ s.dev.iGrp i with active := (s.dev.iGrp i).active - s.dev.iAct i, stack := { e with phase := 1, waiting := s.dev.iAct i, target := viTarget i (s.dev.iGrp i) } :: r }.goTo
          ((s.dev.iGrp i).pc + 8))))
  -- outside a SPLIT that parks the group
  ∧ (∀ (s : State) (i : VI), Inv s → Issues s.dev { im := true } i → s.dev.iAct i ≠ 0 → s.dev.iAct i ≠ (s.dev.iGrp i).active → (s.dev.iGrp i).stack = [] →
      Leaves (.br i) s (s.fresh.park i.t.val i.g.val 4))
  -- SPLIT opens a divergence, at most 16 deep
  ∧ (∀ (s : State) (i : VI), Inv s → Issues s.dev { im := true } i → s.dev.iAct i ≠ 0 →
      Leaves (.split i) s
        (if 16 ≤ (s.dev.iGrp i).stack.length then s.fresh.park i.t.val i.g.val 3
         else s.fresh.setGrp i.t.val i.g.val
           ({ s.dev.iGrp i with stack := { mask := (s.dev.iGrp i).active, pc := viTarget i (s.dev.iGrp i), split := (s.dev.iGrp i).pc } :: (s.dev.iGrp i).stack }.goTo ((s.dev.iGrp i).pc + 8))))
  -- JOIN closes it: every thread of the SPLIT that is left runs
  ∧ (∀ (s : State) (i : VI) (e : Recon) (r : List Recon), Inv s → Issues s.dev {} i → (s.dev.iGrp i).stack = e :: r →
      Leaves (.join i) s
        (s.fresh.setGrp i.t.val i.g.val ({ s.dev.iGrp i with active := Nat.land e.mask (s.dev.iGrp i).alive, stack := r }.goTo ((s.dev.iGrp i).pc + 8))))
  -- CALL with a window free: a fresh window of zeros whose w15 holds the return address
  ∧ (∀ (s : State) (i : VI), Inv s → Issues s.dev { im := true } i → s.dev.iAct i ≠ 0 → (s.dev.iGrp i).live < 8 →
      (s.dev.iGrp i).frame < 8 → (s.dev.iGrp i).pc + 8 < 2 ^ 32 →
      Ends (.call i) s fun d => (d.iGrp i).pc = viTarget i (s.dev.iGrp i) ∧ (d.iGrp i).frame = ((s.dev.iGrp i).frame + 1) % 8 ∧ (d.iGrp i).live = (s.dev.iGrp i).live + 1 ∧ d.mem = s.dev.mem
        ∧ (∀ l : Fin 32, (d.iGrp i).reg i.t.val i.g.val d.now l.val 15 = (s.dev.iGrp i).pc + 8 ∧ (d.iGrp i).reg i.t.val i.g.val d.now l.val 0 = 0))
  -- with none free and no room to spill it parks the group with WIN_DOUBLE
  ∧ (∀ (s : State) (i : VI), Inv s → Issues s.dev { im := true } i → s.dev.iAct i ≠ 0 → (s.dev.iGrp i).live = 8 → (s.dev.iGrp i).noRoom = true →
      Leaves (.call i) s (s.fresh.park i.t.val i.g.val 1 0))
  -- within the trap window it parks too; otherwise the oldest window is spilled first
  ∧ (∀ (s : State) (i : VI), Issues s.dev { im := true } i → s.dev.iAct i ≠ 0 → (s.dev.iGrp i).live = 8 → (s.dev.iGrp i).noRoom = false →
      Gives (.call i) s
        (if (s.dev.iGrp i).inTrap then s.fresh.park i.t.val i.g.val 1 1
         else
          let d := s.fresh.spill i.t.val i.g.val
          let w := ((s.dev.iGrp i).frame + 1) % 8
          d.setGrp i.t.val i.g.val
            ({ d.iGrp i with win := (upTo 512).foldl (fun n k => Sparse.set 0 n (winKey w (k % 16) (k / 16)) (if k % 16 = 15 then (s.dev.iGrp i).pc + 8 else 0)) (d.iGrp i).win, frame := w, live := 8 }.goTo
              (viTarget i (s.dev.iGrp i)))))
  -- RET goes back to w15 of the lowest acting thread and one window back
  ∧ (∀ (s : State) (i : VI), Inv s → Issues s.dev { w15 := true } i → s.dev.iAct i ≠ 0 → 1 < (s.dev.iGrp i).live →
      Leaves (.ret i) s
        ((s.fresh.counted i).setGrp i.t.val i.g.val ({ s.dev.iGrp i with frame := ((s.dev.iGrp i).frame + 7) % 8, live := max 1 ((s.dev.iGrp i).live - 1) }.goTo
          ((s.dev.iGrp i).reg i.t.val i.g.val s.dev.now (firstLane (s.dev.iAct i)) 15))))
  -- with no window to go back to it parks the group
  ∧ (∀ (s : State) (i : VI), Inv s → Issues s.dev { w15 := true } i → s.dev.iAct i ≠ 0 → (s.dev.iGrp i).live = 1 → (s.dev.iGrp i).spill = 0 → Leaves (.ret i) s ((s.fresh.counted i).park i.t.val i.g.val 2))
  -- with one that is spilled it is filled first; within the trap window that parks the group as the nested overflow of R378
  ∧ (∀ (s : State) (i : VI), Issues s.dev { w15 := true } i → s.dev.iAct i ≠ 0 → (s.dev.iGrp i).live = 1 → (s.dev.iGrp i).spill ≠ 0 →
      Gives (.ret i) s
        (if (s.dev.iGrp i).inTrap then (s.fresh.counted i).park i.t.val i.g.val 1 1
         else
          let d := (s.fresh.counted i).fillWin i.t.val i.g.val
          d.setGrp i.t.val i.g.val ({ d.iGrp i with frame := ((s.dev.iGrp i).frame + 7) % 8, live := 1 }.goTo
            ((s.dev.iGrp i).reg i.t.val i.g.val s.dev.now (firstLane (s.dev.iAct i)) 15))))
  -- EXIT of every thread that is left ends the group
  ∧ (∀ (s : State) (i : VI), Issues s.dev {} i → s.dev.iAct i ≠ 0 → (s.dev.iGrp i).alive - Nat.land (s.dev.iGrp i).alive (s.dev.iAct i) = 0 →
      Gives (.exit i) s
        ((s.fresh.setGrp i.t.val i.g.val { s.dev.iGrp i with active := (s.dev.iGrp i).active - s.dev.iAct i, alive := 0 }).groupEnd i.t.val i.g.val false))
  -- of some of them: the others go on
  ∧ (∀ (s : State) (i : VI), Inv s → Issues s.dev {} i → s.dev.iAct i ≠ 0 → (s.dev.iGrp i).alive - Nat.land (s.dev.iGrp i).alive (s.dev.iAct i) ≠ 0 → (s.dev.iGrp i).active - s.dev.iAct i ≠ 0 →
      Leaves (.exit i) s
        ((s.fresh.setGrp i.t.val i.g.val { s.dev.iGrp i with active := (s.dev.iGrp i).active - s.dev.iAct i, alive := (s.dev.iGrp i).alive - Nat.land (s.dev.iGrp i).alive (s.dev.iAct i) }).vxNext
          i.t.val i.g.val))
  -- TRAP saves the next PC, the active threads and LIVE, and goes to the trap vector (log entry 73); within the trap window it parks
  ∧ (∀ (s : State) (i : VI), Inv s → Issues s.dev { rb := true } i → s.dev.iAct i ≠ 0 →
      Leaves (.trap i) s
        (if (s.dev.iGrp i).inTrap then (s.fresh.counted i).park i.t.val i.g.val 13
         else (s.fresh.counted i).setGrp i.t.val i.g.val ({ s.dev.iGrp i with inTrap := true, trapPc := (s.dev.iGrp i).pc + 8, trapMask := (s.dev.iGrp i).active, trapLive := (s.dev.iGrp i).live, trapArg := s.dev.iB i (firstLane (s.dev.iAct i)) }.goTo
           (s.dev.iGrp i).trapVec)))
  -- TRET goes back
  ∧ (∀ (s : State) (i : VI), Inv s → Issues s.dev {} i → s.dev.iAct i ≠ 0 →
      Leaves (.tret i) s
        (if (s.dev.iGrp i).inTrap then
          s.fresh.setGrp i.t.val i.g.val ({ s.dev.iGrp i with inTrap := false, active := Nat.land (s.dev.iGrp i).trapMask (s.dev.iGrp i).alive }.goTo (s.dev.iGrp i).trapPc)
         else s.fresh.park i.t.val i.g.val 5))

/-- The fields of a lane instruction. -/
abbrev Sys2Proof.Machine.laneUse (b : Bool) : VUse := { fm := [0, 1, 2, 5, 6, 7], rd := true, ra := true, rb := b }

/-- Lane and system instructions, and the control registers of a group (R368, R372, R373, R378, R380).
It says where these complete with their own effect: shfl, vote, red, gbar, vxFence, lockacq, lockacqw, lockrel, vxNop, brk,
grpReplay, grpAbort, spillBaseWrite, spillLimitWrite. -/
def Obligations.LaneSystemAndGroups : Prop :=
  -- SHFL: each acting thread takes RA of the acting lane its operand names
  (∀ (s : State) (i : VI), Inv s → Issues s.dev (laneUse true) i → ((lanesOf (s.dev.iAct i)).all fun l => decide (s.dev.iB i l < 32) && bitAt (s.dev.iAct i) (s.dev.iB i l)) = true →
    WritesRd (.shfl i) i s fun l => s.dev.iA i (s.dev.iB i l))
  -- VOTE: any, all, and the mask of the acting threads whose RA is not 0
  ∧ (∀ (s : State) (i : VI), Inv s → Issues s.dev (laneUse false) i →
      WritesRd (.vote i .any) i s (fun _ => if (lanesOf (s.dev.iAct i)).any fun l => s.dev.iA i l != 0 then 1 else 0)
      ∧ WritesRd (.vote i .ballot) i s (fun _ => ((lanesOf (s.dev.iAct i)).map fun l => bitIf (s.dev.iA i l != 0) l).sum))
  ∧ (∀ (s : State) (i : VI) (op : VoteOp), Inv s → Issues s.dev (laneUse false) i → s.dev.iAct i = 2 ^ 32 - 1 → op = .all →
      WritesRd (.vote i op) i s (fun _ => if (lanesOf (s.dev.iAct i)).all fun l => s.dev.iA i l != 0 then 1 else 0))
  -- RED over the acting threads, integers
  ∧ (∀ (s : State) (i : VI), Inv s → Issues s.dev (laneUse false) i → i.fmt = 0 → s.dev.iAct i ≠ 0 →
      WritesRd (.red i .add) i s (fun _ => ((lanesOf (s.dev.iAct i)).map fun l => s.dev.iA i l).sum % 2 ^ 32))
  ∧ (∀ (s : State) (i : VI) (l k : Fin 32), Inv s → Issues s.dev (laneUse false) i → i.fmt = 0 → lanesOf (s.dev.iAct i) = [l.val, k.val] →
      WritesRd (.red i .min) i s (fun _ => if toSigned 32 (s.dev.iA i k.val) < toSigned 32 (s.dev.iA i l.val) then s.dev.iA i k.val else s.dev.iA i l.val)
      ∧ WritesRd (.red i .max) i s (fun _ => if toSigned 32 (s.dev.iA i l.val) < toSigned 32 (s.dev.iA i k.val) then s.dev.iA i k.val else s.dev.iA i l.val))
  -- GBAR: the group waits; once every group of the VXRUN waits, all go on
  ∧ (∀ (s : State) (i : VI) (r : Nat × Nat), Inv s → Issues s.dev {} i → s.dev.iAct i ≠ 0 → (s.dev.iGrp i).run = some r →
      Leaves (.gbar i) s
        (s.fresh.setTile i.t.val (((s.dev.tileOf i.t.val).setGrp i.g.val { s.dev.iGrp i with st := 2, wait := .gbar }).gbarCheck r)))
  -- FENCE: with IMM[0] it waits for the group's device stores, otherwise it goes on
  ∧ (∀ (s : State) (i : VI), Inv s → Issues s.dev { im := true } i → s.dev.iAct i ≠ 0 →
      Leaves (.vxFence i) s
        (if i.imm.toNat % 2 = 1 ∧ (s.dev.iGrp i).stores ≠ [] then s.fresh.setGrp i.t.val i.g.val { s.dev.iGrp i with st := 2, wait := .fence } else s.fresh.vxNext i.t.val i.g.val))
  -- the lock instructions send their request and wait for its answer
  ∧ (∀ (s : State) (i : VI), Inv s → Issues s.dev { rd := true, ra := true } i → s.dev.iAct i ≠ 0 →
      let w := (s.fresh.counted i).setGrp i.t.val i.g.val { s.dev.iGrp i with st := 2, wait := .lock i.rd.val (s.dev.iAct i) }
      let k := s.dev.iA i (firstLane (s.dev.iAct i)) % 256
      Leaves (.lockacq i) s (w.lockAsk (s.dev.stopOf i.t.val) 0 (0x400 + i.g.val) k 0) ∧ Leaves (.lockacqw i) s (w.lockAsk (s.dev.stopOf i.t.val) 0 (0x400 + i.g.val) k 1)
        ∧ Leaves (.lockrel i) s (w.lockAsk (s.dev.stopOf i.t.val) 0 (0x400 + i.g.val) k 2))
  -- NOP goes on; BRK parks the group with BREAK, class I
  ∧ (∀ (s : State) (i : VI), Inv s → Issues s.dev {} i →
      Leaves (.vxNop i) s (s.fresh.vxNext i.t.val i.g.val) ∧ (s.dev.iAct i ≠ 0 → Leaves (.brk i) s (s.fresh.park i.t.val i.g.val 16)))
  -- GRP_REPLAY: a parked group runs again at its PC
  ∧ (∀ (s : State) (t : PTile) (g : Fin 16) (p : Path) (v : Word64), Reaches s.dev p (grpReg t.val g.val 0x28) → s.dev.ltile t.val < 64 → bits v.toNat 48 16 = 0x6A51 → v.getLsbD 0 = true → v.getLsbD 1 = false →
      (s.dev.grp (s.dev.ltile t.val) g.val).st = 3 → (s.dev.grp (s.dev.ltile t.val) g.val).cause ≠ 1 →
      Gives (.grpReplay t g p v) s ((s.fresh.setGrp (s.dev.ltile t.val) g.val { s.dev.grp (s.dev.ltile t.val) g.val with st := 1 }).emit .wrDone))
  -- one that lacks a window has it spilled or filled first, and parks again where there is no room
  ∧ (∀ (s : State) (t : PTile) (g : Fin 16) (p : Path) (v : Word64), Reaches s.dev p (grpReg t.val g.val 0x28) → s.dev.ltile t.val < 64 → bits v.toNat 48 16 = 0x6A51 → v.getLsbD 0 = true → v.getLsbD 1 = false →
      (s.dev.grp (s.dev.ltile t.val) g.val).st = 3 → (s.dev.grp (s.dev.ltile t.val) g.val).cause = 1 →
      Gives (.grpReplay t g p v) s
        ((let u := s.dev.ltile t.val
          let y := s.dev.grp u g.val
          if y.live = 8 then
            if y.noRoom then s.fresh.park u g.val 1 0
            else let d := s.fresh.spill u g.val; d.setGrp u g.val { d.grp u g.val with st := 1, live := 7 }
          else let d := s.fresh.fillWin u g.val; d.setGrp u g.val { d.grp u g.val with st := 1, live := 2 }).emit .wrDone))
  -- REPLAY of a group that is not parked is refused with an entry; so is nothing where neither bit is 1, and a tile held as spare has no group
  ∧ (∀ (s : State) (t : PTile) (g : Fin 16) (p : Path) (v : Word64), Reaches s.dev p (grpReg t.val g.val 0x28) → s.dev.ltile t.val < 64 → bits v.toNat 48 16 = 0x6A51 → v.getLsbD 0 = true →
      (s.dev.grp (s.dev.ltile t.val) g.val).st ≠ 3 → Gives (.grpReplay t g p v) s ((s.fresh.csrAccess (grpReg t.val g.val 0x28) 8 (pathCode p) 3).emit .wrDone))
  ∧ (∀ (s : State) (t : PTile) (g : Fin 16) (p : Path) (v : Word64), s.dev.ltile t.val = 64 →
      (Reaches s.dev p (grpReg t.val g.val 0x28) → Gives (.grpReplay t g p v) s (s.fresh.emit .wrDone) ∧ Gives (.grpAbort t g p v) s (s.fresh.emit .wrDone))
      ∧ (Reaches s.dev p (grpReg t.val g.val 0x18) → Gives (.spillBaseWrite t g p v) s (s.fresh.emit .wrDone))
      ∧ (Reaches s.dev p (grpReg t.val g.val 0x20) → Gives (.spillLimitWrite t g p v) s (s.fresh.emit .wrDone)))
  -- GRP_ABORT ends it
  ∧ (∀ (s : State) (t : PTile) (g : Fin 16) (p : Path) (v : Word64), Reaches s.dev p (grpReg t.val g.val 0x28) → s.dev.ltile t.val < 64 → bits v.toNat 48 16 = 0x6A51 → v.getLsbD 0 = false → v.getLsbD 1 = true →
      (s.dev.grp (s.dev.ltile t.val) g.val).st = 3 →
      Gives (.grpAbort t g p v) s ((s.fresh.groupEnd (s.dev.ltile t.val) g.val true).emit .wrDone))
  -- a wrong key is refused with an entry
  ∧ (∀ (s : State) (t : PTile) (g : Fin 16) (p : Path) (v : Word64), Reaches s.dev p (grpReg t.val g.val 0x28) → s.dev.ltile t.val < 64 → bits v.toNat 48 16 ≠ 0x6A51 →
      Gives (.grpReplay t g p v) s ((s.fresh.csrAccess (grpReg t.val g.val 0x28) 8 (pathCode p) 2).emit .wrDone)
      ∧ Gives (.grpAbort t g p v) s ((s.fresh.csrAccess (grpReg t.val g.val 0x28) 8 (pathCode p) 2).emit .wrDone))
  -- SPILL_BASE and SPILL_LIMIT of a group that is IDLE or PARKED, within scratch and in order
  ∧ (∀ (s : State) (t : PTile) (g : Fin 16) (p : Path) (v : Word64), Reaches s.dev p (grpReg t.val g.val 0x18) → s.dev.ltile t.val < 64 →
      ((s.dev.grp (s.dev.ltile t.val) g.val).st = 0 ∨ (s.dev.grp (s.dev.ltile t.val) g.val).st = 3) → (s.dev.grp (s.dev.ltile t.val) g.val).spill = 0 →
      v.toNat % 2 ^ 21 / 2048 * 2048 ≤ (s.dev.grp (s.dev.ltile t.val) g.val).limit → (s.dev.grp (s.dev.ltile t.val) g.val).limit ≤ s.dev.tcBase →
      Gives (.spillBaseWrite t g p v) s
        ((s.fresh.setGrp (s.dev.ltile t.val) g.val { s.dev.grp (s.dev.ltile t.val) g.val with base := v.toNat % 2 ^ 21 / 2048 * 2048 }).emit .wrDone))
  ∧ (∀ (s : State) (t : PTile) (g : Fin 16) (p : Path) (v : Word64), Reaches s.dev p (grpReg t.val g.val 0x20) → s.dev.ltile t.val < 64 →
      ((s.dev.grp (s.dev.ltile t.val) g.val).st = 0 ∨ (s.dev.grp (s.dev.ltile t.val) g.val).st = 3) →
      (s.dev.grp (s.dev.ltile t.val) g.val).base ≤ v.toNat % 2 ^ 21 / 2048 * 2048 → v.toNat % 2 ^ 21 / 2048 * 2048 ≤ s.dev.tcBase →
      Gives (.spillLimitWrite t g p v) s
        ((s.fresh.setGrp (s.dev.ltile t.val) g.val { s.dev.grp (s.dev.ltile t.val) g.val with limit := v.toNat % 2 ^ 21 / 2048 * 2048 }).emit .wrDone))
  -- a running group keeps them, with an entry
  ∧ (∀ (s : State) (t : PTile) (g : Fin 16) (p : Path) (v : Word64), s.dev.ltile t.val < 64 → ((s.dev.grp (s.dev.ltile t.val) g.val).st = 1 ∨ (s.dev.grp (s.dev.ltile t.val) g.val).st = 2) →
      (Reaches s.dev p (grpReg t.val g.val 0x18) → Gives (.spillBaseWrite t g p v) s ((s.fresh.csrAccess (grpReg t.val g.val 0x18) 8 (pathCode p) 3).emit .wrDone))
      ∧ (Reaches s.dev p (grpReg t.val g.val 0x20) → Gives (.spillLimitWrite t g p v) s ((s.fresh.csrAccess (grpReg t.val g.val 0x20) 8 (pathCode p) 3).emit .wrDone)))

/-- The start-up self-test and the witness rotation (R541 to R547).
It says where these complete with their own effect: selftest, witnessSlot, quietPoint, witSkip, witnessSwitch, patternTestDone,
witOverdue, regSig. -/
def Obligations.WitnessRotation : Prop :=
  -- SELFTEST passed: SELFTEST_OK and COVERED; the rotation starts at identity, with 64 as the spare, and its first slot is due
  (∀ s : State, Inv s → s.dev.live = true → s.dev.load.bDone = false → s.dev.flag SAF_SELFTEST_OK = false → 0x0207 ∉ s.dev.safe.sticky →
    Ends (.selftest 0 0) s fun d => d.flag SAF_SELFTEST_OK = true ∧ d.flag SAF_COVERED = true ∧ d.safe.rotating = true
      ∧ d.safe.map = List.range 64 ∧ d.fld SPARE_SPARE = 64 ∧ d.fld SPARE_EPOCH = 0 ∧ d.flag SPARE_HO = false
      ∧ d.safe.slotAt = s.dev.clk.tick ∧ d.mgt.uart = (s.fresh.uart 0x0A).mgt.uart ∧ d.mem = s.dev.mem ∧ d.tile = s.dev.tile)
  -- SELFTEST failed: a class S SELFTEST_FAIL naming the lowest checker and the tile mask; the rotation does not start
  ∧ (∀ (s : State) (t : BitVec 65), s.dev.live = true → s.dev.load.bDone = false → s.dev.flag SAF_SELFTEST_OK = false →
      0x0207 ∉ s.dev.safe.sticky → t ≠ 0 →
      Gives (.selftest 0 t) s (s.fresh.logEv 0x0207 .S 0 [dC 0, dM 9 t.toNat]))
  -- WITNESS_SLOT, when it is due: the tile after the spare is taken out; the next slot begins 120 µs after this one
  ∧ (∀ (s : State) (o : Nat), o = (s.dev.fld SPARE_SPARE + 1) % 65 → s.dev.live = true → s.dev.safe.rotating = true →
      s.dev.flag SAF_ROT_HALT = false → s.dev.safe.handover = none → s.dev.rep.hold = false → s.dev.rst.reload = none → (s.fresh.tickTo s.dev.safe.slotAt).tileResetting (s.dev.ltile o) = false →
      Gives .witnessSlot s
        (let d := s.fresh.tickTo s.dev.safe.slotAt
         Dev.tileDue
          ((Dev.setF { d with safe := { d.safe with slotAt := s.dev.safe.slotAt + 96000, testing := false, handover := some { out := o, ltile := s.dev.ltile o, begun := d.clk.tick } } }
            SPARE_HO 1).setF SPARE_OUT o)))
  -- a slot whose outgoing tile is under a TILE reset is skipped at once; a second skip in a row is class S
  ∧ (∀ (s : State) (o : Nat), o = (s.dev.fld SPARE_SPARE + 1) % 65 → s.dev.live = true → s.dev.safe.rotating = true →
      s.dev.flag SAF_ROT_HALT = false → s.dev.safe.handover = none → s.dev.rep.hold = false → s.dev.rst.reload = none → (s.fresh.tickTo s.dev.safe.slotAt).tileResetting (s.dev.ltile o) = true →
      Gives .witnessSlot s (let d := s.fresh.tickTo s.dev.safe.slotAt; (Dev.witSkip { d with safe := { d.safe with slotAt := s.dev.safe.slotAt + 96000, testing := false } } o (s.dev.ltile o) 2).tileDue))
  -- while the rotation has halted, or a handover runs, no slot begins
  ∧ (∀ s : State, Inv s → s.dev.rst.tile = [] → (s.dev.flag SAF_ROT_HALT = true ∨ s.dev.safe.handover.isSome = true ∨ s.dev.rep.hold = true) → Leaves .witnessSlot s s.fresh)
  -- QUIET_POINT: reached once every request of the outgoing tile has been answered; the copy of its state begins, from its stop to the spare's
  ∧ (∀ (s : State) (h : Handover), Inv s → s.dev.live = true → s.dev.safe.handover = some h → h.quiet = false → s.dev.tileQuiet h.ltile = true →
      Leaves .quietPoint s { s.fresh with safe := { s.dev.safe with handover := some { h with quiet := true } }, ann := { s.dev.ann with hand := some { src := tileStop h.out, dst := tileStop (s.dev.fld SPARE_SPARE) } } })
  -- WIT_SKIP, QUIET_US after the slot began: no role moves; SKIPS, LAST_SKIP and a class D entry; the spare is tested again; the second skip in a
  -- row also raises the class S fault WIT_SKIP2
  ∧ (∀ (s : State) (h : Handover), s.dev.live = true → s.dev.safe.handover = some h → h.quiet = false →
      Gives .witSkip s
        (let d := s.fresh.tickTo (h.begun + 800 * s.dev.quietUs)
         Dev.tileDue
          (let e := ((((Dev.setF { d with safe := { d.safe with handover := none, skipped := true, testing := true } } SPARE_HO 0).setF
              SPARE_OUT (d.fld SPARE_SPARE)).inc WIT_SKIPS).setF WIT_LAST_SKIP h.out).logEv 0x0201 .D h.out [dU 1 h.out, dU 1 h.ltile, dC 1]
           if s.dev.safe.skipped then e.logEv 0x0202 .S h.out [dU 1 h.out, dU 1 h.ltile] else e)))
  -- WITNESS_SWITCH: the logical tile moves to the old spare, the outgoing tile is the spare, EPOCH rises by 1; in a run the switch falls 24 µs after
  -- the slot began; what waited for the tile goes on
  ∧ (∀ (s : State) (h : Handover), s.dev.live = true → s.dev.safe.handover = some h → h.quiet = true → s.dev.running = false →
      Gives .witnessSwitch s
        (Dev.tileDue
          (Dev.rotating (((((Dev.setF { s.fresh with
            safe := { s.dev.safe with map := s.dev.safe.map.set h.ltile (s.dev.fld SPARE_SPARE), handover := none, skipped := false, testing := true, lastRole := 1 + h.ltile }
            ann := { s.dev.ann with hand := none } } SPARE_SPARE h.out).setF SPARE_OUT h.out).setF SPARE_HO 0).setF
          SPARE_EPOCH ((s.dev.fld SPARE_EPOCH + 1) % 2 ^ 32))) h.ltile id)))
  ∧ (∀ (s : State) (h : Handover), s.dev.live = true → s.dev.safe.handover = some h → h.quiet = true → s.dev.running = true →
      Gives .witnessSwitch s
        (let d := s.fresh.tickTo (h.begun + 19200)
         Dev.tileDue
          (Dev.rotating (((((Dev.setF { d with
            safe := { d.safe with map := d.safe.map.set h.ltile (d.fld SPARE_SPARE), handover := none, skipped := false, testing := true, lastRole := 1 + h.ltile }
            ann := { d.ann with hand := none } } SPARE_SPARE h.out).setF SPARE_OUT h.out).setF SPARE_HO 0).setF
          SPARE_EPOCH ((d.fld SPARE_EPOCH + 1) % 2 ^ 32))) h.ltile id)))
  -- PATTERN_TEST_DONE with the fused signature: the spare's age starts over, and the largest age a tile reached is kept
  ∧ (∀ (s : State) (k : Fin 9), Inv s → s.dev.live = true → s.dev.safe.testing = true → s.dev.flag SAF_ROT_HALT = false →
      (s.dev.clk.ageTick - Sparse.get 0 s.dev.safe.age (s.dev.fld SPARE_SPARE)) / 800 ≤ s.dev.fld WIT_AGEMAX_AGE →
      Leaves (.patternTestDone Config.witSignature k) s
        { s.fresh with safe := { s.dev.safe with testing := false, age := Sparse.set 0 s.dev.safe.age (s.dev.fld SPARE_SPARE) s.dev.clk.ageTick, overdue := Sparse.set false s.dev.safe.overdue (s.dev.fld SPARE_SPARE) false } })
  -- an age beyond the largest so far is that largest one now
  ∧ (∀ (s : State) (k : Fin 9), Inv s → s.dev.live = true → s.dev.safe.testing = true → s.dev.flag SAF_ROT_HALT = false →
      s.dev.fld WIT_AGEMAX_AGE < (s.dev.clk.ageTick - Sparse.get 0 s.dev.safe.age (s.dev.fld SPARE_SPARE)) / 800 →
      Leaves (.patternTestDone Config.witSignature k) s
        (let d := (s.fresh.setF WIT_AGEMAX_AGE (min ((s.dev.clk.ageTick - Sparse.get 0 s.dev.safe.age (s.dev.fld SPARE_SPARE)) / 800) (2 ^ 32 - 1))).setF WIT_AGEMAX_TILE (s.dev.fld SPARE_SPARE)
         { d with safe := { d.safe with testing := false, age := Sparse.set 0 s.dev.safe.age (s.dev.fld SPARE_SPARE) s.dev.clk.ageTick, overdue := Sparse.set false s.dev.safe.overdue (s.dev.fld SPARE_SPARE) false } }))
  -- with another: the rotation halts, COVERED is 0, FAILED names the tile, a class S WIT_FAIL names it and the role it served
  ∧ (∀ (s : State) (g : Word64) (k : Fin 9), s.dev.live = true → s.dev.safe.testing = true → s.dev.flag SAF_ROT_HALT = false →
      g ≠ Config.witSignature →
      Gives (.patternTestDone g k) s
        ((((({ s.fresh with safe := { s.dev.safe with testing := false } }.setF WIT_FAILED (s.dev.fld SPARE_SPARE)).setF SAF_ROT_HALT 1).setF
          SAF_COVERED 0).logEv 0x0203 .S (s.dev.fld SPARE_SPARE)
            [dU 1 (s.dev.fld SPARE_SPARE), dU 1 (s.dev.safe.lastRole - 1), dC k.val, dT g.toNat]).driveSafeN))
  -- WIT_OVERDUE: once a serving tile's age has passed FTTI_MS: class S, once per tile per pass
  ∧ (∀ (s : State) (p : PTile), s.dev.released = true →
      p.val ≠ s.dev.fld SPARE_SPARE → NatSet.has s.dev.safe.overdue p.val = false → s.dev.safe.rotating = true →
      Gives (.witOverdue p) s
        (let d := s.fresh.pass (Sparse.get 0 s.dev.safe.age p.val + 800000 * s.dev.ftti + 1 - s.dev.clk.ageTick)
         Dev.logEv { d with safe := { d.safe with overdue := Sparse.set false d.safe.overdue p.val true } } 0x0204 .S p.val
          [dU 1 p.val, dN ((d.clk.ageTick - Sparse.get 0 s.dev.safe.age p.val) / 800)]))
  ∧ (∀ (s : State) (p : PTile), Inv s → NatSet.has s.dev.safe.overdue p.val = true → Leaves (.witOverdue p) s s.fresh)
  -- REG_SIG: the signature taken at B_DONE still holds, or a class S fault
  ∧ (∀ (s : State) (u : BitVec 32), Inv s → s.dev.released = true → Nat.xor s.dev.regSigNow u.toNat = s.dev.safe.regSig → Leaves (.regSig u) s s.fresh)
  ∧ (∀ (s : State) (u : BitVec 32), s.dev.released = true → Nat.xor s.dev.regSigNow u.toNat ≠ s.dev.safe.regSig →
      Gives (.regSig u) s (s.fresh.logEv 0x020A .S 0 [dT s.dev.safe.regSig, dT (Nat.xor s.dev.regSigNow u.toNat)]))

/-- Wicks and sensor guard channels (R548 to R561).
It says where these complete with their own effect: wickArm, wickDisarm, wickKick, wickExpire, sgdDoorbell, sgdSeal, sgdGuard,
sgdGap. -/
def Obligations.WicksAndChannels : Prop :=
  -- WICK_ARM by a CSR write: bound to the CSR path, armed, its window opens OPEN µs on and closes CLOSE µs on
  (∀ (s : State) (n : Fin 96) (p : Path), Reaches s.dev p (0x201010 + 0x20 * n.val) →
    s.dev.fld WICK_STATE n.val ≠ 1 → s.dev.fld WICK_OPEN n.val < s.dev.fld WICK_CLOSE n.val →
    Gives (.wickArm n p 0x8B14000000000001) s (((s.fresh.setF WICK_CLASS_F 0 n.val).wickArmed n.val none).emit .wrDone))
  -- ignored with a CSR_ACCESS entry: armed already (cause 3), an empty window (cause 4), a wrong KEY (cause 2)
  ∧ (∀ (s : State) (n : Fin 96) (p : Path), Reaches s.dev p (0x201010 + 0x20 * n.val) →
      s.dev.fld WICK_STATE n.val = 1 →
      Gives (.wickArm n p 0x8B14000000000001) s
        (((s.fresh.setF WICK_CLASS_F 0 n.val).csrAccess (0x201010 + 0x20 * n.val) 8 (pathCode p) 3).emit .wrDone))
  ∧ (∀ (s : State) (n : Fin 96) (p : Path), Reaches s.dev p (0x201010 + 0x20 * n.val) →
      s.dev.fld WICK_STATE n.val ≠ 1 → s.dev.fld WICK_CLOSE n.val ≤ s.dev.fld WICK_OPEN n.val →
      Gives (.wickArm n p 0x8B14000000000001) s
        (((s.fresh.setF WICK_CLASS_F 0 n.val).csrAccess (0x201010 + 0x20 * n.val) 8 (pathCode p) 4).emit .wrDone))
  ∧ (∀ (s : State) (n : Fin 96) (p : Path), Reaches s.dev p (0x201010 + 0x20 * n.val) →
      Gives (.wickKick n p 0xC) s
        (((s.fresh.setF WICK_CLASS_F 1 n.val).csrAccess (0x201010 + 0x20 * n.val) 8 (pathCode p) 2).emit .wrDone))
  -- WICK_DISARM: an armed wick is disarmed; only a new arm leaves EXPIRED
  ∧ (∀ (s : State) (n : Fin 96) (p : Path), Reaches s.dev p (0x201010 + 0x20 * n.val) →
      Gives (.wickDisarm n p 0x8B14000000000002) s
        ((if s.dev.fld WICK_STATE n.val = 1 then (s.fresh.setF WICK_CLASS_F 0 n.val).setF WICK_STATE 0 n.val
          else s.fresh.setF WICK_CLASS_F 0 n.val).emit .wrDone))
  -- WICK_KICK inside the window, its last tick included: counted, and the next window opens
  ∧ (∀ (s : State) (n : Fin 96) (p : Path) (o c : Nat), Inv s → Reaches s.dev p (0x201010 + 0x20 * n.val) →
      s.dev.fld WICK_STATE n.val = 1 → Sparse.get (0, 0) s.dev.safe.wicks n.val = (o, c) → o ≤ s.dev.clk.tick → s.dev.clk.tick ≤ c →
      Ends (.wickKick n p 0x8B14000000000004) s fun d => d.fld WICK_KICKS n.val = satAdd 32 (s.dev.fld WICK_KICKS n.val) 1
        ∧ Sparse.get (0, 0) d.safe.wicks n.val = (s.dev.clk.tick + 800 * s.dev.fld WICK_OPEN n.val, s.dev.clk.tick + 800 * s.dev.fld WICK_CLOSE n.val)
        ∧ d.fld WICK_STATE n.val = 1 ∧ d.ember = s.dev.ember ∧ d.mem = s.dev.mem)
  -- before it: the wick expires early, class S
  ∧ (∀ (s : State) (n : Fin 96) (p : Path), Reaches s.dev p (0x201010 + 0x20 * n.val) → s.dev.fld WICK_STATE n.val = 1 →
      s.dev.clk.tick < (Sparse.get (0, 0) s.dev.safe.wicks n.val).1 →
      Gives (.wickKick n p 0x8B14000000000004) s (((s.fresh.setF WICK_CLASS_F 0 n.val).wickGone n.val true).emit .wrDone))
  -- after it: the wick expires late and the kick is counted in IGNORED
  ∧ (∀ (s : State) (n : Fin 96) (p : Path), Reaches s.dev p (0x201010 + 0x20 * n.val) → s.dev.fld WICK_STATE n.val = 1 →
      (Sparse.get (0, 0) s.dev.safe.wicks n.val).1 ≤ s.dev.clk.tick → (Sparse.get (0, 0) s.dev.safe.wicks n.val).2 < s.dev.clk.tick →
      Gives (.wickKick n p 0x8B14000000000004) s ((((s.fresh.setF WICK_CLASS_F 0 n.val).wickGone n.val false).inc WICK_IGNORED 1 n.val).emit .wrDone))
  -- of a wick that is not armed: counted in IGNORED
  ∧ (∀ (s : State) (n : Fin 96) (p : Path), Reaches s.dev p (0x201010 + 0x20 * n.val) →
      s.dev.fld WICK_STATE n.val ≠ 1 →
      Gives (.wickKick n p 0x8B14000000000004) s (((s.fresh.setF WICK_CLASS_F 0 n.val).inc WICK_IGNORED 1 n.val).emit .wrDone))
  -- WICK_EXPIRE, when its window ends: EXPIRED, not early, class S or class F with its vector; a wick not armed does not expire
  ∧ (∀ (s : State) (n : Fin 96), s.dev.live = true → s.dev.fld WICK_STATE n.val = 1 →
      Gives (.wickExpire n) s
        (let d := s.fresh.tickTo (Sparse.get (0, 0) s.dev.safe.wicks n.val).2
         let det := [dU 1 n.val, dC 0, dU 1 (d.fld WICK_ENGINE n.val), dN (if d.flag WICK_BIND n.val then d.fld CE_NEXT_SEQ (d.fld WICK_ENGINE n.val) else 0)]
         let e := (d.setF WICK_STATE 2 n.val).setF WICK_EARLY 0 n.val
         if s.dev.flag WICK_CLASS_F n.val then e.logF 0x0205 n.val det else e.logEv 0x0205 .S n.val det))
  ∧ (∀ (s : State) (n : Fin 96), Inv s → s.dev.fld WICK_STATE n.val ≠ 1 → Leaves (.wickExpire n) s s.fresh)
  -- SGD_DOORBELL to a guarding channel: queued with its time, up to four; a full queue drops it with a class D SGD_OVERRUN
  ∧ (∀ (s : State) (n : Fin 32) (p : Path) (v : Word64), Reaches s.dev p (0x500020 + 0x40 * n.val) →
      s.dev.fld SGD_MODE n.val = 2 → v.toNat % 2 ^ 16 < s.dev.fld SGD_NSLOT n.val → (s.dev.sgdOf n.val).bells.length < 4 →
      Gives (.sgdDoorbell n p v) s
        ((s.fresh.setSgd n.val { s.dev.sgdOf n.val with
          bells := (s.dev.sgdOf n.val).bells ++ [{ slot := v.toNat % 2 ^ 16, len := v.toNat / 2 ^ 16 % 2 ^ 32, at_ := s.dev.now }]
          lastDb := some s.dev.clk.tick
          gapUp := false }).emit .wrDone))
  ∧ (∀ (s : State) (n : Fin 32) (p : Path) (v : Word64), Reaches s.dev p (0x500020 + 0x40 * n.val) →
      s.dev.fld SGD_MODE n.val = 2 → v.toNat % 2 ^ 16 < s.dev.fld SGD_NSLOT n.val → 4 ≤ (s.dev.sgdOf n.val).bells.length →
      Gives (.sgdDoorbell n p v) s ((s.fresh.logEv 0x0502 .D n.val [dU 1 n.val, dU 2 (v.toNat % 2 ^ 16)]).emit .wrDone))
  -- a SLOT past the ring is ignored with an entry; a channel that is OFF drops it
  ∧ (∀ (s : State) (n : Fin 32) (p : Path) (v : Word64), Reaches s.dev p (0x500020 + 0x40 * n.val) → s.dev.fld SGD_NSLOT n.val ≤ v.toNat % 2 ^ 16 → v.toNat % 2 ^ 16 ≠ 0 →
      Gives (.sgdDoorbell n p v) s ((s.fresh.csrAccess (0x500020 + 0x40 * n.val) 8 (pathCode p) 4).emit .wrDone))
  ∧ (∀ (s : State) (n : Fin 32) (p : Path) (v : Word64), Reaches s.dev p (0x500020 + 0x40 * n.val) → v.toNat % 2 ^ 16 < s.dev.fld SGD_NSLOT n.val → s.dev.fld SGD_MODE n.val % 3 = 0 →
      Gives (.sgdDoorbell n p v) s (s.fresh.emit .wrDone))
  -- SGD_SEAL: the doorbell is taken, the header goes in front of the payload with the counter and the time of the doorbell; the counter rises
  ∧ (∀ (s : State) (n : Fin 32) (b : SgdBell) (r : List SgdBell), Inv s → s.dev.live = true → s.dev.fld SGD_MODE n.val = 1 →
      (s.dev.sgdOf n.val).bells = b :: r → s.dev.fld SGD_VER n.val = 0 → s.dev.fld SGD_FROZEN_N n.val = 0 →
      let a := 4096 * s.dev.fld SGD_RING_BASE n.val + b.slot * s.dev.sgdBuf n.val
      let d0 := s.fresh.setSgd n.val { s.dev.sgdOf n.val with bells := r }
      let rd := d0.accRead mgmtStop (a + 32) b.len
      let d := rd.2.2
      let head := leBytes 2 0x5A3C ++ leBytes 1 (d.fld SGD_SRC_ID n.val) ++ leBytes 1 0 ++ leBytes 4 b.len ++ leBytes 8 (d.fld SGD_CNT n.val)
        ++ leBytes 8 b.at_ ++ leBytes 4 0
      Ends (.sgdSeal n) s fun e => (e.sgdOf n.val).bells = r ∧ e.freeCtr = d.freeCtr + 1
        ∧ e.fld SGD_CNT n.val = (d.fld SGD_CNT n.val + 1) % 2 ^ 64 ∧ e.fld SGD_FRAMES n.val = satAdd 32 (s.dev.fld SGD_FRAMES n.val) 1
        ∧ (rd.1 = 0 → e.mem = (Dev.accWrite { d with freeCtr := d.freeCtr + 1 } mgmtStop a (allOn (head ++ leBytes 4 (crc32 (head ++ rd.2.1))))).2.mem))
  -- SGD_GUARD: a frame that cannot be read whole, or is poisoned, carries bit 9; one whose CRC does not match carries bit 2
  ∧ (∀ (s : State) (n : Fin 32) (b : SgdBell) (r : List SgdBell), Inv s → s.dev.live = true → s.dev.fld SGD_MODE n.val = 2 →
      (s.dev.sgdOf n.val).bells = b :: r →
      let a := 4096 * s.dev.fld SGD_RING_BASE n.val + b.slot * s.dev.sgdBuf n.val
      let most := s.dev.sgdBuf n.val - 32
      let rh := (s.fresh.setSgd n.val { s.dev.sgdOf n.val with bells := r }).accRead mgmtStop a 32
      let len := leNat ((rh.2.1.drop 4).take 4)
      let rp := rh.2.2.accRead mgmtStop (a + 32) (if len = 0 ∨ most < len then most else len)
      let form := bitIf (leNat (rh.2.1.take 2) != 0x5A3C || len == 0 || decide (most < len) || leNat ((rh.2.1.drop 3).take 1) != 0
        || leNat ((rh.2.1.drop 24).take 4) != 0) 1
      (rh.1 ≠ 0 ∨ rp.1 ≠ 0 → Gives (.sgdGuard n) s (rp.2.2.sgdVerdict n.val b.slot (form + 2 ^ 9) 0 (leNat ((rh.2.1.drop 8).take 8))))
        ∧ (rh.1 = 0 → rp.1 = 0 → crc32 (rh.2.1.take 28 ++ rp.2.1) ≠ leNat (rh.2.1.drop 28) →
          Gives (.sgdGuard n) s (rp.2.2.sgdVerdict n.val b.slot (form + 2 ^ 2) 0 (leNat ((rh.2.1.drop 8).take 8)))))
  -- a frame with no bit set is accepted: the expected counter is one more than its own, its counter and time are the last accepted
  ∧ (∀ (s : State) (n : Fin 32) (b : SgdBell) (r : List SgdBell), Inv s → s.dev.live = true → s.dev.fld SGD_MODE n.val = 2 →
      (s.dev.sgdOf n.val).bells = b :: r → s.dev.fld SGD_VER n.val = 0 →
      let a := 4096 * s.dev.fld SGD_RING_BASE n.val + b.slot * s.dev.sgdBuf n.val
      let rh := (s.fresh.setSgd n.val { s.dev.sgdOf n.val with bells := r }).accRead mgmtStop a 32
      let len := leNat ((rh.2.1.drop 4).take 4)
      let rp := rh.2.2.accRead mgmtStop (a + 32) len
      let counter := leNat ((rh.2.1.drop 8).take 8)
      rh.1 = 0 ∧ rp.1 = 0 ∧ leNat (rh.2.1.take 2) = 0x5A3C ∧ 0 < len ∧ len + 32 ≤ s.dev.sgdBuf n.val ∧ leNat ((rh.2.1.drop 3).take 1) = 0
        ∧ leNat ((rh.2.1.drop 24).take 4) = 0 ∧ crc32 (rh.2.1.take 28 ++ rp.2.1) = leNat (rh.2.1.drop 28)
        ∧ (rp.2.2.sgdJudge n.val rh.2.1 rp.2.1).1 = 0 →
      Ends (.sgdGuard n) s fun e => (e.sgdOf n.val).lastCnt = some counter ∧ (e.sgdOf n.val).lastTs = some (leNat ((rh.2.1.drop 16).take 8))
        ∧ e.fld SGD_CNT n.val = (counter + 1) % 2 ^ 64 ∧ e.fld SGD_BASELINE n.val = 1 ∧ (e.sgdOf n.val).bells = r)
  -- a frame that fails adds 1 to FRAMES and to FAULTS
  ∧ (∀ (s : State) (n : Fin 32) (b : SgdBell) (r : List SgdBell), Inv s → s.dev.live = true → s.dev.fld SGD_MODE n.val = 2 →
      (s.dev.sgdOf n.val).bells = b :: r → s.dev.fld SGD_VER n.val = 0 → s.dev.accStatus (4096 * s.dev.fld SGD_RING_BASE n.val + b.slot * s.dev.sgdBuf n.val) 32 ≠ 0 →
      Ends (.sgdGuard n) s fun e => (e.sgdOf n.val).bells = r ∧ e.fld SGD_FRAMES n.val = satAdd 32 (s.dev.fld SGD_FRAMES n.val) 1
        ∧ e.fld SGD_FAULTS n.val = satAdd 32 (s.dev.fld SGD_FAULTS n.val) 1 ∧ e.mem = s.dev.mem)
  -- SGD_GAP, MAX_GAP_US after the last doorbell: once per silence, class S or D as configured
  ∧ (∀ (s : State) (n : Fin 32) (t : Nat), s.dev.live = true → s.dev.fld SGD_MAX_GAP n.val ≠ 0 →
      s.dev.fld SGD_MODE n.val % 3 ≠ 0 → (s.dev.sgdOf n.val).lastDb = some t → (s.dev.sgdOf n.val).gapUp = false →
      Gives (.sgdGap n) s
        (let d := s.fresh.tickTo (t + 800 * s.dev.fld SGD_MAX_GAP n.val)
         (d.setSgd n.val { s.dev.sgdOf n.val with gapUp := true }).logEv 0x0503 (if s.dev.flag SGD_CLASS_S n.val then .S else .D) n.val
          [dU 1 n.val, dN ((d.clk.tick - t) / 800)]))
  ∧ (∀ (s : State) (n : Fin 32), Inv s → (s.dev.sgdOf n.val).gapUp = true → Leaves (.sgdGap n) s s.fresh)

/-- SAFE_N, its clear and the safety lock (R562 to R565, R569).
It says where these complete with their own effect: safePin, safClear, safeNRelease, safLock. -/
def Obligations.SafePinAndLock : Prop :=
  -- SAFE_PIN: the pad that reads what the device drives is noted; one that differs sets PIN_MISMATCH and is class S
  (∀ s : State, Inv s → s.dev.safLive = true →
    Leaves (.safePin (!s.dev.safe.low)) s (s.fresh.setF SAF_PIN (if s.dev.safe.low then 0 else 1)))
  ∧ (∀ s : State, s.dev.safLive = true →
      Gives (.safePin s.dev.safe.low) s
        (((s.fresh.setF SAF_PIN (if s.dev.safe.low then 1 else 0)).setF SAF_PIN_MISMATCH 1).logEv 0x0208 .S 0
          [dC (if s.dev.safe.low then 0 else 1), dC (if s.dev.safe.low then 1 else 0)]))
  -- SAF_CLEAR with CLEAR = 1, the KEY and no cause that stays: S_PENDING and SAF_FIRST are cleared, SAF_CLEARED carries what they held
  ∧ (∀ (s : State) (p : Path), Reaches s.dev p 0x200010 → s.dev.safe.sticky = [] → s.dev.rst.rootLost = false →
      s.dev.rst.tripped = false →
      Gives (.safClear p 0x4C2D000000000001) s
        (((((s.fresh.setF SAF_S_PENDING 0).setF SAF_FIRST_EVENT 0).setF SAF_FIRST_TS 0).logEv 0x0209 .I 0
          [dT (s.dev.fld SAF_FIRST_EVENT + s.dev.fld SAF_FIRST_TS * 2 ^ 16)]).emit .wrDone))
  -- while a cause stays the clear is ignored with a CSR_ACCESS entry; so is one with a wrong KEY
  ∧ (∀ (s : State) (p : Path), Reaches s.dev p 0x200010 → (s.dev.safe.sticky ≠ [] ∨ s.dev.rst.rootLost = true ∨ s.dev.rst.tripped = true) →
      Gives (.safClear p 0x4C2D000000000001) s ((s.fresh.csrAccess 0x200010 8 (pathCode p) 3).emit .wrDone))
  ∧ (∀ (s : State) (p : Path) (v : Word64), Reaches s.dev p 0x200010 → v.toNat / 2 ^ 48 ≠ 0x4C2D →
      Gives (.safClear p v) s ((s.fresh.csrAccess 0x200010 8 (pathCode p) 2).emit .wrDone))
  -- SAFE_N_RELEASE: once nothing asserts it, no sooner than 10 µs after it fell
  ∧ (∀ s : State, s.dev.safLive = true → s.dev.safe.low = true → s.dev.flag SAF_S_PENDING = false → s.dev.flag SAF_LOCK = true →
      s.dev.flag SAF_COVERED = true → s.dev.safe.setUp = true → s.dev.safe.reload = false → s.dev.rst.pfail = false →
      Gives .safeNRelease s (let d := s.fresh.tickTo (s.dev.safe.lowAt + 8000)
         ({ d with safe := { d.safe with low := false } }.setF SAF_PIN 1).emit (.pulse "SAFE_N" 1)))
  ∧ (∀ s : State, Inv s → s.dev.flag SAF_S_PENDING = true ∨ s.dev.flag SAF_LOCK = false ∨ s.dev.flag SAF_COVERED = false ∨ s.dev.safe.setUp = false ∨ s.dev.safe.reload = true ∨ s.dev.rst.pfail = true →
      Leaves .safeNRelease s s.fresh)
  -- SAF_LOCK: writing 1 sets it; writing 0 leaves it, set or not
  ∧ (∀ (s : State) (p : Path), Reaches s.dev p 0x200020 →
      Gives (.safLock p 1) s ((s.fresh.setF SAF_LOCK 1).emit .wrDone))
  ∧ (∀ (s : State) (p : Path), Inv s → Reaches s.dev p 0x200020 → s.dev.running = false →
      Ends (.safLock p 0) s fun d => d.flag SAF_LOCK = s.dev.flag SAF_LOCK ∧ d.out = [.wrDone] ∧ d.mem = s.dev.mem ∧ d.ember = s.dev.ember)
  -- while LOCK = 1 a write of SAF_CFG or of a channel's configuration is ignored and writes a CSR_ACCESS entry
  ∧ (∀ (s : State) (p : Path) (v : Word64), Reaches { s.dev with csr := (s.dev.setF SAF_LOCK 0).csr } p 0x200018 → s.dev.flag SAF_LOCK = true →
      Gives (.registerWrite p 0x200018 8 v) s ((s.fresh.csrAccess 0x200018 8 (pathCode p) 6).emit .wrDone))
  ∧ (∀ (s : State) (p : Path) (v : Word64) (n : Fin 32), Reaches { s.dev with csr := (s.dev.setF SAF_LOCK 0).csr } p (0x500000 + 0x40 * n.val) → s.dev.flag SAF_LOCK = true →
      Gives (.registerWrite p (BitVec.ofNat 28 (0x500000 + 0x40 * n.val)) 8 v) s ((s.fresh.csrAccess (0x500000 + 0x40 * n.val) 8 (pathCode p) 6).emit .wrDone))

/-- Traffic of DUTs reaches die `n` in ENDPOINT personality: its controller runs and no ring feeds it (R532). -/
abbrev Sys2Proof.Machine.Dev.golden (d : Dev) (n : Nat) : Prop := d.portUp n = true ∧ d.prtEff PC_MODE n = 3 ∧ d.ringFed n = false

/-- A request has come in: its credit is free and it is captured (R480, R481, R488). -/
abbrev Sys2Proof.Machine.State.reqSeen (s : State) (n : Nat) (q : DutReq) : Dev :=
  (s.fresh.fcFree n q.link.val).captureNow n 0 0 (2 * q.link.val) 0
    (Config.tlpBytes [dutCode q.kind, q.fn.val, q.bar.val, q.off.toNat, q.tag.toNat, q.len] (q.data.map (·.getD 0)))

/-- A request waits for its answer, its budget running from now. -/
abbrev Sys2Proof.Machine.Dev.pended (d : Dev) (n : Nat) (x : DutPend) : Dev := d.setPrt n { d.prtOf n with pend := (d.prtOf n).pend ++ [x] }

/-- The golden endpoint's requests, their answers and stand-ins, outbound requests and injection (R471, R480 to R489).
It says where these complete with their own effect: dutRequest, geAnswer, budgetExpire, injFire, en, outboundRequest,
outboundCompletion. -/
def Obligations.GoldenEndpoint : Prop :=
  -- DUT_REQUEST that no entry matches: UNMATCHED counts it; a non-posted one is answered Unsupported Request at once
  (∀ (s : State) (n : Unit4) (q : DutReq), s.dev.golden n.val → s.dev.dutWaits n.val q = false → dutCfg q.kind = false → s.dev.steerOf n.val q = none →
    Gives (.dutRequest n q) s
      (if q.kind = .memWr then (s.reqSeen n.val q).inc GE_UNMATCHED 1 n.val
       else ((s.reqSeen n.val q).inc GE_UNMATCHED 1 n.val).answer n.val q "Cpl.UR" 0 0 [1] []))
  -- a configuration request waits with its budget running, a write with its answer ready; so does one steered to memory, with the status and
  -- data its target gave (none yet where it waits at a ring gate)
  ∧ (∀ (s : State) (n : Unit4) (q : DutReq), s.dev.golden n.val → s.dev.dutWaits n.val q = false → dutCfg q.kind = true →
      Gives (.dutRequest n q) s
        ((s.reqSeen n.val q).pended n.val { req := q, start := (s.reqSeen n.val q).clk.tick, ans := if q.kind = .cfgWr then some (0, []) else none }))
  ∧ (∀ (s : State) (n : Unit4) (q : DutReq) (i : Nat), s.dev.golden n.val → s.dev.dutWaits n.val q = false → dutCfg q.kind = false → q.kind ≠ .memWr →
      (s.reqSeen n.val q).steerOf n.val q = some i → (s.reqSeen n.val q).fld STEER_KIND n.val i = 1 →
      Gives (.dutRequest n q) s
        (let m := (s.reqSeen n.val q).steerMem n.val i q
         m.2.pended n.val { req := q, start := m.2.clk.tick, ans := m.1 }))
  -- one steered to a region goes to its inbound queue; a region that does not run answers REGION_BUSY
  ∧ (∀ (s : State) (n : Unit4) (q : DutReq) (i : Nat), s.dev.golden n.val → s.dev.dutWaits n.val q = false → dutCfg q.kind = false → q.kind ≠ .memWr →
      (s.reqSeen n.val q).steerOf n.val q = some i → (s.reqSeen n.val q).fld STEER_KIND n.val i = 2 →
      Gives (.dutRequest n q) s
        (let m := (s.reqSeen n.val q).steerRegion n.val i q
         m.2.pended n.val { req := q, start := m.2.clk.tick, ans := m.1.map fun x => (x, []), region := some (m.2.fld STEER_TARGET n.val i % 32, q.tag.toNat) }))
  -- a posted write steered to memory has no answer; one its target refuses is counted in WR_DROP
  ∧ (∀ (s : State) (n : Unit4) (q : DutReq) (i : Nat), s.dev.golden n.val → s.dev.dutWaits n.val q = false → q.kind = .memWr →
      (s.reqSeen n.val q).steerOf n.val q = some i → (s.reqSeen n.val q).fld STEER_KIND n.val i = 1 →
      Gives (.dutRequest n q) s
        (let m := (s.reqSeen n.val q).steerMem n.val i q
         if (m.1.getD (0, [])).1 = 0 then m.2 else m.2.inc GE_WR_DROP 1 n.val))
  -- one that finds 4,096 non-posted requests open, or no place for it, waits at the controller (log entry 164); no other controller serves it
  ∧ (∀ (s : State) (n : Unit4) (q : DutReq), Inv s → (s.dev.portUp n.val = false ∨ s.dev.prtEff PC_MODE n.val ≠ 3 ∨ s.dev.dutWaits n.val q = true) → Leaves (.dutRequest n q) s s.fresh)
  -- GE_ANSWER in or before the expiry tick is sent, the bytes that no part has carried yet
  ∧ (∀ (s : State) (n : Unit4) (t : BitVec 14) (x : DutPend) (st : Nat) (bs : List Byte), s.dev.portUp n.val = true →
      s.dev.pendOf n.val t.toNat = some x → x.req.kind ≠ .cfgRd → x.ans = some (st, bs) → x.withheld = false ∧ x.standin = false →
      s.dev.clk.tick ≤ x.start + s.dev.budget n.val x.req.kind →
      Gives (.geAnswer n ⟨.req t, none⟩) s (Dev.sendAnswer { s.fresh with freeCtr := s.dev.freeCtr + 1 } n.val x st (bs.drop x.sent)))
  -- part of a read's answer goes in a completion of its own, and the request still waits (R483)
  ∧ (∀ (s : State) (n : Unit4) (t : BitVec 14) (x : DutPend) (bs : List Byte) (k : BitVec 13), s.dev.portUp n.val = true →
      s.dev.pendOf n.val t.toNat = some x → x.req.kind = .memRd → x.ans = some (0, bs) → x.withheld = false ∧ x.standin = false → x.sent + k.toNat < x.req.len →
      s.dev.clk.tick ≤ x.start + s.dev.budget n.val x.req.kind →
      Gives (.geAnswer n ⟨.req t, some k⟩) s
        ((Dev.answer { s.fresh with freeCtr := s.dev.freeCtr + 1 } n.val x.req "CplD" 0 0 [0] ((bs.drop x.sent).take k.toNat)).setPend n.val { x with sent := x.sent + k.toNat }))
  -- one that comes after its budget is discarded, counted in LATE_DROP and captured; its stand-in was queued, or is now
  ∧ (∀ (s : State) (n : Unit4) (t : BitVec 14) (x : DutPend) (st : Nat) (bs : List Byte), s.dev.portUp n.val = true →
      s.dev.pendOf n.val t.toNat = some x → x.req.kind ≠ .cfgRd → x.ans = some (st, bs) → x.withheld = false →
      (x.standin = true ∨ x.start + s.dev.budget n.val x.req.kind < s.dev.clk.tick) →
      Gives (.geAnswer n ⟨.req t, none⟩) s
        (let d : Dev := { s.fresh with freeCtr := s.dev.freeCtr + 1 }
         (((if x.standin then d else d.standIn n.val x 1).inc GE_LATE_DROP 1 n.val).captureNow n.val 0 6 (1 + 2 * x.req.link.val) 0 bs).dropPend n.val t.toNat))
  -- BUDGET_EXPIRE, in the expiry tick: the stand-in is queued once, counted and reported
  ∧ (∀ (s : State) (n : Unit4) (t : BitVec 14) (x : DutPend), s.dev.portUp n.val = true → s.dev.pendOf n.val t.toNat = some x → x.withheld = false → x.standin = false →
      Gives (.budgetExpire n (.req t)) s
        (((s.fresh.tickTo (x.start + s.dev.budget n.val x.req.kind)).standIn n.val x 1).setPend n.val { x with standin := true }))
  ∧ (∀ (s : State) (n : Unit4) (t : BitVec 14), Inv s → s.dev.pendOf n.val t.toNat = none → Leaves (.budgetExpire n (.req t)) s s.fresh)
  -- an UpdateFC has a budget too: one in time advertises the credits freed, else the last limits are repeated as a stand-in, once (R481, R483)
  ∧ (∀ (s : State) (n : Unit4) (k : Fin 4) (u : Nat), s.dev.portUp n.val = true → s.dev.prtEff PC_MODE n.val = 3 → (s.dev.fcOf n.val k.val).due = some u → (s.dev.fcOf n.val k.val).stood = false →
      (s.dev.fcOf n.val k.val).hold ≤ s.dev.clk.tick → s.dev.clk.tick ≤ u + s.dev.fcBudget n.val →
      Gives (.geAnswer n ⟨.fc k, none⟩) s
        ((s.fresh.fcSend n.val k.val 1 0 (s.dev.fcOf n.val k.val).freed).setFc n.val k.val { s.dev.fcOf n.val k.val with due := none, adv := (s.dev.fcOf n.val k.val).freed }))
  ∧ (∀ (s : State) (n : Unit4) (k : Fin 4) (u : Nat), s.dev.portUp n.val = true → (s.dev.fcOf n.val k.val).due = some u → (s.dev.fcOf n.val k.val).stood = false →
      (s.dev.fcOf n.val k.val).hold ≤ u + s.dev.fcBudget n.val →
      Gives (.budgetExpire n (.fc k)) s
        ((((s.fresh.tickTo (u + s.dev.fcBudget n.val)).standInLog n.val k.val 0 0 1).fcSend n.val k.val 5 8 (s.dev.fcOf n.val k.val).adv).setFc n.val k.val { s.dev.fcOf n.val k.val with stood := true }))
  -- OUTBOUND_REQUEST: a read leaves as a memory request at OUT_BASE + offset and waits, at most 4,096 at once; a write is answered OK when it has left
  ∧ (∀ (s : State) (n : Unit4) (q : Rq) (o : DevAddr), s.dev.live = true →
      s.dev.accStatus (0x4000_0000_0000 + n.val * 2 ^ 44 + o.toNat % 2 ^ 44) 8 = 0 → s.dev.hostCached (0x4000_0000_0000 + n.val * 2 ^ 44 + o.toNat % 2 ^ 44) = false →
      Gives (.outboundRequest n q o 8 none) s
        (let args := [(s.dev.fld OUT_BASE n.val + o.toNat % 2 ^ 44) % 2 ^ 64, 8, s.dev.fld OUT_FN n.val, s.dev.fld OUT_PASID_EN n.val, s.dev.fld OUT_PASID n.val]
         if 4096 ≤ (s.dev.prtOf n.val).outb.length then s.fresh.setPrt n.val { s.dev.prtOf n.val with outWait := (s.dev.prtOf n.val).outWait ++ [(q, o.toNat % 2 ^ 44, 8)] }
         else
          let d := (s.fresh.captureNow n.val 0 0 1 0 (Config.tlpBytes (0 :: args) [])).toDut n.val "MRd" args []
          d.setPrt n.val { d.prtOf n.val with outb := (d.prtOf n.val).outb ++ [{ q := q, len := 8 }] }))
  ∧ (∀ (s : State) (n : Unit4) (q : Rq) (o : DevAddr) (w : WrBytes), s.dev.live = true →
      s.dev.accStatus (0x4000_0000_0000 + n.val * 2 ^ 44 + o.toNat % 2 ^ 44) w.length = 0 → s.dev.hostCached (0x4000_0000_0000 + n.val * 2 ^ 44 + o.toNat % 2 ^ 44) = false →
      Gives (.outboundRequest n q o 0 (some w)) s
        (let args := [(s.dev.fld OUT_BASE n.val + o.toNat % 2 ^ 44) % 2 ^ 64, w.length, s.dev.fld OUT_FN n.val, s.dev.fld OUT_PASID_EN n.val, s.dev.fld OUT_PASID n.val]
         (((s.fresh.captureNow n.val 0 0 1 0 (Config.tlpBytes (1 :: args) (w.map (·.getD 0)))).toDut n.val "MWr" args (w.map (·.getD 0)))).emit (.resp (reqId q) q.tag.toNat 0 [])))
  -- OUTBOUND_COMPLETION: the oldest outbound read ends OK, with QUEUE_TIMEOUT (8), UNMAPPED (1) or POISON (6); one that waited for a place leaves
  ∧ (∀ (s : State) (n : Unit4) (o : Outb) (r : List Outb) (e : OutEnd), s.dev.portUp n.val = true → (s.dev.prtOf n.val).outb = o :: r →
      Gives (.outboundCompletion n e) s
        (((s.fresh.setPrt n.val { s.dev.prtOf n.val with outb := r }).emit (match e with
          | .ok bs => .resp (reqId o.q) o.q.tag.toNat 0 bs
          | .timeout => .resp (reqId o.q) o.q.tag.toNat 8 []
          | .error => .resp (reqId o.q) o.q.tag.toNat 1 []
          | .poisoned bs => .resp (reqId o.q) o.q.tag.toNat 6 bs)).outNext n.val))
  -- INJ_FIRE of an armed entry: it fires at every EVERY-th trigger, its count falls by 1, at the last one it disarms; event line 4d + 2 pulses
  ∧ (∀ (s : State) (n : Unit4) (i : Fin 16) (v : BitVec 16) (e : Inj), s.dev.portUp n.val = true → s.dev.flag INJ_EN n.val = true →
      Sparse.get {} (s.dev.prtOf n.val).inj i.val = e → e.armed = true → s.dev.fld INJ_TRIG n.val i.val = 0 → (e.seen + 1) % max 1 (s.dev.fld INJ_EVERY n.val i.val) = 0 →
      s.dev.fld INJ_FAULT n.val i.val = 12 → s.dev.fld INJ_TARGET n.val i.val ≤ 3 →
      Gives (.injFire n i v) s
        (((((s.fresh.setPrt n.val { s.dev.prtOf n.val with
            inj := Sparse.set {} (s.dev.prtOf n.val).inj i.val (if e.left ≤ 1 then {} else { e with seen := e.seen + 1, left := e.left - 1 }) }).captureNow n.val 0 7 1 4 []).toDut n.val
          "inject" [12, s.dev.fld INJ_TARGET n.val i.val, s.dev.fld INJ_ARG n.val i.val] [])).eventPulse (4 * n.val + 2)))
  -- one between two of them is counted alone
  ∧ (∀ (s : State) (n : Unit4) (i : Fin 16) (v : BitVec 16) (e : Inj), Inv s → s.dev.portUp n.val = true → s.dev.flag INJ_EN n.val = true →
      Sparse.get {} (s.dev.prtOf n.val).inj i.val = e → e.armed = true → s.dev.fld INJ_TRIG n.val i.val = 0 → (e.seen + 1) % max 1 (s.dev.fld INJ_EVERY n.val i.val) ≠ 0 →
      Leaves (.injFire n i v) s (s.fresh.setPrt n.val { s.dev.prtOf n.val with inj := Sparse.set {} (s.dev.prtOf n.val).inj i.val { e with seen := e.seen + 1 } }))
  -- entries act only while EN = 1
  ∧ (∀ (s : State) (n : Unit4) (i : Fin 16) (v : BitVec 16), Inv s → s.dev.flag INJ_EN n.val = false → Leaves (.injFire n i v) s s.fresh)
  -- EN: clearing it disarms every entry; a wrong KEY changes nothing but a CSR_ACCESS entry
  ∧ (∀ (s : State) (n : Unit4) (p : Path), Inv s → Reaches s.dev p (0x7050000 + 0x100000 * n.val) → s.dev.flag INJ_EN n.val = true →
      Ends (.en n p 0x3A9F000000000000) s fun d => d.flag INJ_EN n.val = false ∧ (d.prtOf n.val).inj = [] ∧ d.ember = s.dev.ember ∧ d.mem = s.dev.mem)
  ∧ (∀ (s : State) (n : Unit4) (p : Path) (v : Word64), Reaches s.dev p (0x7050000 + 0x100000 * n.val) → bits v.toNat 48 16 ≠ 0x3A9F →
      Gives (.en n p v) s ((s.fresh.csrAccess (0x7050000 + 0x100000 * n.val) 8 (pathCode p) 2).emit .wrDone))

/-- Frames, raw words, links, configuration requests and the service port (R475 to R479, R489 to R493, R573, R575).
It says where these complete with their own effect: ethFrameRx, ethFrameTx, rawRxWord, rawTxWord, laneMarginMove, prtLink,
cfgreqGo, cfgreqDone, svcPerst, svcLinkDown, bar2Access, svcLinkUp, prtFwFault. -/
def Obligations.PortTraffic : Prop :=
  -- ETH_FRAME_RX: counted and captured; one over 16,383 bytes is truncated and counted in OVERSIZE; it goes to the block's region when that runs
  (∀ (s : State) (n : Unit4) (p : Fin 16) (f : List Byte) (u : Nat), s.dev.ethOn n.val p.val = true → s.dev.ringFed n.val = false → 64 ≤ f.length →
    Gives (.ethFrameRx n p f u) s
      (let d := (s.fresh.inc EPORT_FRAMES 1 n.val p.val).inc EPORT_FEC_UNC u n.val p.val
       let d := if 16383 < f.length then d.inc EPORT_OVERSIZE 1 n.val p.val else d
       let d := d.captureNow n.val (p.val + 1) 3 (2 * p.val) (if 16383 < f.length ∨ u ≠ 0 then 2 else 0) (f.take 16383)
       if s.dev.regionRuns (s.dev.prtEff ETH_REGION n.val (p.val / 8)) then
        d.emit (.link "ETH.rx" (s.dev.prtEff ETH_REGION n.val (p.val / 8)) [n.val, p.val, d.now, if 16383 < f.length then 1 else 0] (f.take 16383)) else d))
  -- a frame of fewer than 64 bytes does not pass, nor one on a port that is off
  ∧ (∀ (s : State) (n : Unit4) (p : Fin 16) (f : List Byte) (u : Nat), Inv s → (f.length < 64 ∨ s.dev.ethOn n.val p.val = false) → Leaves (.ethFrameRx n p f u) s s.fresh)
  -- ETH_FRAME_TX: sent and captured; a marked frame returns its departure timestamp and its tag
  ∧ (∀ (s : State) (n : Unit4) (p : Fin 16) (f : List Byte) (g : Option (BitVec 16)), s.dev.ethOn n.val p.val = true → 64 ≤ f.length →
      s.dev.regionRuns (s.dev.prtEff ETH_REGION n.val (p.val / 8)) = true →
      Gives (.ethFrameTx n p f g) s
        (let d := (s.fresh.captureNow n.val (p.val + 1) 3 (1 + 2 * p.val) 0 (f.take 16383)).toDut n.val "ETH.tx" [p.val] (f.take 16383)
         match g with
         | none => d
         | some g => ((d.setPrt n.val { d.prtOf n.val with txAdd := Sparse.set 0 (d.prtOf n.val).txAdd p.val 0 }).setF EPORT_TXTS
             ((d.now + Sparse.get 0 (d.prtOf n.val).txAdd p.val) % 2 ^ 48) n.val p.val).setF EPORT_TXTAG g.toNat n.val p.val))
  -- RAW_RX_WORD goes to the lane's gearbox port, alternate words of a pair to alternate ports
  ∧ (∀ (s : State) (n : Unit4) (l : Fin 32) (w : BitVec 128), s.dev.rawOn n.val l.val = true →
      Gives (.rawRxWord n l w) s
        (let k := Sparse.get 0 (s.dev.prtOf n.val).rawRx l.val
         (s.fresh.setPrt n.val { s.dev.prtOf n.val with rawRx := Sparse.set 0 (s.dev.prtOf n.val).rawRx l.val ((k + 1) % 2) }).emit
          (.link "RAW.rx" (s.dev.prtEff RAW_REGION n.val l.val)
            [s.dev.prtEff RAW_PORT n.val l.val + (if s.dev.prtEff RAW_PAIR n.val l.val = 1 then k % 2 else 0)]
            (leBytes (if s.dev.prtEff RAW_W128 n.val l.val = 0 then 8 else 16) w.toNat))))
  -- RAW_TX_WORD is sent; where the fabric does not supply it in time, IDLE_WORD is, and UNDERRUN counts
  ∧ (∀ (s : State) (n : Unit4) (l : Fin 32) (w : Option (BitVec 128)), s.dev.rawOn n.val l.val = true →
      Gives (.rawTxWord n l w) s
        (let k := Sparse.get 0 (s.dev.prtOf n.val).rawTx l.val
         let d := s.fresh.setPrt n.val { s.dev.prtOf n.val with rawTx := Sparse.set 0 (s.dev.prtOf n.val).rawTx l.val ((k + 1) % 2) }
         let b := if s.dev.prtEff RAW_W128 n.val l.val = 0 then 8 else 16
         let port := s.dev.prtEff RAW_PORT n.val l.val + (if s.dev.prtEff RAW_PAIR n.val l.val = 1 then k % 2 else 0)
         match w with
         | some v => d.emit (.link "RAW.tx" n.val [l.val, port] (leBytes b v.toNat))
         | none => (d.inc RAW_UNDERRUN 1 n.val l.val).emit (.link "RAW.tx" n.val [l.val, port] (fillBytes (s.dev.prtEff RAW_IDLE n.val l.val) b))))
  -- a lane that the multiplexer gives to no raw binding, or whose controller is down, passes no word
  ∧ (∀ (s : State) (n : Unit4) (l : Fin 32) (w : BitVec 128), Inv s → (s.dev.portUp n.val = false ∨ s.dev.fld LANE_MUX n.val l.val ≠ 2) →
      Leaves (.rawRxWord n l w) s s.fresh ∧ Leaves (.rawTxWord n l (some w)) s s.fresh)
  -- LANE_MARGIN_MOVE: a burst of 16 or more errors is a move of loop 4; a smaller one moves nothing
  ∧ (∀ (s : State) (n : Unit4) (l : Fin 32) (e : Nat) (v : BitVec 32), s.dev.portUp n.val = true → 16 ≤ e →
      Gives (.laneMarginMove n l e v) s (s.fresh.safeside 4 v.toInt))
  ∧ (∀ (s : State) (n : Unit4) (l : Fin 32) (e : Nat) (v : BitVec 32), Inv s → e < 16 → Leaves (.laneMarginMove n l e v) s s.fresh)
  -- PRT_LINK: the link's new state, a class I entry with the old one and the new, a capture record; the first link's L0 is event line 4d; an error
  -- that no injected fault caused is reported, class D
  ∧ (∀ (s : State) (n : Unit4) (k : Fin 4) (a b c : BitVec 8) (u : Bool) (e : Option (BitVec 32 × Bool)), s.dev.portUp n.val = true → s.dev.ringFed n.val = false →
      Gives (.prtLink n k a b c ⟨u, e⟩) s
        (let old := Sparse.get {} (s.dev.prtOf n.val).link k.val
         let d := s.fresh.setPrt n.val { s.dev.prtOf n.val with link := Sparse.set {} (s.dev.prtOf n.val).link k.val { ltssm := a.toNat, rate := b.toNat, width := c.toNat, l0 := u } }
         let d := if k.val = 0 ∧ u ≠ old.l0 then d.eventLevel n.val u else d
         let d := (d.logEv 0x7002 .I n.val [dU 1 k.val, dC old.ltssm, dC a.toNat, dC b.toNat, dC c.toNat]).captureNow n.val 0 4 (2 * k.val) 0
           (Config.linkEventBytes [k.val, a.toNat, b.toNat, c.toNat, if u then 1 else 0])
         match e with
         | some (v, false) => d.logEv 0x7004 .D n.val [dU 1 k.val, dO v.toNat]
         | _ => d))
  -- CFGREQ_GO in ROOT mode: BUSY, and the request leaves with the fields written
  ∧ (∀ (s : State) (n : Unit4) (p : Path), Inv s → Reaches s.dev p (0x7010300 + 0x100000 * n.val) → s.dev.prtEff PC_MODE n.val = 1 →
      s.dev.flag CFGSTAT_BUSY n.val = false → s.dev.portUp n.val = true → s.dev.fld CAP_EN n.val 0 = 0 →
      Ends (.cfgreqGo n p 0x800000000000F000) s fun d => d.flag CFGSTAT_BUSY n.val = true ∧ (d.prtOf n.val).cfgRead = true
        ∧ d.out = [.link "CfgRd" n.val [0, 15, 0, 0, 0, 0, 0] [], .wrDone] ∧ d.mem = s.dev.mem ∧ d.ember = s.dev.ember)
  -- GO while BUSY or outside ROOT mode is ignored with a CSR_ACCESS entry
  ∧ (∀ (s : State) (n : Unit4) (p : Path), Inv s → Reaches s.dev p (0x7010300 + 0x100000 * n.val) →
      s.dev.prtEff PC_MODE n.val ≠ 1 ∨ s.dev.flag CFGSTAT_BUSY n.val = true →
      Ends (.cfgreqGo n p 0x800000000000F000) s fun d => d.out = [.wrDone] ∧ d.flag CFGSTAT_BUSY n.val = s.dev.flag CFGSTAT_BUSY n.val
        ∧ d.ember = (s.dev.csrAccess (0x7010300 + 0x100000 * n.val) 8 (pathCode p) 3).ember ∧ d.mem = s.dev.mem)
  -- CFGREQ_DONE: STATUS is set and BUSY cleared; a read's data stands in CFGDATA
  ∧ (∀ (s : State) (n : Unit4) (k : Fin 5) (v : BitVec 32), s.dev.live = true → s.dev.flag CFGSTAT_BUSY n.val = true →
      Gives (.cfgreqDone n k v) s
        (((if (s.dev.prtOf n.val).cfgRead = true ∧ k = 0 then s.fresh.setF CFGDATA v.toNat n.val else s.fresh).setF CFGSTAT_STATUS k.val n.val).setF CFGSTAT_BUSY 0 n.val))
  -- PRT_FW_FAULT: class F, the controller is held in PORT reset
  ∧ (∀ (s : State) (n : Unit4) (v : BitVec 32), s.dev.portUp n.val = true →
      Gives (.prtFwFault n v) s
        (let d := (s.fresh.portResetOn n.val).logF 0x7005 n.val [dU 1 n.val, dO v.toNat]
         d.setPrt n.val { d.prtOf n.val with fwFault := true }))
  -- SVC_PERST low resets the service-port controller alone; SVC_LINK_UP brings the link back
  ∧ (∀ s : State, Inv s → Ends (.svcPerst false) s fun d => d.svc.up = false ∧ d.svc.rst = true ∧ d.mem = s.dev.mem ∧ d.csr = s.dev.csr ∧ d.ember = s.dev.ember)
  ∧ (∀ s : State, Inv s → Leaves (.svcPerst true) s { s.fresh with svc := { s.dev.svc with rst := false } })
  ∧ (∀ s : State, Inv s → s.dev.mlive = true → s.dev.svc.rst = false → Leaves .svcLinkUp s { s.fresh with svc := { s.dev.svc with up := true } })
  -- SVC_LINK_DOWN: the locks the port holds lose their owner; a function-level reset leaves the link up
  ∧ (∀ (s : State) (f : Bool), Inv s → s.dev.svc.up = true →
      Leaves (.svcLinkDown f) s
        { s.fresh with svc := { s.dev.svc with up := f }, ann := { s.dev.ann with notices := s.dev.ann.notices ++ [.servicePort] } })
  -- BAR2_ACCESS becomes a request of stop 59 at the window base; a replay run refuses it
  ∧ (∀ (s : State) (o : BitVec 30) (k : Nat) (w : Option WrBytes), s.dev.svc.up = true → s.dev.live = true → s.dev.running = false →
      Gives (.bar2Access o k w) s
        (s.fresh.request { stop := ⟨59, by decide⟩, unit := 0, tag := if w.isSome then 1 else 0 } (s.dev.fld MGT_WIN_BASE * 2 ^ 30 + o.toNat) ((w.map (·.length)).getD k) w false false none))
  ∧ (∀ (s : State) (o : BitVec 30) (k : Nat) (w : Option WrBytes), s.dev.svc.up = true → s.dev.live = true → s.dev.running = true →
      Gives (.bar2Access o k w) s ((s.fresh.inc REP_HOST_REFUSED).emit .csrRefused))

/-- The bytes the reading SMBus commands return, in the table's order (R577): CSR_STATUS, STATUS, TEMP_MAX, POWER, EMB_SEQ, HBM_TEMP. -/
def Sys2Proof.Machine.smbTells (d : Dev) (k : Fin 6) : List Byte :=
  match k with
  | 0 => leBytes 1 (bitIf d.mgt.smbRef 0 + bitIf d.smbBusy 1 + bitIf d.mgt.smbTmo 2)
  | 1 => leBytes 2 ((if d.flag CLK_ROOT_LOCK then d.cfgState else 0) + bitIf (!d.safe.low) 4 + bitIf (d.flag SAF_S_PENDING) 5
      + bitIf (d.flag SAF_ROT_HALT) 6 + bitIf d.running 7)
  | 2 => leBytes 2 (d.fld MGT_TEMP_MAX)
  | 3 => leBytes 2 (d.fld MGT_PWR)
  | 4 => leBytes 8 d.ember.seqNext
  | _ => leBytes 4 (d.stackTemp 0 + d.stackTemp 1 * 2 ^ 8 + d.stackTemp 2 * 2 ^ 16 + d.stackTemp 3 * 2 ^ 24)

/-- The SMBus target (R576, R577).
It says where these complete with their own effect: csrAddr, csrRead, csrWrite, csrStatus, status, tempMax, power, embSeq,
hbmTemp, smbStretchTimeout. -/
def Obligations.SmbusCommands : Prop :=
  -- a command with a wrong PEC is NACKed and has no effect
  (∀ (s : State) (v : BitVec 32), Inv s → s.dev.safLive = true → Leaves (.csrAddr v false) s (s.fresh.emit .smbNack))
  ∧ (∀ s : State, Inv s → s.dev.safLive = true → Leaves (.csrRead false) s (s.fresh.emit .smbNack))
  ∧ (∀ (s : State) (w : Word64), Inv s → s.dev.safLive = true → Leaves (.csrWrite w false) s (s.fresh.emit .smbNack))
  ∧ (∀ s : State, Inv s → s.dev.safLive = true →
      Leaves (.csrStatus false) s (s.fresh.emit .smbNack)
        ∧ Leaves (.status false) s (s.fresh.emit .smbNack)
        ∧ Leaves (.tempMax false) s (s.fresh.emit .smbNack)
        ∧ Leaves (.power false) s (s.fresh.emit .smbNack)
        ∧ Leaves (.embSeq false) s (s.fresh.emit .smbNack)
        ∧ Leaves (.hbmTemp false) s (s.fresh.emit .smbNack))
  -- without ROOT lock the target answers STATUS only
  ∧ (∀ s : State, Inv s → s.dev.safLive = true → s.dev.flag CLK_ROOT_LOCK = false →
      Leaves (.csrStatus true) s (s.fresh.emit .smbNack)
        ∧ Leaves (.status true) s (s.fresh.emit (.smb (smbTells s.dev 1)))
        ∧ Leaves (.tempMax true) s (s.fresh.emit .smbNack)
        ∧ Leaves (.power true) s (s.fresh.emit .smbNack)
        ∧ Leaves (.embSeq true) s (s.fresh.emit .smbNack)
        ∧ Leaves (.hbmTemp true) s (s.fresh.emit .smbNack))
  -- with it each answers its bytes
  ∧ (∀ s : State, Inv s → s.dev.safLive = true → s.dev.mlive = true →
      Leaves (.csrStatus true) s (s.fresh.emit (.smb (smbTells s.dev 0)))
        ∧ Leaves (.status true) s (s.fresh.emit (.smb (smbTells s.dev 1)))
        ∧ Leaves (.tempMax true) s (s.fresh.emit (.smb (smbTells s.dev 2)))
        ∧ Leaves (.power true) s (s.fresh.emit (.smb (smbTells s.dev 3)))
        ∧ Leaves (.embSeq true) s (s.fresh.emit (.smb (smbTells s.dev 4)))
        ∧ Leaves (.hbmTemp true) s (s.fresh.emit (.smb (smbTells s.dev 5))))
  -- CSR_ADDR: bits [2:0] are ignored
  ∧ (∀ (s : State) (v : BitVec 32), Inv s → s.dev.safLive = true → s.dev.mlive = true →
      Leaves (.csrAddr v true) s (Dev.emit { s.fresh with mgt := { s.dev.mgt with smbAddr := v.toNat % 2 ^ 28 / 8 * 8 } } .wrDone))
  -- CSR_READ of a register that reads without side effect: its value, and CSR_ADDR moves on by 8
  ∧ (∀ (s : State) (i : Fin 4), Inv s → s.dev.safLive = true → s.dev.mlive = true → s.dev.mgt.smbAddr = 0x300080 + 8 * i.val → s.dev.rst.held = [] →
      s.dev.rst.reload = none → s.dev.mgt.smbRead = false → s.dev.running = false → s.dev.fld EMB_USER i.val < 2 ^ 64 →
      Leaves (.csrRead true) s
        (Dev.emit { s.fresh with mgt := { s.dev.mgt with smbAddr := 0x300088 + 8 * i.val, smbRef := false, smbTmo := false } }
          (.smb (leBytes 8 (s.dev.fld EMB_USER i.val)))))
  -- CSR_WRITE writes it
  ∧ (∀ (s : State) (i : Fin 4) (w : Word64), Inv s → s.dev.safLive = true → s.dev.mlive = true → s.dev.mgt.smbAddr = 0x300080 + 8 * i.val → s.dev.rst.held = [] →
      s.dev.rst.reload = none → s.dev.running = false →
      Leaves (.csrWrite w true) s
        (Dev.emit { s.fresh.setF EMB_USER w.toNat i.val with mgt := { s.dev.mgt with smbAddr := 0x300088 + 8 * i.val, smbRef := false } } .wrDone))
  -- while a CSR_WRITE is held, CSR_READ and CSR_WRITE are NACKed
  ∧ (∀ s : State, Inv s → s.dev.safLive = true → s.dev.mlive = true → s.dev.smbBusy = true → Leaves (.csrRead true) s (s.fresh.emit .smbNack))
  ∧ (∀ (s : State) (w : Word64), Inv s → s.dev.safLive = true → s.dev.mlive = true → s.dev.smbBusy = true → Leaves (.csrWrite w true) s (s.fresh.emit .smbNack))
  -- a replay run refuses a write: NACKed, LAST_REFUSED is set, HOST_REFUSED counts
  ∧ (∀ (s : State) (w : Word64), Inv s → s.dev.safLive = true → s.dev.mlive = true → s.dev.mgt.smbAddr = 0x300080 → s.dev.rst.held = [] → s.dev.rst.tripped = false →
      s.dev.running = true →
      Leaves (.csrWrite w true) s
        (Dev.emit { s.fresh.inc REP_HOST_REFUSED with mgt := { s.dev.mgt with smbAddr := 0x300088, smbRef := true } } .smbNack))
  -- SMB_STRETCH_TIMEOUT: the held CSR_READ returns zeros, TIMED_OUT is set
  ∧ (∀ s : State, Inv s → s.dev.mgt.smbRead = true → s.dev.rst.held = [] →
      Leaves .smbStretchTimeout s (Dev.emit { s.fresh with mgt := { s.dev.mgt with smbRead := false, smbTmo := true } } (.smb [0, 0, 0, 0, 0, 0, 0, 0])))
  ∧ (∀ s : State, Inv s → s.dev.mgt.smbRead = false → Leaves .smbStretchTimeout s s.fresh)

/-- Boundary-scan instructions, which hold the core: EXTEST, CLAMP, HIGHZ, EXTEST_PULSE, EXTEST_TRAIN. -/
def Sys2Proof.Machine.scan (k : Fin 5) : Instr :=
  match k with
  | 0 => .extest
  | 1 => .clamp
  | 2 => .highz
  | 3 => .extestPulse
  | _ => .extestTrain

/-- Their codes. -/
def Sys2Proof.Machine.scanCode (k : Fin 5) : Nat :=
  match k with
  | 0 => 0x00
  | 1 => 0x03
  | 2 => 0x04
  | 3 => 0x05
  | _ => 0x06

/-- Instructions that leave the core alone: SAMPLE/PRELOAD, BYPASS, and TRST_N low. -/
def Sys2Proof.Machine.idleIr (k : Fin 3) : Instr :=
  match k with
  | 0 => .samplePreload
  | 1 => .bypass
  | _ => .trst

/-- The code each selects. -/
def Sys2Proof.Machine.idleCode (k : Fin 3) : Nat :=
  match k with
  | 0 => 0x01
  | 1 => 0xFF
  | _ => 0x02

/-- The TAP and the status UART (R578 to R582).
It says where these complete with their own effect: extest, samplePreload, idcode, clamp, highz, extestPulse, extestTrain, csr,
cfgStream, bypass, trst, uartLine, uartUser. -/
def Obligations.TapAndUart : Prop :=
  -- boundary scan holds the core: no core clock, the service port down, SAFE_N low
  (∀ (s : State) (k : Fin 5), Inv s → s.dev.safLive = true →
    Ends (scan k) s fun d => d.mgt.jtagIr = scanCode k ∧ d.live = false ∧ d.mlive = false ∧ d.svc.up = false ∧ d.safe.low = true
      ∧ d.mem = s.dev.mem ∧ d.ember = s.dev.ember)
  -- the others leave the core unaffected
  ∧ (∀ (s : State) (k : Fin 3), Inv s → s.dev.safLive = true → s.dev.rst.jtagHold = false →
      Leaves (idleIr k) s { s.fresh with mgt := { s.dev.mgt with jtagIr := idleCode k } })
  -- IDCODE reads 0xB0E645CF
  ∧ (∀ s : State, Inv s → s.dev.safLive = true → s.dev.rst.jtagHold = false →
      Leaves .idcode s (Dev.emit { s.fresh with mgt := { s.dev.mgt with jtagIr := 0x02 } } (.tap 0xB0E645CF)))
  -- selecting another instruction releases the core as a SYS_RST_N release does, with SYS_PIN set
  ∧ (∀ (s : State) (k : Fin 3), Inv s → s.dev.safLive = true → s.dev.rst.jtagHold = true → s.dev.rst.pfail = false →
      Gives (idleIr k) s
        (Dev.sysPin { s.fresh with mgt := { s.dev.mgt with jtagIr := idleCode k }, rst := { s.dev.rst with jtagHold := false } } (s.dev.fld CFG_MODE)
          (s.dev.fld CFG_CHAIN_ID) s.dev.rst.smbAddr true))
  -- CSR is refused while CSR_EN = 0: DONE and REFUSED
  ∧ (∀ (s : State) (v : BitVec 96), Inv s → s.dev.safLive = true → s.dev.rst.jtagHold = false → s.dev.mlive = true → s.dev.rst.tripped = false →
      s.dev.flag MGT_CSR_EN = false →
      Leaves (.csr v) s
        (Dev.emit { s.fresh with mgt := { s.dev.mgt with jtagIr := 0x10, jtagDone := true, jtagRef := true, jtagData := 0 } } (.tap 3)))
  -- a 64-bit read of EMB_USER: DONE, the value in [95:32]
  ∧ (∀ (s : State) (i : Fin 4), Inv s → s.dev.safLive = true → s.dev.rst.jtagHold = false → s.dev.mlive = true → s.dev.rst.tripped = false →
      s.dev.flag MGT_CSR_EN = true → s.dev.running = false → s.dev.rst.reload = none → s.dev.fld EMB_USER i.val < 2 ^ 64 →
      Leaves (.csr (BitVec.ofNat 96 (0x300080 + 8 * i.val))) s
        (Dev.emit { s.fresh with mgt := { s.dev.mgt with jtagIr := 0x10, jtagDone := true, jtagRef := false, jtagData := s.dev.fld EMB_USER i.val } }
          (.tap (1 + s.dev.fld EMB_USER i.val * 2 ^ 32))))
  -- CFG_STREAM acts as a 64-bit write of CFG_LOAD_DATA
  ∧ (∀ (s : State) (v : Word64), Inv s → s.dev.safLive = true → s.dev.rst.jtagHold = false → s.dev.mlive = true → s.dev.running = false →
      Gives (.cfgStream v) s (Dev.loadData { s.fresh with mgt := { s.dev.mgt with jtagIr := 0x11 } } 0x100010 8 2 v.toNat))
  -- UART_LINE: the line in progress ends, the next queued one starts
  ∧ (∀ (s : State) (l b : List Byte) (r : List (List Byte)), Inv s → s.dev.mlive = true → s.dev.mgt.uart = l :: r → s.dev.mgt.uartBusy = some b →
      Leaves .uartLine s (Dev.emit { s.fresh with mgt := { s.dev.mgt with uart := r, uartBusy := some l } } (.uart b)))
  ∧ (∀ s : State, Inv s → s.dev.mlive = true → s.dev.mgt.uart = [] → s.dev.mgt.uartBusy = none → Leaves .uartLine s s.fresh)
  -- UART_USER: a code of 0x80 to 0xBF is queued; the 33rd line is dropped and counted
  ∧ (∀ (s : State) (p : Path) (c : Fin 64), Reaches s.dev p 0x600020 → s.dev.mgt.uart.length < 32 →
      Gives (.uartUser p (BitVec.ofNat 64 (0x80 + c.val))) s
        (Dev.emit { s.fresh with mgt := { s.dev.mgt with uart := s.dev.mgt.uart ++ [uartText (0x80 + c.val) s.dev.clk.ts] } } .wrDone))
  ∧ (∀ (s : State) (p : Path) (c : Fin 64), Reaches s.dev p 0x600020 → 32 ≤ s.dev.mgt.uart.length →
      Gives (.uartUser p (BitVec.ofNat 64 (0x80 + c.val))) s ((s.fresh.inc MGT_UART_DROP).emit .wrDone))

/-- Telemetry, lantern probes, the ledger audit and the tests of chapter 01 (R43, R583 to R587, R601, R602, R612).
It says where these complete with their own effect: telemetryUpdate, probeSample, prbCapEn, audit, ledgerItemCheck,
bridgeAndBondTestDone. -/
def Obligations.TelemetryProbesAudit : Prop :=
  -- TELEMETRY_UPDATE: the sensors, the hottest, power, VCORE; energy adds up
  (∀ (s : State) (a b : BitVec 16) (w c : BitVec 16) (e : BitVec 32), Inv s → s.dev.mlive = true → b.toInt < a.toInt → s.dev.fld MGT_ENERGY + e.toNat < 2 ^ 64 →
    Ends (.telemetryUpdate [b, a] w c e) s fun d => d.fld MGT_TEMP 0 = b.toNat ∧ d.fld MGT_TEMP 1 = a.toNat ∧ d.fld MGT_TEMP_MAX = a.toNat
      ∧ d.fld MGT_TEMP_SENSOR = 1 ∧ d.fld MGT_PWR = w.toNat ∧ d.fld MGT_VCORE = c.toNat ∧ d.fld MGT_ENERGY = s.dev.fld MGT_ENERGY + e.toNat
      ∧ d.mem = s.dev.mem ∧ d.ember = s.dev.ember ∧ d.out = [])
  -- PROBE_SAMPLE with PIN_EN: a probe with EN = 0 shows 0, ANY shows what was seen since the last sample, INVERT inverts
  ∧ (∀ (s : State) (l n : BitVec 16), Inv s → s.dev.mlive = true → s.dev.flag PRB_PIN_EN = true → s.dev.flag PRB_CAP_EN = false →
      Ends (.probeSample l n) s fun d => ∀ k : Fin 16, s.dev.fld PRB_SEL_SRC k.val ≠ 7 →
        bitAt d.mgt.prbPins k.val = (s.dev.flag PRB_SEL_EN k.val && ((s.dev.fld PRB_SEL_SRC k.val != 0
          && (l.getLsbD k.val || (s.dev.flag PRB_SEL_ANY k.val && n.getLsbD k.val))) != s.dev.flag PRB_SEL_INVERT k.val)))
  -- without it the pins are driven low
  ∧ (∀ (s : State) (l n : BitVec 16), Inv s → s.dev.mlive = true → s.dev.flag PRB_PIN_EN = false → s.dev.flag PRB_CAP_EN = false →
      Leaves (.probeSample l n) s { s.fresh with mgt := { s.dev.mgt with prbPins := 0 } })
  -- PRB_CAP_EN from 0 to 1 clears TRIGGERED, STOPPED, LOST and HEAD
  ∧ (∀ (s : State) (p : Path), Inv s → Reaches s.dev p 0x601110 → s.dev.flag PRB_CAP_EN = false →
      Ends (.prbCapEn p 0x1401) s fun d => d.flag PRB_CAP_EN = true ∧ d.fld PRB_CAP_SIZE = 20 ∧ d.flag PRB_CAP_STOP = false ∧ d.flag PRB_TRIGGERED = false
        ∧ d.flag PRB_STOPPED = false ∧ d.fld PRB_LOST = 0 ∧ d.fld PRB_HEAD = 0 ∧ d.mgt.prbRun = true ∧ d.mgt.prbRec = [] ∧ d.mem = s.dev.mem)
  -- a sample of a capture joins its record; the first sample's time is the record's
  ∧ (∀ (s : State), Inv s → s.dev.mlive = true → s.dev.flag PRB_PIN_EN = false → s.dev.flag PRB_CAP_EN = true → s.dev.mgt.prbRun = true →
      s.dev.flag PRB_STOPPED = false → s.dev.fld PRB_TRIG_MASK = 0 → s.dev.mgt.prbRec = [] → s.dev.csr.all (fun e => PRB_SEL_EN.lo ≠ e.1 % 64) = true →
      Ends (.probeSample 0 0) s fun d => d.mgt.prbRec.length = 1 ∧ d.mgt.prbRecTs = s.dev.now ∧ d.csr = s.dev.csr ∧ d.mem = s.dev.mem)
  -- AUDIT with its KEY: BUSY, counts at 0, the first item; while BUSY it is ignored with a CSR_ACCESS entry
  ∧ (∀ (s : State) (p : Path), Inv s → Reaches s.dev p 0x500 → s.dev.flag LED_BUSY = false →
      Ends (.audit p 0x7C31000000000001) s fun d => d.flag LED_BUSY = true ∧ d.fld LED_CHECKED = 0 ∧ d.fld LED_SKIPPED = 0 ∧ d.fld LED_COUNT = 0
        ∧ d.mgt.auditPos = 3 ∧ d.out = [.wrDone] ∧ d.mem = s.dev.mem)
  ∧ (∀ (s : State) (p : Path), Reaches s.dev p 0x500 → s.dev.flag LED_BUSY = true →
      Gives (.audit p 0x7C31000000000001) s ((s.fresh.csrAccess 0x500 8 (pathCode p) 3).emit .wrDone))
  -- LEDGER_ITEM_CHECK: an item not at its quiet point is skipped, not judged
  ∧ (∀ s : State, Inv s → s.dev.mlive = true → s.dev.flag LED_BUSY = true → s.dev.mgt.auditPos < 24 →
      Ends (.ledgerItemCheck false) s fun d => d.fld LED_SKIPPED = satAdd 32 (s.dev.fld LED_SKIPPED) 1 ∧ d.fld LED_CHECKED = s.dev.fld LED_CHECKED
        ∧ s.dev.mgt.auditPos < d.mgt.auditPos ∧ d.flag LED_BUSY = true ∧ d.ember = s.dev.ember ∧ d.mem = s.dev.mem)
  -- a quiet ring triple whose credits add up is checked; one whose credits do not is a class S LEDGER entry, the first of the audit
  ∧ (∀ s : State, Inv s → s.dev.mlive = true → s.dev.flag LED_BUSY = true → s.dev.mgt.auditPos < 24 → (s.dev.auditItem s.dev.mgt.auditPos).2.2.1 = true →
      Ends (.ledgerItemCheck true) s fun d => d.fld LED_CHECKED = satAdd 32 (s.dev.fld LED_CHECKED) 1 ∧ d.fld LED_COUNT = s.dev.fld LED_COUNT
        ∧ d.ember = s.dev.ember ∧ d.ann = s.dev.ann ∧ d.mem = s.dev.mem)
  ∧ (∀ s : State, Inv s → s.dev.mlive = true → s.dev.flag LED_BUSY = true → s.dev.mgt.auditPos < 24 → (s.dev.auditItem s.dev.mgt.auditPos).2.2.1 = false →
      s.dev.fld LED_COUNT = 0 →
      Ends (.ledgerItemCheck true) s fun d => d.fld LED_COUNT = 1 ∧ d.fld LED_KIND = 1 ∧ d.flag SAF_S_PENDING = true ∧ d.safe.low = true
        ∧ d.ember = (s.dev.logEv 0x0010 .S 0 ([dC 1, dO (s.dev.auditItem s.dev.mgt.auditPos).2.1] ++ (s.dev.auditItem s.dev.mgt.auditPos).2.2.2.map dN)).ember
        ∧ d.ann = s.dev.ann ∧ d.mem = s.dev.mem)
  -- PFAIL_N_RISE: the hold of a low pin ends, and nothing else
  ∧ (∀ s : State, Inv s → Leaves .pfailNRise s { s.fresh with rst := { s.dev.rst with pfailHold := false } })
  -- BRIDGE_AND_BOND_TEST_DONE: PD_UP of a bridge (0 to 3) or CEL_OK of a Cellar die (4, 5); a die that fails stays at 0
  ∧ (∀ (s : State) (n : Fin 6), Inv s → s.dev.mlive = true →
      Leaves (.bridgeAndBondTestDone n true) s (if n.val < 4 then s.fresh.setBit DIE_PD_UP n.val true else s.fresh.setBit DIE_CEL_OK (n.val - 4) true))
  ∧ (∀ (s : State) (n : Fin 6), Inv s → Leaves (.bridgeAndBondTestDone n false) s s.fresh)

/-- The open push or pull that a packet belongs to, and the pull of another member that a completion belongs to (R507, R508). -/
abbrev Sys2Proof.Machine.Dev.pullOf (d : Dev) (p : CPkt) : Option Xfer := d.cpl.xfers.find? fun x => x.pull && x.tag == p.tag && x.rid == p.reqid && x.dev == p.src

abbrev Sys2Proof.Machine.Dev.pushOf (d : Dev) (p : CPkt) : Option Xfer := d.cpl.xfers.find? fun x => !x.pull && x.tag == p.tag && x.rid == p.reqid && x.dev == p.src

abbrev Sys2Proof.Machine.Dev.servedOf (d : Dev) (p : CPkt) : Option (Nat × PullJob) := d.cpl.pullOn.find? fun e => e.2.req.tag == p.tag && e.2.req.reqid == p.reqid

/-- Pulls that link stop `k` serves, and those queued there (R510). -/
abbrev Sys2Proof.Machine.Dev.pullsOn (d : Dev) (k : Nat) : Nat := (d.cpl.pullOn.filter fun e => e.1 == k).length

abbrev Sys2Proof.Machine.Dev.pullsQueued (d : Dev) (k : Nat) : Nat := (d.cpl.pullQ.filter fun e => e.1 == k).length

/-- The local data of a push, read piece by piece: bytes, the poisoned pieces, status. -/
abbrev Sys2Proof.Machine.State.srcRead (s : State) (q : Rq) (a : DevAddr) (n : BitVec 25) : List Byte × List Nat × Nat × Dev :=
  s.fresh.readPieces (reqId q / 16) (xferPieces a.toNat n.toNat) [] []

/-- Block transfers between members: pushes, pulls, transit (R28, R37, R38, R503 to R511).
It says where these complete with their own effect: push, pull, pullEngineStart, pushCpl, cplTimeout, rpush, rpull, cfwd, cmsg. -/
def Obligations.ColonyTransfers : Prop :=
  -- RPUSH to a member: the local data, read piece by piece, leaves as a push; the requester waits for its completions
  (∀ (s : State) (q : Rq) (a b : DevAddr) (n : BitVec 25) (v o : Nat) (k : Option (Fin 64)), s.dev.live = true → placeOf b.toNat = .remote v o → s.dev.isSelf v = false →
    s.dev.remoteEnd b.toNat n.toNat = 0 ∧ s.dev.stopStatus a.toNat n.toNat = 0 → ((s.srcRead q a n).2.2.1 = 0 ∨ (s.srcRead q a n).2.2.1 = 6) →
    Gives (.rpush q a b n k) s ((s.srcRead q a n).2.2.2.startPush (reqId q) q.tag.toNat v o (s.srcRead q a n).1 (s.srcRead q a n).2.1 (k.map (·.val)) none))
  -- a local read that fails answers its status
  ∧ (∀ (s : State) (q : Rq) (a b : DevAddr) (n : BitVec 25) (v o : Nat) (k : Option (Fin 64)), s.dev.live = true → placeOf b.toNat = .remote v o → s.dev.isSelf v = false →
      s.dev.remoteEnd b.toNat n.toNat = 0 ∧ s.dev.stopStatus a.toNat n.toNat = 0 → (s.srcRead q a n).2.2.1 ≠ 0 ∧ (s.srcRead q a n).2.2.1 ≠ 6 →
      Gives (.rpush q a b n k) s ((s.srcRead q a n).2.2.2.emit (.resp (reqId q) q.tag.toNat (s.srcRead q a n).2.2.1 [])))
  -- one that names no member, whose length is no multiple of 256 B up to 16 MiB, or whose range runs past its window is refused whole, its source too
  ∧ (∀ (s : State) (q : Rq) (a b : DevAddr) (n : BitVec 25) (v o : Nat) (k : Option (Fin 64)), s.dev.live = true → placeOf b.toNat = .remote v o → s.dev.remoteEnd b.toNat n.toNat ≠ 0 →
      Gives (.rpush q a b n k) s
        ((s.fresh.logStatus (s.dev.remoteEnd b.toNat n.toNat) b.toNat n.toNat (reqId q / 16)).emit (.resp (reqId q) q.tag.toNat (s.dev.remoteEnd b.toNat n.toNat) [])))
  ∧ (∀ (s : State) (q : Rq) (a b : DevAddr) (n : BitVec 25) (v o : Nat) (k : Option (Fin 64)), s.dev.live = true → placeOf b.toNat = .remote v o → s.dev.remoteEnd b.toNat n.toNat = 0 →
      s.dev.stopStatus a.toNat n.toNat ≠ 0 →
      Gives (.rpush q a b n k) s
        ((s.fresh.logStatus (s.dev.stopStatus a.toNat n.toNat) a.toNat n.toNat (reqId q / 16)).emit (.resp (reqId q) q.tag.toNat (s.dev.stopStatus a.toNat n.toNat) [])))
  -- to the device's own ID it is a copy inside the device (R38)
  ∧ (∀ (s : State) (q : Rq) (a b : DevAddr) (n : BitVec 25) (v o : Nat), s.dev.live = true → placeOf b.toNat = .remote v o → s.dev.isSelf v = true →
      s.dev.remoteEnd b.toNat n.toNat = 0 ∧ s.dev.stopStatus a.toNat n.toNat = 0 → (s.fresh.accRead (reqId q / 16) a.toNat n.toNat).1 = 0 →
      Gives (.rpush q a b n none) s
        (let r := s.fresh.accRead (reqId q / 16) a.toNat n.toNat
         let w := r.2.2.accWrite (reqId q / 16) b.toNat (allOn r.2.1)
         w.2.emit (.resp (reqId q) q.tag.toNat w.1 [])))
  -- RPULL from a member to memory of this device: a pull that names the source, the destination and the length; refused as a push is
  ∧ (∀ (s : State) (q : Rq) (a b : DevAddr) (n : BitVec 25) (v o t : Nat), s.dev.live = true → placeOf a.toNat = .remote v o → s.dev.isSelf v = false →
      s.dev.remoteEnd a.toNat n.toNat = 0 ∧ offsetOf b.toNat = some t → s.dev.stopStatus b.toNat n.toNat = 0 →
      Gives (.rpull q a b n) s
        (s.fresh.startPull (reqId q) q.tag.toNat v o n.toNat (0x8000_0000_0000 + s.dev.selfId * 2 ^ 38 + t) s.dev.selfId false none))
  ∧ (∀ (s : State) (q : Rq) (a b : DevAddr) (n : BitVec 25) (v o : Nat), s.dev.live = true → placeOf a.toNat = .remote v o → s.dev.remoteEnd a.toNat n.toNat ≠ 0 →
      Gives (.rpull q a b n) s
        ((s.fresh.logStatus (s.dev.remoteEnd a.toNat n.toNat) a.toNat n.toNat (reqId q / 16)).emit (.resp (reqId q) q.tag.toNat (s.dev.remoteEnd a.toNat n.toNat) [])))
  -- PUSH of another member's transfer to an address here: written, and PUSH_CPL answers with the status; an offset R37 does not list is UNMAPPED (1)
  ∧ (∀ (s : State) (k : Unit4) (vc : Fin 2) (p : CPkt) (a : Nat), s.dev.live = true → s.dev.pktFor k.val vc.val 1 = some p → s.dev.offHeld p.addr = false →
      s.dev.pullOf p = none → p.flags = 0 → remoteOffset p.addr = some a →
      Gives (.push k vc) s
        (let w := (s.fresh.pktTake k.val (4 + vc.val)).accWrite (cplStop k.val) a (allOn p.data)
         w.2.pktTo { msg := 3, dst := p.src, src := w.2.selfId, status := w.1, len := p.len, tag := p.tag, reqid := p.reqid, ts := w.2.now }))
  ∧ (∀ (s : State) (k : Unit4) (vc : Fin 2) (p : CPkt), s.dev.live = true → s.dev.pktFor k.val vc.val 1 = some p → s.dev.pullOf p = none → bitAt p.flags 3 = false → remoteOffset p.addr = none →
      Gives (.push k vc) s
        (let d := (s.fresh.pktTake k.val (4 + vc.val)).logStatus 1 (0x8000_0000_0000 + s.dev.selfId * 2 ^ 38 + p.addr) p.len (cplStop k.val)
         d.pktTo { msg := 3, dst := p.src, src := d.selfId, status := 1, len := p.len, tag := p.tag, reqid := p.reqid, ts := d.now }))
  -- a FINAL that no open pull waits for is discarded and counted in LATE; a packet for a tile that hands over waits in its buffer (R28)
  ∧ (∀ (s : State) (k : Unit4) (vc : Fin 2) (p : CPkt), s.dev.live = true → s.dev.pktFor k.val vc.val 1 = some p → s.dev.offHeld p.addr = false →
      s.dev.pullOf p = none → bitAt p.flags 3 = true →
      Gives (.push k vc) s ((s.fresh.pktTake k.val (4 + vc.val)).inc CPL_LATE))
  ∧ (∀ (s : State) (k : Unit4) (vc : Fin 2) (p : CPkt), Inv s → s.dev.pktFor k.val vc.val 1 = some p → s.dev.offHeld p.addr = true → Leaves (.push k vc) s s.fresh)
  -- the FINAL of an open pull ends it with the worst status met, and answers its requester
  ∧ (∀ (s : State) (k : Unit4) (vc : Fin 2) (p : CPkt) (x : Xfer), s.dev.live = true → s.dev.pktFor k.val vc.val 1 = some p → s.dev.offHeld p.addr = false →
      s.dev.pullOf p = some x → p.flags = 9 ∧ p.len = 0 → x.resp = none →
      Gives (.push k vc) s
        (let d := s.fresh.pktTake k.val (4 + vc.val)
         Dev.emit { d with cpl := { d.cpl with xfers := d.cpl.xfers.filter fun y => !(y.stop == x.stop && y.tag == x.tag) } } (.resp x.rid x.rtag (worse x.status p.status) [])))
  -- PULL: served at once while fewer than 16 are; else queued; with 64 queued it stays in its buffer
  ∧ (∀ (s : State) (k : Unit4) (vc : Fin 2) (p : CPkt), s.dev.live = true → s.dev.pktFor k.val vc.val 2 = some p → s.dev.offHeld p.addr = false →
      s.dev.pullsOn k.val < 16 → Gives (.pull k vc) s ((s.fresh.pktTake k.val vc.val).servePull k.val p))
  ∧ (∀ (s : State) (k : Unit4) (vc : Fin 2) (p : CPkt), s.dev.live = true → s.dev.pktFor k.val vc.val 2 = some p → s.dev.offHeld p.addr = false →
      16 ≤ s.dev.pullsOn k.val → s.dev.pullsQueued k.val < 64 →
      Gives (.pull k vc) s (let d := s.fresh.pktTake k.val vc.val; { d with cpl := { d.cpl with pullQ := d.cpl.pullQ ++ [(k.val, { req := p })] } }))
  ∧ (∀ (s : State) (k : Unit4) (vc : Fin 2), Inv s → 16 ≤ s.dev.pullsOn k.val → 64 ≤ s.dev.pullsQueued k.val → Leaves (.pull k vc) s s.fresh)
  -- PULL_ENGINE_START: the oldest queued pull is served once fewer than 16 are
  ∧ (∀ (s : State) (k : Unit4) (e : Nat × PullJob), s.dev.live = true → s.dev.pullsOn k.val < 16 → (s.dev.cpl.pullQ.find? fun x => x.1 == k.val) = some e → s.dev.offHeld e.2.req.addr = false →
      Gives (.pullEngineStart k) s (Dev.servePull { s.fresh with cpl := { s.dev.cpl with pullQ := s.dev.cpl.pullQ.eraseP fun x => x.1 == k.val } } k.val e.2.req))
  ∧ (∀ (s : State) (k : Unit4), Inv s → 16 ≤ s.dev.pullsOn k.val → Leaves (.pullEngineStart k) s s.fresh)
  -- PUSH_CPL: one a push waits for counts its bytes and keeps the worst status; the last of them answers its requester; one nobody waits for counts in LATE
  ∧ (∀ (s : State) (k : Unit4) (vc : Fin 2) (p : CPkt) (x : Xfer), s.dev.live = true → s.dev.pktFor k.val vc.val 3 = some p → s.dev.pushOf p = some x →
      Gives (.pushCpl k vc) s
        (let d := s.fresh.pktTake k.val (2 + vc.val)
         let y := { x with wait := x.wait - 1, written := x.written + (if p.status = 0 then p.len else 0), status := worse x.status p.status }
         if x.wait ≤ 1 then
          Dev.emit { d with cpl := { d.cpl with xfers := d.cpl.xfers.filter fun z => !(z.stop == x.stop && z.tag == x.tag) } }
            (.resp x.rid x.rtag (worse x.status p.status) (if worse x.status p.status = 0 ∨ worse x.status p.status = 6 then x.resp.getD [] else []))
         else { d with cpl := { d.cpl with xfers := d.cpl.xfers.map fun z => if z.stop = x.stop ∧ z.tag = x.tag then y else z } }))
  ∧ (∀ (s : State) (k : Unit4) (vc : Fin 2) (p : CPkt), s.dev.live = true → s.dev.pktFor k.val vc.val 3 = some p → s.dev.pushOf p = none → s.dev.servedOf p = none →
      Gives (.pushCpl k vc) s ((s.fresh.pktTake k.val (2 + vc.val)).inc CPL_LATE))
  -- CPL_TIMEOUT, CPL_TMO after the transfer began: it completes with QUEUE_TIMEOUT (8) and a class D entry
  ∧ (∀ (s : State) (k : Unit4) (t : BitVec 16) (x : Xfer), s.dev.live = true → (s.dev.cpl.xfers.find? fun x => x.stop == k.val && x.tag == t.toNat) = some x →
      Gives (.cplTimeout k t) s
        (let d := ((s.fresh.tickTo (x.begun + s.dev.cplTmo)).inc CPL_TIMEOUTS).logEv 0x8005 .D k.val [dU 2 x.dev, dU 2 t.toNat, dN x.len, dN x.written]
         Dev.emit { d with cpl := { d.cpl with xfers := d.cpl.xfers.filter fun y => !(y.stop == x.stop && y.tag == x.tag) } } (.resp x.rid x.rtag 8 [])))
  -- CFWD: a transit packet moves on, on its stamped route; with a link that has FAILED it is lost, while a link trains again it is held
  ∧ (∀ (s : State) (k : Unit4) (b : Fin 8) (p : CPkt), s.dev.live = true → s.dev.pktHead k.val b.val = some p → p.dst ≠ s.dev.selfId →
      Gives (.cfwd k b) s
        (let j := s.dev.nextLink p.dst p.route
         if s.dev.fld CPL_STATE j = 2 then (s.fresh.pktTake k.val b.val).linkSend j (s.dev.vcOn j (some (k.val, b.val % 2))) p
         else if s.dev.fld CPL_STATE j = 4 ∨ s.dev.fld CPL_STATE j = 0 then s.fresh.pktTake k.val b.val else s.fresh))
  -- CMSG: the oldest waiting message moves to its link, when that is up, or to the link of its route
  ∧ (∀ (s : State) (p : CPkt) (k : Nat) (r : List (CPkt × Nat)), s.dev.live = true → s.dev.cpl.msgs = (p, k) :: r →
      Gives .cmsg s
        (let d : Dev := { s.fresh with cpl := { s.dev.cpl with msgs := r } }
         if k < 4 then (if s.dev.linkUp k = true then d.linkSend k (d.vcOn k none) p else d) else d.pktTo p))
  -- which pieces a transfer has: none crosses a 4 KiB boundary, together they are the whole
  ∧ (∀ o n : Nat, (∀ e ∈ xferPieces o n, e.1 % 4096 + e.2 ≤ 4096) ∧ ((xferPieces o n).map (·.2)).sum = n)

/-- Coupling links: training, flits, retry, retrain (R496 to R502, R536).
It says where these complete with their own effect: cplTrain, cplFlitRx, cplFlitTx, cplLinkDown, cplRetrainDone, linkFix. -/
def Obligations.CouplingLinks : Prop :=
  -- CPL_TRAIN: UP only when all four values agree; else FAILED with a class F CPL_CONFIG
  (∀ (s : State) (k : Unit4) (f : DevId) (nr : Fin 64) (nc : Fin 32) (h : DevId), s.dev.aReleased = true → s.dev.fld CPL_STATE k.val = 1 →
    let d := (s.fresh.setF CPL_FAR_ID f.val k.val).setF CPL_WRAP (if s.dev.wrapLink s.dev.selfId k.val then 1 else 0) k.val
    Gives (.cplTrain k f nr nc h) s
      (if f.val = s.dev.neighbour s.dev.selfId k.val ∧ nr.val = s.dev.nrow ∧ nc.val = s.dev.ncol ∧ h.val = s.dev.fld COL_HOME then d.setF CPL_STATE 2 k.val
       else (d.setF CPL_STATE 4 k.val).logF 0x8003 k.val [dU 1 k.val, dU 2 f.val, dN nr.val, dN nc.val, dU 2 h.val]))
  -- a link in FAILED stays there
  ∧ (∀ (s : State) (k : Unit4) (f : DevId) (nr : Fin 64) (nc : Fin 32) (h : DevId), Inv s → s.dev.fld CPL_STATE k.val = 4 →
      Leaves (.cplTrain k f nr nc h) s s.fresh)
  -- CPL_FLIT_RX with a bad CRC: discarded, a NAK is due
  ∧ (∀ (s : State) (k : Unit4) (f : List Byte), s.dev.linkUp k.val = true → f.length = 80 → crc32 (f.take 76) ≠ leNat (f.drop 76) →
      Gives (.cplFlitRx k f) s (s.fresh.setLink k.val { s.dev.linkOf k.val with nakDue := true, disc := true }))
  -- a flit of a sequence number not expected: discarded; its credits and acknowledge act
  ∧ (∀ (s : State) (k : Unit4) (f : List Byte), s.dev.linkUp k.val = true → f.length = 80 → crc32 (f.take 76) = leNat (f.drop 76) →
      leNat ((f.drop 66).take 2) % 4096 ≠ (s.dev.linkOf k.val).rxSeq →
      let d := s.fresh.flitControl k.val f
      Gives (.cplFlitRx k f) s (d.setLink k.val { d.linkOf k.val with nakDue := (d.linkOf k.val).nakDue || !(d.linkOf k.val).disc, disc := true }))
  -- a flit in sequence: IDLE and NAK act by their control bytes alone; any other takes the next number and a place of its pool, and the last of a packet
  -- hands the packet to its buffer
  ∧ (∀ (s : State) (k : Unit4) (f : List Byte), s.dev.linkUp k.val = true → f.length = 80 → crc32 (f.take 76) = leNat (f.drop 76) →
      leNat ((f.drop 66).take 2) % 4096 = (s.dev.linkOf k.val).rxSeq →
      let d := s.fresh.flitControl k.val f
      let l := d.linkOf k.val
      let kb := leNat ((f.drop 64).take 1)
      let pool := 2 * bits kb 2 2 + bits kb 4 1
      let flits := Sparse.get [] l.part pool ++ [f.take 64]
      let taken := d.setLink k.val { l with rxSeq := (l.rxSeq + 1) % 4096, acked := true, disc := false,
                                            occ := Sparse.set 0 l.occ pool (Sparse.get 0 l.occ pool + 1), part := Sparse.set [] l.part pool flits }
      Gives (.cplFlitRx k f) s
        (if bits kb 0 2 = 0 ∨ bits kb 0 2 = 3 then d.setLink k.val { l with disc := false } else if bitAt kb 5 then taken.pktWhole k.val pool flits else taken))
  -- CPL_FLIT_TX: a NAK that is due leaves first, then flits sent again, oldest first; with nothing to send, IDLE
  ∧ (∀ (s : State) (k : Unit4), s.dev.linkUp k.val = true → (s.dev.linkOf k.val).nakDue = true →
      let l := s.dev.linkOf k.val
      Gives (.cplFlitTx k) s
        ((s.fresh.setLink k.val { l with nakDue := false }).flitOut k.val (List.replicate 64 0 ++ [3, 0]) l.txSeq (l.rxSeq + bitIf l.acked 15)))
  ∧ (∀ (s : State) (k : Unit4) (q : Nat) (b : List Byte) (r : List (Nat × List Byte)), s.dev.linkUp k.val = true → (s.dev.linkOf k.val).nakDue = false →
      (s.dev.linkOf k.val).again = (q, b) :: r →
      Gives (.cplFlitTx k) s ((s.fresh.setLink k.val { s.dev.linkOf k.val with again := r }).flitOut k.val b q (s.dev.linkOf k.val).ack))
  ∧ (∀ (s : State) (k : Unit4), s.dev.linkUp k.val = true → (s.dev.linkOf k.val).nakDue = false → (s.dev.linkOf k.val).again = [] →
      (s.dev.linkOf k.val).txq = [] → (s.dev.linkOf k.val).slot < 64 →
      Gives (.cplFlitTx k) s ((s.fresh.setLink k.val (s.dev.linkOf k.val)).flitOut k.val (List.replicate 64 0 ++ [0, 0]) (s.dev.linkOf k.val).txSeq (s.dev.linkOf k.val).ack))
  -- a flit of the packet whose pool is to send: it takes the next number and a credit, and stands in the replay buffer until it is acknowledged
  ∧ (∀ (s : State) (k : Unit4) (p : Nat) (e : Nat × CPkt), s.dev.linkUp k.val = true → (s.dev.linkOf k.val).nakDue = false → (s.dev.linkOf k.val).again = [] →
      (s.dev.linkOf k.val).replay.length < 256 → (s.dev.linkOf k.val).pickPool = some p → ((s.dev.linkOf k.val).txq.find? fun e => e.1 == p) = some e →
      let l := s.dev.linkOf k.val
      let i := Sparse.get 0 l.sent p
      let last := i + 1 == e.2.payloads.length
      let body := e.2.payloads.getD i [] ++ [BitVec.ofNat 8 ((if i = 0 then 1 else 2) + 4 * (p / 2) + 16 * (p % 2) + bitIf last 5), 0]
      Ends (.cplFlitTx k) s fun d => d.out = [.link "CPL" k.val [] (flitBytes body l.txSeq l.ack (crBytes l.owed))]
        ∧ (d.linkOf k.val).replay = l.replay ++ [(l.txSeq, body)] ∧ (d.linkOf k.val).txSeq = (l.txSeq + 1) % 4096
        ∧ Sparse.get 0 (d.linkOf k.val).spent p = Sparse.get 0 l.spent p + 1 ∧ Sparse.get 0 (d.linkOf k.val).sent p = (if last then 0 else i + 1)
        ∧ (d.linkOf k.val).txq = (if last then l.txq.eraseP (fun e => e.1 == p) else l.txq) ∧ d.mem = s.dev.mem)
  -- every flit is 80 bytes and ends in the CRC-32 of the first 76
  ∧ (∀ (b c : List Byte) (q a : Nat), b.length = 66 → c.length = 4 →
      (flitBytes b q a c).length = 80 ∧ leNat ((flitBytes b q a c).drop 76) = crc32 ((flitBytes b q a c).take 76) % 2 ^ 32)
  -- CPL_LINK_DOWN by silence: a class D entry, the link trains again with its replay buffer kept, LINK_DOWN is flooded
  ∧ (∀ (s : State) (k : Unit4), s.dev.linkUp k.val = true →
      Gives (.cplLinkDown k true) s (((s.fresh.logEv 0x8001 .D k.val [dU 1 k.val, dC 1]).repAbort 7 0x8001 k.val).linkRetrain k.val))
  -- at the eighth NAK in a row of one flit too
  ∧ (∀ (s : State) (k : Unit4), s.dev.linkUp k.val = true → 8 ≤ (s.dev.linkOf k.val).nakCnt →
      Gives (.cplLinkDown k false) s (((s.fresh.logEv 0x8001 .D k.val [dU 1 k.val, dC 2]).repAbort 7 0x8001 k.val).linkRetrain k.val))
  ∧ (∀ (s : State) (k : Unit4), Inv s → (s.dev.linkOf k.val).nakCnt < 8 → Leaves (.cplLinkDown k false) s s.fresh)
  -- CPL_RETRAIN_DONE: up again, and LINK_UP is flooded; the third failure is FAILED, class F, the replay buffer discarded
  ∧ (∀ (s : State) (k : Unit4), s.dev.live = true → s.dev.fld CPL_STATE k.val = 3 →
      Gives (.cplRetrainDone k true) s ((s.fresh.setF CPL_STATE 2 k.val).raiseNotice 3 k.val))
  ∧ (∀ (s : State) (k : Unit4), s.dev.live = true → s.dev.fld CPL_STATE k.val = 3 → (s.dev.linkOf k.val).tries = 2 →
      Gives (.cplRetrainDone k false) s
        (((s.fresh.setF CPL_STATE 4 k.val).setLink k.val { s.dev.linkOf k.val with replay := [], again := [], txq := [], tries := 0 }).logF 0x8002 k.val
          [dU 1 k.val, dN (s.dev.linkOf k.val).replay.length]))
  ∧ (∀ (s : State) (k : Unit4), Inv s → s.dev.live = true → s.dev.fld CPL_STATE k.val = 3 → (s.dev.linkOf k.val).tries < 2 →
      Leaves (.cplRetrainDone k false) s (s.fresh.setLink k.val { s.dev.linkOf k.val with tries := (s.dev.linkOf k.val).tries + 1 }))
  -- LINK_FIX outside a run changes nothing; in one it aborts the run with reason 8, and each UP link trains again
  ∧ (∀ (s : State) (k : Unit4), Calm s → Leaves (.linkFix k) s s.fresh)
  ∧ (∀ (s : State) (k : Unit4), Inv s → s.dev.live = true → s.dev.running = true → s.dev.linkUp k.val = true →
      Gives (.linkFix k) s (s.fresh.repAbort 8 0x8000 k.val))

/-- Membership, colony barriers and locks (R513 to R520).
It says where these complete with their own effect: lockReq, lockRes, barArrive, barRelease, notice, leave, cplJoin. -/
def Obligations.ColonyMembers : Prop :=
  -- NOTICE with a number higher than the last applied of its origin: forwarded on every other UP link and applied
  (∀ (s : State) (k : Unit4) (vc : Fin 2) (p : CPkt), s.dev.live = true → s.dev.pktFor k.val vc.val 8 = some p → p.src ≠ s.dev.selfId →
    Sparse.get 0 s.dev.cpl.applied p.src < p.tag →
    Gives (.notice k vc) s
      (((s.fresh.pktTake k.val (6 + vc.val)).flood p k.val).applyNotice p.src p.tag (Config.noticeKind p.aux % 4) (Config.noticeLink p.aux % 4)))
  -- one that is not higher is not applied again
  ∧ (∀ (s : State) (k : Unit4) (vc : Fin 2) (p : CPkt), s.dev.live = true → s.dev.pktFor k.val vc.val 8 = some p →
      p.tag ≤ Sparse.get 0 s.dev.cpl.applied p.src → Gives (.notice k vc) s (s.fresh.pktTake k.val (6 + vc.val)))
  -- JOIN in RUN by a device that is not a member floods its notice
  ∧ (∀ (s : State) (p : Path), Reaches s.dev p 0x8000808 → s.dev.cfgState = 5 → s.dev.flag COL_EN = true → s.dev.member s.dev.selfId = false →
      Gives (.cplJoin p 0x1D7A000000000001) s (s.fresh.joinColony.emit .wrDone))
  -- LEAVE by a member floods its notice; a wrong KEY changes nothing but a CSR_ACCESS entry
  ∧ (∀ (s : State) (p : Path), Reaches s.dev p 0x8000808 → s.dev.member s.dev.selfId = true →
      Gives (.leave p 0x1D7A000000000002) s ((s.fresh.raiseNotice 1 0).emit .wrDone))
  ∧ (∀ (s : State) (p : Path) (v : Word64), Reaches s.dev p 0x8000808 → v.toNat / 2 ^ 48 ≠ 0x1D7A →
      Gives (.leave p v) s ((s.fresh.csrAccess 0x8000808 8 (pathCode p) 2).emit .wrDone)
        ∧ Gives (.cplJoin p v) s ((s.fresh.csrAccess 0x8000808 8 (pathCode p) 2).emit .wrDone))
  -- BAR_ARRIVE at HOME from a member counts; at any other device it does nothing
  ∧ (∀ (s : State) (k : Unit4) (vc : Fin 2) (p : CPkt), s.dev.live = true → s.dev.pktFor k.val vc.val 6 = some p →
      Gives (.barArrive k vc) s
        (if s.dev.isSelf (s.dev.fld COL_HOME) = true ∧ s.dev.member p.src = true then (s.fresh.pktTake k.val (6 + vc.val)).homeArrive (p.aux % 32) p.gen p.src
         else s.fresh.pktTake k.val (6 + vc.val)))
  -- BAR_RELEASE completes the barrier here; what waited for generations may then arrive
  ∧ (∀ (s : State) (k : Unit4) (vc : Fin 2) (p : CPkt), s.dev.live = true → s.dev.pktFor k.val vc.val 7 = some p →
      Gives (.barRelease k vc) s ((upTo 16).foldl Dev.barColony ((s.fresh.pktTake k.val (6 + vc.val)).takeRelease (p.aux % 32) p.gen p.status)))
  -- LOCK_REQ: a new one joins the requests with the device as owner; a duplicate is answered with the requester's current result
  ∧ (∀ (s : State) (k : Unit4) (vc : Fin 2) (p : CPkt), s.dev.live = true → s.dev.pktFor k.val vc.val 4 = some p →
      Sparse.get none s.dev.cpl.seen (p.src * 2048 + p.reqid) = none →
      let d := s.fresh.pktTake k.val (6 + vc.val)
      Gives (.lockReq k vc) s
        { d with
          cpl := { d.cpl with seen := Sparse.set none d.cpl.seen (p.src * 2048 + p.reqid) (some { tag := p.tag, ts := p.ts, aux := p.aux }) }
          ann := { d.ann with reqs := d.ann.reqs ++ [{ stop := p.reqid / 16, unit := p.reqid % 16, tag := p.tag, owner := some (.device (Fin.ofNat 512 p.src)), lock := p.aux % 256, op := p.aux / 256 % 4 }] } })
  ∧ (∀ (s : State) (k : Unit4) (vc : Fin 2) (p : CPkt) (r : Nat), s.dev.live = true → s.dev.pktFor k.val vc.val 4 = some p →
      Sparse.get none s.dev.cpl.seen (p.src * 2048 + p.reqid) = some { tag := p.tag, ts := p.ts, aux := p.aux, res := some r } →
      Gives (.lockReq k vc) s
        ((s.fresh.pktTake k.val (6 + vc.val)).sayTo
          { msg := 5, dst := p.src, src := s.dev.selfId, tag := p.tag, reqid := p.reqid, ts := s.dev.now, aux := p.aux % 256 + r * 2 ^ 8 } 4))
  -- LOCK_RES answers the requester that waits; one nobody waits for is dropped
  ∧ (∀ (s : State) (k : Unit4) (vc : Fin 2) (p : CPkt) (l : CLockReq), s.dev.live = true → s.dev.pktFor k.val vc.val 5 = some p → s.dev.cpl.locks = [l] →
      l.rid = p.reqid → l.tag = p.tag →
      Gives (.lockRes k vc) s
        (Dev.emit { s.fresh.pktTake k.val (2 + vc.val) with cpl := { (s.fresh.pktTake k.val (2 + vc.val)).cpl with locks := [] } }
          (.resp l.rid l.tag 0 [BitVec.ofNat 8 (p.aux / 256)])))
  ∧ (∀ (s : State) (k : Unit4) (vc : Fin 2) (p : CPkt), s.dev.live = true → s.dev.pktFor k.val vc.val 5 = some p → s.dev.cpl.locks = [] →
      Gives (.lockRes k vc) s (s.fresh.pktTake k.val (2 + vc.val)))
  -- a member that is dropped: transfers with it end with NO_MEMBER (5), MEPOCH counts the change
  ∧ (∀ (s : State) (m : DevId) (n : Nat) (x : Xfer), s.dev.running = false → s.dev.member m.val = true → m.val ≠ s.dev.selfId → s.dev.cpl.xfers = [x] →
      x.dev = m.val → s.dev.cpl.pend = [] →
      let d := s.dev.applyNotice m.val n 1 0
      d.member m.val = false ∧ d.cpl.xfers = [] ∧ Out.resp x.rid x.rtag 5 [] ∈ d.out ∧ Sparse.get 0 d.cpl.applied m.val = n
        ∧ d.fld CPL_MEPOCH = (s.dev.fld CPL_MEPOCH + 1) % 2 ^ 32 ∧ d.mem = s.dev.mem)

/-- Exact replay: arming, start, end, the feed (R523 to R533, R538).
It says where these complete with their own effect: repArm, repStop, repStart, repEnd, replayFeed. -/
def Obligations.ExactReplay : Prop :=
  -- ARM in RUN: the role and rings written, STATE is ARMED; ARM while a run is set up or active is ignored with a CSR_ACCESS entry
  (∀ (s : State) (p : Path), Reaches s.dev p 0x400 → s.dev.cfgState = 5 → s.dev.fld REP_STATE = 0 →
    Gives (.repArm p 0x9E35000000000005) s
      (((((s.fresh.setF REP_ROLE 1).setF REP_RING 0).setF REP_COMPARE 0).setF REP_STATE 1).emit .wrDone))
  ∧ (∀ (s : State) (p : Path), Reaches s.dev p 0x400 → 1 ≤ s.dev.fld REP_STATE → s.dev.fld REP_STATE ≤ 3 →
      Gives (.repArm p 0x9E35000000000005) s
        (((((s.fresh.setF REP_ROLE 1).setF REP_RING 0).setF REP_COMPARE 0).csrAccess 0x400 8 (pathCode p) 3).emit .wrDone))
  -- a wrong KEY is ignored with a CSR_ACCESS entry
  ∧ (∀ (s : State) (p : Path) (v : Word64), Reaches s.dev p 0x400 → v.toNat / 2 ^ 48 ≠ 0x9E35 →
      Gives (.repArm p v) s ((s.fresh.csrAccess 0x400 8 (pathCode p) 2).emit .wrDone)
        ∧ Gives (.repStop p v) s ((s.fresh.csrAccess 0x400 8 (pathCode p) 2).emit .wrDone))
  -- STOP ends a RUN with a REP_END entry; it is ignored otherwise
  ∧ (∀ (s : State) (p : Path), Inv s → Reaches s.dev p 0x400 → s.dev.running = true → s.dev.fld REP_ROLE = 1 → s.dev.fld REP_COMPARE = 0 → s.dev.fld REP_RING = 0 →
      Ends (.repStop p 0x9E35000000000006) s fun d => d.fld REP_STATE = 4 ∧ d.fld REP_RT = s.dev.fld REP_RT ∧ d.out = [.wrDone] ∧ d.mem = s.dev.mem
        ∧ d.ember = (s.dev.logEv 0x000D .I 0 [dC 1, dT (s.dev.fld REP_RT), dC (s.dev.fld REP_DIVERGED), dC (s.dev.fld REP_INCOMPLETE)]).ember)
  ∧ (∀ (s : State) (p : Path), Reaches s.dev p 0x400 → s.dev.running = false →
      Gives (.repStop p 0x9E35000000000006) s ((((s.fresh.setF REP_ROLE 1).setF REP_RING 0).setF REP_COMPARE 0).emit .wrDone))
  -- REP_START: RT is 0 at an edge at which the ROOT count is a multiple of P; what was held is released
  ∧ (∀ s : State, Inv s → s.dev.live = true → s.dev.fld REP_STATE = 2 → s.dev.load.bDone = true → s.dev.clk.withheld = s.dev.rep.held0 → s.dev.fld REP_ROLE = 0 →
      Ends .repStart s fun d => d.fld REP_STATE = 3 ∧ d.fld REP_RT = 0 ∧ d.rep.hold = false ∧ d.fld REP_T0 = d.clk.ts % 2 ^ 64
        ∧ d.fld REP_DIVERGED = 0 ∧ d.fld REP_INCOMPLETE = 0 ∧ d.fld REP_REASON = 0 ∧ d.rep.nclk0 = d.nclk ∧ d.mem = s.dev.mem
        ∧ (s.dev.clk.root % 12 = 0 → s.dev.repP % 12 = 0 → d.clk.root % s.dev.repP = 0))
  -- REP_END: RT reaches GLB_REP_LEN
  ∧ (∀ s : State, Inv s → s.dev.live = true → s.dev.running = true → s.dev.fld REP_LEN ≠ 0 → s.dev.fld REP_RT ≤ s.dev.fld REP_LEN →
      Ends .repEnd s fun d => d.fld REP_STATE = 4 ∧ d.fld REP_RT = s.dev.fld REP_LEN % 2 ^ 64 ∧ d.mem = s.dev.mem ∧ d.tile = s.dev.tile
        ∧ d.clk.tick = s.dev.clk.tick + (s.dev.fld REP_LEN - s.dev.fld REP_RT))
  ∧ (∀ s : State, Inv s → s.dev.fld REP_LEN = 0 → Leaves .repEnd s s.fresh)
  -- REPLAY_FEED: a ring that has been fed to its end feeds no more; a die not fed from its rings takes nothing
  ∧ (∀ (s : State) (n : Unit4) (g : Fin 17), Inv s → s.dev.ringFed n.val = false → Leaves (.replayFeed n g) s s.fresh)
  -- in a replay run, the next record of DIR 0 is delivered in the tick its TS_EOP names, and feeding moves behind it
  ∧ (∀ (s : State) (n : Unit4) (g : Fin 17), Inv s → s.dev.live = true → s.dev.ringFed n.val = true → s.dev.flag CAP_EN n.val g.val = true →
      Gives (.replayFeed n g) s (s.fresh.feedNext n.val g.val (2 ^ s.dev.fld CAP_SIZE n.val g.val / 32)))

/-- What issuing a command does before its own effect (R391, R401, R417): CMD_SEQ counts on, the list stands at the next command (LINK: at its target),
the command is in flight with the tiles its part has still to start on, and the boundary behind it is a seam unless NOSEAM says otherwise. -/
def Sys2Proof.Machine.Dev.issued (d : Dev) (e : Nat) (l : CList) (b : Nat) (ts : List Nat) : Dev :=
  let x := d.engOf e
  let o := cmdOpc b
  (d.setEng e { x with
    run := some { l with next := if o = 0x02 then cmdBytes b 16 24 else l.next + 64, buf := if o = 0x02 then [] else l.buf.drop 64, pos := l.pos + 1 }
    flight := x.flight ++ [{ seq := d.fld CE_NEXT_SEQ e, bytes := b, addr := l.next, list := l.id, pos := l.pos, todo := ts }]
    seam := !bitAt b 9 || o == 0x01 || o == 0x02 }).setF CE_NEXT_SEQ ((d.fld CE_NEXT_SEQ e + 1) % 2 ^ 24) e

/-- The engine may issue the legal command `b` of its list `l`. -/
abbrev Sys2Proof.Machine.MayIssue (s : State) (e : Engine) (l : CList) (b opc : Nat) : Prop :=
  s.dev.mayIssue e.val = some (l, b) ∧ cmdOpc b = opc ∧ (s.dev.cmdCheck e.val b).1 = 0

/-- Queues, lists, seams and swaps of the command engines (R392, R394 to R397, R415 to R420).
It says where these complete with their own effect: doorbell, ceFlushWrite, listTake, listFetch, listComplete, preempt, resume,
drop, swapGo, ceSwap. -/
def Obligations.EngineLists : Prop :=
  -- DOORBELL: the new tail; one of CE_QSIZE or more is ignored with a CSR_ACCESS entry
  (∀ (s : State) (e : Engine) (q : Fin 4) (p : Path) (v : BitVec 12), Reaches s.dev p (0x2000110 + 0x10000 * e.val + 0x20 * q.val) →
    v.toNat < s.dev.fld CE_QSIZE e.val q.val →
    Gives (.doorbell e q p (v.setWidth 64)) s ((s.fresh.setF CE_QTAIL v.toNat e.val q.val).emit .wrDone))
  ∧ (∀ (s : State) (e : Engine) (q : Fin 4) (p : Path) (v : BitVec 12), Reaches s.dev p (0x2000110 + 0x10000 * e.val + 0x20 * q.val) →
      s.dev.fld CE_QSIZE e.val q.val ≤ v.toNat →
      Gives (.doorbell e q p (v.setWidth 64)) s
        ((s.fresh.csrAccess (0x2000110 + 0x10000 * e.val + 0x20 * q.val) 8 (pathCode p) 4).emit .wrDone))
  -- CE_FLUSH_WRITE before B_DONE: a tile of another engine's flush is refused; after B_DONE it changes nothing
  ∧ (∀ (s : State) (e : Engine) (p : Path) (v : Word64), Reaches s.dev p (0x2000010 + 0x10000 * e.val) → s.dev.load.bDone = false →
      ((upTo 16).any fun i => i != e.val && Nat.land (s.dev.fld CE_FLUSH i) v.toNat != 0) = false →
      Gives (.ceFlushWrite e p v) s ((s.fresh.setF CE_FLUSH v.toNat e.val).emit .wrDone))
  ∧ (∀ (s : State) (e : Engine) (p : Path) (v : Word64), Reaches s.dev p (0x2000010 + 0x10000 * e.val) → s.dev.load.bDone = false →
      ((upTo 16).any fun i => i != e.val && Nat.land (s.dev.fld CE_FLUSH i) v.toNat != 0) = true →
      Gives (.ceFlushWrite e p v) s ((s.fresh.csrAccess (0x2000010 + 0x10000 * e.val) 8 (pathCode p) 4).emit .wrDone))
  ∧ (∀ (s : State) (e : Engine) (p : Path) (v : Word64), Reaches s.dev p (0x2000010 + 0x10000 * e.val) → s.dev.load.bDone = true →
      Gives (.ceFlushWrite e p v) s (s.fresh.emit .wrDone))
  -- LIST_TAKE: the lowest-numbered queue's list; a suspended list resumes once queue 0 is empty
  ∧ (∀ (s : State) (e : Engine), s.dev.released = true → (s.dev.engOf e.val).run = none → (s.dev.engOf e.val).susp = none → s.dev.fld CE_STATE e.val ≠ 2 →
      s.dev.swapDue e.val = false → s.dev.queueHas e.val 0 = false → s.dev.queueHas e.val 1 = true → Sparse.get 0 (s.dev.engOf e.val).entry 1 = 0 →
      Gives (.listTake e) s (s.fresh.takePosted e.val 1))
  ∧ (∀ (s : State) (e : Engine) (l : CList), s.dev.released = true → (s.dev.engOf e.val).run = none → (s.dev.engOf e.val).susp = some l → s.dev.fld CE_STATE e.val ≠ 2 →
      s.dev.swapDue e.val = false → s.dev.queueHas e.val 0 = false →
      Gives (.listTake e) s (((s.fresh.setEng e.val { s.dev.engOf e.val with susp := none }).setF CE_SUSPENDED 0 e.val).listRun e.val l))
  -- no list is taken while one runs or the engine is HALTED
  ∧ (∀ (s : State) (e : Engine), Inv s → (s.dev.engOf e.val).run.isSome = true ∨ s.dev.fld CE_STATE e.val = 2 → Leaves (.listTake e) s s.fresh)
  -- LIST_FETCH: the rest of the aligned 1,024 bytes
  ∧ (∀ (s : State) (e : Engine) (l : CList), s.dev.released = true → (s.dev.engOf e.val).run = some l → s.dev.fld CE_STATE e.val = 1 → (s.dev.engOf e.val).stopAt = none →
      l.buf = [] →
      let r := s.fresh.accRead 0 l.next (1024 - l.next % 1024)
      (r.1 = 0 → Gives (.listFetch e) s
        (r.2.2.setEng e.val { r.2.2.engOf e.val with run := some { l with buf := r.2.1, fetched := l.next + (1024 - l.next % 1024) } }))
      ∧ (r.1 ≠ 0 → s.dev.flag CE_ON_ERR e.val = false →
          Gives (.listFetch e) s ((r.2.2.cmdFailed e.val l.id (r.2.2.fld CE_NEXT_SEQ e.val) 0 16 0 false).haltNow e.val)))
  -- LIST_COMPLETE: the record of a list that has ended is written once its commands have completed, then its vector is raised
  ∧ (∀ (s : State) (e : Engine) (l : CList), (s.dev.engOf e.val).ending = [l] → ((s.dev.engOf e.val).live.any fun c => c.list == l.id) = false →
      Gives (.listComplete e) s ((s.fresh.setEng e.val { s.dev.engOf e.val with ending := [] }).writeRecord e.val l))
  ∧ (∀ (s : State) (e : Engine) (l : CList), (s.dev.engOf e.val).ending = [l] → ((s.dev.engOf e.val).live.any fun c => c.list == l.id) = true →
      Gives (.listComplete e) s s.fresh)
  -- PREEMPT: queue 0's list suspends the running one at a seam; elsewhere it does not
  ∧ (∀ (s : State) (e : Engine) (l : CList), s.dev.released = true → s.dev.fld CE_STATE e.val = 1 → (s.dev.engOf e.val).run = some l → (s.dev.engOf e.val).seam = true →
      s.dev.swapDue e.val = false → s.dev.preemptDue e.val = true →
      Gives (.preempt e) s
        (((s.fresh.setEng e.val { s.dev.engOf e.val with run := none, susp := some { l with flags := Nat.lor l.flags 16 } }).setF CE_SUSPENDED 1 e.val).llDiscard e.val))
  ∧ (∀ (s : State) (e : Engine), Inv s → (s.dev.engOf e.val).seam = false ∨ s.dev.flag CE_PREEMPT e.val = false → Leaves (.preempt e) s s.fresh)
  -- SWAP_GO: pending until the first seam at or after AT; a second GO, or a wrong KEY, is ignored with a CSR_ACCESS entry
  ∧ (∀ (s : State) (e : Engine) (p : Path), Reaches s.dev p (0x2000058 + 0x10000 * e.val) → s.dev.flag CE_SWAP_PENDING e.val = false → s.dev.fld CE_STATE e.val = 1 →
      Gives (.swapGo e p 0x2C6B000000000001) s ((s.fresh.setF CE_SWAP_PENDING 1 e.val).emit .wrDone))
  ∧ (∀ (s : State) (e : Engine) (p : Path), Reaches s.dev p (0x2000058 + 0x10000 * e.val) → s.dev.flag CE_SWAP_PENDING e.val = true →
      Gives (.swapGo e p 0x2C6B000000000001) s ((s.fresh.csrAccess (0x2000058 + 0x10000 * e.val) 8 (pathCode p) 3).emit .wrDone))
  -- CE_SWAP at a seam: the old list ends as SWAPPED_OUT, the new one starts in the same queue, CMD_SEQ carries on
  ∧ (∀ (s : State) (e : Engine), Inv s → s.dev.released = true → s.dev.flag CE_SWAP_PENDING e.val = true → s.dev.fld CE_STATE e.val = 1 → (s.dev.engOf e.val).stopAt = none →
      (s.dev.engOf e.val).seam = true → s.dev.fld CE_SWAP_AT e.val ≤ s.dev.now → s.dev.fld CE_FLUSH e.val = 0 → s.dev.safe.wicks = [] →
      Ends (.ceSwap e) s fun d => d.flag CE_SWAP_PENDING e.val = false ∧ ((d.engOf e.val).run.map (·.start)) = some (64 * s.dev.fld CE_SWAP_ADDR e.val)
        ∧ ((d.engOf e.val).run.map (·.queue)) = some (s.dev.fld CE_QUEUE e.val) ∧ d.fld CE_NEXT_SEQ e.val = s.dev.fld CE_NEXT_SEQ e.val
        ∧ (d.engOf e.val).ending = (s.dev.engOf e.val).ending ++ ((s.dev.engOf e.val).run.map fun l => { l with ended := true, flags := Nat.lor l.flags 8 }).toList
        ∧ (d.engOf e.val).flight = (s.dev.engOf e.val).flight ∧ d.mem = s.dev.mem)
  ∧ (∀ (s : State) (e : Engine), Inv s → (s.dev.engOf e.val).seam = false → Leaves (.ceSwap e) s s.fresh)
  -- RESUME while HALTED continues; DROP ends the list with DROPPED; neither acts in another state
  ∧ (∀ (s : State) (e : Engine) (p : Path), Inv s → Reaches s.dev p (0x2000000 + 0x10000 * e.val) → s.dev.fld CE_STATE e.val = 2 → (s.dev.engOf e.val).run.isSome = true →
      Ends (.resume e p 4) s fun d => d.fld CE_STATE e.val = 1 ∧ (d.engOf e.val).run = (s.dev.engOf e.val).run ∧ (d.engOf e.val).stopAt = none ∧ d.mem = s.dev.mem)
  ∧ (∀ (s : State) (e : Engine) (p : Path) (l : CList), Inv s → Reaches s.dev p (0x2000000 + 0x10000 * e.val) → s.dev.fld CE_STATE e.val = 2 → (s.dev.engOf e.val).run = some l →
      (s.dev.engOf e.val).susp = none → s.dev.fld CE_FLUSH e.val = 0 →
      Ends (.drop e p 8) s fun d => d.fld CE_STATE e.val = 0 ∧ (d.engOf e.val).run = none
        ∧ (d.engOf e.val).ending = (s.dev.engOf e.val).ending ++ [{ l with ended := true, flags := Nat.lor l.flags 32 }] ∧ d.mem = s.dev.mem)
  ∧ (∀ (s : State) (e : Engine) (p : Path), Inv s → Reaches s.dev p (0x2000000 + 0x10000 * e.val) → s.dev.fld CE_STATE e.val ≠ 2 →
      Ends (.drop e p 8) s (fun d => d.fld CE_STATE e.val = s.dev.fld CE_STATE e.val ∧ d.eng = s.dev.eng ∧ d.mem = s.dev.mem)
        ∧ Ends (.resume e p 4) s (fun d => d.fld CE_STATE e.val = s.dev.fld CE_STATE e.val ∧ d.eng = s.dev.eng ∧ d.mem = s.dev.mem))

/-- Issue of the seventeen commands of a list (R391, R393, R399 to R412, R414).
It says where these complete with their own effect: nop, end_, link, layer, vxrun, ceCopy, convert, evstep, ceWait, signal,
barrier, check, tstamp, wick, kick, replay, lock. -/
def Obligations.EngineCommands : Prop :=
  -- NOP does nothing
  (∀ (s : State) (e : Engine) (l : CList) (b : Nat), MayIssue s e l b 0x00 → Gives (.nop e) s ((s.fresh.issued e.val l b []).cmdDone e.val (s.dev.fld CE_NEXT_SEQ e.val)))
  -- END ends the list
  ∧ (∀ (s : State) (e : Engine) (l : CList) (b : Nat), MayIssue s e l b 0x01 → Gives (.end_ e) s (((s.fresh.issued e.val l b []).cmdDone e.val (s.dev.fld CE_NEXT_SEQ e.val)).listOver e.val 0))
  -- LINK: the list goes on at its target
  ∧ (∀ (s : State) (e : Engine) (l : CList) (b : Nat), MayIssue s e l b 0x02 → Gives (.link e) s ((s.fresh.issued e.val l b []).cmdDone e.val (s.dev.fld CE_NEXT_SEQ e.val)))
  -- SIGNAL: memory, an arrival, a vector or a queue tail
  ∧ (∀ (s : State) (e : Engine) (l : CList) (b : Nat), MayIssue s e l b 0x21 → Gives (.signal e) s ((s.fresh.issued e.val l b []).ceSignal e.val (s.dev.fld CE_NEXT_SEQ e.val) b))
  -- BARRIER: this engine arrives
  ∧ (∀ (s : State) (e : Engine) (l : CList) (b : Nat), MayIssue s e l b 0x22 → Gives (.barrier e) s ((s.fresh.issued e.val l b []).ceBarrier e.val (s.dev.fld CE_NEXT_SEQ e.val) b))
  -- TSTAMP: mode 0 writes its record now, mode 1 when every earlier command has completed
  ∧ (∀ (s : State) (e : Engine) (l : CList) (b : Nat), MayIssue s e l b 0x24 → Gives (.tstamp e) s (if cmdBytes b 12 13 = 0 then (s.fresh.issued e.val l b []).ceStamp e.val (s.dev.fld CE_NEXT_SEQ e.val) b else (s.fresh.issued e.val l b [])))
  -- WICK arms or disarms, or fails with WICK_BUSY
  ∧ (∀ (s : State) (e : Engine) (l : CList) (b : Nat), MayIssue s e l b 0x25 → Gives (.wick e) s ((s.fresh.issued e.val l b []).ceWick e.val (s.dev.fld CE_NEXT_SEQ e.val) l.id b))
  -- KICK reaches its wick
  ∧ (∀ (s : State) (e : Engine) (l : CList) (b : Nat), MayIssue s e l b 0x26 → Gives (.kick e) s (((s.fresh.issued e.val l b []).wickKickBy (cmdBytes b 12 13) e.val).cmdDone e.val (s.dev.fld CE_NEXT_SEQ e.val)))
  -- LOCK asks the lock table
  ∧ (∀ (s : State) (e : Engine) (l : CList) (b : Nat), MayIssue s e l b 0x28 → Gives (.lock e) s ((s.fresh.issued e.val l b []).ceLock e.val (s.dev.fld CE_NEXT_SEQ e.val) b))
  -- WAIT: issue holds until its condition does; it looks at once
  ∧ (∀ (s : State) (e : Engine) (l : CList) (b : Nat), MayIssue s e l b 0x20 →
      let d := s.fresh.issued e.val l b []
      Gives (.ceWait e) s ((d.setEng e.val { d.engOf e.val with wait := .cond (s.dev.fld CE_NEXT_SEQ e.val) s.dev.clk.tick }).waitCheck e.val (s.dev.fld CE_NEXT_SEQ e.val) b))
  -- commands that need tiles: the counter of ACW rises in each target tile, and each tile's look-ahead learns of the command
  ∧ (∀ (s : State) (e : Engine) (l : CList) (b : Nat) (ts : List Nat), MayIssue s e l b 0x10 → s.dev.cmdTargets e.val b = some ts →
      Gives (.layer e) s (ts.foldl (fun d t => d.llIssue e.val l.next (l.id * 2 ^ 32 + l.pos) b (s.dev.fld CE_NEXT_SEQ e.val) t) ((s.fresh.issued e.val l b ts).ceArm b ts)))
  ∧ (∀ (s : State) (e : Engine) (l : CList) (b : Nat) (ts : List Nat), MayIssue s e l b 0x11 → s.dev.cmdTargets e.val b = some ts →
      Gives (.vxrun e) s (ts.foldl (fun d t => d.llIssue e.val l.next (l.id * 2 ^ 32 + l.pos) b (s.dev.fld CE_NEXT_SEQ e.val) t) ((s.fresh.issued e.val l b ts).ceArm b ts)))
  ∧ (∀ (s : State) (e : Engine) (l : CList) (b : Nat) (ts : List Nat), MayIssue s e l b 0x12 → s.dev.cmdTargets e.val b = some ts →
      Gives (.ceCopy e) s (ts.foldl (fun d t => d.llIssue e.val l.next (l.id * 2 ^ 32 + l.pos) b (s.dev.fld CE_NEXT_SEQ e.val) t) ((s.fresh.issued e.val l b ts).ceArm b ts)))
  ∧ (∀ (s : State) (e : Engine) (l : CList) (b : Nat) (ts : List Nat), MayIssue s e l b 0x13 → s.dev.cmdTargets e.val b = some ts →
      Gives (.convert e) s (ts.foldl (fun d t => d.llIssue e.val l.next (l.id * 2 ^ 32 + l.pos) b (s.dev.fld CE_NEXT_SEQ e.val) t) ((s.fresh.issued e.val l b ts).ceArm b ts)))
  ∧ (∀ (s : State) (e : Engine) (l : CList) (b : Nat) (ts : List Nat), MayIssue s e l b 0x14 → s.dev.cmdTargets e.val b = some ts →
      Gives (.evstep e) s (ts.foldl (fun d t => d.llIssue e.val l.next (l.id * 2 ^ 32 + l.pos) b (s.dev.fld CE_NEXT_SEQ e.val) t) ((s.fresh.issued e.val l b ts).ceArm b ts)))
  ∧ (∀ (s : State) (e : Engine) (l : CList) (b : Nat) (ts : List Nat), MayIssue s e l b 0x23 → s.dev.cmdTargets e.val b = some ts →
      Gives (.check e) s (ts.foldl (fun d t => d.llIssue e.val l.next (l.id * 2 ^ 32 + l.pos) b (s.dev.fld CE_NEXT_SEQ e.val) t) ((s.fresh.issued e.val l b ts).ceArm b ts)))
  ∧ (∀ (s : State) (e : Engine) (l : CList) (b : Nat) (ts : List Nat), MayIssue s e l b 0x27 → s.dev.cmdTargets e.val b = some ts →
      Gives (.replay e) s (ts.foldl (fun d t => d.llIssue e.val l.next (l.id * 2 ^ 32 + l.pos) b (s.dev.fld CE_NEXT_SEQ e.val) t) ((s.fresh.issued e.val l b ts).ceArm b ts)))
  -- a command of no opcode fails with BAD_OPC (1): it is in flight, done, with that status
  ∧ (∀ (s : State) (e : Engine) (l : CList) (b : Nat), Inv s → s.dev.mayIssue e.val = some (l, b) → opcOk (cmdOpc b) = false → s.dev.fld CE_FLUSH e.val = 0 →
      Ends (.nop e) s fun d => (d.engOf e.val).flight = (s.dev.engOf e.val).flight ++ [{ seq := s.dev.fld CE_NEXT_SEQ e.val, bytes := b, addr := l.next, list := l.id, pos := l.pos, status := 1, done := true }]
        ∧ d.fld CE_NEXT_SEQ e.val = (s.dev.fld CE_NEXT_SEQ e.val + 1) % 2 ^ 24 ∧ d.mem = s.dev.mem ∧ d.tile = s.dev.tile)
  -- a TGT the command does not admit fails it with BAD_TGT (3), before its fields are judged
  ∧ (∀ (s : State) (e : Engine) (b : Nat), opcOk (cmdOpc b) = true → s.dev.cmdTargets e.val b = none → (s.dev.cmdCheck e.val b).1 = 3)
  -- ORDER, BARRIER and END wait for every earlier command of the list; 64 are in flight at most
  ∧ (∀ (s : State) (e : Engine) (l : CList), (s.dev.engOf e.val).run = some l →
      (cmdOrder (leNat (l.buf.take 64)) = true ∨ cmdOpc (leNat (l.buf.take 64)) = 0x01 ∨ cmdOpc (leNat (l.buf.take 64)) = 0x22) →
      ((s.dev.engOf e.val).live.any fun c => c.list == l.id) = true → s.dev.mayIssue e.val = none)
  ∧ (∀ (s : State) (e : Engine), 64 ≤ (s.dev.engOf e.val).live.length → s.dev.mayIssue e.val = none)

/-- A command that needs no tile has done what it does, and nothing of it is left. -/
abbrev Sys2Proof.Machine.Cmd.Over (c : Cmd) : Prop :=
  c.todo = [] ∧ c.on = [] ∧ c.done = true ∧ needsTile (cmdOpc c.bytes) = false ∧ bitAt c.bytes 10 = false

/-- The look-ahead of a tile with the slots of ended parts released (R433). -/
abbrev Sys2Proof.Machine.State.tidied (s : State) (t : LTile) : Dev := s.fresh.llTidy t.val

/-- The part of a command that a tile has to start next, and whether it may: no TILE reset, no handover, its counter, its unit (R28, R399, R401). -/
abbrev Sys2Proof.Machine.Dev.nextPart (d : Dev) (e : Engine) (t : LTile) : Option Cmd := (d.engOf e.val).flight.find? fun c => c.todo.contains t.val

abbrev Sys2Proof.Machine.Dev.mayStart (d : Dev) (e : Engine) (t : LTile) (c : Cmd) : Bool :=
  !d.tileResetting t.val && !d.partHeld t.val c.bytes && d.acwOk t.val c.bytes && d.unitFree t.val c e.val

/-- The bytes of the list that a tile's look-ahead stands at, and the device once they are at hand. -/
abbrev Sys2Proof.Machine.State.llSeen (s : State) (t : LTile) (a : Nat) : Nat × List Byte × Dev :=
  let r := (s.tidied t).llBytes t.val a
  (r.1, r.2.1, r.2.2.setTile t.val { r.2.2.tileOf t.val with llBuf := r.2.1 })

/-- The look-ahead moves on to a place of the list, with the bytes at hand. -/
abbrev Sys2Proof.Machine.Dev.llTo (d : Dev) (t : LTile) (p : Option (Nat × Nat × Nat)) (rest : List Byte) : Dev :=
  d.setTile t.val { d.tileOf t.val with llAt := p, llBuf := rest }

/-- The oldest fill read of a tile, its entry, and what the read gives (R432, R435). -/
abbrev Sys2Proof.Machine.State.llGot (s : State) (t : LTile) (y : LlEnt) (a due : Nat) (r : List (Nat × Nat × Nat × Nat)) : Nat × List Byte × Dev :=
  ((s.tidied t).setTile t.val { (s.tidied t).tileOf t.val with llReads := r }).llLine ((s.tidied t).stopOf t.val) a (y.wmode == 1) due

abbrev Sys2Proof.Machine.Dev.llEntryAt (d : Dev) (t : LTile) (pos : Nat) : Option LlEnt := (d.tileOf t.val).ll.find? fun y => y.pos == pos && !y.dead

/-- Phases 1 to 3 of a step of event mode: scatter (not in the first step), update, fan-out: the batches staged, and the device (R461). -/
abbrev Sys2Proof.Machine.State.evStaged (s : State) (t : LTile) (r : EvRun) : Batches × Dev :=
  let step := s.dev.evT t.val r
  let d := (s.fresh.sramRead t.val r.param 576 1).2.2.setF EV_T step t.val
  let d := if r.first then d
    else (upTo (64 + d.evCsegs t.val r)).foldl (fun (d : Dev) k => if d.evGone r k then d else d.evSegment t.val r step (d.evSegAt t.val r ((step + 1) % 2) k)) d
  let u := d.evUpdate t.val r step
  u.1.foldl (fun (a : Batches × Dev) f => a.2.evFan t.val r step a.1 f) ([], u.2)

/-- Commands on their tiles, waits, completion, the Lamplighter and event mode (R28, R401, R407, R413 to R415, R427, R432, R436, R443, R461 to R463).
It says where these complete with their own effect: cmdTileStart, cmdComplete, waitPoll, waitTimeout, llFetch, llFillRead,
llFillData, carouselRound, evStep, evBarrierRelease. -/
def Obligations.EngineProgress : Prop :=
  -- CMD_TILE_START: in issue order on the tile, when its counter and its unit allow it and no handover holds it
  (∀ (s : State) (e : Engine) (q : BitVec 24) (t : LTile) (c : Cmd), s.dev.released = true → (s.tidied t).nextPart e t = some c → c.seq % 2 ^ 24 = q.toNat →
    (s.tidied t).mayStart e t c = true →
    Gives (.cmdTileStart e q t) s (((s.tidied t).tileStart e.val t.val c).llTidy t.val))
  ∧ (∀ (s : State) (e : Engine) (q : BitVec 24) (t : LTile) (c : Cmd), (s.tidied t).nextPart e t = some c → c.seq % 2 ^ 24 ≠ q.toNat ∨ (s.tidied t).mayStart e t c = false →
      Gives (.cmdTileStart e q t) s (s.tidied t))
  -- WAIT_POLL looks again; of a WAIT for a timestamp with no TIMEOUT that timestamp comes; WAIT_TIMEOUT fails the WAIT with WAIT_TIMEOUT (10) and issue goes on
  ∧ (∀ (s : State) (e : Engine) (q a : Nat) (c : Cmd), s.dev.released = true → (s.dev.engOf e.val).wait = .cond q a → s.dev.cmdOf e.val q = some c →
      cmdBytes c.bytes 12 13 ≠ 2 → s.dev.ceHeld c.bytes = false → Gives (.waitPoll e) s (s.fresh.waitCheck e.val q c.bytes))
  ∧ (∀ (s : State) (e : Engine) (q a : Nat) (c : Cmd), s.dev.released = true → (s.dev.engOf e.val).wait = .cond q a → s.dev.cmdOf e.val q = some c →
      cmdBytes c.bytes 12 13 = 2 ∧ waitEnds a c.bytes = none → (s.fresh.passTo (cmdBytes c.bytes 24 32)).ceHeld c.bytes = false →
      Gives (.waitPoll e) s ((s.fresh.passTo (cmdBytes c.bytes 24 32)).waitCheck e.val q c.bytes))
  ∧ (∀ (s : State) (e : Engine) (q a t : Nat) (c : Cmd), s.dev.released = true → (s.dev.engOf e.val).wait = .cond q a → s.dev.cmdOf e.val q = some c →
      waitEnds a c.bytes = some t →
      Gives (.waitTimeout e) s (((s.fresh.tickTo t).setEng e.val { s.dev.engOf e.val with wait := .none }).cmdFail e.val q 10))
  ∧ (∀ (s : State) (e : Engine), Inv s → (s.dev.engOf e.val).wait = .none → Leaves (.waitPoll e) s s.fresh ∧ Leaves (.waitTimeout e) s s.fresh)
  -- CMD_COMPLETE: the command leaves, the list counts it and takes its flags; a command with parts left stays
  ∧ (∀ (s : State) (e : Engine) (q : BitVec 24) (c : Cmd), Inv s → s.dev.released = true → s.dev.cmdOf e.val q.toNat = some c → c.Over →
      c.status = 0 → (s.dev.engOf e.val).stopAt = none →
      Ends (.cmdComplete e q) s fun d => (d.engOf e.val).flight = ((s.dev.engOf e.val).flight.filter fun y => y.seq != q.toNat)
        ∧ d.fld CE_CNT_DONE e.val = satAdd 32 (s.dev.fld CE_CNT_DONE e.val) 1 ∧ d.mem = s.dev.mem ∧ d.tile = s.dev.tile
        ∧ (d.engOf e.val).run = (s.dev.engOf e.val).run.map fun l => if l.id = c.list then { l with done := (l.done + 1) % 2 ^ 32, flags := Nat.lor l.flags c.flagBits, poison := (l.poison + c.poison) % 2 ^ 32 } else l)
  ∧ (∀ (s : State) (e : Engine) (q : BitVec 24) (c : Cmd), Inv s → s.dev.cmdOf e.val q.toNat = some c → needsTile (cmdOpc c.bytes) = true →
      c.todo ≠ [] ∨ c.on ≠ [] → Leaves (.cmdComplete e q) s s.fresh)
  -- under STOP the first failure halts the engine once the commands in flight have completed
  ∧ (∀ (s : State) (e : Engine) (q : BitVec 24) (c : Cmd) (l : CList), Inv s → s.dev.released = true → (s.dev.engOf e.val).flight = [c] → c.seq = q.toNat → c.Over →
      c.status ≠ 0 → s.dev.flag CE_ON_ERR e.val = false ∧ (s.dev.engOf e.val).stopAt = none ∧ (s.dev.engOf e.val).run = some l ∧ l.id = c.list ∧ l.status = 0 →
      Ends (.cmdComplete e q) s fun d => d.fld CE_STATE e.val = 2 ∧ (d.engOf e.val).flight = [] ∧ (d.engOf e.val).stopAt = none
        ∧ d.fld CE_ERR_SEQ e.val = q.toNat ∧ ((d.engOf e.val).run.map (·.status)) = some c.status ∧ d.mem = s.dev.mem)
  -- LL_FETCH, of the bytes that the list holds next: a LAYER of its tile that has not been issued gets its entry, while DEPTH allows
  ∧ (∀ (s : State) (t : LTile) (e a p : Nat), s.dev.tileIssues t.val = true → ((s.tidied t).tileOf t.val).llAt = some (e, a, p) → (s.llSeen t a).1 = 0 →
      cmdOpc (leNat ((s.llSeen t a).2.1.take 64)) = 0x10 ∧ cmdTgt (leNat ((s.llSeen t a).2.1.take 64)) = 255 → (s.llSeen t a).2.2.notIssued e p = true →
      (((s.llSeen t a).2.2.tileOf t.val).ll.any fun y => y.engine == e && y.pos == p && !y.dead) = false →
      ((s.llSeen t a).2.2.tileOf t.val).llCount < ((s.llSeen t a).2.2.tileOf t.val).llDepth →
      Gives (.llFetch t) s
        ((s.llSeen t a).2.2.llAdd t.val ((s.llSeen t a).2.2.llEntry t.val e a p (leNat ((s.llSeen t a).2.1.take 64)) none) |>.llTo t (some (e, a + 64, p + 1)) ((s.llSeen t a).2.1.drop 64)))
  -- with DEPTH entries it waits
  ∧ (∀ (s : State) (t : LTile) (e a p : Nat), s.dev.tileIssues t.val = true → ((s.tidied t).tileOf t.val).llAt = some (e, a, p) → (s.llSeen t a).1 = 0 →
      cmdOpc (leNat ((s.llSeen t a).2.1.take 64)) = 0x10 ∧ cmdTgt (leNat ((s.llSeen t a).2.1.take 64)) = 255 →
      (((s.llSeen t a).2.2.tileOf t.val).ll.any fun y => y.engine == e && y.pos == p && !y.dead) = false →
      ((s.llSeen t a).2.2.tileOf t.val).llDepth ≤ ((s.llSeen t a).2.2.tileOf t.val).llCount →
      Gives (.llFetch t) s (s.llSeen t a).2.2)
  -- END ends the look-ahead, LINK takes it to its target, a command of another tile is passed over
  ∧ (∀ (s : State) (t : LTile) (e a p : Nat), s.dev.tileIssues t.val = true → ((s.tidied t).tileOf t.val).llAt = some (e, a, p) → (s.llSeen t a).1 = 0 →
      (cmdOpc (leNat ((s.llSeen t a).2.1.take 64)) = 0x01 → Gives (.llFetch t) s ((s.llSeen t a).2.2.llTo t none []))
      ∧ (cmdOpc (leNat ((s.llSeen t a).2.1.take 64)) = 0x02 →
          Gives (.llFetch t) s ((s.llSeen t a).2.2.llTo t (some (e, bits (leNat ((s.llSeen t a).2.1.take 64)) 128 48, p + 1)) []))
      ∧ (cmdOpc (leNat ((s.llSeen t a).2.1.take 64)) = 0x10 ∧ cmdTgt (leNat ((s.llSeen t a).2.1.take 64)) ≠ 255 ∧ cmdTgt (leNat ((s.llSeen t a).2.1.take 64)) ≠ t.val →
          Gives (.llFetch t) s ((s.llSeen t a).2.2.llTo t (some (e, a + 64, p + 1)) ((s.llSeen t a).2.1.drop 64))))
  -- LL_FILL_READ sends the next 256 B read of the first entry that may fill, with its deadline, at most 64 at once
  ∧ (∀ (s : State) (t : LTile) (y : LlEnt), s.dev.tileIssues t.val = true → ((s.tidied t).tileOf t.val).llReads.length < 64 → (((s.tidied t).tileOf t.val).ll.find? (s.tidied t).llWants) = some y →
      Gives (.llFillRead t) s
        (let d := s.tidied t
         (d.setTile t.val { d.tileOf t.val with
            llReads := (d.tileOf t.val).llReads ++ [(y.pos, y.slot + y.asked, y.src + y.asked, d.llDline t.val y)]
            ll := (d.tileOf t.val).ll.map fun z => if z.pos = y.pos then { z with asked := z.asked + 256 } else z }).emit
          (.link "LL.read" t.val [y.src + y.asked, d.llDline t.val y, if y.wmode = 1 then 1 else 0] [])))
  ∧ (∀ (s : State) (t : LTile), s.dev.tileIssues t.val = true → 64 ≤ ((s.tidied t).tileOf t.val).llReads.length → Gives (.llFillRead t) s (s.tidied t))
  -- LL_FILL_DATA: the data of the oldest read is written to the slot, poisoned data with its marks; a fill that fails is FAULT, with its address and status shown
  ∧ (∀ (s : State) (t : LTile) (y : LlEnt) (o a due : Nat) (r : List (Nat × Nat × Nat × Nat)), s.dev.released = true → ((s.tidied t).tileOf t.val).llReads = (y.pos, o, a, due) :: r →
      (s.tidied t).llEntryAt t y.pos = some y → ((s.llGot t y a due r).1 = 0 ∨ (s.llGot t y a due r).1 = 6) →
      Gives (.llFillData t) s
        (let d := (s.llGot t y a due r).2.2.sramWrite t.val o (allOn (s.llGot t y a due r).2.1)
         let d := if (s.llGot t y a due r).1 = 6 then d.markQuiet t.val o 256 else d
         (d.inc LL_BYTES 256 t.val).llUpd t.val y.pos fun y => { y with got := y.got + 256, st := if y.len ≤ y.got + 256 then 3 else y.st }))
  ∧ (∀ (s : State) (t : LTile) (y : LlEnt) (o a due : Nat) (r : List (Nat × Nat × Nat × Nat)), s.dev.released = true → ((s.tidied t).tileOf t.val).llReads = (y.pos, o, a, due) :: r →
      (s.tidied t).llEntryAt t y.pos = some y → (s.llGot t y a due r).1 ≠ 0 ∧ (s.llGot t y a due r).1 ≠ 6 →
      Gives (.llFillData t) s
        (let st := (s.llGot t y a due r).1
         let d := ((s.llGot t y a due r).2.2.llUpd t.val y.pos fun y => { y with st := 4, status := st }).inc LL_FAULTS 1 t.val
         ((d.setTile t.val { d.tileOf t.val with llReads := (d.tileOf t.val).llReads.filter fun k => k.1 != y.pos }).setF LL_FAULT_ADDR a t.val).setF LL_FAULT_STATUS st t.val))
  -- data of a fill that was discarded is dropped and counted
  ∧ (∀ (s : State) (t : LTile) (p : Nat × Nat × Nat × Nat) (r : List (Nat × Nat × Nat × Nat)), s.dev.released = true → ((s.tidied t).tileOf t.val).llReads = p :: r →
      (s.tidied t).llEntryAt t p.1 = none →
      Gives (.llFillData t) s
        ((((s.tidied t).setTile t.val { (s.tidied t).tileOf t.val with llReads := r }).inc LL_STALE 1 t.val).llTidy t.val))
  -- CAROUSEL_ROUND: the next round starts once its buffer is complete and the round before has issued its last row
  ∧ (∀ (s : State) (t : LTile) (l : LayerRun), s.dev.released = true → s.dev.tileMoves t.val = false → (s.dev.tileOf t.val).layer = some l → l.wmode = 1 → l.round + 1 < l.n →
      l.idx = (l.round + 1) * l.per → l.round + 1 < l.have_ →
      Gives (.carouselRound t) s ((s.fresh.setTile t.val { s.dev.tileOf t.val with layer := some { l with round := l.round + 1 } }).rotate l.engine l.seq))
  ∧ (∀ (s : State) (t : LTile) (l : LayerRun), Inv s → (s.dev.tileOf t.val).layer = some l → l.wmode ≠ 1 ∨ l.n ≤ l.round + 1 → Leaves (.carouselRound t) s s.fresh)
  -- EV_STEP: scatter (not in the first step), update, fan-out, send; the tile then waits at the barrier, or without one goes on
  ∧ (∀ (s : State) (t : LTile) (r : EvRun), s.dev.released = true → s.dev.tileMoves t.val = false → (s.dev.tileOf t.val).ev = some r → r.atBarrier = false →
      (s.evStaged t r).2.batchHeld (s.evStaged t r).1 = false →
      Gives (.evStep t) s
        (let b := (s.evStaged t r).1
         let d := b.foldl (fun (d : Dev) e => d.evSend t.val r (s.dev.evT t.val r) e) (s.evStaged t r).2
         let d := d.setTile t.val { d.tileOf t.val with ev := some { r with atBarrier := true, pend := b.countP fun e => decide (64 ≤ e.1) } }
         if bitAt r.flags 0 then d.evArrive r.engine r.seq else d.evNext t.val))
  -- at the barrier, under a handover, or with a batch for a tile that hands over, it waits
  ∧ (∀ (s : State) (t : LTile) (r : EvRun), Inv s → (s.dev.tileOf t.val).ev = some r → r.atBarrier = true ∨ s.dev.tileMoves t.val = true → Leaves (.evStep t) s s.fresh)
  -- EV_BARRIER_RELEASE: once every tile is there, all of them go on; a colony step barrier waits for its release, and a lost one ends the command
  ∧ (∀ (s : State) (e : Engine) (q : BitVec 24) (c : Cmd), s.dev.released = true → s.dev.cmdOf e.val q.toNat = some c → s.dev.evAllThere e.val q.toNat = true →
      ((c.on.any fun t => (s.dev.tileOf t).ev.any fun r => bitAt r.flags 1) = false ∨ c.colony = 2) →
      Gives (.evBarrierRelease e q) s
        (if c.status = 12 then c.on.foldl (fun (d : Dev) t => (d.setTile t { d.tileOf t with ev := none }).partDone e.val q.toNat t) s.fresh
         else c.on.foldl Dev.evNext (s.fresh.updCmd e.val q.toNat fun c => { c with colony := 0 })))
  ∧ (∀ (s : State) (e : Engine) (q : BitVec 24) (c : Cmd), Inv s → s.dev.cmdOf e.val q.toNat = some c → s.dev.evAllThere e.val q.toNat = false →
      Leaves (.evBarrierRelease e q) s s.fresh)
end

