-- ==== Sys2Proof/Laws/Tables.lean ====
section
/-! SUPPORT. Laws of the tables the state is made of: what a read finds after a write, and the canonical form that every write keeps. -/

namespace Sys2Proof.Machine

variable {α : Type} {dflt : α}

/-- A read skips what a filter drops for other keys. -/
theorem Sparse.get_filter_ne (m : List (Nat × α)) {k j : Nat} (h : j ≠ k) :
    Sparse.get dflt (m.filter fun e => e.1 != k) j = Sparse.get dflt m j := by
  induction m with
  | nil => rfl
  | cons e r ih =>
    obtain ⟨a, x⟩ := e
    by_cases hk : a = k
    · subst hk
      have hj : ¬ a = j := fun hc => h hc.symm
      simp [Sparse.get, ih, hj]
    · simp [hk, Sparse.get, ih]

/-- A dropped key reads as the default. -/
theorem Sparse.get_filter_self (m : List (Nat × α)) (k : Nat) : Sparse.get dflt (m.filter fun e => e.1 != k) k = dflt := by
  induction m with
  | nil => rfl
  | cons e r ih =>
    obtain ⟨a, x⟩ := e
    by_cases hk : a = k
    · simp [hk, ih]
    · simp [hk, Sparse.get, ih]

/-- A read of what a filter on the key keeps. -/
theorem Sparse.get_filter_key (q : Nat → Bool) (m : List (Nat × α)) (k : Nat) :
    Sparse.get dflt (m.filter fun e => q e.1) k = if q k then Sparse.get dflt m k else dflt := by
  induction m with
  | nil => simp [Sparse.get]
  | cons e r ih =>
    obtain ⟨a, x⟩ := e
    by_cases hk : a = k
    · subst hk
      by_cases hq : q a = true
      · simp [hq, Sparse.get]
      · have hq : q a = false := by simpa using hq
        simp [hq, ih]
    · by_cases hq : q a = true
      · simp [hq, Sparse.get, hk, ih]
      · have hq : q a = false := by simpa using hq
        simp [hq, Sparse.get, hk, ih]

/-- A read of an entry put in, where no other entry has its key. -/
theorem Sparse.get_ins_self (m : List (Nat × α)) (k : Nat) (v : α) (hm : ∀ e ∈ m, e.1 ≠ k) : Sparse.get dflt (Sparse.ins m k v) k = v := by
  induction m with
  | nil => simp [Sparse.ins, Sparse.get]
  | cons e r ih =>
    obtain ⟨a, x⟩ := e
    have ha : a ≠ k := hm (a, x) (by simp)
    have hr := ih fun e he => hm e (by simp [he])
    by_cases hk : k < a
    · simp [Sparse.ins, hk, Sparse.get]
    · simp [Sparse.ins, hk, Sparse.get, ha, hr]

/-- A read of any other key. -/
theorem Sparse.get_ins_ne (m : List (Nat × α)) {k j : Nat} (v : α) (h : j ≠ k) :
    Sparse.get dflt (Sparse.ins m k v) j = Sparse.get dflt m j := by
  have hk : ¬ k = j := fun hc => h hc.symm
  induction m with
  | nil => simp [Sparse.ins, Sparse.get, hk]
  | cons e r ih =>
    obtain ⟨a, x⟩ := e
    by_cases hl : k < a
    · simp [Sparse.ins, hl, Sparse.get, hk]
    · simp [Sparse.ins, hl, Sparse.get, ih]

variable [DecidableEq α]

/-- A read of the key just written. -/
@[simp] theorem Sparse.get_set_self (m : List (Nat × α)) (k : Nat) (v : α) : Sparse.get dflt (Sparse.set dflt m k v) k = v := by
  unfold Sparse.set
  split
  · next h => rw [Sparse.get_filter_self, h]
  · exact Sparse.get_ins_self _ _ _ (by simp)

/-- A read of any other key finds what stood there, whatever the two defaults. -/
theorem Sparse.get_set_ne {other : α} (m : List (Nat × α)) {k j : Nat} (v : α) (h : j ≠ k) :
    Sparse.get dflt (Sparse.set other m k v) j = Sparse.get dflt m j := by
  unfold Sparse.set
  split
  · exact Sparse.get_filter_ne m h
  · rw [Sparse.get_ins_ne _ _ h, Sparse.get_filter_ne _ h]

/-- Both cases at once. -/
theorem Sparse.get_set (m : List (Nat × α)) (k j : Nat) (v : α) :
    Sparse.get dflt (Sparse.set dflt m k v) j = if j = k then v else Sparse.get dflt m j := by
  by_cases h : j = k
  · subst h; simp
  · simp [h, Sparse.get_set_ne m v h]

/-- A form above a bound is one above any lower bound. -/
theorem Sparse.wfFrom_mono {lo hi : Nat} (m : List (Nat × α)) (h : lo ≤ hi) (w : Sparse.wfFrom dflt hi m = true) :
    Sparse.wfFrom dflt lo m = true := by
  cases m with
  | nil => rfl
  | cons e r =>
    obtain ⟨a, x⟩ := e
    simp only [Sparse.wfFrom, Bool.and_eq_true, decide_eq_true_eq] at w ⊢
    exact ⟨⟨by omega, w.1.2⟩, w.2⟩

/-- A filter keeps the form. -/
theorem Sparse.wfFrom_filter (p : Nat × α → Bool) (m : List (Nat × α)) (lo : Nat) (w : Sparse.wfFrom dflt lo m = true) :
    Sparse.wfFrom dflt lo (m.filter p) = true := by
  induction m generalizing lo with
  | nil => rfl
  | cons e r ih =>
    obtain ⟨a, x⟩ := e
    simp only [Sparse.wfFrom, Bool.and_eq_true, decide_eq_true_eq] at w
    by_cases hp : p (a, x) = true
    · simp only [List.filter_cons, hp, if_true, Sparse.wfFrom, Bool.and_eq_true, decide_eq_true_eq]
      exact ⟨w.1, ih _ w.2⟩
    · simp only [List.filter_cons, hp]
      exact Sparse.wfFrom_mono _ (by omega) (ih _ w.2)

/-- Putting in an entry whose key the table lacks keeps the form. -/
theorem Sparse.wfFrom_ins (m : List (Nat × α)) (lo k : Nat) (v : α) (hv : v ≠ dflt) (hk : lo ≤ k) (hm : ∀ e ∈ m, e.1 ≠ k)
    (w : Sparse.wfFrom dflt lo m = true) : Sparse.wfFrom dflt lo (Sparse.ins m k v) = true := by
  induction m generalizing lo with
  | nil => simp [Sparse.ins, Sparse.wfFrom, hv, hk]
  | cons e r ih =>
    obtain ⟨a, x⟩ := e
    have ha : a ≠ k := hm (a, x) (by simp)
    simp only [Sparse.wfFrom, Bool.and_eq_true, decide_eq_true_eq] at w
    by_cases hl : k < a
    · simp only [Sparse.ins, hl, if_true, Sparse.wfFrom, Bool.and_eq_true, decide_eq_true_eq]
      exact ⟨⟨hk, hv⟩, ⟨by omega, w.1.2⟩, w.2⟩
    · simp only [Sparse.ins, hl, if_false, Sparse.wfFrom, Bool.and_eq_true, decide_eq_true_eq]
      exact ⟨w.1, ih (a + 1) (by omega) (fun e he => hm e (by simp [he])) w.2⟩

/-- A write keeps the canonical form. -/
theorem Sparse.wf_set (m : List (Nat × α)) (k : Nat) (v : α) (w : Sparse.wf dflt m = true) : Sparse.wf dflt (Sparse.set dflt m k v) = true := by
  unfold Sparse.set
  split
  · exact Sparse.wfFrom_filter _ _ _ w
  · next h => exact Sparse.wfFrom_ins _ _ _ _ h (Nat.zero_le k) (by simp) (Sparse.wfFrom_filter _ _ _ w)

/-- A filter keeps the canonical form. -/
theorem Sparse.wf_filter (p : Nat × α → Bool) (m : List (Nat × α)) (w : Sparse.wf dflt m = true) : Sparse.wf dflt (m.filter p) = true :=
  Sparse.wfFrom_filter p m 0 w

/-- The canonical form of a table reads as the table. -/
theorem Sparse.get_norm (m : List (Nat × α)) (k : Nat) : Sparse.get dflt (Sparse.norm dflt m) k = Sparse.get dflt m k := by
  induction m with
  | nil => rfl
  | cons e r ih =>
    obtain ⟨a, x⟩ := e
    by_cases h : a = k
    · subst h; simp [Sparse.norm, Sparse.get]
    · have hk : ¬ k = a := fun hc => h hc.symm
      simp [Sparse.norm, Sparse.get, Sparse.get_set, h, hk, ih]

end Sys2Proof.Machine
end

