-- ==== Sys2Proof/Laws/State.lean ====
section
/-! SUPPORT. What the shared operations leave alone, field by field, so that no proof unfolds a record update. -/

namespace Sys2Proof.Machine

/-- A fold of operations that keep something keeps it. -/
theorem foldl_keeps {α β : Type} (p : Dev → β) {f : Dev → α → Dev} (h : ∀ d a, p (f d a) = p d) (l : List α) (d : Dev) :
    p (l.foldl f d) = p d := by
  induction l generalizing d with
  | nil => rfl
  | cons a r ih => exact (ih (f d a)).trans (h d a)

/-! `setF` changes csr. -/

@[simp] theorem Dev.setF_hwSet (d : Dev) (f : Fld) (v i j : Nat) : (d.setF f v i j).hwSet = d.hwSet := rfl
@[simp] theorem Dev.setF_mem (d : Dev) (f : Fld) (v i j : Nat) : (d.setF f v i j).mem = d.mem := rfl
@[simp] theorem Dev.setF_poison (d : Dev) (f : Fld) (v i j : Nat) : (d.setF f v i j).poison = d.poison := rfl
@[simp] theorem Dev.setF_soft (d : Dev) (f : Fld) (v i j : Nat) : (d.setF f v i j).soft = d.soft := rfl
@[simp] theorem Dev.setF_quiet (d : Dev) (f : Fld) (v i j : Nat) : (d.setF f v i j).quiet = d.quiet := rfl
@[simp] theorem Dev.setF_nanRep (d : Dev) (f : Fld) (v i j : Nat) : (d.setF f v i j).nanRep = d.nanRep := rfl
@[simp] theorem Dev.setF_out (d : Dev) (f : Fld) (v i j : Nat) : (d.setF f v i j).out = d.out := rfl
@[simp] theorem Dev.setF_freeCtr (d : Dev) (f : Fld) (v i j : Nat) : (d.setF f v i j).freeCtr = d.freeCtr := rfl
@[simp] theorem Dev.setF_clk (d : Dev) (f : Fld) (v i j : Nat) : (d.setF f v i j).clk = d.clk := rfl
@[simp] theorem Dev.setF_rst (d : Dev) (f : Fld) (v i j : Nat) : (d.setF f v i j).rst = d.rst := rfl
@[simp] theorem Dev.setF_load (d : Dev) (f : Fld) (v i j : Nat) : (d.setF f v i j).load = d.load := rfl
@[simp] theorem Dev.setF_keep (d : Dev) (f : Fld) (v i j : Nat) : (d.setF f v i j).keep = d.keep := rfl
@[simp] theorem Dev.setF_ember (d : Dev) (f : Fld) (v i j : Nat) : (d.setF f v i j).ember = d.ember := rfl
@[simp] theorem Dev.setF_safe (d : Dev) (f : Fld) (v i j : Nat) : (d.setF f v i j).safe = d.safe := rfl
@[simp] theorem Dev.setF_sgd (d : Dev) (f : Fld) (v i j : Nat) : (d.setF f v i j).sgd = d.sgd := rfl
@[simp] theorem Dev.setF_mgt (d : Dev) (f : Fld) (v i j : Nat) : (d.setF f v i j).mgt = d.mgt := rfl
@[simp] theorem Dev.setF_fab (d : Dev) (f : Fld) (v i j : Nat) : (d.setF f v i j).fab = d.fab := rfl
@[simp] theorem Dev.setF_ann (d : Dev) (f : Fld) (v i j : Nat) : (d.setF f v i j).ann = d.ann := rfl
@[simp] theorem Dev.setF_cel (d : Dev) (f : Fld) (v i j : Nat) : (d.setF f v i j).cel = d.cel := rfl
@[simp] theorem Dev.setF_hbm (d : Dev) (f : Fld) (v i j : Nat) : (d.setF f v i j).hbm = d.hbm := rfl
@[simp] theorem Dev.setF_tile (d : Dev) (f : Fld) (v i j : Nat) : (d.setF f v i j).tile = d.tile := rfl
@[simp] theorem Dev.setF_eng (d : Dev) (f : Fld) (v i j : Nat) : (d.setF f v i j).eng = d.eng := rfl
@[simp] theorem Dev.setF_prt (d : Dev) (f : Fld) (v i j : Nat) : (d.setF f v i j).prt = d.prt := rfl
@[simp] theorem Dev.setF_svc (d : Dev) (f : Fld) (v i j : Nat) : (d.setF f v i j).svc = d.svc := rfl
@[simp] theorem Dev.setF_cpl (d : Dev) (f : Fld) (v i j : Nat) : (d.setF f v i j).cpl = d.cpl := rfl
@[simp] theorem Dev.setF_rep (d : Dev) (f : Fld) (v i j : Nat) : (d.setF f v i j).rep = d.rep := rfl

/-! `setBit` changes csr. -/

@[simp] theorem Dev.setBit_hwSet (d : Dev) (f : Fld) (b : Nat) (on : Bool) (i j : Nat) : (d.setBit f b on i j).hwSet = d.hwSet := rfl
@[simp] theorem Dev.setBit_mem (d : Dev) (f : Fld) (b : Nat) (on : Bool) (i j : Nat) : (d.setBit f b on i j).mem = d.mem := rfl
@[simp] theorem Dev.setBit_poison (d : Dev) (f : Fld) (b : Nat) (on : Bool) (i j : Nat) : (d.setBit f b on i j).poison = d.poison := rfl
@[simp] theorem Dev.setBit_soft (d : Dev) (f : Fld) (b : Nat) (on : Bool) (i j : Nat) : (d.setBit f b on i j).soft = d.soft := rfl
@[simp] theorem Dev.setBit_quiet (d : Dev) (f : Fld) (b : Nat) (on : Bool) (i j : Nat) : (d.setBit f b on i j).quiet = d.quiet := rfl
@[simp] theorem Dev.setBit_nanRep (d : Dev) (f : Fld) (b : Nat) (on : Bool) (i j : Nat) : (d.setBit f b on i j).nanRep = d.nanRep := rfl
@[simp] theorem Dev.setBit_out (d : Dev) (f : Fld) (b : Nat) (on : Bool) (i j : Nat) : (d.setBit f b on i j).out = d.out := rfl
@[simp] theorem Dev.setBit_freeCtr (d : Dev) (f : Fld) (b : Nat) (on : Bool) (i j : Nat) : (d.setBit f b on i j).freeCtr = d.freeCtr := rfl
@[simp] theorem Dev.setBit_clk (d : Dev) (f : Fld) (b : Nat) (on : Bool) (i j : Nat) : (d.setBit f b on i j).clk = d.clk := rfl
@[simp] theorem Dev.setBit_rst (d : Dev) (f : Fld) (b : Nat) (on : Bool) (i j : Nat) : (d.setBit f b on i j).rst = d.rst := rfl
@[simp] theorem Dev.setBit_load (d : Dev) (f : Fld) (b : Nat) (on : Bool) (i j : Nat) : (d.setBit f b on i j).load = d.load := rfl
@[simp] theorem Dev.setBit_keep (d : Dev) (f : Fld) (b : Nat) (on : Bool) (i j : Nat) : (d.setBit f b on i j).keep = d.keep := rfl
@[simp] theorem Dev.setBit_ember (d : Dev) (f : Fld) (b : Nat) (on : Bool) (i j : Nat) : (d.setBit f b on i j).ember = d.ember := rfl
@[simp] theorem Dev.setBit_safe (d : Dev) (f : Fld) (b : Nat) (on : Bool) (i j : Nat) : (d.setBit f b on i j).safe = d.safe := rfl
@[simp] theorem Dev.setBit_sgd (d : Dev) (f : Fld) (b : Nat) (on : Bool) (i j : Nat) : (d.setBit f b on i j).sgd = d.sgd := rfl
@[simp] theorem Dev.setBit_mgt (d : Dev) (f : Fld) (b : Nat) (on : Bool) (i j : Nat) : (d.setBit f b on i j).mgt = d.mgt := rfl
@[simp] theorem Dev.setBit_fab (d : Dev) (f : Fld) (b : Nat) (on : Bool) (i j : Nat) : (d.setBit f b on i j).fab = d.fab := rfl
@[simp] theorem Dev.setBit_ann (d : Dev) (f : Fld) (b : Nat) (on : Bool) (i j : Nat) : (d.setBit f b on i j).ann = d.ann := rfl
@[simp] theorem Dev.setBit_cel (d : Dev) (f : Fld) (b : Nat) (on : Bool) (i j : Nat) : (d.setBit f b on i j).cel = d.cel := rfl
@[simp] theorem Dev.setBit_hbm (d : Dev) (f : Fld) (b : Nat) (on : Bool) (i j : Nat) : (d.setBit f b on i j).hbm = d.hbm := rfl
@[simp] theorem Dev.setBit_tile (d : Dev) (f : Fld) (b : Nat) (on : Bool) (i j : Nat) : (d.setBit f b on i j).tile = d.tile := rfl
@[simp] theorem Dev.setBit_eng (d : Dev) (f : Fld) (b : Nat) (on : Bool) (i j : Nat) : (d.setBit f b on i j).eng = d.eng := rfl
@[simp] theorem Dev.setBit_prt (d : Dev) (f : Fld) (b : Nat) (on : Bool) (i j : Nat) : (d.setBit f b on i j).prt = d.prt := rfl
@[simp] theorem Dev.setBit_svc (d : Dev) (f : Fld) (b : Nat) (on : Bool) (i j : Nat) : (d.setBit f b on i j).svc = d.svc := rfl
@[simp] theorem Dev.setBit_cpl (d : Dev) (f : Fld) (b : Nat) (on : Bool) (i j : Nat) : (d.setBit f b on i j).cpl = d.cpl := rfl
@[simp] theorem Dev.setBit_rep (d : Dev) (f : Fld) (b : Nat) (on : Bool) (i j : Nat) : (d.setBit f b on i j).rep = d.rep := rfl

/-! `inc` changes csr. -/

@[simp] theorem Dev.inc_hwSet (d : Dev) (f : Fld) (n i j : Nat) : (d.inc f n i j).hwSet = d.hwSet := rfl
@[simp] theorem Dev.inc_mem (d : Dev) (f : Fld) (n i j : Nat) : (d.inc f n i j).mem = d.mem := rfl
@[simp] theorem Dev.inc_poison (d : Dev) (f : Fld) (n i j : Nat) : (d.inc f n i j).poison = d.poison := rfl
@[simp] theorem Dev.inc_soft (d : Dev) (f : Fld) (n i j : Nat) : (d.inc f n i j).soft = d.soft := rfl
@[simp] theorem Dev.inc_quiet (d : Dev) (f : Fld) (n i j : Nat) : (d.inc f n i j).quiet = d.quiet := rfl
@[simp] theorem Dev.inc_nanRep (d : Dev) (f : Fld) (n i j : Nat) : (d.inc f n i j).nanRep = d.nanRep := rfl
@[simp] theorem Dev.inc_out (d : Dev) (f : Fld) (n i j : Nat) : (d.inc f n i j).out = d.out := rfl
@[simp] theorem Dev.inc_freeCtr (d : Dev) (f : Fld) (n i j : Nat) : (d.inc f n i j).freeCtr = d.freeCtr := rfl
@[simp] theorem Dev.inc_clk (d : Dev) (f : Fld) (n i j : Nat) : (d.inc f n i j).clk = d.clk := rfl
@[simp] theorem Dev.inc_rst (d : Dev) (f : Fld) (n i j : Nat) : (d.inc f n i j).rst = d.rst := rfl
@[simp] theorem Dev.inc_load (d : Dev) (f : Fld) (n i j : Nat) : (d.inc f n i j).load = d.load := rfl
@[simp] theorem Dev.inc_keep (d : Dev) (f : Fld) (n i j : Nat) : (d.inc f n i j).keep = d.keep := rfl
@[simp] theorem Dev.inc_ember (d : Dev) (f : Fld) (n i j : Nat) : (d.inc f n i j).ember = d.ember := rfl
@[simp] theorem Dev.inc_safe (d : Dev) (f : Fld) (n i j : Nat) : (d.inc f n i j).safe = d.safe := rfl
@[simp] theorem Dev.inc_sgd (d : Dev) (f : Fld) (n i j : Nat) : (d.inc f n i j).sgd = d.sgd := rfl
@[simp] theorem Dev.inc_mgt (d : Dev) (f : Fld) (n i j : Nat) : (d.inc f n i j).mgt = d.mgt := rfl
@[simp] theorem Dev.inc_fab (d : Dev) (f : Fld) (n i j : Nat) : (d.inc f n i j).fab = d.fab := rfl
@[simp] theorem Dev.inc_ann (d : Dev) (f : Fld) (n i j : Nat) : (d.inc f n i j).ann = d.ann := rfl
@[simp] theorem Dev.inc_cel (d : Dev) (f : Fld) (n i j : Nat) : (d.inc f n i j).cel = d.cel := rfl
@[simp] theorem Dev.inc_hbm (d : Dev) (f : Fld) (n i j : Nat) : (d.inc f n i j).hbm = d.hbm := rfl
@[simp] theorem Dev.inc_tile (d : Dev) (f : Fld) (n i j : Nat) : (d.inc f n i j).tile = d.tile := rfl
@[simp] theorem Dev.inc_eng (d : Dev) (f : Fld) (n i j : Nat) : (d.inc f n i j).eng = d.eng := rfl
@[simp] theorem Dev.inc_prt (d : Dev) (f : Fld) (n i j : Nat) : (d.inc f n i j).prt = d.prt := rfl
@[simp] theorem Dev.inc_svc (d : Dev) (f : Fld) (n i j : Nat) : (d.inc f n i j).svc = d.svc := rfl
@[simp] theorem Dev.inc_cpl (d : Dev) (f : Fld) (n i j : Nat) : (d.inc f n i j).cpl = d.cpl := rfl
@[simp] theorem Dev.inc_rep (d : Dev) (f : Fld) (n i j : Nat) : (d.inc f n i j).rep = d.rep := rfl

/-! `raise` changes csr, hwSet. -/

@[simp] theorem Dev.raise_mem (d : Dev) (f : Fld) (b i j : Nat) : (d.raise f b i j).mem = d.mem := rfl
@[simp] theorem Dev.raise_poison (d : Dev) (f : Fld) (b i j : Nat) : (d.raise f b i j).poison = d.poison := rfl
@[simp] theorem Dev.raise_soft (d : Dev) (f : Fld) (b i j : Nat) : (d.raise f b i j).soft = d.soft := rfl
@[simp] theorem Dev.raise_quiet (d : Dev) (f : Fld) (b i j : Nat) : (d.raise f b i j).quiet = d.quiet := rfl
@[simp] theorem Dev.raise_nanRep (d : Dev) (f : Fld) (b i j : Nat) : (d.raise f b i j).nanRep = d.nanRep := rfl
@[simp] theorem Dev.raise_out (d : Dev) (f : Fld) (b i j : Nat) : (d.raise f b i j).out = d.out := rfl
@[simp] theorem Dev.raise_freeCtr (d : Dev) (f : Fld) (b i j : Nat) : (d.raise f b i j).freeCtr = d.freeCtr := rfl
@[simp] theorem Dev.raise_clk (d : Dev) (f : Fld) (b i j : Nat) : (d.raise f b i j).clk = d.clk := rfl
@[simp] theorem Dev.raise_rst (d : Dev) (f : Fld) (b i j : Nat) : (d.raise f b i j).rst = d.rst := rfl
@[simp] theorem Dev.raise_load (d : Dev) (f : Fld) (b i j : Nat) : (d.raise f b i j).load = d.load := rfl
@[simp] theorem Dev.raise_keep (d : Dev) (f : Fld) (b i j : Nat) : (d.raise f b i j).keep = d.keep := rfl
@[simp] theorem Dev.raise_ember (d : Dev) (f : Fld) (b i j : Nat) : (d.raise f b i j).ember = d.ember := rfl
@[simp] theorem Dev.raise_safe (d : Dev) (f : Fld) (b i j : Nat) : (d.raise f b i j).safe = d.safe := rfl
@[simp] theorem Dev.raise_sgd (d : Dev) (f : Fld) (b i j : Nat) : (d.raise f b i j).sgd = d.sgd := rfl
@[simp] theorem Dev.raise_mgt (d : Dev) (f : Fld) (b i j : Nat) : (d.raise f b i j).mgt = d.mgt := rfl
@[simp] theorem Dev.raise_fab (d : Dev) (f : Fld) (b i j : Nat) : (d.raise f b i j).fab = d.fab := rfl
@[simp] theorem Dev.raise_ann (d : Dev) (f : Fld) (b i j : Nat) : (d.raise f b i j).ann = d.ann := rfl
@[simp] theorem Dev.raise_cel (d : Dev) (f : Fld) (b i j : Nat) : (d.raise f b i j).cel = d.cel := rfl
@[simp] theorem Dev.raise_hbm (d : Dev) (f : Fld) (b i j : Nat) : (d.raise f b i j).hbm = d.hbm := rfl
@[simp] theorem Dev.raise_tile (d : Dev) (f : Fld) (b i j : Nat) : (d.raise f b i j).tile = d.tile := rfl
@[simp] theorem Dev.raise_eng (d : Dev) (f : Fld) (b i j : Nat) : (d.raise f b i j).eng = d.eng := rfl
@[simp] theorem Dev.raise_prt (d : Dev) (f : Fld) (b i j : Nat) : (d.raise f b i j).prt = d.prt := rfl
@[simp] theorem Dev.raise_svc (d : Dev) (f : Fld) (b i j : Nat) : (d.raise f b i j).svc = d.svc := rfl
@[simp] theorem Dev.raise_cpl (d : Dev) (f : Fld) (b i j : Nat) : (d.raise f b i j).cpl = d.cpl := rfl
@[simp] theorem Dev.raise_rep (d : Dev) (f : Fld) (b i j : Nat) : (d.raise f b i j).rep = d.rep := rfl

/-! `emit` changes out. -/

@[simp] theorem Dev.emit_csr (d : Dev) (o : Out) : (d.emit o).csr = d.csr := rfl
@[simp] theorem Dev.emit_hwSet (d : Dev) (o : Out) : (d.emit o).hwSet = d.hwSet := rfl
@[simp] theorem Dev.emit_mem (d : Dev) (o : Out) : (d.emit o).mem = d.mem := rfl
@[simp] theorem Dev.emit_poison (d : Dev) (o : Out) : (d.emit o).poison = d.poison := rfl
@[simp] theorem Dev.emit_soft (d : Dev) (o : Out) : (d.emit o).soft = d.soft := rfl
@[simp] theorem Dev.emit_quiet (d : Dev) (o : Out) : (d.emit o).quiet = d.quiet := rfl
@[simp] theorem Dev.emit_nanRep (d : Dev) (o : Out) : (d.emit o).nanRep = d.nanRep := rfl
@[simp] theorem Dev.emit_freeCtr (d : Dev) (o : Out) : (d.emit o).freeCtr = d.freeCtr := rfl
@[simp] theorem Dev.emit_clk (d : Dev) (o : Out) : (d.emit o).clk = d.clk := rfl
@[simp] theorem Dev.emit_rst (d : Dev) (o : Out) : (d.emit o).rst = d.rst := rfl
@[simp] theorem Dev.emit_load (d : Dev) (o : Out) : (d.emit o).load = d.load := rfl
@[simp] theorem Dev.emit_keep (d : Dev) (o : Out) : (d.emit o).keep = d.keep := rfl
@[simp] theorem Dev.emit_ember (d : Dev) (o : Out) : (d.emit o).ember = d.ember := rfl
@[simp] theorem Dev.emit_safe (d : Dev) (o : Out) : (d.emit o).safe = d.safe := rfl
@[simp] theorem Dev.emit_sgd (d : Dev) (o : Out) : (d.emit o).sgd = d.sgd := rfl
@[simp] theorem Dev.emit_mgt (d : Dev) (o : Out) : (d.emit o).mgt = d.mgt := rfl
@[simp] theorem Dev.emit_fab (d : Dev) (o : Out) : (d.emit o).fab = d.fab := rfl
@[simp] theorem Dev.emit_ann (d : Dev) (o : Out) : (d.emit o).ann = d.ann := rfl
@[simp] theorem Dev.emit_cel (d : Dev) (o : Out) : (d.emit o).cel = d.cel := rfl
@[simp] theorem Dev.emit_hbm (d : Dev) (o : Out) : (d.emit o).hbm = d.hbm := rfl
@[simp] theorem Dev.emit_tile (d : Dev) (o : Out) : (d.emit o).tile = d.tile := rfl
@[simp] theorem Dev.emit_eng (d : Dev) (o : Out) : (d.emit o).eng = d.eng := rfl
@[simp] theorem Dev.emit_prt (d : Dev) (o : Out) : (d.emit o).prt = d.prt := rfl
@[simp] theorem Dev.emit_svc (d : Dev) (o : Out) : (d.emit o).svc = d.svc := rfl
@[simp] theorem Dev.emit_cpl (d : Dev) (o : Out) : (d.emit o).cpl = d.cpl := rfl
@[simp] theorem Dev.emit_rep (d : Dev) (o : Out) : (d.emit o).rep = d.rep := rfl

/-! `setPrt` changes prt. -/

@[simp] theorem Dev.setPrt_csr (d : Dev) (n : Nat) (x : Prt) : (d.setPrt n x).csr = d.csr := rfl
@[simp] theorem Dev.setPrt_hwSet (d : Dev) (n : Nat) (x : Prt) : (d.setPrt n x).hwSet = d.hwSet := rfl
@[simp] theorem Dev.setPrt_mem (d : Dev) (n : Nat) (x : Prt) : (d.setPrt n x).mem = d.mem := rfl
@[simp] theorem Dev.setPrt_poison (d : Dev) (n : Nat) (x : Prt) : (d.setPrt n x).poison = d.poison := rfl
@[simp] theorem Dev.setPrt_soft (d : Dev) (n : Nat) (x : Prt) : (d.setPrt n x).soft = d.soft := rfl
@[simp] theorem Dev.setPrt_quiet (d : Dev) (n : Nat) (x : Prt) : (d.setPrt n x).quiet = d.quiet := rfl
@[simp] theorem Dev.setPrt_nanRep (d : Dev) (n : Nat) (x : Prt) : (d.setPrt n x).nanRep = d.nanRep := rfl
@[simp] theorem Dev.setPrt_out (d : Dev) (n : Nat) (x : Prt) : (d.setPrt n x).out = d.out := rfl
@[simp] theorem Dev.setPrt_freeCtr (d : Dev) (n : Nat) (x : Prt) : (d.setPrt n x).freeCtr = d.freeCtr := rfl
@[simp] theorem Dev.setPrt_clk (d : Dev) (n : Nat) (x : Prt) : (d.setPrt n x).clk = d.clk := rfl
@[simp] theorem Dev.setPrt_rst (d : Dev) (n : Nat) (x : Prt) : (d.setPrt n x).rst = d.rst := rfl
@[simp] theorem Dev.setPrt_load (d : Dev) (n : Nat) (x : Prt) : (d.setPrt n x).load = d.load := rfl
@[simp] theorem Dev.setPrt_keep (d : Dev) (n : Nat) (x : Prt) : (d.setPrt n x).keep = d.keep := rfl
@[simp] theorem Dev.setPrt_ember (d : Dev) (n : Nat) (x : Prt) : (d.setPrt n x).ember = d.ember := rfl
@[simp] theorem Dev.setPrt_safe (d : Dev) (n : Nat) (x : Prt) : (d.setPrt n x).safe = d.safe := rfl
@[simp] theorem Dev.setPrt_sgd (d : Dev) (n : Nat) (x : Prt) : (d.setPrt n x).sgd = d.sgd := rfl
@[simp] theorem Dev.setPrt_mgt (d : Dev) (n : Nat) (x : Prt) : (d.setPrt n x).mgt = d.mgt := rfl
@[simp] theorem Dev.setPrt_fab (d : Dev) (n : Nat) (x : Prt) : (d.setPrt n x).fab = d.fab := rfl
@[simp] theorem Dev.setPrt_ann (d : Dev) (n : Nat) (x : Prt) : (d.setPrt n x).ann = d.ann := rfl
@[simp] theorem Dev.setPrt_cel (d : Dev) (n : Nat) (x : Prt) : (d.setPrt n x).cel = d.cel := rfl
@[simp] theorem Dev.setPrt_hbm (d : Dev) (n : Nat) (x : Prt) : (d.setPrt n x).hbm = d.hbm := rfl
@[simp] theorem Dev.setPrt_tile (d : Dev) (n : Nat) (x : Prt) : (d.setPrt n x).tile = d.tile := rfl
@[simp] theorem Dev.setPrt_eng (d : Dev) (n : Nat) (x : Prt) : (d.setPrt n x).eng = d.eng := rfl
@[simp] theorem Dev.setPrt_svc (d : Dev) (n : Nat) (x : Prt) : (d.setPrt n x).svc = d.svc := rfl
@[simp] theorem Dev.setPrt_cpl (d : Dev) (n : Nat) (x : Prt) : (d.setPrt n x).cpl = d.cpl := rfl
@[simp] theorem Dev.setPrt_rep (d : Dev) (n : Nat) (x : Prt) : (d.setPrt n x).rep = d.rep := rfl

/-! `setTile` changes tile. -/

@[simp] theorem Dev.setTile_csr (d : Dev) (n : Nat) (x : Tile) : (d.setTile n x).csr = d.csr := rfl
@[simp] theorem Dev.setTile_hwSet (d : Dev) (n : Nat) (x : Tile) : (d.setTile n x).hwSet = d.hwSet := rfl
@[simp] theorem Dev.setTile_mem (d : Dev) (n : Nat) (x : Tile) : (d.setTile n x).mem = d.mem := rfl
@[simp] theorem Dev.setTile_poison (d : Dev) (n : Nat) (x : Tile) : (d.setTile n x).poison = d.poison := rfl
@[simp] theorem Dev.setTile_soft (d : Dev) (n : Nat) (x : Tile) : (d.setTile n x).soft = d.soft := rfl
@[simp] theorem Dev.setTile_quiet (d : Dev) (n : Nat) (x : Tile) : (d.setTile n x).quiet = d.quiet := rfl
@[simp] theorem Dev.setTile_nanRep (d : Dev) (n : Nat) (x : Tile) : (d.setTile n x).nanRep = d.nanRep := rfl
@[simp] theorem Dev.setTile_out (d : Dev) (n : Nat) (x : Tile) : (d.setTile n x).out = d.out := rfl
@[simp] theorem Dev.setTile_freeCtr (d : Dev) (n : Nat) (x : Tile) : (d.setTile n x).freeCtr = d.freeCtr := rfl
@[simp] theorem Dev.setTile_clk (d : Dev) (n : Nat) (x : Tile) : (d.setTile n x).clk = d.clk := rfl
@[simp] theorem Dev.setTile_rst (d : Dev) (n : Nat) (x : Tile) : (d.setTile n x).rst = d.rst := rfl
@[simp] theorem Dev.setTile_load (d : Dev) (n : Nat) (x : Tile) : (d.setTile n x).load = d.load := rfl
@[simp] theorem Dev.setTile_keep (d : Dev) (n : Nat) (x : Tile) : (d.setTile n x).keep = d.keep := rfl
@[simp] theorem Dev.setTile_ember (d : Dev) (n : Nat) (x : Tile) : (d.setTile n x).ember = d.ember := rfl
@[simp] theorem Dev.setTile_safe (d : Dev) (n : Nat) (x : Tile) : (d.setTile n x).safe = d.safe := rfl
@[simp] theorem Dev.setTile_sgd (d : Dev) (n : Nat) (x : Tile) : (d.setTile n x).sgd = d.sgd := rfl
@[simp] theorem Dev.setTile_mgt (d : Dev) (n : Nat) (x : Tile) : (d.setTile n x).mgt = d.mgt := rfl
@[simp] theorem Dev.setTile_fab (d : Dev) (n : Nat) (x : Tile) : (d.setTile n x).fab = d.fab := rfl
@[simp] theorem Dev.setTile_ann (d : Dev) (n : Nat) (x : Tile) : (d.setTile n x).ann = d.ann := rfl
@[simp] theorem Dev.setTile_cel (d : Dev) (n : Nat) (x : Tile) : (d.setTile n x).cel = d.cel := rfl
@[simp] theorem Dev.setTile_hbm (d : Dev) (n : Nat) (x : Tile) : (d.setTile n x).hbm = d.hbm := rfl
@[simp] theorem Dev.setTile_eng (d : Dev) (n : Nat) (x : Tile) : (d.setTile n x).eng = d.eng := rfl
@[simp] theorem Dev.setTile_prt (d : Dev) (n : Nat) (x : Tile) : (d.setTile n x).prt = d.prt := rfl
@[simp] theorem Dev.setTile_svc (d : Dev) (n : Nat) (x : Tile) : (d.setTile n x).svc = d.svc := rfl
@[simp] theorem Dev.setTile_cpl (d : Dev) (n : Nat) (x : Tile) : (d.setTile n x).cpl = d.cpl := rfl
@[simp] theorem Dev.setTile_rep (d : Dev) (n : Nat) (x : Tile) : (d.setTile n x).rep = d.rep := rfl

/-! `setEng` changes eng. -/

@[simp] theorem Dev.setEng_csr (d : Dev) (n : Nat) (x : Eng) : (d.setEng n x).csr = d.csr := rfl
@[simp] theorem Dev.setEng_hwSet (d : Dev) (n : Nat) (x : Eng) : (d.setEng n x).hwSet = d.hwSet := rfl
@[simp] theorem Dev.setEng_mem (d : Dev) (n : Nat) (x : Eng) : (d.setEng n x).mem = d.mem := rfl
@[simp] theorem Dev.setEng_poison (d : Dev) (n : Nat) (x : Eng) : (d.setEng n x).poison = d.poison := rfl
@[simp] theorem Dev.setEng_soft (d : Dev) (n : Nat) (x : Eng) : (d.setEng n x).soft = d.soft := rfl
@[simp] theorem Dev.setEng_quiet (d : Dev) (n : Nat) (x : Eng) : (d.setEng n x).quiet = d.quiet := rfl
@[simp] theorem Dev.setEng_nanRep (d : Dev) (n : Nat) (x : Eng) : (d.setEng n x).nanRep = d.nanRep := rfl
@[simp] theorem Dev.setEng_out (d : Dev) (n : Nat) (x : Eng) : (d.setEng n x).out = d.out := rfl
@[simp] theorem Dev.setEng_freeCtr (d : Dev) (n : Nat) (x : Eng) : (d.setEng n x).freeCtr = d.freeCtr := rfl
@[simp] theorem Dev.setEng_clk (d : Dev) (n : Nat) (x : Eng) : (d.setEng n x).clk = d.clk := rfl
@[simp] theorem Dev.setEng_rst (d : Dev) (n : Nat) (x : Eng) : (d.setEng n x).rst = d.rst := rfl
@[simp] theorem Dev.setEng_load (d : Dev) (n : Nat) (x : Eng) : (d.setEng n x).load = d.load := rfl
@[simp] theorem Dev.setEng_keep (d : Dev) (n : Nat) (x : Eng) : (d.setEng n x).keep = d.keep := rfl
@[simp] theorem Dev.setEng_ember (d : Dev) (n : Nat) (x : Eng) : (d.setEng n x).ember = d.ember := rfl
@[simp] theorem Dev.setEng_safe (d : Dev) (n : Nat) (x : Eng) : (d.setEng n x).safe = d.safe := rfl
@[simp] theorem Dev.setEng_sgd (d : Dev) (n : Nat) (x : Eng) : (d.setEng n x).sgd = d.sgd := rfl
@[simp] theorem Dev.setEng_mgt (d : Dev) (n : Nat) (x : Eng) : (d.setEng n x).mgt = d.mgt := rfl
@[simp] theorem Dev.setEng_fab (d : Dev) (n : Nat) (x : Eng) : (d.setEng n x).fab = d.fab := rfl
@[simp] theorem Dev.setEng_ann (d : Dev) (n : Nat) (x : Eng) : (d.setEng n x).ann = d.ann := rfl
@[simp] theorem Dev.setEng_cel (d : Dev) (n : Nat) (x : Eng) : (d.setEng n x).cel = d.cel := rfl
@[simp] theorem Dev.setEng_hbm (d : Dev) (n : Nat) (x : Eng) : (d.setEng n x).hbm = d.hbm := rfl
@[simp] theorem Dev.setEng_tile (d : Dev) (n : Nat) (x : Eng) : (d.setEng n x).tile = d.tile := rfl
@[simp] theorem Dev.setEng_prt (d : Dev) (n : Nat) (x : Eng) : (d.setEng n x).prt = d.prt := rfl
@[simp] theorem Dev.setEng_svc (d : Dev) (n : Nat) (x : Eng) : (d.setEng n x).svc = d.svc := rfl
@[simp] theorem Dev.setEng_cpl (d : Dev) (n : Nat) (x : Eng) : (d.setEng n x).cpl = d.cpl := rfl
@[simp] theorem Dev.setEng_rep (d : Dev) (n : Nat) (x : Eng) : (d.setEng n x).rep = d.rep := rfl

/-! `setHbm` changes hbm. -/

@[simp] theorem Dev.setHbm_csr (d : Dev) (n : Nat) (x : Hbm) : (d.setHbm n x).csr = d.csr := rfl
@[simp] theorem Dev.setHbm_hwSet (d : Dev) (n : Nat) (x : Hbm) : (d.setHbm n x).hwSet = d.hwSet := rfl
@[simp] theorem Dev.setHbm_mem (d : Dev) (n : Nat) (x : Hbm) : (d.setHbm n x).mem = d.mem := rfl
@[simp] theorem Dev.setHbm_poison (d : Dev) (n : Nat) (x : Hbm) : (d.setHbm n x).poison = d.poison := rfl
@[simp] theorem Dev.setHbm_soft (d : Dev) (n : Nat) (x : Hbm) : (d.setHbm n x).soft = d.soft := rfl
@[simp] theorem Dev.setHbm_quiet (d : Dev) (n : Nat) (x : Hbm) : (d.setHbm n x).quiet = d.quiet := rfl
@[simp] theorem Dev.setHbm_nanRep (d : Dev) (n : Nat) (x : Hbm) : (d.setHbm n x).nanRep = d.nanRep := rfl
@[simp] theorem Dev.setHbm_out (d : Dev) (n : Nat) (x : Hbm) : (d.setHbm n x).out = d.out := rfl
@[simp] theorem Dev.setHbm_freeCtr (d : Dev) (n : Nat) (x : Hbm) : (d.setHbm n x).freeCtr = d.freeCtr := rfl
@[simp] theorem Dev.setHbm_clk (d : Dev) (n : Nat) (x : Hbm) : (d.setHbm n x).clk = d.clk := rfl
@[simp] theorem Dev.setHbm_rst (d : Dev) (n : Nat) (x : Hbm) : (d.setHbm n x).rst = d.rst := rfl
@[simp] theorem Dev.setHbm_load (d : Dev) (n : Nat) (x : Hbm) : (d.setHbm n x).load = d.load := rfl
@[simp] theorem Dev.setHbm_keep (d : Dev) (n : Nat) (x : Hbm) : (d.setHbm n x).keep = d.keep := rfl
@[simp] theorem Dev.setHbm_ember (d : Dev) (n : Nat) (x : Hbm) : (d.setHbm n x).ember = d.ember := rfl
@[simp] theorem Dev.setHbm_safe (d : Dev) (n : Nat) (x : Hbm) : (d.setHbm n x).safe = d.safe := rfl
@[simp] theorem Dev.setHbm_sgd (d : Dev) (n : Nat) (x : Hbm) : (d.setHbm n x).sgd = d.sgd := rfl
@[simp] theorem Dev.setHbm_mgt (d : Dev) (n : Nat) (x : Hbm) : (d.setHbm n x).mgt = d.mgt := rfl
@[simp] theorem Dev.setHbm_fab (d : Dev) (n : Nat) (x : Hbm) : (d.setHbm n x).fab = d.fab := rfl
@[simp] theorem Dev.setHbm_ann (d : Dev) (n : Nat) (x : Hbm) : (d.setHbm n x).ann = d.ann := rfl
@[simp] theorem Dev.setHbm_cel (d : Dev) (n : Nat) (x : Hbm) : (d.setHbm n x).cel = d.cel := rfl
@[simp] theorem Dev.setHbm_tile (d : Dev) (n : Nat) (x : Hbm) : (d.setHbm n x).tile = d.tile := rfl
@[simp] theorem Dev.setHbm_eng (d : Dev) (n : Nat) (x : Hbm) : (d.setHbm n x).eng = d.eng := rfl
@[simp] theorem Dev.setHbm_prt (d : Dev) (n : Nat) (x : Hbm) : (d.setHbm n x).prt = d.prt := rfl
@[simp] theorem Dev.setHbm_svc (d : Dev) (n : Nat) (x : Hbm) : (d.setHbm n x).svc = d.svc := rfl
@[simp] theorem Dev.setHbm_cpl (d : Dev) (n : Nat) (x : Hbm) : (d.setHbm n x).cpl = d.cpl := rfl
@[simp] theorem Dev.setHbm_rep (d : Dev) (n : Nat) (x : Hbm) : (d.setHbm n x).rep = d.rep := rfl

/-! `setLink` changes cpl. -/

@[simp] theorem Dev.setLink_csr (d : Dev) (n : Nat) (x : CLink) : (d.setLink n x).csr = d.csr := rfl
@[simp] theorem Dev.setLink_hwSet (d : Dev) (n : Nat) (x : CLink) : (d.setLink n x).hwSet = d.hwSet := rfl
@[simp] theorem Dev.setLink_mem (d : Dev) (n : Nat) (x : CLink) : (d.setLink n x).mem = d.mem := rfl
@[simp] theorem Dev.setLink_poison (d : Dev) (n : Nat) (x : CLink) : (d.setLink n x).poison = d.poison := rfl
@[simp] theorem Dev.setLink_soft (d : Dev) (n : Nat) (x : CLink) : (d.setLink n x).soft = d.soft := rfl
@[simp] theorem Dev.setLink_quiet (d : Dev) (n : Nat) (x : CLink) : (d.setLink n x).quiet = d.quiet := rfl
@[simp] theorem Dev.setLink_nanRep (d : Dev) (n : Nat) (x : CLink) : (d.setLink n x).nanRep = d.nanRep := rfl
@[simp] theorem Dev.setLink_out (d : Dev) (n : Nat) (x : CLink) : (d.setLink n x).out = d.out := rfl
@[simp] theorem Dev.setLink_freeCtr (d : Dev) (n : Nat) (x : CLink) : (d.setLink n x).freeCtr = d.freeCtr := rfl
@[simp] theorem Dev.setLink_clk (d : Dev) (n : Nat) (x : CLink) : (d.setLink n x).clk = d.clk := rfl
@[simp] theorem Dev.setLink_rst (d : Dev) (n : Nat) (x : CLink) : (d.setLink n x).rst = d.rst := rfl
@[simp] theorem Dev.setLink_load (d : Dev) (n : Nat) (x : CLink) : (d.setLink n x).load = d.load := rfl
@[simp] theorem Dev.setLink_keep (d : Dev) (n : Nat) (x : CLink) : (d.setLink n x).keep = d.keep := rfl
@[simp] theorem Dev.setLink_ember (d : Dev) (n : Nat) (x : CLink) : (d.setLink n x).ember = d.ember := rfl
@[simp] theorem Dev.setLink_safe (d : Dev) (n : Nat) (x : CLink) : (d.setLink n x).safe = d.safe := rfl
@[simp] theorem Dev.setLink_sgd (d : Dev) (n : Nat) (x : CLink) : (d.setLink n x).sgd = d.sgd := rfl
@[simp] theorem Dev.setLink_mgt (d : Dev) (n : Nat) (x : CLink) : (d.setLink n x).mgt = d.mgt := rfl
@[simp] theorem Dev.setLink_fab (d : Dev) (n : Nat) (x : CLink) : (d.setLink n x).fab = d.fab := rfl
@[simp] theorem Dev.setLink_ann (d : Dev) (n : Nat) (x : CLink) : (d.setLink n x).ann = d.ann := rfl
@[simp] theorem Dev.setLink_cel (d : Dev) (n : Nat) (x : CLink) : (d.setLink n x).cel = d.cel := rfl
@[simp] theorem Dev.setLink_hbm (d : Dev) (n : Nat) (x : CLink) : (d.setLink n x).hbm = d.hbm := rfl
@[simp] theorem Dev.setLink_tile (d : Dev) (n : Nat) (x : CLink) : (d.setLink n x).tile = d.tile := rfl
@[simp] theorem Dev.setLink_eng (d : Dev) (n : Nat) (x : CLink) : (d.setLink n x).eng = d.eng := rfl
@[simp] theorem Dev.setLink_prt (d : Dev) (n : Nat) (x : CLink) : (d.setLink n x).prt = d.prt := rfl
@[simp] theorem Dev.setLink_svc (d : Dev) (n : Nat) (x : CLink) : (d.setLink n x).svc = d.svc := rfl
@[simp] theorem Dev.setLink_rep (d : Dev) (n : Nat) (x : CLink) : (d.setLink n x).rep = d.rep := rfl

/-! `setQc` changes fab. -/

@[simp] theorem Dev.setQc_csr (d : Dev) (n : Nat) (x : Qc) : (d.setQc n x).csr = d.csr := rfl
@[simp] theorem Dev.setQc_hwSet (d : Dev) (n : Nat) (x : Qc) : (d.setQc n x).hwSet = d.hwSet := rfl
@[simp] theorem Dev.setQc_mem (d : Dev) (n : Nat) (x : Qc) : (d.setQc n x).mem = d.mem := rfl
@[simp] theorem Dev.setQc_poison (d : Dev) (n : Nat) (x : Qc) : (d.setQc n x).poison = d.poison := rfl
@[simp] theorem Dev.setQc_soft (d : Dev) (n : Nat) (x : Qc) : (d.setQc n x).soft = d.soft := rfl
@[simp] theorem Dev.setQc_quiet (d : Dev) (n : Nat) (x : Qc) : (d.setQc n x).quiet = d.quiet := rfl
@[simp] theorem Dev.setQc_nanRep (d : Dev) (n : Nat) (x : Qc) : (d.setQc n x).nanRep = d.nanRep := rfl
@[simp] theorem Dev.setQc_out (d : Dev) (n : Nat) (x : Qc) : (d.setQc n x).out = d.out := rfl
@[simp] theorem Dev.setQc_freeCtr (d : Dev) (n : Nat) (x : Qc) : (d.setQc n x).freeCtr = d.freeCtr := rfl
@[simp] theorem Dev.setQc_clk (d : Dev) (n : Nat) (x : Qc) : (d.setQc n x).clk = d.clk := rfl
@[simp] theorem Dev.setQc_rst (d : Dev) (n : Nat) (x : Qc) : (d.setQc n x).rst = d.rst := rfl
@[simp] theorem Dev.setQc_load (d : Dev) (n : Nat) (x : Qc) : (d.setQc n x).load = d.load := rfl
@[simp] theorem Dev.setQc_keep (d : Dev) (n : Nat) (x : Qc) : (d.setQc n x).keep = d.keep := rfl
@[simp] theorem Dev.setQc_ember (d : Dev) (n : Nat) (x : Qc) : (d.setQc n x).ember = d.ember := rfl
@[simp] theorem Dev.setQc_safe (d : Dev) (n : Nat) (x : Qc) : (d.setQc n x).safe = d.safe := rfl
@[simp] theorem Dev.setQc_sgd (d : Dev) (n : Nat) (x : Qc) : (d.setQc n x).sgd = d.sgd := rfl
@[simp] theorem Dev.setQc_mgt (d : Dev) (n : Nat) (x : Qc) : (d.setQc n x).mgt = d.mgt := rfl
@[simp] theorem Dev.setQc_ann (d : Dev) (n : Nat) (x : Qc) : (d.setQc n x).ann = d.ann := rfl
@[simp] theorem Dev.setQc_cel (d : Dev) (n : Nat) (x : Qc) : (d.setQc n x).cel = d.cel := rfl
@[simp] theorem Dev.setQc_hbm (d : Dev) (n : Nat) (x : Qc) : (d.setQc n x).hbm = d.hbm := rfl
@[simp] theorem Dev.setQc_tile (d : Dev) (n : Nat) (x : Qc) : (d.setQc n x).tile = d.tile := rfl
@[simp] theorem Dev.setQc_eng (d : Dev) (n : Nat) (x : Qc) : (d.setQc n x).eng = d.eng := rfl
@[simp] theorem Dev.setQc_prt (d : Dev) (n : Nat) (x : Qc) : (d.setQc n x).prt = d.prt := rfl
@[simp] theorem Dev.setQc_svc (d : Dev) (n : Nat) (x : Qc) : (d.setQc n x).svc = d.svc := rfl
@[simp] theorem Dev.setQc_cpl (d : Dev) (n : Nat) (x : Qc) : (d.setQc n x).cpl = d.cpl := rfl
@[simp] theorem Dev.setQc_rep (d : Dev) (n : Nat) (x : Qc) : (d.setQc n x).rep = d.rep := rfl

/-! `setGate` changes fab. -/

@[simp] theorem Dev.setGate_csr (d : Dev) (n : Nat) (x : Gate) : (d.setGate n x).csr = d.csr := rfl
@[simp] theorem Dev.setGate_hwSet (d : Dev) (n : Nat) (x : Gate) : (d.setGate n x).hwSet = d.hwSet := rfl
@[simp] theorem Dev.setGate_mem (d : Dev) (n : Nat) (x : Gate) : (d.setGate n x).mem = d.mem := rfl
@[simp] theorem Dev.setGate_poison (d : Dev) (n : Nat) (x : Gate) : (d.setGate n x).poison = d.poison := rfl
@[simp] theorem Dev.setGate_soft (d : Dev) (n : Nat) (x : Gate) : (d.setGate n x).soft = d.soft := rfl
@[simp] theorem Dev.setGate_quiet (d : Dev) (n : Nat) (x : Gate) : (d.setGate n x).quiet = d.quiet := rfl
@[simp] theorem Dev.setGate_nanRep (d : Dev) (n : Nat) (x : Gate) : (d.setGate n x).nanRep = d.nanRep := rfl
@[simp] theorem Dev.setGate_out (d : Dev) (n : Nat) (x : Gate) : (d.setGate n x).out = d.out := rfl
@[simp] theorem Dev.setGate_freeCtr (d : Dev) (n : Nat) (x : Gate) : (d.setGate n x).freeCtr = d.freeCtr := rfl
@[simp] theorem Dev.setGate_clk (d : Dev) (n : Nat) (x : Gate) : (d.setGate n x).clk = d.clk := rfl
@[simp] theorem Dev.setGate_rst (d : Dev) (n : Nat) (x : Gate) : (d.setGate n x).rst = d.rst := rfl
@[simp] theorem Dev.setGate_load (d : Dev) (n : Nat) (x : Gate) : (d.setGate n x).load = d.load := rfl
@[simp] theorem Dev.setGate_keep (d : Dev) (n : Nat) (x : Gate) : (d.setGate n x).keep = d.keep := rfl
@[simp] theorem Dev.setGate_ember (d : Dev) (n : Nat) (x : Gate) : (d.setGate n x).ember = d.ember := rfl
@[simp] theorem Dev.setGate_safe (d : Dev) (n : Nat) (x : Gate) : (d.setGate n x).safe = d.safe := rfl
@[simp] theorem Dev.setGate_sgd (d : Dev) (n : Nat) (x : Gate) : (d.setGate n x).sgd = d.sgd := rfl
@[simp] theorem Dev.setGate_mgt (d : Dev) (n : Nat) (x : Gate) : (d.setGate n x).mgt = d.mgt := rfl
@[simp] theorem Dev.setGate_ann (d : Dev) (n : Nat) (x : Gate) : (d.setGate n x).ann = d.ann := rfl
@[simp] theorem Dev.setGate_cel (d : Dev) (n : Nat) (x : Gate) : (d.setGate n x).cel = d.cel := rfl
@[simp] theorem Dev.setGate_hbm (d : Dev) (n : Nat) (x : Gate) : (d.setGate n x).hbm = d.hbm := rfl
@[simp] theorem Dev.setGate_tile (d : Dev) (n : Nat) (x : Gate) : (d.setGate n x).tile = d.tile := rfl
@[simp] theorem Dev.setGate_eng (d : Dev) (n : Nat) (x : Gate) : (d.setGate n x).eng = d.eng := rfl
@[simp] theorem Dev.setGate_prt (d : Dev) (n : Nat) (x : Gate) : (d.setGate n x).prt = d.prt := rfl
@[simp] theorem Dev.setGate_svc (d : Dev) (n : Nat) (x : Gate) : (d.setGate n x).svc = d.svc := rfl
@[simp] theorem Dev.setGate_cpl (d : Dev) (n : Nat) (x : Gate) : (d.setGate n x).cpl = d.cpl := rfl
@[simp] theorem Dev.setGate_rep (d : Dev) (n : Nat) (x : Gate) : (d.setGate n x).rep = d.rep := rfl

/-! `ppsPass` changes out, clk. -/

@[simp] theorem Dev.ppsPass_csr (d : Dev) (t u n : Nat) : (d.ppsPass t u n).csr = d.csr := by unfold Dev.ppsPass; split <;> rfl
@[simp] theorem Dev.ppsPass_hwSet (d : Dev) (t u n : Nat) : (d.ppsPass t u n).hwSet = d.hwSet := by unfold Dev.ppsPass; split <;> rfl
@[simp] theorem Dev.ppsPass_mem (d : Dev) (t u n : Nat) : (d.ppsPass t u n).mem = d.mem := by unfold Dev.ppsPass; split <;> rfl
@[simp] theorem Dev.ppsPass_poison (d : Dev) (t u n : Nat) : (d.ppsPass t u n).poison = d.poison := by unfold Dev.ppsPass; split <;> rfl
@[simp] theorem Dev.ppsPass_soft (d : Dev) (t u n : Nat) : (d.ppsPass t u n).soft = d.soft := by unfold Dev.ppsPass; split <;> rfl
@[simp] theorem Dev.ppsPass_quiet (d : Dev) (t u n : Nat) : (d.ppsPass t u n).quiet = d.quiet := by unfold Dev.ppsPass; split <;> rfl
@[simp] theorem Dev.ppsPass_nanRep (d : Dev) (t u n : Nat) : (d.ppsPass t u n).nanRep = d.nanRep := by unfold Dev.ppsPass; split <;> rfl
@[simp] theorem Dev.ppsPass_freeCtr (d : Dev) (t u n : Nat) : (d.ppsPass t u n).freeCtr = d.freeCtr := by unfold Dev.ppsPass; split <;> rfl
@[simp] theorem Dev.ppsPass_rst (d : Dev) (t u n : Nat) : (d.ppsPass t u n).rst = d.rst := by unfold Dev.ppsPass; split <;> rfl
@[simp] theorem Dev.ppsPass_load (d : Dev) (t u n : Nat) : (d.ppsPass t u n).load = d.load := by unfold Dev.ppsPass; split <;> rfl
@[simp] theorem Dev.ppsPass_keep (d : Dev) (t u n : Nat) : (d.ppsPass t u n).keep = d.keep := by unfold Dev.ppsPass; split <;> rfl
@[simp] theorem Dev.ppsPass_ember (d : Dev) (t u n : Nat) : (d.ppsPass t u n).ember = d.ember := by unfold Dev.ppsPass; split <;> rfl
@[simp] theorem Dev.ppsPass_safe (d : Dev) (t u n : Nat) : (d.ppsPass t u n).safe = d.safe := by unfold Dev.ppsPass; split <;> rfl
@[simp] theorem Dev.ppsPass_sgd (d : Dev) (t u n : Nat) : (d.ppsPass t u n).sgd = d.sgd := by unfold Dev.ppsPass; split <;> rfl
@[simp] theorem Dev.ppsPass_mgt (d : Dev) (t u n : Nat) : (d.ppsPass t u n).mgt = d.mgt := by unfold Dev.ppsPass; split <;> rfl
@[simp] theorem Dev.ppsPass_fab (d : Dev) (t u n : Nat) : (d.ppsPass t u n).fab = d.fab := by unfold Dev.ppsPass; split <;> rfl
@[simp] theorem Dev.ppsPass_ann (d : Dev) (t u n : Nat) : (d.ppsPass t u n).ann = d.ann := by unfold Dev.ppsPass; split <;> rfl
@[simp] theorem Dev.ppsPass_cel (d : Dev) (t u n : Nat) : (d.ppsPass t u n).cel = d.cel := by unfold Dev.ppsPass; split <;> rfl
@[simp] theorem Dev.ppsPass_hbm (d : Dev) (t u n : Nat) : (d.ppsPass t u n).hbm = d.hbm := by unfold Dev.ppsPass; split <;> rfl
@[simp] theorem Dev.ppsPass_tile (d : Dev) (t u n : Nat) : (d.ppsPass t u n).tile = d.tile := by unfold Dev.ppsPass; split <;> rfl
@[simp] theorem Dev.ppsPass_eng (d : Dev) (t u n : Nat) : (d.ppsPass t u n).eng = d.eng := by unfold Dev.ppsPass; split <;> rfl
@[simp] theorem Dev.ppsPass_prt (d : Dev) (t u n : Nat) : (d.ppsPass t u n).prt = d.prt := by unfold Dev.ppsPass; split <;> rfl
@[simp] theorem Dev.ppsPass_svc (d : Dev) (t u n : Nat) : (d.ppsPass t u n).svc = d.svc := by unfold Dev.ppsPass; split <;> rfl
@[simp] theorem Dev.ppsPass_cpl (d : Dev) (t u n : Nat) : (d.ppsPass t u n).cpl = d.cpl := by unfold Dev.ppsPass; split <;> rfl
@[simp] theorem Dev.ppsPass_rep (d : Dev) (t u n : Nat) : (d.ppsPass t u n).rep = d.rep := by unfold Dev.ppsPass; split <;> rfl

/-! `llWaits` changes csr. -/

@[simp] theorem Dev.llWaits_hwSet (d : Dev) (n : Nat) : (d.llWaits n).hwSet = d.hwSet := by unfold Dev.llWaits; split <;> [rfl; exact foldl_keeps (fun d : Dev => d.hwSet) (fun d e => by split <;> simp) _ d]
@[simp] theorem Dev.llWaits_mem (d : Dev) (n : Nat) : (d.llWaits n).mem = d.mem := by unfold Dev.llWaits; split <;> [rfl; exact foldl_keeps (fun d : Dev => d.mem) (fun d e => by split <;> simp) _ d]
@[simp] theorem Dev.llWaits_poison (d : Dev) (n : Nat) : (d.llWaits n).poison = d.poison := by unfold Dev.llWaits; split <;> [rfl; exact foldl_keeps (fun d : Dev => d.poison) (fun d e => by split <;> simp) _ d]
@[simp] theorem Dev.llWaits_soft (d : Dev) (n : Nat) : (d.llWaits n).soft = d.soft := by unfold Dev.llWaits; split <;> [rfl; exact foldl_keeps (fun d : Dev => d.soft) (fun d e => by split <;> simp) _ d]
@[simp] theorem Dev.llWaits_quiet (d : Dev) (n : Nat) : (d.llWaits n).quiet = d.quiet := by unfold Dev.llWaits; split <;> [rfl; exact foldl_keeps (fun d : Dev => d.quiet) (fun d e => by split <;> simp) _ d]
@[simp] theorem Dev.llWaits_nanRep (d : Dev) (n : Nat) : (d.llWaits n).nanRep = d.nanRep := by unfold Dev.llWaits; split <;> [rfl; exact foldl_keeps (fun d : Dev => d.nanRep) (fun d e => by split <;> simp) _ d]
@[simp] theorem Dev.llWaits_out (d : Dev) (n : Nat) : (d.llWaits n).out = d.out := by unfold Dev.llWaits; split <;> [rfl; exact foldl_keeps (fun d : Dev => d.out) (fun d e => by split <;> simp) _ d]
@[simp] theorem Dev.llWaits_freeCtr (d : Dev) (n : Nat) : (d.llWaits n).freeCtr = d.freeCtr := by unfold Dev.llWaits; split <;> [rfl; exact foldl_keeps (fun d : Dev => d.freeCtr) (fun d e => by split <;> simp) _ d]
@[simp] theorem Dev.llWaits_clk (d : Dev) (n : Nat) : (d.llWaits n).clk = d.clk := by unfold Dev.llWaits; split <;> [rfl; exact foldl_keeps (fun d : Dev => d.clk) (fun d e => by split <;> simp) _ d]
@[simp] theorem Dev.llWaits_rst (d : Dev) (n : Nat) : (d.llWaits n).rst = d.rst := by unfold Dev.llWaits; split <;> [rfl; exact foldl_keeps (fun d : Dev => d.rst) (fun d e => by split <;> simp) _ d]
@[simp] theorem Dev.llWaits_load (d : Dev) (n : Nat) : (d.llWaits n).load = d.load := by unfold Dev.llWaits; split <;> [rfl; exact foldl_keeps (fun d : Dev => d.load) (fun d e => by split <;> simp) _ d]
@[simp] theorem Dev.llWaits_keep (d : Dev) (n : Nat) : (d.llWaits n).keep = d.keep := by unfold Dev.llWaits; split <;> [rfl; exact foldl_keeps (fun d : Dev => d.keep) (fun d e => by split <;> simp) _ d]
@[simp] theorem Dev.llWaits_ember (d : Dev) (n : Nat) : (d.llWaits n).ember = d.ember := by unfold Dev.llWaits; split <;> [rfl; exact foldl_keeps (fun d : Dev => d.ember) (fun d e => by split <;> simp) _ d]
@[simp] theorem Dev.llWaits_safe (d : Dev) (n : Nat) : (d.llWaits n).safe = d.safe := by unfold Dev.llWaits; split <;> [rfl; exact foldl_keeps (fun d : Dev => d.safe) (fun d e => by split <;> simp) _ d]
@[simp] theorem Dev.llWaits_sgd (d : Dev) (n : Nat) : (d.llWaits n).sgd = d.sgd := by unfold Dev.llWaits; split <;> [rfl; exact foldl_keeps (fun d : Dev => d.sgd) (fun d e => by split <;> simp) _ d]
@[simp] theorem Dev.llWaits_mgt (d : Dev) (n : Nat) : (d.llWaits n).mgt = d.mgt := by unfold Dev.llWaits; split <;> [rfl; exact foldl_keeps (fun d : Dev => d.mgt) (fun d e => by split <;> simp) _ d]
@[simp] theorem Dev.llWaits_fab (d : Dev) (n : Nat) : (d.llWaits n).fab = d.fab := by unfold Dev.llWaits; split <;> [rfl; exact foldl_keeps (fun d : Dev => d.fab) (fun d e => by split <;> simp) _ d]
@[simp] theorem Dev.llWaits_ann (d : Dev) (n : Nat) : (d.llWaits n).ann = d.ann := by unfold Dev.llWaits; split <;> [rfl; exact foldl_keeps (fun d : Dev => d.ann) (fun d e => by split <;> simp) _ d]
@[simp] theorem Dev.llWaits_cel (d : Dev) (n : Nat) : (d.llWaits n).cel = d.cel := by unfold Dev.llWaits; split <;> [rfl; exact foldl_keeps (fun d : Dev => d.cel) (fun d e => by split <;> simp) _ d]
@[simp] theorem Dev.llWaits_hbm (d : Dev) (n : Nat) : (d.llWaits n).hbm = d.hbm := by unfold Dev.llWaits; split <;> [rfl; exact foldl_keeps (fun d : Dev => d.hbm) (fun d e => by split <;> simp) _ d]
@[simp] theorem Dev.llWaits_tile (d : Dev) (n : Nat) : (d.llWaits n).tile = d.tile := by unfold Dev.llWaits; split <;> [rfl; exact foldl_keeps (fun d : Dev => d.tile) (fun d e => by split <;> simp) _ d]
@[simp] theorem Dev.llWaits_eng (d : Dev) (n : Nat) : (d.llWaits n).eng = d.eng := by unfold Dev.llWaits; split <;> [rfl; exact foldl_keeps (fun d : Dev => d.eng) (fun d e => by split <;> simp) _ d]
@[simp] theorem Dev.llWaits_prt (d : Dev) (n : Nat) : (d.llWaits n).prt = d.prt := by unfold Dev.llWaits; split <;> [rfl; exact foldl_keeps (fun d : Dev => d.prt) (fun d e => by split <;> simp) _ d]
@[simp] theorem Dev.llWaits_svc (d : Dev) (n : Nat) : (d.llWaits n).svc = d.svc := by unfold Dev.llWaits; split <;> [rfl; exact foldl_keeps (fun d : Dev => d.svc) (fun d e => by split <;> simp) _ d]
@[simp] theorem Dev.llWaits_cpl (d : Dev) (n : Nat) : (d.llWaits n).cpl = d.cpl := by unfold Dev.llWaits; split <;> [rfl; exact foldl_keeps (fun d : Dev => d.cpl) (fun d e => by split <;> simp) _ d]
@[simp] theorem Dev.llWaits_rep (d : Dev) (n : Nat) : (d.llWaits n).rep = d.rep := by unfold Dev.llWaits; split <;> [rfl; exact foldl_keeps (fun d : Dev => d.rep) (fun d e => by split <;> simp) _ d]

/-! `pass` changes csr, clk, out. -/

@[simp] theorem Dev.pass_hwSet (d : Dev) (n : Nat) : (d.pass n).hwSet = d.hwSet := by unfold Dev.pass; dsimp only; split <;> split <;> simp
@[simp] theorem Dev.pass_mem (d : Dev) (n : Nat) : (d.pass n).mem = d.mem := by unfold Dev.pass; dsimp only; split <;> split <;> simp
@[simp] theorem Dev.pass_poison (d : Dev) (n : Nat) : (d.pass n).poison = d.poison := by unfold Dev.pass; dsimp only; split <;> split <;> simp
@[simp] theorem Dev.pass_soft (d : Dev) (n : Nat) : (d.pass n).soft = d.soft := by unfold Dev.pass; dsimp only; split <;> split <;> simp
@[simp] theorem Dev.pass_quiet (d : Dev) (n : Nat) : (d.pass n).quiet = d.quiet := by unfold Dev.pass; dsimp only; split <;> split <;> simp
@[simp] theorem Dev.pass_nanRep (d : Dev) (n : Nat) : (d.pass n).nanRep = d.nanRep := by unfold Dev.pass; dsimp only; split <;> split <;> simp
@[simp] theorem Dev.pass_freeCtr (d : Dev) (n : Nat) : (d.pass n).freeCtr = d.freeCtr := by unfold Dev.pass; dsimp only; split <;> split <;> simp
@[simp] theorem Dev.pass_rst (d : Dev) (n : Nat) : (d.pass n).rst = d.rst := by unfold Dev.pass; dsimp only; split <;> split <;> simp
@[simp] theorem Dev.pass_load (d : Dev) (n : Nat) : (d.pass n).load = d.load := by unfold Dev.pass; dsimp only; split <;> split <;> simp
@[simp] theorem Dev.pass_keep (d : Dev) (n : Nat) : (d.pass n).keep = d.keep := by unfold Dev.pass; dsimp only; split <;> split <;> simp
@[simp] theorem Dev.pass_ember (d : Dev) (n : Nat) : (d.pass n).ember = d.ember := by unfold Dev.pass; dsimp only; split <;> split <;> simp
@[simp] theorem Dev.pass_safe (d : Dev) (n : Nat) : (d.pass n).safe = d.safe := by unfold Dev.pass; dsimp only; split <;> split <;> simp
@[simp] theorem Dev.pass_sgd (d : Dev) (n : Nat) : (d.pass n).sgd = d.sgd := by unfold Dev.pass; dsimp only; split <;> split <;> simp
@[simp] theorem Dev.pass_mgt (d : Dev) (n : Nat) : (d.pass n).mgt = d.mgt := by unfold Dev.pass; dsimp only; split <;> split <;> simp
@[simp] theorem Dev.pass_fab (d : Dev) (n : Nat) : (d.pass n).fab = d.fab := by unfold Dev.pass; dsimp only; split <;> split <;> simp
@[simp] theorem Dev.pass_ann (d : Dev) (n : Nat) : (d.pass n).ann = d.ann := by unfold Dev.pass; dsimp only; split <;> split <;> simp
@[simp] theorem Dev.pass_cel (d : Dev) (n : Nat) : (d.pass n).cel = d.cel := by unfold Dev.pass; dsimp only; split <;> split <;> simp
@[simp] theorem Dev.pass_hbm (d : Dev) (n : Nat) : (d.pass n).hbm = d.hbm := by unfold Dev.pass; dsimp only; split <;> split <;> simp
@[simp] theorem Dev.pass_tile (d : Dev) (n : Nat) : (d.pass n).tile = d.tile := by unfold Dev.pass; dsimp only; split <;> split <;> simp
@[simp] theorem Dev.pass_eng (d : Dev) (n : Nat) : (d.pass n).eng = d.eng := by unfold Dev.pass; dsimp only; split <;> split <;> simp
@[simp] theorem Dev.pass_prt (d : Dev) (n : Nat) : (d.pass n).prt = d.prt := by unfold Dev.pass; dsimp only; split <;> split <;> simp
@[simp] theorem Dev.pass_svc (d : Dev) (n : Nat) : (d.pass n).svc = d.svc := by unfold Dev.pass; dsimp only; split <;> split <;> simp
@[simp] theorem Dev.pass_cpl (d : Dev) (n : Nat) : (d.pass n).cpl = d.cpl := by unfold Dev.pass; dsimp only; split <;> split <;> simp
@[simp] theorem Dev.pass_rep (d : Dev) (n : Nat) : (d.pass n).rep = d.rep := by unfold Dev.pass; dsimp only; split <;> split <;> simp

/-! `msix` changes csr, hwSet, out. -/

@[simp] theorem Dev.msix_mem (d : Dev) (v : Nat) : (d.msix v).mem = d.mem := by unfold Dev.msix; dsimp only; split <;> rfl
@[simp] theorem Dev.msix_poison (d : Dev) (v : Nat) : (d.msix v).poison = d.poison := by unfold Dev.msix; dsimp only; split <;> rfl
@[simp] theorem Dev.msix_soft (d : Dev) (v : Nat) : (d.msix v).soft = d.soft := by unfold Dev.msix; dsimp only; split <;> rfl
@[simp] theorem Dev.msix_quiet (d : Dev) (v : Nat) : (d.msix v).quiet = d.quiet := by unfold Dev.msix; dsimp only; split <;> rfl
@[simp] theorem Dev.msix_nanRep (d : Dev) (v : Nat) : (d.msix v).nanRep = d.nanRep := by unfold Dev.msix; dsimp only; split <;> rfl
@[simp] theorem Dev.msix_freeCtr (d : Dev) (v : Nat) : (d.msix v).freeCtr = d.freeCtr := by unfold Dev.msix; dsimp only; split <;> rfl
@[simp] theorem Dev.msix_clk (d : Dev) (v : Nat) : (d.msix v).clk = d.clk := by unfold Dev.msix; dsimp only; split <;> rfl
@[simp] theorem Dev.msix_rst (d : Dev) (v : Nat) : (d.msix v).rst = d.rst := by unfold Dev.msix; dsimp only; split <;> rfl
@[simp] theorem Dev.msix_load (d : Dev) (v : Nat) : (d.msix v).load = d.load := by unfold Dev.msix; dsimp only; split <;> rfl
@[simp] theorem Dev.msix_keep (d : Dev) (v : Nat) : (d.msix v).keep = d.keep := by unfold Dev.msix; dsimp only; split <;> rfl
@[simp] theorem Dev.msix_ember (d : Dev) (v : Nat) : (d.msix v).ember = d.ember := by unfold Dev.msix; dsimp only; split <;> rfl
@[simp] theorem Dev.msix_safe (d : Dev) (v : Nat) : (d.msix v).safe = d.safe := by unfold Dev.msix; dsimp only; split <;> rfl
@[simp] theorem Dev.msix_sgd (d : Dev) (v : Nat) : (d.msix v).sgd = d.sgd := by unfold Dev.msix; dsimp only; split <;> rfl
@[simp] theorem Dev.msix_mgt (d : Dev) (v : Nat) : (d.msix v).mgt = d.mgt := by unfold Dev.msix; dsimp only; split <;> rfl
@[simp] theorem Dev.msix_fab (d : Dev) (v : Nat) : (d.msix v).fab = d.fab := by unfold Dev.msix; dsimp only; split <;> rfl
@[simp] theorem Dev.msix_ann (d : Dev) (v : Nat) : (d.msix v).ann = d.ann := by unfold Dev.msix; dsimp only; split <;> rfl
@[simp] theorem Dev.msix_cel (d : Dev) (v : Nat) : (d.msix v).cel = d.cel := by unfold Dev.msix; dsimp only; split <;> rfl
@[simp] theorem Dev.msix_hbm (d : Dev) (v : Nat) : (d.msix v).hbm = d.hbm := by unfold Dev.msix; dsimp only; split <;> rfl
@[simp] theorem Dev.msix_tile (d : Dev) (v : Nat) : (d.msix v).tile = d.tile := by unfold Dev.msix; dsimp only; split <;> rfl
@[simp] theorem Dev.msix_eng (d : Dev) (v : Nat) : (d.msix v).eng = d.eng := by unfold Dev.msix; dsimp only; split <;> rfl
@[simp] theorem Dev.msix_prt (d : Dev) (v : Nat) : (d.msix v).prt = d.prt := by unfold Dev.msix; dsimp only; split <;> rfl
@[simp] theorem Dev.msix_svc (d : Dev) (v : Nat) : (d.msix v).svc = d.svc := by unfold Dev.msix; dsimp only; split <;> rfl
@[simp] theorem Dev.msix_cpl (d : Dev) (v : Nat) : (d.msix v).cpl = d.cpl := by unfold Dev.msix; dsimp only; split <;> rfl
@[simp] theorem Dev.msix_rep (d : Dev) (v : Nat) : (d.msix v).rep = d.rep := by unfold Dev.msix; dsimp only; split <;> rfl

/-! `uart` changes csr, mgt. -/

@[simp] theorem Dev.uart_hwSet (d : Dev) (c : Nat) : (d.uart c).hwSet = d.hwSet := by unfold Dev.uart; split <;> rfl
@[simp] theorem Dev.uart_mem (d : Dev) (c : Nat) : (d.uart c).mem = d.mem := by unfold Dev.uart; split <;> rfl
@[simp] theorem Dev.uart_poison (d : Dev) (c : Nat) : (d.uart c).poison = d.poison := by unfold Dev.uart; split <;> rfl
@[simp] theorem Dev.uart_soft (d : Dev) (c : Nat) : (d.uart c).soft = d.soft := by unfold Dev.uart; split <;> rfl
@[simp] theorem Dev.uart_quiet (d : Dev) (c : Nat) : (d.uart c).quiet = d.quiet := by unfold Dev.uart; split <;> rfl
@[simp] theorem Dev.uart_nanRep (d : Dev) (c : Nat) : (d.uart c).nanRep = d.nanRep := by unfold Dev.uart; split <;> rfl
@[simp] theorem Dev.uart_out (d : Dev) (c : Nat) : (d.uart c).out = d.out := by unfold Dev.uart; split <;> rfl
@[simp] theorem Dev.uart_freeCtr (d : Dev) (c : Nat) : (d.uart c).freeCtr = d.freeCtr := by unfold Dev.uart; split <;> rfl
@[simp] theorem Dev.uart_clk (d : Dev) (c : Nat) : (d.uart c).clk = d.clk := by unfold Dev.uart; split <;> rfl
@[simp] theorem Dev.uart_rst (d : Dev) (c : Nat) : (d.uart c).rst = d.rst := by unfold Dev.uart; split <;> rfl
@[simp] theorem Dev.uart_load (d : Dev) (c : Nat) : (d.uart c).load = d.load := by unfold Dev.uart; split <;> rfl
@[simp] theorem Dev.uart_keep (d : Dev) (c : Nat) : (d.uart c).keep = d.keep := by unfold Dev.uart; split <;> rfl
@[simp] theorem Dev.uart_ember (d : Dev) (c : Nat) : (d.uart c).ember = d.ember := by unfold Dev.uart; split <;> rfl
@[simp] theorem Dev.uart_safe (d : Dev) (c : Nat) : (d.uart c).safe = d.safe := by unfold Dev.uart; split <;> rfl
@[simp] theorem Dev.uart_sgd (d : Dev) (c : Nat) : (d.uart c).sgd = d.sgd := by unfold Dev.uart; split <;> rfl
@[simp] theorem Dev.uart_fab (d : Dev) (c : Nat) : (d.uart c).fab = d.fab := by unfold Dev.uart; split <;> rfl
@[simp] theorem Dev.uart_ann (d : Dev) (c : Nat) : (d.uart c).ann = d.ann := by unfold Dev.uart; split <;> rfl
@[simp] theorem Dev.uart_cel (d : Dev) (c : Nat) : (d.uart c).cel = d.cel := by unfold Dev.uart; split <;> rfl
@[simp] theorem Dev.uart_hbm (d : Dev) (c : Nat) : (d.uart c).hbm = d.hbm := by unfold Dev.uart; split <;> rfl
@[simp] theorem Dev.uart_tile (d : Dev) (c : Nat) : (d.uart c).tile = d.tile := by unfold Dev.uart; split <;> rfl
@[simp] theorem Dev.uart_eng (d : Dev) (c : Nat) : (d.uart c).eng = d.eng := by unfold Dev.uart; split <;> rfl
@[simp] theorem Dev.uart_prt (d : Dev) (c : Nat) : (d.uart c).prt = d.prt := by unfold Dev.uart; split <;> rfl
@[simp] theorem Dev.uart_svc (d : Dev) (c : Nat) : (d.uart c).svc = d.svc := by unfold Dev.uart; split <;> rfl
@[simp] theorem Dev.uart_cpl (d : Dev) (c : Nat) : (d.uart c).cpl = d.cpl := by unfold Dev.uart; split <;> rfl
@[simp] theorem Dev.uart_rep (d : Dev) (c : Nat) : (d.uart c).rep = d.rep := by unfold Dev.uart; split <;> rfl

/-! `post` changes csr, ember. -/

@[simp] theorem Dev.post_hwSet (d : Dev) (e : EmbEnt) : (d.post e).hwSet = d.hwSet := by unfold Dev.post; dsimp only; split <;> [rfl; (split <;> rfl)]
@[simp] theorem Dev.post_mem (d : Dev) (e : EmbEnt) : (d.post e).mem = d.mem := by unfold Dev.post; dsimp only; split <;> [rfl; (split <;> rfl)]
@[simp] theorem Dev.post_poison (d : Dev) (e : EmbEnt) : (d.post e).poison = d.poison := by unfold Dev.post; dsimp only; split <;> [rfl; (split <;> rfl)]
@[simp] theorem Dev.post_soft (d : Dev) (e : EmbEnt) : (d.post e).soft = d.soft := by unfold Dev.post; dsimp only; split <;> [rfl; (split <;> rfl)]
@[simp] theorem Dev.post_quiet (d : Dev) (e : EmbEnt) : (d.post e).quiet = d.quiet := by unfold Dev.post; dsimp only; split <;> [rfl; (split <;> rfl)]
@[simp] theorem Dev.post_nanRep (d : Dev) (e : EmbEnt) : (d.post e).nanRep = d.nanRep := by unfold Dev.post; dsimp only; split <;> [rfl; (split <;> rfl)]
@[simp] theorem Dev.post_out (d : Dev) (e : EmbEnt) : (d.post e).out = d.out := by unfold Dev.post; dsimp only; split <;> [rfl; (split <;> rfl)]
@[simp] theorem Dev.post_freeCtr (d : Dev) (e : EmbEnt) : (d.post e).freeCtr = d.freeCtr := by unfold Dev.post; dsimp only; split <;> [rfl; (split <;> rfl)]
@[simp] theorem Dev.post_clk (d : Dev) (e : EmbEnt) : (d.post e).clk = d.clk := by unfold Dev.post; dsimp only; split <;> [rfl; (split <;> rfl)]
@[simp] theorem Dev.post_rst (d : Dev) (e : EmbEnt) : (d.post e).rst = d.rst := by unfold Dev.post; dsimp only; split <;> [rfl; (split <;> rfl)]
@[simp] theorem Dev.post_load (d : Dev) (e : EmbEnt) : (d.post e).load = d.load := by unfold Dev.post; dsimp only; split <;> [rfl; (split <;> rfl)]
@[simp] theorem Dev.post_keep (d : Dev) (e : EmbEnt) : (d.post e).keep = d.keep := by unfold Dev.post; dsimp only; split <;> [rfl; (split <;> rfl)]
@[simp] theorem Dev.post_safe (d : Dev) (e : EmbEnt) : (d.post e).safe = d.safe := by unfold Dev.post; dsimp only; split <;> [rfl; (split <;> rfl)]
@[simp] theorem Dev.post_sgd (d : Dev) (e : EmbEnt) : (d.post e).sgd = d.sgd := by unfold Dev.post; dsimp only; split <;> [rfl; (split <;> rfl)]
@[simp] theorem Dev.post_mgt (d : Dev) (e : EmbEnt) : (d.post e).mgt = d.mgt := by unfold Dev.post; dsimp only; split <;> [rfl; (split <;> rfl)]
@[simp] theorem Dev.post_fab (d : Dev) (e : EmbEnt) : (d.post e).fab = d.fab := by unfold Dev.post; dsimp only; split <;> [rfl; (split <;> rfl)]
@[simp] theorem Dev.post_ann (d : Dev) (e : EmbEnt) : (d.post e).ann = d.ann := by unfold Dev.post; dsimp only; split <;> [rfl; (split <;> rfl)]
@[simp] theorem Dev.post_cel (d : Dev) (e : EmbEnt) : (d.post e).cel = d.cel := by unfold Dev.post; dsimp only; split <;> [rfl; (split <;> rfl)]
@[simp] theorem Dev.post_hbm (d : Dev) (e : EmbEnt) : (d.post e).hbm = d.hbm := by unfold Dev.post; dsimp only; split <;> [rfl; (split <;> rfl)]
@[simp] theorem Dev.post_tile (d : Dev) (e : EmbEnt) : (d.post e).tile = d.tile := by unfold Dev.post; dsimp only; split <;> [rfl; (split <;> rfl)]
@[simp] theorem Dev.post_eng (d : Dev) (e : EmbEnt) : (d.post e).eng = d.eng := by unfold Dev.post; dsimp only; split <;> [rfl; (split <;> rfl)]
@[simp] theorem Dev.post_prt (d : Dev) (e : EmbEnt) : (d.post e).prt = d.prt := by unfold Dev.post; dsimp only; split <;> [rfl; (split <;> rfl)]
@[simp] theorem Dev.post_svc (d : Dev) (e : EmbEnt) : (d.post e).svc = d.svc := by unfold Dev.post; dsimp only; split <;> [rfl; (split <;> rfl)]
@[simp] theorem Dev.post_cpl (d : Dev) (e : EmbEnt) : (d.post e).cpl = d.cpl := by unfold Dev.post; dsimp only; split <;> [rfl; (split <;> rfl)]
@[simp] theorem Dev.post_rep (d : Dev) (e : EmbEnt) : (d.post e).rep = d.rep := by unfold Dev.post; dsimp only; split <;> [rfl; (split <;> rfl)]

/-! `repAbort` changes csr, ember. -/

@[simp] theorem Dev.repAbort_hwSet (d : Dev) (r ev n : Nat) : (d.repAbort r ev n).hwSet = d.hwSet := by unfold Dev.repAbort; split <;> simp
@[simp] theorem Dev.repAbort_mem (d : Dev) (r ev n : Nat) : (d.repAbort r ev n).mem = d.mem := by unfold Dev.repAbort; split <;> simp
@[simp] theorem Dev.repAbort_poison (d : Dev) (r ev n : Nat) : (d.repAbort r ev n).poison = d.poison := by unfold Dev.repAbort; split <;> simp
@[simp] theorem Dev.repAbort_soft (d : Dev) (r ev n : Nat) : (d.repAbort r ev n).soft = d.soft := by unfold Dev.repAbort; split <;> simp
@[simp] theorem Dev.repAbort_quiet (d : Dev) (r ev n : Nat) : (d.repAbort r ev n).quiet = d.quiet := by unfold Dev.repAbort; split <;> simp
@[simp] theorem Dev.repAbort_nanRep (d : Dev) (r ev n : Nat) : (d.repAbort r ev n).nanRep = d.nanRep := by unfold Dev.repAbort; split <;> simp
@[simp] theorem Dev.repAbort_out (d : Dev) (r ev n : Nat) : (d.repAbort r ev n).out = d.out := by unfold Dev.repAbort; split <;> simp
@[simp] theorem Dev.repAbort_freeCtr (d : Dev) (r ev n : Nat) : (d.repAbort r ev n).freeCtr = d.freeCtr := by unfold Dev.repAbort; split <;> simp
@[simp] theorem Dev.repAbort_clk (d : Dev) (r ev n : Nat) : (d.repAbort r ev n).clk = d.clk := by unfold Dev.repAbort; split <;> simp
@[simp] theorem Dev.repAbort_rst (d : Dev) (r ev n : Nat) : (d.repAbort r ev n).rst = d.rst := by unfold Dev.repAbort; split <;> simp
@[simp] theorem Dev.repAbort_load (d : Dev) (r ev n : Nat) : (d.repAbort r ev n).load = d.load := by unfold Dev.repAbort; split <;> simp
@[simp] theorem Dev.repAbort_keep (d : Dev) (r ev n : Nat) : (d.repAbort r ev n).keep = d.keep := by unfold Dev.repAbort; split <;> simp
@[simp] theorem Dev.repAbort_safe (d : Dev) (r ev n : Nat) : (d.repAbort r ev n).safe = d.safe := by unfold Dev.repAbort; split <;> simp
@[simp] theorem Dev.repAbort_sgd (d : Dev) (r ev n : Nat) : (d.repAbort r ev n).sgd = d.sgd := by unfold Dev.repAbort; split <;> simp
@[simp] theorem Dev.repAbort_mgt (d : Dev) (r ev n : Nat) : (d.repAbort r ev n).mgt = d.mgt := by unfold Dev.repAbort; split <;> simp
@[simp] theorem Dev.repAbort_fab (d : Dev) (r ev n : Nat) : (d.repAbort r ev n).fab = d.fab := by unfold Dev.repAbort; split <;> simp
@[simp] theorem Dev.repAbort_ann (d : Dev) (r ev n : Nat) : (d.repAbort r ev n).ann = d.ann := by unfold Dev.repAbort; split <;> simp
@[simp] theorem Dev.repAbort_cel (d : Dev) (r ev n : Nat) : (d.repAbort r ev n).cel = d.cel := by unfold Dev.repAbort; split <;> simp
@[simp] theorem Dev.repAbort_hbm (d : Dev) (r ev n : Nat) : (d.repAbort r ev n).hbm = d.hbm := by unfold Dev.repAbort; split <;> simp
@[simp] theorem Dev.repAbort_tile (d : Dev) (r ev n : Nat) : (d.repAbort r ev n).tile = d.tile := by unfold Dev.repAbort; split <;> simp
@[simp] theorem Dev.repAbort_eng (d : Dev) (r ev n : Nat) : (d.repAbort r ev n).eng = d.eng := by unfold Dev.repAbort; split <;> simp
@[simp] theorem Dev.repAbort_prt (d : Dev) (r ev n : Nat) : (d.repAbort r ev n).prt = d.prt := by unfold Dev.repAbort; split <;> simp
@[simp] theorem Dev.repAbort_svc (d : Dev) (r ev n : Nat) : (d.repAbort r ev n).svc = d.svc := by unfold Dev.repAbort; split <;> simp
@[simp] theorem Dev.repAbort_cpl (d : Dev) (r ev n : Nat) : (d.repAbort r ev n).cpl = d.cpl := by unfold Dev.repAbort; split <;> simp
@[simp] theorem Dev.repAbort_rep (d : Dev) (r ev n : Nat) : (d.repAbort r ev n).rep = d.rep := by unfold Dev.repAbort; split <;> simp

/-! `driveSafeN` changes csr, safe, out. -/

@[simp] theorem Dev.driveSafeN_hwSet (d : Dev) : (d.driveSafeN).hwSet = d.hwSet := by unfold Dev.driveSafeN; split <;> rfl
@[simp] theorem Dev.driveSafeN_mem (d : Dev) : (d.driveSafeN).mem = d.mem := by unfold Dev.driveSafeN; split <;> rfl
@[simp] theorem Dev.driveSafeN_poison (d : Dev) : (d.driveSafeN).poison = d.poison := by unfold Dev.driveSafeN; split <;> rfl
@[simp] theorem Dev.driveSafeN_soft (d : Dev) : (d.driveSafeN).soft = d.soft := by unfold Dev.driveSafeN; split <;> rfl
@[simp] theorem Dev.driveSafeN_quiet (d : Dev) : (d.driveSafeN).quiet = d.quiet := by unfold Dev.driveSafeN; split <;> rfl
@[simp] theorem Dev.driveSafeN_nanRep (d : Dev) : (d.driveSafeN).nanRep = d.nanRep := by unfold Dev.driveSafeN; split <;> rfl
@[simp] theorem Dev.driveSafeN_freeCtr (d : Dev) : (d.driveSafeN).freeCtr = d.freeCtr := by unfold Dev.driveSafeN; split <;> rfl
@[simp] theorem Dev.driveSafeN_clk (d : Dev) : (d.driveSafeN).clk = d.clk := by unfold Dev.driveSafeN; split <;> rfl
@[simp] theorem Dev.driveSafeN_rst (d : Dev) : (d.driveSafeN).rst = d.rst := by unfold Dev.driveSafeN; split <;> rfl
@[simp] theorem Dev.driveSafeN_load (d : Dev) : (d.driveSafeN).load = d.load := by unfold Dev.driveSafeN; split <;> rfl
@[simp] theorem Dev.driveSafeN_keep (d : Dev) : (d.driveSafeN).keep = d.keep := by unfold Dev.driveSafeN; split <;> rfl
@[simp] theorem Dev.driveSafeN_ember (d : Dev) : (d.driveSafeN).ember = d.ember := by unfold Dev.driveSafeN; split <;> rfl
@[simp] theorem Dev.driveSafeN_sgd (d : Dev) : (d.driveSafeN).sgd = d.sgd := by unfold Dev.driveSafeN; split <;> rfl
@[simp] theorem Dev.driveSafeN_mgt (d : Dev) : (d.driveSafeN).mgt = d.mgt := by unfold Dev.driveSafeN; split <;> rfl
@[simp] theorem Dev.driveSafeN_fab (d : Dev) : (d.driveSafeN).fab = d.fab := by unfold Dev.driveSafeN; split <;> rfl
@[simp] theorem Dev.driveSafeN_ann (d : Dev) : (d.driveSafeN).ann = d.ann := by unfold Dev.driveSafeN; split <;> rfl
@[simp] theorem Dev.driveSafeN_cel (d : Dev) : (d.driveSafeN).cel = d.cel := by unfold Dev.driveSafeN; split <;> rfl
@[simp] theorem Dev.driveSafeN_hbm (d : Dev) : (d.driveSafeN).hbm = d.hbm := by unfold Dev.driveSafeN; split <;> rfl
@[simp] theorem Dev.driveSafeN_tile (d : Dev) : (d.driveSafeN).tile = d.tile := by unfold Dev.driveSafeN; split <;> rfl
@[simp] theorem Dev.driveSafeN_eng (d : Dev) : (d.driveSafeN).eng = d.eng := by unfold Dev.driveSafeN; split <;> rfl
@[simp] theorem Dev.driveSafeN_prt (d : Dev) : (d.driveSafeN).prt = d.prt := by unfold Dev.driveSafeN; split <;> rfl
@[simp] theorem Dev.driveSafeN_svc (d : Dev) : (d.driveSafeN).svc = d.svc := by unfold Dev.driveSafeN; split <;> rfl
@[simp] theorem Dev.driveSafeN_cpl (d : Dev) : (d.driveSafeN).cpl = d.cpl := by unfold Dev.driveSafeN; split <;> rfl
@[simp] theorem Dev.driveSafeN_rep (d : Dev) : (d.driveSafeN).rep = d.rep := by unfold Dev.driveSafeN; split <;> rfl

/-! `haltEngine` changes csr. -/

@[simp] theorem Dev.haltEngine_hwSet (d : Dev) (e : Nat) : (d.haltEngine e).hwSet = d.hwSet := by unfold Dev.haltEngine; split <;> rfl
@[simp] theorem Dev.haltEngine_mem (d : Dev) (e : Nat) : (d.haltEngine e).mem = d.mem := by unfold Dev.haltEngine; split <;> rfl
@[simp] theorem Dev.haltEngine_poison (d : Dev) (e : Nat) : (d.haltEngine e).poison = d.poison := by unfold Dev.haltEngine; split <;> rfl
@[simp] theorem Dev.haltEngine_soft (d : Dev) (e : Nat) : (d.haltEngine e).soft = d.soft := by unfold Dev.haltEngine; split <;> rfl
@[simp] theorem Dev.haltEngine_quiet (d : Dev) (e : Nat) : (d.haltEngine e).quiet = d.quiet := by unfold Dev.haltEngine; split <;> rfl
@[simp] theorem Dev.haltEngine_nanRep (d : Dev) (e : Nat) : (d.haltEngine e).nanRep = d.nanRep := by unfold Dev.haltEngine; split <;> rfl
@[simp] theorem Dev.haltEngine_out (d : Dev) (e : Nat) : (d.haltEngine e).out = d.out := by unfold Dev.haltEngine; split <;> rfl
@[simp] theorem Dev.haltEngine_freeCtr (d : Dev) (e : Nat) : (d.haltEngine e).freeCtr = d.freeCtr := by unfold Dev.haltEngine; split <;> rfl
@[simp] theorem Dev.haltEngine_clk (d : Dev) (e : Nat) : (d.haltEngine e).clk = d.clk := by unfold Dev.haltEngine; split <;> rfl
@[simp] theorem Dev.haltEngine_rst (d : Dev) (e : Nat) : (d.haltEngine e).rst = d.rst := by unfold Dev.haltEngine; split <;> rfl
@[simp] theorem Dev.haltEngine_load (d : Dev) (e : Nat) : (d.haltEngine e).load = d.load := by unfold Dev.haltEngine; split <;> rfl
@[simp] theorem Dev.haltEngine_keep (d : Dev) (e : Nat) : (d.haltEngine e).keep = d.keep := by unfold Dev.haltEngine; split <;> rfl
@[simp] theorem Dev.haltEngine_ember (d : Dev) (e : Nat) : (d.haltEngine e).ember = d.ember := by unfold Dev.haltEngine; split <;> rfl
@[simp] theorem Dev.haltEngine_safe (d : Dev) (e : Nat) : (d.haltEngine e).safe = d.safe := by unfold Dev.haltEngine; split <;> rfl
@[simp] theorem Dev.haltEngine_sgd (d : Dev) (e : Nat) : (d.haltEngine e).sgd = d.sgd := by unfold Dev.haltEngine; split <;> rfl
@[simp] theorem Dev.haltEngine_mgt (d : Dev) (e : Nat) : (d.haltEngine e).mgt = d.mgt := by unfold Dev.haltEngine; split <;> rfl
@[simp] theorem Dev.haltEngine_fab (d : Dev) (e : Nat) : (d.haltEngine e).fab = d.fab := by unfold Dev.haltEngine; split <;> rfl
@[simp] theorem Dev.haltEngine_ann (d : Dev) (e : Nat) : (d.haltEngine e).ann = d.ann := by unfold Dev.haltEngine; split <;> rfl
@[simp] theorem Dev.haltEngine_cel (d : Dev) (e : Nat) : (d.haltEngine e).cel = d.cel := by unfold Dev.haltEngine; split <;> rfl
@[simp] theorem Dev.haltEngine_hbm (d : Dev) (e : Nat) : (d.haltEngine e).hbm = d.hbm := by unfold Dev.haltEngine; split <;> rfl
@[simp] theorem Dev.haltEngine_tile (d : Dev) (e : Nat) : (d.haltEngine e).tile = d.tile := by unfold Dev.haltEngine; split <;> rfl
@[simp] theorem Dev.haltEngine_eng (d : Dev) (e : Nat) : (d.haltEngine e).eng = d.eng := by unfold Dev.haltEngine; split <;> rfl
@[simp] theorem Dev.haltEngine_prt (d : Dev) (e : Nat) : (d.haltEngine e).prt = d.prt := by unfold Dev.haltEngine; split <;> rfl
@[simp] theorem Dev.haltEngine_svc (d : Dev) (e : Nat) : (d.haltEngine e).svc = d.svc := by unfold Dev.haltEngine; split <;> rfl
@[simp] theorem Dev.haltEngine_cpl (d : Dev) (e : Nat) : (d.haltEngine e).cpl = d.cpl := by unfold Dev.haltEngine; split <;> rfl
@[simp] theorem Dev.haltEngine_rep (d : Dev) (e : Nat) : (d.haltEngine e).rep = d.rep := by unfold Dev.haltEngine; split <;> rfl

/-! `haltEngines` changes csr. -/

@[simp] theorem Dev.haltEngines_hwSet (d : Dev) : (d.haltEngines).hwSet = d.hwSet := foldl_keeps (fun d : Dev => d.hwSet) (fun d e => Dev.haltEngine_hwSet d e) _ d
@[simp] theorem Dev.haltEngines_mem (d : Dev) : (d.haltEngines).mem = d.mem := foldl_keeps (fun d : Dev => d.mem) (fun d e => Dev.haltEngine_mem d e) _ d
@[simp] theorem Dev.haltEngines_poison (d : Dev) : (d.haltEngines).poison = d.poison := foldl_keeps (fun d : Dev => d.poison) (fun d e => Dev.haltEngine_poison d e) _ d
@[simp] theorem Dev.haltEngines_soft (d : Dev) : (d.haltEngines).soft = d.soft := foldl_keeps (fun d : Dev => d.soft) (fun d e => Dev.haltEngine_soft d e) _ d
@[simp] theorem Dev.haltEngines_quiet (d : Dev) : (d.haltEngines).quiet = d.quiet := foldl_keeps (fun d : Dev => d.quiet) (fun d e => Dev.haltEngine_quiet d e) _ d
@[simp] theorem Dev.haltEngines_nanRep (d : Dev) : (d.haltEngines).nanRep = d.nanRep := foldl_keeps (fun d : Dev => d.nanRep) (fun d e => Dev.haltEngine_nanRep d e) _ d
@[simp] theorem Dev.haltEngines_out (d : Dev) : (d.haltEngines).out = d.out := foldl_keeps (fun d : Dev => d.out) (fun d e => Dev.haltEngine_out d e) _ d
@[simp] theorem Dev.haltEngines_freeCtr (d : Dev) : (d.haltEngines).freeCtr = d.freeCtr := foldl_keeps (fun d : Dev => d.freeCtr) (fun d e => Dev.haltEngine_freeCtr d e) _ d
@[simp] theorem Dev.haltEngines_clk (d : Dev) : (d.haltEngines).clk = d.clk := foldl_keeps (fun d : Dev => d.clk) (fun d e => Dev.haltEngine_clk d e) _ d
@[simp] theorem Dev.haltEngines_rst (d : Dev) : (d.haltEngines).rst = d.rst := foldl_keeps (fun d : Dev => d.rst) (fun d e => Dev.haltEngine_rst d e) _ d
@[simp] theorem Dev.haltEngines_load (d : Dev) : (d.haltEngines).load = d.load := foldl_keeps (fun d : Dev => d.load) (fun d e => Dev.haltEngine_load d e) _ d
@[simp] theorem Dev.haltEngines_keep (d : Dev) : (d.haltEngines).keep = d.keep := foldl_keeps (fun d : Dev => d.keep) (fun d e => Dev.haltEngine_keep d e) _ d
@[simp] theorem Dev.haltEngines_ember (d : Dev) : (d.haltEngines).ember = d.ember := foldl_keeps (fun d : Dev => d.ember) (fun d e => Dev.haltEngine_ember d e) _ d
@[simp] theorem Dev.haltEngines_safe (d : Dev) : (d.haltEngines).safe = d.safe := foldl_keeps (fun d : Dev => d.safe) (fun d e => Dev.haltEngine_safe d e) _ d
@[simp] theorem Dev.haltEngines_sgd (d : Dev) : (d.haltEngines).sgd = d.sgd := foldl_keeps (fun d : Dev => d.sgd) (fun d e => Dev.haltEngine_sgd d e) _ d
@[simp] theorem Dev.haltEngines_mgt (d : Dev) : (d.haltEngines).mgt = d.mgt := foldl_keeps (fun d : Dev => d.mgt) (fun d e => Dev.haltEngine_mgt d e) _ d
@[simp] theorem Dev.haltEngines_fab (d : Dev) : (d.haltEngines).fab = d.fab := foldl_keeps (fun d : Dev => d.fab) (fun d e => Dev.haltEngine_fab d e) _ d
@[simp] theorem Dev.haltEngines_ann (d : Dev) : (d.haltEngines).ann = d.ann := foldl_keeps (fun d : Dev => d.ann) (fun d e => Dev.haltEngine_ann d e) _ d
@[simp] theorem Dev.haltEngines_cel (d : Dev) : (d.haltEngines).cel = d.cel := foldl_keeps (fun d : Dev => d.cel) (fun d e => Dev.haltEngine_cel d e) _ d
@[simp] theorem Dev.haltEngines_hbm (d : Dev) : (d.haltEngines).hbm = d.hbm := foldl_keeps (fun d : Dev => d.hbm) (fun d e => Dev.haltEngine_hbm d e) _ d
@[simp] theorem Dev.haltEngines_tile (d : Dev) : (d.haltEngines).tile = d.tile := foldl_keeps (fun d : Dev => d.tile) (fun d e => Dev.haltEngine_tile d e) _ d
@[simp] theorem Dev.haltEngines_eng (d : Dev) : (d.haltEngines).eng = d.eng := foldl_keeps (fun d : Dev => d.eng) (fun d e => Dev.haltEngine_eng d e) _ d
@[simp] theorem Dev.haltEngines_prt (d : Dev) : (d.haltEngines).prt = d.prt := foldl_keeps (fun d : Dev => d.prt) (fun d e => Dev.haltEngine_prt d e) _ d
@[simp] theorem Dev.haltEngines_svc (d : Dev) : (d.haltEngines).svc = d.svc := foldl_keeps (fun d : Dev => d.svc) (fun d e => Dev.haltEngine_svc d e) _ d
@[simp] theorem Dev.haltEngines_cpl (d : Dev) : (d.haltEngines).cpl = d.cpl := foldl_keeps (fun d : Dev => d.cpl) (fun d e => Dev.haltEngine_cpl d e) _ d
@[simp] theorem Dev.haltEngines_rep (d : Dev) : (d.haltEngines).rep = d.rep := foldl_keeps (fun d : Dev => d.rep) (fun d e => Dev.haltEngine_rep d e) _ d

/-! `firstCause` changes csr, safe. -/

@[simp] theorem Dev.firstCause_hwSet (d : Dev) (ev : Nat) : (d.firstCause ev).hwSet = d.hwSet := by unfold Dev.firstCause; dsimp only; split <;> rfl
@[simp] theorem Dev.firstCause_mem (d : Dev) (ev : Nat) : (d.firstCause ev).mem = d.mem := by unfold Dev.firstCause; dsimp only; split <;> rfl
@[simp] theorem Dev.firstCause_poison (d : Dev) (ev : Nat) : (d.firstCause ev).poison = d.poison := by unfold Dev.firstCause; dsimp only; split <;> rfl
@[simp] theorem Dev.firstCause_soft (d : Dev) (ev : Nat) : (d.firstCause ev).soft = d.soft := by unfold Dev.firstCause; dsimp only; split <;> rfl
@[simp] theorem Dev.firstCause_quiet (d : Dev) (ev : Nat) : (d.firstCause ev).quiet = d.quiet := by unfold Dev.firstCause; dsimp only; split <;> rfl
@[simp] theorem Dev.firstCause_nanRep (d : Dev) (ev : Nat) : (d.firstCause ev).nanRep = d.nanRep := by unfold Dev.firstCause; dsimp only; split <;> rfl
@[simp] theorem Dev.firstCause_out (d : Dev) (ev : Nat) : (d.firstCause ev).out = d.out := by unfold Dev.firstCause; dsimp only; split <;> rfl
@[simp] theorem Dev.firstCause_freeCtr (d : Dev) (ev : Nat) : (d.firstCause ev).freeCtr = d.freeCtr := by unfold Dev.firstCause; dsimp only; split <;> rfl
@[simp] theorem Dev.firstCause_clk (d : Dev) (ev : Nat) : (d.firstCause ev).clk = d.clk := by unfold Dev.firstCause; dsimp only; split <;> rfl
@[simp] theorem Dev.firstCause_rst (d : Dev) (ev : Nat) : (d.firstCause ev).rst = d.rst := by unfold Dev.firstCause; dsimp only; split <;> rfl
@[simp] theorem Dev.firstCause_load (d : Dev) (ev : Nat) : (d.firstCause ev).load = d.load := by unfold Dev.firstCause; dsimp only; split <;> rfl
@[simp] theorem Dev.firstCause_keep (d : Dev) (ev : Nat) : (d.firstCause ev).keep = d.keep := by unfold Dev.firstCause; dsimp only; split <;> rfl
@[simp] theorem Dev.firstCause_ember (d : Dev) (ev : Nat) : (d.firstCause ev).ember = d.ember := by unfold Dev.firstCause; dsimp only; split <;> rfl
@[simp] theorem Dev.firstCause_sgd (d : Dev) (ev : Nat) : (d.firstCause ev).sgd = d.sgd := by unfold Dev.firstCause; dsimp only; split <;> rfl
@[simp] theorem Dev.firstCause_mgt (d : Dev) (ev : Nat) : (d.firstCause ev).mgt = d.mgt := by unfold Dev.firstCause; dsimp only; split <;> rfl
@[simp] theorem Dev.firstCause_fab (d : Dev) (ev : Nat) : (d.firstCause ev).fab = d.fab := by unfold Dev.firstCause; dsimp only; split <;> rfl
@[simp] theorem Dev.firstCause_ann (d : Dev) (ev : Nat) : (d.firstCause ev).ann = d.ann := by unfold Dev.firstCause; dsimp only; split <;> rfl
@[simp] theorem Dev.firstCause_cel (d : Dev) (ev : Nat) : (d.firstCause ev).cel = d.cel := by unfold Dev.firstCause; dsimp only; split <;> rfl
@[simp] theorem Dev.firstCause_hbm (d : Dev) (ev : Nat) : (d.firstCause ev).hbm = d.hbm := by unfold Dev.firstCause; dsimp only; split <;> rfl
@[simp] theorem Dev.firstCause_tile (d : Dev) (ev : Nat) : (d.firstCause ev).tile = d.tile := by unfold Dev.firstCause; dsimp only; split <;> rfl
@[simp] theorem Dev.firstCause_eng (d : Dev) (ev : Nat) : (d.firstCause ev).eng = d.eng := by unfold Dev.firstCause; dsimp only; split <;> rfl
@[simp] theorem Dev.firstCause_prt (d : Dev) (ev : Nat) : (d.firstCause ev).prt = d.prt := by unfold Dev.firstCause; dsimp only; split <;> rfl
@[simp] theorem Dev.firstCause_svc (d : Dev) (ev : Nat) : (d.firstCause ev).svc = d.svc := by unfold Dev.firstCause; dsimp only; split <;> rfl
@[simp] theorem Dev.firstCause_cpl (d : Dev) (ev : Nat) : (d.firstCause ev).cpl = d.cpl := by unfold Dev.firstCause; dsimp only; split <;> rfl
@[simp] theorem Dev.firstCause_rep (d : Dev) (ev : Nat) : (d.firstCause ev).rep = d.rep := by unfold Dev.firstCause; dsimp only; split <;> rfl

/-! `reactS` changes csr, hwSet, safe, out, mgt. -/

@[simp] theorem Dev.reactS_mem (d : Dev) (ev : Nat) : (d.reactS ev).mem = d.mem := by unfold Dev.reactS; simp only [apply_ite Dev.mem, Dev.uart_mem, Dev.msix_mem, Dev.haltEngines_mem, Dev.driveSafeN_mem, Dev.setF_mem, Dev.firstCause_mem, ite_self]
@[simp] theorem Dev.reactS_poison (d : Dev) (ev : Nat) : (d.reactS ev).poison = d.poison := by unfold Dev.reactS; simp only [apply_ite Dev.poison, Dev.uart_poison, Dev.msix_poison, Dev.haltEngines_poison, Dev.driveSafeN_poison, Dev.setF_poison, Dev.firstCause_poison, ite_self]
@[simp] theorem Dev.reactS_soft (d : Dev) (ev : Nat) : (d.reactS ev).soft = d.soft := by unfold Dev.reactS; simp only [apply_ite Dev.soft, Dev.uart_soft, Dev.msix_soft, Dev.haltEngines_soft, Dev.driveSafeN_soft, Dev.setF_soft, Dev.firstCause_soft, ite_self]
@[simp] theorem Dev.reactS_quiet (d : Dev) (ev : Nat) : (d.reactS ev).quiet = d.quiet := by unfold Dev.reactS; simp only [apply_ite Dev.quiet, Dev.uart_quiet, Dev.msix_quiet, Dev.haltEngines_quiet, Dev.driveSafeN_quiet, Dev.setF_quiet, Dev.firstCause_quiet, ite_self]
@[simp] theorem Dev.reactS_nanRep (d : Dev) (ev : Nat) : (d.reactS ev).nanRep = d.nanRep := by unfold Dev.reactS; simp only [apply_ite Dev.nanRep, Dev.uart_nanRep, Dev.msix_nanRep, Dev.haltEngines_nanRep, Dev.driveSafeN_nanRep, Dev.setF_nanRep, Dev.firstCause_nanRep, ite_self]
@[simp] theorem Dev.reactS_freeCtr (d : Dev) (ev : Nat) : (d.reactS ev).freeCtr = d.freeCtr := by unfold Dev.reactS; simp only [apply_ite Dev.freeCtr, Dev.uart_freeCtr, Dev.msix_freeCtr, Dev.haltEngines_freeCtr, Dev.driveSafeN_freeCtr, Dev.setF_freeCtr, Dev.firstCause_freeCtr, ite_self]
@[simp] theorem Dev.reactS_clk (d : Dev) (ev : Nat) : (d.reactS ev).clk = d.clk := by unfold Dev.reactS; simp only [apply_ite Dev.clk, Dev.uart_clk, Dev.msix_clk, Dev.haltEngines_clk, Dev.driveSafeN_clk, Dev.setF_clk, Dev.firstCause_clk, ite_self]
@[simp] theorem Dev.reactS_rst (d : Dev) (ev : Nat) : (d.reactS ev).rst = d.rst := by unfold Dev.reactS; simp only [apply_ite Dev.rst, Dev.uart_rst, Dev.msix_rst, Dev.haltEngines_rst, Dev.driveSafeN_rst, Dev.setF_rst, Dev.firstCause_rst, ite_self]
@[simp] theorem Dev.reactS_load (d : Dev) (ev : Nat) : (d.reactS ev).load = d.load := by unfold Dev.reactS; simp only [apply_ite Dev.load, Dev.uart_load, Dev.msix_load, Dev.haltEngines_load, Dev.driveSafeN_load, Dev.setF_load, Dev.firstCause_load, ite_self]
@[simp] theorem Dev.reactS_keep (d : Dev) (ev : Nat) : (d.reactS ev).keep = d.keep := by unfold Dev.reactS; simp only [apply_ite Dev.keep, Dev.uart_keep, Dev.msix_keep, Dev.haltEngines_keep, Dev.driveSafeN_keep, Dev.setF_keep, Dev.firstCause_keep, ite_self]
@[simp] theorem Dev.reactS_ember (d : Dev) (ev : Nat) : (d.reactS ev).ember = d.ember := by unfold Dev.reactS; simp only [apply_ite Dev.ember, Dev.uart_ember, Dev.msix_ember, Dev.haltEngines_ember, Dev.driveSafeN_ember, Dev.setF_ember, Dev.firstCause_ember, ite_self]
@[simp] theorem Dev.reactS_sgd (d : Dev) (ev : Nat) : (d.reactS ev).sgd = d.sgd := by unfold Dev.reactS; simp only [apply_ite Dev.sgd, Dev.uart_sgd, Dev.msix_sgd, Dev.haltEngines_sgd, Dev.driveSafeN_sgd, Dev.setF_sgd, Dev.firstCause_sgd, ite_self]
@[simp] theorem Dev.reactS_fab (d : Dev) (ev : Nat) : (d.reactS ev).fab = d.fab := by unfold Dev.reactS; simp only [apply_ite Dev.fab, Dev.uart_fab, Dev.msix_fab, Dev.haltEngines_fab, Dev.driveSafeN_fab, Dev.setF_fab, Dev.firstCause_fab, ite_self]
@[simp] theorem Dev.reactS_ann (d : Dev) (ev : Nat) : (d.reactS ev).ann = d.ann := by unfold Dev.reactS; simp only [apply_ite Dev.ann, Dev.uart_ann, Dev.msix_ann, Dev.haltEngines_ann, Dev.driveSafeN_ann, Dev.setF_ann, Dev.firstCause_ann, ite_self]
@[simp] theorem Dev.reactS_cel (d : Dev) (ev : Nat) : (d.reactS ev).cel = d.cel := by unfold Dev.reactS; simp only [apply_ite Dev.cel, Dev.uart_cel, Dev.msix_cel, Dev.haltEngines_cel, Dev.driveSafeN_cel, Dev.setF_cel, Dev.firstCause_cel, ite_self]
@[simp] theorem Dev.reactS_hbm (d : Dev) (ev : Nat) : (d.reactS ev).hbm = d.hbm := by unfold Dev.reactS; simp only [apply_ite Dev.hbm, Dev.uart_hbm, Dev.msix_hbm, Dev.haltEngines_hbm, Dev.driveSafeN_hbm, Dev.setF_hbm, Dev.firstCause_hbm, ite_self]
@[simp] theorem Dev.reactS_tile (d : Dev) (ev : Nat) : (d.reactS ev).tile = d.tile := by unfold Dev.reactS; simp only [apply_ite Dev.tile, Dev.uart_tile, Dev.msix_tile, Dev.haltEngines_tile, Dev.driveSafeN_tile, Dev.setF_tile, Dev.firstCause_tile, ite_self]
@[simp] theorem Dev.reactS_eng (d : Dev) (ev : Nat) : (d.reactS ev).eng = d.eng := by unfold Dev.reactS; simp only [apply_ite Dev.eng, Dev.uart_eng, Dev.msix_eng, Dev.haltEngines_eng, Dev.driveSafeN_eng, Dev.setF_eng, Dev.firstCause_eng, ite_self]
@[simp] theorem Dev.reactS_prt (d : Dev) (ev : Nat) : (d.reactS ev).prt = d.prt := by unfold Dev.reactS; simp only [apply_ite Dev.prt, Dev.uart_prt, Dev.msix_prt, Dev.haltEngines_prt, Dev.driveSafeN_prt, Dev.setF_prt, Dev.firstCause_prt, ite_self]
@[simp] theorem Dev.reactS_svc (d : Dev) (ev : Nat) : (d.reactS ev).svc = d.svc := by unfold Dev.reactS; simp only [apply_ite Dev.svc, Dev.uart_svc, Dev.msix_svc, Dev.haltEngines_svc, Dev.driveSafeN_svc, Dev.setF_svc, Dev.firstCause_svc, ite_self]
@[simp] theorem Dev.reactS_cpl (d : Dev) (ev : Nat) : (d.reactS ev).cpl = d.cpl := by unfold Dev.reactS; simp only [apply_ite Dev.cpl, Dev.uart_cpl, Dev.msix_cpl, Dev.haltEngines_cpl, Dev.driveSafeN_cpl, Dev.setF_cpl, Dev.firstCause_cpl, ite_self]
@[simp] theorem Dev.reactS_rep (d : Dev) (ev : Nat) : (d.reactS ev).rep = d.rep := by unfold Dev.reactS; simp only [apply_ite Dev.rep, Dev.uart_rep, Dev.msix_rep, Dev.haltEngines_rep, Dev.driveSafeN_rep, Dev.setF_rep, Dev.firstCause_rep, ite_self]

/-! `logEv` changes csr, hwSet, ember, safe, out, mgt. -/

@[simp] theorem Dev.logEv_mem (d : Dev) (ev : Nat) (c : Cls) (n : Nat) (l : List DF) (o : Bool) : (d.logEv ev c n l o).mem = d.mem := by unfold Dev.logEv; cases c <;> simp only [Dev.reactS_mem, Dev.repAbort_mem, Dev.post_mem] <;> split <;> rfl
@[simp] theorem Dev.logEv_poison (d : Dev) (ev : Nat) (c : Cls) (n : Nat) (l : List DF) (o : Bool) : (d.logEv ev c n l o).poison = d.poison := by unfold Dev.logEv; cases c <;> simp only [Dev.reactS_poison, Dev.repAbort_poison, Dev.post_poison] <;> split <;> rfl
@[simp] theorem Dev.logEv_soft (d : Dev) (ev : Nat) (c : Cls) (n : Nat) (l : List DF) (o : Bool) : (d.logEv ev c n l o).soft = d.soft := by unfold Dev.logEv; cases c <;> simp only [Dev.reactS_soft, Dev.repAbort_soft, Dev.post_soft] <;> split <;> rfl
@[simp] theorem Dev.logEv_quiet (d : Dev) (ev : Nat) (c : Cls) (n : Nat) (l : List DF) (o : Bool) : (d.logEv ev c n l o).quiet = d.quiet := by unfold Dev.logEv; cases c <;> simp only [Dev.reactS_quiet, Dev.repAbort_quiet, Dev.post_quiet] <;> split <;> rfl
@[simp] theorem Dev.logEv_nanRep (d : Dev) (ev : Nat) (c : Cls) (n : Nat) (l : List DF) (o : Bool) : (d.logEv ev c n l o).nanRep = d.nanRep := by unfold Dev.logEv; cases c <;> simp only [Dev.reactS_nanRep, Dev.repAbort_nanRep, Dev.post_nanRep] <;> split <;> rfl
@[simp] theorem Dev.logEv_freeCtr (d : Dev) (ev : Nat) (c : Cls) (n : Nat) (l : List DF) (o : Bool) : (d.logEv ev c n l o).freeCtr = d.freeCtr := by unfold Dev.logEv; cases c <;> simp only [Dev.reactS_freeCtr, Dev.repAbort_freeCtr, Dev.post_freeCtr] <;> split <;> rfl
@[simp] theorem Dev.logEv_clk (d : Dev) (ev : Nat) (c : Cls) (n : Nat) (l : List DF) (o : Bool) : (d.logEv ev c n l o).clk = d.clk := by unfold Dev.logEv; cases c <;> simp only [Dev.reactS_clk, Dev.repAbort_clk, Dev.post_clk] <;> split <;> rfl
@[simp] theorem Dev.logEv_rst (d : Dev) (ev : Nat) (c : Cls) (n : Nat) (l : List DF) (o : Bool) : (d.logEv ev c n l o).rst = d.rst := by unfold Dev.logEv; cases c <;> simp only [Dev.reactS_rst, Dev.repAbort_rst, Dev.post_rst] <;> split <;> rfl
@[simp] theorem Dev.logEv_load (d : Dev) (ev : Nat) (c : Cls) (n : Nat) (l : List DF) (o : Bool) : (d.logEv ev c n l o).load = d.load := by unfold Dev.logEv; cases c <;> simp only [Dev.reactS_load, Dev.repAbort_load, Dev.post_load] <;> split <;> rfl
@[simp] theorem Dev.logEv_keep (d : Dev) (ev : Nat) (c : Cls) (n : Nat) (l : List DF) (o : Bool) : (d.logEv ev c n l o).keep = d.keep := by unfold Dev.logEv; cases c <;> simp only [Dev.reactS_keep, Dev.repAbort_keep, Dev.post_keep] <;> split <;> rfl
@[simp] theorem Dev.logEv_sgd (d : Dev) (ev : Nat) (c : Cls) (n : Nat) (l : List DF) (o : Bool) : (d.logEv ev c n l o).sgd = d.sgd := by unfold Dev.logEv; cases c <;> simp only [Dev.reactS_sgd, Dev.repAbort_sgd, Dev.post_sgd] <;> split <;> rfl
@[simp] theorem Dev.logEv_fab (d : Dev) (ev : Nat) (c : Cls) (n : Nat) (l : List DF) (o : Bool) : (d.logEv ev c n l o).fab = d.fab := by unfold Dev.logEv; cases c <;> simp only [Dev.reactS_fab, Dev.repAbort_fab, Dev.post_fab] <;> split <;> rfl
@[simp] theorem Dev.logEv_ann (d : Dev) (ev : Nat) (c : Cls) (n : Nat) (l : List DF) (o : Bool) : (d.logEv ev c n l o).ann = d.ann := by unfold Dev.logEv; cases c <;> simp only [Dev.reactS_ann, Dev.repAbort_ann, Dev.post_ann] <;> split <;> rfl
@[simp] theorem Dev.logEv_cel (d : Dev) (ev : Nat) (c : Cls) (n : Nat) (l : List DF) (o : Bool) : (d.logEv ev c n l o).cel = d.cel := by unfold Dev.logEv; cases c <;> simp only [Dev.reactS_cel, Dev.repAbort_cel, Dev.post_cel] <;> split <;> rfl
@[simp] theorem Dev.logEv_hbm (d : Dev) (ev : Nat) (c : Cls) (n : Nat) (l : List DF) (o : Bool) : (d.logEv ev c n l o).hbm = d.hbm := by unfold Dev.logEv; cases c <;> simp only [Dev.reactS_hbm, Dev.repAbort_hbm, Dev.post_hbm] <;> split <;> rfl
@[simp] theorem Dev.logEv_tile (d : Dev) (ev : Nat) (c : Cls) (n : Nat) (l : List DF) (o : Bool) : (d.logEv ev c n l o).tile = d.tile := by unfold Dev.logEv; cases c <;> simp only [Dev.reactS_tile, Dev.repAbort_tile, Dev.post_tile] <;> split <;> rfl
@[simp] theorem Dev.logEv_eng (d : Dev) (ev : Nat) (c : Cls) (n : Nat) (l : List DF) (o : Bool) : (d.logEv ev c n l o).eng = d.eng := by unfold Dev.logEv; cases c <;> simp only [Dev.reactS_eng, Dev.repAbort_eng, Dev.post_eng] <;> split <;> rfl
@[simp] theorem Dev.logEv_prt (d : Dev) (ev : Nat) (c : Cls) (n : Nat) (l : List DF) (o : Bool) : (d.logEv ev c n l o).prt = d.prt := by unfold Dev.logEv; cases c <;> simp only [Dev.reactS_prt, Dev.repAbort_prt, Dev.post_prt] <;> split <;> rfl
@[simp] theorem Dev.logEv_svc (d : Dev) (ev : Nat) (c : Cls) (n : Nat) (l : List DF) (o : Bool) : (d.logEv ev c n l o).svc = d.svc := by unfold Dev.logEv; cases c <;> simp only [Dev.reactS_svc, Dev.repAbort_svc, Dev.post_svc] <;> split <;> rfl
@[simp] theorem Dev.logEv_cpl (d : Dev) (ev : Nat) (c : Cls) (n : Nat) (l : List DF) (o : Bool) : (d.logEv ev c n l o).cpl = d.cpl := by unfold Dev.logEv; cases c <;> simp only [Dev.reactS_cpl, Dev.repAbort_cpl, Dev.post_cpl] <;> split <;> rfl
@[simp] theorem Dev.logEv_rep (d : Dev) (ev : Nat) (c : Cls) (n : Nat) (l : List DF) (o : Bool) : (d.logEv ev c n l o).rep = d.rep := by unfold Dev.logEv; cases c <;> simp only [Dev.reactS_rep, Dev.repAbort_rep, Dev.post_rep] <;> split <;> rfl

/-! `logF` changes csr, hwSet, ember, safe, out, mgt. -/

@[simp] theorem Dev.logF_mem (d : Dev) (ev n : Nat) (l : List DF) : (d.logF ev n l).mem = d.mem := by simp [Dev.logF]
@[simp] theorem Dev.logF_poison (d : Dev) (ev n : Nat) (l : List DF) : (d.logF ev n l).poison = d.poison := by simp [Dev.logF]
@[simp] theorem Dev.logF_soft (d : Dev) (ev n : Nat) (l : List DF) : (d.logF ev n l).soft = d.soft := by simp [Dev.logF]
@[simp] theorem Dev.logF_quiet (d : Dev) (ev n : Nat) (l : List DF) : (d.logF ev n l).quiet = d.quiet := by simp [Dev.logF]
@[simp] theorem Dev.logF_nanRep (d : Dev) (ev n : Nat) (l : List DF) : (d.logF ev n l).nanRep = d.nanRep := by simp [Dev.logF]
@[simp] theorem Dev.logF_freeCtr (d : Dev) (ev n : Nat) (l : List DF) : (d.logF ev n l).freeCtr = d.freeCtr := by simp [Dev.logF]
@[simp] theorem Dev.logF_clk (d : Dev) (ev n : Nat) (l : List DF) : (d.logF ev n l).clk = d.clk := by simp [Dev.logF]
@[simp] theorem Dev.logF_rst (d : Dev) (ev n : Nat) (l : List DF) : (d.logF ev n l).rst = d.rst := by simp [Dev.logF]
@[simp] theorem Dev.logF_load (d : Dev) (ev n : Nat) (l : List DF) : (d.logF ev n l).load = d.load := by simp [Dev.logF]
@[simp] theorem Dev.logF_keep (d : Dev) (ev n : Nat) (l : List DF) : (d.logF ev n l).keep = d.keep := by simp [Dev.logF]
@[simp] theorem Dev.logF_sgd (d : Dev) (ev n : Nat) (l : List DF) : (d.logF ev n l).sgd = d.sgd := by simp [Dev.logF]
@[simp] theorem Dev.logF_fab (d : Dev) (ev n : Nat) (l : List DF) : (d.logF ev n l).fab = d.fab := by simp [Dev.logF]
@[simp] theorem Dev.logF_ann (d : Dev) (ev n : Nat) (l : List DF) : (d.logF ev n l).ann = d.ann := by simp [Dev.logF]
@[simp] theorem Dev.logF_cel (d : Dev) (ev n : Nat) (l : List DF) : (d.logF ev n l).cel = d.cel := by simp [Dev.logF]
@[simp] theorem Dev.logF_hbm (d : Dev) (ev n : Nat) (l : List DF) : (d.logF ev n l).hbm = d.hbm := by simp [Dev.logF]
@[simp] theorem Dev.logF_tile (d : Dev) (ev n : Nat) (l : List DF) : (d.logF ev n l).tile = d.tile := by simp [Dev.logF]
@[simp] theorem Dev.logF_eng (d : Dev) (ev n : Nat) (l : List DF) : (d.logF ev n l).eng = d.eng := by simp [Dev.logF]
@[simp] theorem Dev.logF_prt (d : Dev) (ev n : Nat) (l : List DF) : (d.logF ev n l).prt = d.prt := by simp [Dev.logF]
@[simp] theorem Dev.logF_svc (d : Dev) (ev n : Nat) (l : List DF) : (d.logF ev n l).svc = d.svc := by simp [Dev.logF]
@[simp] theorem Dev.logF_cpl (d : Dev) (ev n : Nat) (l : List DF) : (d.logF ev n l).cpl = d.cpl := by simp [Dev.logF]
@[simp] theorem Dev.logF_rep (d : Dev) (ev n : Nat) (l : List DF) : (d.logF ev n l).rep = d.rep := by simp [Dev.logF]

/-! `logUE` changes csr, hwSet, ember, safe, out, mgt. -/

@[simp] theorem Dev.logUE_mem (d : Dev) (ev n : Nat) (l : List DF) : (d.logUE ev n l).mem = d.mem := by simp [Dev.logUE]
@[simp] theorem Dev.logUE_poison (d : Dev) (ev n : Nat) (l : List DF) : (d.logUE ev n l).poison = d.poison := by simp [Dev.logUE]
@[simp] theorem Dev.logUE_soft (d : Dev) (ev n : Nat) (l : List DF) : (d.logUE ev n l).soft = d.soft := by simp [Dev.logUE]
@[simp] theorem Dev.logUE_quiet (d : Dev) (ev n : Nat) (l : List DF) : (d.logUE ev n l).quiet = d.quiet := by simp [Dev.logUE]
@[simp] theorem Dev.logUE_nanRep (d : Dev) (ev n : Nat) (l : List DF) : (d.logUE ev n l).nanRep = d.nanRep := by simp [Dev.logUE]
@[simp] theorem Dev.logUE_freeCtr (d : Dev) (ev n : Nat) (l : List DF) : (d.logUE ev n l).freeCtr = d.freeCtr := by simp [Dev.logUE]
@[simp] theorem Dev.logUE_clk (d : Dev) (ev n : Nat) (l : List DF) : (d.logUE ev n l).clk = d.clk := by simp [Dev.logUE]
@[simp] theorem Dev.logUE_rst (d : Dev) (ev n : Nat) (l : List DF) : (d.logUE ev n l).rst = d.rst := by simp [Dev.logUE]
@[simp] theorem Dev.logUE_load (d : Dev) (ev n : Nat) (l : List DF) : (d.logUE ev n l).load = d.load := by simp [Dev.logUE]
@[simp] theorem Dev.logUE_keep (d : Dev) (ev n : Nat) (l : List DF) : (d.logUE ev n l).keep = d.keep := by simp [Dev.logUE]
@[simp] theorem Dev.logUE_sgd (d : Dev) (ev n : Nat) (l : List DF) : (d.logUE ev n l).sgd = d.sgd := by simp [Dev.logUE]
@[simp] theorem Dev.logUE_fab (d : Dev) (ev n : Nat) (l : List DF) : (d.logUE ev n l).fab = d.fab := by simp [Dev.logUE]
@[simp] theorem Dev.logUE_ann (d : Dev) (ev n : Nat) (l : List DF) : (d.logUE ev n l).ann = d.ann := by simp [Dev.logUE]
@[simp] theorem Dev.logUE_cel (d : Dev) (ev n : Nat) (l : List DF) : (d.logUE ev n l).cel = d.cel := by simp [Dev.logUE]
@[simp] theorem Dev.logUE_hbm (d : Dev) (ev n : Nat) (l : List DF) : (d.logUE ev n l).hbm = d.hbm := by simp [Dev.logUE]
@[simp] theorem Dev.logUE_tile (d : Dev) (ev n : Nat) (l : List DF) : (d.logUE ev n l).tile = d.tile := by simp [Dev.logUE]
@[simp] theorem Dev.logUE_eng (d : Dev) (ev n : Nat) (l : List DF) : (d.logUE ev n l).eng = d.eng := by simp [Dev.logUE]
@[simp] theorem Dev.logUE_prt (d : Dev) (ev n : Nat) (l : List DF) : (d.logUE ev n l).prt = d.prt := by simp [Dev.logUE]
@[simp] theorem Dev.logUE_svc (d : Dev) (ev n : Nat) (l : List DF) : (d.logUE ev n l).svc = d.svc := by simp [Dev.logUE]
@[simp] theorem Dev.logUE_cpl (d : Dev) (ev n : Nat) (l : List DF) : (d.logUE ev n l).cpl = d.cpl := by simp [Dev.logUE]
@[simp] theorem Dev.logUE_rep (d : Dev) (ev n : Nat) (l : List DF) : (d.logUE ev n l).rep = d.rep := by simp [Dev.logUE]

/-! `csrAccess` changes csr, hwSet, ember, safe, out, mgt. -/

@[simp] theorem Dev.csrAccess_mem (d : Dev) (off w p c : Nat) : (d.csrAccess off w p c).mem = d.mem := by simp [Dev.csrAccess]
@[simp] theorem Dev.csrAccess_poison (d : Dev) (off w p c : Nat) : (d.csrAccess off w p c).poison = d.poison := by simp [Dev.csrAccess]
@[simp] theorem Dev.csrAccess_soft (d : Dev) (off w p c : Nat) : (d.csrAccess off w p c).soft = d.soft := by simp [Dev.csrAccess]
@[simp] theorem Dev.csrAccess_quiet (d : Dev) (off w p c : Nat) : (d.csrAccess off w p c).quiet = d.quiet := by simp [Dev.csrAccess]
@[simp] theorem Dev.csrAccess_nanRep (d : Dev) (off w p c : Nat) : (d.csrAccess off w p c).nanRep = d.nanRep := by simp [Dev.csrAccess]
@[simp] theorem Dev.csrAccess_freeCtr (d : Dev) (off w p c : Nat) : (d.csrAccess off w p c).freeCtr = d.freeCtr := by simp [Dev.csrAccess]
@[simp] theorem Dev.csrAccess_clk (d : Dev) (off w p c : Nat) : (d.csrAccess off w p c).clk = d.clk := by simp [Dev.csrAccess]
@[simp] theorem Dev.csrAccess_rst (d : Dev) (off w p c : Nat) : (d.csrAccess off w p c).rst = d.rst := by simp [Dev.csrAccess]
@[simp] theorem Dev.csrAccess_load (d : Dev) (off w p c : Nat) : (d.csrAccess off w p c).load = d.load := by simp [Dev.csrAccess]
@[simp] theorem Dev.csrAccess_keep (d : Dev) (off w p c : Nat) : (d.csrAccess off w p c).keep = d.keep := by simp [Dev.csrAccess]
@[simp] theorem Dev.csrAccess_sgd (d : Dev) (off w p c : Nat) : (d.csrAccess off w p c).sgd = d.sgd := by simp [Dev.csrAccess]
@[simp] theorem Dev.csrAccess_fab (d : Dev) (off w p c : Nat) : (d.csrAccess off w p c).fab = d.fab := by simp [Dev.csrAccess]
@[simp] theorem Dev.csrAccess_ann (d : Dev) (off w p c : Nat) : (d.csrAccess off w p c).ann = d.ann := by simp [Dev.csrAccess]
@[simp] theorem Dev.csrAccess_cel (d : Dev) (off w p c : Nat) : (d.csrAccess off w p c).cel = d.cel := by simp [Dev.csrAccess]
@[simp] theorem Dev.csrAccess_hbm (d : Dev) (off w p c : Nat) : (d.csrAccess off w p c).hbm = d.hbm := by simp [Dev.csrAccess]
@[simp] theorem Dev.csrAccess_tile (d : Dev) (off w p c : Nat) : (d.csrAccess off w p c).tile = d.tile := by simp [Dev.csrAccess]
@[simp] theorem Dev.csrAccess_eng (d : Dev) (off w p c : Nat) : (d.csrAccess off w p c).eng = d.eng := by simp [Dev.csrAccess]
@[simp] theorem Dev.csrAccess_prt (d : Dev) (off w p c : Nat) : (d.csrAccess off w p c).prt = d.prt := by simp [Dev.csrAccess]
@[simp] theorem Dev.csrAccess_svc (d : Dev) (off w p c : Nat) : (d.csrAccess off w p c).svc = d.svc := by simp [Dev.csrAccess]
@[simp] theorem Dev.csrAccess_cpl (d : Dev) (off w p c : Nat) : (d.csrAccess off w p c).cpl = d.cpl := by simp [Dev.csrAccess]
@[simp] theorem Dev.csrAccess_rep (d : Dev) (off w p c : Nat) : (d.csrAccess off w p c).rep = d.rep := by simp [Dev.csrAccess]

/-! Parts within parts. -/

@[simp] theorem Dev.setGate_fab_qc (d : Dev) (n : Nat) (x : Gate) : (d.setGate n x).fab.qc = d.fab.qc := rfl
@[simp] theorem Dev.setQc_fab_gate (d : Dev) (n : Nat) (x : Qc) : (d.setQc n x).fab.gate = d.fab.gate := rfl
@[simp] theorem Dev.setQc_fab_slice (d : Dev) (n : Nat) (x : Qc) : (d.setQc n x).fab.slice = d.fab.slice := rfl
@[simp] theorem Dev.setGate_fab_slice (d : Dev) (n : Nat) (x : Gate) : (d.setGate n x).fab.slice = d.fab.slice := rfl
@[simp] theorem Dev.setQc_fab_exch (d : Dev) (n : Nat) (x : Qc) : (d.setQc n x).fab.exch = d.fab.exch := rfl
@[simp] theorem Dev.setGate_fab_exch (d : Dev) (n : Nat) (x : Gate) : (d.setGate n x).fab.exch = d.fab.exch := rfl
@[simp] theorem Dev.setQc_fab_frozen (d : Dev) (n : Nat) (x : Qc) : (d.setQc n x).fab.frozen = d.fab.frozen := rfl
@[simp] theorem Dev.setGate_fab_frozen (d : Dev) (n : Nat) (x : Gate) : (d.setGate n x).fab.frozen = d.fab.frozen := rfl
@[simp] theorem Dev.setQc_fab_hxStop (d : Dev) (n : Nat) (x : Qc) : (d.setQc n x).fab.hxStop = d.fab.hxStop := rfl
@[simp] theorem Dev.setGate_fab_hxStop (d : Dev) (n : Nat) (x : Gate) : (d.setGate n x).fab.hxStop = d.fab.hxStop := rfl
@[simp] theorem Dev.setQc_fab_hxBase (d : Dev) (n : Nat) (x : Qc) : (d.setQc n x).fab.hxBase = d.fab.hxBase := rfl
@[simp] theorem Dev.setGate_fab_hxBase (d : Dev) (n : Nat) (x : Gate) : (d.setGate n x).fab.hxBase = d.fab.hxBase := rfl
@[simp] theorem Dev.setQc_fab_hxFirst (d : Dev) (n : Nat) (x : Qc) : (d.setQc n x).fab.hxFirst = d.fab.hxFirst := rfl
@[simp] theorem Dev.setGate_fab_hxFirst (d : Dev) (n : Nat) (x : Gate) : (d.setGate n x).fab.hxFirst = d.fab.hxFirst := rfl
@[simp] theorem Dev.setQc_fab_hxWatch (d : Dev) (n : Nat) (x : Qc) : (d.setQc n x).fab.hxWatch = d.fab.hxWatch := rfl
@[simp] theorem Dev.setGate_fab_hxWatch (d : Dev) (n : Nat) (x : Gate) : (d.setGate n x).fab.hxWatch = d.fab.hxWatch := rfl
@[simp] theorem Dev.setQc_fab_le (d : Dev) (n : Nat) (x : Qc) : (d.setQc n x).fab.le = d.fab.le := rfl
@[simp] theorem Dev.setGate_fab_le (d : Dev) (n : Nat) (x : Gate) : (d.setGate n x).fab.le = d.fab.le := rfl
@[simp] theorem Dev.setQc_fab_crossOut (d : Dev) (n : Nat) (x : Qc) : (d.setQc n x).fab.crossOut = d.fab.crossOut := rfl
@[simp] theorem Dev.setGate_fab_crossOut (d : Dev) (n : Nat) (x : Gate) : (d.setGate n x).fab.crossOut = d.fab.crossOut := rfl
@[simp] theorem Dev.setQc_fab_crossIn (d : Dev) (n : Nat) (x : Qc) : (d.setQc n x).fab.crossIn = d.fab.crossIn := rfl
@[simp] theorem Dev.setGate_fab_crossIn (d : Dev) (n : Nat) (x : Gate) : (d.setGate n x).fab.crossIn = d.fab.crossIn := rfl
@[simp] theorem Dev.setQc_fab_clocked (d : Dev) (n : Nat) (x : Qc) : (d.setQc n x).fab.clocked = d.fab.clocked := rfl
@[simp] theorem Dev.setGate_fab_clocked (d : Dev) (n : Nat) (x : Gate) : (d.setGate n x).fab.clocked = d.fab.clocked := rfl
@[simp] theorem Dev.setLink_cpl_xfers (d : Dev) (n : Nat) (x : CLink) : (d.setLink n x).cpl.xfers = d.cpl.xfers := rfl
@[simp] theorem Dev.setLink_cpl_waiting (d : Dev) (n : Nat) (x : CLink) : (d.setLink n x).cpl.waiting = d.cpl.waiting := rfl
@[simp] theorem Dev.setLink_cpl_pullQ (d : Dev) (n : Nat) (x : CLink) : (d.setLink n x).cpl.pullQ = d.cpl.pullQ := rfl
@[simp] theorem Dev.setLink_cpl_pullOn (d : Dev) (n : Nat) (x : CLink) : (d.setLink n x).cpl.pullOn = d.cpl.pullOn := rfl
@[simp] theorem Dev.setLink_cpl_msgs (d : Dev) (n : Nat) (x : CLink) : (d.setLink n x).cpl.msgs = d.cpl.msgs := rfl
@[simp] theorem Dev.setLink_cpl_notice (d : Dev) (n : Nat) (x : CLink) : (d.setLink n x).cpl.notice = d.cpl.notice := rfl
@[simp] theorem Dev.setLink_cpl_applied (d : Dev) (n : Nat) (x : CLink) : (d.setLink n x).cpl.applied = d.cpl.applied := rfl
@[simp] theorem Dev.setLink_cpl_down (d : Dev) (n : Nat) (x : CLink) : (d.setLink n x).cpl.down = d.cpl.down := rfl
@[simp] theorem Dev.setLink_cpl_gen (d : Dev) (n : Nat) (x : CLink) : (d.setLink n x).cpl.gen = d.cpl.gen := rfl
@[simp] theorem Dev.setLink_cpl_arrive (d : Dev) (n : Nat) (x : CLink) : (d.setLink n x).cpl.arrive = d.cpl.arrive := rfl
@[simp] theorem Dev.setLink_cpl_pend (d : Dev) (n : Nat) (x : CLink) : (d.setLink n x).cpl.pend = d.cpl.pend := rfl
@[simp] theorem Dev.setLink_cpl_locks (d : Dev) (n : Nat) (x : CLink) : (d.setLink n x).cpl.locks = d.cpl.locks := rfl
@[simp] theorem Dev.setLink_cpl_seen (d : Dev) (n : Nat) (x : CLink) : (d.setLink n x).cpl.seen = d.cpl.seen := rfl
@[simp] theorem Dev.setLink_cpl_lacking (d : Dev) (n : Nat) (x : CLink) : (d.setLink n x).cpl.lacking = d.cpl.lacking := rfl

/-! What a numbered part reads as after it is written. -/

@[simp] theorem Dev.prtOf_setPrt_self (d : Dev) (n : Nat) (x : Prt) : (d.setPrt n x).prtOf n = x := by simp [Dev.prtOf, Dev.setPrt]
theorem Dev.prtOf_setPrt_ne (d : Dev) {n m : Nat} (x : Prt) (h : m ≠ n) : (d.setPrt n x).prtOf m = d.prtOf m := by
  simp [Dev.prtOf, Dev.setPrt, Sparse.get_set_ne _ _ h]
@[simp] theorem Dev.tileOf_setTile_self (d : Dev) (n : Nat) (x : Tile) : (d.setTile n x).tileOf n = x := by simp [Dev.tileOf, Dev.setTile]
theorem Dev.tileOf_setTile_ne (d : Dev) {n m : Nat} (x : Tile) (h : m ≠ n) : (d.setTile n x).tileOf m = d.tileOf m := by
  simp [Dev.tileOf, Dev.setTile, Sparse.get_set_ne _ _ h]
@[simp] theorem Dev.engOf_setEng_self (d : Dev) (n : Nat) (x : Eng) : (d.setEng n x).engOf n = x := by simp [Dev.engOf, Dev.setEng]
theorem Dev.engOf_setEng_ne (d : Dev) {n m : Nat} (x : Eng) (h : m ≠ n) : (d.setEng n x).engOf m = d.engOf m := by
  simp [Dev.engOf, Dev.setEng, Sparse.get_set_ne _ _ h]
@[simp] theorem Dev.hbmOf_setHbm_self (d : Dev) (n : Nat) (x : Hbm) : (d.setHbm n x).hbmOf n = x := by simp [Dev.hbmOf, Dev.setHbm]
theorem Dev.hbmOf_setHbm_ne (d : Dev) {n m : Nat} (x : Hbm) (h : m ≠ n) : (d.setHbm n x).hbmOf m = d.hbmOf m := by
  simp [Dev.hbmOf, Dev.setHbm, Sparse.get_set_ne _ _ h]
@[simp] theorem Dev.linkOf_setLink_self (d : Dev) (n : Nat) (x : CLink) : (d.setLink n x).linkOf n = x := by simp [Dev.linkOf, Dev.setLink]
theorem Dev.linkOf_setLink_ne (d : Dev) {n m : Nat} (x : CLink) (h : m ≠ n) : (d.setLink n x).linkOf m = d.linkOf m := by
  simp [Dev.linkOf, Dev.setLink, Sparse.get_set_ne _ _ h]
@[simp] theorem Dev.qcOf_setQc_self (d : Dev) (n : Nat) (x : Qc) : (d.setQc n x).qcOf n = x := by simp [Dev.qcOf, Dev.setQc]
theorem Dev.qcOf_setQc_ne (d : Dev) {n m : Nat} (x : Qc) (h : m ≠ n) : (d.setQc n x).qcOf m = d.qcOf m := by
  simp [Dev.qcOf, Dev.setQc, Sparse.get_set_ne _ _ h]
@[simp] theorem Dev.gateOf_setGate_self (d : Dev) (n : Nat) (x : Gate) : (d.setGate n x).gateOf n = x := by simp [Dev.gateOf, Dev.setGate]
theorem Dev.gateOf_setGate_ne (d : Dev) {n m : Nat} (x : Gate) (h : m ≠ n) : (d.setGate n x).gateOf m = d.gateOf m := by
  simp [Dev.gateOf, Dev.setGate, Sparse.get_set_ne _ _ h]

end Sys2Proof.Machine
end

