-- ==== Sys2Proof/Laws/Memory.lean ====
section
/-! SUPPORT. Device memory: its canonical form is kept by every operation on it, a byte reads as it was last written, and putting memory
back into its canonical form changes no byte. -/

namespace Sys2Proof.Machine

/-- The canonical form of any table is canonical. -/
theorem Sparse.wf_norm {α : Type} [DecidableEq α] (dflt : α) (m : List (Nat × α)) : Sparse.wf dflt (Sparse.norm dflt m) = true := by
  induction m with
  | nil => rfl
  | cons e r ih => exact Sparse.wf_set _ _ _ ih

/-- A write of a byte keeps the form. -/
theorem Dev.wf_putByte (d : Dev) (a : Nat) (b : Byte) (h : Memory.wf d.mem = true) : Memory.wf (d.putByte a b).mem = true :=
  Sparse.wf_set _ _ _ h

/-- A write of bytes keeps the form. -/
theorem Dev.wf_putBytes (w : WrBytes) (d : Dev) (a : Nat) (h : Memory.wf d.mem = true) : Memory.wf (d.putBytes a w).mem = true := by
  induction w generalizing d a with
  | nil => exact h
  | cons x r ih =>
    cases x with
    | none => exact ih d (a + 1) h
    | some b => exact ih _ (a + 1) (d.wf_putByte a b h)

/-- Marking words does not touch their bytes. -/
@[simp] theorem Dev.markBad_mem (d : Dev) (a n : Nat) (on : Bool) : (d.markBad a n on).mem = d.mem := by
  unfold Dev.markBad
  induction upTo n generalizing d with
  | nil => rfl
  | cons i r ih => exact (ih _).trans rfl

/-- The bytes a write leaves are those it puts. -/
theorem Dev.rawWrite_mem (d : Dev) (a : Nat) (w : WrBytes) : (d.rawWrite a w).mem = (d.putBytes a w).mem := by
  unfold Dev.rawWrite
  exact foldl_keeps (fun d : Dev => d.mem) (fun d i => by dsimp only; split <;> simp) _ _

/-- A write to the backing store keeps the form. -/
theorem Dev.wf_rawWrite (d : Dev) (a : Nat) (w : WrBytes) (h : Memory.wf d.mem = true) : Memory.wf (d.rawWrite a w).mem = true := by
  rw [Dev.rawWrite_mem]; exact Dev.wf_putBytes w d a h

/-- Zeroing a range keeps the form. -/
theorem Dev.wf_zeroRange (d : Dev) (a n : Nat) (h : Memory.wf d.mem = true) : Memory.wf (d.zeroRange a n).mem = true :=
  d.wf_rawWrite a _ h

/-- Dropping cells keeps the form. -/
theorem Dev.wf_zeroCells (d : Dev) (a n : Nat) (h : Memory.wf d.mem = true) : Memory.wf (d.zeroCells a n).mem = true :=
  Sparse.wf_filter _ _ h

/-- Zeroing a controller keeps the form. -/
theorem Dev.wf_hbmZero (d : Dev) (n : Nat) (h : Memory.wf d.mem = true) : Memory.wf (d.hbmZero n).mem = true :=
  Sparse.wf_filter _ _ h

/-- After every command memory stands in its canonical form. -/
theorem Dev.wf_tidy (d : Dev) : Memory.wf d.tidy.mem = true := by
  unfold Dev.tidy
  split
  · next h => exact h
  · exact Sparse.wf_norm _ _

/-- Memory that stands in its canonical form is left alone. -/
theorem Dev.tidy_id {d : Dev} (h : Memory.wf d.mem = true) : d.tidy = d := by simp [Dev.tidy, h]

/-- No byte changes. -/
@[simp] theorem Dev.byte_tidy (d : Dev) (a : Nat) : d.tidy.byte a = d.byte a := by
  unfold Dev.tidy
  split
  · rfl
  · exact Sparse.get_norm _ _

/-- A byte reads as it was last written. -/
@[simp] theorem Dev.byte_putByte_self (d : Dev) (a : Nat) (b : Byte) : (d.putByte a b).byte a = b := by
  show Sparse.get 0 (Sparse.set 0 d.mem (d.phys a) b) (d.phys a) = b
  simp

/-- A write leaves every byte of another place. -/
theorem Dev.byte_putByte_ne (d : Dev) {a k : Nat} (b : Byte) (h : d.phys k ≠ d.phys a) : (d.putByte a b).byte k = d.byte k := by
  show Sparse.get 0 (Sparse.set 0 d.mem (d.phys a) b) (d.phys k) = _
  rw [Sparse.get_set_ne _ _ h]; rfl

/-- Memory right after reset lists nothing. -/
theorem reset_inv : Inv State.reset := rfl

/-- Every effect leaves memory in its canonical form. -/
theorem run_inv (s t : State) (f : Dev → Dev) (h : run s f = .next t) : Inv t := by
  cases h; exact Dev.wf_tidy _

end Sys2Proof.Machine
end

