-- ==== Sys2Proof/Laws/Registers.lean ====
section
/-! SUPPORT. Register fields: what a field reads after a field is written, and what the other updates leave of every field. -/

namespace Sys2Proof.Machine
open Sys2Proof.Machine.Reg

/-- A field reads from the register file alone. -/
theorem Dev.fld_congr {d e : Dev} (h : e.csr = d.csr) (f : Fld) (i j : Nat) : e.fld f i j = d.fld f i j := by simp [Dev.fld, h]

/-- The value just written, cut to the field's width. -/
@[simp] theorem Dev.fld_setF_self (d : Dev) (f : Fld) (v i j : Nat) : (d.setF f v i j).fld f i j = v % 2 ^ f.w := by
  simp [Dev.fld, Dev.setF]

/-- A write of one field leaves every field of another place. -/
theorem Dev.fld_setF_ne (d : Dev) {f g : Fld} (v : Nat) {i j k l : Nat} (h : g.key k l ≠ f.key i j) :
    (d.setF f v i j).fld g k l = d.fld g k l := by
  simp [Dev.fld, Dev.setF, Sparse.get_set_ne _ _ h]

/-- Two instances of one field. -/
theorem Dev.fld_setF (d : Dev) (f g : Fld) (v i j k l : Nat) (hr : g.rst = f.rst) (hk : g.key k l = f.key i j) :
    (d.setF f v i j).fld g k l = v % 2 ^ f.w := by
  simp [Dev.fld, Dev.setF, hr, hk]

/-- Writing a bit writes its field. -/
theorem Dev.fld_setBit_ne (d : Dev) {f g : Fld} (b : Nat) (on : Bool) {i j k l : Nat} (h : g.key k l ≠ f.key i j) :
    (d.setBit f b on i j).fld g k l = d.fld g k l := Dev.fld_setF_ne d _ h

/-- A bit that hardware sets reads as one that is written. -/
@[simp] theorem Dev.fld_raise (d : Dev) (f : Fld) (b i j : Nat) (g : Fld) (k l : Nat) :
    (d.raise f b i j).fld g k l = (d.setBit f b true i j).fld g k l := rfl

/-- Counting writes its field. -/
theorem Dev.fld_inc_ne (d : Dev) {f g : Fld} (n : Nat) {i j k l : Nat} (h : g.key k l ≠ f.key i j) :
    (d.inc f n i j).fld g k l = d.fld g k l := Dev.fld_setF_ne d _ h

@[simp] theorem Dev.fld_emit (d : Dev) (o : Out) (f : Fld) (i j : Nat) : (d.emit o).fld f i j = d.fld f i j := rfl
@[simp] theorem Dev.fld_setPrt (d : Dev) (n : Nat) (x : Prt) (f : Fld) (i j : Nat) : (d.setPrt n x).fld f i j = d.fld f i j := rfl
@[simp] theorem Dev.fld_setTile (d : Dev) (n : Nat) (x : Tile) (f : Fld) (i j : Nat) : (d.setTile n x).fld f i j = d.fld f i j := rfl
@[simp] theorem Dev.fld_setEng (d : Dev) (n : Nat) (x : Eng) (f : Fld) (i j : Nat) : (d.setEng n x).fld f i j = d.fld f i j := rfl
@[simp] theorem Dev.fld_setHbm (d : Dev) (n : Nat) (x : Hbm) (f : Fld) (i j : Nat) : (d.setHbm n x).fld f i j = d.fld f i j := rfl
@[simp] theorem Dev.fld_setLink (d : Dev) (n : Nat) (x : CLink) (f : Fld) (i j : Nat) : (d.setLink n x).fld f i j = d.fld f i j := rfl
@[simp] theorem Dev.fld_setQc (d : Dev) (n : Nat) (x : Qc) (f : Fld) (i j : Nat) : (d.setQc n x).fld f i j = d.fld f i j := rfl
@[simp] theorem Dev.fld_setGate (d : Dev) (n : Nat) (x : Gate) (f : Fld) (i j : Nat) : (d.setGate n x).fld f i j = d.fld f i j := rfl

/-- A one-bit field after it is written. -/
theorem Dev.flag_setF_self (d : Dev) (f : Fld) (v i j : Nat) : (d.setF f v i j).flag f i j = (v % 2 ^ f.w != 0) := by
  simp [Dev.flag]

/-- A one-bit field of another place. -/
theorem Dev.flag_setF_ne (d : Dev) {f g : Fld} (v : Nat) {i j k l : Nat} (h : g.key k l ≠ f.key i j) :
    (d.setF f v i j).flag g k l = d.flag g k l := by
  simp [Dev.flag, Dev.fld_setF_ne d v h]

/-- The core runs by its ROOT lock and what holds it, and by nothing else. -/
theorem Dev.live_congr {d e : Dev} (hc : e.flag CLK_ROOT_LOCK = d.flag CLK_ROOT_LOCK) (hr : e.rst = d.rst) : e.live = d.live := by
  simp [Dev.live, hc, hr]

/-- A write of another field leaves the core running, or held. -/
theorem Dev.live_setF (d : Dev) {f : Fld} (v : Nat) {i j : Nat} (h : CLK_ROOT_LOCK.key 0 0 ≠ f.key i j) : (d.setF f v i j).live = d.live :=
  Dev.live_congr (Dev.flag_setF_ne d v h) rfl

end Sys2Proof.Machine
end

