-- ==== Sys2Proof/Laws/Run.lean ====
section
/-! SUPPORT. From a command's effect to its outcome: where it sends no answer and ends no replay run, nothing follows from it. -/

namespace Sys2Proof.Machine
open Sys2Proof.Machine.Reg

/-- What leaves the device is no answer to a request. -/
def Out.plain (o : Out) : Bool :=
  match o with
  | .resp .. => false
  | _ => true

/-- Nothing but answers is delivered. -/
theorem Dev.deliver_plain (n k : Nat) (d : Dev) (h : d.out.all Out.plain = true) : d.deliver n k = d := by
  induction n generalizing k with
  | zero => rfl
  | succ n ih =>
    unfold Dev.deliver
    cases hk : d.out[k]? with
    | none => rfl
    | some o =>
      have hm : o.plain = true := List.all_eq_true.mp h o (List.mem_of_getElem? hk)
      cases o <;> first | exact ih (k + 1) | cases hm

/-- A run that still runs, or none, retrains nothing. -/
theorem Dev.abortRetrain_id {d : Dev} {was : Bool} (h : was = true → d.fld REP_STATE ≠ 5) : d.abortRetrain was = d := by
  unfold Dev.abortRetrain
  cases was with
  | false => rfl
  | true => simp [h rfl]

/-- Nothing that waits has been made way for. -/
theorem Dev.follow_id {d old : Dev} (hx : d.cpl = old.cpl) (hh : d.safe.handover = old.safe.handover) (hc : d.cel = old.cel) :
    d.follow old = d := by
  unfold Dev.follow
  simp only [hx, if_true, hh]
  cases old.safe.handover <;> simp [hc]

/-- A command whose effect sends no answer, makes way for nothing that waits, aborts no run and leaves memory canonical ends with that
effect. -/
theorem runAll_eq {s : State} {f : Dev → Dev} {d : Dev} (hf : f s.fresh = d) (hw : d.follow s.fresh = d) (ho : d.out.all Out.plain = true)
    (hr : s.dev.running = true → d.fld REP_STATE ≠ 5) (hm : Memory.wf d.mem = true) :
    runAll s f = .next { s with dev := d } := by
  have h1 : (fun e : Dev => (((f e).follow e).deliver 65536 0).abortRetrain e.running) s.fresh = d := by
    show (((f s.fresh).follow s.fresh).deliver 65536 0).abortRetrain s.fresh.running = d
    rw [hf, hw, Dev.deliver_plain _ _ _ ho]
    exact Dev.abortRetrain_id hr
  show Host.Outcome.next { s with dev := Dev.tidy _ } = _
  exact congrArg (fun e => Host.Outcome.next { s with dev := e }) ((congrArg Dev.tidy h1).trans (Dev.tidy_id hm))

/-- The same where the effect leaves the coupling links, the Cellar, a handover and the state of a replay run alone. -/
theorem runAll_keep {s : State} {f : Dev → Dev} {d : Dev} (hf : f s.fresh = d) (hx : d.cpl = s.dev.cpl)
    (hh : d.safe.handover = s.dev.safe.handover) (hc : d.cel = s.dev.cel) (ho : d.out.all Out.plain = true)
    (hr : d.fld REP_STATE = s.dev.fld REP_STATE) (hm : Memory.wf d.mem = true) :
    runAll s f = .next { s with dev := d } := by
  refine runAll_eq hf (Dev.follow_id hx hh hc) ho (fun h => ?_) hm
  simp only [Dev.running, beq_iff_eq] at h
  omega

/-- A command's outcome is its effect and what follows from it. -/
theorem runAll_gives {s : State} {f : Dev → Dev} {d : Dev} (hf : f s.fresh = d) : runAll s f = .next { s with dev := settle s d } := by
  show Host.Outcome.next { s with dev := settle s (f s.fresh) } = _
  rw [hf]

/-- Every command's outcome is a next state with the same queue, its memory canonical. -/
theorem runAll_next (s : State) (f : Dev → Dev) : ∃ d, runAll s f = .next { s with dev := d } ∧ Memory.wf d.mem = true :=
  ⟨_, rfl, Dev.wf_tidy _⟩

/-- What `Inv` says. -/
theorem Inv.mem {s : State} (h : Inv s) : Memory.wf s.dev.mem = true := h

@[simp] theorem State.fresh_out (s : State) : s.fresh.out = [] := rfl
@[simp] theorem State.fresh_mem (s : State) : s.fresh.mem = s.dev.mem := rfl
@[simp] theorem State.fresh_csr (s : State) : s.fresh.csr = s.dev.csr := rfl
@[simp] theorem State.fresh_hwSet (s : State) : s.fresh.hwSet = s.dev.hwSet := rfl
@[simp] theorem State.fresh_soft (s : State) : s.fresh.soft = s.dev.soft := rfl
@[simp] theorem State.fresh_poison (s : State) : s.fresh.poison = s.dev.poison := rfl
@[simp] theorem State.fresh_quiet (s : State) : s.fresh.quiet = s.dev.quiet := rfl
@[simp] theorem State.fresh_nanRep (s : State) : s.fresh.nanRep = s.dev.nanRep := rfl
@[simp] theorem State.fresh_freeCtr (s : State) : s.fresh.freeCtr = s.dev.freeCtr := rfl
@[simp] theorem State.fresh_clk (s : State) : s.fresh.clk = s.dev.clk := rfl
@[simp] theorem State.fresh_rst (s : State) : s.fresh.rst = s.dev.rst := rfl
@[simp] theorem State.fresh_load (s : State) : s.fresh.load = s.dev.load := rfl
@[simp] theorem State.fresh_keep (s : State) : s.fresh.keep = s.dev.keep := rfl
@[simp] theorem State.fresh_ember (s : State) : s.fresh.ember = s.dev.ember := rfl
@[simp] theorem State.fresh_safe (s : State) : s.fresh.safe = s.dev.safe := rfl
@[simp] theorem State.fresh_sgd (s : State) : s.fresh.sgd = s.dev.sgd := rfl
@[simp] theorem State.fresh_mgt (s : State) : s.fresh.mgt = s.dev.mgt := rfl
@[simp] theorem State.fresh_fab (s : State) : s.fresh.fab = s.dev.fab := rfl
@[simp] theorem State.fresh_ann (s : State) : s.fresh.ann = s.dev.ann := rfl
@[simp] theorem State.fresh_cel (s : State) : s.fresh.cel = s.dev.cel := rfl
@[simp] theorem State.fresh_hbm (s : State) : s.fresh.hbm = s.dev.hbm := rfl
@[simp] theorem State.fresh_tile (s : State) : s.fresh.tile = s.dev.tile := rfl
@[simp] theorem State.fresh_eng (s : State) : s.fresh.eng = s.dev.eng := rfl
@[simp] theorem State.fresh_prt (s : State) : s.fresh.prt = s.dev.prt := rfl
@[simp] theorem State.fresh_svc (s : State) : s.fresh.svc = s.dev.svc := rfl
@[simp] theorem State.fresh_cpl (s : State) : s.fresh.cpl = s.dev.cpl := rfl
@[simp] theorem State.fresh_rep (s : State) : s.fresh.rep = s.dev.rep := rfl
@[simp] theorem State.fresh_fld (s : State) (f : Fld) (i j : Nat) : s.fresh.fld f i j = s.dev.fld f i j := rfl
@[simp] theorem State.fresh_flag (s : State) (f : Fld) (i j : Nat) : s.fresh.flag f i j = s.dev.flag f i j := rfl
@[simp] theorem State.fresh_live (s : State) : s.fresh.live = s.dev.live := rfl
@[simp] theorem State.fresh_mlive (s : State) : s.fresh.mlive = s.dev.mlive := rfl
@[simp] theorem State.fresh_safLive (s : State) : s.fresh.safLive = s.dev.safLive := rfl
@[simp] theorem State.fresh_released (s : State) : s.fresh.released = s.dev.released := rfl
@[simp] theorem State.fresh_aReleased (s : State) : s.fresh.aReleased = s.dev.aReleased := rfl
@[simp] theorem State.fresh_cfgState (s : State) : s.fresh.cfgState = s.dev.cfgState := rfl
@[simp] theorem State.fresh_now (s : State) : s.fresh.now = s.dev.now := rfl
@[simp] theorem State.fresh_fbit (s : State) (f : Fld) (b i j : Nat) : s.fresh.fbit f b i j = s.dev.fbit f b i j := rfl
@[simp] theorem State.fresh_tileOf (s : State) (n : Nat) : s.fresh.tileOf n = s.dev.tileOf n := rfl
@[simp] theorem State.fresh_engOf (s : State) (n : Nat) : s.fresh.engOf n = s.dev.engOf n := rfl
@[simp] theorem State.fresh_prtOf (s : State) (n : Nat) : s.fresh.prtOf n = s.dev.prtOf n := rfl
@[simp] theorem State.fresh_hbmOf (s : State) (n : Nat) : s.fresh.hbmOf n = s.dev.hbmOf n := rfl
@[simp] theorem State.fresh_linkOf (s : State) (n : Nat) : s.fresh.linkOf n = s.dev.linkOf n := rfl
@[simp] theorem State.fresh_qcOf (s : State) (n : Nat) : s.fresh.qcOf n = s.dev.qcOf n := rfl
@[simp] theorem State.fresh_gateOf (s : State) (n : Nat) : s.fresh.gateOf n = s.dev.gateOf n := rfl
@[simp] theorem State.fresh_keepWord (s : State) (n : Nat) : s.fresh.keepWord n = s.dev.keepWord n := rfl
@[simp] theorem State.fresh_running (s : State) : s.fresh.running = s.dev.running := rfl

end Sys2Proof.Machine
end

