-- ==== Sys2Proof/Laws/Csr.lean ====
section
/-! SUPPORT. Register writes: a 64-bit write that reaches its register does there what the register's own rule says, and is answered. -/

namespace Sys2Proof.Machine
open Sys2Proof.Machine.Reg

/-- All 64 bits written: the merged value is the value written. -/
theorem merge_full (v : BitVec 64) (k : Nat) :
    Nat.lor (Nat.land (v.toNat % 2 ^ 64 * 2 ^ 0) ((2 ^ 64 - 1) * 2 ^ 0)) (Nat.land k (Nat.xor ((2 ^ 64 - 1) * 2 ^ 0) (2 ^ 64 - 1))) = v.toNat := by
  have h : v.toNat < 2 ^ 64 := v.isLt
  have h1 : Nat.land (v.toNat % 2 ^ 64 * 2 ^ 0) ((2 ^ 64 - 1) * 2 ^ 0) = v.toNat := by
    show (v.toNat % 2 ^ 64 * 2 ^ 0) &&& ((2 ^ 64 - 1) * 2 ^ 0) = v.toNat
    simp only [Nat.pow_zero, Nat.mul_one]
    rw [Nat.and_two_pow_sub_one_eq_mod]
    omega
  have h2 : Nat.land k (Nat.xor ((2 ^ 64 - 1) * 2 ^ 0) (2 ^ 64 - 1)) = 0 := by
    have : Nat.xor ((2 ^ 64 - 1) * 2 ^ 0) (2 ^ 64 - 1) = 0 := by decide
    rw [this]; exact Nat.and_zero k
  rw [h1, h2]; exact Nat.or_zero _

/-- A 64-bit write that reaches a register outside the Keep bank. -/
theorem Dev.csrWrite_reaches {d : Dev} {p : Path} {off : Nat} (v : Word64) (h : Reaches d p off) (ha : off % 8 = 0)
    (hk : off < 0x400000 ∨ 0x408000 ≤ off) :
    d.csrWrite p off 8 v.toNat = ((d.regWrite off 8 (pathCode p) (v.toNat % 2 ^ 64 * 2 ^ 0) ((2 ^ 64 - 1) * 2 ^ 0)).2).emit .wrDone := by
  obtain ⟨hp, ho, ht, hj, hr, hb, hl, hs⟩ := h
  have hbase : off / 8 * 8 = off := by omega
  have hkeep : ¬ (0x400000 ≤ off ∧ off < 0x408000) := by omega
  have c1 : (d.rst.tripped && (decide (0x1000000 ≤ off) && !(decide (0x7000000 ≤ off) && decide (off < 0x7400000)))) = false := by
    cases htr : d.rst.tripped with
    | false => rfl
    | true =>
      rcases ht htr with h | h
      · have : ¬ 0x1000000 ≤ off := by omega
        simp [this]
      · simp [h.1, h.2]
  have c2 : (p == .jtag && !d.flag MGT_CSR_EN) = false := by
    by_cases hpj : p = .jtag
    · simp [hj hpj]
    · simp [hpj]
  have c3 : (d.running && outsidePath p && !runAllows off (some v.toNat : Option Nat).isSome) = false := by
    cases h1 : d.running with
    | false => rfl
    | true =>
      cases h2 : outsidePath p with
      | false => rfl
      | true => simp [hr h1 h2]
  have c4 : (d.flag SAF_LOCK && frozenBySafLock off) = false := by
    cases h1 : d.flag SAF_LOCK with
    | false => rfl
    | true => simp [hl h1]
  unfold Dev.csrWrite
  rw [if_neg hp]
  have hput : d.csrPut p off 8 v.toNat none =
      (if (d.regWrite off 8 (pathCode p) (v.toNat % 2 ^ 64 * 2 ^ 0) ((2 ^ 64 - 1) * 2 ^ 0)).1 then CsrEnd.target else CsrEnd.done,
       (d.regWrite off 8 (pathCode p) (v.toNat % 2 ^ 64 * 2 ^ 0) ((2 ^ 64 - 1) * 2 ^ 0)).2) := by
    unfold Dev.csrPut
    simp only [hbase, hkeep, if_false, c4, if_true]
    rfl
  have hgo : d.csrGo p off 8 (some v.toNat) =
      ((d.csrPut p off 8 v.toNat none).1, 0, (d.csrPut p off 8 v.toNat none).2) := by
    unfold Dev.csrGo
    simp only [Option.isSome_some] at c3
    simp only [ho, c1, c2, c3, hb, ha, Option.isSome_some, hs]
    rfl
  rw [hgo, hput]
  unfold Dev.csrReply
  dsimp only
  cases (d.regWrite off 8 (pathCode p) (v.toNat % 2 ^ 64 * 2 ^ 0) ((2 ^ 64 - 1) * 2 ^ 0)).1 <;> rfl

/-! A 64-bit write that reaches a register is what that register does with it, and is answered. -/

/-- GLB, CFG, SAF, EMB, SGD, MGT and PRB registers. -/
theorem Dev.csrWrite_glb {d : Dev} {p : Path} {off : Nat} (v : Word64) (h : Reaches d p off) (ha : off % 8 = 0) (h1 : off < 0x1000000) (hk : off < 0x400000 ∨ 0x408000 ≤ off) :
    d.csrWrite p off 8 v.toNat = ((d.hookGlb off 8 (pathCode p) v.toNat (2 ^ 64 - 1)).getD (d.writeReg off v.toNat (2 ^ 64 - 1))).emit .wrDone := by
  have e1 : (v.toNat % 2 ^ 64 * 2 ^ 0) = v.toNat := by have := v.isLt; omega
  have e2 : ((2 ^ 64 - 1) * 2 ^ 0 : Nat) = 2 ^ 64 - 1 := rfl
  rw [Dev.csrWrite_reaches v h ha (by omega)]
  unfold Dev.regWrite
  rw [merge_full, e1, e2]
  simp only [h1, if_true]
  cases d.hookGlb off 8 (pathCode p) v.toNat (2 ^ 64 - 1) <;> rfl

/-- TIL registers. -/
theorem Dev.csrWrite_tile {d : Dev} {p : Path} {off : Nat} (v : Word64) (h : Reaches d p off) (ha : off % 8 = 0) (h1 : ¬ off < 0x1000000) (h2 : off < 0x1410000) :
    d.csrWrite p off 8 v.toNat = ((d.hookTile ((off - 0x1000000) / 0x10000) off 8 (pathCode p) v.toNat (2 ^ 64 - 1)).getD (d.writeReg off v.toNat (2 ^ 64 - 1))).emit .wrDone := by
  have e1 : (v.toNat % 2 ^ 64 * 2 ^ 0) = v.toNat := by have := v.isLt; omega
  have e2 : ((2 ^ 64 - 1) * 2 ^ 0 : Nat) = 2 ^ 64 - 1 := rfl
  rw [Dev.csrWrite_reaches v h ha (by omega)]
  unfold Dev.regWrite
  rw [merge_full, e1, e2]
  simp only [h1, h2, if_true, if_false]
  cases d.hookTile ((off - 0x1000000) / 0x10000) off 8 (pathCode p) v.toNat (2 ^ 64 - 1) <;> rfl

/-- CE registers. -/
theorem Dev.csrWrite_ce {d : Dev} {p : Path} {off : Nat} (v : Word64) (h : Reaches d p off) (ha : off % 8 = 0) (h1 : ¬ off < 0x1000000) (h2 : ¬ off < 0x1410000) (h3 : 0x2000000 ≤ off) (h4 : off < 0x2100000) :
    d.csrWrite p off 8 v.toNat = ((d.hookCe ((off - 0x2000000) / 0x10000) off 8 (pathCode p) v.toNat).getD (d.writeReg off v.toNat (2 ^ 64 - 1))).emit .wrDone := by
  have e1 : (v.toNat % 2 ^ 64 * 2 ^ 0) = v.toNat := by have := v.isLt; omega
  have e2 : ((2 ^ 64 - 1) * 2 ^ 0 : Nat) = 2 ^ 64 - 1 := rfl
  rw [Dev.csrWrite_reaches v h ha (by omega)]
  unfold Dev.regWrite
  rw [merge_full, e1, e2]
  simp only [h1, h2, h3, h4, and_self, if_true, if_false]
  cases d.hookCe ((off - 0x2000000) / 0x10000) off 8 (pathCode p) v.toNat <;> rfl

/-- ANN, CEL and HBM registers. -/
theorem Dev.csrWrite_ring {d : Dev} {p : Path} {off : Nat} (v : Word64) (h : Reaches d p off) (ha : off % 8 = 0) (h1 : ¬ off < 0x1000000) (h2 : ¬ off < 0x1410000) (h3 : ¬ (0x2000000 ≤ off ∧ off < 0x2100000)) (h4 : 0x3000000 ≤ off) (h5 : off < 0x7000000) :
    d.csrWrite p off 8 v.toNat = ((d.hookRing off 8 (pathCode p) v.toNat (2 ^ 64 - 1)).getD (d.writeReg off v.toNat (2 ^ 64 - 1))).emit .wrDone := by
  have e1 : (v.toNat % 2 ^ 64 * 2 ^ 0) = v.toNat := by have := v.isLt; omega
  have e2 : ((2 ^ 64 - 1) * 2 ^ 0 : Nat) = 2 ^ 64 - 1 := rfl
  rw [Dev.csrWrite_reaches v h ha (by omega)]
  unfold Dev.regWrite
  rw [merge_full, e1, e2]
  simp only [h1, h2, h3, h4, h5, and_self, if_true, if_false]
  cases d.hookRing off 8 (pathCode p) v.toNat (2 ^ 64 - 1) <;> rfl

/-- CPL registers. -/
theorem Dev.csrWrite_cpl {d : Dev} {p : Path} {off : Nat} (v : Word64) (h : Reaches d p off) (ha : off % 8 = 0) (h1 : ¬ off < 0x1000000) (h2 : ¬ off < 0x1410000) (h3 : ¬ (0x2000000 ≤ off ∧ off < 0x2100000)) (h4 : ¬ (0x3000000 ≤ off ∧ off < 0x7000000)) (h5 : ¬ (0x7000000 ≤ off ∧ off < 0x7400000)) (h6 : 0x8000000 ≤ off ∧ off < 0x9000000) :
    d.csrWrite p off 8 v.toNat = ((d.hookCpl off 8 (pathCode p) v.toNat).getD (d.writeReg off v.toNat (2 ^ 64 - 1))).emit .wrDone := by
  have e1 : (v.toNat % 2 ^ 64 * 2 ^ 0) = v.toNat := by have := v.isLt; omega
  have e2 : ((2 ^ 64 - 1) * 2 ^ 0 : Nat) = 2 ^ 64 - 1 := rfl
  rw [Dev.csrWrite_reaches v h ha (by omega)]
  unfold Dev.regWrite
  rw [merge_full, e1, e2]
  simp only [h1, h2, h3, h4, h5, h6, and_self, if_true, if_false]
  cases d.hookCpl off 8 (pathCode p) v.toNat <;> rfl

/-- QC, HX and RG registers. -/
theorem Dev.csrWrite_fab {d : Dev} {p : Path} {off : Nat} (v : Word64) (h : Reaches d p off) (ha : off % 8 = 0) (h1 : ¬ off < 0x1000000) (h2 : ¬ off < 0x1410000) (h3 : ¬ (0x2000000 ≤ off ∧ off < 0x2100000)) (h4 : ¬ (0x3000000 ≤ off ∧ off < 0x7000000)) (h5 : ¬ (0x7000000 ≤ off ∧ off < 0x7400000)) (h6 : ¬ (0x8000000 ≤ off ∧ off < 0x9000000)) (h7 : 0x9000000 ≤ off) :
    d.csrWrite p off 8 v.toNat = ((d.hookFab off v.toNat).getD (d.writeReg off v.toNat (2 ^ 64 - 1))).emit .wrDone := by
  have e1 : (v.toNat % 2 ^ 64 * 2 ^ 0) = v.toNat := by have := v.isLt; omega
  have e2 : ((2 ^ 64 - 1) * 2 ^ 0 : Nat) = 2 ^ 64 - 1 := rfl
  rw [Dev.csrWrite_reaches v h ha (by omega)]
  unfold Dev.regWrite
  rw [merge_full, e1, e2]
  simp only [h1, h2, h3, h4, h5, h6, h7, if_true, if_false]
  cases d.hookFab off v.toNat <;> rfl

/-- A read that reaches its register returns what the register reads. -/
theorem Dev.csrRead_reaches {d : Dev} {p : Path} {off n : Nat} (h : Readable d p off) (hn : (n = 4 ∨ n = 8) ∧ off % n = 0) :
    d.csrRead p off n = (d.csrGet p off n).2.emit (.csrVal (d.csrGet p off n).1) := by
  obtain ⟨hp, ho, ht, hj, hr, hb, hs⟩ := h
  have c1 : (d.rst.tripped && (decide (0x1000000 ≤ off) && !(decide (0x7000000 ≤ off) && decide (off < 0x7400000)))) = false := by
    cases htr : d.rst.tripped with
    | false => rfl
    | true =>
      rcases ht htr with h | h
      · have : ¬ 0x1000000 ≤ off := by omega
        simp [this]
      · simp [h.1, h.2]
  have c2 : (p == .jtag && !d.flag MGT_CSR_EN) = false := by
    by_cases hpj : p = .jtag
    · simp [hj hpj]
    · simp [hpj]
  have c3 : (d.running && outsidePath p && !runAllows off (none : Option Nat).isSome) = false := by
    cases h1 : d.running with
    | false => rfl
    | true =>
      cases h2 : outsidePath p with
      | false => rfl
      | true => simp [hr h1 h2]
  have c4 : (!((n == 4 || n == 8) && off % n == 0)) = false := by
    rcases hn with ⟨h | h, h0⟩ <;> simp [h, h ▸ h0]
  unfold Dev.csrRead
  rw [if_neg hp]
  unfold Dev.csrGo
  simp only [Option.isSome_none] at c3
  simp only [ho, c1, c2, c3, c4, hb, Option.isSome_none, hs]
  rfl

/-! ## Plain fields -/

theorem bits_ones {lo w : Nat} (h : lo + w ≤ 64) : bits (2 ^ 64 - 1) lo w = 2 ^ w - 1 := by
  apply Nat.eq_of_testBit_eq
  intro i
  simp only [bits, Nat.testBit_mod_two_pow, Nat.testBit_div_two_pow, Nat.testBit_two_pow_sub_one]
  by_cases hi : i < w
  · have : lo + i < 64 := by omega
    have : i + lo < 64 := by omega
    simp [*]
  · simp [hi]

/-- A write of all 64 bits sets a read-write field to the bits that lie over it, if the field takes that value (R10). -/
theorem Dev.writeFld_full (d : Dev) (v : Nat) (f : Fld) (i j : Nat) (ha : f.acc = .rw) (hw : f.lo + f.w ≤ 64) (h0 : f.w ≠ 0) :
    d.writeFld v (2 ^ 64 - 1) (f, i, j) =
      if f.minv ≤ bits v f.lo f.w ∧ bits v f.lo f.w ≤ f.maxv then d.setF f (bits v f.lo f.w) (d.inst f i) j else d := by
  have h2 : bits v f.lo f.w < 2 ^ f.w := Nat.mod_lt _ (Nat.two_pow_pos _)
  have hl : ∀ x, x < 2 ^ f.w → Nat.land x (2 ^ f.w - 1) = x := fun x hx => by
    show x &&& (2 ^ f.w - 1) = x
    rw [Nat.and_two_pow_sub_one_eq_mod, Nat.mod_eq_of_lt hx]
  have hx : Nat.xor (2 ^ f.w - 1) (2 ^ f.w - 1) = 0 := Nat.xor_self _
  have hz : ∀ x, Nat.land x 0 = 0 := fun x => Nat.and_zero x
  have ho : ∀ x, Nat.lor x 0 = x := fun x => Nat.or_zero x
  have hne : ¬ (2 ^ f.w - 1 = 0) := by
    have := Nat.one_lt_two_pow h0; omega
  unfold Dev.writeFld
  simp only [bits_ones hw, hx, hz, ho, hl _ h2, hne, if_false, ha]

end Sys2Proof.Machine
end

