-- ==== Sys2Proof/Laws/Events.lean ====
section
/-! SUPPORT. What reporting an event can do: it sends only messages, and it writes only the registers of its class. -/

namespace Sys2Proof.Machine
open Sys2Proof.Machine.Reg

/-- Only messages leave the device so far. -/
def Dev.plainOut (d : Dev) : Bool := d.out.all Out.plain

@[simp] theorem Dev.plainOut_fresh (s : State) : s.fresh.plainOut = true := rfl

theorem Dev.plainOut_congr {d e : Dev} (h : e.out = d.out) : e.plainOut = d.plainOut := by simp [Dev.plainOut, h]

@[simp] theorem Dev.plainOut_setF (d : Dev) (f : Fld) (v i j : Nat) : (d.setF f v i j).plainOut = d.plainOut := rfl
@[simp] theorem Dev.plainOut_setBit (d : Dev) (f : Fld) (b : Nat) (o : Bool) (i j : Nat) : (d.setBit f b o i j).plainOut = d.plainOut := rfl
@[simp] theorem Dev.plainOut_raise (d : Dev) (f : Fld) (b i j : Nat) : (d.raise f b i j).plainOut = d.plainOut := rfl
@[simp] theorem Dev.plainOut_firstCause (d : Dev) (ev : Nat) : (d.firstCause ev).plainOut = d.plainOut := Dev.plainOut_congr (by simp)
@[simp] theorem Dev.plainOut_inc (d : Dev) (f : Fld) (n i j : Nat) : (d.inc f n i j).plainOut = d.plainOut := rfl
@[simp] theorem Dev.plainOut_emit (d : Dev) (o : Out) : (d.emit o).plainOut = (d.plainOut && o.plain) := by
  simp [Dev.plainOut, Dev.emit]
@[simp] theorem Dev.plainOut_uart (d : Dev) (c : Nat) : (d.uart c).plainOut = d.plainOut := Dev.plainOut_congr (by simp)
@[simp] theorem Dev.plainOut_post (d : Dev) (e : EmbEnt) : (d.post e).plainOut = d.plainOut := Dev.plainOut_congr (by simp)
@[simp] theorem Dev.plainOut_repAbort (d : Dev) (r ev n : Nat) : (d.repAbort r ev n).plainOut = d.plainOut := Dev.plainOut_congr (by simp)
@[simp] theorem Dev.plainOut_haltEngines (d : Dev) : d.haltEngines.plainOut = d.plainOut := Dev.plainOut_congr (by simp)

@[simp] theorem Dev.plainOut_msix (d : Dev) (v : Nat) : (d.msix v).plainOut = d.plainOut := by
  unfold Dev.msix; dsimp only; split <;> simp [Out.plain]

@[simp] theorem Dev.plainOut_driveSafeN (d : Dev) : d.driveSafeN.plainOut = d.plainOut := by
  unfold Dev.driveSafeN; split
  · simp [Out.plain]; rfl
  · rfl

@[simp] theorem Dev.plainOut_reactS (d : Dev) (ev : Nat) : (d.reactS ev).plainOut = d.plainOut := by
  unfold Dev.reactS
  simp only [apply_ite Dev.plainOut, Dev.plainOut_uart, Dev.plainOut_msix, Dev.plainOut_haltEngines, Dev.plainOut_driveSafeN,
    Dev.plainOut_setF, Dev.plainOut_firstCause, ite_self]

@[simp] theorem Dev.plainOut_logEv (d : Dev) (ev : Nat) (c : Cls) (n : Nat) (l : List DF) (o : Bool) :
    (d.logEv ev c n l o).plainOut = d.plainOut := by
  unfold Dev.logEv
  cases c <;> simp only [Dev.plainOut_reactS, Dev.plainOut_repAbort, Dev.plainOut_post] <;> split <;> rfl

@[simp] theorem Dev.plainOut_logF (d : Dev) (ev n : Nat) (l : List DF) : (d.logF ev n l).plainOut = d.plainOut := by simp [Dev.logF]
@[simp] theorem Dev.plainOut_logUE (d : Dev) (ev n : Nat) (l : List DF) : (d.logUE ev n l).plainOut = d.plainOut := by simp [Dev.logUE]
@[simp] theorem Dev.plainOut_csrAccess (d : Dev) (off w p c : Nat) : (d.csrAccess off w p c).plainOut = d.plainOut := by
  simp [Dev.csrAccess]

/-! Registers. -/

/-- A queued entry can only count in EMB_LOST. -/
theorem Dev.fld_post (d : Dev) (e : EmbEnt) {f : Fld} {i j : Nat} (h : f.key i j ≠ EMB_LOST.key 0 0) :
    (d.post e).fld f i j = d.fld f i j := by
  unfold Dev.post
  dsimp only
  split
  · rfl
  · split
    · rfl
    · rw [Dev.fld_inc_ne _ _ h]; rfl

/-- With no run active there is none to abort. -/
theorem Dev.repAbort_idle {d : Dev} (h : d.running = false) (r ev n : Nat) : d.repAbort r ev n = d := by
  simp [Dev.repAbort, h]

/-- A message can only set an interrupt bit. -/
theorem Dev.fld_msix (d : Dev) (v : Nat) {f : Fld} {i j : Nat} (h : f.key i j ≠ MGT_INT_STAT.key (v % 256 / 64) 0) :
    (d.msix v).fld f i j = d.fld f i j := by
  unfold Dev.msix
  dsimp only
  split
  · rw [Dev.fld_emit, Dev.fld_raise, Dev.fld_setBit_ne _ _ _ h]
  · rw [Dev.fld_raise, Dev.fld_setBit_ne _ _ _ h]

/-- A status line can only count in MGT_UART_DROP. -/
theorem Dev.fld_uart (d : Dev) (c : Nat) {f : Fld} {i j : Nat} (h : f.key i j ≠ MGT_UART_DROP.key 0 0) :
    (d.uart c).fld f i j = d.fld f i j := by
  unfold Dev.uart
  split
  · rw [Dev.fld_inc_ne _ _ h]
  · rfl

/-- Events of class I, D and F write no register but EMB_LOST. -/
theorem Dev.fld_logEv (d : Dev) (ev : Nat) {c : Cls} (hc : c ≠ .S) (n : Nat) (l : List DF) (o : Bool) {f : Fld} {i j : Nat}
    (h : f.key i j ≠ EMB_LOST.key 0 0) : (d.logEv ev c n l o).fld f i j = d.fld f i j := by
  unfold Dev.logEv
  cases c with
  | S => exact absurd rfl hc
  | _ =>
    dsimp only
    rw [Dev.fld_post _ _ h]
    split <;> rfl

/-- Events of class I, D and F do not drive SAFE_N. -/
theorem Dev.low_logEv (d : Dev) (ev : Nat) {c : Cls} (hc : c ≠ .S) (n : Nat) (l : List DF) (o : Bool) :
    (d.logEv ev c n l o).safe.low = d.safe.low := by
  unfold Dev.logEv
  cases c with
  | S => exact absurd rfl hc
  | _ =>
    dsimp only
    rw [Dev.post_safe]
    split <;> rfl

/-- The state of a replay run is no concern of a message or a status line. -/
@[simp] theorem Dev.repState_msix (d : Dev) (v : Nat) : (d.msix v).fld REP_STATE = d.fld REP_STATE :=
  Dev.fld_msix d v (by simp [Fld.key, Fld.at, REP_STATE, MGT_INT_STAT, fRO, fW1C, Fld.arr]; omega)

@[simp] theorem Dev.repState_uart (d : Dev) (c : Nat) : (d.uart c).fld REP_STATE = d.fld REP_STATE :=
  Dev.fld_uart d c (by decide)

@[simp] theorem Dev.repState_post (d : Dev) (e : EmbEnt) : (d.post e).fld REP_STATE = d.fld REP_STATE :=
  Dev.fld_post d e (by decide)

@[simp] theorem Dev.running_post (d : Dev) (e : EmbEnt) : (d.post e).running = d.running := by simp [Dev.running]

@[simp] theorem Dev.repState_driveSafeN (d : Dev) : d.driveSafeN.fld REP_STATE = d.fld REP_STATE := by
  unfold Dev.driveSafeN; split
  · rw [Dev.fld_emit, Dev.fld_setF_ne _ _ (by decide)]; rfl
  · rfl

@[simp] theorem Dev.repState_haltEngine (d : Dev) (e : Nat) : (d.haltEngine e).fld REP_STATE = d.fld REP_STATE := by
  unfold Dev.haltEngine; split
  · exact Dev.fld_setF_ne _ _ (by simp [Fld.key, Fld.at, REP_STATE, CE_STATE, fRO, Fld.arr]; omega)
  · rfl

@[simp] theorem Dev.repState_haltEngines (d : Dev) : d.haltEngines.fld REP_STATE = d.fld REP_STATE :=
  foldl_keeps (fun d : Dev => d.fld REP_STATE) (fun d e => Dev.repState_haltEngine d e) _ d

@[simp] theorem Dev.repState_reactS (d : Dev) (ev : Nat) : (d.reactS ev).fld REP_STATE = d.fld REP_STATE := by
  have h1 : ∀ (d : Dev) (f : Fld) (v : Nat), REP_STATE.key 0 0 ≠ f.key 0 0 → (d.setF f v).fld REP_STATE = d.fld REP_STATE :=
    fun d f v h => Dev.fld_setF_ne d v h
  have h2 : ∀ d : Dev, (d.firstCause ev).fld REP_STATE = d.fld REP_STATE := fun d => by
    unfold Dev.firstCause
    dsimp only
    split
    · exact (h1 _ SAF_FIRST_TS _ (by decide)).trans (h1 _ SAF_FIRST_EVENT _ (by decide))
    · rfl
  unfold Dev.reactS
  simp only [apply_ite (fun d : Dev => d.fld REP_STATE), Dev.repState_uart, Dev.repState_msix, Dev.repState_haltEngines,
    Dev.repState_driveSafeN, h1 _ SAF_S_PENDING _ (by decide), h2, ite_self]

/-- With no run active, an event leaves the state of the replay engine alone. -/
theorem Dev.repState_logEv (d : Dev) (ev : Nat) (c : Cls) (n : Nat) (l : List DF) (o : Bool) (h : c = .S → d.running = false) :
    (d.logEv ev c n l o).fld REP_STATE = d.fld REP_STATE := by
  by_cases hc : c = .S
  · subst hc
    have hr : ∀ e : Dev, e.csr = d.csr → e.running = false := fun e he => by
      simpa [Dev.running, Dev.fld_congr he] using h rfl
    unfold Dev.logEv
    dsimp only
    rw [Dev.repState_reactS, Dev.repAbort_idle, Dev.repState_post]
    · split <;> rfl
    · rw [Dev.running_post]; split
      · exact hr _ rfl
      · exact hr _ rfl
  · exact Dev.fld_logEv d ev hc n l o (by decide)

end Sys2Proof.Machine
end

