-- ==== Sys2Proof/Laws/Resets.lean ====
section
/-! SUPPORT. Resets: what the steps of a POR or a SYS leave alone, and what a field reads after everything volatile has gone. -/

namespace Sys2Proof.Machine
open Sys2Proof.Machine.Reg

/-! `keepCommit` changes csr, hwSet, keep, ember, safe, out, mgt. -/

@[simp] theorem Dev.keepCommit_mem (d : Dev) (n v : Nat) : (d.keepCommit n v).mem = d.mem := by unfold Dev.keepCommit; dsimp only; split <;> simp
@[simp] theorem Dev.keepCommit_poison (d : Dev) (n v : Nat) : (d.keepCommit n v).poison = d.poison := by unfold Dev.keepCommit; dsimp only; split <;> simp
@[simp] theorem Dev.keepCommit_soft (d : Dev) (n v : Nat) : (d.keepCommit n v).soft = d.soft := by unfold Dev.keepCommit; dsimp only; split <;> simp
@[simp] theorem Dev.keepCommit_quiet (d : Dev) (n v : Nat) : (d.keepCommit n v).quiet = d.quiet := by unfold Dev.keepCommit; dsimp only; split <;> simp
@[simp] theorem Dev.keepCommit_nanRep (d : Dev) (n v : Nat) : (d.keepCommit n v).nanRep = d.nanRep := by unfold Dev.keepCommit; dsimp only; split <;> simp
@[simp] theorem Dev.keepCommit_freeCtr (d : Dev) (n v : Nat) : (d.keepCommit n v).freeCtr = d.freeCtr := by unfold Dev.keepCommit; dsimp only; split <;> simp
@[simp] theorem Dev.keepCommit_clk (d : Dev) (n v : Nat) : (d.keepCommit n v).clk = d.clk := by unfold Dev.keepCommit; dsimp only; split <;> simp
@[simp] theorem Dev.keepCommit_rst (d : Dev) (n v : Nat) : (d.keepCommit n v).rst = d.rst := by unfold Dev.keepCommit; dsimp only; split <;> simp
@[simp] theorem Dev.keepCommit_load (d : Dev) (n v : Nat) : (d.keepCommit n v).load = d.load := by unfold Dev.keepCommit; dsimp only; split <;> simp
@[simp] theorem Dev.keepCommit_sgd (d : Dev) (n v : Nat) : (d.keepCommit n v).sgd = d.sgd := by unfold Dev.keepCommit; dsimp only; split <;> simp
@[simp] theorem Dev.keepCommit_fab (d : Dev) (n v : Nat) : (d.keepCommit n v).fab = d.fab := by unfold Dev.keepCommit; dsimp only; split <;> simp
@[simp] theorem Dev.keepCommit_ann (d : Dev) (n v : Nat) : (d.keepCommit n v).ann = d.ann := by unfold Dev.keepCommit; dsimp only; split <;> simp
@[simp] theorem Dev.keepCommit_cel (d : Dev) (n v : Nat) : (d.keepCommit n v).cel = d.cel := by unfold Dev.keepCommit; dsimp only; split <;> simp
@[simp] theorem Dev.keepCommit_hbm (d : Dev) (n v : Nat) : (d.keepCommit n v).hbm = d.hbm := by unfold Dev.keepCommit; dsimp only; split <;> simp
@[simp] theorem Dev.keepCommit_tile (d : Dev) (n v : Nat) : (d.keepCommit n v).tile = d.tile := by unfold Dev.keepCommit; dsimp only; split <;> simp
@[simp] theorem Dev.keepCommit_eng (d : Dev) (n v : Nat) : (d.keepCommit n v).eng = d.eng := by unfold Dev.keepCommit; dsimp only; split <;> simp
@[simp] theorem Dev.keepCommit_prt (d : Dev) (n v : Nat) : (d.keepCommit n v).prt = d.prt := by unfold Dev.keepCommit; dsimp only; split <;> simp
@[simp] theorem Dev.keepCommit_svc (d : Dev) (n v : Nat) : (d.keepCommit n v).svc = d.svc := by unfold Dev.keepCommit; dsimp only; split <;> simp
@[simp] theorem Dev.keepCommit_cpl (d : Dev) (n v : Nat) : (d.keepCommit n v).cpl = d.cpl := by unfold Dev.keepCommit; dsimp only; split <;> simp
@[simp] theorem Dev.keepCommit_rep (d : Dev) (n v : Nat) : (d.keepCommit n v).rep = d.rep := by unfold Dev.keepCommit; dsimp only; split <;> simp

/-! `keepCount` changes csr, hwSet, keep, ember, safe, out, mgt. -/

@[simp] theorem Dev.keepCount_mem (d : Dev) (n : Nat) : (d.keepCount n).mem = d.mem := by simp [Dev.keepCount]
@[simp] theorem Dev.keepCount_poison (d : Dev) (n : Nat) : (d.keepCount n).poison = d.poison := by simp [Dev.keepCount]
@[simp] theorem Dev.keepCount_soft (d : Dev) (n : Nat) : (d.keepCount n).soft = d.soft := by simp [Dev.keepCount]
@[simp] theorem Dev.keepCount_quiet (d : Dev) (n : Nat) : (d.keepCount n).quiet = d.quiet := by simp [Dev.keepCount]
@[simp] theorem Dev.keepCount_nanRep (d : Dev) (n : Nat) : (d.keepCount n).nanRep = d.nanRep := by simp [Dev.keepCount]
@[simp] theorem Dev.keepCount_freeCtr (d : Dev) (n : Nat) : (d.keepCount n).freeCtr = d.freeCtr := by simp [Dev.keepCount]
@[simp] theorem Dev.keepCount_clk (d : Dev) (n : Nat) : (d.keepCount n).clk = d.clk := by simp [Dev.keepCount]
@[simp] theorem Dev.keepCount_rst (d : Dev) (n : Nat) : (d.keepCount n).rst = d.rst := by simp [Dev.keepCount]
@[simp] theorem Dev.keepCount_load (d : Dev) (n : Nat) : (d.keepCount n).load = d.load := by simp [Dev.keepCount]
@[simp] theorem Dev.keepCount_sgd (d : Dev) (n : Nat) : (d.keepCount n).sgd = d.sgd := by simp [Dev.keepCount]
@[simp] theorem Dev.keepCount_fab (d : Dev) (n : Nat) : (d.keepCount n).fab = d.fab := by simp [Dev.keepCount]
@[simp] theorem Dev.keepCount_ann (d : Dev) (n : Nat) : (d.keepCount n).ann = d.ann := by simp [Dev.keepCount]
@[simp] theorem Dev.keepCount_cel (d : Dev) (n : Nat) : (d.keepCount n).cel = d.cel := by simp [Dev.keepCount]
@[simp] theorem Dev.keepCount_hbm (d : Dev) (n : Nat) : (d.keepCount n).hbm = d.hbm := by simp [Dev.keepCount]
@[simp] theorem Dev.keepCount_tile (d : Dev) (n : Nat) : (d.keepCount n).tile = d.tile := by simp [Dev.keepCount]
@[simp] theorem Dev.keepCount_eng (d : Dev) (n : Nat) : (d.keepCount n).eng = d.eng := by simp [Dev.keepCount]
@[simp] theorem Dev.keepCount_prt (d : Dev) (n : Nat) : (d.keepCount n).prt = d.prt := by simp [Dev.keepCount]
@[simp] theorem Dev.keepCount_svc (d : Dev) (n : Nat) : (d.keepCount n).svc = d.svc := by simp [Dev.keepCount]
@[simp] theorem Dev.keepCount_cpl (d : Dev) (n : Nat) : (d.keepCount n).cpl = d.cpl := by simp [Dev.keepCount]
@[simp] theorem Dev.keepCount_rep (d : Dev) (n : Nat) : (d.keepCount n).rep = d.rep := by simp [Dev.keepCount]

/-! `freshChal` changes csr, freeCtr. -/

@[simp] theorem Dev.freshChal_hwSet (d : Dev) : (d.freshChal).hwSet = d.hwSet := rfl
@[simp] theorem Dev.freshChal_mem (d : Dev) : (d.freshChal).mem = d.mem := rfl
@[simp] theorem Dev.freshChal_poison (d : Dev) : (d.freshChal).poison = d.poison := rfl
@[simp] theorem Dev.freshChal_soft (d : Dev) : (d.freshChal).soft = d.soft := rfl
@[simp] theorem Dev.freshChal_quiet (d : Dev) : (d.freshChal).quiet = d.quiet := rfl
@[simp] theorem Dev.freshChal_nanRep (d : Dev) : (d.freshChal).nanRep = d.nanRep := rfl
@[simp] theorem Dev.freshChal_out (d : Dev) : (d.freshChal).out = d.out := rfl
@[simp] theorem Dev.freshChal_clk (d : Dev) : (d.freshChal).clk = d.clk := rfl
@[simp] theorem Dev.freshChal_rst (d : Dev) : (d.freshChal).rst = d.rst := rfl
@[simp] theorem Dev.freshChal_load (d : Dev) : (d.freshChal).load = d.load := rfl
@[simp] theorem Dev.freshChal_keep (d : Dev) : (d.freshChal).keep = d.keep := rfl
@[simp] theorem Dev.freshChal_ember (d : Dev) : (d.freshChal).ember = d.ember := rfl
@[simp] theorem Dev.freshChal_safe (d : Dev) : (d.freshChal).safe = d.safe := rfl
@[simp] theorem Dev.freshChal_sgd (d : Dev) : (d.freshChal).sgd = d.sgd := rfl
@[simp] theorem Dev.freshChal_mgt (d : Dev) : (d.freshChal).mgt = d.mgt := rfl
@[simp] theorem Dev.freshChal_fab (d : Dev) : (d.freshChal).fab = d.fab := rfl
@[simp] theorem Dev.freshChal_ann (d : Dev) : (d.freshChal).ann = d.ann := rfl
@[simp] theorem Dev.freshChal_cel (d : Dev) : (d.freshChal).cel = d.cel := rfl
@[simp] theorem Dev.freshChal_hbm (d : Dev) : (d.freshChal).hbm = d.hbm := rfl
@[simp] theorem Dev.freshChal_tile (d : Dev) : (d.freshChal).tile = d.tile := rfl
@[simp] theorem Dev.freshChal_eng (d : Dev) : (d.freshChal).eng = d.eng := rfl
@[simp] theorem Dev.freshChal_prt (d : Dev) : (d.freshChal).prt = d.prt := rfl
@[simp] theorem Dev.freshChal_svc (d : Dev) : (d.freshChal).svc = d.svc := rfl
@[simp] theorem Dev.freshChal_cpl (d : Dev) : (d.freshChal).cpl = d.cpl := rfl
@[simp] theorem Dev.freshChal_rep (d : Dev) : (d.freshChal).rep = d.rep := rfl

/-! `afterFresh` changes csr, out, freeCtr. -/

@[simp] theorem Dev.afterFresh_hwSet (d : Dev) (b : Bool) : (d.afterFresh b).hwSet = d.hwSet := by unfold Dev.afterFresh; dsimp only; split <;> split <;> simp
@[simp] theorem Dev.afterFresh_mem (d : Dev) (b : Bool) : (d.afterFresh b).mem = d.mem := by unfold Dev.afterFresh; dsimp only; split <;> split <;> simp
@[simp] theorem Dev.afterFresh_poison (d : Dev) (b : Bool) : (d.afterFresh b).poison = d.poison := by unfold Dev.afterFresh; dsimp only; split <;> split <;> simp
@[simp] theorem Dev.afterFresh_soft (d : Dev) (b : Bool) : (d.afterFresh b).soft = d.soft := by unfold Dev.afterFresh; dsimp only; split <;> split <;> simp
@[simp] theorem Dev.afterFresh_quiet (d : Dev) (b : Bool) : (d.afterFresh b).quiet = d.quiet := by unfold Dev.afterFresh; dsimp only; split <;> split <;> simp
@[simp] theorem Dev.afterFresh_nanRep (d : Dev) (b : Bool) : (d.afterFresh b).nanRep = d.nanRep := by unfold Dev.afterFresh; dsimp only; split <;> split <;> simp
@[simp] theorem Dev.afterFresh_clk (d : Dev) (b : Bool) : (d.afterFresh b).clk = d.clk := by unfold Dev.afterFresh; dsimp only; split <;> split <;> simp
@[simp] theorem Dev.afterFresh_rst (d : Dev) (b : Bool) : (d.afterFresh b).rst = d.rst := by unfold Dev.afterFresh; dsimp only; split <;> split <;> simp
@[simp] theorem Dev.afterFresh_load (d : Dev) (b : Bool) : (d.afterFresh b).load = d.load := by unfold Dev.afterFresh; dsimp only; split <;> split <;> simp
@[simp] theorem Dev.afterFresh_keep (d : Dev) (b : Bool) : (d.afterFresh b).keep = d.keep := by unfold Dev.afterFresh; dsimp only; split <;> split <;> simp
@[simp] theorem Dev.afterFresh_ember (d : Dev) (b : Bool) : (d.afterFresh b).ember = d.ember := by unfold Dev.afterFresh; dsimp only; split <;> split <;> simp
@[simp] theorem Dev.afterFresh_safe (d : Dev) (b : Bool) : (d.afterFresh b).safe = d.safe := by unfold Dev.afterFresh; dsimp only; split <;> split <;> simp
@[simp] theorem Dev.afterFresh_sgd (d : Dev) (b : Bool) : (d.afterFresh b).sgd = d.sgd := by unfold Dev.afterFresh; dsimp only; split <;> split <;> simp
@[simp] theorem Dev.afterFresh_mgt (d : Dev) (b : Bool) : (d.afterFresh b).mgt = d.mgt := by unfold Dev.afterFresh; dsimp only; split <;> split <;> simp
@[simp] theorem Dev.afterFresh_fab (d : Dev) (b : Bool) : (d.afterFresh b).fab = d.fab := by unfold Dev.afterFresh; dsimp only; split <;> split <;> simp
@[simp] theorem Dev.afterFresh_ann (d : Dev) (b : Bool) : (d.afterFresh b).ann = d.ann := by unfold Dev.afterFresh; dsimp only; split <;> split <;> simp
@[simp] theorem Dev.afterFresh_cel (d : Dev) (b : Bool) : (d.afterFresh b).cel = d.cel := by unfold Dev.afterFresh; dsimp only; split <;> split <;> simp
@[simp] theorem Dev.afterFresh_hbm (d : Dev) (b : Bool) : (d.afterFresh b).hbm = d.hbm := by unfold Dev.afterFresh; dsimp only; split <;> split <;> simp
@[simp] theorem Dev.afterFresh_tile (d : Dev) (b : Bool) : (d.afterFresh b).tile = d.tile := by unfold Dev.afterFresh; dsimp only; split <;> split <;> simp
@[simp] theorem Dev.afterFresh_eng (d : Dev) (b : Bool) : (d.afterFresh b).eng = d.eng := by unfold Dev.afterFresh; dsimp only; split <;> split <;> simp
@[simp] theorem Dev.afterFresh_prt (d : Dev) (b : Bool) : (d.afterFresh b).prt = d.prt := by unfold Dev.afterFresh; dsimp only; split <;> split <;> simp
@[simp] theorem Dev.afterFresh_svc (d : Dev) (b : Bool) : (d.afterFresh b).svc = d.svc := by unfold Dev.afterFresh; dsimp only; split <;> split <;> simp
@[simp] theorem Dev.afterFresh_cpl (d : Dev) (b : Bool) : (d.afterFresh b).cpl = d.cpl := by unfold Dev.afterFresh; dsimp only; split <;> split <;> simp
@[simp] theorem Dev.afterFresh_rep (d : Dev) (b : Bool) : (d.afterFresh b).rep = d.rep := by unfold Dev.afterFresh; dsimp only; split <;> split <;> simp

/-! `emberAgain` changes ember. -/

@[simp] theorem Dev.emberAgain_csr (d : Dev) : (d.emberAgain).csr = d.csr := by unfold Dev.emberAgain; split <;> rfl
@[simp] theorem Dev.emberAgain_hwSet (d : Dev) : (d.emberAgain).hwSet = d.hwSet := by unfold Dev.emberAgain; split <;> rfl
@[simp] theorem Dev.emberAgain_mem (d : Dev) : (d.emberAgain).mem = d.mem := by unfold Dev.emberAgain; split <;> rfl
@[simp] theorem Dev.emberAgain_poison (d : Dev) : (d.emberAgain).poison = d.poison := by unfold Dev.emberAgain; split <;> rfl
@[simp] theorem Dev.emberAgain_soft (d : Dev) : (d.emberAgain).soft = d.soft := by unfold Dev.emberAgain; split <;> rfl
@[simp] theorem Dev.emberAgain_quiet (d : Dev) : (d.emberAgain).quiet = d.quiet := by unfold Dev.emberAgain; split <;> rfl
@[simp] theorem Dev.emberAgain_nanRep (d : Dev) : (d.emberAgain).nanRep = d.nanRep := by unfold Dev.emberAgain; split <;> rfl
@[simp] theorem Dev.emberAgain_out (d : Dev) : (d.emberAgain).out = d.out := by unfold Dev.emberAgain; split <;> rfl
@[simp] theorem Dev.emberAgain_freeCtr (d : Dev) : (d.emberAgain).freeCtr = d.freeCtr := by unfold Dev.emberAgain; split <;> rfl
@[simp] theorem Dev.emberAgain_clk (d : Dev) : (d.emberAgain).clk = d.clk := by unfold Dev.emberAgain; split <;> rfl
@[simp] theorem Dev.emberAgain_rst (d : Dev) : (d.emberAgain).rst = d.rst := by unfold Dev.emberAgain; split <;> rfl
@[simp] theorem Dev.emberAgain_load (d : Dev) : (d.emberAgain).load = d.load := by unfold Dev.emberAgain; split <;> rfl
@[simp] theorem Dev.emberAgain_keep (d : Dev) : (d.emberAgain).keep = d.keep := by unfold Dev.emberAgain; split <;> rfl
@[simp] theorem Dev.emberAgain_safe (d : Dev) : (d.emberAgain).safe = d.safe := by unfold Dev.emberAgain; split <;> rfl
@[simp] theorem Dev.emberAgain_sgd (d : Dev) : (d.emberAgain).sgd = d.sgd := by unfold Dev.emberAgain; split <;> rfl
@[simp] theorem Dev.emberAgain_mgt (d : Dev) : (d.emberAgain).mgt = d.mgt := by unfold Dev.emberAgain; split <;> rfl
@[simp] theorem Dev.emberAgain_fab (d : Dev) : (d.emberAgain).fab = d.fab := by unfold Dev.emberAgain; split <;> rfl
@[simp] theorem Dev.emberAgain_ann (d : Dev) : (d.emberAgain).ann = d.ann := by unfold Dev.emberAgain; split <;> rfl
@[simp] theorem Dev.emberAgain_cel (d : Dev) : (d.emberAgain).cel = d.cel := by unfold Dev.emberAgain; split <;> rfl
@[simp] theorem Dev.emberAgain_hbm (d : Dev) : (d.emberAgain).hbm = d.hbm := by unfold Dev.emberAgain; split <;> rfl
@[simp] theorem Dev.emberAgain_tile (d : Dev) : (d.emberAgain).tile = d.tile := by unfold Dev.emberAgain; split <;> rfl
@[simp] theorem Dev.emberAgain_eng (d : Dev) : (d.emberAgain).eng = d.eng := by unfold Dev.emberAgain; split <;> rfl
@[simp] theorem Dev.emberAgain_prt (d : Dev) : (d.emberAgain).prt = d.prt := by unfold Dev.emberAgain; split <;> rfl
@[simp] theorem Dev.emberAgain_svc (d : Dev) : (d.emberAgain).svc = d.svc := by unfold Dev.emberAgain; split <;> rfl
@[simp] theorem Dev.emberAgain_cpl (d : Dev) : (d.emberAgain).cpl = d.cpl := by unfold Dev.emberAgain; split <;> rfl
@[simp] theorem Dev.emberAgain_rep (d : Dev) : (d.emberAgain).rep = d.rep := by unfold Dev.emberAgain; split <;> rfl

/-! `railReport` changes csr, hwSet, ember, safe, out, mgt. -/

@[simp] theorem Dev.railReport_mem (d : Dev) (n : Nat) : (d.railReport n).mem = d.mem := by unfold Dev.railReport; split <;> simp
@[simp] theorem Dev.railReport_poison (d : Dev) (n : Nat) : (d.railReport n).poison = d.poison := by unfold Dev.railReport; split <;> simp
@[simp] theorem Dev.railReport_soft (d : Dev) (n : Nat) : (d.railReport n).soft = d.soft := by unfold Dev.railReport; split <;> simp
@[simp] theorem Dev.railReport_quiet (d : Dev) (n : Nat) : (d.railReport n).quiet = d.quiet := by unfold Dev.railReport; split <;> simp
@[simp] theorem Dev.railReport_nanRep (d : Dev) (n : Nat) : (d.railReport n).nanRep = d.nanRep := by unfold Dev.railReport; split <;> simp
@[simp] theorem Dev.railReport_freeCtr (d : Dev) (n : Nat) : (d.railReport n).freeCtr = d.freeCtr := by unfold Dev.railReport; split <;> simp
@[simp] theorem Dev.railReport_clk (d : Dev) (n : Nat) : (d.railReport n).clk = d.clk := by unfold Dev.railReport; split <;> simp
@[simp] theorem Dev.railReport_rst (d : Dev) (n : Nat) : (d.railReport n).rst = d.rst := by unfold Dev.railReport; split <;> simp
@[simp] theorem Dev.railReport_load (d : Dev) (n : Nat) : (d.railReport n).load = d.load := by unfold Dev.railReport; split <;> simp
@[simp] theorem Dev.railReport_keep (d : Dev) (n : Nat) : (d.railReport n).keep = d.keep := by unfold Dev.railReport; split <;> simp
@[simp] theorem Dev.railReport_sgd (d : Dev) (n : Nat) : (d.railReport n).sgd = d.sgd := by unfold Dev.railReport; split <;> simp
@[simp] theorem Dev.railReport_fab (d : Dev) (n : Nat) : (d.railReport n).fab = d.fab := by unfold Dev.railReport; split <;> simp
@[simp] theorem Dev.railReport_ann (d : Dev) (n : Nat) : (d.railReport n).ann = d.ann := by unfold Dev.railReport; split <;> simp
@[simp] theorem Dev.railReport_cel (d : Dev) (n : Nat) : (d.railReport n).cel = d.cel := by unfold Dev.railReport; split <;> simp
@[simp] theorem Dev.railReport_hbm (d : Dev) (n : Nat) : (d.railReport n).hbm = d.hbm := by unfold Dev.railReport; split <;> simp
@[simp] theorem Dev.railReport_tile (d : Dev) (n : Nat) : (d.railReport n).tile = d.tile := by unfold Dev.railReport; split <;> simp
@[simp] theorem Dev.railReport_eng (d : Dev) (n : Nat) : (d.railReport n).eng = d.eng := by unfold Dev.railReport; split <;> simp
@[simp] theorem Dev.railReport_prt (d : Dev) (n : Nat) : (d.railReport n).prt = d.prt := by unfold Dev.railReport; split <;> simp
@[simp] theorem Dev.railReport_svc (d : Dev) (n : Nat) : (d.railReport n).svc = d.svc := by unfold Dev.railReport; split <;> simp
@[simp] theorem Dev.railReport_cpl (d : Dev) (n : Nat) : (d.railReport n).cpl = d.cpl := by unfold Dev.railReport; split <;> simp
@[simp] theorem Dev.railReport_rep (d : Dev) (n : Nat) : (d.railReport n).rep = d.rep := by unfold Dev.railReport; split <;> simp

/-! `embTear` changes ember. -/

@[simp] theorem Dev.embTear_csr (d : Dev) (n : Nat) : (d.embTear n).csr = d.csr := by unfold Dev.embTear; split <;> [rfl; (dsimp only; split <;> split <;> rfl)]
@[simp] theorem Dev.embTear_hwSet (d : Dev) (n : Nat) : (d.embTear n).hwSet = d.hwSet := by unfold Dev.embTear; split <;> [rfl; (dsimp only; split <;> split <;> rfl)]
@[simp] theorem Dev.embTear_mem (d : Dev) (n : Nat) : (d.embTear n).mem = d.mem := by unfold Dev.embTear; split <;> [rfl; (dsimp only; split <;> split <;> rfl)]
@[simp] theorem Dev.embTear_poison (d : Dev) (n : Nat) : (d.embTear n).poison = d.poison := by unfold Dev.embTear; split <;> [rfl; (dsimp only; split <;> split <;> rfl)]
@[simp] theorem Dev.embTear_soft (d : Dev) (n : Nat) : (d.embTear n).soft = d.soft := by unfold Dev.embTear; split <;> [rfl; (dsimp only; split <;> split <;> rfl)]
@[simp] theorem Dev.embTear_quiet (d : Dev) (n : Nat) : (d.embTear n).quiet = d.quiet := by unfold Dev.embTear; split <;> [rfl; (dsimp only; split <;> split <;> rfl)]
@[simp] theorem Dev.embTear_nanRep (d : Dev) (n : Nat) : (d.embTear n).nanRep = d.nanRep := by unfold Dev.embTear; split <;> [rfl; (dsimp only; split <;> split <;> rfl)]
@[simp] theorem Dev.embTear_out (d : Dev) (n : Nat) : (d.embTear n).out = d.out := by unfold Dev.embTear; split <;> [rfl; (dsimp only; split <;> split <;> rfl)]
@[simp] theorem Dev.embTear_freeCtr (d : Dev) (n : Nat) : (d.embTear n).freeCtr = d.freeCtr := by unfold Dev.embTear; split <;> [rfl; (dsimp only; split <;> split <;> rfl)]
@[simp] theorem Dev.embTear_clk (d : Dev) (n : Nat) : (d.embTear n).clk = d.clk := by unfold Dev.embTear; split <;> [rfl; (dsimp only; split <;> split <;> rfl)]
@[simp] theorem Dev.embTear_rst (d : Dev) (n : Nat) : (d.embTear n).rst = d.rst := by unfold Dev.embTear; split <;> [rfl; (dsimp only; split <;> split <;> rfl)]
@[simp] theorem Dev.embTear_load (d : Dev) (n : Nat) : (d.embTear n).load = d.load := by unfold Dev.embTear; split <;> [rfl; (dsimp only; split <;> split <;> rfl)]
@[simp] theorem Dev.embTear_keep (d : Dev) (n : Nat) : (d.embTear n).keep = d.keep := by unfold Dev.embTear; split <;> [rfl; (dsimp only; split <;> split <;> rfl)]
@[simp] theorem Dev.embTear_safe (d : Dev) (n : Nat) : (d.embTear n).safe = d.safe := by unfold Dev.embTear; split <;> [rfl; (dsimp only; split <;> split <;> rfl)]
@[simp] theorem Dev.embTear_sgd (d : Dev) (n : Nat) : (d.embTear n).sgd = d.sgd := by unfold Dev.embTear; split <;> [rfl; (dsimp only; split <;> split <;> rfl)]
@[simp] theorem Dev.embTear_mgt (d : Dev) (n : Nat) : (d.embTear n).mgt = d.mgt := by unfold Dev.embTear; split <;> [rfl; (dsimp only; split <;> split <;> rfl)]
@[simp] theorem Dev.embTear_fab (d : Dev) (n : Nat) : (d.embTear n).fab = d.fab := by unfold Dev.embTear; split <;> [rfl; (dsimp only; split <;> split <;> rfl)]
@[simp] theorem Dev.embTear_ann (d : Dev) (n : Nat) : (d.embTear n).ann = d.ann := by unfold Dev.embTear; split <;> [rfl; (dsimp only; split <;> split <;> rfl)]
@[simp] theorem Dev.embTear_cel (d : Dev) (n : Nat) : (d.embTear n).cel = d.cel := by unfold Dev.embTear; split <;> [rfl; (dsimp only; split <;> split <;> rfl)]
@[simp] theorem Dev.embTear_hbm (d : Dev) (n : Nat) : (d.embTear n).hbm = d.hbm := by unfold Dev.embTear; split <;> [rfl; (dsimp only; split <;> split <;> rfl)]
@[simp] theorem Dev.embTear_tile (d : Dev) (n : Nat) : (d.embTear n).tile = d.tile := by unfold Dev.embTear; split <;> [rfl; (dsimp only; split <;> split <;> rfl)]
@[simp] theorem Dev.embTear_eng (d : Dev) (n : Nat) : (d.embTear n).eng = d.eng := by unfold Dev.embTear; split <;> [rfl; (dsimp only; split <;> split <;> rfl)]
@[simp] theorem Dev.embTear_prt (d : Dev) (n : Nat) : (d.embTear n).prt = d.prt := by unfold Dev.embTear; split <;> [rfl; (dsimp only; split <;> split <;> rfl)]
@[simp] theorem Dev.embTear_svc (d : Dev) (n : Nat) : (d.embTear n).svc = d.svc := by unfold Dev.embTear; split <;> [rfl; (dsimp only; split <;> split <;> rfl)]
@[simp] theorem Dev.embTear_cpl (d : Dev) (n : Nat) : (d.embTear n).cpl = d.cpl := by unfold Dev.embTear; split <;> [rfl; (dsimp only; split <;> split <;> rfl)]
@[simp] theorem Dev.embTear_rep (d : Dev) (n : Nat) : (d.embTear n).rep = d.rep := by unfold Dev.embTear; split <;> [rfl; (dsimp only; split <;> split <;> rfl)]

/-! `keepHurt` changes keep. -/

@[simp] theorem Dev.keepHurt_csr (d : Dev) (b : Bool) : (d.keepHurt b).csr = d.csr := rfl
@[simp] theorem Dev.keepHurt_hwSet (d : Dev) (b : Bool) : (d.keepHurt b).hwSet = d.hwSet := rfl
@[simp] theorem Dev.keepHurt_mem (d : Dev) (b : Bool) : (d.keepHurt b).mem = d.mem := rfl
@[simp] theorem Dev.keepHurt_poison (d : Dev) (b : Bool) : (d.keepHurt b).poison = d.poison := rfl
@[simp] theorem Dev.keepHurt_soft (d : Dev) (b : Bool) : (d.keepHurt b).soft = d.soft := rfl
@[simp] theorem Dev.keepHurt_quiet (d : Dev) (b : Bool) : (d.keepHurt b).quiet = d.quiet := rfl
@[simp] theorem Dev.keepHurt_nanRep (d : Dev) (b : Bool) : (d.keepHurt b).nanRep = d.nanRep := rfl
@[simp] theorem Dev.keepHurt_out (d : Dev) (b : Bool) : (d.keepHurt b).out = d.out := rfl
@[simp] theorem Dev.keepHurt_freeCtr (d : Dev) (b : Bool) : (d.keepHurt b).freeCtr = d.freeCtr := rfl
@[simp] theorem Dev.keepHurt_clk (d : Dev) (b : Bool) : (d.keepHurt b).clk = d.clk := rfl
@[simp] theorem Dev.keepHurt_rst (d : Dev) (b : Bool) : (d.keepHurt b).rst = d.rst := rfl
@[simp] theorem Dev.keepHurt_load (d : Dev) (b : Bool) : (d.keepHurt b).load = d.load := rfl
@[simp] theorem Dev.keepHurt_ember (d : Dev) (b : Bool) : (d.keepHurt b).ember = d.ember := rfl
@[simp] theorem Dev.keepHurt_safe (d : Dev) (b : Bool) : (d.keepHurt b).safe = d.safe := rfl
@[simp] theorem Dev.keepHurt_sgd (d : Dev) (b : Bool) : (d.keepHurt b).sgd = d.sgd := rfl
@[simp] theorem Dev.keepHurt_mgt (d : Dev) (b : Bool) : (d.keepHurt b).mgt = d.mgt := rfl
@[simp] theorem Dev.keepHurt_fab (d : Dev) (b : Bool) : (d.keepHurt b).fab = d.fab := rfl
@[simp] theorem Dev.keepHurt_ann (d : Dev) (b : Bool) : (d.keepHurt b).ann = d.ann := rfl
@[simp] theorem Dev.keepHurt_cel (d : Dev) (b : Bool) : (d.keepHurt b).cel = d.cel := rfl
@[simp] theorem Dev.keepHurt_hbm (d : Dev) (b : Bool) : (d.keepHurt b).hbm = d.hbm := rfl
@[simp] theorem Dev.keepHurt_tile (d : Dev) (b : Bool) : (d.keepHurt b).tile = d.tile := rfl
@[simp] theorem Dev.keepHurt_eng (d : Dev) (b : Bool) : (d.keepHurt b).eng = d.eng := rfl
@[simp] theorem Dev.keepHurt_prt (d : Dev) (b : Bool) : (d.keepHurt b).prt = d.prt := rfl
@[simp] theorem Dev.keepHurt_svc (d : Dev) (b : Bool) : (d.keepHurt b).svc = d.svc := rfl
@[simp] theorem Dev.keepHurt_cpl (d : Dev) (b : Bool) : (d.keepHurt b).cpl = d.cpl := rfl
@[simp] theorem Dev.keepHurt_rep (d : Dev) (b : Bool) : (d.keepHurt b).rep = d.rep := rfl

/-! `bigReset` changes csr, ember. -/

@[simp] theorem Dev.bigReset_hwSet (d : Dev) (n : Nat) : (d.bigReset n).hwSet = d.hwSet := by unfold Dev.bigReset; dsimp only; split <;> simp
@[simp] theorem Dev.bigReset_mem (d : Dev) (n : Nat) : (d.bigReset n).mem = d.mem := by unfold Dev.bigReset; dsimp only; split <;> simp
@[simp] theorem Dev.bigReset_poison (d : Dev) (n : Nat) : (d.bigReset n).poison = d.poison := by unfold Dev.bigReset; dsimp only; split <;> simp
@[simp] theorem Dev.bigReset_soft (d : Dev) (n : Nat) : (d.bigReset n).soft = d.soft := by unfold Dev.bigReset; dsimp only; split <;> simp
@[simp] theorem Dev.bigReset_quiet (d : Dev) (n : Nat) : (d.bigReset n).quiet = d.quiet := by unfold Dev.bigReset; dsimp only; split <;> simp
@[simp] theorem Dev.bigReset_nanRep (d : Dev) (n : Nat) : (d.bigReset n).nanRep = d.nanRep := by unfold Dev.bigReset; dsimp only; split <;> simp
@[simp] theorem Dev.bigReset_out (d : Dev) (n : Nat) : (d.bigReset n).out = d.out := by unfold Dev.bigReset; dsimp only; split <;> simp
@[simp] theorem Dev.bigReset_freeCtr (d : Dev) (n : Nat) : (d.bigReset n).freeCtr = d.freeCtr := by unfold Dev.bigReset; dsimp only; split <;> simp
@[simp] theorem Dev.bigReset_clk (d : Dev) (n : Nat) : (d.bigReset n).clk = d.clk := by unfold Dev.bigReset; dsimp only; split <;> simp
@[simp] theorem Dev.bigReset_rst (d : Dev) (n : Nat) : (d.bigReset n).rst = d.rst := by unfold Dev.bigReset; dsimp only; split <;> simp
@[simp] theorem Dev.bigReset_load (d : Dev) (n : Nat) : (d.bigReset n).load = d.load := by unfold Dev.bigReset; dsimp only; split <;> simp
@[simp] theorem Dev.bigReset_keep (d : Dev) (n : Nat) : (d.bigReset n).keep = d.keep := by unfold Dev.bigReset; dsimp only; split <;> simp
@[simp] theorem Dev.bigReset_safe (d : Dev) (n : Nat) : (d.bigReset n).safe = d.safe := by unfold Dev.bigReset; dsimp only; split <;> simp
@[simp] theorem Dev.bigReset_sgd (d : Dev) (n : Nat) : (d.bigReset n).sgd = d.sgd := by unfold Dev.bigReset; dsimp only; split <;> simp
@[simp] theorem Dev.bigReset_mgt (d : Dev) (n : Nat) : (d.bigReset n).mgt = d.mgt := by unfold Dev.bigReset; dsimp only; split <;> simp
@[simp] theorem Dev.bigReset_fab (d : Dev) (n : Nat) : (d.bigReset n).fab = d.fab := by unfold Dev.bigReset; dsimp only; split <;> simp
@[simp] theorem Dev.bigReset_ann (d : Dev) (n : Nat) : (d.bigReset n).ann = d.ann := by unfold Dev.bigReset; dsimp only; split <;> simp
@[simp] theorem Dev.bigReset_cel (d : Dev) (n : Nat) : (d.bigReset n).cel = d.cel := by unfold Dev.bigReset; dsimp only; split <;> simp
@[simp] theorem Dev.bigReset_hbm (d : Dev) (n : Nat) : (d.bigReset n).hbm = d.hbm := by unfold Dev.bigReset; dsimp only; split <;> simp
@[simp] theorem Dev.bigReset_tile (d : Dev) (n : Nat) : (d.bigReset n).tile = d.tile := by unfold Dev.bigReset; dsimp only; split <;> simp
@[simp] theorem Dev.bigReset_eng (d : Dev) (n : Nat) : (d.bigReset n).eng = d.eng := by unfold Dev.bigReset; dsimp only; split <;> simp
@[simp] theorem Dev.bigReset_prt (d : Dev) (n : Nat) : (d.bigReset n).prt = d.prt := by unfold Dev.bigReset; dsimp only; split <;> simp
@[simp] theorem Dev.bigReset_svc (d : Dev) (n : Nat) : (d.bigReset n).svc = d.svc := by unfold Dev.bigReset; dsimp only; split <;> simp
@[simp] theorem Dev.bigReset_cpl (d : Dev) (n : Nat) : (d.bigReset n).cpl = d.cpl := by unfold Dev.bigReset; dsimp only; split <;> simp
@[simp] theorem Dev.bigReset_rep (d : Dev) (n : Nat) : (d.bigReset n).rep = d.rep := by unfold Dev.bigReset; dsimp only; split <;> simp


/-- The Keep words after a completed write. -/
theorem Dev.keepWord_keepCommit (d : Dev) (n v k : Nat) :
    (d.keepCommit n v).keepWord k = if k = n then v % 2 ^ 64 else d.keepWord k := by
  have h : ∀ e : Dev, e.keepWord k = Sparse.get 0 e.keep.words k := fun _ => rfl
  rw [h]
  unfold Dev.keepCommit
  dsimp only
  split
  · rw [Dev.logEv_keep, Dev.setF_keep]; exact Sparse.get_set _ _ _ _
  · exact Sparse.get_set _ _ _ _

/-- A completed Keep write touches no register but those of the wear counters and of the event queue. -/
theorem Dev.fld_keepCommit (d : Dev) (n v : Nat) {f : Fld} {i j : Nat} (h : f.key i j ≠ EMB_LOST.key 0 0)
    (h2 : f.key i j ≠ KEEP_WORN_ANY.key 0 0) : (d.keepCommit n v).fld f i j = d.fld f i j := by
  unfold Dev.keepCommit
  dsimp only
  split
  · rw [Dev.fld_logEv _ _ (by simp) _ _ _ h, Dev.fld_setF_ne _ _ h2]; rfl
  · rfl

/-- A completed Keep write does not drive SAFE_N. -/
theorem Dev.low_keepCommit (d : Dev) (n v : Nat) : (d.keepCommit n v).safe.low = d.safe.low := by
  unfold Dev.keepCommit
  dsimp only
  split
  · rw [Dev.low_logEv _ _ (by simp)]; rfl
  · rfl

/-! What is left after everything volatile has gone. -/

@[simp] theorem Dev.fresh_mem (d : Dev) (q : Nat → Bool) : (d.fresh q).mem = [] := rfl
@[simp] theorem Dev.fresh_poison (d : Dev) (q : Nat → Bool) : (d.fresh q).poison = [] := rfl
@[simp] theorem Dev.fresh_quiet (d : Dev) (q : Nat → Bool) : (d.fresh q).quiet = [] := rfl
@[simp] theorem Dev.fresh_nanRep (d : Dev) (q : Nat → Bool) : (d.fresh q).nanRep = [] := rfl
@[simp] theorem Dev.fresh_clk (d : Dev) (q : Nat → Bool) : (d.fresh q).clk = {} := rfl
@[simp] theorem Dev.fresh_safe (d : Dev) (q : Nat → Bool) : (d.fresh q).safe = {} := rfl
@[simp] theorem Dev.fresh_sgd (d : Dev) (q : Nat → Bool) : (d.fresh q).sgd = [] := rfl
@[simp] theorem Dev.fresh_fab (d : Dev) (q : Nat → Bool) : (d.fresh q).fab = {} := rfl
@[simp] theorem Dev.fresh_ann (d : Dev) (q : Nat → Bool) : (d.fresh q).ann = {} := rfl
@[simp] theorem Dev.fresh_cel (d : Dev) (q : Nat → Bool) : (d.fresh q).cel = {} := rfl
@[simp] theorem Dev.fresh_hbm (d : Dev) (q : Nat → Bool) : (d.fresh q).hbm = [] := rfl
@[simp] theorem Dev.fresh_tile (d : Dev) (q : Nat → Bool) : (d.fresh q).tile = [] := rfl
@[simp] theorem Dev.fresh_eng (d : Dev) (q : Nat → Bool) : (d.fresh q).eng = [] := rfl
@[simp] theorem Dev.fresh_cpl (d : Dev) (q : Nat → Bool) : (d.fresh q).cpl = {} := rfl
@[simp] theorem Dev.fresh_rep (d : Dev) (q : Nat → Bool) : (d.fresh q).rep = {} := rfl
@[simp] theorem Dev.fresh_svc_up (d : Dev) (q : Nat → Bool) : (d.fresh q).svc.up = false := rfl

@[simp] theorem Dev.porWipe_mem (d : Dev) : d.porWipe.mem = [] := rfl
@[simp] theorem Dev.porWipe_poison (d : Dev) : d.porWipe.poison = [] := rfl
@[simp] theorem Dev.porWipe_quiet (d : Dev) : d.porWipe.quiet = [] := rfl
@[simp] theorem Dev.porWipe_nanRep (d : Dev) : d.porWipe.nanRep = [] := rfl
@[simp] theorem Dev.porWipe_clk (d : Dev) : d.porWipe.clk = {} := rfl
@[simp] theorem Dev.porWipe_safe (d : Dev) : d.porWipe.safe = {} := rfl
@[simp] theorem Dev.porWipe_sgd (d : Dev) : d.porWipe.sgd = [] := rfl
@[simp] theorem Dev.porWipe_fab (d : Dev) : d.porWipe.fab = {} := rfl
@[simp] theorem Dev.porWipe_ann (d : Dev) : d.porWipe.ann = {} := rfl
@[simp] theorem Dev.porWipe_cel (d : Dev) : d.porWipe.cel = {} := rfl
@[simp] theorem Dev.porWipe_hbm (d : Dev) : d.porWipe.hbm = [] := rfl
@[simp] theorem Dev.porWipe_tile (d : Dev) : d.porWipe.tile = [] := rfl
@[simp] theorem Dev.porWipe_eng (d : Dev) : d.porWipe.eng = [] := rfl
@[simp] theorem Dev.porWipe_cpl (d : Dev) : d.porWipe.cpl = {} := rfl
@[simp] theorem Dev.porWipe_rep (d : Dev) : d.porWipe.rep = {} := rfl
@[simp] theorem Dev.porWipe_svc_up (d : Dev) : d.porWipe.svc.up = false := rfl
@[simp] theorem Dev.porWipe_csr (d : Dev) : d.porWipe.csr = (d.fresh fun _ => false).csr := rfl
@[simp] theorem Dev.porWipe_out (d : Dev) : d.porWipe.out = (d.fresh fun _ => false).out := rfl
@[simp] theorem Dev.porWipe_keep (d : Dev) : d.porWipe.keep = (d.fresh fun _ => false).keep := rfl
@[simp] theorem Dev.vauxWipe_mem (d : Dev) : d.vauxWipe.mem = [] := rfl
@[simp] theorem Dev.vauxWipe_poison (d : Dev) : d.vauxWipe.poison = [] := rfl
@[simp] theorem Dev.vauxWipe_quiet (d : Dev) : d.vauxWipe.quiet = [] := rfl
@[simp] theorem Dev.vauxWipe_nanRep (d : Dev) : d.vauxWipe.nanRep = [] := rfl
@[simp] theorem Dev.vauxWipe_clk (d : Dev) : d.vauxWipe.clk = {} := rfl
@[simp] theorem Dev.vauxWipe_safe (d : Dev) : d.vauxWipe.safe = {} := rfl
@[simp] theorem Dev.vauxWipe_sgd (d : Dev) : d.vauxWipe.sgd = [] := rfl
@[simp] theorem Dev.vauxWipe_fab (d : Dev) : d.vauxWipe.fab = {} := rfl
@[simp] theorem Dev.vauxWipe_ann (d : Dev) : d.vauxWipe.ann = {} := rfl
@[simp] theorem Dev.vauxWipe_cel (d : Dev) : d.vauxWipe.cel = {} := rfl
@[simp] theorem Dev.vauxWipe_hbm (d : Dev) : d.vauxWipe.hbm = [] := rfl
@[simp] theorem Dev.vauxWipe_tile (d : Dev) : d.vauxWipe.tile = [] := rfl
@[simp] theorem Dev.vauxWipe_eng (d : Dev) : d.vauxWipe.eng = [] := rfl
@[simp] theorem Dev.vauxWipe_cpl (d : Dev) : d.vauxWipe.cpl = {} := rfl
@[simp] theorem Dev.vauxWipe_rep (d : Dev) : d.vauxWipe.rep = {} := rfl
@[simp] theorem Dev.vauxWipe_svc_up (d : Dev) : d.vauxWipe.svc.up = false := rfl
@[simp] theorem Dev.vauxWipe_csr (d : Dev) : d.vauxWipe.csr = (d.fresh fun _ => false).csr := rfl
@[simp] theorem Dev.vauxWipe_out (d : Dev) : d.vauxWipe.out = (d.fresh fun _ => false).out := rfl
@[simp] theorem Dev.vauxWipe_keep (d : Dev) : d.vauxWipe.keep = (d.fresh fun _ => false).keep := rfl

/-- No Keep write runs or waits: none completes. -/
theorem Dev.keepFlush_idle {d : Dev} (h : d.keep.running = none) (h2 : d.keep.queue = []) : d.keepFlush = d := by
  unfold Dev.keepFlush
  simp only [h, h2, List.filter_nil, List.foldl_nil]
  rw [← h, ← h2]

/-- The Keep words stay, where no write of one completes. -/
theorem Dev.fresh_words (d : Dev) (q : Nat → Bool) (h : d.keep.running = none) (h2 : d.keep.queue = []) :
    (d.fresh q).keep.words = d.keep.words := by
  unfold Dev.fresh; rw [Dev.keepFlush_idle h h2]

/-! Only messages leave the device. -/

@[simp] theorem Dev.plainOut_keepCommit (d : Dev) (n v : Nat) : (d.keepCommit n v).plainOut = d.plainOut := by
  unfold Dev.keepCommit; dsimp only; split
  · simp; rfl
  · rfl

@[simp] theorem Dev.plainOut_keepCount (d : Dev) (n : Nat) : (d.keepCount n).plainOut = d.plainOut := by simp [Dev.keepCount]

@[simp] theorem Dev.plainOut_bigReset (d : Dev) (n : Nat) : (d.bigReset n).plainOut = d.plainOut := by
  unfold Dev.bigReset; dsimp only; split
  · simp
  · rfl

@[simp] theorem Dev.plainOut_railReport (d : Dev) (n : Nat) : (d.railReport n).plainOut = d.plainOut := by
  unfold Dev.railReport; split <;> simp

@[simp] theorem Dev.plainOut_afterFresh (d : Dev) (b : Bool) : (d.afterFresh b).plainOut = d.plainOut := by
  unfold Dev.afterFresh Dev.freshChal Dev.draw
  dsimp only
  have h : ∀ (e : Dev) (n : Nat), ({ e with freeCtr := n } : Dev).plainOut = e.plainOut := fun _ _ => rfl
  simp only [Dev.plainOut_setF, h]
  split <;> split <;> simp [Out.plain]

@[simp] theorem Dev.plainOut_keepTake (d : Dev) (w : KeepWr) : (d.keepTake w).plainOut = d.plainOut := Dev.plainOut_keepCommit _ _ _

@[simp] theorem Dev.plainOut_keepFlush (d : Dev) : d.keepFlush.plainOut = d.plainOut := by
  have h : ∀ (l : List KeepWr) (e : Dev), (l.foldl Dev.keepTake e).plainOut = e.plainOut := fun l e =>
    foldl_keeps (fun d : Dev => d.plainOut) (fun d w => Dev.plainOut_keepTake d w) l e
  unfold Dev.keepFlush
  dsimp only
  show Dev.plainOut (List.foldl _ _ _) = _
  rw [h]
  split <;> simp

@[simp] theorem Dev.plainOut_clear (d : Dev) (q : Nat → Bool) : (d.fresh q).plainOut = d.plainOut := by
  exact Dev.plainOut_keepFlush d

/-- A field of another place after rails found early are reported. -/
theorem Dev.fld_railReport (d : Dev) (n : Nat) {f : Fld} {i j : Nat} (h : f.key i j ≠ EMB_LOST.key 0 0)
    (h2 : f.key i j ≠ CAUSE_RAIL_ORDER.key 0 0) : (d.railReport n).fld f i j = d.fld f i j := by
  unfold Dev.railReport
  split
  · rfl
  · rw [Dev.fld_logEv _ _ (by simp) _ _ _ h, Dev.fld_raise, Dev.fld_setBit_ne _ _ _ h2]

/-- Rails found early do not drive SAFE_N. -/
theorem Dev.low_railReport (d : Dev) (n : Nat) : (d.railReport n).safe.low = d.safe.low := by
  unfold Dev.railReport
  split
  · rfl
  · rw [Dev.low_logEv _ _ (by simp)]; rfl

/-- Everything volatile has its reset value. -/
theorem Dev.fld_fresh (d : Dev) (q : Nat → Bool) {f : Fld} {i j : Nat} (h : keyPersists (f.key i j) = false) (h2 : q (f.key i j) = false) :
    (d.fresh q).fld f i j = f.rst := by
  unfold Dev.fresh Dev.fld
  dsimp only
  rw [Sparse.get_filter_key (fun k => keyPersists k || q k)]
  simp [h, h2]

/-- A field that stays reads as before, where no Keep write completes. -/
theorem Dev.fld_fresh_kept (d : Dev) (q : Nat → Bool) {f : Fld} {i j : Nat} (h : keyPersists (f.key i j) = true ∨ q (f.key i j) = true)
    (hk : d.keep.running = none) (hk2 : d.keep.queue = []) : (d.fresh q).fld f i j = d.fld f i j := by
  unfold Dev.fresh Dev.fld
  rw [Dev.keepFlush_idle hk hk2]
  dsimp only
  rw [Sparse.get_filter_key (fun k => keyPersists k || q k)]
  rcases h with h | h <;> simp [h]

/-- Fields the entry of a new SAFE_N level and EMB_CHAL leave. -/
theorem Dev.fld_afterFresh (d : Dev) (b : Bool) {f : Fld} {i j : Nat} (h : f.key i j ≠ EMB_CLEARING.key 0 0)
    (h2 : f.key i j ≠ EMB_CHAL.key 0 0) : (d.afterFresh b).fld f i j = d.fld f i j := by
  unfold Dev.afterFresh Dev.freshChal
  dsimp only
  rw [Dev.fld_setF_ne _ _ h2]
  show Dev.fld (Dev.draw _).2 _ _ _ = _
  unfold Dev.draw
  dsimp only
  rw [show ∀ e : Dev, ({ e with freeCtr := e.freeCtr + 1 } : Dev).fld f i j = e.fld f i j from fun _ => rfl]
  split <;> split <;> simp [Dev.fld_setF_ne _ _ h]

/-- Fields the RESET entry leaves. -/
theorem Dev.fld_bigReset (d : Dev) (n : Nat) {f : Fld} {i j : Nat} (h : f.key i j ≠ EMB_LOST.key 0 0) :
    (d.bigReset n).fld f i j = d.fld f i j := by
  unfold Dev.bigReset
  dsimp only
  split
  · exact Dev.fld_post _ _ h
  · rfl

/-- A field after a POR. -/
theorem Dev.fld_porReset (d : Dev) {f : Fld} {i j : Nat} (hp : keyPersists (f.key i j) = false)
    (h1 : f.key i j ≠ EMB_LOST.key 0 0) (h2 : f.key i j ≠ KEEP_WORN_ANY.key 0 0) (h3 : f.key i j ≠ EMB_CLEARING.key 0 0)
    (h4 : f.key i j ≠ EMB_CHAL.key 0 0) (h5 : f.key i j ≠ CAUSE_RAIL_ORDER.key 0 0) : d.porReset.fld f i j = f.rst := by
  unfold Dev.porReset Dev.keepCount
  rw [Dev.fld_bigReset _ _ h1, Dev.fld_keepCommit _ _ _ h1 h2, Dev.fld_railReport _ _ h1 h5, Dev.fld_afterFresh _ _ h3 h4]
  exact Dev.fld_fresh d.emberAgain (fun _ => false) hp rfl

/-- A field after a SYS. -/
theorem Dev.fld_sysReset (d : Dev) (b : Fld) {f : Fld} {i j : Nat} (hp : keyPersists (f.key i j) = false) (hq : keySys (f.key i j) = false)
    (h1 : f.key i j ≠ EMB_LOST.key 0 0) (h2 : f.key i j ≠ KEEP_WORN_ANY.key 0 0) (h3 : f.key i j ≠ EMB_CLEARING.key 0 0)
    (h4 : f.key i j ≠ EMB_CHAL.key 0 0) (h5 : f.key i j ≠ COL_ID.key 0 0) (h6 : f.key i j ≠ b.key 0 0) :
    (d.sysReset b).fld f i j = f.rst := by
  unfold Dev.sysReset Dev.keepCount
  dsimp only
  rw [Dev.fld_bigReset _ _ h1, Dev.fld_keepCommit _ _ _ h1 h2, Dev.fld_setF_ne _ _ h5, Dev.fld_afterFresh _ _ h3 h4]
  rw [Dev.fld_raise, Dev.fld_setBit_ne _ _ _ h6]
  exact Dev.fld_fresh _ _ hp hq

/-- A field that a SYS leaves. -/
theorem Dev.fld_sysReset_kept (d : Dev) (b : Fld) {f : Fld} {i j : Nat} (hr : d.keep.running = none) (hr2 : d.keep.queue = [])
    (hp : keyPersists (f.key i j) = true ∨ keySys (f.key i j) = true)
    (h1 : f.key i j ≠ EMB_LOST.key 0 0) (h2 : f.key i j ≠ KEEP_WORN_ANY.key 0 0) (h3 : f.key i j ≠ EMB_CLEARING.key 0 0)
    (h4 : f.key i j ≠ EMB_CHAL.key 0 0) (h5 : f.key i j ≠ COL_ID.key 0 0) (h6 : f.key i j ≠ b.key 0 0) :
    (d.sysReset b).fld f i j = d.fld f i j := by
  unfold Dev.sysReset Dev.keepCount
  dsimp only
  rw [Dev.fld_bigReset _ _ h1, Dev.fld_keepCommit _ _ _ h1 h2, Dev.fld_setF_ne _ _ h5, Dev.fld_afterFresh _ _ h3 h4]
  rw [Dev.fld_raise, Dev.fld_setBit_ne _ _ _ h6]
  exact Dev.fld_fresh_kept _ _ hp hr hr2

end Sys2Proof.Machine
end

