-- ==== Sys2Proof/Tests/Slice0.lean ====
section
/-! SUPPORT. Tests. First what the checks of `wellFormed` refuse, the manual's own tables and single steps; then, for each statement
of `Obligations` with hypotheses, a state and operands that meet the hypotheses of each of its clauses together. -/

set_option linter.all false
set_option maxRecDepth 100000
set_option exponentiation.threshold 100000

open Sys2Proof Sys2Proof.Machine Sys2Proof.Machine.Reg

namespace Sys2Proof.Tests

/-- The core runs, the service port is up. -/
def live : Dev := { ({} : Dev).setF CLK_ROOT_LOCK 1 with svc := { up := true } }
/-- Both stages of a load are done: everything is released. -/
def rel : Dev := { (live.setF CFG_STATE 5).setF DIE_PD_UP 0xFF with load := { aDone := true, bDone := true } }
/-- A device and no command waiting. -/
def st (d : Dev) : State := { dev := d, pending := [] }

/-! ## Ill-formed commands: one for each check of `wellFormed` -/

theorem test_illformed_resets : wellFormed (.sys .servicePort 0xC1A5000000000000) = false
    ∧ wellFormed (.reload .servicePort 0xC1A5000000000001) = false ∧ wellFormed (.eng .servicePort 0xC1A5000000000000) = false
    ∧ wellFormed (.tile .servicePort 0xC1A5000000000000) = false := by decide

theorem test_illformed_globals : wellFormed (.apply .servicePort 0x7FFFFFFF) = false
    ∧ wellFormed (.registerWrite .servicePort 0x110 0 1) = false ∧ wellFormed (.csrRdReq ⟨0, 0, 0⟩ 0 0) = false
    ∧ wellFormed (.csrWrReq ⟨0, 0, 0⟩ 0 0 1) = false ∧ wellFormed (.go .servicePort 0xFFFFFFFF) = false := by decide

theorem test_illformed_loads : wellFormed (.loadHeader 0 (List.replicate 16385 0)) = false
    ∧ wellFormed (.forceStart .servicePort 3) = false ∧ wellFormed (.load .servicePort 5) = false
    ∧ wellFormed (.cfgLoadData .servicePort 0 1) = false ∧ wellFormed (.enroll .servicePort 2) = false
    ∧ wellFormed (.zeroize .servicePort 1) = false ∧ wellFormed (.keepWrite .servicePort 5 0 1) = false
    ∧ wellFormed (.pinClear .servicePort 2) = false := by decide

theorem test_illformed_fabric : wellFormed (.rearm 0 .servicePort 1) = false
    ∧ wellFormed (.qcDeviceAccess ⟨0, 0, 0⟩ 0 0 0 none) = false
    ∧ wellFormed (.qcDeviceAccess ⟨0, 0, 0⟩ 0 0 8 (some [some 1])) = false ∧ wellFormed (.wr ⟨0, 0, 0⟩ 0 [] false false none) = false := by
  decide

theorem test_illformed_memory : wellFormed (.walkFlush 0 .servicePort 2) = false ∧ wellFormed (.walkFlushInv 0 .servicePort 1) = false
    ∧ wellFormed (.walkDiscard 0 .servicePort 1) = false ∧ wellFormed (.hbmRequest 0 0 0 none false 0 0 0) = false
    ∧ wellFormed (.hbmRequest 0 255 2 none false 0 0 0) = false ∧ wellFormed (.hbmRequest 0 0 2 (some [none]) false 0 0 0) = false
    ∧ wellFormed (.retrain 0 .servicePort 2) = false := by decide

theorem test_illformed_tiles : wellFormed (.scaleClr 0 0 .servicePort 0x4000000) = false
    ∧ wellFormed (.nanFirstClear .servicePort 2) = false ∧ wellFormed (.nanCapClear 0 .servicePort 2) = false
    ∧ wellFormed (.grpReplay 0 0 .servicePort 2) = false ∧ wellFormed (.grpAbort 0 0 .servicePort 1) = false := by decide

theorem test_illformed_engines : wellFormed (.resume 0 .servicePort 8) = false ∧ wellFormed (.drop 0 .servicePort 4) = false
    ∧ wellFormed (.swapGo 0 .servicePort 2) = false := by decide

theorem test_illformed_ports : wellFormed (.dutRequest 0 { kind := .memWr, link := 0, fn := 0, bar := 0, off := 0, tag := 0, typ := 0, len := 8, data := [some 1] }) = false
    ∧ wellFormed (.ethFrameRx 0 0 (List.replicate 63 0) 0) = false ∧ wellFormed (.ethFrameTx 0 0 (List.replicate 63 0) none) = false
    ∧ wellFormed (.outboundRequest 0 ⟨0, 0, 0⟩ 0 0 none) = false ∧ wellFormed (.cfgreqGo 0 .servicePort 1) = false
    ∧ wellFormed (.bar2Access 0 0 none) = false := by decide

theorem test_illformed_colony : wellFormed (.cplFlitRx 0 (List.replicate 79 0)) = false
    ∧ wellFormed (.rpush ⟨0, 0, 0⟩ 0 0 0 none) = false ∧ wellFormed (.rpull ⟨0, 0, 0⟩ 0 0 0) = false
    ∧ wellFormed (.leave .servicePort 1) = false ∧ wellFormed (.cplJoin .servicePort 2) = false := by decide

theorem test_illformed_safety : wellFormed (.repArm .servicePort 2) = false ∧ wellFormed (.repStop .servicePort 1) = false
    ∧ wellFormed (.wickArm 0 .servicePort 2) = false ∧ wellFormed (.wickDisarm 0 .servicePort 1) = false
    ∧ wellFormed (.wickKick 0 .servicePort 1) = false ∧ wellFormed (.telemetryUpdate [] 0 0 0) = false
    ∧ wellFormed (.prbCapEn .servicePort 2) = false ∧ wellFormed (.audit .servicePort 2) = false := by decide

theorem test_wellformed : wellFormed (.sys .servicePort 0xC1A5000000000001) = true ∧ wellFormed (.walkFlushInv 0 .servicePort 2) = true
    ∧ wellFormed (.hbmRequest 0 255 1 none false 0 0 0) = true ∧ wellFormed (.wickArm 95 .servicePort 1) = true := by decide

/-! ## Tables of the manual -/

/-- The table under R200: V, s and the four modes. -/
theorem test_slice_rounding : (List.range 4).map (fun m => shiftRound m 1 5) = [2, 3, 2, 2]
    ∧ (List.range 4).map (fun m => shiftRound m 1 7) = [4, 4, 3, 3] ∧ (List.range 4).map (fun m => shiftRound m 1 (-5)) = [-2, -2, -2, -3]
    ∧ (List.range 4).map (fun m => shiftRound m 1 (-7)) = [-4, -3, -3, -4] ∧ (List.range 4).map (fun m => shiftRound m 2 9) = [2, 2, 2, 2]
    ∧ (List.range 4).map (fun m => shiftRound m 2 (-9)) = [-2, -2, -2, -3]
    ∧ (List.range 4).map (fun m => satTo 18 (shiftRound m 1 (131071 * 2 + 1))) = [131071, 131071, 131071, 131071] := by decide

/-- The table under R351: ties to INT8. -/
theorem test_ties_int8 : (List.range 3).map (fun r => (encInt 8 r (.fin false 5 (-1))).1) = [2, 3, 2]
    ∧ (List.range 3).map (fun r => (encInt 8 r (.fin true 5 (-1))).1) = [254, 254, 254] := by decide

/-- The table under R351: ties, 460 and 470 to FP8A, where a clamp counts. -/
theorem test_ties_fp8a : (List.range 3).map (fun r => (ffmt 3).enc r false false (.fin false 25 (-3))) = [(0x44, false), (0x45, false), (0x44, false)]
    ∧ (List.range 3).map (fun r => (ffmt 3).enc r false false (.fin true 25 (-3))) = [(0xC4, false), (0xC4, false), (0xC4, false)]
    ∧ (List.range 3).map (fun r => (ffmt 3).enc r false false (.fin false 460 0)) = [(0x7E, false), (0x7E, false), (0x7E, false)]
    ∧ (List.range 3).map (fun r => (ffmt 3).enc r false false (.fin false 470 0)) = [(0x7E, true), (0x7E, true), (0x7E, false)] := by decide

/-- The table under R351: 70,000 to FP8B. -/
theorem test_overflow_fp8b : (List.range 3).map (fun r => ((ffmt 4).enc r false false (.fin false 70000 0)).1) = [0x7C, 0x7C, 0x7B] := by decide

/-! ## One step -/

/-- The device after a command. -/
def dev (r : Host.Outcome State Fault Refusal) : Dev :=
  match r with
  | .next t => t.dev
  | _ => live

/-- An idle step takes the tick on by one where the core runs (log entry 11), and nothing else is asked. -/
theorem test_idle : (dev (step (st live))).clk.tick = 1 ∧ (dev (step State.reset)).clk.tick = 0 := by decide

/-- R11: a write sets a RW register, EMB_USER_0 (R149). -/
theorem test_register_write : ∀ s ∈ [st rel], (dev (step { s with pending := [.registerWrite .servicePort 0x300080 8 0x1122334455667788] })).regStored 0x300080 = 0x1122334455667788 := by decide

/-- R59: without the key 0xC1A5 nothing is reset; with it the service port goes down. -/
theorem test_sys_key : (dev (step { dev := rel, pending := [.sys .servicePort 1] })).cfgState = 5
    ∧ (dev (step { dev := rel, pending := [.sys .servicePort 0xC1A5000000000001] })).svc.up = false ∧ rel.svc.up = true := by decide

/-- R59: the reset of the power-on is the first of Keep word 0. -/
theorem test_reset_counts : State.reset.dev.keepWord 0 = 1 ∧ State.reset.dev.flag CAUSE_POR = true := by decide

/-- R3: the part number and the stepping. -/
theorem test_part : State.reset.dev.fld ID_PART = 0x0E64 ∧ State.reset.dev.fld ID_STEP = 0xB0 := by decide

/-! ## Witnesses: the hypotheses of each clause can be met -/

namespace B01
def avs : Dev := { live with clk := { live.clk with root := 25, avs := some (200, 0), fclk := [18, 24, 24, 96] } }
theorem test_witness_ClockEvents :
  (∃ s : State, ∃ i : Fin 10, ∃ ppm : Int, Inv s ∧ s.dev.flag CLK_ROOT_LOCK = true ∧ s.dev.safLive = true ∧ ppm.natAbs ≤ 20000)
  ∧ (∃ s : State, ∃ i : Fin 10, ∃ ppm : Int, s.dev.flag CLK_ROOT_LOCK = true ∧ s.dev.safLive = true ∧ 20000 < ppm.natAbs)
  ∧ (∃ s : State, s.dev.flag CLK_ROOT_LOCK = true)
  ∧ (∃ s : State, ∃ k : Fin 4, s.dev.flag CLK_ROOT_LOCK = true ∧ s.dev.clk.fclkAt.length = 4)
  ∧ (∃ s : State, ∃ lane : Fin 144, Inv s ∧ s.dev.live = true)
  ∧ (∃ s : State, ∃ n : Fin 32, ∃ t : Int, s.dev.mlive = true ∧ s.dev.rst.tripped = false ∧ 110 ≤ t)
  ∧ (∃ s : State, s.dev.mlive = true ∧ s.dev.clk.avs = none)
  ∧ (∃ s : State, ∃ mv : Nat, ∃ t : Nat, s.dev.mlive = true ∧ s.dev.clk.avs = some (mv, t)) :=
  ⟨⟨st live, 0, 0, by decide⟩,
   ⟨st live, 0, 20001, by decide⟩,
   ⟨st live, by decide⟩,
   ⟨st live, 0, by decide⟩,
   ⟨st live, 0, by decide⟩,
   ⟨st live, 0, 20000, by decide⟩,
   ⟨st live, by decide⟩,
   ⟨st avs, 200, 0, by decide⟩⟩
end B01

namespace B02
theorem test_witness_PowerAndResetPins_pins :
  (∃ s : State, ∃ ns : Nat, ∃ taken : Bool, ∃ mode : BitVec 3, ∃ id : BitVec 9, ∃ smb : BitVec 2, ∃ high : Bool, s.dev.safLive = true ∧ (1000 ≤ ns ∨ (800 ≤ ns ∧ taken = true)) ∧ ((s.dev.rst.pfail = true → s.dev.rst.pfailDone = true)) ∧ s.dev.keep.running = none ∧ s.dev.keep.queue = [])
  ∧ (∃ s : State, ∃ ns : Nat, ∃ taken : Bool, ∃ mode : BitVec 3, ∃ id : BitVec 9, ∃ smb : BitVec 2, ∃ high : Bool, Inv s ∧ ns < 800)
  ∧ (∃ s : State, ∃ rails : BitVec 9, Inv s)
  ∧ (∃ s : State, ∃ torn : Fin 17, ∃ hit : Bool, s.dev.safLive = true)
  ∧ (∃ s : State, Inv s)
  ∧ (∃ s : State, Inv s ∧ s.dev.flag CLK_ROOT_LOCK = false ∧ s.dev.rst.vauxHold = false ∧ s.dev.rst.pfailHold = false ∧ s.dev.rst.jtagHold = false ∧ s.dev.rst.rootLost = false ∧ s.dev.rst.tripped = false ∧ s.dev.rst.pfail = false ∧ s.dev.rst.pfailDone = false) :=
  ⟨⟨st live, 800, true, 0, 0, 0, true, by decide⟩,
   ⟨st live, 0, true, 0, 0, 0, true, by decide⟩,
   ⟨st live, 0, by decide⟩,
   ⟨st live, 0, true, by decide⟩,
   ⟨st live, by decide⟩,
   ⟨st {}, by decide⟩⟩
end B02

namespace B03
def hotDev : Dev := (((live.setF MGT_TEMP_MAX 405).setF LOOP_CAP_W 150).setF MGT_PWR 1501)
def coolDev : Dev := { (live.setF LOOP_VFLOOR_MV 700).setF LOOP_CAP_W 149 with clk := { live.clk with thermLvl := 4, capLvl := 2, capAt := 9, thermAt := 9, railOut := [9, 9, 9, 9, 9, 9, 9, 9, 9], window := [1, 1, 1, 1, 1] } }
def coolA : Dev := { coolDev with clk := { coolDev.clk with thermAt := 3, capAt := 3 } }
def warmDev : Dev := { (hotDev.setF MGT_TEMP_MAX 399).setF LOOP_CAP_W 0 with clk := { live.clk with capLvl := 3 } }
def topDev : Dev := { hotDev with clk := { live.clk with capLvl := 4, thermLvl := 4 } }
def runHot : Dev := (hotDev.setF REP_STATE 3).setF LOOP_TSTEP_C 120
def slewDev : Dev := { (live.setF TSC_PPS_OUT 1).setF CLK_TS_SLEW 1 with clk := { live.clk with slewLeft := 3, slewPhase := 2047, ts := 799999990 } }
theorem test_witness_ClockLoopsAndTimestamp_loops :
  (∃ s : State, ∃ n : Fin 5, ∃ v : BitVec 32, Inv s ∧ s.dev.live = true ∧ n.val ≠ 0 ∧ s.dev.clk.window.getD n.val 0 = s.dev.now / 800000 + 1)
  ∧ (∃ s : State, ∃ n : Fin 5, ∃ v : BitVec 32, Inv s ∧ s.dev.live = true ∧ n.val ≠ 0 ∧ s.dev.clk.window.getD n.val 0 ≠ s.dev.now / 800000 + 1)
  ∧ (∃ s : State, ∃ v : BitVec 32, Inv s ∧ s.dev.live = true ∧ (s.dev.fld LOOP_VFLOOR_MV < 650 ∨ min v.toNat 850 ≤ s.dev.fld LOOP_VFLOOR_MV))
  ∧ (∃ s : State, ∃ v : BitVec 32, Inv s ∧ s.dev.live = true ∧ 650 ≤ s.dev.fld LOOP_VFLOOR_MV ∧ s.dev.fld LOOP_VFLOOR_MV < min v.toNat 850 ∧ s.dev.clk.window.getD 0 0 = s.dev.now / 800000 + 1)
  ∧ (∃ s : State, s.dev.live = true ∧ s.dev.running = false)
  ∧ (∃ s : State, s.dev.live = true ∧ s.dev.running = true)
  ∧ (∃ s : State, s.dev.live = true ∧ 4 * (min (s.dev.fld LOOP_TSTEP_C) 100 : Nat) < toSigned 16 (s.dev.fld MGT_TEMP_MAX))
  ∧ (∃ s : State, s.dev.live = true ∧ toSigned 16 (s.dev.fld MGT_TEMP_MAX) ≤ 4 * ((min (s.dev.fld LOOP_TSTEP_C) 100 : Nat) - 5 : Int) ∧ s.dev.clk.thermLvl ≠ 0 ∧ s.dev.clk.thermAt = 9)
  ∧ (∃ s : State, Inv s ∧ s.dev.live = true ∧ toSigned 16 (s.dev.fld MGT_TEMP_MAX) ≤ 4 * ((min (s.dev.fld LOOP_TSTEP_C) 100 : Nat) - 5 : Int) ∧ s.dev.clk.thermLvl ≠ 0 ∧ s.dev.clk.thermAt < 9)
  ∧ (∃ s : State, Inv s ∧ s.dev.live = true ∧ 4 * ((min (s.dev.fld LOOP_TSTEP_C) 100 : Nat) - 5 : Int) < toSigned 16 (s.dev.fld MGT_TEMP_MAX) ∧ toSigned 16 (s.dev.fld MGT_TEMP_MAX) ≤ 4 * (min (s.dev.fld LOOP_TSTEP_C) 100 : Nat))
  ∧ (∃ s : State, s.dev.live = true ∧ 4 * (min (s.dev.fld LOOP_TSTEP_C) 100 : Nat) < toSigned 16 (s.dev.fld MGT_TEMP_MAX) ∧ s.dev.clk.thermLvl < 4 ∧ s.dev.clk.capLvl < 8)
  ∧ (∃ s : State, s.dev.live = true ∧ s.dev.fld LOOP_CAP_W ≠ 0 ∧ 10 * max 150 (s.dev.fld LOOP_CAP_W) < s.dev.fld MGT_PWR ∧ s.dev.clk.capLvl < 4 ∧ s.dev.clk.thermLvl < 8)
  ∧ (∃ s : State, Inv s ∧ s.dev.live = true ∧ s.dev.fld LOOP_CAP_W ≠ 0 ∧ 10 * max 150 (s.dev.fld LOOP_CAP_W) < s.dev.fld MGT_PWR ∧ s.dev.clk.capLvl = 4)
  ∧ (∃ s : State, Inv s ∧ s.dev.live = true ∧ s.dev.fld LOOP_CAP_W = 0 ∧ s.dev.clk.capLvl = 0)
  ∧ (∃ s : State, s.dev.live = true ∧ s.dev.fld LOOP_CAP_W = 0 ∧ s.dev.clk.capLvl ≠ 0)
  ∧ (∃ s : State, s.dev.live = true ∧ s.dev.fld LOOP_CAP_W ≠ 0 ∧ s.dev.fld MGT_PWR ≤ 10 * max 150 (s.dev.fld LOOP_CAP_W) ∧ s.dev.clk.capLvl ≠ 0)
  ∧ (∃ s : State, ∃ good : BitVec 9, ∃ mv : BitVec 32, s.dev.mlive = true ∧ s.dev.rst.pfail = false)
  ∧ (∃ s : State, ∃ good : BitVec 9, ∃ mv : BitVec 32, ∃ moving : Bool, Inv s ∧ s.dev.mlive = true ∧ (s.dev.rst.pfail = true ∨ moving = true))
  ∧ (∃ s : State, ∃ n : Fin 9, ∃ mv : BitVec 32, s.dev.mlive = true ∧ s.dev.rst.pfail = false ∧ s.dev.clk.railOut.getD n.val 0 = 9) :=
  ⟨⟨st coolDev, 1, 0, by decide⟩,
   ⟨st live, 1, 0, by decide⟩,
   ⟨st live, 0, by decide⟩,
   ⟨st coolDev, 701, by decide⟩,
   ⟨st live, by decide⟩,
   ⟨st runHot, by decide⟩,
   ⟨st hotDev, by decide⟩,
   ⟨st coolDev, by decide⟩,
   ⟨st coolA, by decide⟩,
   ⟨st warmDev, by decide⟩,
   ⟨st hotDev, by decide⟩,
   ⟨st hotDev, by decide⟩,
   ⟨st topDev, by decide⟩,
   ⟨st live, by decide⟩,
   ⟨st warmDev, by decide⟩,
   ⟨st coolDev, by decide⟩,
   ⟨st live, 0, 0, by decide⟩,
   ⟨st live, 0, 0, true, by decide⟩,
   ⟨st coolDev, 0, 0, by decide⟩⟩
theorem test_witness_ClockLoopsAndTimestamp_timestamp :
  (∃ s : State, ∃ p : Path, ∃ v : Word64, Inv s ∧ Reaches s.dev p 0x218 ∧ v.getLsbD 31 = true ∧ s.dev.live = true ∧ v.getLsbD 16 = false ∧ 0 < toSigned 32 (bits v.toNat 32 32) - s.dev.clk.slewLeft)
  ∧ (∃ s : State, ∃ p : Path, ∃ v : Word64, Reaches s.dev p 0x218 ∧ v.getLsbD 31 = true ∧ s.dev.live = true ∧ v.getLsbD 16 = true ∧ 0 < toSigned 32 (bits v.toNat 32 32) - s.dev.clk.slewLeft)
  ∧ (∃ s : State, ∃ p : Path, ∃ v : Word64, Inv s ∧ Reaches s.dev p 0x218 ∧ v.getLsbD 31 = true ∧ s.dev.live = true ∧ toSigned 32 (bits v.toNat 32 32) - s.dev.clk.slewLeft ≤ 0)
  ∧ (∃ s : State, ∃ p : Path, ∃ v : Word64, Inv s ∧ Reaches s.dev p 0x218 ∧ v.getLsbD 31 = false)
  ∧ (∃ s : State, Inv s ∧ s.dev.live = true ∧ s.dev.flag TSC_PPS_OUT = false)
  ∧ (∃ s : State, Inv s ∧ s.dev.flag TSC_PPS_OUT = true)
  ∧ (∃ s : State, s.dev.live = true ∧ s.dev.flag TSC_PPS_OUT = true ∧ s.dev.clk.slewOwed = 0 ∧ s.dev.clk.tsFrac.natAbs < 2 ^ 26)
  ∧ (∃ s : State, s.dev.live = true ∧ s.dev.flag CLK_TS_SLEW = true ∧ s.dev.clk.slewPhase < 2048) :=
  ⟨⟨st live, .servicePort, 0x0000000580000000, by decide⟩,
   ⟨st live, .servicePort, 0x0000010580010003, by decide⟩,
   ⟨st live, .servicePort, 0xFFFFFFFF80000000, by decide⟩,
   ⟨st live, .servicePort, 0x0000000500010002, by decide⟩,
   ⟨st live, by decide⟩,
   ⟨st slewDev, by decide⟩,
   ⟨st slewDev, by decide⟩,
   ⟨st slewDev, by decide⟩⟩
end B03

namespace B04
def rk : BitVec 64 := 0xC1A5000000000000
def re : Dev := { rel with rst := { eng := [(2, some 7)], tile := [(1, some (3, 7)), (2, some (2, 7))], reload := some 7 }, mem := [(0x020000000005, 7), (0x020000400003, 5)] }
def sysw : Dev := { live with rst := { pfail := true, sysWait := some (1, 2, 3, true) } }
theorem test_witness_PowerAndResetPins_failure :
  (∃ s : State, ∃ ns : Nat, Inv s ∧ ns < 200)
  ∧ (∃ s : State, ∃ ns : Nat, Calm s ∧ 200 ≤ ns ∧ s.dev.safLive = true ∧ s.dev.rst.pfail = false ∧ s.dev.rst.pfailHold = false ∧ s.dev.member s.dev.selfId = false ∧ s.dev.safe.handover = none ∧ s.dev.keep.running = none ∧ s.dev.keep.queue = [])
  ∧ (∃ s : State, ∃ p : Path, ∃ v : Word64, Inv s ∧ Reaches s.dev p 0x228 ∧ bits v.toNat 48 16 = 0xC1A5 ∧ s.dev.rst.tripped || s.dev.rst.pfail)
  ∧ (∃ s : State, Inv s ∧ s.dev.rst.pfail = true ∧ s.dev.rst.pfailDone = false ∧ s.dev.ember.queue = [] ∧ s.dev.rst.sysWait = none)
  ∧ (∃ s : State, ∃ m : Nat, ∃ c : Nat, ∃ a : Nat, ∃ h : Bool, s.dev.rst.pfail = true ∧ s.dev.rst.pfailDone = false ∧ s.dev.ember.queue = [] ∧ s.dev.rst.sysWait = some (m, c, a, h)) :=
  ⟨⟨st rel, 0, by decide⟩,
   ⟨st rel, 200, by decide⟩,
   ⟨st { live with rst := { pfail := true } }, .servicePort, rk + 1, by decide⟩,
   ⟨st { live with rst := { pfail := true } }, by decide⟩,
   ⟨st sysw, 1, 2, 3, true, by decide⟩⟩
theorem test_witness_ResetsBySoftware :
  (∃ s : State, ∃ p : Path, ∃ v : Word64, Inv s ∧ Reaches s.dev p 0x228 ∧ bits v.toNat 48 16 ≠ 0xC1A5)
  ∧ (∃ s : State, ∃ p : Path, ∃ v : Word64, Reaches s.dev p 0x228 ∧ RstTaken s.dev v ∧ v.getLsbD 0 = true ∧ s.dev.member s.dev.selfId = false ∧ s.dev.keep.running = none)
  ∧ (∃ s : State, ∃ p : Path, ∃ v : Word64, Inv s ∧ Reaches s.dev p 0x228 ∧ RstTaken s.dev v ∧ v.getLsbD 0 = false ∧ v.getLsbD 1 = true ∧ v.getLsbD 2 = false ∧ v.getLsbD 3 = false ∧ s.dev.rst.reload = none ∧ s.dev.cfgState ∉ [3, 4, 5, 8])
  ∧ (∃ s : State, ∃ p : Path, ∃ v : Word64, Inv s ∧ Reaches s.dev p 0x228 ∧ RstTaken s.dev v ∧ v.getLsbD 0 = false ∧ v.getLsbD 1 = true ∧ s.dev.rst.reload.isSome = true)
  ∧ (∃ s : State, ∃ p : Path, ∃ v : Word64, Reaches s.dev p 0x228 ∧ RstTaken s.dev v ∧ v.getLsbD 0 = false ∧ v.getLsbD 1 = true ∧ s.dev.rst.reload = none ∧ s.dev.cfgState ∈ [3, 4, 5, 8] ∧ s.dev.member s.dev.selfId = false ∧ s.dev.fld REP_STATE = 0)
  ∧ (∃ s : State, ∃ t : Nat, s.dev.rst.reload = some t)
  ∧ (∃ s : State, ∃ p : Path, ∃ v : Word64, Reaches s.dev p 0x228 ∧ RstTaken s.dev v ∧ v.getLsbD 0 = false ∧ v.getLsbD 1 = false ∧ v.getLsbD 3 = true ∧ s.dev.rst.reload = none)
  ∧ (∃ s : State, ∃ p : Path, ∃ v : Word64, Inv s ∧ Reaches s.dev p 0x228 ∧ RstTaken s.dev v ∧ v.getLsbD 0 = false ∧ v.getLsbD 1 = false ∧ v.getLsbD 3 = true ∧ s.dev.rst.reload = none ∧ (Sparse.get none s.dev.rst.eng (bits v.toNat 24 4)).isSome = true)
  ∧ (∃ s : State, ∃ e : Engine, ∃ t : Nat, Sparse.get none s.dev.rst.eng e.val = some t)
  ∧ (∃ s : State, ∃ p : Path, ∃ v : Word64, Reaches s.dev p 0x228 ∧ RstTaken s.dev v ∧ v.getLsbD 0 = false ∧ v.getLsbD 1 = false ∧ v.getLsbD 3 = false ∧ v.getLsbD 2 = true ∧ s.dev.rst.reload = none ∧ Sparse.get none s.dev.rst.tile (bits v.toNat 16 6) = none)
  ∧ (∃ s : State, ∃ t : LTile, Inv s ∧ (Sparse.get none s.dev.rst.tile t.val).all (fun r => r.1 != 2) = true)
  ∧ (∃ s : State, ∃ t : LTile, ∃ x : Nat, Sparse.get none s.dev.rst.tile t.val = some (2, x))
  ∧ (∃ s : State, ∃ t : LTile, ∃ x : Nat, Inv s ∧ Sparse.get none s.dev.rst.tile t.val = some (2, x) ∧ s.dev.cel.tc = [])
  ∧ (∃ s : State, ∃ t : LTile, ∃ x : Nat, Sparse.get none s.dev.rst.tile t.val = some (3, x)) :=
  ⟨⟨st rel, .servicePort, 1, by decide⟩,
   ⟨st rel, .servicePort, rk + 1, by decide⟩,
   ⟨st live, .servicePort, rk + 2, by decide⟩,
   ⟨st re, .servicePort, rk + 2, by decide⟩,
   ⟨st rel, .servicePort, rk + 2, by decide⟩,
   ⟨st re, 7, by decide⟩,
   ⟨st rel, .servicePort, rk + 0x2000008, by decide⟩,
   ⟨st { re with rst := { re.rst with reload := none } }, .servicePort, rk + 0x2000008, by decide⟩,
   ⟨st re, 2, 7, by decide⟩,
   ⟨st rel, .servicePort, rk + 0x10004, by decide⟩,
   ⟨st rel, 0, by decide⟩,
   ⟨st re, 2, 7, by decide⟩,
   ⟨st re, 2, 7, by decide⟩,
   ⟨st re, 1, 7, by decide⟩⟩
end B04

namespace B05
def re : Dev := { rel with clk := { ts := 0x1234567890, withheld := 7, root := 1000000, shadow := [(0, some 5), (9, some 6), (18, some 77)] }, rst := { port := [(1, some 7)]}, prt := [(2, {eff := [(PC_MODE.key 2 0, 1)], perstAt := some 3})] }
theorem test_witness_RegisterAccess :
  (∃ s : State, ∃ r : Fin 3, ∃ p : Path, Inv s ∧ Readable s.dev p (timeOff r))
  ∧ (∃ s : State, ∃ r : Fin 3, ∃ p : Path, ∃ h : BitVec 32, Inv s ∧ Readable s.dev p (timeOff r + 4) ∧ Sparse.get none s.dev.clk.shadow (shadowKey r.val p) = some h)
  ∧ (∃ s : State, ∃ r : Fin 3, ∃ p : Path, Inv s ∧ Readable s.dev p (timeOff r + 4) ∧ Sparse.get none s.dev.clk.shadow (shadowKey r.val p) = none)
  ∧ (∃ s : State, ∃ r : Fin 3, ∃ p : Path, Inv s ∧ Readable s.dev p (timeOff r))
  ∧ (∃ s : State, ∃ p : Path, ∃ i : Fin 4, ∃ v : Word64, Inv s ∧ Reaches s.dev p (0x300080 + 8 * i.val))
  ∧ (∃ s : State, ∃ p : Path, ∃ i : Fin 4, ∃ v : Word64, Inv s ∧ Reaches s.dev p (0x300080 + 8 * i.val))
  ∧ (∃ s : State, ∃ p : Path, ∃ off : CsrOff, ∃ n : Fin 9, ∃ v : Word64, Inv s ∧ Reaches s.dev p off.toNat ∧ (¬ ((n.val = 4 ∨ n.val = 8) ∧ off.toNat % n.val = 0)) ∧ (off.toNat < 0x400000 ∨ 0x408000 ≤ off.toNat))
  ∧ (∃ s : State, ∃ p : Path, ∃ k : Fin 4096, ∃ v : Word64, Inv s ∧ Reaches s.dev p (0x400000 + 8 * k.val) ∧ 8 ≤ k.val ∧ s.dev.keepProtected k.val = false ∧ s.dev.rst.pfail = false ∧ s.dev.keep.running = none) :=
  ⟨⟨st rel, 0, .servicePort, by decide⟩,
   ⟨st re, 0, .servicePort, 5, by decide⟩,
   ⟨st rel, 0, .servicePort, by decide⟩,
   ⟨st rel, 0, .servicePort, by decide⟩,
   ⟨st rel, .servicePort, 0, 0x123456789ABCDEF0, by decide⟩,
   ⟨st rel, .servicePort, 0, 0x123456789ABCDEF0, by decide⟩,
   ⟨st rel, .servicePort, 5, 0, 0x123456789ABCDEF0, by decide⟩,
   ⟨st rel, .servicePort, 4095, 0x123456789ABCDEF0, by decide⟩⟩
theorem test_witness_PortResets :
  (∃ s : State, ∃ n : Unit4, s.dev.aReleased = true ∧ s.dev.prtEff PC_MODE n.val ≠ 1 ∧ s.dev.ringFed n.val = false ∧ Sparse.get none s.dev.rst.port n.val = none)
  ∧ (∃ s : State, ∃ n : Unit4, Inv s ∧ s.dev.aReleased = true ∧ s.dev.prtEff PC_MODE n.val ≠ 1 ∧ s.dev.ringFed n.val = false ∧ (Sparse.get none s.dev.rst.port n.val).isSome = true ∧ s.dev.rst.held = [])
  ∧ (∃ s : State, ∃ n : Unit4, ∃ h : Bool, Inv s ∧ s.dev.load.aDone = false ∧ s.dev.ringFed n.val = false ∧ s.dev.rst.held = [])
  ∧ (∃ s : State, ∃ n : Unit4, ∃ h : Bool, Inv s ∧ s.dev.rst.held = [] ∧ (((s.dev.load.aDone = true ∧ s.dev.prtEff PC_MODE n.val = 1) ∨ s.dev.ringFed n.val = true)))
  ∧ (∃ s : State, ∃ n : Unit4, ∃ t : Nat, Inv s ∧ s.dev.aReleased = true ∧ s.dev.prtEff PC_MODE n.val ≠ 1 ∧ s.dev.ringFed n.val = false ∧ Sparse.get none s.dev.rst.port n.val = some t ∧ s.dev.rst.held = [])
  ∧ (∃ s : State, ∃ n : Unit4, ∃ t : Nat, Inv s ∧ s.dev.aReleased = true ∧ s.dev.prtEff PC_MODE n.val = 1 ∧ (s.dev.prtOf n.val).perstOut = false ∧ (s.dev.prtOf n.val).perstAt = some t) :=
  ⟨⟨st rel, 0, by decide⟩,
   ⟨st re, 1, by decide⟩,
   ⟨st live, 0, true, by decide⟩,
   ⟨st re, 2, true, by decide⟩,
   ⟨st re, 1, 7, by decide⟩,
   ⟨st re, 2, 3, by decide⟩⟩
end B05

namespace B06
def b16 : List Byte := leBytes 16 0x0102030405060708090A0B0C0D0E0F
def cs (off : Nat) : List Byte := leBytes 8 off ++ leBytes 8 0x123456789ABCDEF0
def sx (t st i tgt : Nat) (b : List Byte) : Sect := { typ := t, stage := st, flags := 0, index := i, offset := 0, length := 16, target := tgt, iv := 0, digest := Config.sha384 b }
def ld (state : Nat) (x : Sect) : Dev := { live.setF CFG_STATE state with load := { hdr := some { secVersion := 0, stageA := 3, flags := 0, syncTimeout := 0, pkIndex := 0, keySlot := 0, pubkey := 0, wrapped := 0, flash := {}, sects := [x, x] } } }
def sects : List Sect := [sx 1 0 0 0 (cs 0x300080), sx 2 0 1 0 b16, sx 0x10 1 3 0 b16, sx 0x11 1 3 0 b16, sx 0x20 1 3 64 b16, sx 0x30 1 3 64 b16, sx 0x40 1 0 128 b16, sx 0x50 0 3 0 b16, sx 0x51 1 7 0 b16]
def hb : List Byte := ([69, 81, 54, 52, 46, 66, 76, 73] ++ leBytes 4 1 ++ leBytes 4 0 ++ leBytes 2 1 ++ leBytes 2 1 ++ leBytes 12 0 ++ ([4,0,100,3,0,0,0,0,4,0,0,0,0,0,0,0,0,0,0,0,0,0,0,0,0,0,0,0,0,0,0,0] : List Byte) ++ List.replicate (0x400-0x40) 0 ++ leBytes 2 1 ++ leBytes 14 0 ++ leBytes 8 16 ++ List.replicate (16384-0x400-24) 0)
theorem test_witness_LoadHeaderAndSections_header :
  (∃ s : State, ∃ slot : Fin 2, ∃ b : List Byte, HeaderDue s.dev slot ∧ headerForm b ≠ 0)
  ∧ (∃ s : State, ∃ slot : Fin 2, ∃ b : List Byte, HeaderDue s.dev slot ∧ s.dev.load.bOnly = false ∧ headerForm b = 0)
  ∧ (∃ d : Dev, ∃ c : Nat, ∃ st : Nat, d.load.bOnly = false ∧ d.cfgState = 1 ∧ d.load.stream = false ∧ c < 16) :=
  ⟨⟨st (live.setF CFG_STATE 1), 0, b16, by decide⟩,
   ⟨st (live.setF CFG_STATE 1), 0, hb, by decide⟩,
   ⟨(st (live.setF CFG_STATE 1)).dev, 0, 0, by decide⟩⟩
theorem test_witness_LoadHeaderAndSections_sections :
  (∃ s : State, ∃ x : Sect, ∃ b : List Byte, s.dev.load.stream = false ∧ b.length ≠ x.length)
  ∧ (∃ s : State, ∃ x : Sect, ∃ v : Word64, Inv s ∧ Arrives s.dev 0x0001 x (leBytes 8 0x300080 ++ leBytes 8 v.toNat) ∧ s.dev.live = true ∧ s.dev.rst.tripped = false ∧ s.dev.keepStalls .csrSet 0x300080 true = false)
  ∧ (∃ s : State, ∃ x : Sect, ∃ b : List Byte, Inv s ∧ Arrives s.dev 0x0002 x b ∧ s.dev.fbit DIE_PD_UP x.index = true)
  ∧ (∃ s : State, ∃ x : Sect, ∃ b : List Byte, Arrives s.dev 0x0002 x b ∧ s.dev.fbit DIE_PD_UP x.index = false)
  ∧ (∃ s : State, ∃ x : Sect, ∃ b : List Byte, Arrives s.dev 0x0010 x b)
  ∧ (∃ s : State, ∃ x : Sect, ∃ b : List Byte, Inv s ∧ Arrives s.dev 0x0011 x b)
  ∧ (∃ s : State, ∃ x : Sect, ∃ b : List Byte, Inv s ∧ Arrives s.dev 0x0020 x b ∧ x.index < 64 ∧ x.target + b.length ≤ s.dev.tcBase ∧ 0 < b.length)
  ∧ (∃ s : State, ∃ x : Sect, ∃ b : List Byte, Arrives s.dev 0x0030 x b ∧ x.target + b.length ≤ hbmEnd ∧ s.dev.dataStatus x.target b.length = 0 ∧ ((∀ h ∈ s.dev.hbmTouched x.target b.length, s.dev.fbit DIE_HBM_CTL_OK h = true)))
  ∧ (∃ s : State, ∃ x : Sect, ∃ b : List Byte, Arrives s.dev 0x0040 x b ∧ x.typ = 0x0040 ∧ x.target + b.length ≤ hbmEnd ∧ s.dev.dataStatus x.target b.length = 0 ∧ ((∀ h ∈ s.dev.hbmTouched x.target b.length, s.dev.fbit DIE_HBM_CTL_OK h = true)))
  ∧ (∃ s : State, ∃ x : Sect, ∃ b : List Byte, Inv s ∧ Arrives s.dev 0x0040 x b ∧ x.target + b.length ≤ hbmEnd ∧ s.dev.dataStatus x.target b.length = 0 ∧ (s.dev.hbmTouched x.target b.length).any (fun h => !(s.dev.fbit DIE_HBM_CTL_OK h || (s.dev.hbmOf h).trained)) = true)
  ∧ (∃ s : State, ∃ x : Sect, ∃ b : List Byte, s.dev.load.hbmWait = some b ∧ s.dev.loading = true ∧ ({ s.dev with load := { s.dev.load with hbmWait := none } } : Dev).sectDue 0x0040 = some x)
  ∧ (∃ s : State, ∃ x : Sect, ∃ b : List Byte, Inv s ∧ s.dev.fld CFG_MODE = 0)
  ∧ (∃ s : State, ∃ target : BitVec 16, ∃ b : List Byte, Inv s ∧ s.dev.loading = true ∧ s.dev.fld CFG_MODE = 1 ∧ s.dev.load.stream = true ∧ s.dev.load.pkts = true ∧ (target.toNat = s.dev.fld CFG_CHAIN_ID ∨ target.toNat = 0xFFFF)) :=
  ⟨⟨st ((ld 2 (sx 1 0 0 0 (cs 0x300080))).setF DIE_PD_UP 0xFF), sx 1 0 0 0 (cs 0x300080), [], by decide⟩,
   ⟨st ((ld 2 (sx 1 0 0 0 (cs 0x300080))).setF DIE_PD_UP 0xFF), sx 1 0 0 0 (cs 0x300080), 0x123456789ABCDEF0, by decide, ⟨by rfl, by decide, by decide, by decide, by rfl, by decide, by decide⟩, by decide⟩,
   ⟨st ((ld 2 (sx 2 0 1 0 b16)).setF DIE_PD_UP 0xFF), sx 2 0 1 0 b16, b16, by decide, ⟨by rfl, by decide, by decide, by decide, by rfl, by decide, by decide⟩, by decide⟩,
   ⟨st (ld 2 (sx 2 0 1 0 b16)), sx 2 0 1 0 b16, b16, ⟨by rfl, by decide, by decide, by decide, by rfl, by decide, by decide⟩, by decide⟩,
   ⟨st ((ld 3 (sx 0x10 1 3 0 b16)).setF DIE_PD_UP 0xFF), sx 0x10 1 3 0 b16, b16, ⟨by rfl, by decide, by decide, by decide, by rfl, by decide, by decide⟩⟩,
   ⟨st ((ld 3 (sx 0x11 1 3 0 b16)).setF DIE_PD_UP 0xFF), sx 0x11 1 3 0 b16, b16, by decide, ⟨by rfl, by decide, by decide, by decide, by rfl, by decide, by decide⟩⟩,
   ⟨st ((ld 3 (sx 0x20 1 3 64 b16)).setF DIE_PD_UP 0xFF), sx 0x20 1 3 64 b16, b16, by decide, ⟨by rfl, by decide, by decide, by decide, by rfl, by decide, by decide⟩, by decide⟩,
   ⟨st ((ld 3 (sx 0x30 1 3 64 b16)).setF DIE_HBM_CTL_OK 0xFFFF), sx 0x30 1 3 64 b16, b16, ⟨by rfl, by decide, by decide, by decide, by rfl, by decide, by decide⟩, by decide⟩,
   ⟨st ((ld 3 (sx 0x40 1 0 128 b16)).setF DIE_HBM_CTL_OK 0xFFFF), sx 0x40 1 0 128 b16, b16, ⟨by rfl, by decide, by decide, by decide, by rfl, by decide, by decide⟩, by decide⟩,
   ⟨st ((ld 3 (sx 0x40 1 0 128 b16)).setF DIE_PD_UP 0xFF), sx 0x40 1 0 128 b16, b16, by decide, ⟨by rfl, by decide, by decide, by decide, by rfl, by decide, by decide⟩, by decide⟩,
   ⟨let d := (ld 3 (sx 0x40 1 0 128 b16)).setF DIE_HBM_CTL_OK 0xFFFF; st { d with load := {d.load with hbmWait := some b16 }}, sx 0x40 1 0 128 b16, b16, by decide, by decide, by rfl⟩,
   ⟨st ((ld 2 (sx 0x50 0 3 0 b16)).setF DIE_PD_UP 0xFF), sx 0x50 0 3 0 b16, b16, by decide⟩,
   ⟨st { (live.setF CFG_STATE 1).setF CFG_MODE 1 with load := {stream := true, pkts := true}}, 0, b16, by decide⟩⟩
end B06

namespace B07
def x0 : Sect := { typ := 1, stage := 0, flags := 0, index := 0, offset := 0, length := 16, target := 0, iv := 0, digest := 5 }
def hd (fl : Nat) : Hdr := { secVersion := 0, stageA := 1, flags := fl, syncTimeout := 0, pkIndex := 0, keySlot := 0, pubkey := 7, wrapped := 0, flash := {}, sects := [x0, {x0 with stage := 1}] }
def ld (state nx fl : Nat) : Dev := { live.setF CFG_STATE state with load := { hdr := some (hd fl), next := nx }, clk := {ts := 5000} }
def scr : Dev := { rel.setF SCRUB_EN 1 with load := { rel.load with nonEss := [(196608 + 5, true), (196608+32+2, true)], scrubPos := [(1, 1), (2, 6143)] } }
def bindBad : Dev := { ((ld 3 2 1).setF ETH_REGION 3 0 0).setF EPORT_RATE 8 0 0 with load := { hdr := some (hd 1), next := 2, loaded := [(3, true)] }, clk := { fclk := [] } }
def kk : BitVec 64 := 0x7E80000000000000
theorem test_witness_LoadStages :
  (∃ s : State, ∃ h : Hdr, s.dev.load.hdr = some h ∧ s.dev.loading = true ∧ s.dev.cfgState = 2 ∧ s.dev.load.next = h.stageA)
  ∧ (∃ s : State, ∃ h : Hdr, Inv s ∧ s.dev.load.hdr = some h ∧ s.dev.loading = true ∧ s.dev.cfgState = 3 ∧ s.dev.load.next = h.sects.length ∧ s.dev.load.hbmWait = none ∧ bitAt h.flags 0 = true ∧ s.dev.bindingsFit = true)
  ∧ (∃ s : State, ∃ h : Hdr, s.dev.load.hdr = some h ∧ s.dev.loading = true ∧ s.dev.cfgState = 3 ∧ s.dev.load.next = h.sects.length ∧ s.dev.load.hbmWait = none ∧ bitAt h.flags 0 = false ∧ s.dev.bindingsFit = true)
  ∧ (∃ s : State, ∃ h : Hdr, s.dev.load.hdr = some h ∧ s.dev.loading = true ∧ s.dev.cfgState = 3 ∧ s.dev.load.next = h.sects.length ∧ s.dev.load.hbmWait = none ∧ bitAt h.flags 0 = true ∧ s.dev.bindingsFit = false)
  ∧ (∃ s : State, s.dev.syncWaits = true)
  ∧ (∃ s : State, ∃ p : Path, ∃ v : Word64, Reaches s.dev p 0x100008 ∧ v.getLsbD 1 = false ∧ v.getLsbD 2 = true ∧ s.dev.syncWaits = true)
  ∧ (∃ s : State, ∃ h : Hdr, s.dev.load.hdr = some h ∧ s.dev.syncWaits = true)
  ∧ (∃ s : State, s.dev.loading = true ∧ s.dev.load.stream = true)
  ∧ (∃ s : State, ∃ p : Path, ∃ v : Word64, Inv s ∧ Reaches s.dev p 0x100008 ∧ v.getLsbD 1 = true ∧ v.getLsbD 2 = false ∧ s.dev.live = true ∧ s.dev.rst.pfail = false ∧ s.dev.rst.reload = none ∧ (s.dev.cfgState = 6 ∨ s.dev.cfgState = 7))
  ∧ (∃ s : State, ∃ p : Path, ∃ v : Word64, Inv s ∧ Reaches s.dev p 0x100010 ∧ s.dev.loading = true ∧ s.dev.load.stream = true ∧ s.dev.load.pkts = false)
  ∧ (∃ s : State, ∃ p : Path, ∃ v : Word64, Inv s ∧ Reaches s.dev p 0x100010 ∧ s.dev.loading = false)
  ∧ (∃ s : State, ∃ p : Path, ∃ v : Word64, Inv s ∧ Reaches s.dev p 0x100010) :=
  ⟨⟨st (ld 2 1 0), hd 0, by decide⟩,
   ⟨st (ld 3 2 1), hd 1, by decide⟩,
   ⟨st (ld 3 2 0), hd 0, by decide⟩,
   ⟨st bindBad, hd 1, by decide⟩,
   ⟨st (ld 4 2 1), by decide⟩,
   ⟨st (ld 4 2 1), .servicePort, 4, by decide⟩,
   ⟨st (ld 4 2 1), hd 1, by decide⟩,
   ⟨st {live.setF CFG_STATE 1 with load := {stream := true}}, by decide⟩,
   ⟨st (live.setF CFG_STATE 6), .servicePort, 2, by decide⟩,
   ⟨st {live.setF CFG_STATE 1 with load := {stream := true}}, .servicePort, 4, by decide⟩,
   ⟨st (ld 4 2 1), .servicePort, 4, by decide⟩,
   ⟨st (ld 2 1 0), .servicePort, 4, by decide⟩⟩
theorem test_witness_KeysAndScrubber :
  (∃ s : State, ∃ p : Path, ∃ v : Word64, Inv s ∧ Reaches s.dev p 0x100200 ∧ bits v.toNat 48 16 ≠ 0x7E80)
  ∧ (∃ s : State, ∃ p : Path, ∃ v : Word64, Inv s ∧ Reaches s.dev p 0x100200 ∧ bits v.toNat 48 16 = 0x7E80 ∧ v.getLsbD 0 = true ∧ v.getLsbD 1 = false ∧ s.dev.cfgState = 6)
  ∧ (∃ s : State, ∃ p : Path, ∃ v : Word64, Inv s ∧ Reaches s.dev p 0x100200 ∧ bits v.toNat 48 16 = 0x7E80 ∧ v.getLsbD 0 = true ∧ v.getLsbD 1 = false ∧ s.dev.cfgState ≠ 6)
  ∧ (∃ s : State, ∃ p : Path, ∃ v : Word64, Inv s ∧ Reaches s.dev p 0x100200 ∧ bits v.toNat 48 16 = 0x7E80 ∧ v.getLsbD 0 = false ∧ v.getLsbD 1 = true)
  ∧ (∃ s : State, ∃ r : Region, Inv s ∧ s.dev.released = true ∧ s.dev.flag SCRUB_EN = true ∧ s.dev.regionBusy r.val = false ∧ ((∀ w : Fin 32, NatSet.has s.dev.load.bad (r.val * 196608 + 32 * Sparse.get 0 s.dev.load.scrubPos r.val + w.val) = false)))
  ∧ (∃ s : State, ∃ r : Region, ∃ w : Fin 32, ∃ b : Fin 64, s.dev.released = true ∧ s.dev.flag SCRUB_EN = true ∧ s.dev.regionBusy r.val = false)
  ∧ (∃ s : State, ∃ r : Region, ∃ w : Fin 32, s.dev.released = true ∧ s.dev.flag SCRUB_EN = true ∧ s.dev.regionBusy r.val = false)
  ∧ (∃ s : State, ∃ r : Region, ∃ w : Fin 32, s.dev.released = true ∧ s.dev.flag SCRUB_EN = true ∧ s.dev.regionBusy r.val = false ∧ ((∀ v : Fin 32, NatSet.has s.dev.load.bad (r.val * 196608 + 32 * Sparse.get 0 s.dev.load.scrubPos r.val + v.val) = decide (v = w)))) :=
  ⟨⟨st (ld 2 1 0), .servicePort, 4, by decide⟩,
   ⟨st (live.setF CFG_STATE 6), .servicePort, kk + 1, by decide⟩,
   ⟨st (ld 2 1 0), .servicePort, kk + 1, by decide⟩,
   ⟨st (ld 2 1 0), .servicePort, kk+2, by decide⟩,
   ⟨st scr, 0, by decide⟩,
   ⟨st scr, 0, 0, 0, by decide⟩,
   ⟨st scr, 0, 0, by decide⟩,
   ⟨st ({ scr with load := { scr.load with bad := [(65, true)] , scrubPos := [(0,2)]} }.setF REP_STATE 3), 0, 1, by decide⟩⟩
end B07

namespace B08
def kb : Dev := { live with keep := { words := [(9, 77), (4095, 5)], wear := [(2, 1000000), (7, 3)], ecc := [(1, 1), (4095, 2)], running := some ({path := .jtag, word := 2, data := 55}, 7), queue := [{path := .smbus, word := 4, data := 4}] }, clk := {ts := 99} }
def wp : Dev := live.setF KEEP_WP (2^63) 63
def e1 : EmbEnt := { ts := 7, event := 0x0401, cls := .D, detail := [dU 2 7] }
def e2 : EmbEnt := { ts := 9, event := 0x0007, cls := .I, detail := [dU 2 7] }
def em (q : List EmbEnt) (h p : Nat) : Dev := { live with ember := { live.ember with ready := true, queue := q, head := h, pinCount := p, seqNext := 33, area := [(0, 77), (1, 2^77+5), (5, 8), (2048, 9), (131071, 7)], clearing := if p = 3 then some (4, 5, true) else none} }
def crcd : Nat := let b := leBytes 60 8; leNat b + crc32 b * 2 ^ 480
def kk : BitVec 64 := 0x3E1D000000000000
theorem test_witness_KeepBank :
  (∃ s : State, ∃ p : Path, ∃ n : Fin 4096, ∃ v : Word64, Inv s ∧ Reaches s.dev p (0x400000 + 8 * n.val) ∧ 8 ≤ n.val ∧ s.dev.keepProtected n.val = false ∧ s.dev.rst.pfail = false ∧ s.dev.keep.running = none)
  ∧ (∃ s : State, ∃ p : Path, ∃ n : Fin 4096, ∃ v : Word64, ∃ r : KeepWr, ∃ t : Nat, Inv s ∧ Reaches s.dev p (0x400000 + 8 * n.val) ∧ 8 ≤ n.val ∧ s.dev.keepProtected n.val = false ∧ s.dev.rst.pfail = false ∧ s.dev.keep.running = some (r, t) ∧ r.at_ ≠ s.dev.clk.tick ∧ ((∀ x ∈ s.dev.keep.queue, x.at_ ≠ s.dev.clk.tick)))
  ∧ (∃ s : State, ∃ p : Path, ∃ n : Fin 4096, ∃ v : Word64, ∃ r : KeepWr, ∃ t : Nat, Inv s ∧ Reaches s.dev p (0x400000 + 8 * n.val) ∧ 8 ≤ n.val ∧ s.dev.keepProtected n.val = false ∧ s.dev.rst.pfail = false ∧ s.dev.keep.running = some (r, t) ∧ r.at_ = s.dev.clk.tick ∧ s.dev.keep.queue = [])
  ∧ (∃ s : State, ∃ p : Path, ∃ n : Fin 4096, ∃ v : Word64, Inv s ∧ Reaches s.dev p (0x400000 + 8 * n.val) ∧ n.val < 8 ∧ s.dev.rst.pfail = false)
  ∧ (∃ s : State, ∃ p : Path, ∃ n : Fin 4096, ∃ v : Word64, Inv s ∧ Reaches s.dev p (0x400000 + 8 * n.val))
  ∧ (∃ s : State, ∃ p : Path, ∃ n : Fin 4096, ∃ v : Word64, Inv s ∧ Reaches s.dev p (0x400000 + 8 * n.val) ∧ 8 ≤ n.val ∧ s.dev.keepProtected n.val = true ∧ s.dev.rst.pfail = false)
  ∧ (∃ s : State, ∃ p : Path, ∃ n : Fin 4096, ∃ v : Word64, Inv s ∧ Reaches s.dev p (0x400000 + 8 * n.val) ∧ s.dev.rst.pfail = true)
  ∧ (∃ s : State, ∃ w : KeepWr, ∃ t : Nat, s.dev.keep.running = some (w, t))
  ∧ (∃ s : State, ∃ p : Path, ∃ n : Fin 8192, Inv s ∧ Readable s.dev p (0x400000 + 8 * n.val) ∧ Sparse.get 0 s.dev.keep.ecc n.val = 0)
  ∧ (∃ s : State, ∃ p : Path, ∃ n : Fin 8192, Inv s ∧ Readable s.dev p (0x400000 + 8 * n.val) ∧ Sparse.get 0 s.dev.keep.ecc n.val ≠ 2)
  ∧ (∃ s : State, ∃ p : Path, ∃ n : Fin 8192, Readable s.dev p (0x400000 + 8 * n.val)) :=
  ⟨⟨st live, .servicePort, 9, 200000, by decide⟩,
   ⟨st { kb with keep := {kb.keep with ecc := [(4097, 1), (8191, 2)]}, clk := {tick := 5}}, .servicePort, 9, 200000, {path := .jtag, word := 2, data := 55}, 7, by decide⟩,
   ⟨st { live with keep := {running := some ({path := .smbus, word := 4, data := 4}, 0)}}, .servicePort, 9, 200000, {path := .smbus, word := 4, data := 4}, 0, by decide⟩,
   ⟨st live, .servicePort, 0, 200000, by decide⟩,
   ⟨st live, .servicePort, 0, 200000, by decide⟩,
   ⟨st wp, .servicePort, 4095, 200000, by decide⟩,
   ⟨st {live with rst := {pfail := true}}, .servicePort, 0, 200000, by decide⟩,
   ⟨st kb, {path := .jtag, word := 2, data := 55}, 7, by decide⟩,
   ⟨st live, .servicePort, 0, by decide⟩,
   ⟨st live, .servicePort, 0, by decide⟩,
   ⟨st live, .servicePort, 0, by decide⟩⟩
theorem test_witness_EmberRecord :
  (∃ s : State, ∃ e : EmbEnt, ∃ r : List EmbEnt, Inv s ∧ s.dev.ember.ready = true ∧ s.dev.ember.queue = e :: r ∧ s.dev.ember.lost = 0 ∧ s.dev.ember.pinCount ≠ 2047 ∧ 2048 ≤ s.dev.ember.head)
  ∧ (∃ s : State, ∃ e : EmbEnt, ∃ r : List EmbEnt, Inv s ∧ s.dev.ember.ready = true ∧ s.dev.ember.queue = e :: r ∧ 2048 ≤ s.dev.ember.head ∧ s.dev.ember.lost = 0 ∧ s.dev.ember.pinCount < 2047 ∧ s.dev.flag EMB_CLEARING = false ∧ e.noPin = false)
  ∧ (∃ s : State, Inv s ∧ s.dev.ember.ready = false ∧ s.dev.ember.clearing = none ∧ s.dev.ember.reserved = none)
  ∧ (∃ s : State, ∃ i : Nat, ∃ q : Nat, Inv s ∧ s.dev.ember.ready = false ∧ s.dev.ember.clearing = none ∧ s.dev.ember.reserved = some (i, q, 0) ∧ embSeqOf (s.dev.embAt i) ≠ q ∧ s.dev.ember.resetDue = [] ∧ s.dev.running = false)
  ∧ (∃ s : State, ∃ i : Nat, ∃ q : Nat, ∃ k : Nat, Inv s ∧ s.dev.ember.ready = false ∧ s.dev.ember.clearing = none ∧ s.dev.ember.reserved = some (i, q, k + 1) ∧ embSeqOf (s.dev.embAt i) = q ∧ embCrcOk (s.dev.embAt i) = true ∧ embSeqOf (s.dev.embAt k) ≠ q ∧ s.dev.ember.resetDue = [] ∧ s.dev.running = false)
  ∧ (∃ s : State, ∃ p : Path, ∃ v : Word64, Inv s ∧ Reaches s.dev p 0x300010 ∧ v.toNat < 131072)
  ∧ (∃ s : State, ∃ p : Path, ∃ v : Word64, Inv s ∧ Reaches s.dev p 0x300010 ∧ 131071 < v.toNat)
  ∧ (∃ s : State, ∃ p : Path, ∃ v : Word64, Inv s ∧ Reaches s.dev p 0x300200 ∧ bits v.toNat 48 16 ≠ 0x3E1D)
  ∧ (∃ s : State, ∃ p : Path, ∃ v : Word64, Inv s ∧ Reaches s.dev p 0x300200 ∧ bits v.toNat 48 16 = 0x3E1D ∧ v.getLsbD 0 = true)
  ∧ (∃ s : State, ∃ lo : Nat, ∃ hi : Nat, ∃ op : Bool, Inv s ∧ s.dev.ember.clearing = some (lo, hi, op))
  ∧ (∃ s : State, ∃ lo : Nat, ∃ hi : Nat, ∃ op : Bool, s.dev.ember.ready = false ∧ s.dev.ember.clearing = some (lo, hi, op) ∧ s.dev.ember.reserved = none ∧ s.dev.ember.resetDue = []) :=
  ⟨⟨st (em [e1, e2] 2048 2), e1, [e2], by decide⟩,
   ⟨st (em [e1, e2] 2048 2), e1, [e2], by decide⟩,
   ⟨st { live with ember := {live.ember with ready := false, resetDue := [(0, 1), (1, 3)] }}, by decide⟩,
   ⟨st { live with ember := {live.ember with ready := false, reserved := some (3, 7, 0) }}, 3, 7, by decide⟩,
   ⟨st { em [] 2050 7 with ember := {(em [] 2050 7).ember with ready := false, reserved := some (5, 8, 5), area := [(4, 3), (5, crcd)] }}, 5, 8, 4, by decide⟩,
   ⟨st live, .servicePort, 1, by decide⟩,
   ⟨st live, .servicePort, 200000, by decide⟩,
   ⟨st live, .servicePort, 200000, by decide⟩,
   ⟨st live, .servicePort, kk + 1, by decide⟩,
   ⟨st (em [e2, e1] 131071 3), 4, 5, true, by decide⟩,
   ⟨st { em [] 2050 3 with ember := {(em [] 2050 3).ember with ready := false}}, 4, 5, true, by decide⟩⟩
theorem test_witness_UserEntries :
  (∃ s : State, ∃ p : Path, ∃ v : Word64, Inv s ∧ Reaches s.dev p 0x3000A0)
  ∧ (∃ ts : Nat, ∃ code : Nat, ∃ a : Nat, ∃ b : Nat, ∃ c : Nat, ∃ e : Nat, ∃ seq : Nat, ∃ epoch : Nat, ∃ pin : Bool, code < 256 ∧ a < 2 ^ 64 ∧ b < 2 ^ 64 ∧ c < 2 ^ 64 ∧ e < 2 ^ 32) :=
  ⟨⟨st live, .servicePort, 200000, by decide⟩,
   ⟨55, 7, 1, 2, 3, 4, 5, 6, true, by decide⟩⟩
end B08

namespace B09
def rg : Dev := { rel with load := { rel.load with loaded := [(0, true), (1, true)] }, mem := [(0x030000000003, 7), (0x030000004003, 9)], clk := {ts := 77} }
def md (m : Nat) (q : Qc) : Dev := { ((rg.setF QC_MODE m 0).setF QC_MODE m 1).setF QC_WIDTH 3 1 with fab := { qc := [(0, q), (1, q)] } }
def qa : QAcc := { rid := 3, tag := 4, off := 0, len := 8, wr := none, since := 5 }
def ir (rd : Bool) : IReq := { tag := 9, read := rd, addr := 5, len := 64, src := 33, since := some 3 }
def gt (g : Gate) : Dev := { rg with fab := { gate := [(0, g), (1, g)] } }
theorem test_witness_FabricRamAndQueues :
  (∃ s : State, ∃ b : Fin 6144, ∃ i : Fin 16384, ∃ v : BitVec 128, Inv s ∧ s.dev.qcMode b.val = 0 ∧ s.dev.portA b.val = true ∧ i.val < s.dev.qcEntries b.val)
  ∧ (∃ s : State, ∃ b : Fin 6144, ∃ i : Fin 16384, ∃ v : BitVec 128, ∃ w : BitVec 128, Inv s ∧ s.dev.qcMode b.val = 0 ∧ s.dev.portA b.val = true ∧ s.dev.portB b.val = true ∧ i.val < s.dev.qcEntries b.val)
  ∧ (∃ s : State, ∃ b : Fin 6144, ∃ i : Fin 16384, Inv s ∧ s.dev.qcMode b.val = 0 ∧ s.dev.portA b.val = true ∧ i.val < s.dev.qcEntries b.val ∧ s.dev.rawBad (s.dev.entryAddr b.val i.val) (s.dev.qcBytes b.val) = false)
  ∧ (∃ s : State, ∃ b : Fin 6144, ∃ i : Fin 16384, Inv s ∧ (s.dev.qcMode b.val = 0 ∨ s.dev.qcMode b.val = 2) ∧ s.dev.portB b.val = true ∧ i.val < s.dev.qcEntries b.val ∧ s.dev.qcWidth b.val ≤ 3)
  ∧ (∃ s : State, ∃ b : Fin 6144, ∃ w : Fin 2048, Inv s ∧ s.dev.live = true ∧ (s.dev.qcOf b.val).patrol = w.val ∧ s.dev.rawBad (blockAddr b.val + 8 * w.val) 8 = false)
  ∧ (∃ s : State, ∃ b : Fin 6144, ∃ w : Fin 2048, Inv s ∧ s.dev.live = true ∧ (s.dev.qcOf b.val).patrol = w.val ∧ s.dev.rawBad (blockAddr b.val + 8 * w.val) 8 = false)
  ∧ (∃ s : State, ∃ b : Fin 6144, ∃ w : Fin 2048, Inv s ∧ s.dev.live = true ∧ (s.dev.qcOf b.val).patrol = w.val)
  ∧ (∃ s : State, ∃ b : Fin 6144, ∃ v : BitVec 128, s.dev.qcMode b.val = 1 ∧ s.dev.portA b.val = true ∧ s.dev.qcFull b.val = false)
  ∧ (∃ s : State, ∃ b : Fin 6144, ∃ v : BitVec 128, Inv s ∧ s.dev.qcMode b.val = 1 ∧ s.dev.portA b.val = true ∧ s.dev.qcFull b.val = true)
  ∧ (∃ s : State, ∃ b : Fin 6144, s.dev.qcMode b.val = 1 ∧ s.dev.portB b.val = true ∧ (s.dev.qcOf b.val).count ≠ 0 ∧ s.dev.rawBad (s.dev.entryAddr b.val (s.dev.qcOf b.val).rd) (s.dev.qcBytes b.val) = false)
  ∧ (∃ s : State, ∃ b : Fin 6144, Inv s ∧ s.dev.qcMode b.val = 1 ∧ s.dev.portB b.val = true ∧ (s.dev.qcOf b.val).count = 0)
  ∧ (∃ s : State, ∃ b : Fin 6144, ∃ v : BitVec 128, s.dev.qcMode b.val = 2 ∧ s.dev.portA b.val = true ∧ (s.dev.qcOf b.val).stopped = false)
  ∧ (∃ s : State, ∃ b : Fin 6144, ∃ v : BitVec 128, Inv s ∧ (s.dev.qcOf b.val).stopped = true)
  ∧ (∃ s : State, ∃ b : Fin 6144, Inv s ∧ s.dev.qcMode b.val = 2 ∧ s.dev.portA b.val = true ∧ (s.dev.qcOf b.val).trigLevel = false ∧ (s.dev.qcOf b.val).triggered = false)
  ∧ (∃ s : State, ∃ b : Fin 6144, ∃ l : Bool, Inv s ∧ s.dev.qcMode b.val = 2 ∧ s.dev.portA b.val = true ∧ (l = false ∨ (s.dev.qcOf b.val).trigLevel = true ∨ (s.dev.qcOf b.val).triggered = true))
  ∧ (∃ s : State, ∃ b : Fin 6144, ∃ p : Path, ∃ v : Word64, Inv s ∧ Reaches s.dev p (0x9000028 + 0x800 * b.val) ∧ v.getLsbD 63 = true)
  ∧ (∃ s : State, ∃ b : Fin 6144, ∃ v : BitVec 128, s.dev.qcMode b.val = 3 ∧ s.dev.portA b.val = true ∧ s.dev.qcAvail b.val ≠ 0)
  ∧ (∃ s : State, ∃ b : Fin 6144, ∃ v : BitVec 128, Inv s ∧ s.dev.qcMode b.val = 3 ∧ s.dev.portA b.val = true ∧ s.dev.qcAvail b.val = 0)
  ∧ (∃ s : State, ∃ b : Fin 6144, s.dev.qcMode b.val = 3 ∧ s.dev.portB b.val = true ∧ (s.dev.qcOf b.val).count ≠ 0 ∧ s.dev.rawBad (s.dev.entryAddr b.val (s.dev.qcOf b.val).rd) (s.dev.qcBytes b.val) = false)
  ∧ (∃ s : State, ∃ b : Fin 6144, Inv s ∧ s.dev.qcMode b.val = 3 ∧ s.dev.portB b.val = true ∧ (s.dev.qcOf b.val).count = 0)
  ∧ (∃ s : State, ∃ b : Fin 6144, ∃ pop : Bool, s.dev.live = true) :=
  ⟨⟨st rg, 0, 0, 5, by decide⟩,
   ⟨st rg, 0, 0, 5, 5, by decide⟩,
   ⟨st rg, 0, 0, by decide⟩,
   ⟨st rg, 0, 0, by decide⟩,
   ⟨st rg, 0, 0, by decide⟩,
   ⟨st rg, 0, 0, by decide⟩,
   ⟨st rg, 0, 0, by decide⟩,
   ⟨st (md 1 { len := 3, rd := 16383, hidden := 1 }), 0, 5, by decide⟩,
   ⟨st (md 1 {len := 16384}), 0, 5, by decide⟩,
   ⟨st (md 1 { len := 3, rd := 16383, hidden := 1 }), 0, by decide⟩,
   ⟨st (md 1 {}), 0, by decide⟩,
   ⟨st (md 2 {head := 16383, triggered := true, postLeft := 1}), 0, 5, by decide⟩,
   ⟨st (md 2 {head := 7, stopped := true}), 0, 5, by decide⟩,
   ⟨st (md 2 {head := 7, stopped := true}), 0, by decide⟩,
   ⟨st (md 2 {head := 16383, triggered := true, postLeft := 1}), 0, true, by decide⟩,
   ⟨st rg, 0, .servicePort, 1 <<< 63, by decide⟩,
   ⟨st (md 3 {len := 2}), 0, 5, by decide⟩,
   ⟨st (md 3 {len := 16384, hidden := 16384}), 0, 5, by decide⟩,
   ⟨st (md 3 {len := 2}), 0, by decide⟩,
   ⟨st (md 3 {len := 16384, hidden := 16384}), 0, by decide⟩,
   ⟨st rg, 0, true, by decide⟩⟩
theorem test_witness_FabricDeviceSide :
  (∃ s : State, ∃ q : Rq, ∃ b : Fin 6144, ∃ off : BitVec 14, ∃ w : WrBytes, s.dev.live = true ∧ s.dev.flag QC_EXPORT b.val = false ∧ off.toNat + w.length ≤ 16384)
  ∧ (∃ s : State, ∃ q : Rq, ∃ b : Fin 6144, ∃ off : BitVec 14, ∃ w : WrBytes, s.dev.live = true ∧ s.dev.flag QC_EXPORT b.val = true ∧ off.toNat + w.length ≤ 16384 ∧ 0 < w.length ∧ s.dev.regionBusy (blockRegion b.val) = false ∧ s.dev.qcMode b.val = 0 ∧ (s.dev.qcOf b.val).waiting = [])
  ∧ (∃ s : State, ∃ q : Rq, ∃ b : Fin 6144, ∃ off : BitVec 14, ∃ n : Nat, s.dev.live = true ∧ s.dev.flag QC_EXPORT b.val = true ∧ off.toNat + n ≤ 16384 ∧ 0 < n ∧ s.dev.regionBusy (blockRegion b.val) = true)
  ∧ (∃ s : State, ∃ b : Fin 6144, ∃ x : QAcc, s.dev.live = true ∧ (s.dev.qcOf b.val).waiting = [x])
  ∧ (∃ s : State, ∃ r : Region, ∃ tag : BitVec 7, ∃ a : DevAddr, ∃ n : Nat, s.dev.regionRuns r.val = true ∧ s.dev.gateDrains r.val = false ∧ (s.dev.gateOf r.val).outCount true < 64 ∧ (Dev.oreqShape a.toNat n && oreqRemote a.toNat n) = false)
  ∧ (∃ s : State, ∃ r : Region, ∃ tag : BitVec 7, ∃ a : DevAddr, ∃ n : Nat, s.dev.regionRuns r.val = true ∧ s.dev.gateDrains r.val = false ∧ (s.dev.gateOf r.val).outCount true < 64 ∧ Dev.oreqShape a.toNat n = true ∧ oreqRemote a.toNat n = true)
  ∧ (∃ s : State, ∃ r : Region, ∃ tag : BitVec 7, ∃ a : DevAddr, ∃ n : Nat, Inv s ∧ 64 ≤ (s.dev.gateOf r.val).outCount true)
  ∧ (∃ s : State, ∃ r : Region, ∃ x : IReq, s.dev.regionRuns r.val = true ∧ (s.dev.gateOf r.val).inq = [x] ∧ x.read = false)
  ∧ (∃ s : State, ∃ r : Region, ∃ x : IReq, Inv s ∧ s.dev.regionRuns r.val = true ∧ (s.dev.gateOf r.val).inq = [x] ∧ x.read = true)
  ∧ (∃ s : State, ∃ r : Region, ∃ x : IReq, ∃ t : Nat, s.dev.live = true ∧ (s.dev.gateOf r.val).inq = [] ∧ (s.dev.gateOf r.val).reads = [x] ∧ x.since = some t ∧ x.tag < 65536)
  ∧ (∃ s : State, ∃ r : Region, ∃ x : IReq, ∃ c : Fin 11, ∃ bs : List Byte, s.dev.regionRuns r.val = true ∧ (s.dev.gateOf r.val).reads = [x] ∧ x.tag < 65536)
  ∧ (∃ s : State, ∃ r : Region, ∃ tag : BitVec 16, ∃ c : Fin 11, ∃ bs : List Byte, Inv s ∧ s.dev.regionRuns r.val = true ∧ (s.dev.gateOf r.val).reads = [] ∧ (s.dev.gateOf r.val).late = [tag.toNat]) :=
  ⟨⟨st rg, { stop := 3, unit := 1, tag := 5 }, 0, 8, allOn (leBytes 8 77), by decide⟩,
   ⟨st (rg.setF QC_EXPORT 1 0), { stop := 3, unit := 1, tag := 5 }, 0, 8, allOn (leBytes 8 77), by decide⟩,
   ⟨st { rg.setF QC_EXPORT 1 0 with fab := { frozen := [(0, true)] }}, { stop := 3, unit := 1, tag := 5 }, 0, 8, 3, by decide⟩,
   ⟨st (md 3 {waiting := [qa]}), 0, qa, by decide⟩,
   ⟨st rg, 0, 8, 0, 0, by decide⟩,
   ⟨st rg, 0, 8, 0, 64, by decide⟩,
   ⟨st (gt {out := List.replicate 64 { slot := 3, tag := 4, read := true }}), 0, 8, 0, 0, by decide⟩,
   ⟨st (gt {inq := [ir false]}), 0, ir false, by decide⟩,
   ⟨st (gt {inq := [ir true]}), 0, ir true, by decide⟩,
   ⟨st (gt {reads := [ir true]}), 0, ir true, 3, by decide⟩,
   ⟨st (gt {reads := [ir true]}), 0, ir true, 0, leBytes 8 77, by decide⟩,
   ⟨st (gt {late := [9]}), 0, 9, 0, leBytes 8 77, by decide⟩⟩
end B09

namespace B10
def rg (l : List (Nat × Slice)) : Dev := { rel with load := { rel.load with loaded := [(0, true), (1, true), (31, true)] }, fab := {slice := l}, mem := [(0x030000000003, 7), (0x030000004003, 9)], clk := {ts := 77} }
def sl (c : SliceCfg) : Slice := { cfg := c, ag := c, accRe := 2^47 - 5, accIm := -(2^47) + 3, bex := 3, ovf := false, valid := true, sat := true, outRe := 3, idx := 1023, pos := 5, k := 3, j := 2 }
theorem test_witness_SliceOperations :
  (∃ s : State, ∃ n : Fin 4096, Inv s ∧ s.dev.regionRuns (sliceRegion n.val) = true)
  ∧ (∃ s : State, ∃ n : Fin 4096, ∃ a : C18, ∃ b : C18, ∃ sh : BitVec 6, Inv s ∧ s.dev.regionRuns (sliceRegion n.val) = true)
  ∧ (∃ s : State, ∃ n : Fin 4096, ∃ a : C18, ∃ b : C18, ∃ sh : BitVec 6, Inv s ∧ s.dev.regionRuns (sliceRegion n.val) = true)
  ∧ (∃ s : State, ∃ n : Fin 4096, ∃ a : C18, ∃ b : C18, ∃ c : C18, ∃ sh : BitVec 6, Inv s ∧ s.dev.regionRuns (sliceRegion n.val) = true)
  ∧ (∃ s : State, ∃ n : Fin 4096, ∃ a : C18, ∃ b : C18, ∃ sh : BitVec 6, Inv s ∧ s.dev.regionRuns (sliceRegion n.val) = true)
  ∧ (∃ s : State, ∃ n : Fin 4096, ∃ a : C18, ∃ b : C18, ∃ sh : BitVec 6, Inv s ∧ s.dev.regionRuns (sliceRegion n.val) = true)
  ∧ (∃ s : State, ∃ n : Fin 4096, ∃ a : C18, ∃ b : C18, ∃ sh : BitVec 6, Inv s ∧ s.dev.regionRuns (sliceRegion n.val) = true)
  ∧ (∃ s : State, ∃ n : Fin 4096, Inv s ∧ s.dev.regionRuns (sliceRegion n.val) = true) :=
  ⟨⟨st (rg []), 0, by decide⟩,
   ⟨st (rg []), 0, ⟨5, 7⟩, ⟨5, 7⟩, 8, by decide⟩,
   ⟨st (rg []), 0, ⟨5, 7⟩, ⟨5, 7⟩, 8, by decide⟩,
   ⟨st (rg []), 0, ⟨5, 7⟩, ⟨5, 7⟩, ⟨5, 7⟩, 8, by decide⟩,
   ⟨st (rg []), 0, ⟨5, 7⟩, ⟨5, 7⟩, 8, by decide⟩,
   ⟨st (rg []), 0, ⟨5, 7⟩, ⟨5, 7⟩, 8, by decide⟩,
   ⟨st (rg []), 0, ⟨5, 7⟩, ⟨5, 7⟩, 8, by decide⟩,
   ⟨st (rg []), 0, by decide⟩⟩
theorem test_witness_SliceOverflow :
  (∃ s : State, ∃ n : Fin 4096, ∃ a : C18, ∃ b : C18, ∃ c : C18, ∃ sh : BitVec 6, Inv s ∧ s.dev.regionRuns (sliceRegion n.val) = true)
  ∧ (∃ s : State, ∃ n : Fin 4096, Inv s)
  ∧ (∃ s : State, ∃ n : Fin 4096, ∃ now : Bool, Inv s ∧ s.dev.regionRuns (sliceRegion n.val) = true)
  ∧ (∃ d : Dev, ∃ r : Nat, ∃ n : Nat, n ∈ slicesOf r) :=
  ⟨⟨st (rg []), 0, ⟨5, 7⟩, ⟨5, 7⟩, ⟨5, 7⟩, 8, by decide⟩,
   ⟨st (rg []), 0, by decide⟩,
   ⟨st (rg []), 0, true, by decide⟩,
   ⟨rel, 0, 0, by decide⟩⟩
theorem test_witness_SliceOutputAndAddresses_output :
  (∃ s : State, ∃ n : Fin 4096, ∃ a : C18, ∃ b : C18, ∃ sh : BitVec 6, Inv s ∧ s.dev.regionRuns (sliceRegion n.val) = true)
  ∧ (∃ k : Nat, ∃ v : Int, 0 < k)
  ∧ (∃ x : Int, -(2 ^ 47) ≤ x ∧ x < 2 ^ 47)
  ∧ (∃ s : State, ∃ n : Fin 4096, Inv s ∧ s.dev.regionRuns (sliceRegion n.val) = true)
  ∧ (∃ s : State, ∃ n : Fin 4096, Inv s ∧ s.dev.regionRuns (sliceRegion n.val) = true) :=
  ⟨⟨st (rg []), 0, ⟨5, 7⟩, ⟨5, 7⟩, 8, by decide⟩,
   ⟨3, 0, by decide⟩,
   ⟨0, by decide⟩,
   ⟨st (rg []), 0, by decide⟩,
   ⟨st (rg []), 0, by decide⟩⟩
theorem test_witness_SliceOutputAndAddresses_addresses :
  (∃ s : State, ∃ n : Fin 4096, ∃ len : BitVec 16, ∃ so : BitVec 16, ∃ nI : BitVec 16, ∃ nO : BitVec 16, Inv s ∧ s.dev.regionRuns (sliceRegion n.val) = true ∧ (s.dev.sliceOf n.val).cfg.base < 65536)
  ∧ (∃ s : State, ∃ n : Fin 4096, Inv s ∧ s.dev.regionRuns (sliceRegion n.val) = true ∧ (s.dev.sliceOf n.val).ag.mode = 0)
  ∧ (∃ s : State, ∃ n : Fin 4096, Inv s ∧ s.dev.regionRuns (sliceRegion n.val) = true ∧ (s.dev.sliceOf n.val).ag.mode = 1 ∧ 0 < (s.dev.sliceOf n.val).ag.len ∧ (s.dev.sliceOf n.val).pos < (s.dev.sliceOf n.val).ag.len)
  ∧ (∃ c : SliceCfg, 0 < c.len)
  ∧ (∃ s : State, ∃ n : Fin 4096, Inv s ∧ s.dev.regionRuns (sliceRegion n.val) = true ∧ (s.dev.sliceOf n.val).ag.mode = 2)
  ∧ (∃ s : State, ∃ n : Fin 4096, Inv s ∧ s.dev.regionRuns (sliceRegion n.val) = true ∧ (s.dev.sliceOf n.val).ag.mode = 3) :=
  ⟨⟨st (rg []), 0, 0, 0, 0, 0, by decide⟩,
   ⟨st (rg []), 0, by decide⟩,
   ⟨st (rg [(0, sl {rnd := 1, outShift := 4}), (1, sl {accSat := true, rnd := 2, cshift := 3, wide := false, outShift := 40}), (2, sl { shiftSrc := true, mode := 1, step := 65530, len := 7}), (4095, sl {rnd := 0, outShift := 30, mode := 2})]), 2, by decide⟩,
   ⟨{mode := 3}, by decide⟩,
   ⟨st (rg [(0, sl {rnd := 1, outShift := 4}), (1, sl {accSat := true, rnd := 2, cshift := 3, wide := false, outShift := 40}), (2, sl { shiftSrc := true, mode := 1, step := 65530, len := 7}), (4095, sl {rnd := 0, outShift := 30, mode := 2})]), 4095, by decide⟩,
   ⟨st (rg [(0, sl {mode := 3, nI := 5, nO := 3, strideO := 9, step := 4}), (1, sl {mode := 3, nI := 4, nO := 3, strideO := 9, step := 4}),(2, sl {mode := 3, nI := 4, nO := 4, strideO := 9, step := 4}), (4095, {sl {mode := 1, step := 5, len := 9} with ovf := true})]), 0, by decide⟩⟩
end B10

namespace B11
def ex (n : Nat) (f : Fab) : Dev := { ((rel.setF EXCH_STATE n).setF EXCH_REGION 1).setF EXCH_AT 100 with load := { rel.load with loaded := [(0, true), (1, true)], nonEss := [(196608+3, true), (5, true)] }, clk := {ts := 77, tick := 7, root := 99999}, fab := f }
def x1 : Sect := { typ := 0x10, stage := 1, flags := 0, index := 1, offset := 32, length := 32, target := 0, iv := 0, digest := 5 }
def out1 : Gate := { out := [{slot := 3, tag := 3, read := true}, {slot := 4, tag := 4, read := false}] }
theorem test_witness_RegionExchange :
  (∃ s : State, ∃ p : Path, ∃ v : Word64, Inv s ∧ Reaches s.dev p 0x100310 ∧ v.getLsbD 32 = true ∧ s.dev.goReason v.toNat ≠ 0)
  ∧ (∃ s : State, ∃ p : Path, ∃ v : Word64, Inv s ∧ Reaches s.dev p 0x100310 ∧ v.getLsbD 32 = true ∧ s.dev.goReason v.toNat = 0)
  ∧ (∃ s : State, s.dev.exchLive 1 = true)
  ∧ (∃ s : State, Inv s ∧ s.dev.exchLive 2 = true ∧ s.dev.fab.exch.sects = [])
  ∧ (∃ s : State, ∃ x : Sect, ∃ l : List Sect, s.dev.exchLive 2 = true ∧ s.dev.fab.exch.sects = x :: l ∧ (s.fresh.exchRead x.offset x.length).2.1 = true)
  ∧ (∃ s : State, Inv s ∧ s.dev.exchLive 3 = true ∧ s.dev.running = false ∧ s.dev.clk.ts ≤ s.dev.fld EXCH_AT)
  ∧ (∃ s : State, Inv s ∧ s.dev.exchLive 4 = true ∧ (s.dev.gateOf s.dev.exchRegion).drained = true)
  ∧ (∃ s : State, s.dev.exchLive 4 = true ∧ (s.dev.gateOf s.dev.exchRegion).drained = false)
  ∧ (∃ s : State, Inv s ∧ s.dev.exchLive 5 = true ∧ s.dev.fab.exch.sects = [])
  ∧ (∃ s : State, ∃ x : Sect, s.dev.exchLive 5 = true ∧ s.dev.fab.exch.sects = [x] ∧ (s.fresh.exchRead x.offset x.length).2.1 = true)
  ∧ (∃ s : State, s.dev.exchLive 6 = true) :=
  ⟨⟨st live, .servicePort, 0x4E3C000100000001, by decide⟩,
   ⟨st (ex 0 {}), .servicePort, 0x4E3C000100000001, by decide⟩,
   ⟨st (ex 1 {}), by decide⟩,
   ⟨st (ex 2 {}), by decide⟩,
   ⟨st (ex 2 {exch := {sects := [x1]}}), x1, [], by decide⟩,
   ⟨st (ex 3 {}), by decide⟩,
   ⟨st (ex 4 {}), by decide⟩,
   ⟨st (ex 4 {gate := [(1, out1)]}), by decide⟩,
   ⟨st (ex 5 {}), by decide⟩,
   ⟨st (ex 5 {exch := {sects := [x1]}}), x1, by decide⟩,
   ⟨st (ex 6 {frozen := [(1, true)]}), by decide⟩⟩
theorem test_witness_HandoverCells :
  (∃ s : State, ∃ r : Region, ∃ t : Fin 16, Inv s ∧ s.dev.released = true ∧ NatSet.has s.dev.fab.hxStop (16 * r.val + t.val) = false ∧ NatSet.has s.dev.load.loaded r.val = true ∧ s.dev.regionBusy r.val = false ∧ s.dev.hxMatchAt r.val t.val ≤ s.dev.clk.root ∧ Sparse.get 0 s.dev.fab.hxFirst (16 * r.val + t.val) = 0)
  ∧ (∃ s : State, ∃ r : Region, ∃ t : Fin 16, ∃ at_ : Nat, Inv s ∧ s.dev.released = true ∧ NatSet.has s.dev.fab.hxStop (16 * r.val + t.val) = false ∧ NatSet.has s.dev.load.loaded r.val = true ∧ s.dev.regionBusy r.val = false ∧ s.dev.hxMatchAt r.val t.val ≤ s.dev.clk.root ∧ Sparse.get 0 s.dev.fab.hxFirst (16 * r.val + t.val) = 1 + at_)
  ∧ (∃ s : State, ∃ r : Region, ∃ t : Fin 16, Inv s ∧ s.dev.released = true ∧ NatSet.has s.dev.fab.hxStop (16 * r.val + t.val) = false ∧ s.dev.regionBusy r.val = true ∧ s.dev.hxMatchAt r.val t.val ≤ s.dev.clk.root)
  ∧ (∃ s : State, ∃ r : Region, ∃ t : Fin 16, Inv s ∧ (s.dev.clk.root < s.dev.hxMatchAt r.val t.val ∨ NatSet.has s.dev.fab.hxStop (16 * r.val + t.val) = true))
  ∧ (∃ s : State, ∃ r : Region, ∃ n : Fin 32, ∃ up : Bool, Inv s ∧ s.dev.released = true ∧ bitAt (s.dev.fld HX_SENSE r.val n.val) (if up then 0 else 1) = true ∧ s.dev.regionBusy r.val = false)
  ∧ (∃ s : State, ∃ r : Region, ∃ n : Fin 32, ∃ up : Bool, Inv s ∧ s.dev.released = true ∧ bitAt (s.dev.fld HX_SENSE r.val n.val) (if up then 0 else 1) = true ∧ s.dev.regionBusy r.val = true)
  ∧ (∃ s : State, ∃ r : Region, ∃ n : Fin 32, ∃ up : Bool, Inv s ∧ bitAt (s.dev.fld HX_SENSE r.val n.val) (if up then 0 else 1) = false)
  ∧ (∃ s : State, ∃ r : Region, ∃ c : Fin 4, Inv s ∧ s.dev.regionRuns r.val = true)
  ∧ (∃ s : State, ∃ r : Region, ∃ c : Fin 4, ∃ x : HxSet, Inv s ∧ s.dev.regionRuns r.val = true ∧ s.dev.flag HX_HO_PEND r.val c.val = true)
  ∧ (∃ s : State, ∃ r : Region, ∃ c : Fin 4, ∃ i : Fin 4, ∃ cmp : BitVec 48, ∃ pre : BitVec 8, ∃ src : Bool, ∃ per : Bool, Inv s ∧ s.dev.regionRuns r.val = true ∧ s.dev.flag HX_HO_PEND r.val c.val = false)
  ∧ (∃ s : State, ∃ r : Region, ∃ c : Fin 4, ∃ i : Fin 8, ∃ sense : BitVec 2, Inv s ∧ s.dev.regionRuns r.val = true ∧ s.dev.flag HX_HO_PEND r.val c.val = false) :=
  ⟨⟨st (ex 0 {}), 0, 0, by decide⟩,
   ⟨st (ex 0 {hxFirst := [(18, 99990), (3, 10)]}), 1, 2, 99989, by decide⟩,
   ⟨st (ex 6 {frozen := [(1, true)]}), 1, 0, by decide⟩,
   ⟨st (((ex 0 {hxStop := [(17, true)]}).setF HX_CMP 9000000 0 0).setF HX_PERIODIC 1 0 1), 0, 0, by decide⟩,
   ⟨st (((((ex 0 {}).setF HX_SENSE 1 1 0).setF HX_SENSE 2 0 1).setF HX_HO_PEND 1 0 0).setF HX_MISSED 9 0 0), 0, 1, false, by decide⟩,
   ⟨st (((ex 0 {frozen := [(1, true)]}).setF HX_PERIODIC 1 1 2).setF HX_SENSE 3 1 2), 1, 2, true, by decide⟩,
   ⟨st live, 0, 0, true, by decide⟩,
   ⟨st (ex 0 {}), 0, 0, by decide⟩,
   ⟨st (((((ex 0 {}).setF HX_SENSE 1 1 0).setF HX_SENSE 2 0 1).setF HX_HO_PEND 1 0 0).setF HX_MISSED 9 0 0), 0, 0, .edge 3 2, by decide⟩,
   ⟨st (ex 0 {}), 0, 0, 0, 5, 5, true, true, by decide⟩,
   ⟨st (ex 0 {}), 0, 0, 0, 3, by decide⟩⟩
end B11

namespace B12
def an (a : Ann) : Dev := { rel with ann := a, load := { rel.load with loaded := [(0, true), (1, true)] } }
def c0 : Cred := { flits := 1, occ := 2, owed := 1 }
def cs : List (Nat × Cred) := Sparse.set {} (Sparse.set {} [] (credKey 6 7 0) c0) (credKey 7 6 0) { owed := 3 }
def rqb : FlitBody := .req 1 0 3 (0x020000000040) 0 0 5 0
def rsb : FlitBody := .rsp 1 0 3 0 0 7
def dab : FlitBody := .datA 0 3 0 false 77 5
def dbb : FlitBody := .datB 0 3 0 false 77
def fl (q : Nat) : Flit := { ring := 0, src := 6, dst := 7, body := rqb, seq := q, last := true, copy := false }
def nf (t : Nat) (b : FlitBody) : NewFlit := { dst := BitVec.ofNat 7 t, body := b, last := true }
def fr : Flit := { ring := 2, src := 6, dst := 7, body := rsb, last := true }
def l0 : LockReq := { stop := 6, unit := 0, tag := 3, owner := some (.tile 2), lock := 7, op := 0 }
def lk (st : Nat) (o : Option Owner) (w : List LockReq) : List (Nat × Lock) := Sparse.set {} [] 7 { state := st, owner := o, waiters := w }
def ls (l : List (Nat × Lock)) (r : LockReq) : State := st (an { locks := l, reqs := [r] })
def l1 : LockReq := { l0 with op := 1 }
def l2 : LockReq := { l0 with op := 2 }
def ln : LockReq := { l0 with owner := none }
theorem test_witness_AnnulusFlits :
  (∃ s : State, ∃ src : Stop, ∃ x : NewFlit, ∃ k : Fin 10, ∃ n : Fin 118, Inv s ∧ s.dev.live = true ∧ reservedStop src.val = false ∧ x.dst.toNat < 118 ∧ reservedStop x.dst.toNat = false ∧ src.val ≠ x.dst.toNat ∧ Sparse.get 0 s.dev.ann.begun (src.val * 16 + ringFor src.val x.dst.toNat x.body.cls) = 0 ∧ s.dev.slotTaken k.val n.val = true)
  ∧ (∃ s : State, ∃ src : Stop, ∃ x : NewFlit, ∃ k : Fin 10, ∃ n : Fin 118, Inv s ∧ s.dev.live = true ∧ reservedStop src.val = false ∧ x.dst.toNat < 118 ∧ reservedStop x.dst.toNat = false ∧ src.val ≠ x.dst.toNat ∧ s.dev.slotTaken k.val n.val = true ∧ Sparse.get 0 s.dev.ann.begun (src.val * 16 + ringFor src.val x.dst.toNat x.body.cls) ≠ 0 ∧ Sparse.get 0 s.dev.ann.begun (src.val * 16 + ringFor src.val x.dst.toNat x.body.cls) ≠ (x.queued src.val).packet)
  ∧ (∃ s : State, ∃ src : Stop, ∃ k : Fin 10, ∃ n : Fin 118, ∃ f : Flit, Inv s ∧ s.dev.live = true ∧ reservedStop src.val = false ∧ (s.dev.injOf src.val k.val).head? = some f ∧ (f.src = src.val ∧ f.ring = k.val ∧ f.hand = false) ∧ f.body.cls ≠ .rsp ∧ s.dev.slotTakes src.val k.val n.val f = true)
  ∧ (∃ s : State, ∃ src : Stop, ∃ k : Fin 10, ∃ n : Fin 118, ∃ f : Flit, Inv s ∧ s.dev.live = true ∧ reservedStop src.val = false ∧ (s.dev.injOf src.val k.val).head? = some f ∧ (f.src = src.val ∧ f.ring = k.val ∧ f.hand = false) ∧ f.body.cls = .rsp ∧ s.dev.ann.hand = none ∧ s.dev.slotTakes src.val k.val n.val f = true)
  ∧ (∃ s : State, ∃ src : Stop, ∃ k : Fin 10, ∃ n : Fin 118, Inv s ∧ reservedStop src.val = false ∧ (s.dev.injOf src.val k.val).head?.any (fun f => s.dev.slotTakes src.val k.val n.val f) = false)
  ∧ (∃ s : State, ∃ src : Stop, ∃ x : NewFlit, ∃ k : Fin 10, ∃ n : Fin 118, s.dev.live = true ∧ reservedStop src.val = false ∧ 118 ≤ x.dst.toNat ∧ s.dev.slotTaken k.val n.val = true)
  ∧ (∃ s : State, ∃ n : Stop, ∃ k : Fin 10, ∃ i : Fin 118, Inv s ∧ s.dev.live = true ∧ reservedStop n.val = false ∧ s.dev.ringFailed k.val = false ∧ s.dev.ann.hand = none ∧ s.dev.keptFor k.val i.val = 0 ∧ s.dev.slotTaken k.val i.val = true ∧ Sparse.get 0 s.dev.ann.ready (n.val * 16 + k.val) ≠ 0 ∧ Sparse.get 0 s.dev.ann.ready (n.val * 16 + k.val) + 64 ≤ s.dev.nclk + 1 ∧ ((∀ j : Fin 118, s.dev.keptFor k.val j.val ≠ n.val + 1)))
  ∧ (∃ s : State, ∃ n : Stop, ∃ k : Fin 10, ∃ i : Fin 118, Inv s ∧ s.dev.ann.hand = none ∧ s.dev.keptFor k.val i.val ≠ n.val + 1 ∧ ((Sparse.get 0 s.dev.ann.ready (n.val * 16 + k.val) = 0 ∨ s.dev.nclk + 1 < Sparse.get 0 s.dev.ann.ready (n.val * 16 + k.val) + 64)))
  ∧ (∃ s : State, ∃ n : Stop, ∃ k : Fin 10, ∃ i : Fin 118, Inv s ∧ s.dev.live = true ∧ reservedStop n.val = false ∧ s.dev.ringFailed k.val = false ∧ s.dev.ann.hand = none ∧ s.dev.keptFor k.val i.val = n.val + 1 ∧ s.dev.slotTaken k.val i.val = false ∧ Sparse.get 0 s.dev.ann.ready (n.val * 16 + k.val) = 0)
  ∧ (∃ s : State, ∃ src : Stop, ∃ dst : Stop, ∃ c : FCls, ∃ x : Fin 3, ∃ f : Flit, Inv s ∧ s.dev.live = true ∧ cwFrom src.val dst.val = true ∧ s.dev.ringFailed (clsRing c) = false ∧ credClass c = some x.val ∧ s.dev.oldest src.val dst.val c = some f ∧ f.dead = false ∧ f.hand = false ∧ Sparse.get 0 s.dev.ann.seqRx (seqKey src.val dst.val f.ring) = f.seq)
  ∧ (∃ s : State, ∃ src : Stop, ∃ dst : Stop, ∃ c : FCls, ∃ f : Flit, Inv s ∧ s.dev.live = true ∧ cwFrom src.val dst.val = true ∧ s.dev.ringFailed (clsRing c) = false ∧ s.dev.oldest src.val dst.val c = some f ∧ f.dead = false ∧ Sparse.get 0 s.dev.ann.seqRx (seqKey src.val dst.val f.ring) ≠ f.seq)
  ∧ (∃ s : State, ∃ src : Stop, ∃ dst : Stop, ∃ c : FCls, ∃ f : Flit, Inv s ∧ s.dev.live = true ∧ cwFrom src.val dst.val = true ∧ s.dev.ringFailed (clsRing c) = false ∧ s.dev.oldest src.val dst.val c = some f ∧ f.dead = true ∧ Sparse.get 0 s.dev.ann.seqRx (seqKey src.val dst.val f.ring) = f.seq)
  ∧ (∃ s : State, ∃ dst : Stop, ∃ c : FCls, ∃ e : Flit × Nat, s.dev.live = true ∧ s.dev.nextTaken dst.val c = some e ∧ s.dev.hbmFull e.1 = false)
  ∧ (∃ d : Dev, ∃ f : Flit, ∃ x : Fin 3, f.hand = false ∧ credClass f.body.cls = some x.val)
  ∧ (∃ s : State, ∃ src : Stop, ∃ dst : Stop, ∃ c : FCls, ∃ x : Fin 3, ∃ f : Flit, s.dev.live = true ∧ credClass c = some x.val ∧ s.dev.oldest src.val dst.val c = some f ∧ f.hand = false ∧ s.dev.ringFailed f.ring = false)
  ∧ (∃ s : State, ∃ k : Fin 10, ∃ n : Stop, s.dev.live = true ∧ s.dev.ringFailed k.val = false)
  ∧ (∃ s : State, ∃ k : Fin 10, ∃ n : Stop, s.dev.live = true ∧ s.dev.ringFailed k.val = false ∧ Sparse.get 0 s.dev.ann.retries k.val = 2)
  ∧ (∃ s : State, ∃ src : Stop, ∃ dst : Stop, Inv s ∧ s.dev.owedTo src.val dst.val = 0)
  ∧ (∃ s : State, ∃ src : Stop, ∃ dst : Stop, Inv s ∧ s.dev.live = true ∧ s.dev.ringFailed (ringFor src.val dst.val .rsp) = false ∧ s.dev.owedTo src.val dst.val ≠ 0 ∧ s.dev.ann.flits = [] ∧ s.dev.ann.kept = []) :=
  ⟨⟨st (an {cred := cs, flits := [fl 0]}), 0, nf 7 rqb, 0, 0, by decide⟩,
   ⟨st (an {begun := [(96, 77)], flits := [fl 3]}), 6, nf 7 rqb, 0, 0, by decide⟩,
   ⟨st (an {injq := [(6*16, [fl 0, fl 1])], seqTx := [(seqKey 6 7 0, 9)]}), 6, 0, 0, fl 0, by decide⟩,
   ⟨st (an {cred := cs, injq := [(6*16, [fl 0, fl 1]), (6*16+2, [fr])], seqTx := [(seqKey 6 7 0, 9)]}), 6, 2, 0, fr, by decide⟩,
   ⟨st live, 0, 0, 0, by decide⟩,
   ⟨st (an {cred := cs, flits := [fl 0]}), 0, nf 120 dbb, 0, 0, by decide⟩,
   ⟨st { an {flits := [fl 3], ready := [(96, 3)]} with clk := {root := 9999} }, 6, 0, 0, by decide⟩,
   ⟨st live, 0, 0, 0, by decide⟩,
   ⟨st (an {cred := cs, injq := [(6*16, [fl 0, fl 1]), (6*16+2, [fr])], kept := [(0, 7)], flits := [{fl 3 with slot := 3}]}), 6, 0, 0, by decide⟩,
   ⟨st (an {cred := cs, flits := [fl 0]}), 6, 7, .req, 0, fl 0, by decide⟩,
   ⟨st (an {cred := cs, flits := [fl 5]}), 6, 7, .req, fl 5, by decide⟩,
   ⟨st (an {cred := cs, flits := [{fl 0 with dead := true}]}), 6, 7, .req, {fl 0 with dead := true}, by decide⟩,
   ⟨st (an {cred := cs, ejq := [(7, [(fl 0, 3), ({fl 0 with body := dab}, 3), ({fl 0 with body := rsb}, 4)])]}), 7, .req, (fl 0, 3), by decide⟩,
   ⟨(st (an {cred := cs})).dev, fl 0, 0, by decide⟩,
   ⟨st (an {cred := cs, flits := [fl 0]}), 6, 7, .req, 0, fl 0, by decide⟩,
   ⟨st live, 0, 0, by decide⟩,
   ⟨st ((an {retries := [(0, 2)]}).setF RING_FAILED 1 1), 0, 0, by decide⟩,
   ⟨st live, 0, 0, by decide⟩,
   ⟨st (an {cred := cs}), 6, 7, by decide⟩⟩
theorem test_witness_RingLocks :
  (∃ s : State, ∃ q : Rq, ∃ n : Fin 256, Inv s ∧ s.dev.live = true ∧ s.dev.lockWaits q.stop.val = false)
  ∧ (∃ s : State, ∃ q : Rq, ∃ n : Fin 256, Inv s ∧ s.dev.live = true ∧ s.dev.lockWaits q.stop.val = false)
  ∧ (∃ s : State, ∃ q : Rq, ∃ n : Fin 256, Inv s ∧ s.dev.live = true ∧ s.dev.lockWaits q.stop.val = false)
  ∧ (∃ s : State, ∃ q : Rq, ∃ n : Fin 256, Inv s ∧ s.dev.live = true ∧ s.dev.lockWaits q.stop.val = true)
  ∧ (∃ s : State, ∃ v : Word64, Inv s ∧ Reaches s.dev .servicePort 0x3000028)
  ∧ (∃ s : State, ∃ p : Path, ∃ v : Word64, Inv s ∧ p ≠ .servicePort ∧ Reaches s.dev p 0x3000028)
  ∧ (∃ s : State, ∃ o : Owner, Inv s ∧ s.dev.live = true)
  ∧ (∃ s : State, ∃ r : LockReq, s.dev.live = true ∧ s.dev.ann.notices = [] ∧ s.dev.ann.reqs = [r] ∧ r.lock < 192 ∧ r.owner ≠ none ∧ s.dev.lockRemote r = none ∧ r.op ≠ 2 ∧ (s.dev.lockOf r.lock).state = 0)
  ∧ (∃ s : State, ∃ r : LockReq, s.dev.live = true ∧ s.dev.ann.notices = [] ∧ s.dev.ann.reqs = [r] ∧ r.lock < 192 ∧ r.owner ≠ none ∧ s.dev.lockRemote r = none ∧ r.op ≠ 2 ∧ (s.dev.lockOf r.lock).state = 2)
  ∧ (∃ s : State, ∃ r : LockReq, s.dev.live = true ∧ s.dev.ann.notices = [] ∧ s.dev.ann.reqs = [r] ∧ r.lock < 192 ∧ r.owner ≠ none ∧ s.dev.lockRemote r = none ∧ r.op = 0 ∧ (((s.dev.lockOf r.lock).state = 1 ∨ (s.dev.lockOf r.lock).state = 3)))
  ∧ (∃ s : State, ∃ r : LockReq, Inv s ∧ s.dev.live = true ∧ s.dev.ann.notices = [] ∧ s.dev.ann.reqs = [r] ∧ r.lock < 192 ∧ r.owner ≠ none ∧ s.dev.lockRemote r = none ∧ r.op = 1 ∧ (((s.dev.lockOf r.lock).state = 1 ∨ (s.dev.lockOf r.lock).state = 3)) ∧ (s.dev.lockOf r.lock).owner ≠ r.owner ∧ (s.dev.lockOf r.lock).waiters.length < 4)
  ∧ (∃ s : State, ∃ r : LockReq, s.dev.live = true ∧ s.dev.ann.notices = [] ∧ s.dev.ann.reqs = [r] ∧ r.lock < 192 ∧ r.owner ≠ none ∧ s.dev.lockRemote r = none ∧ r.op = 2 ∧ (((s.dev.lockOf r.lock).state = 1 ∨ (s.dev.lockOf r.lock).state = 3)) ∧ (s.dev.lockOf r.lock).owner = r.owner)
  ∧ (∃ s : State, ∃ r : LockReq, s.dev.live = true ∧ s.dev.ann.notices = [] ∧ s.dev.ann.reqs = [r] ∧ r.lock < 192 ∧ r.owner ≠ none ∧ s.dev.lockRemote r = none ∧ r.op = 2 ∧ (s.dev.lockOf r.lock).owner ≠ r.owner)
  ∧ (∃ s : State, ∃ r : LockReq, s.dev.live = true ∧ s.dev.ann.notices = [] ∧ s.dev.ann.reqs = [r] ∧ r.owner = none)
  ∧ (∃ s : State, ∃ o : Owner, ∃ n : Nat, Inv s ∧ s.dev.live = true ∧ s.dev.ann.notices = [o] ∧ s.dev.ann.reqs = [] ∧ s.dev.ann.locks = [(n, { state := 1, owner := some o, waiters := [] })])
  ∧ (∃ s : State, ∃ e : LockErr, Inv s ∧ s.dev.live = true ∧ s.dev.ann.notices = [] ∧ s.dev.ann.reqs = [] ∧ e.double = true ∧ e.waiter = none ∧ (s.dev.lockOf e.lock.val).waiters = [])
  ∧ (∃ s : State, ∃ e : LockErr, ∃ i : Fin 4, Inv s ∧ s.dev.live = true ∧ s.dev.ann.notices = [] ∧ s.dev.ann.reqs = [] ∧ e.double = true ∧ e.waiter = some i)
  ∧ (∃ s : State, ∃ e : LockErr, Inv s ∧ s.dev.live = true ∧ s.dev.ann.notices = [] ∧ s.dev.ann.reqs = [] ∧ e.double = false) :=
  ⟨⟨st live, {stop := 2, unit := 0, tag := 3}, 0, by decide⟩,
   ⟨st live, {stop := 2, unit := 0, tag := 3}, 0, by decide⟩,
   ⟨st live, {stop := 2, unit := 0, tag := 3}, 0, by decide⟩,
   ⟨st { an {} with safe := {handover := some {ltile := 0, out := 6, begun := 3}} }, {stop := 2, unit := 0, tag := 3}, 0, by decide⟩,
   ⟨st live, 1, by decide⟩,
   ⟨st live, .jtag, 1, by decide⟩,
   ⟨st live, .tile 2, by decide⟩,
   ⟨ls [] l0, l0, by decide⟩,
   ⟨ls (lk 2 none []) l0, l0, by decide⟩,
   ⟨ls (lk 1 (some (.tile 3)) []) l0, l0, by decide⟩,
   ⟨ls (lk 1 (some (.tile 3)) []) l1, l1, by decide⟩,
   ⟨ls (lk 1 (some (.tile 2)) []) l2, l2, by decide⟩,
   ⟨ls (lk 1 (some (.tile 3)) []) l2, l2, by decide⟩,
   ⟨ls [] ln, ln, by decide⟩,
   ⟨st (an {notices := [.tile 2], locks := lk 1 (some (.tile 2)) []}), .tile 2, 7, by decide⟩,
   ⟨st live, ⟨7, none, true⟩, by decide⟩,
   ⟨st live, ⟨7, some 0, true⟩, 0, by decide⟩,
   ⟨st live, ⟨7, none, false⟩, by decide⟩⟩
end B12

namespace B12b
def an (a : Ann) : Dev := { rel with ann := a, load := { rel.load with loaded := [(0, true), (1, true)] } }
theorem test_witness_AnnulusRequests :
  (∃ s : State, ∃ q : Rq, ∃ a : DevAddr, ∃ u : Fin 64, ∃ na : Bool, ∃ ef : Bool, s.dev.live = true ∧ s.dev.accStatus a.toNat (64 * (u.val + 1)) ≠ 0)
  ∧ (∃ s : State, ∃ q : Rq, ∃ a : DevAddr, ∃ w : WrBytes, ∃ na : Bool, ∃ ef : Bool, ∃ n : Option (Fin 64), s.dev.live = true ∧ s.dev.accStatus a.toNat w.length ≠ 0)
  ∧ (∃ s : State, ∃ q : Rq, ∃ a : DevAddr, ∃ u : Fin 64, ∃ na : Bool, ∃ ef : Bool, Inv s ∧ s.dev.live = true ∧ s.dev.accStatus a.toNat (64 * (u.val + 1)) = 0 ∧ (inRemoteWindow a.toNat && (64 * (u.val + 1)) % 256 != 0) = false ∧ s.dev.addrHeld (s.dev.localAddr a.toNat) = true)
  ∧ (∃ s : State, ∃ q : Rq, ∃ a : DevAddr, ∃ u : Fin 64, ∃ na : Bool, ∃ ef : Bool, ∃ t : Nat, ∃ off : Nat, s.dev.live = true ∧ s.dev.goes a.toNat (64 * (u.val + 1)) = true ∧ placeOf (s.dev.localAddr a.toNat) = .tile t off)
  ∧ (∃ s : State, ∃ q : Rq, ∃ a : DevAddr, ∃ w : WrBytes, ∃ na : Bool, ∃ ef : Bool, ∃ n : Option (Fin 64), ∃ t : Nat, ∃ off : Nat, s.dev.live = true ∧ s.dev.goes a.toNat w.length = true ∧ placeOf (s.dev.localAddr a.toNat) = .tile t off)
  ∧ (∃ s : State, ∃ q : Rq, ∃ a : DevAddr, ∃ u : Fin 64, ∃ na : Bool, ∃ ef : Bool, s.dev.live = true ∧ s.dev.goes a.toNat (64 * (u.val + 1)) = true ∧ atSlices (placeOf (s.dev.localAddr a.toNat)) = true ∧ s.dev.accepts (s.dev.localAddr a.toNat) (s.dev.rdAsk q a.toNat (64 * (u.val + 1)) na ef) = true)
  ∧ (∃ s : State, ∃ q : Rq, ∃ a : DevAddr, ∃ w : WrBytes, ∃ na : Bool, ∃ ef : Bool, ∃ n : Option (Fin 64), s.dev.live = true ∧ s.dev.goes a.toNat w.length = true ∧ atSlices (placeOf (s.dev.localAddr a.toNat)) = true ∧ s.dev.accepts (s.dev.localAddr a.toNat) (s.dev.wrAsk q a.toNat w na ef) = true)
  ∧ (∃ s : State, ∃ q : Rq, ∃ a : DevAddr, ∃ u : Fin 64, ∃ na : Bool, ∃ ef : Bool, Inv s ∧ s.dev.live = true ∧ s.dev.goes a.toNat (64 * (u.val + 1)) = true ∧ atSlices (placeOf (s.dev.localAddr a.toNat)) = true ∧ s.dev.accepts (s.dev.localAddr a.toNat) (s.dev.rdAsk q a.toNat (64 * (u.val + 1)) na ef) = false)
  ∧ (∃ d : Dev, ∃ k : Nat, ∃ a : Nat, ∃ n : Nat, ∃ na : Bool, ∃ ef : Bool, ∃ rid : Nat, ∃ tag : Nat, ∃ dline : Nat, d.hostCached a = false)
  ∧ (∃ s : State, ∃ q : Rq, ∃ a : DevAddr, ∃ u : Fin 64, ∃ na : Bool, ∃ ef : Bool, ∃ blk : Nat, ∃ off : Nat, s.dev.live = true ∧ s.dev.goes a.toNat (64 * (u.val + 1)) = true ∧ placeOf (s.dev.localAddr a.toNat) = .ram blk off)
  ∧ (∃ s : State, ∃ q : Rq, ∃ a : DevAddr, ∃ w : WrBytes, ∃ na : Bool, ∃ ef : Bool, ∃ n : Option (Fin 64), ∃ blk : Nat, ∃ off : Nat, s.dev.live = true ∧ s.dev.goes a.toNat w.length = true ∧ placeOf (s.dev.localAddr a.toNat) = .ram blk off)
  ∧ (∃ s : State, ∃ q : Rq, ∃ a : DevAddr, ∃ u : Fin 64, ∃ na : Bool, ∃ ef : Bool, ∃ die : Nat, ∃ off : Nat, s.dev.live = true ∧ s.dev.goes a.toNat (64 * (u.val + 1)) = true ∧ placeOf (s.dev.localAddr a.toNat) = .host die off)
  ∧ (∃ s : State, ∃ q : Rq, ∃ a : DevAddr, ∃ w : WrBytes, ∃ na : Bool, ∃ ef : Bool, ∃ n : Option (Fin 64), ∃ die : Nat, ∃ off : Nat, s.dev.live = true ∧ s.dev.goes a.toNat w.length = true ∧ placeOf (s.dev.localAddr a.toNat) = .host die off)
  ∧ (∃ s : State, ∃ q : Rq, ∃ a : DevAddr, ∃ u : Fin 64, ∃ na : Bool, ∃ ef : Bool, s.dev.live = true ∧ s.dev.accStatus a.toNat (64 * (u.val + 1)) = 0 ∧ inRemoteWindow a.toNat = true ∧ (64 * (u.val + 1)) % 256 ≠ 0)
  ∧ (∃ s : State, ∃ q : Rq, ∃ a : DevAddr, ∃ u : Fin 64, ∃ na : Bool, ∃ ef : Bool, ∃ dev : Nat, ∃ off : Nat, s.dev.live = true ∧ s.dev.goes a.toNat (64 * (u.val + 1)) = true ∧ placeOf (s.dev.localAddr a.toNat) = .remote dev off)
  ∧ (∃ s : State, ∃ q : Rq, ∃ a : DevAddr, ∃ w : WrBytes, ∃ na : Bool, ∃ ef : Bool, ∃ n : Option (Fin 64), ∃ dev : Nat, ∃ off : Nat, s.dev.live = true ∧ s.dev.goes a.toNat w.length = true ∧ placeOf (s.dev.localAddr a.toNat) = .remote dev off)
  ∧ (∃ s : State, ∃ q : Rq, ∃ off : CsrOff, ∃ n : Fin 9, ∃ j : Nat, s.dev.live = true ∧ stopKind q.stop.val = .gate j ∧ q.unit.val < 4)
  ∧ (∃ s : State, ∃ q : Rq, ∃ off : CsrOff, ∃ n : Fin 9, ∃ v : Word64, ∃ j : Nat, s.dev.live = true ∧ stopKind q.stop.val = .gate j ∧ q.unit.val < 4)
  ∧ (∃ s : State, ∃ q : Rq, ∃ j : Nat, Inv s ∧ s.dev.live = true ∧ stopKind q.stop.val = .gate j ∧ q.unit.val < 4 ∧ Readable s.dev (.fabric (Fin.ofNat 32 (4 * j + q.unit.val))) 0)
  ∧ (∃ s : State, ∃ q : Rq, ∃ off : CsrOff, ∃ n : Fin 9, ∃ v : Word64, s.dev.live = true ∧ ((∀ j : Fin 8, stopKind q.stop.val ≠ .gate j.val))) :=
  ⟨⟨st live, {stop := 6, unit := 0, tag := 3}, 0, 0, true, true, by decide⟩,
   ⟨st live, {stop := 6, unit := 0, tag := 3}, 0, (List.range 64).map fun i => some (BitVec.ofNat 8 i), true, true, none, by decide⟩,
   ⟨st (let d := { an {} with safe := {handover := some {ltile := 0, out := 6, begun := 3}} }; (d.setF DIE_CEL_OK 3).setF DIE_HBM_CTL_OK 65535), {stop := 6, unit := 0, tag := 3}, 0x020000000040, 0, true, true, by decide⟩,
   ⟨st live, {stop := 6, unit := 0, tag := 3}, 0x020000000040, 0, true, true, 0, 64, by decide⟩,
   ⟨st live, {stop := 6, unit := 0, tag := 3}, 0x020000000040, (List.range 64).map fun i => some (BitVec.ofNat 8 i), true, true, none, 0, 64, by decide⟩,
   ⟨st (let d := { an {} with safe := {handover := some {ltile := 0, out := 6, begun := 3}} }; (d.setF DIE_CEL_OK 3).setF DIE_HBM_CTL_OK 65535), {stop := 6, unit := 0, tag := 3}, 0, 0, true, true, by decide⟩,
   ⟨st (let d := { an {} with safe := {handover := some {ltile := 0, out := 6, begun := 3}} }; (d.setF DIE_CEL_OK 3).setF DIE_HBM_CTL_OK 65535), {stop := 6, unit := 0, tag := 3}, 0, (List.range 64).map fun i => some (BitVec.ofNat 8 i), true, true, none, by decide⟩,
   ⟨st { (an {}).setF DIE_CEL_OK 65535 |>.setF DIE_HBM_CTL_OK 65535 with cel := {intake := [(0, 0, {op := .fence, rid := 3, tag := 4})]}}, {stop := 6, unit := 0, tag := 3}, 0, 0, true, true, by decide⟩,
   ⟨(st live).dev, 0, 0, 0, true, true, 0, 0, 0, by decide⟩,
   ⟨st (((an {}).setF RG_CSR_EN 1 1).setF QC_EXPORT 1 0), {stop := 6, unit := 0, tag := 3}, 0x030000000000, 0, true, true, 0, 0, by decide⟩,
   ⟨st (((an {}).setF RG_CSR_EN 1 1).setF QC_EXPORT 1 0), {stop := 6, unit := 0, tag := 3}, 0x030000000000, (List.range 64).map fun i => some (BitVec.ofNat 8 i), true, true, none, 0, 0, by decide⟩,
   ⟨st (((((an {}).setF CPL_MEMBER 4 0).setPrt 0 { (an {}).prtOf 0 with eff := Sparse.set 0 [] (PC_MODE.key 0 0) 2 }).setF DIE_PD_UP 255)), {stop := 6, unit := 0, tag := 3}, 0x400000000000, 0, true, true, 0, 0, by decide⟩,
   ⟨st (((((an {}).setF CPL_MEMBER 4 0).setPrt 0 { (an {}).prtOf 0 with eff := Sparse.set 0 [] (PC_MODE.key 0 0) 2 }).setF DIE_PD_UP 255)), {stop := 6, unit := 0, tag := 3}, 0x400000000000, (List.range 64).map fun i => some (BitVec.ofNat 8 i), true, true, none, 0, 0, by decide⟩,
   ⟨st (((((an {}).setF CPL_MEMBER 4 0).setPrt 0 { (an {}).prtOf 0 with eff := Sparse.set 0 [] (PC_MODE.key 0 0) 2 }).setF DIE_PD_UP 255)), {stop := 6, unit := 0, tag := 3}, 0x808000000000, 0, true, true, by decide⟩,
   ⟨st (((((an {}).setF CPL_MEMBER 4 0).setPrt 0 { (an {}).prtOf 0 with eff := Sparse.set 0 [] (PC_MODE.key 0 0) 2 }).setF DIE_PD_UP 255)), {stop := 6, unit := 0, tag := 3}, 0x808000000000, 3, true, true, 2, 0, by decide⟩,
   ⟨st (((((an {}).setF CPL_MEMBER 4 0).setPrt 0 { (an {}).prtOf 0 with eff := Sparse.set 0 [] (PC_MODE.key 0 0) 2 }).setF DIE_PD_UP 255)), {stop := 6, unit := 0, tag := 3}, 0x808000000000, (List.range 256).map fun i => some (BitVec.ofNat 8 i), true, true, none, 2, 0, by decide⟩,
   ⟨st live, {stop := 8, unit := 1, tag := 3}, 0, 4, 0, by decide⟩,
   ⟨st live, {stop := 8, unit := 1, tag := 3}, 0, 4, 1, 0, by decide⟩,
   ⟨st (((an {}).setF RG_CSR_EN 1 1).setF QC_EXPORT 1 0), {stop := 8, unit := 1, tag := 3}, 0, by decide⟩,
   ⟨st live, {stop := 6, unit := 0, tag := 3}, 0, 4, 1, by decide⟩⟩
end B12b

namespace B13
def hb : Dev := ((((rel.setF DIE_CEL_OK 3 |>.setF DIE_HBM_CTL_OK 65535)).setF TIL_CACHE_Q 1).setPrt 0 { rel.prtOf 0 with eff := Sparse.set 0 [] (PC_MODE.key 0 0) 2 })
def cl (c : Cel) : Dev := { hb with cel := c, mem := [(0, 7), (512, 9)] }
def ln : Line := { data := 0x1234, dirty := 1 }
def tl : TLine := { st := 3, data := 0x77777777, dirty := 3 }
def tlc : TLine := { st := 1, data := 0x1234 }
def rq (op : SliceOp) : SliceReq := { op := op, rid := 99, tag := 0 }
def tk (t : Nat) : Nat := tcKey t 2
def lc : Cel := { lines := [(2, some ln)] }
def tr (x : Trans) : Cel := { lc with trans := [(2, some x)], tc := [(tk 1, some tl)], dir := [(2, .ex 1)] }
def s1 (o : Nat) : Snoop := { tile := 1, op := o }
def s1a (o m : Nat) : Snoop := { tile := 1, op := o, ans := some (m, 0x77777777, 0) }
def hk : Nat := 0x4000000002
def sk : Nat := 0x1_0000_0005
def fn0 : Fence := { slice := homeOf 2, rid := 99, tag := 5, seq := 9 }
theorem test_witness_TileCacheRequests :
  (∃ s : State, ∃ t : LTile, ∃ k : BitVec 40, ∃ l : Line, TileAsks s.dev t.val k.toNat (.rdSh t.val) ∧ s.dev.sliceScratch (homeOf k.toNat) = false ∧ s.dev.celLine k.toNat = some l ∧ s.dev.dirOf k.toNat = .none)
  ∧ (∃ s : State, ∃ t : LTile, ∃ k : BitVec 40, ∃ l : Line, ∃ h : List Nat, TileAsks s.dev t.val k.toNat (.rdSh t.val) ∧ s.dev.sliceScratch (homeOf k.toNat) = false ∧ s.dev.celLine k.toNat = some l ∧ s.dev.dirOf k.toNat = .sh h)
  ∧ (∃ s : State, ∃ t : LTile, ∃ k : BitVec 40, ∃ u : Nat, TileAsks s.dev t.val k.toNat (.rdSh t.val) ∧ s.dev.sliceScratch (homeOf k.toNat) = false ∧ (s.dev.celLine k.toNat).isSome = true ∧ s.dev.dirOf k.toNat = .ex u ∧ u ≠ t.val)
  ∧ (∃ s : State, ∃ t : LTile, ∃ k : BitVec 40, TileAsks s.dev t.val k.toNat (.rdSh t.val) ∧ s.dev.sliceScratch (homeOf k.toNat) = false ∧ s.dev.celLine k.toNat = none ∧ s.dev.dirOf k.toNat = .none ∧ 256 * k.toNat < hbmEnd)
  ∧ (∃ s : State, ∃ t : LTile, ∃ k : BitVec 40, TileAsks s.dev t.val k.toNat (.rdSh t.val) ∧ s.dev.sliceScratch (homeOf k.toNat) = true ∧ s.dev.celLine k.toNat = none ∧ s.dev.dirOf k.toNat = .none ∧ hbmEnd ≤ 256 * k.toNat)
  ∧ (∃ s : State, ∃ t : LTile, ∃ k : BitVec 40, ∃ l : Line, TileAsks s.dev t.val k.toNat (.rdEx t.val) ∧ s.dev.sliceScratch (homeOf k.toNat) = false ∧ s.dev.celLine k.toNat = some l ∧ ((s.dev.dirOf k.toNat = .none ∨ s.dev.dirOf k.toNat = .sh [t.val])))
  ∧ (∃ s : State, ∃ t : LTile, ∃ k : BitVec 40, ∃ h : List Nat, TileAsks s.dev t.val k.toNat (.rdEx t.val) ∧ s.dev.sliceScratch (homeOf k.toNat) = false ∧ (s.dev.celLine k.toNat).isSome = true ∧ s.dev.dirOf k.toNat = .sh h ∧ (h.any fun u => u != t.val) = true)
  ∧ (∃ s : State, ∃ t : LTile, ∃ k : BitVec 40, ∃ l : TLine, TileAsks s.dev t.val k.toNat (.upgr t.val) ∧ s.dev.dirOf k.toNat = .sh [t.val] ∧ s.dev.tcLine t.val k.toNat = some l)
  ∧ (∃ s : State, ∃ t : LTile, ∃ k : BitVec 40, ∃ h : List Nat, TileAsks s.dev t.val k.toNat (.upgr t.val) ∧ s.dev.dirOf k.toNat = .sh h ∧ h.contains t.val = true ∧ (h.any fun u => u != t.val) = true)
  ∧ (∃ s : State, ∃ t : LTile, ∃ k : BitVec 40, ∃ l : Line, TileAsks s.dev t.val k.toNat (.upgr t.val) ∧ s.dev.sliceScratch (homeOf k.toNat) = false ∧ s.dev.celLine k.toNat = some l ∧ s.dev.dirOf k.toNat = .none ∧ s.dev.tcLine t.val k.toNat = none)
  ∧ (∃ s : State, ∃ t : LTile, ∃ k : BitVec 40, TileSends s.dev t.val k.toNat ∧ s.dev.accepts (256 * k.toNat) (s.dev.tcAsk t.val (.rdEx t.val)) = true ∧ s.dev.lineBusy k.toNat = true)
  ∧ (∃ s : State, ∃ t : LTile, ∃ k : BitVec 40, Inv s ∧ TileSends s.dev t.val k.toNat ∧ s.dev.accepts (256 * k.toNat) (s.dev.tcAsk t.val (.rdEx t.val)) = false)
  ∧ (∃ s : State, ∃ t : LTile, ∃ k : BitVec 40, s.dev.released = true ∧ s.dev.tcSize ≠ 0 ∧ tileLine k.toNat = true ∧ s.dev.tileResetting t.val = false ∧ s.dev.accStatus (256 * k.toNat) 256 ≠ 0)
  ∧ (∃ s : State, ∃ t : LTile, ∃ k : BitVec 40, ∃ l : TLine, s.dev.released = true ∧ s.dev.tcLine t.val k.toNat = some l ∧ l.dirty ≠ 0 ∧ s.dev.wbOf t.val k.toNat = none ∧ s.dev.accepts (256 * k.toNat) (s.dev.tcAsk t.val (.wb t.val)) = true ∧ s.dev.lineBusy k.toNat = false)
  ∧ (∃ s : State, ∃ t : LTile, ∃ k : BitVec 40, ∃ l : TLine, s.dev.released = true ∧ s.dev.tcLine t.val k.toNat = some l ∧ l.dirty ≠ 0 ∧ s.dev.wbOf t.val k.toNat = none ∧ s.dev.accepts (256 * k.toNat) (s.dev.tcAsk t.val (.wb t.val)) = true ∧ s.dev.lineBusy k.toNat = true)
  ∧ (∃ s : State, ∃ t : LTile, ∃ k : BitVec 40, ∃ l : TLine, s.dev.released = true ∧ s.dev.tcLine t.val k.toNat = some l ∧ l.dirty = 0 ∧ s.dev.accepts (256 * k.toNat) (s.dev.tcAsk t.val (.evc t.val)) = true ∧ s.dev.lineBusy k.toNat = false)
  ∧ (∃ d : Dev, ∃ k : Nat, ∃ m : Nat, ∃ p : Nat, ∃ b : BitVec 2048, ∃ l : Line, m ≠ 0 ∧ d.celLine k = some l)
  ∧ (∃ d : Dev, ∃ k : Nat, ∃ m : Nat, ∃ p : Nat, ∃ b : BitVec 2048, m ≠ 0 ∧ d.celLine k = none) :=
  ⟨⟨st (cl lc), 0, 2, ln, by decide⟩,
   ⟨st (cl { lc with dir := [(2, .sh [1])], tc := [(tk 1, some tlc)] }), 0, 2, ln, [1], by decide⟩,
   ⟨st (cl { lc with dir := [(2, .ex 1)], tc := [(tk 1, some tl)] }), 0, 2, 1, by decide⟩,
   ⟨st hb, 0, 2, by decide⟩,
   ⟨st ((cl {}).setF CEL_MODE 1 (homeOf sk)), 0, 0x100000005, by decide⟩,
   ⟨st (cl lc), 0, 2, ln, by decide⟩,
   ⟨st (cl { lc with dir := [(2, .sh [1])], tc := [(tk 1, some tlc)] }), 0, 2, [1], by decide⟩,
   ⟨st (cl { lc with dir := [(2, .sh [1])], tc := [(tk 1, some tlc)] }), 1, 2, tlc, by decide⟩,
   ⟨st (cl { lc with dir := [(2, .sh [0, 1])], tc := [(tk 0, some tlc), (tk 1, some tlc)] }), 0, 2, [0, 1], by decide⟩,
   ⟨st (cl lc), 0, 2, ln, by decide⟩,
   ⟨st (cl { lc with queue := [(2, rq .flush)] }), 0, 2, by decide⟩,
   ⟨st (cl { lc with intake := [(homeOf 2, 0, rq .flush)] }), 0, 2, by decide⟩,
   ⟨st hb, 0, 0x100000005, by decide⟩,
   ⟨st (cl { lc with dir := [(2, .ex 1)], tc := [(tk 1, some tl)] }), 1, 2, tl, by decide⟩,
   ⟨st { cl (tr ({ req := rq (.rdEx 0), snoops := [s1 1] })) with safe := { handover := some { ltile := 1, out := 6, begun := 3 } } }, 1, 2, tl, by decide⟩,
   ⟨st (cl { lc with dir := [(2, .sh [1])], tc := [(tk 1, some tlc)] }), 1, 2, tlc, by decide⟩,
   ⟨(st (cl lc)).dev, 2, 1, 0, 0x77777777, ln, by decide⟩,
   ⟨(st hb).dev, 0, 1, 0, 0x77777777, by decide⟩⟩
theorem test_witness_FlushRequests :
  (∃ s : State, ∃ q : Rq, ∃ k : BitVec 40, ∃ l : Line, LineAsks s.dev q k.toNat .flush ∧ (s.dev.dirOf k.toNat).owned = false ∧ s.dev.celLine k.toNat = some l ∧ reqId q ≠ sliceUnit (homeOf k.toNat) 5)
  ∧ (∃ s : State, ∃ q : Rq, ∃ k : BitVec 40, ∃ u : Nat, LineAsks s.dev q k.toNat .flush ∧ s.dev.dirOf k.toNat = .ex u)
  ∧ (∃ s : State, ∃ q : Rq, ∃ k : BitVec 40, ∃ l : Line, LineAsks s.dev q k.toNat .flushInv ∧ s.dev.dirOf k.toNat = .none ∧ s.dev.celLine k.toNat = some l ∧ reqId q ≠ sliceUnit (homeOf k.toNat) 5)
  ∧ (∃ s : State, ∃ q : Rq, ∃ k : BitVec 40, LineAsks s.dev q k.toNat .flushInv ∧ s.dev.dirOf k.toNat ≠ .none ∧ (s.dev.dirOf k.toNat).holders ≠ [])
  ∧ (∃ s : State, ∃ q : Rq, ∃ k : BitVec 40, LineAsks s.dev q k.toNat .discard ∧ s.dev.dirOf k.toNat = .none ∧ reqId q ≠ sliceUnit (homeOf k.toNat) 5)
  ∧ (∃ s : State, ∃ q : Rq, ∃ k : BitVec 40, s.dev.live = true ∧ s.dev.homed k.toNat = true ∧ s.dev.accStatus (256 * k.toNat) 256 = 0 ∧ s.dev.lineBusy k.toNat = true ∧ s.dev.accepts (256 * k.toNat) (s.dev.rqAsk q .flush) = true)
  ∧ (∃ s : State, ∃ q : Rq, ∃ k : BitVec 40, s.dev.live = true ∧ s.dev.accStatus (256 * k.toNat) 256 ≠ 0)
  ∧ (∃ s : State, ∃ q : Rq, ∃ k : BitVec 40, s.dev.live = true ∧ s.dev.accStatus (256 * k.toNat) 256 = 0 ∧ s.dev.homed k.toNat = false)
  ∧ (∃ s : State, ∃ q : Rq, ∃ n : Unit16, s.dev.live = true ∧ (s.dev.cel.intake.any fun e => e.1 == n.val) = false)
  ∧ (∃ d : Dev, ∃ f : Fence, d.cel.fences = [f] ∧ d.fenceOpen f = false)
  ∧ (∃ d : Dev, ∃ f : Fence, ∃ k : Nat, ∃ x : Trans, d.cel.fences = [f] ∧ d.cel.trans = [(k, some x)] ∧ homeOf k = f.slice ∧ x.req.rid = f.rid ∧ x.req.seq < f.seq)
  ∧ (∃ s : State, ∃ k : BitVec 40, ∃ r : SliceReq, ∃ l : List (Nat × SliceReq), s.dev.live = true ∧ s.dev.transOf k.toNat = none ∧ s.dev.cel.queue = (k.toNat, r) :: l ∧ (match r.op with | .rd .. => false | .wr .. => false | _ => true) = true)
  ∧ (∃ s : State, ∃ k : BitVec 40, ∃ r : SliceReq, ∃ l : List (Nat × SliceReq), ∃ a : Nat, ∃ n : Nat, ∃ x : Bool, ∃ y : Bool, s.dev.live = true ∧ s.dev.transOf k.toNat = none ∧ s.dev.cel.queue = (k.toNat, r) :: l ∧ r.op = .rd a n x y)
  ∧ (∃ s : State, ∃ k : BitVec 40, ∃ r : SliceReq, ∃ l : List (Nat × SliceReq), ∃ a : Nat, ∃ w : WrBytes, ∃ x : Bool, ∃ y : Bool, ∃ c : Option (Fin 64), s.dev.live = true ∧ s.dev.transOf k.toNat = none ∧ s.dev.cel.queue = (k.toNat, r) :: l ∧ r.op = .wr a w x y c)
  ∧ (∃ s : State, ∃ k : BitVec 40, Inv s ∧ ((s.dev.transOf k.toNat ≠ none ∨ s.dev.cel.queue = []))) :=
  ⟨⟨st (cl lc), {stop := 6, unit := 7, tag := 3}, 2, ln, by decide⟩,
   ⟨st (cl { lc with dir := [(2, .ex 1)], tc := [(tk 1, some tl)] }), {stop := 6, unit := 7, tag := 3}, 2, 1, by decide⟩,
   ⟨st (cl lc), {stop := 6, unit := 7, tag := 3}, 2, ln, by decide⟩,
   ⟨st (cl { lc with dir := [(2, .sh [1])], tc := [(tk 1, some tlc)] }), {stop := 6, unit := 7, tag := 3}, 2, by decide⟩,
   ⟨st hb, {stop := 6, unit := 7, tag := 3}, 2, by decide⟩,
   ⟨st (cl { lc with queue := [(2, rq .flush)] }), {stop := 6, unit := 7, tag := 3}, 2, by decide⟩,
   ⟨st hb, {stop := 6, unit := 7, tag := 3}, 0x100000005, by decide⟩,
   ⟨st hb, {stop := 6, unit := 7, tag := 3}, 0x4000000002, by decide⟩,
   ⟨st hb, {stop := 6, unit := 7, tag := 3}, 0, by decide⟩,
   ⟨cl { fences := [fn0] }, fn0, by decide⟩,
   ⟨(st (cl { trans := [(2, some { req := rq .flush })], fences := [fn0] })).dev, fn0, 2, { req := rq .flush }, by decide⟩,
   ⟨st (cl { lc with queue := [(2, rq .flush)] }), 2, rq .flush, [], by decide⟩,
   ⟨st (cl { lc with queue := [(2, rq (.rd 512 64 false false))] }), 2, rq (.rd 512 64 false false), [], 512, 64, false, false, by decide⟩,
   ⟨st (cl { lc with queue := [(2, rq (.wr 512 [some 1] false false none))] }), 2, rq (.wr 512 [some 1] false false none), [], 512, [some 1], false, false, none, by decide⟩,
   ⟨st hb, 2, by decide⟩⟩
theorem test_witness_SnoopsAndFills_tiles :
  (∃ s : State, ∃ t : LTile, ∃ k : BitVec 40, ∃ x : Trans, ∃ y : Snoop, ∃ l : TLine, s.dev.live = true ∧ s.dev.tileMoves t.val = false ∧ s.dev.transOf k.toNat = some x ∧ x.snoops = [y] ∧ (y.tile = t.val ∧ y.op = 1 ∧ y.ans = none) ∧ s.dev.wbOf t.val k.toNat = none ∧ s.dev.tcLine t.val k.toNat = some l)
  ∧ (∃ s : State, ∃ t : LTile, ∃ k : BitVec 40, ∃ x : Trans, ∃ y : Snoop, ∃ l : TLine, s.dev.live = true ∧ s.dev.tileMoves t.val = false ∧ s.dev.transOf k.toNat = some x ∧ x.snoops = [y] ∧ (y.tile = t.val ∧ y.op = 2 ∧ y.ans = none) ∧ s.dev.wbOf t.val k.toNat = none ∧ s.dev.tcLine t.val k.toNat = some l)
  ∧ (∃ s : State, ∃ t : LTile, ∃ k : BitVec 40, ∃ x : Trans, ∃ y : Snoop, ∃ l : TLine, s.dev.live = true ∧ s.dev.tileMoves t.val = false ∧ s.dev.transOf k.toNat = some x ∧ x.snoops = [y] ∧ (y.tile = t.val ∧ y.op = 3 ∧ y.ans = none) ∧ s.dev.wbOf t.val k.toNat = none ∧ s.dev.tcLine t.val k.toNat = some l)
  ∧ (∃ s : State, ∃ t : LTile, ∃ k : BitVec 40, ∃ x : Trans, ∃ y : Snoop, s.dev.live = true ∧ s.dev.tileMoves t.val = false ∧ s.dev.transOf k.toNat = some x ∧ x.snoops = [y] ∧ (y.tile = t.val ∧ y.op = 1 ∧ y.ans = none) ∧ s.dev.wbOf t.val k.toNat = none ∧ s.dev.tcLine t.val k.toNat = none)
  ∧ (∃ s : State, ∃ t : LTile, ∃ k : BitVec 40, ∃ x : Trans, ∃ y : Snoop, ∃ l : TLine, s.dev.live = true ∧ s.dev.tileMoves t.val = false ∧ s.dev.transOf k.toNat = some x ∧ x.snoops = [y] ∧ (y.tile = t.val ∧ y.op = 1 ∧ y.ans = none) ∧ s.dev.wbOf t.val k.toNat = some (l, false))
  ∧ (∃ d : Dev, ∃ t : Nat, ∃ k : Nat, ∃ l : TLine, ∃ r : SliceReq, r.op = .wb t ∧ d.wbOf t k = some (l, true))
  ∧ (∃ s : State, ∃ t : LTile, ∃ k : BitVec 40, Inv s ∧ s.dev.live = true ∧ s.dev.tileMoves t.val = true)
  ∧ (∃ s : State, ∃ t : LTile, ∃ k : BitVec 40, ∃ x : Trans, ∃ z : Snoop, ∃ y : Snoop, ∃ b : BitVec 2048, ∃ p : Nat, s.dev.live = true ∧ s.dev.transOf k.toNat = some x ∧ x.snoops = [z, y] ∧ (z.tile = t.val ∧ z.ans = some (0, b, p)) ∧ y.tile ≠ t.val)
  ∧ (∃ s : State, ∃ t : LTile, ∃ k : BitVec 40, ∃ x : Trans, ∃ z : Snoop, ∃ b : BitVec 2048, ∃ p : Nat, s.dev.live = true ∧ s.dev.transOf k.toNat = some x ∧ x.snoops = [z] ∧ (z.tile = t.val ∧ z.ans = some (0, b, p)) ∧ x.fill = false)
  ∧ (∃ s : State, ∃ t : LTile, ∃ k : BitVec 40, ∃ x : Trans, ∃ z : Snoop, ∃ m : Nat, ∃ b : BitVec 2048, ∃ p : Nat, s.dev.live = true ∧ s.dev.transOf k.toNat = some x ∧ x.snoops = [z] ∧ (z.tile = t.val ∧ z.ans = some (m, b, p)) ∧ m ≠ 0 ∧ (x.fill = false ∧ x.req.op ≠ .discard))
  ∧ (∃ s : State, ∃ t : LTile, ∃ k : BitVec 40, ∃ x : Trans, ∃ z : Snoop, ∃ m : Nat, ∃ b : BitVec 2048, ∃ p : Nat, s.dev.live = true ∧ s.dev.transOf k.toNat = some x ∧ x.snoops = [z] ∧ (z.tile = t.val ∧ z.ans = some (m, b, p)) ∧ m ≠ 0 ∧ (x.fill = false ∧ x.req.op = .discard))
  ∧ (∃ s : State, ∃ t : LTile, ∃ k : BitVec 40, ∃ x : Trans, ∃ z : Snoop, ∃ b : BitVec 2048, ∃ p : Nat, Inv s ∧ s.dev.transOf k.toNat = some x ∧ x.snoops = [z] ∧ (z.tile = t.val ∧ z.ans = some (0, b, p)))
  ∧ (∃ s : State, ∃ k : BitVec 40, ∃ h : BitVec 2048, ∃ x : Trans, s.dev.live = true ∧ s.dev.transOf k.toNat = some x ∧ x.fill = true ∧ x.snoops = [] ∧ placeOf (256 * k.toNat) = .hbm ∧ s.dev.sliceScratch (homeOf k.toNat) = false ∧ s.dev.celLine k.toNat = none)
  ∧ (∃ s : State, ∃ k : BitVec 40, ∃ h : BitVec 2048, ∃ x : Trans, s.dev.live = true ∧ s.dev.transOf k.toNat = some x ∧ x.fill = true ∧ x.snoops ≠ [] ∧ placeOf (256 * k.toNat) = .hbm ∧ s.dev.celLine k.toNat ≠ none)
  ∧ (∃ s : State, ∃ k : BitVec 40, ∃ h : BitVec 2048, ∃ x : Trans, ∃ n : Nat, ∃ off : Nat, s.dev.live = true ∧ s.dev.transOf k.toNat = some x ∧ x.fill = true ∧ placeOf (256 * k.toNat) = .host n off ∧ (s.fresh.makeRoom k.toNat).celLine k.toNat = none) :=
  ⟨⟨st (cl (tr ({ req := rq (.rdEx 0), snoops := [s1 1] }))), 1, 2, { req := rq (.rdEx 0), snoops := [s1 1] }, s1 1, tl, by decide⟩,
   ⟨st (cl (tr ({ req := rq (.rdSh 0), snoops := [s1 2] }))), 1, 2, { req := rq (.rdSh 0), snoops := [s1 2] }, s1 2, tl, by decide⟩,
   ⟨st (cl (tr ({ req := rq .flush, snoops := [s1 3] }))), 1, 2, { req := rq .flush, snoops := [s1 3] }, s1 3, tl, by decide⟩,
   ⟨st (cl { (tr ({ req := rq (.rdEx 0), snoops := [s1 1] })) with tc := [] }), 1, 2, { req := rq (.rdEx 0), snoops := [s1 1] }, s1 1, by decide⟩,
   ⟨st (cl { (tr ({ req := rq (.rdEx 0), snoops := [s1 1] })) with tc := [], wb := [(tk 1, some (tl, false))] }), 1, 2, { req := rq (.rdEx 0), snoops := [s1 1] }, s1 1, tl, by decide⟩,
   ⟨(st (cl { (tr ({ req := rq (.rdEx 0), snoops := [s1 1] })) with tc := [], wb := [(tk 1, some (tl, true))] })).dev, 1, 2, tl, { op := .wb 1, rid := 99, tag := 0 }, by decide⟩,
   ⟨st { cl (tr ({ req := rq (.rdEx 0), snoops := [s1 1] })) with safe := { handover := some { ltile := 1, out := 6, begun := 3 } } }, 1, 2, by decide⟩,
   ⟨st (cl (tr ({ req := rq (.rdEx 0), snoops := [s1a 1 0, { tile := 2, op := 1 }] }))), 1, 2, { req := rq (.rdEx 0), snoops := [s1a 1 0, { tile := 2, op := 1 }] }, s1a 1 0, { tile := 2, op := 1 }, 0x77777777, 0, by decide⟩,
   ⟨st (cl (tr ({ req := rq (.rdEx 0), snoops := [s1a 1 0] }))), 1, 2, { req := rq (.rdEx 0), snoops := [s1a 1 0] }, s1a 1 0, 0x77777777, 0, by decide⟩,
   ⟨st (cl (tr ({ req := rq (.rdEx 0), snoops := [s1a 1 3] }))), 1, 2, { req := rq (.rdEx 0), snoops := [s1a 1 3] }, s1a 1 3, 3, 0x77777777, 0, by decide⟩,
   ⟨st (cl (tr ({ req := rq .discard, snoops := [s1a 1 3] }))), 1, 2, { req := rq .discard, snoops := [s1a 1 3] }, s1a 1 3, 3, 0x77777777, 0, by decide⟩,
   ⟨st (cl (tr ({ req := rq (.rdEx 0), snoops := [s1a 1 0] }))), 1, 2, { req := rq (.rdEx 0), snoops := [s1a 1 0] }, s1a 1 0, 0x77777777, 0, by decide⟩,
   ⟨st (cl { trans := [(2, some ({ req := rq (.rdSh 0), fill := true }))] }), 2, 0x77777777, { req := rq (.rdSh 0), fill := true }, by decide⟩,
   ⟨st (cl (tr ({ req := rq (.rdSh 0), fill := true, snoops := [s1 2] }))), 2, 0x77777777, { req := rq (.rdSh 0), fill := true, snoops := [s1 2] }, by decide⟩,
   ⟨st (cl { trans := [(hk, some ({ req := rq (.rd 0x400000000200 64 false false), fill := true }))] }), 0x4000000002, 0x77777777, { req := rq (.rd 0x400000000200 64 false false), fill := true }, 0, 512, by decide⟩⟩
end B13

namespace B14
def hb : Dev := (((((rel.setF DIE_CEL_OK 3 |>.setF DIE_HBM_CTL_OK 65535)).setF TIL_CACHE_Q 1).setPrt 0 { rel.prtOf 0 with eff := Sparse.set 0 (Sparse.set 0 [] (PC_MODE.key 0 0) 2) (PC_CXL.key 0 0) 1 }).setF BUD_CPL 5 0)
def cl (c : Cel) : Dev := { hb with cel := c, mem := [(0, 7), (512, 9)] }
def ln : Line := { data := 0x1234, dirty := 1 }
def hk : Nat := 0x4000000002
def lb : Dev := { live with load := { live.load with aDone := true } }
def lx (l : Line) (d : Cel) : Dev := cl { d with lines := [(2, some l)] }
def w1 (o : Nat) (a : Bool) (n : Nat) : Walk := { op := o, all := a, set := n }
def sd : Dev := (cl {}).setF CEL_MODE 1 2
theorem test_witness_SnoopsAndFills_hosts :
  (∃ s : State, ∃ n : Unit4, ∃ k : BitVec 40, ∃ took : Nat, ∃ off : Nat, Inv s ∧ s.dev.live = true ∧ s.dev.portUp n.val = true ∧ s.dev.cxlCache n.val = true ∧ placeOf (256 * k.toNat) = .host n.val off ∧ s.dev.celLine k.toNat = none)
  ∧ (∃ s : State, ∃ n : Unit4, ∃ k : BitVec 40, ∃ took : Nat, ∃ off : Nat, ∃ l : Line, Inv s ∧ s.dev.live = true ∧ s.dev.portUp n.val = true ∧ s.dev.cxlCache n.val = true ∧ placeOf (256 * k.toNat) = .host n.val off ∧ s.dev.celLine k.toNat = some l ∧ took ≤ s.dev.fld BUD_CPL n.val)
  ∧ (∃ s : State, ∃ n : Unit4, ∃ k : BitVec 40, ∃ took : Nat, ∃ off : Nat, ∃ l : Line, Inv s ∧ s.dev.live = true ∧ s.dev.portUp n.val = true ∧ s.dev.cxlCache n.val = true ∧ placeOf (256 * k.toNat) = .host n.val off ∧ s.dev.celLine k.toNat = some l ∧ took ≤ s.dev.fld BUD_CPL n.val)
  ∧ (∃ s : State, ∃ n : Unit4, ∃ k : BitVec 40, ∃ took : Nat, ∃ off : Nat, ∃ l : Line, Inv s ∧ s.dev.live = true ∧ s.dev.portUp n.val = true ∧ s.dev.cxlCache n.val = true ∧ placeOf (256 * k.toNat) = .host n.val off ∧ s.dev.celLine k.toNat = some l ∧ took ≤ s.dev.fld BUD_CPL n.val)
  ∧ (∃ s : State, ∃ n : Unit4, ∃ k : BitVec 40, ∃ took : Nat, Inv s ∧ 256 * k.toNat < hbmEnd) :=
  ⟨⟨st hb, 0, 0x4000000002, 0, 512, by decide⟩,
   ⟨st (cl { lines := [(hk, some {ln with host := 2})] }), 0, 0x4000000002, 0, 512, {ln with host := 2}, by decide⟩,
   ⟨st (cl { lines := [(hk, some {ln with host := 2})] }), 0, 0x4000000002, 0, 512, {ln with host := 2}, by decide⟩,
   ⟨st (cl { lines := [(hk, some {ln with host := 2})] }), 0, 0x4000000002, 0, 512, {ln with host := 2}, by decide⟩,
   ⟨st hb, 0, 2, 0, by decide⟩⟩
theorem test_witness_FlushWalks :
  (∃ s : State, ∃ n : Unit16, ∃ p : Path, ∃ v : Word64, Reaches s.dev p (0x4000030 + 0x10000 * n.val) ∧ s.dev.flag CEL_BUSY n.val = false ∧ v.toNat % 4 = 1)
  ∧ (∃ s : State, ∃ n : Unit16, ∃ p : Path, ∃ v : Word64, Reaches s.dev p (0x4000030 + 0x10000 * n.val) ∧ s.dev.flag CEL_BUSY n.val = false ∧ v.toNat % 4 = 2)
  ∧ (∃ s : State, ∃ n : Unit16, ∃ p : Path, ∃ v : Word64, Reaches s.dev p (0x4000030 + 0x10000 * n.val) ∧ s.dev.flag CEL_BUSY n.val = false ∧ v.toNat % 4 = 3)
  ∧ (∃ s : State, ∃ n : Unit16, ∃ p : Path, ∃ v : Word64, Reaches s.dev p (0x4000030 + 0x10000 * n.val) ∧ s.dev.flag CEL_BUSY n.val = true)
  ∧ (∃ s : State, ∃ n : Unit16, ∃ w : Walk, s.dev.live = true ∧ Sparse.get none (s.fresh.walkTo n.val 32768).cel.walk n.val = some w ∧ (s.fresh.walkTo n.val 32768).walkerIdle n.val = true)
  ∧ (∃ s : State, ∃ n : Unit16, ∃ w : Walk, s.dev.live = true ∧ Sparse.get none (s.fresh.walkTo n.val 32768).cel.walk n.val = some w ∧ (s.fresh.walkTo n.val 32768).walkerIdle n.val = false)
  ∧ (∃ d : Dev, ∃ n : Nat, ∃ k : Nat, ∃ upto : Nat, ∃ w : Walk, Sparse.get none d.cel.walk n = some w ∧ d.walkLines n = [k] ∧ (w.set ≤ bits k 4 15 ∧ bits k 4 15 < upto) ∧ ((w.all = true ∨ (d.fld CEL_FLUSH_BASE n ≤ k ∧ k < d.fld CEL_FLUSH_BASE n + d.fld CEL_FLUSH_LEN n))))
  ∧ (∃ d : Dev, ∃ n : Nat, ∃ k : Nat, ∃ upto : Nat, ∃ w : Walk, Sparse.get none d.cel.walk n = some w ∧ d.walkLines n = [k] ∧ ((bits k 4 15 < w.set ∨ upto ≤ bits k 4 15 ∨ (w.all = false ∧ (k < d.fld CEL_FLUSH_BASE n ∨ d.fld CEL_FLUSH_BASE n + d.fld CEL_FLUSH_LEN n ≤ k)))))
  ∧ (∃ d : Dev, ∃ n : Nat, ∃ k : Nat, d.lineBusy k = false)
  ∧ (∃ d : Dev, ∃ n : Nat, ∃ k : Nat, d.lineBusy k = true)
  ∧ (∃ s : State, ∃ n : Unit16, Inv s ∧ Sparse.get none s.dev.cel.walk n.val = none) :=
  ⟨⟨st hb, 0, .servicePort, 1, by decide⟩,
   ⟨st hb, 0, .servicePort, 2, by decide⟩,
   ⟨st hb, 0, .servicePort, 7, by decide⟩,
   ⟨st (hb.setF CEL_BUSY 1 2), 2, .servicePort, 0, by decide⟩,
   ⟨st (cl { lines := [(2, some ln)], walk := [(2, some { op := 1, all := true })] }), 2, { w1 1 true 32768 with wrote := 1 }, by decide⟩,
   ⟨st (lx ln { walk := [(2, some (w1 2 true 0))], trans := [(2, some { req := { op := .flush, rid := 3, tag := 4 } })] }), 2, w1 2 true 32768, by decide⟩,
   ⟨(st (cl { lines := [(2, some ln)], walk := [(2, some { op := 1, all := true })] })).dev, 2, 2, 1, w1 1 true 0, by decide⟩,
   ⟨(st (cl { lines := [(2, some ln)], walk := [(2, some { op := 1, all := true })] })).dev, 2, 2, 0, w1 1 true 0, by decide⟩,
   ⟨(st hb).dev, 0, 0, by decide⟩,
   ⟨lx ln { trans := [(2, some { req := { op := .flush, rid := 3, tag := 4 } })] }, 0, 2, by decide⟩,
   ⟨st hb, 0, by decide⟩⟩
theorem test_witness_CellarPatrolAndModes :
  (∃ s : State, ∃ n : Unit16, ∃ set : Fin 32768, s.dev.live = true)
  ∧ (∃ s : State, ∃ n : Unit16, ∃ set : Fin 32768, ∃ a : DevAddr, ∃ b : Bool, s.dev.live = true)
  ∧ (∃ d : Dev, ∃ n : Nat, ∃ a : Nat, ∃ l : Line, homeOf (a / 256) = n ∧ d.celLine (a / 256) = some l)
  ∧ (∃ d : Dev, ∃ k : Nat, ∃ i : Fin 4, ∃ l : Line, d.celLine k = some l ∧ l.weak = 2 ^ i.val ∧ l.bad = 0)
  ∧ (∃ d : Dev, ∃ k : Nat, ∃ i : Fin 4, ∃ l : Line, d.celLine k = some l ∧ l.weak = 0 ∧ l.bad = 2 ^ i.val ∧ bitAt l.dirty i.val = true)
  ∧ (∃ d : Dev, ∃ k : Nat, ∃ i : Fin 4, ∃ l : Line, d.celLine k = some l ∧ l.weak = 0 ∧ l.bad = 2 ^ i.val ∧ bitAt l.dirty i.val = false ∧ l.host = 0)
  ∧ (∃ d : Dev, ∃ n : Nat, ∃ a : Nat, homeOf (a / 256) = n ∧ d.celLine (a / 256) = none ∧ d.sliceScratch n = true ∧ hbmEnd ≤ a ∧ NatSet.has d.quiet (a / 8) = false)
  ∧ (∃ s : State, ∃ n : Unit16, ∃ set : Fin 32768, ∃ x : Fin 3, s.dev.live = true)
  ∧ (∃ d : Dev, ∃ k : Nat, ∃ t : Nat, ((d.dirOf k = .ex t ∨ d.dirOf k = .sh [t])) ∧ d.wbOf t k = none ∧ d.mem = [])
  ∧ (∃ s : State, ∃ n : Unit16, ∃ p : Path, ∃ v : Word64, Reaches s.dev p (0x4000000 + 0x10000 * n.val) ∧ s.dev.load.bDone = false ∧ v.getLsbD 0 = true ∧ s.dev.flag CEL_MODE n.val = false ∧ NatSet.has s.dev.cel.kept n.val = false)
  ∧ (∃ s : State, ∃ n : Unit16, ∃ p : Path, ∃ v : Word64, Reaches s.dev p (0x4000000 + 0x10000 * n.val) ∧ s.dev.load.bDone = false ∧ v.getLsbD 0 = false ∧ s.dev.flag CEL_MODE n.val = true)
  ∧ (∃ s : State, ∃ n : Unit16, ∃ p : Path, ∃ v : Word64, Inv s ∧ Reaches s.dev p (0x4000000 + 0x10000 * n.val) ∧ s.dev.load.bDone = true)
  ∧ (∃ s : State, ∃ t : PTile, ∃ p : Path, ∃ v : Word64, Inv s ∧ Reaches s.dev p (0x1000100 + 0x10000 * t.val) ∧ s.dev.load.bDone = false ∧ s.dev.cel.tc = [])
  ∧ (∃ s : State, ∃ t : PTile, ∃ p : Path, ∃ v : Word64, Inv s ∧ Reaches s.dev p (0x1000100 + 0x10000 * t.val) ∧ s.dev.load.bDone = true)
  ∧ (∃ s : State, ∃ n : Unit16, ∃ p : Path, ∃ v : Word64, Reaches s.dev p (0x4000000 + 0x10000 * n.val) ∧ s.dev.load.bDone = false ∧ v.getLsbD 0 = true ∧ s.dev.flag CEL_MODE n.val = false ∧ NatSet.has s.dev.cel.kept n.val = true)
  ∧ (∃ s : State, ∃ t : PTile, ∃ u : Fin 32768, ∃ e : Upset, s.dev.live = true ∧ s.dev.ltile t.val < 64)
  ∧ (∃ s : State, ∃ t : PTile, ∃ u : Fin 32768, s.dev.live = true ∧ 64 ≤ s.dev.ltile t.val) :=
  ⟨⟨st hb, 0, 0, by decide⟩,
   ⟨st hb, 0, 0, 512, true, by decide⟩,
   ⟨(st (cl { lines := [(2, some ln)] })).dev, 2, 512, ln, by decide⟩,
   ⟨lx { ln with weak := 1 } {}, 2, 0, { ln with weak := 1 }, by decide⟩,
   ⟨lx { ln with bad := 1 } {}, 2, 0, { ln with bad := 1 }, by decide⟩,
   ⟨lx { ln with bad := 2 } {}, 2, 1, { ln with bad := 2 }, by decide⟩,
   ⟨sd, 2, 0x010010000000, by decide⟩,
   ⟨st hb, 0, 0, 0, by decide⟩,
   ⟨{ lx ln { dir := [(2, .ex 1)], tc := [(tcKey 1 2, some { st := 3, data := 9, dirty := 1 })] } with mem := [] }, 2, 1, by decide⟩,
   ⟨st { lb with cel := { kept := [(2, true)] } }, 0, .servicePort, 1, by decide⟩,
   ⟨st (lb.setF CEL_MODE 1 2), 2, .servicePort, 0, by decide⟩,
   ⟨st hb, 0, .servicePort, 0, by decide⟩,
   ⟨st { lb with cel := { kept := [(2, true)] } }, 0, .servicePort, 0, by decide⟩,
   ⟨st hb, 0, .servicePort, 0, by decide⟩,
   ⟨st { lb with cel := { kept := [(2, true)] } }, 2, .servicePort, 1, by decide⟩,
   ⟨st hb, 0, 0, .clean, by decide⟩,
   ⟨st hb, 64, 0, by decide⟩⟩
end B14

namespace B15
def hb : Dev := { (rel.setF DIE_CEL_OK 3 |>.setF DIE_HBM_CTL_OK 65535).setF HBM_PAGE 1 2 with clk := { ts := 5000, tick := 5000, root := 60000 } }
def hh (x : Hbm) : State := st (hb.setHbm 2 x)
def q0 : HReq := { write := false, L := 0x200, len := 64, cls := 0, dline := 0xFFFF, rid := 7, at_ := 4900, nclk := 15000, seq := 0 }
def q1 : HReq := { q0 with L := 0x220, at_ := 4900, nclk := 15000, seq := 1, len := 32 }
def qo : HReq := { q0 with at_ := 0 }
def qy : HReq := { q0 with at_ := 0, L := 0xA00, seq := 2 }
def qw : HReq := { q0 with write := true, len := 256 }
def qd : HReq := { q0 with dline := (5000/64) }
theorem test_witness_HbmQueues :
  (∃ s : State, ∃ h : Unit16, ∃ L : BitVec 33, ∃ w : WrBytes, ∃ p : Bool, ∃ cls : Fin 3, ∃ dl : BitVec 16, ∃ rid : BitVec 11, s.dev.hbmOk h.val = true ∧ hbmFits L.toNat w.length ∧ (s.dev.hbmOf h.val).wrq.length < 64)
  ∧ (∃ s : State, ∃ h : Unit16, ∃ L : BitVec 33, ∃ n : Fin 257, ∃ p : Bool, ∃ cls : Fin 3, ∃ dl : BitVec 16, ∃ rid : BitVec 11, s.dev.hbmOk h.val = true ∧ hbmFits L.toNat n.val ∧ ((s.dev.hbmOf h.val).wrq.any fun w => w.full && decide (w.L ≤ L.toNat) && decide (L.toNat < w.L + w.len)) = false ∧ (s.dev.hbmOf h.val).rdq.length < 128)
  ∧ (∃ s : State, ∃ h : Unit16, ∃ L : BitVec 33, ∃ n : Fin 257, ∃ p : Bool, ∃ q : HReq, ∃ cls : Fin 3, ∃ dl : BitVec 16, ∃ rid : BitVec 11, s.dev.hbmOk h.val = true ∧ hbmFits L.toNat n.val ∧ (s.dev.hbmOf h.val).wrq = [q] ∧ (q.full = true ∧ q.L ≤ L.toNat ∧ L.toNat + n.val ≤ q.L + q.len))
  ∧ (∃ s : State, ∃ h : Unit16, ∃ L : BitVec 33, ∃ w : WrBytes, ∃ p : Bool, ∃ cls : Fin 3, ∃ dl : BitVec 16, ∃ rid : BitVec 11, Inv s ∧ s.dev.hbmOk h.val = true ∧ 64 ≤ (s.dev.hbmOf h.val).wrq.length)
  ∧ (∃ s : State, ∃ h : Unit16, ∃ L : BitVec 33, ∃ n : Fin 257, ∃ p : Bool, ∃ cls : Fin 3, ∃ dl : BitVec 16, ∃ rid : BitVec 11, s.dev.live = true ∧ s.dev.hbmOk h.val = false ∧ hbmFits L.toNat n.val)
  ∧ (∃ s : State, ∃ h : Unit16, ∃ pc : Fin 8, ∃ r : BitVec 192, ∃ q : HReq, s.dev.hbmOk h.val = true ∧ (s.dev.hbmOf h.val).rdq = [q] ∧ (s.dev.hbmOf h.val).wrq = [] ∧ hbmPc q.L = pc.val ∧ r.getLsbD 0 = true ∧ 4 * s.dev.ageMax h.val < 5 * (s.dev.clk.tick - q.at_))
  ∧ (∃ s : State, ∃ h : Unit16, ∃ pc : Fin 8, ∃ r : BitVec 192, ∃ q : HReq, s.dev.hbmOk h.val = true ∧ (s.dev.hbmOf h.val).rdq = [q] ∧ (s.dev.hbmOf h.val).wrq = [] ∧ hbmPc q.L = pc.val ∧ r.getLsbD 0 = true ∧ 5 * (s.dev.clk.tick - q.at_) ≤ 4 * s.dev.ageMax h.val ∧ q.cls < 3)
  ∧ (∃ w : ArbWin, ∃ c : Nat, bits w.arb 0 2 = 1 ∧ c < 3)
  ∧ (∃ w : ArbWin, bits w.arb 0 2 ≠ 1)
  ∧ (∃ s : State, ∃ h : Unit16, ∃ pc : Fin 8, ∃ r : BitVec 192, ∃ p : HReq, ∃ q : HReq, s.dev.hbmOk h.val = true ∧ ((s.dev.hbmOf h.val).rdq = [p, q] ∧ (s.dev.hbmOf h.val).wrq = []) ∧ (hbmPc p.L = pc.val ∧ hbmPc q.L = pc.val) ∧ p.seq < q.seq ∧ overlap32 p.L p.len q.L q.len = false ∧ (r.getLsbD 0 = true ∧ r.getLsbD 1 = true) ∧ (5 * (s.dev.clk.tick - p.at_) ≤ 4 * s.dev.ageMax h.val ∧ 4 * s.dev.ageMax h.val < 5 * (s.dev.clk.tick - q.at_)))
  ∧ (∃ s : State, ∃ h : Unit16, ∃ pc : Fin 8, ∃ r : BitVec 192, ∃ p : HReq, ∃ q : HReq, s.dev.hbmOk h.val = true ∧ ((s.dev.hbmOf h.val).rdq = [p, q] ∧ (s.dev.hbmOf h.val).wrq = []) ∧ hbmPc p.L = pc.val ∧ p.seq < q.seq ∧ overlap32 p.L p.len q.L q.len = true ∧ r.getLsbD 0 = true ∧ 4 * s.dev.ageMax h.val < 5 * (s.dev.clk.tick - p.at_))
  ∧ (∃ s : State, ∃ h : Unit16, ∃ pc : Fin 8, ∃ r : BitVec 192, s.dev.hbmOk h.val = true ∧ (s.dev.hbmOf h.val).rdq = [] ∧ (s.dev.hbmOf h.val).wrq = [])
  ∧ (∃ d : Dev, ∃ h : Fin 16, ∃ L : Nat, ∃ q : HReq, q.L = L)
  ∧ (∃ s : State, ∃ h : Unit16, ∃ q : HReq, ∃ r : List HReq, s.dev.hbmOk h.val = true ∧ (s.dev.hbmOf h.val).flying = q :: r)
  ∧ (∃ s : State, ∃ h : Unit16, ∃ q : HReq, ∃ r : List HReq, s.dev.hbmOk h.val = true ∧ (s.dev.hbmOf h.val).flying = q :: r)
  ∧ (∃ d : Dev, ∃ h : Nat, ∃ rid : Nat, ∃ tag : Nat, ∃ st : Nat, ∃ bs : List Byte, tag < 2048)
  ∧ (∃ s : State, ∃ h : Unit16, ∃ pc : Fin 8, ∃ b : Fin 48, s.dev.hbmOk h.val = true ∧ s.dev.hbmClosed h.val = false ∧ 4 * s.dev.fld HBM_PAGE_TO h.val ≤ 5 * (s.dev.clk.tick - Sparse.get 0 (s.dev.hbmOf h.val).used (48 * pc.val + b.val)))
  ∧ (∃ s : State, ∃ h : Unit16, ∃ pc : Fin 8, ∃ b : Fin 48, Inv s ∧ ((s.dev.hbmClosed h.val = true ∨ 5 * (s.dev.clk.tick - Sparse.get 0 (s.dev.hbmOf h.val).used (48 * pc.val + b.val)) < 4 * s.dev.fld HBM_PAGE_TO h.val)))
  ∧ (∃ s : State, ∃ h : Unit16, ∃ pc : Fin 8, Inv s ∧ s.dev.hbmOk h.val = true)
  ∧ (∃ s : State, ∃ h : Unit16, ∃ pc : Fin 8, Inv s ∧ s.dev.hbmOk h.val = true ∧ ((s.dev.running = true ∨ 4 ≤ Sparse.get 0 (s.dev.hbmOf h.val).post pc.val)))
  ∧ (∃ s : State, ∃ h : Unit16, ∃ pc : Fin 8, ∃ q : HReq, Inv s ∧ s.dev.hbmOk h.val = true ∧ s.dev.running = false ∧ Sparse.get 0 (s.dev.hbmOf h.val).post pc.val < 4 ∧ (s.dev.hbmOf h.val).rdq = [q] ∧ hbmPc q.L = pc.val ∧ s.dev.slack q.dline = 0) :=
  ⟨⟨st hb, 0, 0x200, [some 1, none, some 3], true, 1, 9, 77, by decide⟩,
   ⟨st hb, 0, 0x200, 32, true, 1, 9, 77, by decide⟩,
   ⟨hh {wrq := [qw], rdq := [q0]}, 2, 0x200, 32, true, qw, 1, 9, 77, by decide⟩,
   ⟨hh {wrq := List.replicate 64 qw}, 2, 0x200, [some 1, none, some 3], true, 1, 9, 77, by decide⟩,
   ⟨st live, 0, 0x200, 32, true, 1, 9, 77, by decide⟩,
   ⟨hh {rdq := [qo]}, 2, 2, 3, qo, by decide⟩,
   ⟨hh {rdq := [q0], win := { n := 3 }}, 2, 2, 3, q0, by decide⟩,
   ⟨{ arb := 0x0108182008101001 }, 0, by decide⟩,
   ⟨{}, by decide⟩,
   ⟨hh {rdq := [q0, qy], win := { n := 3 }}, 2, 2, 3, q0, qy, by decide⟩,
   ⟨hh {rdq := [qo, q1], win := { n := 3 }}, 2, 2, 3, qo, q1, by decide⟩,
   ⟨st hb, 0, 0, 3, by decide⟩,
   ⟨(st hb).dev, 0, 512, q0, by decide⟩,
   ⟨hh {flying := [q0, q1], replays := [(0, 3), (3, 3)], retry := [(4990, q0), (100, q1)]}, 2, q0, [q1], by decide⟩,
   ⟨hh {flying := [q0, q1], replays := [(0, 3), (3, 3)], retry := [(4990, q0), (100, q1)]}, 2, q0, [q1], by decide⟩,
   ⟨(st hb).dev, 512, 512, 512, 512, [1], by decide⟩,
   ⟨st hb, 2, 0, 5, by decide⟩,
   ⟨st live, 0, 0, 5, by decide⟩,
   ⟨st hb, 0, 0, by decide⟩,
   ⟨st ((hb.setF REP_STATE 3).setF HBM_TEMP_VALID 1 2), 0, 0, by decide⟩,
   ⟨hh {rdq := [qd]}, 2, 2, qd, by decide⟩⟩
theorem test_witness_HbmHealth :
  (∃ s : State, ∃ h : Unit16, ∃ dq : BitVec 16, ∃ ca : BitVec 4, s.dev.live = true ∧ (s.dev.hbmOf h.val).trained = false)
  ∧ (∃ s : State, ∃ h : Unit16, ∃ st : Fin 6, ∃ c : BitVec 8, ∃ n : BitVec 32, ∃ dq : BitVec 16, ∃ ca : BitVec 4, s.dev.live = true ∧ (s.dev.hbmOf h.val).trained = false)
  ∧ (∃ s : State, ∃ h : Unit16, ∃ f : Option (Fin 6 × BitVec 8 × BitVec 32), ∃ dq : BitVec 16, ∃ ca : BitVec 4, Inv s ∧ (s.dev.hbmOf h.val).trained = true)
  ∧ (∃ s : State, ∃ h : Unit16, ∃ f : HbmFinding, s.dev.hbmOk h.val = true ∧ s.dev.fld HBM_SCRUB_PERIOD h.val ≠ 0 ∧ 256 * ((s.dev.hbmOf h.val).patrol + 1) ≠ hbmSize)
  ∧ (∃ s : State, ∃ h : Unit16, ∃ f : HbmFinding, s.dev.hbmOk h.val = true ∧ s.dev.fld HBM_SCRUB_PERIOD h.val ≠ 0 ∧ 256 * ((s.dev.hbmOf h.val).patrol + 1) = hbmSize)
  ∧ (∃ s : State, ∃ h : Unit16, ∃ t : BitVec 8, Inv s ∧ s.dev.hbmOk h.val = true ∧ t.toInt < 105 ∧ (s.dev.hbmOf (4 * (h.val / 4))).hot = false)
  ∧ (∃ s : State, ∃ h : Unit16, ∃ t : BitVec 8, Inv s ∧ s.dev.hbmOk h.val = true ∧ 105 ≤ t.toInt ∧ (s.dev.hbmOf (4 * (h.val / 4))).hot = false)
  ∧ (∃ s : State, ∃ h : Unit16, ∃ c : Fin 4, ∃ x : BitVec 8, ∃ a : Bool, s.dev.hbmOk h.val = true ∧ ((a = true → Sparse.get 0 (s.dev.hbmOf h.val).replays c.val < 3)))
  ∧ (∃ s : State, ∃ h : Unit16, ∃ c : Fin 4, ∃ x : BitVec 8, s.dev.hbmOk h.val = true ∧ 3 ≤ Sparse.get 0 (s.dev.hbmOf h.val).replays c.val)
  ∧ (∃ s : State, ∃ h : Unit16, ∃ p : Path, ∃ v : Word64, Reaches s.dev p (0x5000030 + 0x10000 * h.val) ∧ bits v.toNat 48 16 = 0x5B7D ∧ v.getLsbD 0 = true ∧ (s.dev.hbmOf h.val).retrain = false)
  ∧ (∃ s : State, ∃ h : Unit16, ∃ p : Path, ∃ v : Word64, Reaches s.dev p (0x5000030 + 0x10000 * h.val) ∧ bits v.toNat 48 16 ≠ 0x5B7D)
  ∧ (∃ s : State, ∃ h : Unit16, ∃ p : Path, ∃ v : Word64, Reaches s.dev p (0x5000030 + 0x10000 * h.val) ∧ bits v.toNat 48 16 = 0x5B7D ∧ v.getLsbD 0 = true ∧ (s.dev.hbmOf h.val).retrain = true)
  ∧ (∃ s : State, ∃ h : Unit16, ∃ dq : BitVec 16, ∃ ca : BitVec 4, s.dev.live = true ∧ (s.dev.hbmOf h.val).retrain = true)
  ∧ (∃ s : State, ∃ h : Unit16, Inv s ∧ (s.dev.hbmOf h.val).retrain = false)
  ∧ (∃ s : State, ∃ h : Unit16, ∃ p : Path, ∃ v : Word64, Reaches s.dev p (0x5000008 + 0x10000 * h.val) ∧ arbOk v.toNat = false)
  ∧ (∃ s : State, ∃ h : Unit16, ∃ p : Path, ∃ v : Word64, Inv s ∧ Reaches s.dev p (0x5000008 + 0x10000 * h.val) ∧ arbOk v.toNat = true)
  ∧ (∃ s : State, ∃ n : Unit16, ∃ p : Path, ∃ v : Word64, Reaches s.dev p (0x4000050 + 0x10000 * n.val) ∧ arbOk v.toNat = false)
  ∧ (∃ s : State, ∃ n : Unit16, ∃ p : Path, ∃ v : Word64, Inv s ∧ Reaches s.dev p (0x4000050 + 0x10000 * n.val) ∧ arbOk v.toNat = true) :=
  ⟨⟨st live, 0, 9, 3, by decide⟩,
   ⟨st live, 0, 4, 20, 2, 9, 3, by decide⟩,
   ⟨hh {trained := true}, 2, none, 9, 3, by decide⟩,
   ⟨st hb, 0, .clean, by decide⟩,
   ⟨hh {patrol := hbmSize / 256 - 1}, 2, .clean, by decide⟩,
   ⟨st hb, 0, 20, by decide⟩,
   ⟨st hb, 0, 110, by decide⟩,
   ⟨st hb, 0, 0, 20, true, by decide⟩,
   ⟨hh {flying := [q0, q1], replays := [(0, 3), (3, 3)], retry := [(4990, q0), (100, q1)]}, 2, 0, 20, by decide⟩,
   ⟨st live, 0, .servicePort, 0x5B7D000000000001, by decide⟩,
   ⟨st live, 0, .servicePort, 0, by decide⟩,
   ⟨hh {retrain := true}, 2, .servicePort, 0x5B7D000000000001, by decide⟩,
   ⟨hh {retrain := true}, 2, 9, 3, by decide⟩,
   ⟨st live, 0, by decide⟩,
   ⟨st live, 0, .servicePort, 0x5B7D000000000001, by decide⟩,
   ⟨st live, 0, .servicePort, 0x0108182008101000, by decide⟩,
   ⟨st live, 0, .servicePort, 0x5B7D000000000001, by decide⟩,
   ⟨st live, 0, .servicePort, 0x0108182008101000, by decide⟩⟩
end B15

namespace B16
def p0 : GillProg := { gill := 1, held := 0, stream := 0x1000, stride := 1, rows := 1, accRow := 3, accCol := 5, heldCt := false }
def sp (c h f m : Nat) : Step := { config := 4, cls := c, mode := m, gmask := 2, fHeld := h, fStream := f, gills := [p0] }
def xi : Step := sp 1 6 6 1
def xc : Step := sp 5 9 9 0
def xf : Step := sp 4 0 0 1
def xb : Step := { sp 2 8 8 1 with config := 0 }
def x4 : Step := sp 0 7 7 0
def ly (x : Step) (i dr : Nat) : LayerRun := { engine := 1, seq := 7, accSat := true, steps := [x], idx := i, drainRows := dr, drainRow := 3, clr := true, drainCvt := 5 + 6*16, drainDst := 0x4000 }
def tb (l : LayerRun) (full : Bool) : Dev :=
  let d := { rel with mem := (List.range 64).map fun i => (0x020000001000 + i, BitVec.ofNat 8 (i * 37 + 1)) }
  d.setTile 0 { layer := some l, shadowFull := full, shadow := if full then [(1, ((List.range 2048).map fun i => (i * 91 + 7) % 65521, 0))] else [], acc := (List.range 64).map fun i => (3*64+i, 1000*i+3) }
def nr : Dev := { rel with nanRep := [(500, 3, 3)] }
def nv (t p : Nat) : Dev := ((((nr.setF NANF_VALID 1).setF NAN_TS t).setF NANF_PTILE p).setF NAN_CAP_0 1 3)
def nf : Dev := { rel with nanRep := [(500, 3, 3), (499, 4, 1), (900, 3, 3)] }
def run1 : Dev := ((tb (ly xi 0 0) true).setF MX_RES_EN 1 0).setF REP_STATE 3
def mv1 : Dev := { tb (ly xi 0 0) true with safe := { handover := some { ltile := 0, out := 6, begun := 3 } } }
theorem test_witness_ArraySteps :
  (∃ s : State, ∃ t : LTile, ∃ l : LayerRun, ∃ x : Step, ∃ p : GillProg, Inv s ∧ OneRowStep s.dev t.val l x p)
  ∧ (∃ s : State, ∃ t : LTile, ∃ l : LayerRun, ∃ x : Step, ∃ p : GillProg, Inv s ∧ OneRowStep s.dev t.val l x p ∧ ((x.cls = 0 ∨ (x.cls = 1 ∧ x.fHeld = 6))))
  ∧ (∃ s : State, ∃ t : LTile, ∃ l : LayerRun, ∃ x : Step, ∃ p : GillProg, Inv s ∧ OneRowStep s.dev t.val l x p ∧ x.cls = 5)
  ∧ (∃ s : State, ∃ t : LTile, ∃ l : LayerRun, ∃ x : Step, ∃ p : GillProg, Inv s ∧ OneRowStep s.dev t.val l x p ∧ x.cls ≠ 0 ∧ x.cls ≠ 5 ∧ (¬(x.cls = 1 ∧ x.fHeld = 6)))
  ∧ (∃ s : State, ∃ t : LTile, ∃ l : LayerRun, ∃ x : Step, ∃ p : GillProg, ∃ f : BitVec 32, ∃ g : Fin 16, Inv s ∧ OneRowStep s.dev t.val l x p ∧ p.gill = g.val ∧ s.dev.flag MX_RES_EN (s.dev.ptile t.val) = true ∧ residueSees x (Sparse.get ([], 0) (s.dev.tileOf t.val).shadow g.val) (s.dev.streamRow t.val x p) 0 f.toNat = true ∧ 0 < (gillShape x.config x.cls).2)
  ∧ (∃ s : State, ∃ t : LTile, ∃ f : Option (Fin 16 × Fin 64 × BitVec 32), Inv s ∧ (s.dev.tileOf t.val).shadowFull = false)
  ∧ (∃ s : State, ∃ t : LTile, ∃ f : Option (Fin 16 × Fin 64 × BitVec 32), ∃ u : Option (Fin 1024 × Fin 64 × Upset), Inv s ∧ s.dev.tileMoves t.val = true)
  ∧ (∃ s : State, ∃ t : LTile, ∃ l : LayerRun, ∃ x : Step, ∃ p : GillProg, Inv s ∧ OneRowStep s.dev t.val l x p) :=
  ⟨⟨st run1, 0, ly xi 0 0, xi, p0, by decide⟩,
   ⟨st run1, 0, ly xi 0 0, xi, p0, by decide⟩,
   ⟨st (tb (ly xc 0 1) true), 0, ly xc 0 1, xc, p0, by decide⟩,
   ⟨st (tb (ly xf 0 1) true), 0, ly xf 0 1, xf, p0, by decide⟩,
   ⟨st run1, 0, ly xi 0 0, xi, p0, 1, 1, by decide⟩,
   ⟨st run1, 1, none, by decide⟩,
   ⟨st mv1, 0, none, none, by decide⟩,
   ⟨st run1, 0, ly xi 0 0, xi, p0, by decide⟩⟩
theorem test_witness_ArrayLoadsAndDrains :
  (∃ s : State, ∃ t : LTile, ∃ l : LayerRun, ∃ x : Step, ∃ p : GillProg, (s.dev.live = true ∧ s.dev.tileMoves t.val = false) ∧ (s.dev.tileOf t.val).layer = some l ∧ l.wmode ≠ 1 ∧ l.steps[l.idx]? = some x ∧ (s.dev.tileOf t.val).shadowFull = false ∧ s.dev.stepReject x = none ∧ x.gills = [p] ∧ s.dev.ctBad x p = false)
  ∧ (∃ s : State, ∃ t : LTile, ∃ l : LayerRun, ∃ x : Step, ∃ r : Nat, ∃ g : Nat, (s.dev.live = true ∧ s.dev.tileMoves t.val = false) ∧ (s.dev.tileOf t.val).layer = some l ∧ l.wmode ≠ 1 ∧ l.steps[l.idx]? = some x ∧ (s.dev.tileOf t.val).shadowFull = false ∧ s.dev.stepReject x = some (r, g))
  ∧ (∃ s : State, ∃ t : LTile, Inv s ∧ (((s.dev.tileOf t.val).shadowFull = true ∨ (s.dev.tileOf t.val).layer = none)))
  ∧ (∃ s : State, ∃ t : LTile, ∃ l : LayerRun, Inv s ∧ (s.dev.tileOf t.val).layer = some l ∧ l.idx < l.steps.length)
  ∧ (∃ s : State, ∃ t : LTile, ∃ l : LayerRun, ∃ x : Step, (s.dev.live = true ∧ s.dev.tileMoves t.val = false) ∧ (s.dev.tileOf t.val).layer = some l ∧ l.idx = l.steps.length ∧ l.sendsDue = false ∧ l.steps.getLast? = some x ∧ cvtReject x.drainFmt l.drainCvt 64 ≠ 0)
  ∧ (∃ s : State, ∃ t : LTile, ∃ l : LayerRun, ∃ x : Step, (s.dev.live = true ∧ s.dev.tileMoves t.val = false) ∧ (s.dev.tileOf t.val).layer = some l ∧ l.idx = l.steps.length ∧ l.sendsDue = false ∧ l.steps.getLast? = some x ∧ cvtReject x.drainFmt l.drainCvt 64 = 0)
  ∧ (∃ s : State, ∃ t : LTile, ∃ row : Fin 1024, ∃ w : Fin 64, (s.dev.live = true ∧ s.dev.tileMoves t.val = false) ∧ s.dev.drainReads t.val row.val = true) :=
  ⟨⟨st (tb (ly xi 0 0) false), 0, ly xi 0 0, xi, p0, by decide⟩,
   ⟨st (tb (ly xb 0 1) false), 0, ly xb 0 1, xb, 1, 1, by decide⟩,
   ⟨st run1, 0, by decide⟩,
   ⟨st run1, 0, ly xi 0 0, by decide⟩,
   ⟨st (tb ({ ly x4 1 1 with drainCvt := 5 + 6*16 + 768 }) true), 0, { ly x4 1 1 with drainCvt := 5 + 6*16 + 768 }, x4, by decide⟩,
   ⟨st (tb (ly x4 1 1) true), 0, ly x4 1 1, x4, by decide⟩,
   ⟨st (tb (ly x4 1 1) true), 0, 3, 0, by decide⟩⟩
theorem test_witness_ScaleAndNanRegisters :
  (∃ s : State, ∃ t : PTile, ∃ n : Fin 16, ∃ p : Path, ∃ v : Word64, Inv s ∧ Reaches s.dev p (0x1000300 + 0x10000 * t.val + 8 * n.val))
  ∧ (∃ s : State, ∃ r : Nat × Nat × Nat, s.dev.mlive = true ∧ s.dev.nanRep = [r])
  ∧ (∃ s : State, ∃ r : Nat × Nat × Nat, ∃ q : Nat × Nat × Nat, ∃ o : Nat × Nat × Nat, s.dev.mlive = true ∧ s.dev.nanRep = [r, q, o] ∧ judgeAt q.1 = judgeAt r.1 ∧ judgeAt o.1 ≠ judgeAt r.1)
  ∧ (∃ d : Dev, ∃ r : Nat × Nat × Nat, d.flag NANF_VALID = false ∧ d.flag NANF_FINAL = false ∧ (r.2.1 < 65 ∧ r.2.2 < 64 ∧ r.1 < 2 ^ 64))
  ∧ (∃ d : Dev, ∃ r : Nat × Nat × Nat, d.flag NANF_VALID = true ∧ d.flag NANF_FINAL = false ∧ (r.2.1 < 65 ∧ r.2.2 < 64 ∧ r.1 < 2 ^ 64) ∧ ((r.1 < d.fld NAN_TS ∨ (r.1 = d.fld NAN_TS ∧ r.2.1 < d.fld NANF_PTILE))))
  ∧ (∃ d : Dev, ∃ r : Nat × Nat × Nat, d.flag NANF_VALID = true ∧ (¬(r.1 < d.fld NAN_TS ∨ (r.1 = d.fld NAN_TS ∧ r.2.1 < d.fld NANF_PTILE))))
  ∧ (∃ d : Dev, ∃ r : Nat × Nat × Nat, d.flag NANF_FINAL = true)
  ∧ (∃ s : State, s.dev.mlive = true ∧ s.dev.flag NANF_VALID = true ∧ s.dev.flag NANF_FINAL = false ∧ ((∀ r ∈ s.dev.nanRep, (s.dev.fld NAN_TS + 803) / 4 < judgeAt r.1)))
  ∧ (∃ s : State, ∃ r : Nat × Nat × Nat, s.dev.mlive = true ∧ s.dev.flag NANF_VALID = true ∧ s.dev.flag NANF_FINAL = false ∧ s.dev.nanRep = [r] ∧ judgeAt r.1 ≤ (s.dev.fld NAN_TS + 803) / 4)
  ∧ (∃ s : State, Inv s ∧ ((s.dev.flag NANF_VALID = false ∨ s.dev.flag NANF_FINAL = true)))
  ∧ (∃ s : State, ∃ p : Path, ∃ v : Word64, Inv s ∧ Reaches s.dev p 0x300 ∧ v.getLsbD 0 = true)
  ∧ (∃ s : State, ∃ t : PTile, ∃ p : Path, ∃ v : Word64, Reaches s.dev p (0x1000400 + 0x10000 * t.val) ∧ v.getLsbD 0 = true) :=
  ⟨⟨st ((nv 600 5).setF NANF_FINAL 1), 0, 1, .servicePort, 0x5B7D00000A000001, by decide⟩,
   ⟨st ((nv 600 5).setF REP_STATE 3), (500, 3, 3), by decide⟩,
   ⟨st nf, (500, 3, 3), (499, 4, 1), (900, 3, 3), by decide⟩,
   ⟨(st rel).dev, (500, 3, 3), by decide⟩,
   ⟨(st (nv 500 5)).dev, (500, 3, 3), by decide⟩,
   ⟨(st (nv 400 5)).dev, (500, 3, 3), by decide⟩,
   ⟨(st ((nv 600 5).setF NANF_FINAL 1)).dev, (500, 3, 3), by decide⟩,
   ⟨st ({ nv 600 5 with nanRep := [] }.setF REP_STATE 3), by decide⟩,
   ⟨st ((nv 600 5).setF REP_STATE 3), (500, 3, 3), by decide⟩,
   ⟨st run1, by decide⟩,
   ⟨st ((nv 600 5).setF NANF_FINAL 1), .servicePort, 0x5B7D00000A000001, by decide⟩,
   ⟨st ((nv 600 5).setF NANF_FINAL 1), 0, .servicePort, 0x5B7D00000A000001, by decide⟩⟩
end B16

namespace B17
def g0 : Group := { st := 1, active := 0x80000005, alive := 0x8000000F, pc := 0x100, base := 0x8000, limit := 0xA000, win := (List.range 512).map fun i => (i, (if i < 32 then 64 * i + 16 else if i < 64 then 3000000000 + i * 77 else if i < 96 then 3 + i % 5 else (i * 2654435761)) % 2 ^ 32), pred := [(1, 0xFFFFFFFF), (2, 4)], ngrp := 1, run := some (1, 7), trapVec := 0x900 }
def tl (y : Group) : Dev := rel.setTile 1 { groups := [(2, y)] }
def gf : Group := { g0 with win := (List.range 512).map fun i => (i, if i % 32 = 0 then 0x3F800000 + (i / 32) * 0x12345 else if i % 32 = 2 then 0x40490FDB - (i / 32) * 0x777 else 0x7F800000 + (i % 3) * 0x80000000) }
def vi (f : Nat) : VI := { t := 1, g := 2, fmt := BitVec.ofNat 4 f, rd := 3, ra := 0, rb := 2, rc := 0, pred := 0, pneg := false, immb := false, imm := 0 }
theorem test_witness_VectorIssueAndFrame :
  (∃ s : State, ∃ i : VI, ∃ r : BitVec 8, s.dev.tileIssues i.t.val = true ∧ (s.dev.iGrp i).st = 1 ∧ (s.dev.iGrp i).badStore = none)
  ∧ (∃ s : State, ∃ i : VI, ∃ r : BitVec 8, s.dev.tileIssues i.t.val = true ∧ (s.dev.iGrp i).st = 1 ∧ (s.dev.iGrp i).badStore = none ∧ i.regs = .double ∧ s.dev.iAct i ≠ 0)
  ∧ (∃ s : State, ∃ i : VI, ∃ r : BitVec 8, ∃ a : Nat, ∃ st : Nat, s.dev.tileIssues i.t.val = true ∧ (s.dev.iGrp i).st = 1 ∧ (s.dev.iGrp i).badStore = some (a, st))
  ∧ (∃ s : State, ∃ i : VI, ∃ r : BitVec 8, Inv s ∧ (((s.dev.iGrp i).st ≠ 1 ∨ s.dev.tileIssues i.t.val = false)))
  ∧ (∃ s : State, ∃ i : VI, Inv s ∧ s.dev.tileIssues i.t.val = true ∧ (s.dev.iGrp i).st = 1 ∧ (s.dev.iGrp i).badStore = none ∧ i.rc ≠ 0)
  ∧ (∃ s : State, ∃ i : VI, Inv s ∧ s.dev.tileIssues i.t.val = true ∧ (s.dev.iGrp i).st = 1 ∧ (s.dev.iGrp i).badStore = none ∧ i.regs ≠ .double)
  ∧ (∃ s : State, ∃ i : VI, Inv s ∧ Issues s.dev (intUse false) i ∧ i.rd.val = 24) :=
  ⟨⟨st (tl { gf with active := 4, win := gf.win.map fun e => (e.1, if e.1 / 32 = 0 then 0x80000000 else if e.1 / 32 = 2 then 0 else 0x7FC00000) }), vi 0, 0, by decide⟩,
   ⟨st (tl { gf with active := 4, win := gf.win.map fun e => (e.1, if e.1 / 32 = 0 then 0x80000000 else if e.1 / 32 = 2 then 0 else 0x7FC00000) }), { vi 0 with regs := .double }, 0, by decide⟩,
   ⟨st (tl { g0 with badStore := some (77, 3) }), vi 0, 0, 77, 3, by decide⟩,
   ⟨st (tl { g0 with st := 2 }), vi 0, 0, by decide⟩,
   ⟨st (tl { gf with active := 4, win := gf.win.map fun e => (e.1, if e.1 / 32 = 0 then 0x80000000 else if e.1 / 32 = 2 then 0 else 0x7FC00000) }), { vi 0 with rc := 1 }, by decide⟩,
   ⟨st (tl { gf with active := 4, win := gf.win.map fun e => (e.1, if e.1 / 32 = 0 then 0x80000000 else if e.1 / 32 = 2 then 0 else 0x7FC00000) }), vi 0, by decide⟩,
   ⟨st (tl { gf with active := 4, win := gf.win.map fun e => (e.1, if e.1 / 32 = 0 then 0x80000000 else if e.1 / 32 = 2 then 0 else 0x7FC00000) }), { vi 6 with rd := 24 }, by decide⟩⟩
theorem test_witness_IntegerInstructions :
  (∃ s : State, ∃ i : VI, Inv s ∧ Issues s.dev (intUse false) i)
  ∧ (∃ s : State, ∃ i : VI, Inv s ∧ Issues s.dev (intUse false) i)
  ∧ (∃ s : State, ∃ i : VI, Inv s ∧ Issues s.dev (intUse true) i)
  ∧ (∃ s : State, ∃ i : VI, Inv s ∧ Issues s.dev (intUse false) i)
  ∧ (∃ s : State, ∃ i : VI, Inv s ∧ Issues s.dev (intUse false) i ∧ ((lanesOf (s.dev.iAct i)).all fun l => (upTo (32 / intW i.fmt.toNat)).all fun k => decide (bits (s.dev.iB i l) (k * intW i.fmt.toNat) (intW i.fmt.toNat) < intW i.fmt.toNat)) = true)
  ∧ (∃ s : State, ∃ i : VI, ∃ l : Fin 32, Inv s ∧ Issues s.dev (intUse false) i ∧ i.fmt = 0 ∧ s.dev.iAct i = 2 ^ l.val ∧ 32 ≤ s.dev.iB i l.val)
  ∧ (∃ s : State, ∃ i : VI, Inv s ∧ Issues s.dev (intUse false) i)
  ∧ (∃ s : State, ∃ i : VI, ∃ op : CmpOp, Inv s ∧ Issues s.dev { fm := [0, 5, 6, 7], pd := true, ra := true, rb := true } i ∧ i.fmt = 0) :=
  ⟨⟨st (tl { gf with active := 4, win := gf.win.map fun e => (e.1, if e.1 / 32 = 0 then 0x80000000 else if e.1 / 32 = 2 then 0 else 0x7FC00000) }), vi 0, by decide⟩,
   ⟨st (tl { gf with active := 4, win := gf.win.map fun e => (e.1, if e.1 / 32 = 0 then 0x80000000 else if e.1 / 32 = 2 then 0 else 0x7FC00000) }), vi 0, by decide⟩,
   ⟨st (tl { gf with active := 4, win := gf.win.map fun e => (e.1, if e.1 / 32 = 0 then 0x80000000 else if e.1 / 32 = 2 then 0 else 0x7FC00000) }), vi 0, by decide⟩,
   ⟨st (tl { gf with active := 4, win := gf.win.map fun e => (e.1, if e.1 / 32 = 0 then 0x80000000 else if e.1 / 32 = 2 then 0 else 0x7FC00000) }), vi 0, by decide⟩,
   ⟨st (tl { gf with active := 4, win := gf.win.map fun e => (e.1, if e.1 / 32 = 0 then 0x80000000 else if e.1 / 32 = 2 then 0 else 0x7FC00000) }), vi 0, by decide⟩,
   ⟨st (tl { gf with active := 4, win := gf.win.map fun e => (e.1, if e.1 / 32 = 0 then 0x80000000 else if e.1 / 32 = 2 then 0 else 0x7FC00000) }), { vi 0 with immb := true, rb := 0, imm := 0xFFFFFFD }, 2, by decide⟩,
   ⟨st (tl { gf with active := 4, win := gf.win.map fun e => (e.1, if e.1 / 32 = 0 then 0x80000000 else if e.1 / 32 = 2 then 0 else 0x7FC00000) }), vi 0, by decide⟩,
   ⟨st (tl { gf with active := 4, win := gf.win.map fun e => (e.1, if e.1 / 32 = 0 then 0x80000000 else if e.1 / 32 = 2 then 0 else 0x7FC00000) }), vi 0, .lt, by decide⟩⟩
theorem test_witness_FloatAndConvert :
  (∃ s : State, ∃ i : VI, Inv s ∧ Issues s.dev floatUse i ∧ s.dev.noNan i (fun a b _ => a.add b) = true)
  ∧ (∃ s : State, ∃ i : VI, Inv s ∧ Issues s.dev floatUse i ∧ s.dev.noNan i (fun a b _ => a.add b.neg) = true)
  ∧ (∃ s : State, ∃ i : VI, Inv s ∧ Issues s.dev floatUse i ∧ s.dev.noNan i (fun a b _ => a.mul b) = true)
  ∧ (∃ s : State, ∃ i : VI, Inv s ∧ Issues s.dev { floatUse with rc := true } i ∧ s.dev.noNan i (fun a b c => (a.mul b).add c) = true)
  ∧ (∃ s : State, ∃ i : VI, Inv s ∧ Issues s.dev floatUse i ∧ s.dev.noNan i (fun a b _ => a.div b) = true)
  ∧ (∃ s : State, ∃ i : VI, Inv s ∧ Issues s.dev { floatUse with rb := false } i ∧ s.dev.noNan i (fun a _ _ => a.sqrt) = true)
  ∧ (∃ s : State, ∃ i : VI, Inv s ∧ Issues s.dev floatUse i ∧ s.dev.stated i FV.minOf = true ∧ s.dev.noNan i (fun a b _ => if b.lt a then b else a) = true)
  ∧ (∃ s : State, ∃ i : VI, Inv s ∧ Issues s.dev floatUse i ∧ s.dev.stated i FV.maxOf = true ∧ s.dev.noNan i (fun a b _ => if a.lt b then b else a) = true)
  ∧ (∃ s : State, ∃ i : VI, ∃ l : Fin 32, Inv s ∧ Issues s.dev floatUse i ∧ i.fmt = 0 ∧ i.rd.val < 24 ∧ s.dev.iAct i = 2 ^ l.val ∧ (FV.minOf (ofFp32 (s.dev.iA i l.val)) (ofFp32 (s.dev.iB i l.val))).isNone = true)
  ∧ (∃ s : State, ∃ i : VI, ∃ l : Fin 32, Inv s ∧ Issues s.dev floatUse i ∧ i.fmt = 0 ∧ i.rd.val < 24 ∧ s.dev.iAct i = 2 ^ l.val ∧ (fp32 ((ofFp32 (s.dev.iA i l.val)).mul (ofFp32 (s.dev.iB i l.val))) |> isNan32) = true ∧ s.dev.fld NAN_CAP_0 i.t.val = 0)
  ∧ (∃ s : State, ∃ i : VI, ∃ op : CmpOp, Inv s ∧ Issues s.dev { fm := [0, 1, 2], pd := true, ra := true, rb := true } i ∧ i.fmt = 0)
  ∧ (∃ s : State, ∃ i : VI, Issues s.dev { rd := true, ra := true, im := true } i ∧ cvtRnd i.imm.toNat = 3 ∧ cvtSrc i.imm.toNat ≤ 9 ∧ cvtDst i.imm.toNat ≤ 9)
  ∧ (∃ s : State, ∃ i : VI, Issues s.dev { rd := true, ra := true, im := true } i ∧ cvtReject (cvtSrc i.imm.toNat) i.imm.toNat 1 = 0 ∧ cvtSrc i.imm.toNat < 8 ∧ cvtDst i.imm.toNat < 8)
  ∧ (∃ s : State, ∃ i : VI, ∃ l : Fin 32, Inv s ∧ Issues s.dev { rd := true, ra := true, rb := true, im := true } i ∧ i.rd.val < 24 ∧ s.dev.iAct i = 2 ^ l.val)
  ∧ (∃ s : State, ∃ i : VI, Issues s.dev { rd := true, ra := true, im := true } i ∧ cvtDst i.imm.toNat = 8 ∧ cvtSrc i.imm.toNat < 8 ∧ cvtRnd i.imm.toNat ≠ 3 ∧ s.dev.iAct i ≠ 2 ^ 32 - 1) :=
  ⟨⟨st (tl { gf with active := 4, win := gf.win.map fun e => (e.1, if e.1 / 32 = 0 then 0x80000000 else if e.1 / 32 = 2 then 0 else 0x7FC00000) }), vi 0, by decide⟩,
   ⟨st (tl { gf with active := 4, win := gf.win.map fun e => (e.1, if e.1 / 32 = 0 then 0x80000000 else if e.1 / 32 = 2 then 0 else 0x7FC00000) }), vi 0, by decide⟩,
   ⟨st (tl { gf with active := 4, win := gf.win.map fun e => (e.1, if e.1 / 32 = 0 then 0x80000000 else if e.1 / 32 = 2 then 0 else 0x7FC00000) }), vi 0, by decide⟩,
   ⟨st (tl { gf with active := 4, win := gf.win.map fun e => (e.1, if e.1 / 32 = 0 then 0x80000000 else if e.1 / 32 = 2 then 0 else 0x7FC00000) }), vi 0, by decide⟩,
   ⟨st (tl { gf with active := 4, win := gf.win.map fun e => (e.1, if e.1 / 32 = 0 then 0x80000000 else if e.1 / 32 = 2 then 0 else 0x7FC00000) }), { vi 0 with immb := true, rb := 0, imm := 40 }, by decide⟩,
   ⟨st (tl { gf with active := 4, win := gf.win.map fun e => (e.1, if e.1 / 32 = 0 then 0x80000000 else if e.1 / 32 = 2 then 0 else 0x7FC00000) }), { vi 0 with rb := 0 }, by decide⟩,
   ⟨st (tl { gf with active := 4, win := gf.win.map fun e => (e.1, if e.1 / 32 = 0 then 0x80000000 else if e.1 / 32 = 2 then 0 else 0x7FC00000) }), { vi 0 with immb := true, rb := 0, imm := 40 }, by decide⟩,
   ⟨st (tl { gf with active := 4, win := gf.win.map fun e => (e.1, if e.1 / 32 = 0 then 0x80000000 else if e.1 / 32 = 2 then 0 else 0x7FC00000) }), { vi 0 with immb := true, rb := 0, imm := 40 }, by decide⟩,
   ⟨st (tl { gf with active := 4, win := gf.win.map fun e => (e.1, if e.1 / 32 = 0 then 0x80000000 else if e.1 / 32 = 2 then 0 else 0x7FC00000) }), vi 0, 2, by decide⟩,
   ⟨st (tl { gf with active := 4, win := gf.win.map fun e => (e.1, if e.1 / 32 = 0 then 0x80000000 else if e.1 / 32 = 2 then 0 else 0x7FC00000) }), { vi 0 with immb := true, rb := 0, imm := 0xFFFFFFD }, 2, by decide⟩,
   ⟨st (tl { gf with active := 4, win := gf.win.map fun e => (e.1, if e.1 / 32 = 0 then 0x80000000 else if e.1 / 32 = 2 then 0 else 0x7FC00000) }), vi 0, .lt, by decide⟩,
   ⟨st (tl { gf with active := 4, win := gf.win.map fun e => (e.1, if e.1 / 32 = 0 then 0x80000000 else if e.1 / 32 = 2 then 0 else 0x7FC00000) }), { vi 0 with rb := 0, imm := 768 }, by decide⟩,
   ⟨st (tl { gf with active := 4, win := gf.win.map fun e => (e.1, if e.1 / 32 = 0 then 0x80000000 else if e.1 / 32 = 2 then 0 else 0x7FC00000) }), { vi 0 with rb := 0 }, by decide⟩,
   ⟨st (tl { gf with active := 4, win := gf.win.map fun e => (e.1, if e.1 / 32 = 0 then 0x80000000 else if e.1 / 32 = 2 then 0 else 0x7FC00000) }), vi 0, 2, by decide⟩,
   ⟨st (tl { gf with active := 4, win := gf.win.map fun e => (e.1, if e.1 / 32 = 0 then 0x80000000 else if e.1 / 32 = 2 then 0 else 0x7FC00000) }), { vi 0 with rb := 0, imm := 8 * 16 }, by decide⟩⟩
end B17

namespace B18
def g0 : Group := { st := 1, active := 0x80000005, alive := 0x8000000F, pc := 0x100, base := 0x8000, limit := 0xA000, win := (List.range 512).map fun i => (i, (if i < 32 then 64 * i + 16 else if i < 64 then 3000000000 + i * 77 else if i < 96 then 3 + i % 5 else (i * 2654435761)) % 2 ^ 32), pred := [(1, 0xFFFFFFFF), (2, 4)], ngrp := 1, run := some (1, 7), trapVec := 0x900 }
def tl (y : Group) : Dev := rel.setTile 1 { groups := [(2, y)] }
def gm (a : Nat) : Group := { g0 with active := 4, win := (List.range 160).map fun i => (i, if i < 32 then a % 2 ^ 32 else if i < 64 then a / 2 ^ 32 else 0x11223344 + i * 0x01010101) }
def tm (y : Group) : Dev := (({ tl y with mem := (List.range 64).map fun i => (0x020000200000 + i, BitVec.ofNat 8 (i * 37 + 1)) } : Dev).setF DIE_CEL_OK 3).setF DIE_HBM_CTL_OK 65535
def tcd : Dev := ((((tm (gm 0x200)).setF TIL_CACHE_Q 1).setF DIE_CEL_OK 65535).setF DIE_HBM_CTL_OK 65535)
def hostd : Dev := { ((tm (gm 0x400000000000)).setF DIE_PD_UP 255) with prt := (rel.setPrt 0 { rel.prtOf 0 with eff := Sparse.set 0 [] (PC_MODE.key 0 0) 2 }).prt }
def vi (f : Nat) : VI := { t := 1, g := 2, fmt := BitVec.ofNat 4 f, rd := 4, ra := 0, rb := 2, rc := 0, pred := 0, pneg := false, immb := false, imm := 0 }
theorem test_witness_VectorMemory :
  (∃ s : State, ∃ i : VI, ∃ r : BitVec 8, Issues s.dev (ldlUse i) i ∧ s.dev.offsetsOk i (vxWidth i) ∧ s.dev.offsetsGood i (vxWidth i))
  ∧ (∃ s : State, ∃ i : VI, ∃ r : BitVec 8, ∃ l : Fin 32, Inv s ∧ Issues s.dev (ldlUse i) i ∧ i.fmt = 2 ∧ i.rd.val < 24 ∧ s.dev.iAct i = 2 ^ l.val ∧ s.dev.offsetsOk i 4 ∧ s.dev.offsetsGood i 4)
  ∧ (∃ s : State, ∃ i : VI, ∃ r : BitVec 8, ∃ l : Fin 32, Inv s ∧ Issues s.dev (ldlUse i) i ∧ i.fmt = 3 ∧ i.rd.val < 24 ∧ s.dev.iAct i = 2 ^ l.val ∧ s.dev.offsetsOk i 8 ∧ s.dev.offsetsGood i 8)
  ∧ (∃ s : State, ∃ i : VI, ∃ r : BitVec 8, ∃ l : Fin 32, Inv s ∧ Issues s.dev (ldlUse i) i ∧ i.fmt.toNat < 2 ∧ i.rd.val < 24 ∧ s.dev.iAct i = 2 ^ l.val ∧ s.dev.offsetsOk i (2 ^ i.fmt.toNat) ∧ s.dev.offsetsGood i (2 ^ i.fmt.toNat))
  ∧ (∃ s : State, ∃ i : VI, ∃ r : BitVec 8, ∃ l : Fin 32, Issues s.dev (ldlUse i) i ∧ s.dev.iAct i = 2 ^ l.val ∧ s.dev.iA i l.val % vxWidth i ≠ 0)
  ∧ (∃ s : State, ∃ i : VI, ∃ r : BitVec 8, ∃ l : Fin 32, Issues s.dev (ldlUse i) i ∧ s.dev.iAct i = 2 ^ l.val ∧ s.dev.iA i l.val % vxWidth i = 0 ∧ s.dev.outsideScratch (s.dev.iA i l.val) (vxWidth i) = true)
  ∧ (∃ s : State, ∃ i : VI, ∃ r : BitVec 8, ∃ l : Fin 32, Issues s.dev (ldlUse i) i ∧ s.dev.iAct i = 2 ^ l.val ∧ s.dev.offsetsOk i (vxWidth i) ∧ s.dev.badAt i.t.val (s.dev.iA i l.val) (vxWidth i) = true)
  ∧ (∃ s : State, ∃ i : VI, ∃ r : BitVec 8, Issues s.dev (stlUse i) i ∧ s.dev.offsetsOk i (vxWidth i))
  ∧ (∃ s : State, ∃ i : VI, ∃ r : BitVec 8, ∃ l : Fin 32, Inv s ∧ Issues s.dev (stlUse i) i ∧ i.fmt = 2 ∧ s.dev.iAct i = 2 ^ l.val ∧ s.dev.offsetsOk i 4)
  ∧ (∃ s : State, ∃ i : VI, ∃ r : BitVec 8, ∃ l : Fin 32, Issues s.dev (stlUse i) i ∧ s.dev.iAct i = 2 ^ l.val ∧ s.dev.iA i l.val % vxWidth i ≠ 0)
  ∧ (∃ s : State, ∃ i : VI, ∃ l : Fin 32, Issues s.dev atUse i ∧ s.dev.iAct i = 2 ^ l.val ∧ s.dev.offsetsOk i 4 ∧ s.dev.offsetsGood i 4)
  ∧ (∃ s : State, ∃ i : VI, ∃ l : Fin 32, Issues s.dev (lddUse i) i ∧ s.dev.oneAddr i l.val ∧ s.dev.addrFree (s.dev.iAddr i l.val) ∧ s.dev.tcCaches (s.dev.iAddr i l.val) = false ∧ Dev.slowPlace (s.dev.iAddr i l.val) = false ∧ s.dev.accStatus (s.dev.iAddr i l.val) (vxWidth i) = 0 ∧ ((s.fresh.counted i).accRead (s.dev.stopOf i.t.val) (s.dev.iAddr i l.val) (vxWidth i)).1 = 0)
  ∧ (∃ s : State, ∃ i : VI, ∃ l : Fin 32, Issues s.dev (lddUse i) i ∧ s.dev.oneAddr i l.val ∧ s.dev.addrFree (s.dev.iAddr i l.val) ∧ s.dev.tcCaches (s.dev.iAddr i l.val) = true ∧ s.dev.accStatus (s.dev.iAddr i l.val) (vxWidth i) = 0 ∧ ((s.fresh.counted i).tcLoad i.t.val (s.dev.localAddr (s.dev.iAddr i l.val)) (vxWidth i)).2.1 = false)
  ∧ (∃ s : State, ∃ i : VI, ∃ l : Fin 32, Issues s.dev (lddUse i) i ∧ s.dev.oneAddr i l.val ∧ s.dev.addrFree (s.dev.iAddr i l.val) ∧ Dev.slowPlace (s.dev.iAddr i l.val) = true ∧ s.dev.accStatus (s.dev.iAddr i l.val) (vxWidth i) = 0)
  ∧ (∃ s : State, ∃ i : VI, ∃ l : Fin 32, Issues s.dev (lddUse i) i ∧ s.dev.oneAddr i l.val ∧ ¬s.dev.addrFree (s.dev.iAddr i l.val) ∧ s.dev.accStatus (s.dev.iAddr i l.val) (vxWidth i) = 0)
  ∧ (∃ s : State, ∃ i : VI, ∃ l : Fin 32, Issues s.dev (lddUse i) i ∧ s.dev.iAct i = 2 ^ l.val ∧ s.dev.iAddr i l.val % vxWidth i = 0 ∧ inRemoteWindow (s.dev.iAddr i l.val) = true)
  ∧ (∃ s : State, ∃ i : VI, ∃ l : Fin 32, Issues s.dev (lddUse i) i ∧ s.dev.oneAddr i l.val ∧ s.dev.accStatus (s.dev.iAddr i l.val) (vxWidth i) ≠ 0)
  ∧ (∃ s : State, ∃ i : VI, ∃ l : Fin 32, Issues s.dev (stdUse i) i ∧ s.dev.oneAddr i l.val ∧ s.dev.addrFree (s.dev.iAddr i l.val) ∧ s.dev.tcCaches (s.dev.iAddr i l.val) = false ∧ Dev.slowPlace (s.dev.iAddr i l.val) = false ∧ s.dev.accStatus (s.dev.iAddr i l.val) (vxWidth i) = 0 ∧ ((s.fresh.counted i).accWrite (s.dev.stopOf i.t.val) (s.dev.iAddr i l.val) (allOn (leBytes (vxWidth i) (viStore i (s.dev.iGrp i) s.dev.now l.val)))).1 = 0)
  ∧ (∃ s : State, ∃ i : VI, ∃ l : Fin 32, Issues s.dev (stdUse i) i ∧ s.dev.oneAddr i l.val ∧ s.dev.addrFree (s.dev.iAddr i l.val) ∧ s.dev.tcCaches (s.dev.iAddr i l.val) = true ∧ s.dev.accStatus (s.dev.iAddr i l.val) (vxWidth i) = 0)
  ∧ (∃ s : State, ∃ i : VI, ∃ l : Fin 32, Issues s.dev (stdUse i) i ∧ s.dev.oneAddr i l.val ∧ s.dev.addrFree (s.dev.iAddr i l.val) ∧ Dev.slowPlace (s.dev.iAddr i l.val) = true ∧ s.dev.accStatus (s.dev.iAddr i l.val) (vxWidth i) = 0)
  ∧ (∃ s : State, ∃ i : VI, ∃ l : Fin 32, Issues s.dev (stdUse i) i ∧ s.dev.oneAddr i l.val ∧ s.dev.stopStatus (s.dev.iAddr i l.val) (vxWidth i) ≠ 0)
  ∧ (∃ s : State, ∃ i : VI, ∃ l : Fin 32, Issues s.dev (stdUse i) i ∧ s.dev.oneAddr i l.val ∧ s.dev.addrFree (s.dev.iAddr i l.val) ∧ s.dev.stopStatus (s.dev.iAddr i l.val) (vxWidth i) = 0 ∧ s.dev.accStatus (s.dev.iAddr i l.val) (vxWidth i) ≠ 0)
  ∧ (∃ s : State, ∃ t : LTile, ∃ g : Fin 16, ∃ a : DevAddr, ∃ st : BitVec 4, s.dev.tileRuns t.val = true ∧ (s.dev.grp t.val g.val).st ≠ 0 ∧ (s.dev.grp t.val g.val).badStore = none) :=
  ⟨⟨st tcd, { vi 2 with rb := 0 }, 0, by decide⟩,
   ⟨st tcd, { vi 2 with rb := 0 }, 0, 2, by decide⟩,
   ⟨st tcd, { vi 3 with rb := 0 }, 0, 2, by decide⟩,
   ⟨st tcd, { vi 1 with rb := 0 }, 0, 2, by decide⟩,
   ⟨st (tm (gm 3)), { vi 2 with rb := 0 }, 0, 2, by decide⟩,
   ⟨st (tm (gm 0x1FFFFF0000)), { vi 2 with rb := 0 }, 0, 2, by decide⟩,
   ⟨st { tm (gm 8) with poison := [(0x020000200008 / 8, true)] }, { vi 2 with rb := 0 }, 0, 2, by decide⟩,
   ⟨st tcd, { vi 2 with rd := 0 }, 0, by decide⟩,
   ⟨st tcd, { vi 2 with rd := 0 }, 0, 2, by decide⟩,
   ⟨st (tm (gm 3)), { vi 2 with rd := 0 }, 0, 2, by decide⟩,
   ⟨st tcd, vi 0, 2, by decide⟩,
   ⟨st (tm (gm 8)), { vi 2 with rb := 0 }, 2, by decide⟩,
   ⟨st tcd, { vi 2 with rb := 0 }, 2, by decide⟩,
   ⟨st hostd, { vi 2 with rb := 0 }, 2, by decide⟩,
   ⟨st { tcd with cel := { trans := [(2, some { req := { op := .flush, rid := 3, tag := 4 } })] } }, { vi 2 with rb := 0 }, 2, by decide⟩,
   ⟨st ((tm (gm 0x808000000000)).setF CPL_MEMBER 4 0), { vi 2 with rb := 0 }, 2, by decide⟩,
   ⟨st (tm (gm 0x1FFFFF0000)), { vi 2 with rb := 0 }, 2, by decide⟩,
   ⟨st (tm (gm 8)), { vi 2 with rd := 0 }, 2, by decide⟩,
   ⟨st tcd, { vi 2 with rd := 0 }, 2, by decide⟩,
   ⟨st hostd, { vi 2 with rd := 0 }, 2, by decide⟩,
   ⟨st (tm (gm 0x1FFFFF0000)), { vi 2 with rd := 0 }, 2, by decide⟩,
   ⟨st (tm (gm 0x500000000000 )), { vi 2 with rd := 0 }, 2, by decide⟩,
   ⟨st tcd, 1, 2, 77, 3, by decide⟩⟩
end B18

namespace B19
def g0 : Group := { st := 1, active := 0x80000005, alive := 0x8000000F, pc := 0x100, base := 0x8000, limit := 0xA000, win := (List.range 512).map fun i => (i, (if i < 32 then 64 * i + 16 else if i < 64 then 3000000000 + i * 77 else if i < 96 then 3 + i % 5 else (i * 2654435761)) % 2 ^ 32), pred := [(1, 0xFFFFFFFF), (2, 4)], ngrp := 1, run := some (1, 7), trapVec := 0x900 }
def tl (y : Group) : Dev := rel.setTile 1 { groups := [(2, y)] }
def e0 : Recon := { mask := 0x8000000F, pc := 0x200, split := 0x80, phase := 0 }
def gl : Group := { g0 with win := (List.range 160).map fun i => (i, if i < 32 then 0x4000 else if i < 64 then 5 else (i * 7 + 2) % 4 * 0 + (if i % 32 = 31 then 0 else 2)) }
def cj : CopyJob := { src := 0x020000200000, dst := 0x020000201000, len := 64, rows := 2, elem := 0, sstride := 128, dstride := 64, ctr := 5, count := true, transpose := false, desc := 0, cmd := none, cur := [] }
def cdesc : Nat := 0x020000200000 + 0x020000201000 * 2^64 + 5 * 2^120 + 2^126 + 64 * 2^128 + 2 * 2^160 + 128 * 2^192 + 64 * 2^224
def tc (y : Group) : Dev := { tl y with mem := ((List.range 32).map fun i => (0x020000204000 + i, BitVec.ofNat 8 (cdesc / 256^i))).filter fun e => e.2 ≠ 0 }
def tx (f : Tile → Tile) : Dev := (tl g0).setTile 1 (f ((tl g0).tileOf 1))
def vi (f : Nat) : VI := { t := 1, g := 2, fmt := BitVec.ofNat 4 f, rd := 3, ra := 0, rb := 2, rc := 0, pred := 0, pneg := false, immb := false, imm := 0 }
def gk : BitVec 64 := 0x6A51000000000000
theorem test_witness_VectorAsync :
  (∃ s : State, ∃ i : VI, Issues s.dev { ra := true } i ∧ s.dev.iAct i ≠ 0 ∧ s.dev.descOut i = false ∧ (s.descRead i).2.1 = false ∧ s.dev.copyBad i.t.val (leNat (s.descRead i).1) (s.descCopy i) = false)
  ∧ (∃ s : State, ∃ i : VI, Issues s.dev { ra := true } i ∧ s.dev.iAct i ≠ 0 ∧ s.dev.descOut i = false ∧ (s.descRead i).2.1 = false ∧ s.dev.copyBad i.t.val (leNat (s.descRead i).1) (s.descCopy i) = true)
  ∧ (∃ s : State, ∃ i : VI, Issues s.dev { ra := true } i ∧ s.dev.iAct i ≠ 0 ∧ s.dev.descOut i = true)
  ∧ (∃ s : State, ∃ i : VI, Issues s.dev { ra := true } i ∧ s.dev.iAct i ≠ 0 ∧ s.dev.descOut i = false ∧ (s.descRead i).2.1 = true)
  ∧ (∃ s : State, ∃ i : VI, Inv s ∧ Issues s.dev { ra := true, rb := true } i ∧ s.dev.iAct i ≠ 0)
  ∧ (∃ s : State, ∃ i : VI, Inv s ∧ Issues s.dev { ra := true } i ∧ s.dev.iAct i ≠ 0 ∧ s.dev.fbit AC_FAULT (s.dev.iA i (firstLane (s.dev.iAct i)) % 64) i.t.val = false)
  ∧ (∃ s : State, ∃ i : VI, Inv s ∧ Issues s.dev { ra := true } i ∧ s.dev.iAct i ≠ 0 ∧ s.dev.fbit AC_FAULT (s.dev.iA i (firstLane (s.dev.iAct i)) % 64) i.t.val = true)
  ∧ (∃ s : State, ∃ i : VI, Inv s ∧ Issues s.dev { rd := true, ra := true } i)
  ∧ (∃ s : State, ∃ t : LTile, ∃ k : Fin 64, Inv s ∧ s.dev.live = true)
  ∧ (∃ s : State, ∃ t : LTile, ∃ j : CopyJob, ∃ r : List CopyJob, s.dev.tileRuns t.val = true ∧ (s.dev.tileOf t.val).copyQ = j :: r ∧ (s.dev.tileOf t.val).copyOn.length < 4)
  ∧ (∃ s : State, ∃ t : LTile, Inv s ∧ (((s.dev.tileOf t.val).copyQ = [] ∨ 4 ≤ (s.dev.tileOf t.val).copyOn.length)))
  ∧ (∃ s : State, ∃ t : LTile, ∃ j : CopyJob, s.dev.tileRuns t.val = true ∧ s.dev.copyReady t.val = some j ∧ j.dead = false ∧ remotePlace j.src = false ∧ remotePlace j.dst = false)
  ∧ (∃ s : State, ∃ t : LTile, ∃ j : CopyJob, s.dev.tileRuns t.val = true ∧ s.dev.copyReady t.val = some j ∧ j.dead = false ∧ (remotePlace j.src || remotePlace j.dst) = true)
  ∧ (∃ s : State, ∃ t : LTile, ∃ j : CopyJob, s.dev.tileRuns t.val = true ∧ s.dev.copyReady t.val = some j ∧ j.dead = true)
  ∧ (∃ s : State, ∃ t : LTile, ∃ j : CopyJob, Inv s ∧ s.dev.tileRuns t.val = true ∧ s.dev.copyReady t.val = some j ∧ s.dev.plainCopy t.val j = true)
  ∧ (∃ s : State, ∃ t : LTile, Inv s ∧ ((s.dev.tileRuns t.val = false ∨ s.dev.copyReady t.val = none))) :=
  ⟨⟨st (tc gl), { vi 0 with rb := 0, rd := 0 }, by decide⟩,
   ⟨st (tl g0), { vi 0 with rb := 0, rd := 0 }, by decide⟩,
   ⟨st (tc { gl with win := gl.win.map fun e => if e.1 < 32 then (e.1, 0x1FFFFF) else e }), { vi 0 with rb := 0, rd := 0 }, by decide⟩,
   ⟨st ((fun (d : Dev) => { d with poison := [(0x020000204000 / 8, true)] }) (tc gl)), { vi 0 with rb := 0, rd := 0 }, by decide⟩,
   ⟨st (tl g0), { vi 0 with rb := 0, rd := 0 }, by decide⟩,
   ⟨st (tl g0), { vi 0 with rb := 0, rd := 0 }, by decide⟩,
   ⟨st ((tc gl).setBit AC_FAULT 0 true 1), { vi 0 with rb := 0, rd := 0 }, by decide⟩,
   ⟨st (tl g0), { vi 0 with rb := 0 }, by decide⟩,
   ⟨st (tl g0), 5, 5, by decide⟩,
   ⟨st (tx fun x => { x with copyQ := [cj] }), 1, cj, [], by decide⟩,
   ⟨st (tl g0), 5, by decide⟩,
   ⟨st (tx fun x => { x with copyOn := [cj] }), 1, cj, by decide⟩,
   ⟨st (tx fun x => { x with copyOn := [{ cj with dst := 0x804000200000, ext := some (0, []) }] }), 1, { cj with dst := 0x804000200000, ext := some (0, []) }, by decide⟩,
   ⟨st (tx fun x => { x with copyOn := [{ cj with dead := true }] }), 1, { cj with dead := true }, by decide⟩,
   ⟨st { (tx fun x => { x with copyOn := [{ cj with rows := 1, len := 128 }] }) with mem := [(0x020000200000, 1), (0x020000200003, 7), (0x020000201040, 8)] }, 1, { cj with rows := 1, len := 128 }, by decide⟩,
   ⟨st (tl g0), 5, by decide⟩⟩
theorem test_witness_VectorFlow :
  (∃ s : State, ∃ i : VI, Inv s ∧ Issues s.dev { im := true } i ∧ s.dev.iAct i ≠ 0 ∧ s.dev.iAct i = (s.dev.iGrp i).active ∧ (s.dev.iGrp i).backOut (viTarget i (s.dev.iGrp i)) = false)
  ∧ (∃ s : State, ∃ i : VI, ∃ e : Recon, ∃ r : List Recon, Inv s ∧ Issues s.dev { im := true } i ∧ s.dev.iAct i ≠ 0 ∧ s.dev.iAct i ≠ (s.dev.iGrp i).active ∧ (s.dev.iGrp i).backOut (viTarget i (s.dev.iGrp i)) = false ∧ (s.dev.iGrp i).stack = e :: r ∧ e.phase = 0)
  ∧ (∃ s : State, ∃ i : VI, Inv s ∧ Issues s.dev { im := true } i ∧ s.dev.iAct i ≠ 0 ∧ s.dev.iAct i ≠ (s.dev.iGrp i).active ∧ (s.dev.iGrp i).stack = [])
  ∧ (∃ s : State, ∃ i : VI, Inv s ∧ Issues s.dev { im := true } i ∧ s.dev.iAct i ≠ 0)
  ∧ (∃ s : State, ∃ i : VI, ∃ e : Recon, ∃ r : List Recon, Inv s ∧ Issues s.dev {} i ∧ (s.dev.iGrp i).stack = e :: r)
  ∧ (∃ s : State, ∃ i : VI, Inv s ∧ Issues s.dev { im := true } i ∧ s.dev.iAct i ≠ 0 ∧ (s.dev.iGrp i).live < 8 ∧ (s.dev.iGrp i).frame < 8 ∧ (s.dev.iGrp i).pc + 8 < 2 ^ 32)
  ∧ (∃ s : State, ∃ i : VI, Inv s ∧ Issues s.dev { im := true } i ∧ s.dev.iAct i ≠ 0 ∧ (s.dev.iGrp i).live = 8 ∧ (s.dev.iGrp i).noRoom = true)
  ∧ (∃ s : State, ∃ i : VI, Issues s.dev { im := true } i ∧ s.dev.iAct i ≠ 0 ∧ (s.dev.iGrp i).live = 8 ∧ (s.dev.iGrp i).noRoom = false)
  ∧ (∃ s : State, ∃ i : VI, Inv s ∧ Issues s.dev { w15 := true } i ∧ s.dev.iAct i ≠ 0 ∧ 1 < (s.dev.iGrp i).live)
  ∧ (∃ s : State, ∃ i : VI, Inv s ∧ Issues s.dev { w15 := true } i ∧ s.dev.iAct i ≠ 0 ∧ (s.dev.iGrp i).live = 1 ∧ (s.dev.iGrp i).spill = 0)
  ∧ (∃ s : State, ∃ i : VI, Issues s.dev { w15 := true } i ∧ s.dev.iAct i ≠ 0 ∧ (s.dev.iGrp i).live = 1 ∧ (s.dev.iGrp i).spill ≠ 0)
  ∧ (∃ s : State, ∃ i : VI, Issues s.dev {} i ∧ s.dev.iAct i ≠ 0 ∧ (s.dev.iGrp i).alive - Nat.land (s.dev.iGrp i).alive (s.dev.iAct i) = 0)
  ∧ (∃ s : State, ∃ i : VI, Inv s ∧ Issues s.dev {} i ∧ s.dev.iAct i ≠ 0 ∧ (s.dev.iGrp i).alive - Nat.land (s.dev.iGrp i).alive (s.dev.iAct i) ≠ 0 ∧ (s.dev.iGrp i).active - s.dev.iAct i ≠ 0)
  ∧ (∃ s : State, ∃ i : VI, Inv s ∧ Issues s.dev { rb := true } i ∧ s.dev.iAct i ≠ 0)
  ∧ (∃ s : State, ∃ i : VI, Inv s ∧ Issues s.dev {} i ∧ s.dev.iAct i ≠ 0) :=
  ⟨⟨st (tl g0), { vi 0 with rb := 0, rd := 0 }, by decide⟩,
   ⟨st (tl { g0 with stack := [e0], active := 0x80000005 }), { vi 0 with rd := 0, rb := 0, imm := 3, pred := 2 }, e0, [], by decide⟩,
   ⟨st (tl g0), { vi 0 with rd := 0, rb := 0, imm := 3, pred := 2 }, by decide⟩,
   ⟨st (tl g0), { vi 0 with rb := 0, rd := 0 }, by decide⟩,
   ⟨st (tl { g0 with stack := [e0], active := 0x80000005 }), { vi 0 with rb := 0, rd := 0 }, e0, [], by decide⟩,
   ⟨st (tl g0), { vi 0 with rb := 0, rd := 0 }, by decide⟩,
   ⟨st (tl { g0 with live := 8, base := 0x8000, limit := 0x8000 }), { vi 0 with rb := 0, rd := 0 }, by decide⟩,
   ⟨st (tl { g0 with live := 8, base := 0x8000, limit := 0x9000 }), { vi 0 with rb := 0, rd := 0 }, by decide⟩,
   ⟨st (tl { g0 with live := 8, base := 0x8000, limit := 0x8000 }), { vi 0 with rb := 0, rd := 0 }, by decide⟩,
   ⟨st (tl g0), { vi 0 with rb := 0, rd := 0 }, by decide⟩,
   ⟨st (tl { g0 with live := 1, base := 0x8000, limit := 0x9000, spill := 0x800 }), { vi 0 with rb := 0, rd := 0 }, by decide⟩,
   ⟨st (tl { g0 with alive := 0x80000005 }), { vi 0 with rb := 0, rd := 0 }, by decide⟩,
   ⟨st (tl g0), { vi 0 with rd := 0, rb := 0, pred := 2 }, by decide⟩,
   ⟨st (tl g0), { vi 0 with rb := 0, rd := 0 }, by decide⟩,
   ⟨st (tl g0), { vi 0 with rb := 0, rd := 0 }, by decide⟩⟩
theorem test_witness_LaneSystemAndGroups :
  (∃ s : State, ∃ i : VI, Inv s ∧ Issues s.dev (laneUse true) i ∧ ((lanesOf (s.dev.iAct i)).all fun l => decide (s.dev.iB i l < 32) && bitAt (s.dev.iAct i) (s.dev.iB i l)) = true)
  ∧ (∃ s : State, ∃ i : VI, Inv s ∧ Issues s.dev (laneUse false) i)
  ∧ (∃ s : State, ∃ i : VI, ∃ op : VoteOp, Inv s ∧ Issues s.dev (laneUse false) i ∧ s.dev.iAct i = 2 ^ 32 - 1 ∧ op = .all)
  ∧ (∃ s : State, ∃ i : VI, Inv s ∧ Issues s.dev (laneUse false) i ∧ i.fmt = 0 ∧ s.dev.iAct i ≠ 0)
  ∧ (∃ s : State, ∃ i : VI, ∃ l : Fin 32, ∃ k : Fin 32, Inv s ∧ Issues s.dev (laneUse false) i ∧ i.fmt = 0 ∧ lanesOf (s.dev.iAct i) = [l.val, k.val])
  ∧ (∃ s : State, ∃ i : VI, ∃ r : Nat × Nat, Inv s ∧ Issues s.dev {} i ∧ s.dev.iAct i ≠ 0 ∧ (s.dev.iGrp i).run = some r)
  ∧ (∃ s : State, ∃ i : VI, Inv s ∧ Issues s.dev { im := true } i ∧ s.dev.iAct i ≠ 0)
  ∧ (∃ s : State, ∃ i : VI, Inv s ∧ Issues s.dev { rd := true, ra := true } i ∧ s.dev.iAct i ≠ 0)
  ∧ (∃ s : State, ∃ i : VI, Inv s ∧ Issues s.dev {} i)
  ∧ (∃ s : State, ∃ t : PTile, ∃ g : Fin 16, ∃ p : Path, ∃ v : Word64, Reaches s.dev p (grpReg t.val g.val 0x28) ∧ s.dev.ltile t.val < 64 ∧ bits v.toNat 48 16 = 0x6A51 ∧ v.getLsbD 0 = true ∧ v.getLsbD 1 = false ∧ (s.dev.grp (s.dev.ltile t.val) g.val).st = 3 ∧ (s.dev.grp (s.dev.ltile t.val) g.val).cause ≠ 1)
  ∧ (∃ s : State, ∃ t : PTile, ∃ g : Fin 16, ∃ p : Path, ∃ v : Word64, Reaches s.dev p (grpReg t.val g.val 0x28) ∧ s.dev.ltile t.val < 64 ∧ bits v.toNat 48 16 = 0x6A51 ∧ v.getLsbD 0 = true ∧ v.getLsbD 1 = false ∧ (s.dev.grp (s.dev.ltile t.val) g.val).st = 3 ∧ (s.dev.grp (s.dev.ltile t.val) g.val).cause = 1)
  ∧ (∃ s : State, ∃ t : PTile, ∃ g : Fin 16, ∃ p : Path, ∃ v : Word64, Reaches s.dev p (grpReg t.val g.val 0x28) ∧ s.dev.ltile t.val < 64 ∧ bits v.toNat 48 16 = 0x6A51 ∧ v.getLsbD 0 = true ∧ (s.dev.grp (s.dev.ltile t.val) g.val).st ≠ 3)
  ∧ (∃ s : State, ∃ t : PTile, ∃ g : Fin 16, ∃ p : Path, ∃ v : Word64, s.dev.ltile t.val = 64)
  ∧ (∃ s : State, ∃ t : PTile, ∃ g : Fin 16, ∃ p : Path, ∃ v : Word64, Reaches s.dev p (grpReg t.val g.val 0x28) ∧ s.dev.ltile t.val < 64 ∧ bits v.toNat 48 16 = 0x6A51 ∧ v.getLsbD 0 = false ∧ v.getLsbD 1 = true ∧ (s.dev.grp (s.dev.ltile t.val) g.val).st = 3)
  ∧ (∃ s : State, ∃ t : PTile, ∃ g : Fin 16, ∃ p : Path, ∃ v : Word64, Reaches s.dev p (grpReg t.val g.val 0x28) ∧ s.dev.ltile t.val < 64 ∧ bits v.toNat 48 16 ≠ 0x6A51)
  ∧ (∃ s : State, ∃ t : PTile, ∃ g : Fin 16, ∃ p : Path, ∃ v : Word64, Reaches s.dev p (grpReg t.val g.val 0x18) ∧ s.dev.ltile t.val < 64 ∧ (((s.dev.grp (s.dev.ltile t.val) g.val).st = 0 ∨ (s.dev.grp (s.dev.ltile t.val) g.val).st = 3)) ∧ (s.dev.grp (s.dev.ltile t.val) g.val).spill = 0 ∧ v.toNat % 2 ^ 21 / 2048 * 2048 ≤ (s.dev.grp (s.dev.ltile t.val) g.val).limit ∧ (s.dev.grp (s.dev.ltile t.val) g.val).limit ≤ s.dev.tcBase)
  ∧ (∃ s : State, ∃ t : PTile, ∃ g : Fin 16, ∃ p : Path, ∃ v : Word64, Reaches s.dev p (grpReg t.val g.val 0x20) ∧ s.dev.ltile t.val < 64 ∧ (((s.dev.grp (s.dev.ltile t.val) g.val).st = 0 ∨ (s.dev.grp (s.dev.ltile t.val) g.val).st = 3)) ∧ (s.dev.grp (s.dev.ltile t.val) g.val).base ≤ v.toNat % 2 ^ 21 / 2048 * 2048 ∧ v.toNat % 2 ^ 21 / 2048 * 2048 ≤ s.dev.tcBase)
  ∧ (∃ s : State, ∃ t : PTile, ∃ g : Fin 16, ∃ p : Path, ∃ v : Word64, s.dev.ltile t.val < 64 ∧ (((s.dev.grp (s.dev.ltile t.val) g.val).st = 1 ∨ (s.dev.grp (s.dev.ltile t.val) g.val).st = 2))) :=
  ⟨⟨st (tc gl), vi 0, by decide⟩,
   ⟨st (tl g0), { vi 0 with rb := 0 }, by decide⟩,
   ⟨st (tl { gl with active := 0xFFFFFFFF }), { vi 0 with rb := 0 }, .all, by decide⟩,
   ⟨st (tl g0), { vi 0 with rb := 0 }, by decide⟩,
   ⟨st (tl { g0 with active := 5 }), { vi 0 with rb := 0 }, 0, 2, by decide⟩,
   ⟨st (tl g0), { vi 0 with rb := 0, rd := 0 }, (1, 7), by decide⟩,
   ⟨st (tl g0), { vi 0 with rb := 0, rd := 0 }, by decide⟩,
   ⟨st (tl g0), { vi 0 with rb := 0 }, by decide⟩,
   ⟨st (tl g0), { vi 0 with rb := 0, rd := 0 }, by decide⟩,
   ⟨st (rel.setTile 0 { groups := [(1, { st := 3, cause := 5 })] }), 0, 1, .servicePort, gk + 1, by decide⟩,
   ⟨st (tl { g0 with st := 3, cause := 1, live := 8, base := 0x8000, limit := 0x9000 }), 1, 2, .servicePort, gk + 1, by decide⟩,
   ⟨st (tl g0), 0, 1, .servicePort, gk + 1, by decide⟩,
   ⟨st (tl g0), 64, 1, .servicePort, gk + 1, by decide⟩,
   ⟨st (tl { g0 with st := 3, cause := 1, live := 8, base := 0x8000, limit := 0x9000 }), 1, 2, .servicePort, gk + 2, by decide⟩,
   ⟨st (tl g0), 0, 1, .servicePort, 0x9000, by decide⟩,
   ⟨st (tl g0), 0, 1, .servicePort, gk + 1, by decide⟩,
   ⟨st (tl g0), 0, 1, .servicePort, gk + 1, by decide⟩,
   ⟨st (tl g0), 1, 2, .servicePort, gk + 1, by decide⟩⟩
end B19

namespace B20
def rot : Dev := { rel with safe := { map := List.range 64, rotating := true, low := false, setUp := true } }
def ho : Handover := { out := 3, ltile := 3, begun := 5 }
def hq : Handover := { out := 3, ltile := 3, begun := 5, quiet := true }
def rh : Dev := { (((rot.setF SPARE_SPARE 2).setF SPARE_HO 1).setF SAF_LOCK 1).setF SAF_COVERED 1 with safe := { rot.safe with handover := some ho, testing := true, overdue := [(1, true)], age := [(2, 4)] }, clk := { tick := 90000000, ts := 900, ageTick := 80000000 } }
def rq : Dev := { rh with safe := { rh.safe with handover := some hq, skipped := true, low := true } }
def wk : Dev := { ((((rh.setF WICK_STATE 1 0).setF WICK_OPEN 7 1).setF WICK_CLOSE 9 1).setF WICK_STATE 1 2).setF WICK_CLASS_F 1 2 with safe := { rh.safe with low := true, wicks := [(0, (1, 90000001)), (2, (95000000, 95000001))], regSig := rh.regSigNow } }
def wl : Dev := { wk with safe := { wk.safe with wicks := [(0, (1, 2)), (2, (95000000, 95000001))], regSig := wk.regSigNow, sticky := [0x0203] } }
def bl : SgdBell := { slot := 1, len := 8, at_ := 77 }
def ch : Dev := ((((((rh.setF SGD_MODE 1 0).setF SGD_NSLOT 4 0).setF SGD_MODE 2 1).setF SGD_NSLOT 4 1).setF SGD_MODE 2 2).setF SGD_NSLOT 4 2).setF SGD_MAX_GAP 3 1
def cb : Dev := (((ch.setSgd 0 { bells := [bl], lastDb := some 3 }).setSgd 1 { bells := [bl], lastDb := some 3 }).setSgd 2 { bells := [bl, bl, bl, bl], lastDb := some 9, gapUp := true })
def co : Dev := (cb.setF DIE_CEL_OK 3).setF DIE_HBM_CTL_OK 65535
def hd : List Byte := leBytes 2 0x5A3C ++ leBytes 1 0 ++ leBytes 1 0 ++ leBytes 4 8 ++ leBytes 8 5 ++ leBytes 8 9 ++ leBytes 4 0
def cm : Dev := (co.accWrite mgmtStop 4096 (allOn (hd ++ leBytes 4 (crc32 (hd ++ leBytes 8 3)) ++ leBytes 8 3))).2
/-- The register signature is that of the registers. -/
def sg : Dev := { rel with safe := { rel.safe with regSig := rel.regSigNow } }
theorem sg_sig : sg.regSigNow = sg.safe.regSig := by
  show (_ : Dev).regSigNow = rel.regSigNow
  rfl
theorem xor_one_ne (x : Nat) : x ^^^ 1 ≠ x := fun h => by
  have e := Nat.xor_xor_cancel_left x 1
  rw [h, Nat.xor_self] at e
  cases e
theorem test_witness_WitnessRotation :
  (∃ s : State, Inv s ∧ s.dev.live = true ∧ s.dev.load.bDone = false ∧ s.dev.flag SAF_SELFTEST_OK = false ∧ 0x0207 ∉ s.dev.safe.sticky)
  ∧ (∃ s : State, ∃ t : BitVec 65, s.dev.live = true ∧ s.dev.load.bDone = false ∧ s.dev.flag SAF_SELFTEST_OK = false ∧ 0x0207 ∉ s.dev.safe.sticky ∧ t ≠ 0)
  ∧ (∃ s : State, ∃ o : Nat, o = (s.dev.fld SPARE_SPARE + 1) % 65 ∧ s.dev.live = true ∧ s.dev.safe.rotating = true ∧ s.dev.flag SAF_ROT_HALT = false ∧ s.dev.safe.handover = none ∧ s.dev.rep.hold = false ∧ s.dev.rst.reload = none ∧ (s.fresh.tickTo s.dev.safe.slotAt).tileResetting (s.dev.ltile o) = false)
  ∧ (∃ s : State, ∃ o : Nat, o = (s.dev.fld SPARE_SPARE + 1) % 65 ∧ s.dev.live = true ∧ s.dev.safe.rotating = true ∧ s.dev.flag SAF_ROT_HALT = false ∧ s.dev.safe.handover = none ∧ s.dev.rep.hold = false ∧ s.dev.rst.reload = none ∧ (s.fresh.tickTo s.dev.safe.slotAt).tileResetting (s.dev.ltile o) = true)
  ∧ (∃ s : State, Inv s ∧ s.dev.rst.tile = [] ∧ ((s.dev.flag SAF_ROT_HALT = true ∨ s.dev.safe.handover.isSome = true ∨ s.dev.rep.hold = true)))
  ∧ (∃ s : State, ∃ h : Handover, Inv s ∧ s.dev.live = true ∧ s.dev.safe.handover = some h ∧ h.quiet = false ∧ s.dev.tileQuiet h.ltile = true)
  ∧ (∃ s : State, ∃ h : Handover, s.dev.live = true ∧ s.dev.safe.handover = some h ∧ h.quiet = false)
  ∧ (∃ s : State, ∃ h : Handover, s.dev.live = true ∧ s.dev.safe.handover = some h ∧ h.quiet = true ∧ s.dev.running = false)
  ∧ (∃ s : State, ∃ h : Handover, s.dev.live = true ∧ s.dev.safe.handover = some h ∧ h.quiet = true ∧ s.dev.running = true)
  ∧ (∃ s : State, ∃ k : Fin 9, Inv s ∧ s.dev.live = true ∧ s.dev.safe.testing = true ∧ s.dev.flag SAF_ROT_HALT = false ∧ (s.dev.clk.ageTick - Sparse.get 0 s.dev.safe.age (s.dev.fld SPARE_SPARE)) / 800 ≤ s.dev.fld WIT_AGEMAX_AGE)
  ∧ (∃ s : State, ∃ k : Fin 9, Inv s ∧ s.dev.live = true ∧ s.dev.safe.testing = true ∧ s.dev.flag SAF_ROT_HALT = false ∧ s.dev.fld WIT_AGEMAX_AGE < (s.dev.clk.ageTick - Sparse.get 0 s.dev.safe.age (s.dev.fld SPARE_SPARE)) / 800)
  ∧ (∃ s : State, ∃ g : Word64, ∃ k : Fin 9, s.dev.live = true ∧ s.dev.safe.testing = true ∧ s.dev.flag SAF_ROT_HALT = false ∧ g ≠ Config.witSignature)
  ∧ (∃ s : State, ∃ p : PTile, s.dev.released = true ∧ p.val ≠ s.dev.fld SPARE_SPARE ∧ NatSet.has s.dev.safe.overdue p.val = false ∧ s.dev.safe.rotating = true)
  ∧ (∃ s : State, ∃ p : PTile, Inv s ∧ NatSet.has s.dev.safe.overdue p.val = true)
  ∧ (∃ s : State, ∃ u : BitVec 32, Inv s ∧ s.dev.released = true ∧ Nat.xor s.dev.regSigNow u.toNat = s.dev.safe.regSig)
  ∧ (∃ s : State, ∃ u : BitVec 32, s.dev.released = true ∧ Nat.xor s.dev.regSigNow u.toNat ≠ s.dev.safe.regSig) :=
  ⟨⟨st live, by decide⟩,
   ⟨st live, 5, by decide⟩,
   ⟨st rot, 0, by decide⟩,
   ⟨st { rot with rst := { tile := [(0, some (2, 0))] } }, 0, by decide⟩,
   ⟨st rh, by decide⟩,
   ⟨st rh, ho, by decide⟩,
   ⟨st rh, ho, by decide⟩,
   ⟨st rq, hq, by decide⟩,
   ⟨st (rq.setF REP_STATE 3), hq, by decide⟩,
   ⟨st (rh.setF WIT_AGEMAX_AGE 999999), 0, by decide⟩,
   ⟨st rh, 0, by decide⟩,
   ⟨st rh, Config.witSignature + 1, 0, by decide, by decide, by decide, by simp⟩,
   ⟨st rot, 0, by decide⟩,
   ⟨st rh, 1, by decide⟩,
   ⟨st sg, 0, by decide, by decide, (Nat.xor_zero _).trans sg_sig⟩,
   ⟨st sg, 1, by decide, fun h => xor_one_ne _ (h.trans sg_sig.symm)⟩⟩
theorem test_witness_WicksAndChannels :
  (∃ s : State, ∃ n : Fin 96, ∃ p : Path, Reaches s.dev p (0x201010 + 0x20 * n.val) ∧ s.dev.fld WICK_STATE n.val ≠ 1 ∧ s.dev.fld WICK_OPEN n.val < s.dev.fld WICK_CLOSE n.val)
  ∧ (∃ s : State, ∃ n : Fin 96, ∃ p : Path, Reaches s.dev p (0x201010 + 0x20 * n.val) ∧ s.dev.fld WICK_STATE n.val = 1)
  ∧ (∃ s : State, ∃ n : Fin 96, ∃ p : Path, Reaches s.dev p (0x201010 + 0x20 * n.val) ∧ s.dev.fld WICK_STATE n.val ≠ 1 ∧ s.dev.fld WICK_CLOSE n.val ≤ s.dev.fld WICK_OPEN n.val)
  ∧ (∃ s : State, ∃ n : Fin 96, ∃ p : Path, Reaches s.dev p (0x201010 + 0x20 * n.val))
  ∧ (∃ s : State, ∃ n : Fin 96, ∃ p : Path, Reaches s.dev p (0x201010 + 0x20 * n.val))
  ∧ (∃ s : State, ∃ n : Fin 96, ∃ p : Path, ∃ o : Nat, ∃ c : Nat, Inv s ∧ Reaches s.dev p (0x201010 + 0x20 * n.val) ∧ s.dev.fld WICK_STATE n.val = 1 ∧ Sparse.get (0, 0) s.dev.safe.wicks n.val = (o, c) ∧ o ≤ s.dev.clk.tick ∧ s.dev.clk.tick ≤ c)
  ∧ (∃ s : State, ∃ n : Fin 96, ∃ p : Path, Reaches s.dev p (0x201010 + 0x20 * n.val) ∧ s.dev.fld WICK_STATE n.val = 1 ∧ s.dev.clk.tick < (Sparse.get (0, 0) s.dev.safe.wicks n.val).1)
  ∧ (∃ s : State, ∃ n : Fin 96, ∃ p : Path, Reaches s.dev p (0x201010 + 0x20 * n.val) ∧ s.dev.fld WICK_STATE n.val = 1 ∧ (Sparse.get (0, 0) s.dev.safe.wicks n.val).1 ≤ s.dev.clk.tick ∧ (Sparse.get (0, 0) s.dev.safe.wicks n.val).2 < s.dev.clk.tick)
  ∧ (∃ s : State, ∃ n : Fin 96, ∃ p : Path, Reaches s.dev p (0x201010 + 0x20 * n.val) ∧ s.dev.fld WICK_STATE n.val ≠ 1)
  ∧ (∃ s : State, ∃ n : Fin 96, s.dev.live = true ∧ s.dev.fld WICK_STATE n.val = 1)
  ∧ (∃ s : State, ∃ n : Fin 96, Inv s ∧ s.dev.fld WICK_STATE n.val ≠ 1)
  ∧ (∃ s : State, ∃ n : Fin 32, ∃ p : Path, ∃ v : Word64, Reaches s.dev p (0x500020 + 0x40 * n.val) ∧ s.dev.fld SGD_MODE n.val = 2 ∧ v.toNat % 2 ^ 16 < s.dev.fld SGD_NSLOT n.val ∧ (s.dev.sgdOf n.val).bells.length < 4)
  ∧ (∃ s : State, ∃ n : Fin 32, ∃ p : Path, ∃ v : Word64, Reaches s.dev p (0x500020 + 0x40 * n.val) ∧ s.dev.fld SGD_MODE n.val = 2 ∧ v.toNat % 2 ^ 16 < s.dev.fld SGD_NSLOT n.val ∧ 4 ≤ (s.dev.sgdOf n.val).bells.length)
  ∧ (∃ s : State, ∃ n : Fin 32, ∃ p : Path, ∃ v : Word64, Reaches s.dev p (0x500020 + 0x40 * n.val) ∧ s.dev.fld SGD_NSLOT n.val ≤ v.toNat % 2 ^ 16 ∧ v.toNat % 2 ^ 16 ≠ 0)
  ∧ (∃ s : State, ∃ n : Fin 32, ∃ p : Path, ∃ v : Word64, Reaches s.dev p (0x500020 + 0x40 * n.val) ∧ v.toNat % 2 ^ 16 < s.dev.fld SGD_NSLOT n.val ∧ s.dev.fld SGD_MODE n.val % 3 = 0)
  ∧ (∃ s : State, ∃ n : Fin 32, ∃ b : SgdBell, ∃ r : List SgdBell, Inv s ∧ s.dev.live = true ∧ s.dev.fld SGD_MODE n.val = 1 ∧ (s.dev.sgdOf n.val).bells = b :: r ∧ s.dev.fld SGD_VER n.val = 0 ∧ s.dev.fld SGD_FROZEN_N n.val = 0)
  ∧ (∃ s : State, ∃ n : Fin 32, ∃ b : SgdBell, ∃ r : List SgdBell, Inv s ∧ s.dev.live = true ∧ s.dev.fld SGD_MODE n.val = 2 ∧ (s.dev.sgdOf n.val).bells = b :: r)
  ∧ (∃ s : State, ∃ n : Fin 32, ∃ b : SgdBell, ∃ r : List SgdBell, Inv s ∧ s.dev.live = true ∧ s.dev.fld SGD_MODE n.val = 2 ∧ (s.dev.sgdOf n.val).bells = b :: r ∧ s.dev.fld SGD_VER n.val = 0)
  ∧ (∃ s : State, ∃ n : Fin 32, ∃ b : SgdBell, ∃ r : List SgdBell, Inv s ∧ s.dev.live = true ∧ s.dev.fld SGD_MODE n.val = 2 ∧ (s.dev.sgdOf n.val).bells = b :: r ∧ s.dev.fld SGD_VER n.val = 0 ∧ s.dev.accStatus (4096 * s.dev.fld SGD_RING_BASE n.val + b.slot * s.dev.sgdBuf n.val) 32 ≠ 0)
  ∧ (∃ s : State, ∃ n : Fin 32, ∃ t : Nat, s.dev.live = true ∧ s.dev.fld SGD_MAX_GAP n.val ≠ 0 ∧ s.dev.fld SGD_MODE n.val % 3 ≠ 0 ∧ (s.dev.sgdOf n.val).lastDb = some t ∧ (s.dev.sgdOf n.val).gapUp = false)
  ∧ (∃ s : State, ∃ n : Fin 32, Inv s ∧ (s.dev.sgdOf n.val).gapUp = true) :=
  ⟨⟨st wk, 1, .servicePort, by decide⟩,
   ⟨st wk, 0, .servicePort, by decide⟩,
   ⟨st live, 0, .servicePort, by decide⟩,
   ⟨st live, 0, .servicePort, by decide⟩,
   ⟨st live, 0, .servicePort, by decide⟩,
   ⟨st wk, 0, .servicePort, 1, 90000001, by decide⟩,
   ⟨st wk, 2, .servicePort, by decide⟩,
   ⟨st wl, 0, .servicePort, by decide⟩,
   ⟨st live, 0, .servicePort, by decide⟩,
   ⟨st (wk.setF REP_STATE 3), 0, by decide⟩,
   ⟨st {}, 0, by decide⟩,
   ⟨st ch, 1, .servicePort, 0, by decide⟩,
   ⟨st cb, 2, .servicePort, 0, by decide⟩,
   ⟨st live, 0, .servicePort, 1, by decide⟩,
   ⟨st live, 0, .servicePort, 0, by decide⟩,
   ⟨st (cb.setF REP_STATE 3), 0, bl, [], by decide⟩,
   ⟨st (cb.setF REP_STATE 3), 1, bl, [], by decide⟩,
   ⟨st cm, 1, bl, [], by decide⟩,
   ⟨st (cb.setF REP_STATE 3), 1, bl, [], by decide⟩,
   ⟨st (cb.setF REP_STATE 3), 1, 3, by decide⟩,
   ⟨st (cb.setF REP_STATE 3), 2, by decide⟩⟩
theorem test_witness_SafePinAndLock :
  (∃ s : State, Inv s ∧ s.dev.safLive = true)
  ∧ (∃ s : State, s.dev.safLive = true)
  ∧ (∃ s : State, ∃ p : Path, Reaches s.dev p 0x200010 ∧ s.dev.safe.sticky = [] ∧ s.dev.rst.rootLost = false ∧ s.dev.rst.tripped = false)
  ∧ (∃ s : State, ∃ p : Path, Reaches s.dev p 0x200010 ∧ ((s.dev.safe.sticky ≠ [] ∨ s.dev.rst.rootLost = true ∨ s.dev.rst.tripped = true)))
  ∧ (∃ s : State, ∃ p : Path, ∃ v : Word64, Reaches s.dev p 0x200010 ∧ v.toNat / 2 ^ 48 ≠ 0x4C2D)
  ∧ (∃ s : State, s.dev.safLive = true ∧ s.dev.safe.low = true ∧ s.dev.flag SAF_S_PENDING = false ∧ s.dev.flag SAF_LOCK = true ∧ s.dev.flag SAF_COVERED = true ∧ s.dev.safe.setUp = true ∧ s.dev.safe.reload = false ∧ s.dev.rst.pfail = false)
  ∧ (∃ s : State, Inv s ∧ (s.dev.flag SAF_S_PENDING = true ∨ s.dev.flag SAF_LOCK = false ∨ s.dev.flag SAF_COVERED = false ∨ s.dev.safe.setUp = false ∨ s.dev.safe.reload = true ∨ s.dev.rst.pfail = true))
  ∧ (∃ s : State, ∃ p : Path, Reaches s.dev p 0x200020)
  ∧ (∃ s : State, ∃ p : Path, Inv s ∧ Reaches s.dev p 0x200020 ∧ s.dev.running = false)
  ∧ (∃ s : State, ∃ p : Path, ∃ v : Word64, Reaches { s.dev with csr := (s.dev.setF SAF_LOCK 0).csr } p 0x200018 ∧ s.dev.flag SAF_LOCK = true)
  ∧ (∃ s : State, ∃ p : Path, ∃ v : Word64, ∃ n : Fin 32, Reaches { s.dev with csr := (s.dev.setF SAF_LOCK 0).csr } p (0x500000 + 0x40 * n.val) ∧ s.dev.flag SAF_LOCK = true) :=
  ⟨⟨st {}, by decide⟩,
   ⟨st {}, by decide⟩,
   ⟨st live, .servicePort, by decide⟩,
   ⟨st wl, .servicePort, by decide⟩,
   ⟨st live, .servicePort, 0, by decide⟩,
   ⟨st rq, by decide⟩,
   ⟨st {}, by decide⟩,
   ⟨st live, .servicePort, by decide⟩,
   ⟨st live, .servicePort, by decide⟩,
   ⟨st rh, .servicePort, 0, by decide⟩,
   ⟨st rh, .servicePort, 0, 0, by decide⟩⟩
end B20

namespace B21
def rq (k : DutKind) (t : Nat) : DutReq := { kind := k, link := 0, fn := 0, bar := 0, off := 0x1000, tag := BitVec.ofNat 14 t, typ := 4, len := 4, data := [some 7] }
def pm : Dev := { (((rel.setF DIE_CEL_OK 3 |>.setF DIE_HBM_CTL_OK 65535).setF STEER_KIND 1 0 0).setF STEER_BASE 1 0 0).setF STEER_SIZE 1 0 0 with
  prt := [(0, { eff := [(PC_MODE.key 0 0, 3)] }), (1, { eff := [(PC_MODE.key 1 0, 1)] })] }
def px : DutPend := { req := rq .memRd 5, start := 0, ans := some (0, [1, 2, 3, 4]) }
def py : DutPend := { req := rq .memRd 6, start := 0, ans := some (3, []), standin := true }
def ob : Outb := { q := { stop := 3, unit := 0, tag := 9 }, len := 8 }
def pp : Dev := { (((((pm.setF INJ_EVERY 2 0 2).setF INJ_FAULT 12 0 2).setF INJ_EN 1 0).setF INJ_FAULT 12 0 1).setF CFGSTAT_BUSY 1 2) with clk := { tick := 640, ts := 2 ^ 48 + 5 }, prt := [(0, { eff := [(PC_MODE.key 0 0, 3)], pend := [px, py], outb := [ob], inj := [(1, { armed := true, left := 1 }), (2, { armed := true, left := 3 })] }), (2, { cfgRead := true })] }
def pe : Dev := { ((((pm.setF LANE_MUX 2 0 0).setF LANE_MUX 2 0 1).setF LANE_MUX 1 0 16).setF LANE_MUX 1 0 17) with
  load := { pm.load with loaded := [(4, true)] }, clk := { ts := 7777 }, prt := [(0, { eff := [(EPORT_RATE.key 0 0, 4), (EPORT_LANES.key 0 0, 1), (ETH_REGION.key 0 0, 4), (RAW_RATE.key 0 0, 1000), (RAW_PAIR.key 0 1, 1), (RAW_RATE.key 0 1, 1000), (RAW_W128.key 0 1, 1)] })] }
theorem test_witness_GoldenEndpoint :
  (∃ s : State, ∃ n : Unit4, ∃ q : DutReq, s.dev.golden n.val ∧ s.dev.dutWaits n.val q = false ∧ dutCfg q.kind = false ∧ s.dev.steerOf n.val q = none)
  ∧ (∃ s : State, ∃ n : Unit4, ∃ q : DutReq, s.dev.golden n.val ∧ s.dev.dutWaits n.val q = false ∧ dutCfg q.kind = true)
  ∧ (∃ s : State, ∃ n : Unit4, ∃ q : DutReq, ∃ i : Nat, s.dev.golden n.val ∧ s.dev.dutWaits n.val q = false ∧ dutCfg q.kind = false ∧ q.kind ≠ .memWr ∧ (s.reqSeen n.val q).steerOf n.val q = some i ∧ (s.reqSeen n.val q).fld STEER_KIND n.val i = 1)
  ∧ (∃ s : State, ∃ n : Unit4, ∃ q : DutReq, ∃ i : Nat, s.dev.golden n.val ∧ s.dev.dutWaits n.val q = false ∧ dutCfg q.kind = false ∧ q.kind ≠ .memWr ∧ (s.reqSeen n.val q).steerOf n.val q = some i ∧ (s.reqSeen n.val q).fld STEER_KIND n.val i = 2)
  ∧ (∃ s : State, ∃ n : Unit4, ∃ q : DutReq, ∃ i : Nat, s.dev.golden n.val ∧ s.dev.dutWaits n.val q = false ∧ q.kind = .memWr ∧ (s.reqSeen n.val q).steerOf n.val q = some i ∧ (s.reqSeen n.val q).fld STEER_KIND n.val i = 1)
  ∧ (∃ s : State, ∃ n : Unit4, ∃ q : DutReq, Inv s ∧ ((s.dev.portUp n.val = false ∨ s.dev.prtEff PC_MODE n.val ≠ 3 ∨ s.dev.dutWaits n.val q = true)))
  ∧ (∃ s : State, ∃ n : Unit4, ∃ t : BitVec 14, ∃ x : DutPend, ∃ st : Nat, ∃ bs : List Byte, s.dev.portUp n.val = true ∧ s.dev.pendOf n.val t.toNat = some x ∧ x.req.kind ≠ .cfgRd ∧ x.ans = some (st, bs) ∧ (x.withheld = false ∧ x.standin = false) ∧ s.dev.clk.tick ≤ x.start + s.dev.budget n.val x.req.kind)
  ∧ (∃ s : State, ∃ n : Unit4, ∃ t : BitVec 14, ∃ x : DutPend, ∃ bs : List Byte, ∃ k : BitVec 13, s.dev.portUp n.val = true ∧ s.dev.pendOf n.val t.toNat = some x ∧ x.req.kind = .memRd ∧ x.ans = some (0, bs) ∧ (x.withheld = false ∧ x.standin = false) ∧ x.sent + k.toNat < x.req.len ∧ s.dev.clk.tick ≤ x.start + s.dev.budget n.val x.req.kind)
  ∧ (∃ s : State, ∃ n : Unit4, ∃ t : BitVec 14, ∃ x : DutPend, ∃ st : Nat, ∃ bs : List Byte, s.dev.portUp n.val = true ∧ s.dev.pendOf n.val t.toNat = some x ∧ x.req.kind ≠ .cfgRd ∧ x.ans = some (st, bs) ∧ x.withheld = false ∧ ((x.standin = true ∨ x.start + s.dev.budget n.val x.req.kind < s.dev.clk.tick)))
  ∧ (∃ s : State, ∃ n : Unit4, ∃ t : BitVec 14, ∃ x : DutPend, s.dev.portUp n.val = true ∧ s.dev.pendOf n.val t.toNat = some x ∧ x.withheld = false ∧ x.standin = false)
  ∧ (∃ s : State, ∃ n : Unit4, ∃ t : BitVec 14, Inv s ∧ s.dev.pendOf n.val t.toNat = none)
  ∧ (∃ s : State, ∃ n : Unit4, ∃ k : Fin 4, ∃ u : Nat, s.dev.portUp n.val = true ∧ s.dev.prtEff PC_MODE n.val = 3 ∧ (s.dev.fcOf n.val k.val).due = some u ∧ (s.dev.fcOf n.val k.val).stood = false ∧ (s.dev.fcOf n.val k.val).hold ≤ s.dev.clk.tick ∧ s.dev.clk.tick ≤ u + s.dev.fcBudget n.val)
  ∧ (∃ s : State, ∃ n : Unit4, ∃ k : Fin 4, ∃ u : Nat, s.dev.portUp n.val = true ∧ (s.dev.fcOf n.val k.val).due = some u ∧ (s.dev.fcOf n.val k.val).stood = false ∧ (s.dev.fcOf n.val k.val).hold ≤ u + s.dev.fcBudget n.val)
  ∧ (∃ s : State, ∃ n : Unit4, ∃ q : Rq, ∃ o : DevAddr, s.dev.live = true ∧ s.dev.accStatus (0x4000_0000_0000 + n.val * 2 ^ 44 + o.toNat % 2 ^ 44) 8 = 0 ∧ s.dev.hostCached (0x4000_0000_0000 + n.val * 2 ^ 44 + o.toNat % 2 ^ 44) = false)
  ∧ (∃ s : State, ∃ n : Unit4, ∃ q : Rq, ∃ o : DevAddr, ∃ w : WrBytes, s.dev.live = true ∧ s.dev.accStatus (0x4000_0000_0000 + n.val * 2 ^ 44 + o.toNat % 2 ^ 44) w.length = 0 ∧ s.dev.hostCached (0x4000_0000_0000 + n.val * 2 ^ 44 + o.toNat % 2 ^ 44) = false)
  ∧ (∃ s : State, ∃ n : Unit4, ∃ o : Outb, ∃ r : List Outb, ∃ e : OutEnd, s.dev.portUp n.val = true ∧ (s.dev.prtOf n.val).outb = o :: r)
  ∧ (∃ s : State, ∃ n : Unit4, ∃ i : Fin 16, ∃ v : BitVec 16, ∃ e : Inj, s.dev.portUp n.val = true ∧ s.dev.flag INJ_EN n.val = true ∧ Sparse.get {} (s.dev.prtOf n.val).inj i.val = e ∧ e.armed = true ∧ s.dev.fld INJ_TRIG n.val i.val = 0 ∧ (e.seen + 1) % max 1 (s.dev.fld INJ_EVERY n.val i.val) = 0 ∧ s.dev.fld INJ_FAULT n.val i.val = 12 ∧ s.dev.fld INJ_TARGET n.val i.val ≤ 3)
  ∧ (∃ s : State, ∃ n : Unit4, ∃ i : Fin 16, ∃ v : BitVec 16, ∃ e : Inj, Inv s ∧ s.dev.portUp n.val = true ∧ s.dev.flag INJ_EN n.val = true ∧ Sparse.get {} (s.dev.prtOf n.val).inj i.val = e ∧ e.armed = true ∧ s.dev.fld INJ_TRIG n.val i.val = 0 ∧ (e.seen + 1) % max 1 (s.dev.fld INJ_EVERY n.val i.val) ≠ 0)
  ∧ (∃ s : State, ∃ n : Unit4, ∃ i : Fin 16, ∃ v : BitVec 16, Inv s ∧ s.dev.flag INJ_EN n.val = false)
  ∧ (∃ s : State, ∃ n : Unit4, ∃ p : Path, Inv s ∧ Reaches s.dev p (0x7050000 + 0x100000 * n.val) ∧ s.dev.flag INJ_EN n.val = true)
  ∧ (∃ s : State, ∃ n : Unit4, ∃ p : Path, ∃ v : Word64, Reaches s.dev p (0x7050000 + 0x100000 * n.val) ∧ bits v.toNat 48 16 ≠ 0x3A9F) :=
  ⟨⟨st pm, 0, { rq .memRd 5 with off := 0x100000 }, by decide⟩,
   ⟨st pm, 0, rq .cfgRd 5, by decide⟩,
   ⟨st pm, 0, rq .memRd 5, 0, by decide⟩,
   ⟨st { ((pm.setF STEER_KIND 2 0 0).setF STEER_TARGET 4 0 0) with load := { pm.load with loaded := [(4, true)] } }, 0, rq .memRd 5, 0, by decide⟩,
   ⟨st pm, 0, rq .memWr 5, 0, by decide⟩,
   ⟨st rel, 0, rq .memRd 5, by decide⟩,
   ⟨st pp, 0, 5, px, 0, [1, 2, 3, 4], by decide⟩,
   ⟨st pp, 0, 5, px, [1, 2, 3, 4], 2, by decide⟩,
   ⟨st pp, 0, 6, py, 3, [], by decide⟩,
   ⟨st pp, 0, 5, px, by decide⟩,
   ⟨st rel, 0, 5, by decide⟩,
   ⟨st { pp with prt := [(0, { eff := [(PC_MODE.key 0 0, 3)], fc := [(0, { due := some 600, freed := 5, adv := 3 })] })] }, 0, 0, 600, by decide⟩,
   ⟨st { pp with prt := [(0, { eff := [(PC_MODE.key 0 0, 3)], fc := [(0, { due := some 600, freed := 5, adv := 3 })] })] }, 0, 0, 600, by decide⟩,
   ⟨st pm, 1, { stop := 3, unit := 0, tag := 9 }, 0, by decide⟩,
   ⟨st pm, 1, { stop := 3, unit := 0, tag := 9 }, 0, [some 1], by decide⟩,
   ⟨st pp, 0, ob, [], .timeout, by decide⟩,
   ⟨st pp, 0, 1, 5, { armed := true, left := 1 }, by decide⟩,
   ⟨st pp, 0, 2, 5, { armed := true, left := 3 }, by decide⟩,
   ⟨st rel, 0, 0, 5, by decide⟩,
   ⟨st pp, 0, .servicePort, by decide⟩,
   ⟨st rel, 0, .servicePort, 0, by decide⟩⟩
theorem test_witness_PortTraffic :
  (∃ s : State, ∃ n : Unit4, ∃ p : Fin 16, ∃ f : List Byte, ∃ u : Nat, s.dev.ethOn n.val p.val = true ∧ s.dev.ringFed n.val = false ∧ 64 ≤ f.length)
  ∧ (∃ s : State, ∃ n : Unit4, ∃ p : Fin 16, ∃ f : List Byte, ∃ u : Nat, Inv s ∧ ((f.length < 64 ∨ s.dev.ethOn n.val p.val = false)))
  ∧ (∃ s : State, ∃ n : Unit4, ∃ p : Fin 16, ∃ f : List Byte, ∃ g : Option (BitVec 16), s.dev.ethOn n.val p.val = true ∧ 64 ≤ f.length ∧ s.dev.regionRuns (s.dev.prtEff ETH_REGION n.val (p.val / 8)) = true)
  ∧ (∃ s : State, ∃ n : Unit4, ∃ l : Fin 32, ∃ w : BitVec 128, s.dev.rawOn n.val l.val = true)
  ∧ (∃ s : State, ∃ n : Unit4, ∃ l : Fin 32, ∃ w : Option (BitVec 128), s.dev.rawOn n.val l.val = true)
  ∧ (∃ s : State, ∃ n : Unit4, ∃ l : Fin 32, ∃ w : BitVec 128, Inv s ∧ ((s.dev.portUp n.val = false ∨ s.dev.fld LANE_MUX n.val l.val ≠ 2)))
  ∧ (∃ s : State, ∃ n : Unit4, ∃ l : Fin 32, ∃ e : Nat, ∃ v : BitVec 32, s.dev.portUp n.val = true ∧ 16 ≤ e)
  ∧ (∃ s : State, ∃ n : Unit4, ∃ l : Fin 32, ∃ e : Nat, ∃ v : BitVec 32, Inv s ∧ e < 16)
  ∧ (∃ s : State, ∃ n : Unit4, ∃ k : Fin 4, ∃ a : BitVec 8, ∃ b : BitVec 8, ∃ c : BitVec 8, ∃ u : Bool, ∃ e : Option (BitVec 32 × Bool), s.dev.portUp n.val = true ∧ s.dev.ringFed n.val = false)
  ∧ (∃ s : State, ∃ n : Unit4, ∃ p : Path, Inv s ∧ Reaches s.dev p (0x7010300 + 0x100000 * n.val) ∧ s.dev.prtEff PC_MODE n.val = 1 ∧ s.dev.flag CFGSTAT_BUSY n.val = false ∧ s.dev.portUp n.val = true ∧ s.dev.fld CAP_EN n.val 0 = 0)
  ∧ (∃ s : State, ∃ n : Unit4, ∃ p : Path, Inv s ∧ Reaches s.dev p (0x7010300 + 0x100000 * n.val) ∧ (s.dev.prtEff PC_MODE n.val ≠ 1 ∨ s.dev.flag CFGSTAT_BUSY n.val = true))
  ∧ (∃ s : State, ∃ n : Unit4, ∃ k : Fin 5, ∃ v : BitVec 32, s.dev.live = true ∧ s.dev.flag CFGSTAT_BUSY n.val = true)
  ∧ (∃ s : State, ∃ n : Unit4, ∃ v : BitVec 32, s.dev.portUp n.val = true)
  ∧ (∃ s : State, Inv s)
  ∧ (∃ s : State, Inv s)
  ∧ (∃ s : State, Inv s ∧ s.dev.mlive = true ∧ s.dev.svc.rst = false)
  ∧ (∃ s : State, ∃ f : Bool, Inv s ∧ s.dev.svc.up = true)
  ∧ (∃ s : State, ∃ o : BitVec 30, ∃ k : Nat, ∃ w : Option WrBytes, s.dev.svc.up = true ∧ s.dev.live = true ∧ s.dev.running = false)
  ∧ (∃ s : State, ∃ o : BitVec 30, ∃ k : Nat, ∃ w : Option WrBytes, s.dev.svc.up = true ∧ s.dev.live = true ∧ s.dev.running = true) :=
  ⟨⟨st pe, 0, 0, List.replicate 64 1, 600, by decide⟩,
   ⟨st rel, 0, 0, [], 600, by decide⟩,
   ⟨st pe, 0, 0, List.replicate 64 1, none, by decide⟩,
   ⟨st pe, 0, 0, 0x00112233445566778899AABBCCDDEEFF, by decide⟩,
   ⟨st pe, 0, 0, none, by decide⟩,
   ⟨st rel, 0, 0, 0x00112233445566778899AABBCCDDEEFF, by decide⟩,
   ⟨st rel, 0, 0, 600, 5, by decide⟩,
   ⟨st rel, 0, 0, 0, 5, by decide⟩,
   ⟨st rel, 0, 0, 5, 5, 5, true, none, by decide⟩,
   ⟨st pm, 1, .servicePort, by decide⟩,
   ⟨st rel, 0, .servicePort, by decide⟩,
   ⟨st pp, 2, 0, 5, by decide⟩,
   ⟨st rel, 0, 5, by decide⟩,
   ⟨st rel, by decide⟩,
   ⟨st rel, by decide⟩,
   ⟨st rel, by decide⟩,
   ⟨st rel, true, by decide⟩,
   ⟨st rel, 0, 600, none, by decide⟩,
   ⟨st (pp.setF REP_STATE 3), 0, 600, none, by decide⟩⟩
end B21

namespace B22
def hw (w : Bool) : HeldCsr := { path := .smbus, off := 0x1000000, bytes := 8, write := w, value := 5 }
def sm : Dev := { rel with mgt := { smbAddr := 0x300080, uart := [[1], [2]], uartBusy := some [3] } }
def se : Dev := { ((sm.setF MGT_CSR_EN 1).setF LED_BUSY 1).setF PRB_PIN_EN 1 with mgt := { smbAddr := 0x300090, smbRead := true, smbTmo := true } }
def sb : Dev := { sm with rst := { held := [hw true], tile := [(0, some (2, 5))] }, mgt := { uart := List.replicate 32 [1] } }
def sr : Dev := sm.setF REP_STATE 3
def jh : Dev := { sm with rst := { jtagHold := true } }
def pr : Dev := { (rel.setF PRB_CAP_EN 1) with mgt := { prbRun := true }, clk := { ts := 99 } }
def lb : Dev := { (rel.setF LED_BUSY 1) with mgt := { auditPos := 3 } }
theorem test_witness_SmbusCommands :
  (∃ s : State, ∃ v : BitVec 32, Inv s ∧ s.dev.safLive = true)
  ∧ (∃ s : State, Inv s ∧ s.dev.safLive = true)
  ∧ (∃ s : State, ∃ w : Word64, Inv s ∧ s.dev.safLive = true)
  ∧ (∃ s : State, Inv s ∧ s.dev.safLive = true)
  ∧ (∃ s : State, Inv s ∧ s.dev.safLive = true ∧ s.dev.flag CLK_ROOT_LOCK = false)
  ∧ (∃ s : State, Inv s ∧ s.dev.safLive = true ∧ s.dev.mlive = true)
  ∧ (∃ s : State, ∃ v : BitVec 32, Inv s ∧ s.dev.safLive = true ∧ s.dev.mlive = true)
  ∧ (∃ s : State, ∃ i : Fin 4, Inv s ∧ s.dev.safLive = true ∧ s.dev.mlive = true ∧ s.dev.mgt.smbAddr = 0x300080 + 8 * i.val ∧ s.dev.rst.held = [] ∧ s.dev.rst.reload = none ∧ s.dev.mgt.smbRead = false ∧ s.dev.running = false ∧ s.dev.fld EMB_USER i.val < 2 ^ 64)
  ∧ (∃ s : State, ∃ i : Fin 4, ∃ w : Word64, Inv s ∧ s.dev.safLive = true ∧ s.dev.mlive = true ∧ s.dev.mgt.smbAddr = 0x300080 + 8 * i.val ∧ s.dev.rst.held = [] ∧ s.dev.rst.reload = none ∧ s.dev.running = false)
  ∧ (∃ s : State, Inv s ∧ s.dev.safLive = true ∧ s.dev.mlive = true ∧ s.dev.smbBusy = true)
  ∧ (∃ s : State, ∃ w : Word64, Inv s ∧ s.dev.safLive = true ∧ s.dev.mlive = true ∧ s.dev.smbBusy = true)
  ∧ (∃ s : State, ∃ w : Word64, Inv s ∧ s.dev.safLive = true ∧ s.dev.mlive = true ∧ s.dev.mgt.smbAddr = 0x300080 ∧ s.dev.rst.held = [] ∧ s.dev.rst.tripped = false ∧ s.dev.running = true)
  ∧ (∃ s : State, Inv s ∧ s.dev.mgt.smbRead = true ∧ s.dev.rst.held = [])
  ∧ (∃ s : State, Inv s ∧ s.dev.mgt.smbRead = false) :=
  ⟨⟨st {}, 0x12345677, by decide⟩,
   ⟨st {}, by decide⟩,
   ⟨st {}, 0x123456789, by decide⟩,
   ⟨st {}, by decide⟩,
   ⟨st {}, by decide⟩,
   ⟨st live, by decide⟩,
   ⟨st live, 0x12345677, by decide⟩,
   ⟨st sm, 0, by decide⟩,
   ⟨st sm, 0, 0x123456789, by decide⟩,
   ⟨st sb, by decide⟩,
   ⟨st sb, 0x123456789, by decide⟩,
   ⟨st sr, 0x123456789, by decide⟩,
   ⟨st se, by decide⟩,
   ⟨st {}, by decide⟩⟩
theorem test_witness_TapAndUart :
  (∃ s : State, ∃ k : Fin 5, Inv s ∧ s.dev.safLive = true)
  ∧ (∃ s : State, ∃ k : Fin 3, Inv s ∧ s.dev.safLive = true ∧ s.dev.rst.jtagHold = false)
  ∧ (∃ s : State, Inv s ∧ s.dev.safLive = true ∧ s.dev.rst.jtagHold = false)
  ∧ (∃ s : State, ∃ k : Fin 3, Inv s ∧ s.dev.safLive = true ∧ s.dev.rst.jtagHold = true ∧ s.dev.rst.pfail = false)
  ∧ (∃ s : State, ∃ v : BitVec 96, Inv s ∧ s.dev.safLive = true ∧ s.dev.rst.jtagHold = false ∧ s.dev.mlive = true ∧ s.dev.rst.tripped = false ∧ s.dev.flag MGT_CSR_EN = false)
  ∧ (∃ s : State, ∃ i : Fin 4, Inv s ∧ s.dev.safLive = true ∧ s.dev.rst.jtagHold = false ∧ s.dev.mlive = true ∧ s.dev.rst.tripped = false ∧ s.dev.flag MGT_CSR_EN = true ∧ s.dev.running = false ∧ s.dev.rst.reload = none ∧ s.dev.fld EMB_USER i.val < 2 ^ 64)
  ∧ (∃ s : State, ∃ v : Word64, Inv s ∧ s.dev.safLive = true ∧ s.dev.rst.jtagHold = false ∧ s.dev.mlive = true ∧ s.dev.running = false)
  ∧ (∃ s : State, ∃ l : List Byte, ∃ b : List Byte, ∃ r : List (List Byte), Inv s ∧ s.dev.mlive = true ∧ s.dev.mgt.uart = l :: r ∧ s.dev.mgt.uartBusy = some b)
  ∧ (∃ s : State, Inv s ∧ s.dev.mlive = true ∧ s.dev.mgt.uart = [] ∧ s.dev.mgt.uartBusy = none)
  ∧ (∃ s : State, ∃ p : Path, ∃ c : Fin 64, Reaches s.dev p 0x600020 ∧ s.dev.mgt.uart.length < 32)
  ∧ (∃ s : State, ∃ p : Path, ∃ c : Fin 64, Reaches s.dev p 0x600020 ∧ 32 ≤ s.dev.mgt.uart.length) :=
  ⟨⟨st {}, 0, by decide⟩,
   ⟨st {}, 0, by decide⟩,
   ⟨st {}, by decide⟩,
   ⟨st jh, 0, by decide⟩,
   ⟨st (sm.setF MGT_CSR_EN 0), 0x300080, by decide⟩,
   ⟨st live, 0, by decide⟩,
   ⟨st live, 0x123456789, by decide⟩,
   ⟨st sm, [1], [3], [[2]], by decide⟩,
   ⟨st live, by decide⟩,
   ⟨st live, .servicePort, 0, by decide⟩,
   ⟨st sb, .servicePort, 0, by decide⟩⟩
theorem test_witness_TelemetryProbesAudit :
  (∃ s : State, ∃ a : BitVec 16, ∃ b : BitVec 16, ∃ w : BitVec 16, ∃ c : BitVec 16, ∃ e : BitVec 32, Inv s ∧ s.dev.mlive = true ∧ b.toInt < a.toInt ∧ s.dev.fld MGT_ENERGY + e.toNat < 2 ^ 64)
  ∧ (∃ s : State, ∃ l : BitVec 16, ∃ n : BitVec 16, Inv s ∧ s.dev.mlive = true ∧ s.dev.flag PRB_PIN_EN = true ∧ s.dev.flag PRB_CAP_EN = false)
  ∧ (∃ s : State, ∃ l : BitVec 16, ∃ n : BitVec 16, Inv s ∧ s.dev.mlive = true ∧ s.dev.flag PRB_PIN_EN = false ∧ s.dev.flag PRB_CAP_EN = false)
  ∧ (∃ s : State, ∃ p : Path, Inv s ∧ Reaches s.dev p 0x601110 ∧ s.dev.flag PRB_CAP_EN = false)
  ∧ (∃ s : State, Inv s ∧ s.dev.mlive = true ∧ s.dev.flag PRB_PIN_EN = false ∧ s.dev.flag PRB_CAP_EN = true ∧ s.dev.mgt.prbRun = true ∧ s.dev.flag PRB_STOPPED = false ∧ s.dev.fld PRB_TRIG_MASK = 0 ∧ s.dev.mgt.prbRec = [] ∧ s.dev.csr.all (fun e => PRB_SEL_EN.lo ≠ e.1 % 64) = true)
  ∧ (∃ s : State, ∃ p : Path, Inv s ∧ Reaches s.dev p 0x500 ∧ s.dev.flag LED_BUSY = false)
  ∧ (∃ s : State, ∃ p : Path, Reaches s.dev p 0x500 ∧ s.dev.flag LED_BUSY = true)
  ∧ (∃ s : State, Inv s ∧ s.dev.mlive = true ∧ s.dev.flag LED_BUSY = true ∧ s.dev.mgt.auditPos < 24)
  ∧ (∃ s : State, Inv s ∧ s.dev.mlive = true ∧ s.dev.flag LED_BUSY = true ∧ s.dev.mgt.auditPos < 24 ∧ (s.dev.auditItem s.dev.mgt.auditPos).2.2.1 = true)
  ∧ (∃ s : State, Inv s ∧ s.dev.mlive = true ∧ s.dev.flag LED_BUSY = true ∧ s.dev.mgt.auditPos < 24 ∧ (s.dev.auditItem s.dev.mgt.auditPos).2.2.1 = false ∧ s.dev.fld LED_COUNT = 0)
  ∧ (∃ s : State, Inv s)
  ∧ (∃ s : State, ∃ n : Fin 6, Inv s ∧ s.dev.mlive = true)
  ∧ (∃ s : State, ∃ n : Fin 6, Inv s) :=
  ⟨⟨st live, 5, -8, 5, 5, 0x12345677, by decide⟩,
   ⟨st se, 5, 5, by decide⟩,
   ⟨st live, 5, 5, by decide⟩,
   ⟨st live, .servicePort, by decide⟩,
   ⟨st pr, by decide⟩,
   ⟨st live, .servicePort, by decide⟩,
   ⟨st se, .servicePort, by decide⟩,
   ⟨st se, by decide⟩,
   ⟨st se, by decide⟩,
   ⟨st { lb with ann := { cred := [(credKey 0 1 0, { occ := 9 })] } }, by decide⟩,
   ⟨st {}, by decide⟩,
   ⟨st live, 0, by decide⟩,
   ⟨st {}, 0, by decide⟩⟩
end B22

namespace B23
def h0 : Dev := (rel.setF DIE_CEL_OK 3 |>.setF DIE_HBM_CTL_OK 65535)
def col : Dev := (((((((h0.setF COL_ID 0).setF COL_NCOL_M1 1).setF COL_EN 1).setF CPL_MEMBER 3 0).setF CPL_STATE 2 0).setF CPL_STATE 1 1).setF CPL_STATE 3 2).setF CPL_STATE 4 3
def pu : CPkt := { msg := 1, dst := 0, src := 1, addr := 4096, len := 64, tag := 7, reqid := 20, data := List.replicate 64 5 }
def pf : CPkt := { pu with flags := 9, len := 0, data := [] }
def pl : CPkt := { msg := 2, dst := 0, src := 1, addr := 4096, raddr := 0x8000_0000_0000 + 2 ^ 38 + 4096, len := 256, tag := 7, reqid := 20 }
def pcp : CPkt := { msg := 3, dst := 0, src := 1, len := 64, tag := 7, reqid := 20 }
def tr : CPkt := { pl with dst := 1 }
def no_ : CPkt := { msg := 8, dst := 0, src := 1, tag := 5 }
def ba : CPkt := { msg := 6, dst := 0, src := 1, aux := 3, gen := 0 }
def br : CPkt := { msg := 7, dst := 0, src := 1, aux := 3, gen := 0 }
def lq : CPkt := { msg := 4, dst := 0, src := 1, tag := 7, reqid := 20, aux := 200, ts := 3 }
def lr : CPkt := { msg := 5, dst := 0, src := 1, tag := 7, reqid := 20, aux := 200 + 256 }
def xx : Xfer := { stop := 0, tag := 7, pull := false, dev := 1, dev2 := 1, len := 64, begun := 0, wait := 1, rid := 20, rtag := 9 }
def lk : CLockReq := { rid := 20, tag := 7, lock := 200, op := 0 }
def pj : PullJob := { req := pl }
def cq (l : List (Nat × CPkt)) : Dev := { col with cpl := { col.cpl with link := [(0, { rxq := l })] } }
def all1 : Dev := { cq [(4, pu), (0, pl), (2, pcp), (6, no_)] with clk := { ts := 77, tick := 9000000, root := 24 } }
def all2 : Dev := { cq [(4, pf), (0, pl), (2, lr), (6, ba)] with cpl := { (cq [(4, pf), (0, pl), (2, lr), (6, ba)]).cpl with xfers := [xx], locks := [lk], pullOn := List.replicate 16 (0, pj), pullQ := [(0, pj)], msgs := [(pu, 0), (ba, 4)] }, clk := { tick := 9000000 } }
def all3 : Dev := { cq [(0, tr), (6, br), (2, pcp)] with cpl := { (cq [(0, tr), (6, br), (2, pcp)]).cpl with xfers := [xx], pullQ := [(0, pj)], applied := [(1, 5)], msgs := [(ba, 4)] } }
def all4 : Dev := { cq [(6, lq), (0, pl), (2, lr)] with cpl := { (cq [(6, lq), (0, pl), (2, lr)]).cpl with pullOn := List.replicate 16 (0, pj), pullQ := List.replicate 64 (0, pj) } }
def all5 : Dev := { cq [(6, lq)] with cpl := { (cq [(6, lq)]).cpl with seen := [(2068, some { tag := 7, ts := 3, aux := 200, res := some 0 })] } }
def all6 : Dev := { cq [(6, no_)] with cpl := { (cq [(6, no_)]).cpl with applied := [(1, 5)], link := [(0, { rxq := [(6, no_)], nakDue := true, again := [(3, List.replicate 66 1)] }), (2, { tries := 2 })] } }
def all7 : Dev := { all6 with cpl := { all6.cpl with link := [(0, { again := [(3, List.replicate 66 1)] }), (2, { tries := 1 })] } }
def rp : Dev := { (((all1.setF REP_STATE 3).setF REP_LEN 500).setF REP_ROLE 1) with load := { rel.load with aDone := true, bDone := true } }
def rpf : Dev := ((((rp.setF REP_ROLE 2).setF REP_RING 1).setF CAP_EN 1 0 0).setF CAP_SIZE 16 0 0)
def rw : Dev := (all1.setF REP_STATE 2).setF REP_AT 900
def nm : Dev := (all1.setF CPL_MEMBER 0 0)
def gf (seq : Nat) : List Byte := flitBytes (List.replicate 64 0 ++ [0, 0]) seq 0 [0, 0, 0, 0]
def gk (kb : Nat) (seq : Nat) : List Byte := flitBytes (List.replicate 64 0 ++ [BitVec.ofNat 8 kb, 0]) seq 0 [0, 0, 0, 0]
def txs : Dev := { col with cpl := { col.cpl with link := [(0, { txq := [(4, pu), (2, pcp)], txSeq := 4095 })] } }
theorem test_witness_ColonyTransfers :
  (∃ s : State, ∃ q : Rq, ∃ a : DevAddr, ∃ b : DevAddr, ∃ n : BitVec 25, ∃ v : Nat, ∃ o : Nat, ∃ k : Option (Fin 64), s.dev.live = true ∧ placeOf b.toNat = .remote v o ∧ s.dev.isSelf v = false ∧ (s.dev.remoteEnd b.toNat n.toNat = 0 ∧ s.dev.stopStatus a.toNat n.toNat = 0) ∧ (((s.srcRead q a n).2.2.1 = 0 ∨ (s.srcRead q a n).2.2.1 = 6)))
  ∧ (∃ s : State, ∃ q : Rq, ∃ a : DevAddr, ∃ b : DevAddr, ∃ n : BitVec 25, ∃ v : Nat, ∃ o : Nat, ∃ k : Option (Fin 64), s.dev.live = true ∧ placeOf b.toNat = .remote v o ∧ s.dev.isSelf v = false ∧ (s.dev.remoteEnd b.toNat n.toNat = 0 ∧ s.dev.stopStatus a.toNat n.toNat = 0) ∧ ((s.srcRead q a n).2.2.1 ≠ 0 ∧ (s.srcRead q a n).2.2.1 ≠ 6))
  ∧ (∃ s : State, ∃ q : Rq, ∃ a : DevAddr, ∃ b : DevAddr, ∃ n : BitVec 25, ∃ v : Nat, ∃ o : Nat, ∃ k : Option (Fin 64), s.dev.live = true ∧ placeOf b.toNat = .remote v o ∧ s.dev.remoteEnd b.toNat n.toNat ≠ 0)
  ∧ (∃ s : State, ∃ q : Rq, ∃ a : DevAddr, ∃ b : DevAddr, ∃ n : BitVec 25, ∃ v : Nat, ∃ o : Nat, ∃ k : Option (Fin 64), s.dev.live = true ∧ placeOf b.toNat = .remote v o ∧ s.dev.remoteEnd b.toNat n.toNat = 0 ∧ s.dev.stopStatus a.toNat n.toNat ≠ 0)
  ∧ (∃ s : State, ∃ q : Rq, ∃ a : DevAddr, ∃ b : DevAddr, ∃ n : BitVec 25, ∃ v : Nat, ∃ o : Nat, s.dev.live = true ∧ placeOf b.toNat = .remote v o ∧ s.dev.isSelf v = true ∧ (s.dev.remoteEnd b.toNat n.toNat = 0 ∧ s.dev.stopStatus a.toNat n.toNat = 0) ∧ (s.fresh.accRead (reqId q / 16) a.toNat n.toNat).1 = 0)
  ∧ (∃ s : State, ∃ q : Rq, ∃ a : DevAddr, ∃ b : DevAddr, ∃ n : BitVec 25, ∃ v : Nat, ∃ o : Nat, ∃ t : Nat, s.dev.live = true ∧ placeOf a.toNat = .remote v o ∧ s.dev.isSelf v = false ∧ (s.dev.remoteEnd a.toNat n.toNat = 0 ∧ offsetOf b.toNat = some t) ∧ s.dev.stopStatus b.toNat n.toNat = 0)
  ∧ (∃ s : State, ∃ q : Rq, ∃ a : DevAddr, ∃ b : DevAddr, ∃ n : BitVec 25, ∃ v : Nat, ∃ o : Nat, s.dev.live = true ∧ placeOf a.toNat = .remote v o ∧ s.dev.remoteEnd a.toNat n.toNat ≠ 0)
  ∧ (∃ s : State, ∃ k : Unit4, ∃ vc : Fin 2, ∃ p : CPkt, ∃ a : Nat, s.dev.live = true ∧ s.dev.pktFor k.val vc.val 1 = some p ∧ s.dev.offHeld p.addr = false ∧ s.dev.pullOf p = none ∧ p.flags = 0 ∧ remoteOffset p.addr = some a)
  ∧ (∃ s : State, ∃ k : Unit4, ∃ vc : Fin 2, ∃ p : CPkt, s.dev.live = true ∧ s.dev.pktFor k.val vc.val 1 = some p ∧ s.dev.pullOf p = none ∧ bitAt p.flags 3 = false ∧ remoteOffset p.addr = none)
  ∧ (∃ s : State, ∃ k : Unit4, ∃ vc : Fin 2, ∃ p : CPkt, s.dev.live = true ∧ s.dev.pktFor k.val vc.val 1 = some p ∧ s.dev.offHeld p.addr = false ∧ s.dev.pullOf p = none ∧ bitAt p.flags 3 = true)
  ∧ (∃ s : State, ∃ k : Unit4, ∃ vc : Fin 2, ∃ p : CPkt, Inv s ∧ s.dev.pktFor k.val vc.val 1 = some p ∧ s.dev.offHeld p.addr = true)
  ∧ (∃ s : State, ∃ k : Unit4, ∃ vc : Fin 2, ∃ p : CPkt, ∃ x : Xfer, s.dev.live = true ∧ s.dev.pktFor k.val vc.val 1 = some p ∧ s.dev.offHeld p.addr = false ∧ s.dev.pullOf p = some x ∧ (p.flags = 9 ∧ p.len = 0) ∧ x.resp = none)
  ∧ (∃ s : State, ∃ k : Unit4, ∃ vc : Fin 2, ∃ p : CPkt, s.dev.live = true ∧ s.dev.pktFor k.val vc.val 2 = some p ∧ s.dev.offHeld p.addr = false ∧ s.dev.pullsOn k.val < 16)
  ∧ (∃ s : State, ∃ k : Unit4, ∃ vc : Fin 2, ∃ p : CPkt, s.dev.live = true ∧ s.dev.pktFor k.val vc.val 2 = some p ∧ s.dev.offHeld p.addr = false ∧ 16 ≤ s.dev.pullsOn k.val ∧ s.dev.pullsQueued k.val < 64)
  ∧ (∃ s : State, ∃ k : Unit4, ∃ vc : Fin 2, Inv s ∧ 16 ≤ s.dev.pullsOn k.val ∧ 64 ≤ s.dev.pullsQueued k.val)
  ∧ (∃ s : State, ∃ k : Unit4, ∃ e : Nat × PullJob, s.dev.live = true ∧ s.dev.pullsOn k.val < 16 ∧ (s.dev.cpl.pullQ.find? fun x => x.1 == k.val) = some e ∧ s.dev.offHeld e.2.req.addr = false)
  ∧ (∃ s : State, ∃ k : Unit4, Inv s ∧ 16 ≤ s.dev.pullsOn k.val)
  ∧ (∃ s : State, ∃ k : Unit4, ∃ vc : Fin 2, ∃ p : CPkt, ∃ x : Xfer, s.dev.live = true ∧ s.dev.pktFor k.val vc.val 3 = some p ∧ s.dev.pushOf p = some x)
  ∧ (∃ s : State, ∃ k : Unit4, ∃ vc : Fin 2, ∃ p : CPkt, s.dev.live = true ∧ s.dev.pktFor k.val vc.val 3 = some p ∧ s.dev.pushOf p = none ∧ s.dev.servedOf p = none)
  ∧ (∃ s : State, ∃ k : Unit4, ∃ t : BitVec 16, ∃ x : Xfer, s.dev.live = true ∧ (s.dev.cpl.xfers.find? fun x => x.stop == k.val && x.tag == t.toNat) = some x)
  ∧ (∃ s : State, ∃ k : Unit4, ∃ b : Fin 8, ∃ p : CPkt, s.dev.live = true ∧ s.dev.pktHead k.val b.val = some p ∧ p.dst ≠ s.dev.selfId)
  ∧ (∃ s : State, ∃ p : CPkt, ∃ k : Nat, ∃ r : List (CPkt × Nat), s.dev.live = true ∧ s.dev.cpl.msgs = (p, k) :: r) :=
  ⟨⟨st txs, { stop := 3, unit := 0, tag := 9 }, 0x8000_0000_0000 + 4096, 0x8000_0000_0000 + 2 ^ 38 + 4096, 256, 1, 4096, none, by decide⟩,
   ⟨st txs, { stop := 3, unit := 0, tag := 9 }, 0x8000_0000_0000 + 2 ^ 38 + 4096, 0x8000_0000_0000 + 2 ^ 38 + 4096, 256, 1, 4096, none, by decide⟩,
   ⟨st txs, { stop := 3, unit := 0, tag := 9 }, 0x8000_0000_0000 + 4096, 0x8000_0000_0000 + 4096, 100, 0, 4096, none, by decide⟩,
   ⟨st txs, { stop := 3, unit := 0, tag := 9 }, 0x0200001FFF80, 0x8000_0000_0000 + 4096, 256, 0, 4096, none, by decide⟩,
   ⟨st txs, { stop := 3, unit := 0, tag := 9 }, 0x8000_0000_0000 + 4096, 0x8000_0000_0000 + 4096, 256, 0, 4096, by decide⟩,
   ⟨st txs, { stop := 3, unit := 0, tag := 9 }, 0x8000_0000_0000 + 2 ^ 38 + 4096, 8192, 256, 1, 4096, 8192, by decide⟩,
   ⟨st txs, { stop := 3, unit := 0, tag := 9 }, 0x8000_0000_0000 + 4096, 0x8000_0000_0000 + 4096, 100, 0, 4096, by decide⟩,
   ⟨st all1, 0, 0, pu, 4096, by decide⟩,
   ⟨st (cq [(4, { pu with addr := 2 ^ 38 - 64 })]), 0, 0, { pu with addr := 2 ^ 38 - 64 }, by decide⟩,
   ⟨st all2, 0, 0, pf, by decide⟩,
   ⟨st { all1 with safe := { all1.safe with handover := some { out := 3, ltile := 1, begun := 0 } }, cpl := { all1.cpl with link := [(0, { rxq := [(4, { pu with addr := 0x30_0020_0000 })] })] } }, 0, 0, { pu with addr := 0x30_0020_0000 }, by decide⟩,
   ⟨st { cq [(4, pf)] with cpl := { (cq [(4, pf)]).cpl with xfers := [{ xx with pull := true }] } }, 0, 0, pf, { xx with pull := true }, by decide⟩,
   ⟨st all1, 0, 0, pl, by decide⟩,
   ⟨st all2, 0, 0, pl, by decide⟩,
   ⟨st all4, 0, 0, by decide⟩,
   ⟨st all3, 0, (0, pj), by decide⟩,
   ⟨st all2, 0, by decide⟩,
   ⟨st all3, 0, 0, pcp, xx, by decide⟩,
   ⟨st all1, 0, 0, pcp, by decide⟩,
   ⟨st all2, 0, 7, xx, by decide⟩,
   ⟨st all3, 0, 0, tr, by decide⟩,
   ⟨st all2, pu, 0, [(ba, 4)], by decide⟩⟩
theorem test_witness_CouplingLinks :
  (∃ s : State, ∃ k : Unit4, ∃ f : DevId, ∃ nr : Fin 64, ∃ nc : Fin 32, ∃ h : DevId, s.dev.aReleased = true ∧ s.dev.fld CPL_STATE k.val = 1)
  ∧ (∃ s : State, ∃ k : Unit4, ∃ f : DevId, ∃ nr : Fin 64, ∃ nc : Fin 32, ∃ h : DevId, Inv s ∧ s.dev.fld CPL_STATE k.val = 4)
  ∧ (∃ s : State, ∃ k : Unit4, ∃ f : List Byte, s.dev.linkUp k.val = true ∧ f.length = 80 ∧ crc32 (f.take 76) ≠ leNat (f.drop 76))
  ∧ (∃ s : State, ∃ k : Unit4, ∃ f : List Byte, s.dev.linkUp k.val = true ∧ f.length = 80 ∧ crc32 (f.take 76) = leNat (f.drop 76) ∧ leNat ((f.drop 66).take 2) % 4096 ≠ (s.dev.linkOf k.val).rxSeq)
  ∧ (∃ s : State, ∃ k : Unit4, ∃ f : List Byte, s.dev.linkUp k.val = true ∧ f.length = 80 ∧ crc32 (f.take 76) = leNat (f.drop 76) ∧ leNat ((f.drop 66).take 2) % 4096 = (s.dev.linkOf k.val).rxSeq)
  ∧ (∃ s : State, ∃ k : Unit4, s.dev.linkUp k.val = true ∧ (s.dev.linkOf k.val).nakDue = true)
  ∧ (∃ s : State, ∃ k : Unit4, ∃ q : Nat, ∃ b : List Byte, ∃ r : List (Nat × List Byte), s.dev.linkUp k.val = true ∧ (s.dev.linkOf k.val).nakDue = false ∧ (s.dev.linkOf k.val).again = (q, b) :: r)
  ∧ (∃ s : State, ∃ k : Unit4, s.dev.linkUp k.val = true ∧ (s.dev.linkOf k.val).nakDue = false ∧ (s.dev.linkOf k.val).again = [] ∧ (s.dev.linkOf k.val).txq = [] ∧ (s.dev.linkOf k.val).slot < 64)
  ∧ (∃ s : State, ∃ k : Unit4, ∃ p : Nat, ∃ e : Nat × CPkt, s.dev.linkUp k.val = true ∧ (s.dev.linkOf k.val).nakDue = false ∧ (s.dev.linkOf k.val).again = [] ∧ (s.dev.linkOf k.val).replay.length < 256 ∧ (s.dev.linkOf k.val).pickPool = some p ∧ ((s.dev.linkOf k.val).txq.find? fun e => e.1 == p) = some e)
  ∧ (∃ b : List Byte, ∃ c : List Byte, ∃ q : Nat, ∃ a : Nat, b.length = 66 ∧ c.length = 4)
  ∧ (∃ s : State, ∃ k : Unit4, s.dev.linkUp k.val = true)
  ∧ (∃ s : State, ∃ k : Unit4, s.dev.linkUp k.val = true ∧ 8 ≤ (s.dev.linkOf k.val).nakCnt)
  ∧ (∃ s : State, ∃ k : Unit4, Inv s ∧ (s.dev.linkOf k.val).nakCnt < 8)
  ∧ (∃ s : State, ∃ k : Unit4, s.dev.live = true ∧ s.dev.fld CPL_STATE k.val = 3)
  ∧ (∃ s : State, ∃ k : Unit4, s.dev.live = true ∧ s.dev.fld CPL_STATE k.val = 3 ∧ (s.dev.linkOf k.val).tries = 2)
  ∧ (∃ s : State, ∃ k : Unit4, Inv s ∧ s.dev.live = true ∧ s.dev.fld CPL_STATE k.val = 3 ∧ (s.dev.linkOf k.val).tries < 2)
  ∧ (∃ s : State, ∃ k : Unit4, Calm s)
  ∧ (∃ s : State, ∃ k : Unit4, Inv s ∧ s.dev.live = true ∧ s.dev.running = true ∧ s.dev.linkUp k.val = true) :=
  ⟨⟨st txs, 1, 0, 0, 0, 0, by decide⟩,
   ⟨st txs, 3, 0, 0, 0, 0, by decide⟩,
   ⟨st txs, 0, List.replicate 80 7, by decide⟩,
   ⟨st txs, 0, gf 5, by decide⟩,
   ⟨st txs, 0, gk 0 0, by decide⟩,
   ⟨st all6, 0, by decide⟩,
   ⟨st all7, 0, 3, List.replicate 66 1, [], by decide⟩,
   ⟨st all1, 0, by decide⟩,
   ⟨st txs, 0, 2, (2, pcp), by decide⟩,
   ⟨List.replicate 66 1, [1,2,3,4], 0, 0, by decide⟩,
   ⟨st txs, 0, by decide⟩,
   ⟨st { col with cpl := { col.cpl with link := [(0, { nakCnt := 8 })] } }, 0, by decide⟩,
   ⟨st txs, 0, by decide⟩,
   ⟨st txs, 2, by decide⟩,
   ⟨st all6, 2, by decide⟩,
   ⟨st txs, 2, by decide⟩,
   ⟨st txs, 0, by decide⟩,
   ⟨st rp, 0, by decide⟩⟩
theorem test_witness_ColonyMembers :
  (∃ s : State, ∃ k : Unit4, ∃ vc : Fin 2, ∃ p : CPkt, s.dev.live = true ∧ s.dev.pktFor k.val vc.val 8 = some p ∧ p.src ≠ s.dev.selfId ∧ Sparse.get 0 s.dev.cpl.applied p.src < p.tag)
  ∧ (∃ s : State, ∃ k : Unit4, ∃ vc : Fin 2, ∃ p : CPkt, s.dev.live = true ∧ s.dev.pktFor k.val vc.val 8 = some p ∧ p.tag ≤ Sparse.get 0 s.dev.cpl.applied p.src)
  ∧ (∃ s : State, ∃ p : Path, Reaches s.dev p 0x8000808 ∧ s.dev.cfgState = 5 ∧ s.dev.flag COL_EN = true ∧ s.dev.member s.dev.selfId = false)
  ∧ (∃ s : State, ∃ p : Path, Reaches s.dev p 0x8000808 ∧ s.dev.member s.dev.selfId = true)
  ∧ (∃ s : State, ∃ p : Path, ∃ v : Word64, Reaches s.dev p 0x8000808 ∧ v.toNat / 2 ^ 48 ≠ 0x1D7A)
  ∧ (∃ s : State, ∃ k : Unit4, ∃ vc : Fin 2, ∃ p : CPkt, s.dev.live = true ∧ s.dev.pktFor k.val vc.val 6 = some p)
  ∧ (∃ s : State, ∃ k : Unit4, ∃ vc : Fin 2, ∃ p : CPkt, s.dev.live = true ∧ s.dev.pktFor k.val vc.val 7 = some p)
  ∧ (∃ s : State, ∃ k : Unit4, ∃ vc : Fin 2, ∃ p : CPkt, s.dev.live = true ∧ s.dev.pktFor k.val vc.val 4 = some p ∧ Sparse.get none s.dev.cpl.seen (p.src * 2048 + p.reqid) = none)
  ∧ (∃ s : State, ∃ k : Unit4, ∃ vc : Fin 2, ∃ p : CPkt, ∃ r : Nat, s.dev.live = true ∧ s.dev.pktFor k.val vc.val 4 = some p ∧ Sparse.get none s.dev.cpl.seen (p.src * 2048 + p.reqid) = some { tag := p.tag, ts := p.ts, aux := p.aux, res := some r })
  ∧ (∃ s : State, ∃ k : Unit4, ∃ vc : Fin 2, ∃ p : CPkt, ∃ l : CLockReq, s.dev.live = true ∧ s.dev.pktFor k.val vc.val 5 = some p ∧ s.dev.cpl.locks = [l] ∧ l.rid = p.reqid ∧ l.tag = p.tag)
  ∧ (∃ s : State, ∃ k : Unit4, ∃ vc : Fin 2, ∃ p : CPkt, s.dev.live = true ∧ s.dev.pktFor k.val vc.val 5 = some p ∧ s.dev.cpl.locks = [])
  ∧ (∃ s : State, ∃ m : DevId, ∃ n : Nat, ∃ x : Xfer, s.dev.running = false ∧ s.dev.member m.val = true ∧ m.val ≠ s.dev.selfId ∧ s.dev.cpl.xfers = [x] ∧ x.dev = m.val ∧ s.dev.cpl.pend = []) :=
  ⟨⟨st all1, 0, 0, no_, by decide⟩,
   ⟨st all6, 0, 0, no_, by decide⟩,
   ⟨st nm, .servicePort, by decide⟩,
   ⟨st txs, .servicePort, by decide⟩,
   ⟨st txs, .servicePort, 0, by decide⟩,
   ⟨st all2, 0, 0, ba, by decide⟩,
   ⟨st all3, 0, 0, br, by decide⟩,
   ⟨st all4, 0, 0, lq, by decide⟩,
   ⟨st all5, 0, 0, lq, 0, by decide⟩,
   ⟨st all2, 0, 0, lr, lk, by decide⟩,
   ⟨st all4, 0, 0, lr, by decide⟩,
   ⟨st all2, 1, 0, xx, by decide⟩⟩
theorem test_witness_ExactReplay :
  (∃ s : State, ∃ p : Path, Reaches s.dev p 0x400 ∧ s.dev.cfgState = 5 ∧ s.dev.fld REP_STATE = 0)
  ∧ (∃ s : State, ∃ p : Path, Reaches s.dev p 0x400 ∧ 1 ≤ s.dev.fld REP_STATE ∧ s.dev.fld REP_STATE ≤ 3)
  ∧ (∃ s : State, ∃ p : Path, ∃ v : Word64, Reaches s.dev p 0x400 ∧ v.toNat / 2 ^ 48 ≠ 0x9E35)
  ∧ (∃ s : State, ∃ p : Path, Inv s ∧ Reaches s.dev p 0x400 ∧ s.dev.running = true ∧ s.dev.fld REP_ROLE = 1 ∧ s.dev.fld REP_COMPARE = 0 ∧ s.dev.fld REP_RING = 0)
  ∧ (∃ s : State, ∃ p : Path, Reaches s.dev p 0x400 ∧ s.dev.running = false)
  ∧ (∃ s : State, Inv s ∧ s.dev.live = true ∧ s.dev.fld REP_STATE = 2 ∧ s.dev.load.bDone = true ∧ s.dev.clk.withheld = s.dev.rep.held0 ∧ s.dev.fld REP_ROLE = 0)
  ∧ (∃ s : State, Inv s ∧ s.dev.live = true ∧ s.dev.running = true ∧ s.dev.fld REP_LEN ≠ 0 ∧ s.dev.fld REP_RT ≤ s.dev.fld REP_LEN)
  ∧ (∃ s : State, Inv s ∧ s.dev.fld REP_LEN = 0)
  ∧ (∃ s : State, ∃ n : Unit4, ∃ g : Fin 17, Inv s ∧ s.dev.ringFed n.val = false)
  ∧ (∃ s : State, ∃ n : Unit4, ∃ g : Fin 17, Inv s ∧ s.dev.live = true ∧ s.dev.ringFed n.val = true ∧ s.dev.flag CAP_EN n.val g.val = true) :=
  ⟨⟨st txs, .servicePort, by decide⟩,
   ⟨st rp, .servicePort, by decide⟩,
   ⟨st txs, .servicePort, 0, by decide⟩,
   ⟨st rp, .servicePort, by decide⟩,
   ⟨st txs, .servicePort, by decide⟩,
   ⟨st rw, by decide⟩,
   ⟨st rp, by decide⟩,
   ⟨st txs, by decide⟩,
   ⟨st txs, 0, 0, by decide⟩,
   ⟨st rpf, 0, 0, by decide⟩⟩
end B23

namespace B24
def h0 : Dev := (rel.setF DIE_CEL_OK 3 |>.setF DIE_HBM_CTL_OK 65535)
/-- A command's 64 bytes: opcode, TGT, and fields of (byte, width, value). -/
def cb (o tgt : Nat) (l : List (Nat × Nat)) : Nat := o + tgt * 2 ^ 16 + (l.map fun e => e.2 * 2 ^ (8 * e.1)).sum
def lst (b : Nat) : CList := { id := 1, start := 4096, next := 4096, queue := 1, compl := 0, user := 7, buf := leBytes 64 b }
def en (d : Dev) (x : Eng) : Dev := (d.setF CE_STATE 1 0).setEng 0 x
def isd (b : Nat) : State := st (en (h0.setF CE_FLUSH 3 0) { run := some (lst b) })
def isf (b : Nat) : State := st (en h0 { run := some (lst b) })
def cmd0 (b : Nat) (todo on : List Nat) : Cmd := { seq := 0, bytes := b, addr := 4096, list := 1, todo := todo, on := on }
def c8 : Cmd := { cmd0 (cb 0 255 []) [] [] with done := true }
def layc : Nat := cb 0x10 255 [(12, 64), (16, 2), (24, 0)]
def fet : Dev := (((en (h0.setF CE_FLUSH 3 0) { run := some { lst 0 with buf := [] } }).accWrite 0 4096 (allOn (leBytes 64 layc))).2).setTile 0 { llAt := some (0, 4096, 2 ^ 32) }
theorem test_witness_EngineLists :
  (∃ s : State, ∃ e : Engine, ∃ q : Fin 4, ∃ p : Path, ∃ v : BitVec 12, Reaches s.dev p (0x2000110 + 0x10000 * e.val + 0x20 * q.val) ∧ v.toNat < s.dev.fld CE_QSIZE e.val q.val)
  ∧ (∃ s : State, ∃ e : Engine, ∃ q : Fin 4, ∃ p : Path, ∃ v : BitVec 12, Reaches s.dev p (0x2000110 + 0x10000 * e.val + 0x20 * q.val) ∧ s.dev.fld CE_QSIZE e.val q.val ≤ v.toNat)
  ∧ (∃ s : State, ∃ e : Engine, ∃ p : Path, ∃ v : Word64, Reaches s.dev p (0x2000010 + 0x10000 * e.val) ∧ s.dev.load.bDone = false ∧ ((upTo 16).any fun i => i != e.val && Nat.land (s.dev.fld CE_FLUSH i) v.toNat != 0) = false)
  ∧ (∃ s : State, ∃ e : Engine, ∃ p : Path, ∃ v : Word64, Reaches s.dev p (0x2000010 + 0x10000 * e.val) ∧ s.dev.load.bDone = false ∧ ((upTo 16).any fun i => i != e.val && Nat.land (s.dev.fld CE_FLUSH i) v.toNat != 0) = true)
  ∧ (∃ s : State, ∃ e : Engine, ∃ p : Path, ∃ v : Word64, Reaches s.dev p (0x2000010 + 0x10000 * e.val) ∧ s.dev.load.bDone = true)
  ∧ (∃ s : State, ∃ e : Engine, s.dev.released = true ∧ (s.dev.engOf e.val).run = none ∧ (s.dev.engOf e.val).susp = none ∧ s.dev.fld CE_STATE e.val ≠ 2 ∧ s.dev.swapDue e.val = false ∧ s.dev.queueHas e.val 0 = false ∧ s.dev.queueHas e.val 1 = true ∧ Sparse.get 0 (s.dev.engOf e.val).entry 1 = 0)
  ∧ (∃ s : State, ∃ e : Engine, ∃ l : CList, s.dev.released = true ∧ (s.dev.engOf e.val).run = none ∧ (s.dev.engOf e.val).susp = some l ∧ s.dev.fld CE_STATE e.val ≠ 2 ∧ s.dev.swapDue e.val = false ∧ s.dev.queueHas e.val 0 = false)
  ∧ (∃ s : State, ∃ e : Engine, Inv s ∧ ((s.dev.engOf e.val).run.isSome = true ∨ s.dev.fld CE_STATE e.val = 2))
  ∧ (∃ s : State, ∃ e : Engine, ∃ l : CList, s.dev.released = true ∧ (s.dev.engOf e.val).run = some l ∧ s.dev.fld CE_STATE e.val = 1 ∧ (s.dev.engOf e.val).stopAt = none ∧ l.buf = [])
  ∧ (∃ s : State, ∃ e : Engine, ∃ l : CList, (s.dev.engOf e.val).ending = [l] ∧ ((s.dev.engOf e.val).live.any fun c => c.list == l.id) = false)
  ∧ (∃ s : State, ∃ e : Engine, ∃ l : CList, (s.dev.engOf e.val).ending = [l] ∧ ((s.dev.engOf e.val).live.any fun c => c.list == l.id) = true)
  ∧ (∃ s : State, ∃ e : Engine, ∃ l : CList, s.dev.released = true ∧ s.dev.fld CE_STATE e.val = 1 ∧ (s.dev.engOf e.val).run = some l ∧ (s.dev.engOf e.val).seam = true ∧ s.dev.swapDue e.val = false ∧ s.dev.preemptDue e.val = true)
  ∧ (∃ s : State, ∃ e : Engine, Inv s ∧ ((s.dev.engOf e.val).seam = false ∨ s.dev.flag CE_PREEMPT e.val = false))
  ∧ (∃ s : State, ∃ e : Engine, ∃ p : Path, Reaches s.dev p (0x2000058 + 0x10000 * e.val) ∧ s.dev.flag CE_SWAP_PENDING e.val = false ∧ s.dev.fld CE_STATE e.val = 1)
  ∧ (∃ s : State, ∃ e : Engine, ∃ p : Path, Reaches s.dev p (0x2000058 + 0x10000 * e.val) ∧ s.dev.flag CE_SWAP_PENDING e.val = true)
  ∧ (∃ s : State, ∃ e : Engine, Inv s ∧ s.dev.released = true ∧ s.dev.flag CE_SWAP_PENDING e.val = true ∧ s.dev.fld CE_STATE e.val = 1 ∧ (s.dev.engOf e.val).stopAt = none ∧ (s.dev.engOf e.val).seam = true ∧ s.dev.fld CE_SWAP_AT e.val ≤ s.dev.now ∧ s.dev.fld CE_FLUSH e.val = 0 ∧ s.dev.safe.wicks = [])
  ∧ (∃ s : State, ∃ e : Engine, Inv s ∧ (s.dev.engOf e.val).seam = false)
  ∧ (∃ s : State, ∃ e : Engine, ∃ p : Path, Inv s ∧ Reaches s.dev p (0x2000000 + 0x10000 * e.val) ∧ s.dev.fld CE_STATE e.val = 2 ∧ (s.dev.engOf e.val).run.isSome = true)
  ∧ (∃ s : State, ∃ e : Engine, ∃ p : Path, ∃ l : CList, Inv s ∧ Reaches s.dev p (0x2000000 + 0x10000 * e.val) ∧ s.dev.fld CE_STATE e.val = 2 ∧ (s.dev.engOf e.val).run = some l ∧ (s.dev.engOf e.val).susp = none ∧ s.dev.fld CE_FLUSH e.val = 0)
  ∧ (∃ s : State, ∃ e : Engine, ∃ p : Path, Inv s ∧ Reaches s.dev p (0x2000000 + 0x10000 * e.val) ∧ s.dev.fld CE_STATE e.val ≠ 2) :=
  ⟨⟨st ((h0.setF CE_QSIZE 4 0 1).setF CE_QTAIL 2 0 1), 0, 1, .servicePort, 0, by decide⟩,
   ⟨st ((h0.setF CE_QSIZE 4 0 1).setF CE_QTAIL 2 0 1), 0, 0, .servicePort, 0, by decide⟩,
   ⟨st { (h0.setF CE_FLUSH 12 1) with load := { aDone := true } }, 0, .servicePort, 3, by decide⟩,
   ⟨st { (h0.setF CE_FLUSH 12 1) with load := { aDone := true } }, 0, .servicePort, 12, by decide⟩,
   ⟨st ((h0.setF CE_QSIZE 4 0 1).setF CE_QTAIL 2 0 1), 0, .servicePort, 3, by decide⟩,
   ⟨st ((h0.setF CE_QSIZE 4 0 1).setF CE_QTAIL 2 0 1), 0, by decide⟩,
   ⟨st (h0.setEng 0 { susp := some (lst 0) }), 0, lst 0, by decide⟩,
   ⟨st fet, 0, by decide⟩,
   ⟨st fet, 0, { lst 0 with buf := [] }, by decide⟩,
   ⟨st (h0.setEng 0 { ending := [lst 0] }), 0, lst 0, by decide⟩,
   ⟨st (h0.setEng 0 { ending := [lst 0], flight := [c8] }), 0, lst 0, by decide⟩,
   ⟨st (((((en h0 { run := some (lst 0) }).setF CE_PREEMPT 1 0).setF CE_QSIZE 4 0 0).setF CE_QTAIL 1 0 0)), 0, lst 0, by decide⟩,
   ⟨st (en h0 { run := some (lst 0), seam := false, wait := .cond 0 0 }), 0, by decide⟩,
   ⟨st fet, 0, .servicePort, by decide⟩,
   ⟨st ((en h0 { run := some (lst 0) }).setF CE_SWAP_PENDING 1 0), 0, .servicePort, by decide⟩,
   ⟨st ((en h0 { run := some (lst 0) }).setF CE_SWAP_PENDING 1 0), 0, by decide⟩,
   ⟨st (en h0 { run := some (lst 0), seam := false, wait := .cond 0 0 }), 0, by decide⟩,
   ⟨st ((en h0 { run := some (lst 0) }).setF CE_STATE 2 0), 0, .servicePort, by decide⟩,
   ⟨st ((en h0 { run := some (lst 0) }).setF CE_STATE 2 0), 0, .servicePort, lst 0, by decide⟩,
   ⟨st ((h0.setF CE_QSIZE 4 0 1).setF CE_QTAIL 2 0 1), 0, .servicePort, by decide⟩⟩
theorem test_witness_EngineCommands :
  (∃ s : State, ∃ e : Engine, ∃ l : CList, ∃ b : Nat, MayIssue s e l b 0x00)
  ∧ (∃ s : State, ∃ e : Engine, ∃ l : CList, ∃ b : Nat, MayIssue s e l b 0x01)
  ∧ (∃ s : State, ∃ e : Engine, ∃ l : CList, ∃ b : Nat, MayIssue s e l b 0x02)
  ∧ (∃ s : State, ∃ e : Engine, ∃ l : CList, ∃ b : Nat, MayIssue s e l b 0x21)
  ∧ (∃ s : State, ∃ e : Engine, ∃ l : CList, ∃ b : Nat, MayIssue s e l b 0x22)
  ∧ (∃ s : State, ∃ e : Engine, ∃ l : CList, ∃ b : Nat, MayIssue s e l b 0x24)
  ∧ (∃ s : State, ∃ e : Engine, ∃ l : CList, ∃ b : Nat, MayIssue s e l b 0x25)
  ∧ (∃ s : State, ∃ e : Engine, ∃ l : CList, ∃ b : Nat, MayIssue s e l b 0x26)
  ∧ (∃ s : State, ∃ e : Engine, ∃ l : CList, ∃ b : Nat, MayIssue s e l b 0x28)
  ∧ (∃ s : State, ∃ e : Engine, ∃ l : CList, ∃ b : Nat, MayIssue s e l b 0x20)
  ∧ (∃ s : State, ∃ e : Engine, ∃ l : CList, ∃ b : Nat, ∃ ts : List Nat, MayIssue s e l b 0x10 ∧ s.dev.cmdTargets e.val b = some ts)
  ∧ (∃ s : State, ∃ e : Engine, ∃ l : CList, ∃ b : Nat, ∃ ts : List Nat, MayIssue s e l b 0x11 ∧ s.dev.cmdTargets e.val b = some ts)
  ∧ (∃ s : State, ∃ e : Engine, ∃ l : CList, ∃ b : Nat, ∃ ts : List Nat, MayIssue s e l b 0x12 ∧ s.dev.cmdTargets e.val b = some ts)
  ∧ (∃ s : State, ∃ e : Engine, ∃ l : CList, ∃ b : Nat, ∃ ts : List Nat, MayIssue s e l b 0x13 ∧ s.dev.cmdTargets e.val b = some ts)
  ∧ (∃ s : State, ∃ e : Engine, ∃ l : CList, ∃ b : Nat, ∃ ts : List Nat, MayIssue s e l b 0x14 ∧ s.dev.cmdTargets e.val b = some ts)
  ∧ (∃ s : State, ∃ e : Engine, ∃ l : CList, ∃ b : Nat, ∃ ts : List Nat, MayIssue s e l b 0x23 ∧ s.dev.cmdTargets e.val b = some ts)
  ∧ (∃ s : State, ∃ e : Engine, ∃ l : CList, ∃ b : Nat, ∃ ts : List Nat, MayIssue s e l b 0x27 ∧ s.dev.cmdTargets e.val b = some ts)
  ∧ (∃ s : State, ∃ e : Engine, ∃ l : CList, ∃ b : Nat, Inv s ∧ s.dev.mayIssue e.val = some (l, b) ∧ opcOk (cmdOpc b) = false ∧ s.dev.fld CE_FLUSH e.val = 0)
  ∧ (∃ s : State, ∃ e : Engine, ∃ b : Nat, opcOk (cmdOpc b) = true ∧ s.dev.cmdTargets e.val b = none)
  ∧ (∃ s : State, ∃ e : Engine, ∃ l : CList, (s.dev.engOf e.val).run = some l ∧ ((cmdOrder (leNat (l.buf.take 64)) = true ∨ cmdOpc (leNat (l.buf.take 64)) = 0x01 ∨ cmdOpc (leNat (l.buf.take 64)) = 0x22)) ∧ ((s.dev.engOf e.val).live.any fun c => c.list == l.id) = true)
  ∧ (∃ s : State, ∃ e : Engine, 64 ≤ (s.dev.engOf e.val).live.length) :=
  ⟨⟨isd (cb 0 255 []), 0, lst (cb 0 255 []), cb 0 255 [], by decide⟩,
   ⟨isd (cb 1 255 []), 0, lst (cb 1 255 []), cb 1 255 [], by decide⟩,
   ⟨isd (cb 2 255 [(16, 8192)]), 0, lst (cb 2 255 [(16, 8192)]), cb 2 255 [(16, 8192)], by decide⟩,
   ⟨isd (cb 0x21 255 [(12, 2), (32, 3)]), 0, lst (cb 0x21 255 [(12, 2), (32, 3)]), cb 0x21 255 [(12, 2), (32, 3)], by decide⟩,
   ⟨isd (cb 0x22 255 [(12, 1), (14, 2)]), 0, lst (cb 0x22 255 [(12, 1), (14, 2)]), cb 0x22 255 [(12, 1), (14, 2)], by decide⟩,
   ⟨isd (cb 0x24 255 [(16, 8192)]), 0, lst (cb 0x24 255 [(16, 8192)]), cb 0x24 255 [(16, 8192)], by decide⟩,
   ⟨isd (cb 0x25 255 [(12, 3), (16, 1), (20, 5)]), 0, lst (cb 0x25 255 [(12, 3), (16, 1), (20, 5)]), cb 0x25 255 [(12, 3), (16, 1), (20, 5)], by decide⟩,
   ⟨isd (cb 0x26 255 [(12, 3)]), 0, lst (cb 0x26 255 [(12, 3)]), cb 0x26 255 [(12, 3)], by decide⟩,
   ⟨isd (cb 0x28 255 [(12, 9)]), 0, lst (cb 0x28 255 [(12, 9)]), cb 0x28 255 [(12, 9)], by decide⟩,
   ⟨isd (cb 0x20 255 [(12, 2), (24, 5), (40, 1)]), 0, lst (cb 0x20 255 [(12, 2), (24, 5), (40, 1)]), cb 0x20 255 [(12, 2), (24, 5), (40, 1)], by decide⟩,
   ⟨isd (cb 0x10 255 [(12, 64), (16, 2), (24, 0)]), 0, lst (cb 0x10 255 [(12, 64), (16, 2), (24, 0)]), cb 0x10 255 [(12, 64), (16, 2), (24, 0)], [0,1], by decide⟩,
   ⟨isd (cb 0x11 255 [(12, 64), (24, 1), (26, 1)]), 0, lst (cb 0x11 255 [(12, 64), (24, 1), (26, 1)]), cb 0x11 255 [(12, 64), (24, 1), (26, 1)], [0,1], by decide⟩,
   ⟨isd (cb 0x12 0 [(12, 4096), (20, 0x0200_0000_0000), (28, 256), (32, 1)]), 0, lst (cb 0x12 0 [(12, 4096), (20, 0x0200_0000_0000), (28, 256), (32, 1)]), cb 0x12 0 [(12, 4096), (20, 0x0200_0000_0000), (28, 256), (32, 1)], [0], by decide⟩,
   ⟨isd (cb 0x13 0 [(12, 4096), (20, 0x0200_0000_0000), (28, 256), (32, 1)]), 0, lst (cb 0x13 0 [(12, 4096), (20, 0x0200_0000_0000), (28, 256), (32, 1)]), cb 0x13 0 [(12, 4096), (20, 0x0200_0000_0000), (28, 256), (32, 1)], [0], by decide⟩,
   ⟨st (((en (h0.setF CE_FLUSH 3 0) { run := some (lst (cb 0x14 255 [(16, 1), (40, 1)])) }).sramWrite 0 8 (allOn [1])).sramWrite 1 8 (allOn [1])), 0, lst (cb 0x14 255 [(16, 1), (40, 1)]), cb 0x14 255 [(16, 1), (40, 1)], [0,1], by decide⟩,
   ⟨isd (cb 0x23 0 [(12, 4096), (16, 8192), (24, 1), (28, 0), (32, 16384)]), 0, lst (cb 0x23 0 [(12, 4096), (16, 8192), (24, 1), (28, 0), (32, 16384)]), cb 0x23 0 [(12, 4096), (16, 8192), (24, 1), (28, 0), (32, 16384)], [0], by decide⟩,
   ⟨isd (cb 0x27 255 [(12, 1)]), 0, lst (cb 0x27 255 [(12, 1)]), cb 0x27 255 [(12, 1)], [0,1], by decide⟩,
   ⟨isf (cb 0x55 255 []), 0, lst (cb 0x55 255 []), cb 0x55 255 [], by decide⟩,
   ⟨st ((h0.setF CE_QSIZE 4 0 1).setF CE_QTAIL 2 0 1), 0, cb 0x10 255 [(12, 64), (16, 2), (24, 0)], by decide⟩,
   ⟨st (en h0 { run := some (lst (cb 1 255 [])), flight := [c8] }), 0, lst (cb 1 255 []), by decide⟩,
   ⟨st (en h0 { flight := List.replicate 64 c8 }), 0, by decide⟩⟩
end B24

namespace B25
def h0 : Dev := (rel.setF DIE_CEL_OK 3 |>.setF DIE_HBM_CTL_OK 65535)
/-- A command's 64 bytes: opcode, TGT, and fields of (byte, width, value). -/
def cb (o tgt : Nat) (l : List (Nat × Nat)) : Nat := o + tgt * 2 ^ 16 + (l.map fun e => e.2 * 2 ^ (8 * e.1)).sum
def lst (b : Nat) : CList := { id := 1, start := 4096, next := 4096, queue := 1, compl := 0, user := 7, buf := leBytes 64 b }
def en (d : Dev) (x : Eng) : Dev := (d.setF CE_STATE 1 0).setEng 0 x
def cmd0 (b : Nat) (todo on : List Nat) : Cmd := { seq := 0, bytes := b, addr := 4096, list := 1, todo := todo, on := on }
def vx : Nat := cb 0x11 255 [(12, 64), (24, 1), (26, 1)]
def er : EvRun := { engine := 0, seq := 0, state := 1024, neurons := 2, syn := 65536, ktab := 2048, inq := 4096, outq := 8192, param := 0, left := 2, flags := 1 }
def y0 : LlEnt := { engine := 0, addr := 4096, pos := 2 ^ 32, wmode := 1, src := 65536, len := 512, slot := 4096, st := 2 }
def ly : LayerRun := { engine := 0, seq := 0, accSat := false, steps := [], wmode := 1, n := 3, have_ := 2, idx := 0 }
def c7 : Cmd := { cmd0 (cb 0x28 255 []) [] [] with done := true, status := 14 }
def c8 : Cmd := { cmd0 (cb 0 255 []) [] [] with done := true }
def wt : Nat := cb 0x20 255 [(12, 1), (16, 8192), (24, 5), (32, 255), (40, 1)]
def layc : Nat := cb 0x10 255 [(12, 64), (16, 2), (24, 0)]
def fet : Dev := (((en (h0.setF CE_FLUSH 3 0) { run := some { lst 0 with buf := [] } }).accWrite 0 4096 (allOn (leBytes 64 layc))).2).setTile 0 { llAt := some (0, 4096, 2 ^ 32) }
def wt2 : Nat := cb 0x20 255 [(12, 2), (24, 5)]
def fetB (b : Nat) (n : Nat) : Dev := (((en (h0.setF CE_FLUSH 3 0) { run := some { lst 0 with buf := [] } }).accWrite 0 4096 (allOn (leBytes 64 b))).2).setTile 0
  { llAt := some (0, 4096, 2 ^ 32), ll := (List.range n).map fun i => { y0 with pos := 2 ^ 32 + 1 + i, st := 1 } }
theorem test_witness_EngineProgress :
  (∃ s : State, ∃ e : Engine, ∃ q : BitVec 24, ∃ t : LTile, ∃ c : Cmd, s.dev.released = true ∧ (s.tidied t).nextPart e t = some c ∧ c.seq % 2 ^ 24 = q.toNat ∧ (s.tidied t).mayStart e t c = true)
  ∧ (∃ s : State, ∃ e : Engine, ∃ q : BitVec 24, ∃ t : LTile, ∃ c : Cmd, (s.tidied t).nextPart e t = some c ∧ (c.seq % 2 ^ 24 ≠ q.toNat ∨ (s.tidied t).mayStart e t c = false))
  ∧ (∃ s : State, ∃ e : Engine, ∃ q : Nat, ∃ a : Nat, ∃ c : Cmd, s.dev.released = true ∧ (s.dev.engOf e.val).wait = .cond q a ∧ s.dev.cmdOf e.val q = some c ∧ cmdBytes c.bytes 12 13 ≠ 2 ∧ s.dev.ceHeld c.bytes = false)
  ∧ (∃ s : State, ∃ e : Engine, ∃ q : Nat, ∃ a : Nat, ∃ c : Cmd, s.dev.released = true ∧ (s.dev.engOf e.val).wait = .cond q a ∧ s.dev.cmdOf e.val q = some c ∧ (cmdBytes c.bytes 12 13 = 2 ∧ waitEnds a c.bytes = none) ∧ (s.fresh.passTo (cmdBytes c.bytes 24 32)).ceHeld c.bytes = false)
  ∧ (∃ s : State, ∃ e : Engine, ∃ q : Nat, ∃ a : Nat, ∃ t : Nat, ∃ c : Cmd, s.dev.released = true ∧ (s.dev.engOf e.val).wait = .cond q a ∧ s.dev.cmdOf e.val q = some c ∧ waitEnds a c.bytes = some t)
  ∧ (∃ s : State, ∃ e : Engine, Inv s ∧ (s.dev.engOf e.val).wait = .none)
  ∧ (∃ s : State, ∃ e : Engine, ∃ q : BitVec 24, ∃ c : Cmd, Inv s ∧ s.dev.released = true ∧ s.dev.cmdOf e.val q.toNat = some c ∧ c.Over ∧ c.status = 0 ∧ (s.dev.engOf e.val).stopAt = none)
  ∧ (∃ s : State, ∃ e : Engine, ∃ q : BitVec 24, ∃ c : Cmd, Inv s ∧ s.dev.cmdOf e.val q.toNat = some c ∧ needsTile (cmdOpc c.bytes) = true ∧ (c.todo ≠ [] ∨ c.on ≠ []))
  ∧ (∃ s : State, ∃ e : Engine, ∃ q : BitVec 24, ∃ c : Cmd, ∃ l : CList, Inv s ∧ s.dev.released = true ∧ (s.dev.engOf e.val).flight = [c] ∧ c.seq = q.toNat ∧ c.Over ∧ c.status ≠ 0 ∧ (s.dev.flag CE_ON_ERR e.val = false ∧ (s.dev.engOf e.val).stopAt = none ∧ (s.dev.engOf e.val).run = some l ∧ l.id = c.list ∧ l.status = 0))
  ∧ (∃ s : State, ∃ t : LTile, ∃ e : Nat, ∃ a : Nat, ∃ p : Nat, s.dev.tileIssues t.val = true ∧ ((s.tidied t).tileOf t.val).llAt = some (e, a, p) ∧ (s.llSeen t a).1 = 0 ∧ (cmdOpc (leNat ((s.llSeen t a).2.1.take 64)) = 0x10 ∧ cmdTgt (leNat ((s.llSeen t a).2.1.take 64)) = 255) ∧ (s.llSeen t a).2.2.notIssued e p = true ∧ (((s.llSeen t a).2.2.tileOf t.val).ll.any fun y => y.engine == e && y.pos == p && !y.dead) = false ∧ ((s.llSeen t a).2.2.tileOf t.val).llCount < ((s.llSeen t a).2.2.tileOf t.val).llDepth)
  ∧ (∃ s : State, ∃ t : LTile, ∃ e : Nat, ∃ a : Nat, ∃ p : Nat, s.dev.tileIssues t.val = true ∧ ((s.tidied t).tileOf t.val).llAt = some (e, a, p) ∧ (s.llSeen t a).1 = 0 ∧ (cmdOpc (leNat ((s.llSeen t a).2.1.take 64)) = 0x10 ∧ cmdTgt (leNat ((s.llSeen t a).2.1.take 64)) = 255) ∧ (((s.llSeen t a).2.2.tileOf t.val).ll.any fun y => y.engine == e && y.pos == p && !y.dead) = false ∧ ((s.llSeen t a).2.2.tileOf t.val).llDepth ≤ ((s.llSeen t a).2.2.tileOf t.val).llCount)
  ∧ (∃ s : State, ∃ t : LTile, ∃ e : Nat, ∃ a : Nat, ∃ p : Nat, s.dev.tileIssues t.val = true ∧ ((s.tidied t).tileOf t.val).llAt = some (e, a, p) ∧ (s.llSeen t a).1 = 0)
  ∧ (∃ s : State, ∃ t : LTile, ∃ y : LlEnt, s.dev.tileIssues t.val = true ∧ ((s.tidied t).tileOf t.val).llReads.length < 64 ∧ (((s.tidied t).tileOf t.val).ll.find? (s.tidied t).llWants) = some y)
  ∧ (∃ s : State, ∃ t : LTile, s.dev.tileIssues t.val = true ∧ 64 ≤ ((s.tidied t).tileOf t.val).llReads.length)
  ∧ (∃ s : State, ∃ t : LTile, ∃ y : LlEnt, ∃ o : Nat, ∃ a : Nat, ∃ due : Nat, ∃ r : List (Nat × Nat × Nat × Nat), s.dev.released = true ∧ ((s.tidied t).tileOf t.val).llReads = (y.pos, o, a, due) :: r ∧ (s.tidied t).llEntryAt t y.pos = some y ∧ (((s.llGot t y a due r).1 = 0 ∨ (s.llGot t y a due r).1 = 6)))
  ∧ (∃ s : State, ∃ t : LTile, ∃ y : LlEnt, ∃ o : Nat, ∃ a : Nat, ∃ due : Nat, ∃ r : List (Nat × Nat × Nat × Nat), s.dev.released = true ∧ ((s.tidied t).tileOf t.val).llReads = (y.pos, o, a, due) :: r ∧ (s.tidied t).llEntryAt t y.pos = some y ∧ ((s.llGot t y a due r).1 ≠ 0 ∧ (s.llGot t y a due r).1 ≠ 6))
  ∧ (∃ s : State, ∃ t : LTile, ∃ p : Nat × Nat × Nat × Nat, ∃ r : List (Nat × Nat × Nat × Nat), s.dev.released = true ∧ ((s.tidied t).tileOf t.val).llReads = p :: r ∧ (s.tidied t).llEntryAt t p.1 = none)
  ∧ (∃ s : State, ∃ t : LTile, ∃ l : LayerRun, s.dev.released = true ∧ s.dev.tileMoves t.val = false ∧ (s.dev.tileOf t.val).layer = some l ∧ l.wmode = 1 ∧ l.round + 1 < l.n ∧ l.idx = (l.round + 1) * l.per ∧ l.round + 1 < l.have_)
  ∧ (∃ s : State, ∃ t : LTile, ∃ l : LayerRun, Inv s ∧ (s.dev.tileOf t.val).layer = some l ∧ (l.wmode ≠ 1 ∨ l.n ≤ l.round + 1))
  ∧ (∃ s : State, ∃ t : LTile, ∃ r : EvRun, s.dev.released = true ∧ s.dev.tileMoves t.val = false ∧ (s.dev.tileOf t.val).ev = some r ∧ r.atBarrier = false ∧ (s.evStaged t r).2.batchHeld (s.evStaged t r).1 = false)
  ∧ (∃ s : State, ∃ t : LTile, ∃ r : EvRun, Inv s ∧ (s.dev.tileOf t.val).ev = some r ∧ (r.atBarrier = true ∨ s.dev.tileMoves t.val = true))
  ∧ (∃ s : State, ∃ e : Engine, ∃ q : BitVec 24, ∃ c : Cmd, s.dev.released = true ∧ s.dev.cmdOf e.val q.toNat = some c ∧ s.dev.evAllThere e.val q.toNat = true ∧ (((c.on.any fun t => (s.dev.tileOf t).ev.any fun r => bitAt r.flags 1) = false ∨ c.colony = 2)))
  ∧ (∃ s : State, ∃ e : Engine, ∃ q : BitVec 24, ∃ c : Cmd, Inv s ∧ s.dev.cmdOf e.val q.toNat = some c ∧ s.dev.evAllThere e.val q.toNat = false) :=
  ⟨⟨st (en (h0.setF CE_FLUSH 3 0) { run := some (lst 0), flight := [cmd0 vx [0, 1] []] }), 0, 0, 0, cmd0 vx [0,1] [], by decide⟩,
   ⟨st (en (h0.setF CE_FLUSH 3 0) { run := some (lst 0), flight := [cmd0 vx [0, 1] []] }), 0, 1, 0, cmd0 vx [0,1] [], by decide⟩,
   ⟨st { en h0 { run := some (lst 0), flight := [cmd0 wt [] []], wait := .cond 0 0 } with clk := { tick := 900 } }, 0, 0, 0, cmd0 wt [] [], by decide⟩,
   ⟨st { en h0 { run := some (lst 0), flight := [cmd0 wt2 [] []], wait := .cond 0 0 } with clk := { tick := 900 } }, 0, 0, 0, cmd0 wt2 [] [], by decide⟩,
   ⟨st { en h0 { run := some (lst 0), flight := [cmd0 wt [] []], wait := .cond 0 0 } with clk := { tick := 900 } }, 0, 0, 0, 800, cmd0 wt [] [], by decide⟩,
   ⟨st ((h0.setF CE_QSIZE 4 0 1).setF CE_QTAIL 2 0 1), 0, by decide⟩,
   ⟨st (h0.setEng 0 { ending := [lst 0], flight := [c8] }), 0, 0, c8, by decide⟩,
   ⟨st (en (h0.setF CE_FLUSH 3 0) { run := some (lst 0), flight := [cmd0 vx [0, 1] []] }), 0, 0, cmd0 vx [0,1] [], by decide⟩,
   ⟨st (en h0 { run := some (lst 0), flight := [c7] }), 0, 0, c7, lst 0, by decide⟩,
   ⟨st fet, 0, 0, 4096, (2 ^ 32), by decide⟩,
   ⟨st (fetB layc 64), 0, 0, 4096, (2 ^ 32), by decide⟩,
   ⟨st (fetB (cb 1 255 []) 0), 0, 0, 4096, (2 ^ 32), by decide⟩,
   ⟨st (en (h0.setTile 0 { ll := [y0] }) { run := some { lst 0 with pos := 0 } }), 0, y0, by decide⟩,
   ⟨st (h0.setTile 0 { llReads := List.replicate 64 (5, 5, 5, 5) }), 0, by decide⟩,
   ⟨st (en (h0.setTile 0 { ll := [y0], llReads := [(2 ^ 32, 4096, 65536, 3)] }) { run := some { lst 0 with pos := 0 } }), 0, y0, 4096, 65536, 3, [], by decide⟩,
   ⟨st (en (rel.setTile 0 { ll := [y0], llReads := [(2 ^ 32, 4096, 65536, 3)] }) { run := some { lst 0 with pos := 0 } }), 0, y0, 4096, 65536, 3, [], by decide⟩,
   ⟨st (h0.setTile 0 { llReads := [(5, 4096, 65536, 3)] }), 0, (5, 4096, 65536, 3), [], by decide⟩,
   ⟨st (h0.setTile 0 { layer := some ly }), 0, ly, by decide⟩,
   ⟨st (h0.setTile 0 { layer := some { ly with round := 2 } }), 0, { ly with round := 2 }, by decide⟩,
   ⟨st (en (h0.setTile 0 { ev := some er }) { flight := [cmd0 (cb 0x14 255 []) [] [0]] }), 0, er, by decide⟩,
   ⟨st (en (h0.setTile 0 { ev := some { er with atBarrier := true } }) { flight := [cmd0 (cb 0x14 255 []) [] [0]] }), 0, { er with atBarrier := true }, by decide⟩,
   ⟨st (en (h0.setTile 0 { ev := some { er with atBarrier := true } }) { flight := [cmd0 (cb 0x14 255 []) [] [0]] }), 0, 0, cmd0 (cb 0x14 255 []) [] [0], by decide⟩,
   ⟨st { en h0 { run := some (lst 0), flight := [cmd0 wt2 [] []], wait := .cond 0 0 } with clk := { tick := 900 } }, 0, 0, cmd0 wt2 [] [], by decide⟩⟩
end B25

theorem test_witness_StepRunsFrontCommand :
  (∃ s : State, s.pending = [] ∧ Inv s ∧ s.dev.live = false) ∧ (∃ s : State, s.pending = [] ∧ s.dev.live = true) :=
  ⟨⟨State.reset, by decide⟩, ⟨st live, by decide⟩⟩

theorem test_witness_EveryStepKeepsInv : ∃ s t : State, Inv s ∧ step s = .next t := ⟨State.reset, _, by decide, rfl⟩

theorem test_witness_ClassSReaction :
  (∃ d : Dev, ∃ ev : Nat, ev < 2 ^ 16 ∧ d.flag SAF_S_PENDING = false)
  ∧ (∃ d : Dev, ∃ ev : Nat, d.flag SAF_S_PENDING = true ∧ (d.safe.sFirst ≠ some (d.clk.root / 48) ∨ d.fld SAF_FIRST_EVENT ≤ ev))
  ∧ (∃ d : Dev, ∃ ev : Nat, ev < 2 ^ 16 ∧ d.flag SAF_S_PENDING = true ∧ d.safe.sFirst = some (d.clk.root / 48)
      ∧ ev < d.fld SAF_FIRST_EVENT)
  ∧ (∃ d : Dev, d.flag SAF_S_PENDING = false ∨ d.safe.sLast ≠ some (d.clk.root / 48))
  ∧ (∃ d : Dev, d.flag SAF_S_PENDING = true ∧ d.safe.low = true ∧ d.safe.sLast = some (d.clk.root / 48)) :=
  ⟨⟨live, 65535, by decide⟩, ⟨live.setF SAF_S_PENDING 1, 0, by decide⟩,
   ⟨{ (live.setF SAF_S_PENDING 1).setF SAF_FIRST_EVENT 1 with safe := { sFirst := some 0 } }, 0, by decide⟩, ⟨live, by decide⟩,
   ⟨{ live.setF SAF_S_PENDING 1 with safe := { low := true, sLast := some 0 } }, by decide⟩⟩

end Sys2Proof.Tests
end

section
/-! SUPPORT. USER entries of the Ember record (R149): what a little-endian byte string spells, where the fields of an entry stand as it is
stored (R140, R624), and the write of EMB_USER_CTL. -/

namespace Sys2Proof.Machine
open Sys2Proof.Machine.Reg

/-! ## Little-endian byte strings -/

@[simp] theorem length_leBytes (n v : Nat) : (leBytes n v).length = n := by
  induction n generalizing v with
  | zero => rfl
  | succ n ih => simp [leBytes, ih]

/-- A byte string spells its bytes as digits of base 256. -/
theorem leNat_eq_ofDigits (l : List Byte) : leNat l = Nat.ofDigits (2 ^ 8) (l.map BitVec.toNat) := by
  induction l with
  | nil => rfl
  | cons b r ih => simp [leNat, Nat.ofDigits_cons, ih]

theorem leNat_append (a b : List Byte) : leNat (a ++ b) = leNat a + 2 ^ (8 * a.length) * leNat b := by
  simp [leNat_eq_ofDigits, Nat.ofDigits_append, pow_mul]

theorem leNat_lt (l : List Byte) : leNat l < 2 ^ (8 * l.length) := by
  have h : Nat.ofDigits (2 ^ 8) (l.map BitVec.toNat) < (2 ^ 8) ^ (l.map BitVec.toNat).length := by
    refine Nat.ofDigits_lt_base_pow_length (by decide) fun x hx => ?_
    obtain ⟨b, -, rfl⟩ := List.mem_map.mp hx
    exact b.isLt
  simpa [leNat_eq_ofDigits, pow_mul] using h

theorem leNat_leBytes (n v : Nat) : leNat (leBytes n v) = v % 2 ^ (8 * n) := by
  induction n generalizing v with
  | zero => simp [leBytes, leNat, Nat.mod_one]
  | succ n ih =>
    have hp : 2 ^ (8 * (n + 1)) = 2 ^ 8 * 2 ^ (8 * n) := by rw [← pow_add]; congr 1; omega
    rw [hp, Nat.mod_mul, leBytes, leNat, ih, BitVec.toNat_ofNat]
    rfl

/-- A number read back from the middle of a byte string, whatever stands above the string. -/
theorem leNat_middle (pre post : List Byte) (n v c : Nat) :
    (leNat (pre ++ leBytes n v ++ post) + c * 2 ^ (8 * (pre ++ leBytes n v ++ post).length)) / 2 ^ (8 * pre.length) % 2 ^ (8 * n)
      = v % 2 ^ (8 * n) := by
  have hlen : 2 ^ (8 * (pre ++ leBytes n v ++ post).length)
      = 2 ^ (8 * pre.length) * (2 ^ (8 * n) * 2 ^ (8 * post.length)) := by
    simp only [List.length_append, length_leBytes, ← pow_add]; congr 1; omega
  have hsplit : leNat (pre ++ leBytes n v ++ post) + c * 2 ^ (8 * (pre ++ leBytes n v ++ post).length)
      = leNat pre + 2 ^ (8 * pre.length) * (v % 2 ^ (8 * n) + 2 ^ (8 * n) * (leNat post + 2 ^ (8 * post.length) * c)) := by
    rw [hlen, List.append_assoc, leNat_append, leNat_append, leNat_leBytes, length_leBytes]; ring
  rw [hsplit, Nat.add_mul_div_left _ _ (Nat.two_pow_pos _), Nat.div_eq_of_lt (leNat_lt pre), Nat.zero_add, Nat.add_mul_mod_self_left,
    Nat.mod_mod]

/-! ## Entries as they are stored -/

/-- The 60 bytes under the CRC. -/
theorem EmbEnt.length_body (e : EmbEnt) (seq epoch : Nat) (pin : Bool) : (e.body seq epoch pin).length = 60 := by
  simp only [EmbEnt.body, List.length_append, length_leBytes, List.length_replicate, List.length_take]
  omega

/-- A field that stands in the body reads back from the stored entry: the CRC lies above it. -/
theorem EmbEnt.word_field {e : EmbEnt} {seq epoch n v : Nat} {pin : Bool} {pre post : List Byte}
    (h : e.body seq epoch pin = pre ++ leBytes n v ++ post) :
    e.word seq epoch pin / 2 ^ (8 * pre.length) % 2 ^ (8 * n) = v % 2 ^ (8 * n) := by
  have h60 : 480 = 8 * (pre ++ leBytes n v ++ post).length := by rw [← h, e.length_body]
  unfold EmbEnt.word
  dsimp only
  rw [h, h60]
  exact leNat_middle pre post n v _

/-- The event code stands in bytes 16 and 17 (R140). -/
theorem EmbEnt.word_event (e : EmbEnt) (seq epoch : Nat) (pin : Bool) :
    e.word seq epoch pin / 2 ^ 128 % 2 ^ 16 = e.event % 2 ^ 16 := by
  have h := EmbEnt.word_field (e := e) (seq := seq) (epoch := epoch) (pin := pin) (pre := leBytes 8 seq ++ leBytes 8 e.ts) (n := 2)
    (v := e.event) (by unfold EmbEnt.body; simp only [List.append_assoc]; rfl)
  simpa using h

theorem detailBytes_append (l r : List DF) : detailBytes (l ++ r) = detailBytes l ++ detailBytes r := List.flatMap_append ..

/-- A field of a detail that fits stands behind the fields before it, from byte 32 on (R140, R624). -/
theorem EmbEnt.word_detail {e : EmbEnt} (l : List DF) {r : List DF} {f : DF} {k : Nat} (h : e.detail = l ++ f :: r)
    (hfit : (detailBytes e.detail).length ≤ 28) (hk : k = 8 * (32 + (detailBytes l).length)) (seq epoch : Nat) (pin : Bool) :
    e.word seq epoch pin / 2 ^ k % 2 ^ (8 * f.w) = f.v % 2 ^ (8 * f.w) := by
  have hdet : detailBytes e.detail = detailBytes l ++ (leBytes f.w f.v ++ detailBytes r) := by
    rw [h, detailBytes_append]; rfl
  have hbody := EmbEnt.word_field (e := e) (seq := seq) (epoch := epoch) (pin := pin) (n := f.w) (v := f.v)
    (pre := leBytes 8 seq ++ leBytes 8 e.ts ++ leBytes 2 e.event ++ leBytes 1 e.cls.code ++ leBytes 1 (e.flags pin)
      ++ leBytes 2 (e.event / 256) ++ leBytes 2 e.inst ++ leBytes 4 epoch ++ leBytes 4 e.count ++ detailBytes l)
    (post := detailBytes r ++ List.replicate (28 - (detailBytes e.detail).length) 0)
    (by
      unfold EmbEnt.body
      dsimp only
      rw [List.take_of_length_le hfit, hdet]
      simp only [List.append_assoc])
  rw [hk]
  simpa [← Nat.add_assoc] using hbody

/-! ## The write of EMB_USER_CTL -/

/-- An event of class I that is none of the causes that stay does nothing but queue its entry. -/
theorem Dev.logEv_info (d : Dev) {ev : Nat} (h : ev ∉ stickyEvents) (inst : Nat) (l : List DF) (o : Bool) :
    d.logEv ev .I inst l o
      = d.post { ts := d.clk.ts, event := ev, cls := .I, inst := inst, opened := o, replay := d.running, detail := l } := by
  unfold Dev.logEv
  simp [h]

/-- No user event is one of the class S causes that stay (R565). -/
theorem not_sticky_user (c : Nat) : 0xF000 + c ∉ stickyEvents := by
  simp only [stickyEvents, List.mem_cons, List.not_mem_nil, or_false]
  omega

/-- A user event queues an entry of class I with the bytes of EMB_USER_0 to EMB_USER_3, and does nothing else. -/
theorem Dev.embUser_eq_post (d : Dev) (v : Nat) :
    d.embUser v = d.post { ts := d.clk.ts, event := 0xF000 + v % 256, cls := .I, replay := d.running, detail :=
      [dB 8 (d.fld EMB_USER 0), dB 8 (d.fld EMB_USER 1), dB 8 (d.fld EMB_USER 2), dB 4 (d.fld EMB_USER 3 % 2 ^ 32)] } :=
  d.logEv_info (not_sticky_user _) 0 _ false

/-- A write that reaches EMB_USER_CTL posts the user event and is answered. -/
theorem Dev.csrWrite_embUserCtl {d : Dev} {p : Path} (v : Word64) (h : Reaches d p 0x3000A0) :
    d.csrWrite p 0x3000A0 8 v.toNat = (d.embUser v.toNat).emit .wrDone :=
  Dev.csrWrite_glb v h (by decide) (by decide) (by decide)

/-- The command runs to its end with that write alone: a queued entry wakes nothing that waits. -/
theorem leaves_embUserCtl {s : State} {p : Path} (v : Word64) (hi : Inv s) (h : Reaches s.dev p 0x3000A0) :
    Leaves (.embUserCtl p v) s ((s.fresh.embUser v.toNat).emit .wrDone) := by
  have hout : Dev.plainOut ((s.fresh.embUser v.toNat).emit .wrDone) = true := by simp [Dev.embUser_eq_post, Out.plain]
  refine runAll_keep (Dev.csrWrite_embUserCtl (d := s.fresh) v h) ?_ ?_ ?_ hout ?_ ?_ <;> simp [Dev.embUser_eq_post, hi.mem]

/-- Settles O17: the write is an event of class I, and each field of its entry reads back from where it stands in the stored bytes. -/
theorem userEntries : Obligations.UserEntries := by
  unfold Obligations.UserEntries
  refine ⟨fun s p v hi h => ?_, fun ts code a b c e seq epoch pin hcode ha hb hc he => ⟨?_, ?_, ?_, ?_, ?_⟩⟩
  · exact s.fresh.embUser_eq_post v.toNat ▸ leaves_embUserCtl v hi h
  · exact (EmbEnt.word_event _ seq epoch pin).trans (Nat.mod_eq_of_lt (by show 0xF000 + code < _; omega))
  · exact (EmbEnt.word_detail [] (f := dB 8 a) (k := 256) rfl le_rfl rfl seq epoch pin).trans (Nat.mod_eq_of_lt ha)
  · exact (EmbEnt.word_detail [dB 8 a] (f := dB 8 b) (k := 320) rfl le_rfl rfl seq epoch pin).trans (Nat.mod_eq_of_lt hb)
  · exact (EmbEnt.word_detail [dB 8 a, dB 8 b] (f := dB 8 c) (k := 384) rfl le_rfl rfl seq epoch pin).trans (Nat.mod_eq_of_lt hc)
  · exact (EmbEnt.word_detail [dB 8 a, dB 8 b, dB 8 c] (f := dB 4 e) (k := 448) rfl le_rfl rfl seq epoch pin).trans (Nat.mod_eq_of_lt he)

end Sys2Proof.Machine
end

section
/-! SUPPORT. Signal slices (R194 to R198): what a command on a slice leaves of the device, the value each command gives the slice, and the
exact arithmetic of the updates. -/

namespace Sys2Proof.Machine
open Sys2Proof.Machine.Reg

/-! ## Slices as state -/

@[simp] theorem Dev.sliceOf_emit (d : Dev) (o : Out) (m : Nat) : (d.emit o).sliceOf m = d.sliceOf m := rfl
@[simp] theorem Dev.sliceOf_setSlice (d : Dev) (n m : Nat) (x : Slice) :
    (d.setSlice n x).sliceOf m = if m = n then x else d.sliceOf m := Sparse.get_set d.fab.slice n m x
@[simp] theorem State.fresh_sliceOf (s : State) (n : Nat) : s.fresh.sliceOf n = s.dev.sliceOf n := rfl
@[simp] theorem State.fresh_regionRuns (s : State) (r : Nat) : s.fresh.regionRuns r = s.dev.regionRuns r := rfl

/-- Slices set one after the other, each to a value of its own, hold these values. -/
theorem Dev.sliceOf_foldl_setSlice (g : Nat → Slice) (l : List Nat) (d : Dev) (n : Nat) :
    (l.foldl (fun d m => d.setSlice m (g m)) d).sliceOf n = if n ∈ l then g n else d.sliceOf n := by
  induction l generalizing d with
  | nil => rfl
  | cons m l ih =>
    rw [List.foldl_cons, ih, sliceOf_setSlice]
    by_cases hm : n = m <;> simp [hm]

/-- A configuration load starts each slice of the region afresh, with the fields of its frame (R206). -/
theorem Dev.sliceOf_configRegion (d : Dev) {r n : Nat} (h : n ∈ slicesOf r) :
    (d.configRegion r).sliceOf n = freshSlice (sliceCfgOf (Config.frameSlice (d.frameBytes r) n).toNat) :=
  (Dev.sliceOf_foldl_setSlice (fun m => freshSlice (sliceCfgOf (Config.frameSlice (d.frameBytes r) m).toNat)) _ _ n).trans (if_pos h)

/-! ## What a command does to a slice -/

/-- `e` is what a command that brings slice `n` to `x` makes of `d`: where the region runs, the slice is `x` and its outputs are driven;
elsewhere nothing happens. -/
def Dev.SliceBecomes (d : Dev) (n : Nat) (x : Slice) (e : Dev) : Prop :=
  ∃ o : Out, o.plain = true ∧ e = if d.regionRuns (sliceRegion n) then (d.setSlice n x).emit o else d

/-- Of the slices of `d`, `e` differs in slice `n` at most, and in no register and no byte of memory. -/
abbrev Dev.SliceFrame (d : Dev) (n : Nat) (e : Dev) : Prop := (∀ m : Nat, m ≠ n → e.sliceOf m = d.sliceOf m) ∧ e.csr = d.csr ∧ e.mem = d.mem

/-- A slice after an update of both accumulators to `v` (R194, R198), with the output of the update (R199 to R202). -/
def Slice.updated (x : Slice) (v : CInt) (shift : Nat) : Slice :=
  let re := fit48 x.cfg.accSat v.re
  let im := fit48 x.cfg.accSat v.im
  let k := min 47 (if x.cfg.shiftSrc then shift else x.cfg.outShift)
  let w := if x.cfg.wide then 18 else 16
  let rr := shiftRound x.cfg.rnd k re
  let ri := shiftRound x.cfg.rnd k im
  { x with accRe := re, accIm := im, ovf := x.ovf || over48 v.re || over48 v.im, outRe := satTo w rr, outIm := satTo w ri, valid := true,
           sat := satTo w rr != rr || satTo w ri != ri, bex := max x.bex (max (magBits rr) (magBits ri)) }

@[simp] theorem Slice.updated_accRe (x : Slice) (v : CInt) (k : Nat) : (x.updated v k).accRe = fit48 x.cfg.accSat v.re := rfl
@[simp] theorem Slice.updated_accIm (x : Slice) (v : CInt) (k : Nat) : (x.updated v k).accIm = fit48 x.cfg.accSat v.im := rfl
@[simp] theorem Slice.updated_ovf (x : Slice) (v : CInt) (k : Nat) : (x.updated v k).ovf = (x.ovf || over48 v.re || over48 v.im) := rfl
@[simp] theorem Slice.updated_valid (x : Slice) (v : CInt) (k : Nat) : (x.updated v k).valid = true := rfl

theorem Dev.sliceOp_becomes (d : Dev) (n : Nat) (f : Slice → CInt) (k : Nat) :
    d.SliceBecomes n ((d.sliceOf n).updated (f (d.sliceOf n)) k) (d.sliceOp n f k) := ⟨_, rfl, rfl⟩

/-- HOLD, which keeps the accumulators. -/
theorem Dev.sliceHold_becomes (d : Dev) (n : Nat) :
    d.SliceBecomes n { d.sliceOf n with valid := false, sat := false } (d.sliceQuiet n false) := ⟨_, rfl, rfl⟩

/-- CLR, which clears them. -/
theorem Dev.sliceClr_becomes (d : Dev) (n : Nat) :
    d.SliceBecomes n { d.sliceOf n with accRe := 0, accIm := 0, valid := false, sat := false } (d.sliceQuiet n true) := ⟨_, rfl, rfl⟩

theorem Dev.ovfClr_becomes (d : Dev) (n : Nat) (now : Bool) :
    d.SliceBecomes n { d.sliceOf n with ovf := now } (d.ovfClr n now) := ⟨_, rfl, rfl⟩

theorem Dev.bexClr_becomes (d : Dev) (n : Nat) : d.SliceBecomes n { d.sliceOf n with bex := 0 } (d.bexClr n) := ⟨_, rfl, rfl⟩

theorem Dev.agAdv_becomes (d : Dev) (n : Nat) : d.SliceBecomes n (d.sliceOf n).agNext (d.agAdv n) := ⟨_, rfl, rfl⟩

/-- The address generator has no part in the overflow flag. -/
theorem Slice.agNext_ovf (x : Slice) : x.agNext.ovf = x.ovf := by
  unfold Slice.agNext
  dsimp only
  split <;> rfl

/-! ## From the slice to the outcome of the command -/

/-- What holds of every device that meets a condition holds where a command ends with that condition. -/
theorem Ends.imp {c : Instr} {s : State} {P Q : Dev → Prop} (h : Ends c s P) (hpq : ∀ d, P d → Q d) : Ends c s Q := by
  obtain ⟨d, hd, hp⟩ := h
  exact ⟨d, hd, hpq d hp⟩

section
variable {c : Instr} {s : State} {f : Dev → Dev} {n : Nat} {x : Slice}

/-- The command ends, and nothing follows from it: the outputs of a slice are no answer, and nothing waits for a slice. -/
theorem ends_of_sliceBecomes (hi : Inv s) (hc : exec c s = runAll s f) (hx : s.fresh.SliceBecomes n x (f s.fresh)) :
    Ends c s fun d => d.sliceOf n = (if s.dev.regionRuns (sliceRegion n) then x else s.dev.sliceOf n) ∧ s.dev.SliceFrame n d := by
  obtain ⟨o, ho, hf⟩ := hx
  rw [State.fresh_regionRuns] at hf
  cases hr : s.dev.regionRuns (sliceRegion n) with
  | true =>
    rw [hr, if_pos rfl] at hf
    have hout : ((s.fresh.setSlice n x).emit o).out.all Out.plain = true := by
      show ([] ++ [o]).all Out.plain = true
      simpa using ho
    refine ⟨_, hc.trans (runAll_keep hf rfl rfl rfl hout rfl hi.mem), ?_, fun m hm => ?_, rfl, rfl⟩
    · simp
    · simp [hm]
  | false =>
    rw [hr] at hf
    exact ⟨_, hc.trans (runAll_keep hf rfl rfl rfl rfl rfl hi.mem), rfl, fun m _ => rfl, rfl, rfl⟩

/-- The same where the region runs. -/
theorem ends_of_sliceBecomes_running (hi : Inv s) (hr : s.dev.regionRuns (sliceRegion n) = true) (hc : exec c s = runAll s f)
    (hx : s.fresh.SliceBecomes n x (f s.fresh)) : Ends c s fun d => d.sliceOf n = x ∧ s.dev.SliceFrame n d := by
  simpa only [hr, if_true] using ends_of_sliceBecomes hi hc hx

/-- A command that leaves OVF of its slice as it is, whether or not the region runs. -/
theorem ends_ovf_kept (hi : Inv s) (hc : exec c s = runAll s f) (hx : s.fresh.SliceBecomes n x (f s.fresh))
    (ho : x.ovf = (s.dev.sliceOf n).ovf) : Ends c s fun d => (d.sliceOf n).ovf = (s.dev.sliceOf n).ovf :=
  (ends_of_sliceBecomes hi hc hx).imp fun d ⟨hd, _⟩ => by
    rw [hd]
    split
    · exact ho
    · rfl

end

section
variable {c : Instr} {s : State} {n : Fin 4096} {g : Dev → Slice → CInt} {k : Nat}

/-- An update brings the value `v` it computes to the slice. -/
theorem ends_sliceOp {v : CInt} (hi : Inv s) (hr : s.dev.regionRuns (sliceRegion n.val) = true)
    (hc : exec c s = runAll s fun d => d.sliceOp n.val (g d) k) (hv : g s.fresh (s.dev.sliceOf n.val) = v) :
    Ends c s fun d => d.sliceOf n.val = (s.dev.sliceOf n.val).updated v k ∧ s.dev.SliceFrame n.val d :=
  hv ▸ ends_of_sliceBecomes_running hi hr hc (s.fresh.sliceOp_becomes n.val (g s.fresh) k)

/-- Its accumulators, where the parts of that value are known. -/
theorem sliceUpdates_of_sliceOp {re im : Int} (hi : Inv s) (hr : s.dev.regionRuns (sliceRegion n.val) = true)
    (hc : exec c s = runAll s fun d => d.sliceOp n.val (g d) k) (hv : g s.fresh (s.dev.sliceOf n.val) = ⟨re, im⟩) :
    SliceUpdates c s n re im :=
  (ends_sliceOp hi hr hc hv).imp fun d ⟨hd, hframe⟩ => ⟨by simp [hd], by simp [hd], by simp [hd], hframe⟩

end

/-! The six updates of R194 as commands (`rfl`: the dispatch hands each to its update). -/

section
variable (n : Fin 4096) (a b c : C18) (sh : BitVec 6) (s : State)

theorem exec_sliceMul : exec (.sliceMul n a b sh) s = runAll s fun d => d.sliceOp n.val (fun _ => (C18.int a).mul (C18.int b)) sh.toNat := rfl

theorem exec_sliceMac : exec (.sliceMac n a b sh) s =
    runAll s fun d => d.sliceOp n.val (fun x => x.acc.add ((C18.int a).mul (C18.int b))) sh.toNat := rfl

theorem exec_sliceCmac : exec (.sliceCmac n a b c sh) s =
    runAll s fun d => d.sliceOp n.val (fun x => ((C18.int c).shift x.cfg.cshift).add ((C18.int a).mul (C18.int b))) sh.toNat := rfl

theorem exec_sliceMulj : exec (.sliceMulj n a b sh) s =
    runAll s fun d => d.sliceOp n.val (fun _ => (C18.int a).mul (C18.int b).conj) sh.toNat := rfl

theorem exec_sliceMacj : exec (.sliceMacj n a b sh) s =
    runAll s fun d => d.sliceOp n.val (fun x => x.acc.add ((C18.int a).mul (C18.int b).conj)) sh.toNat := rfl

theorem exec_sliceCasc : exec (.sliceCasc n a b sh) s =
    runAll s fun d => d.sliceOp n.val (fun _ => (d.sliceCin n.val).add ((C18.int a).mul (C18.int b))) sh.toNat := rfl

end

/-- Each of the six updates brings its value to the slice. -/
theorem ends_of_mem_sliceUpdates {s : State} {n : Fin 4096} {a b c : C18} {sh : BitVec 6} (hi : Inv s)
    (hr : s.dev.regionRuns (sliceRegion n.val) = true) {e : Instr × CInt} (he : e ∈ sliceUpdates s.dev n a b c sh) :
    Ends e.1 s fun d => d.sliceOf n.val = (s.dev.sliceOf n.val).updated e.2 sh.toNat ∧ s.dev.SliceFrame n.val d := by
  simp only [sliceUpdates, List.mem_cons, List.not_mem_nil, or_false] at he
  obtain rfl | rfl | rfl | rfl | rfl | rfl := he
  · exact ends_sliceOp hi hr (exec_sliceMul n a b sh s) rfl
  · exact ends_sliceOp hi hr (exec_sliceMac n a b sh s) rfl
  · exact ends_sliceOp hi hr (exec_sliceCmac n a b c sh s) rfl
  · exact ends_sliceOp hi hr (exec_sliceMulj n a b sh s) rfl
  · exact ends_sliceOp hi hr (exec_sliceMacj n a b sh s) rfl
  · exact ends_sliceOp hi hr (exec_sliceCasc n a b sh s) rfl

/-! ## The arithmetic of R194, R196 and R198 -/

/-- A × conj(B), part by part. -/
theorem C18.int_mul_conj (a b : C18) : (C18.int a).mul (C18.int b).conj =
    ⟨a.re.toInt * b.re.toInt + a.im.toInt * b.im.toInt, a.im.toInt * b.re.toInt - a.re.toInt * b.im.toInt⟩ := by
  simp only [CInt.mul, CInt.conj, C18.int, CInt.mk.injEq]
  constructor <;> ring

/-- CIN, part by part. -/
theorem Dev.sliceCin_eq (d : Dev) (n : Nat) : d.sliceCin n =
    ⟨if n % 64 = 0 then 0 else (d.sliceOf (n - 1)).accRe, if n % 64 = 0 then 0 else (d.sliceOf (n - 1)).accIm⟩ := by
  unfold Dev.sliceCin
  split <;> rfl

/-- The magnitude of a product of two 18-bit parts. -/
theorem abs_toInt_mul_le (x y : BitVec 18) : |x.toInt * y.toInt| ≤ 2 ^ 34 := by
  have bound (z : BitVec 18) : |z.toInt| ≤ 2 ^ 17 := abs_le.mpr ⟨z.le_toInt, z.toInt_lt.le⟩
  calc |x.toInt * y.toInt| = |x.toInt| * |y.toInt| := abs_mul ..
    _ ≤ 2 ^ 17 * 2 ^ 17 := mul_le_mul (bound x) (bound y) (abs_nonneg _) (by positivity)
    _ = 2 ^ 34 := by norm_num

theorem fit48_wrap (x : Int) : fit48 false x = (x + 2 ^ 47) % 2 ^ 48 - 2 ^ 47 := by
  simp only [fit48, toSigned, ofSigned, Bool.false_eq_true, if_false]
  omega

theorem fit48_clamp (x : Int) : fit48 true x = if 2 ^ 47 ≤ x then 2 ^ 47 - 1 else if x < -(2 ^ 47) then -(2 ^ 47) else x := by
  simp only [fit48, if_true]
  omega

theorem over48_iff (x : Int) : over48 x = true ↔ x < -(2 ^ 47) ∨ 2 ^ 47 ≤ x := by simp [over48]

/-! ## The obligations -/

/-- Settles O20: each command brings its slice to its row of the table, and two products of at most 2^34 sum to less than 2^36. -/
theorem sliceOperations : Obligations.SliceOperations := by
  unfold Obligations.SliceOperations
  refine ⟨fun s n hi hr => ?hold, fun s n a b sh hi hr => ?mul, fun s n a b sh hi hr => ?mac, fun s n a b c sh hi hr => ?cmac,
    fun s n a b sh hi hr => ?mulj, fun s n a b sh hi hr => ?macj, fun s n a b sh hi hr => ?casc, fun s n hi hr => ?clr, fun a b => ?bounds⟩
  case hold =>
    exact (ends_of_sliceBecomes_running hi hr rfl (s.fresh.sliceHold_becomes n)).imp fun d ⟨hd, hframe⟩ =>
      ⟨by simp [hd], by simp [hd], by simp [hd], hframe⟩
  case mul => exact sliceUpdates_of_sliceOp hi hr (exec_sliceMul n a b sh s) rfl
  case mac => exact sliceUpdates_of_sliceOp hi hr (exec_sliceMac n a b sh s) rfl
  case cmac => exact sliceUpdates_of_sliceOp hi hr (exec_sliceCmac n a b c sh s) rfl
  case mulj => exact sliceUpdates_of_sliceOp hi hr (exec_sliceMulj n a b sh s) (C18.int_mul_conj a b)
  case macj => exact sliceUpdates_of_sliceOp hi hr (exec_sliceMacj n a b sh s) (congrArg (s.dev.sliceOf n).acc.add (C18.int_mul_conj a b))
  case casc =>
    exact sliceUpdates_of_sliceOp hi hr (exec_sliceCasc n a b sh s) (congrArg (CInt.add · ((C18.int a).mul (C18.int b))) (s.dev.sliceCin_eq n))
  case clr =>
    exact (ends_of_sliceBecomes_running hi hr rfl (s.fresh.sliceClr_becomes n)).imp fun d ⟨hd, hframe⟩ =>
      ⟨by simp [hd], by simp [hd], by simp [hd], hframe⟩
  case bounds =>
    have hrr := abs_le.mp (abs_toInt_mul_le a.re b.re)
    have hii := abs_le.mp (abs_toInt_mul_le a.im b.im)
    have hri := abs_le.mp (abs_toInt_mul_le a.re b.im)
    have hir := abs_le.mp (abs_toInt_mul_le a.im b.re)
    omega

/-- Settles O21: an update raises OVF where a part leaves the range, and OVF_CLR alone lowers it. -/
theorem sliceOverflow : Obligations.SliceOverflow := by
  unfold Obligations.SliceOverflow
  refine ⟨fit48_wrap, fit48_clamp, fun s n a b c sh hi hr e he => ?update, over48_iff, fun s n hi c hc => ?kept, fun s n now hi hr => ?ovfClr,
    fun d r n hn => ?config⟩
  case update =>
    exact (ends_of_mem_sliceUpdates hi hr he).imp fun d ⟨hd, _⟩ => ⟨by simp [hd], by simp [hd], by simp [hd]⟩
  case kept =>
    simp only [List.mem_cons, List.not_mem_nil, or_false] at hc
    obtain rfl | rfl | rfl | rfl := hc
    · exact ends_ovf_kept hi rfl (s.fresh.sliceHold_becomes n) rfl
    · exact ends_ovf_kept hi rfl (s.fresh.sliceClr_becomes n) rfl
    · exact ends_ovf_kept hi rfl (s.fresh.bexClr_becomes n) rfl
    · exact ends_ovf_kept hi rfl (s.fresh.agAdv_becomes n) (Slice.agNext_ovf _)
  case ovfClr => exact ends_of_sliceBecomes_running hi hr rfl (s.fresh.ovfClr_becomes n now)
  case config =>
    rw [Dev.sliceOf_configRegion d hn]
    exact ⟨rfl, rfl, rfl⟩

end Sys2Proof.Machine
end

section
/-! SUPPORT. Steps: every command is `runAll` of an effect, so it runs to its end, keeps the queue and leaves memory canonical. What an
idle step does, and the state right after reset. -/

namespace Sys2Proof.Machine
open Sys2Proof.Machine.Reg

/-- Every command is an effect on the device and what follows from it. -/
theorem exec_eq_runAll (c : Instr) (s : State) : ∃ f, exec c s = runAll s f := by
  unfold exec
  cases c <;> exact ⟨_, rfl⟩

/-- The outcome of a step on an empty queue. -/
theorem step_nil {s : State} (h : s.pending = []) :
    step s = .next { dev := (if s.dev.live then s.fresh.tsTick.fabricTick.walkTick else s.fresh).tidy, pending := [] } := by
  unfold step
  rw [h]
  show run s _ = _
  unfold run
  rw [h]
  rfl

/-- Every step answers a next state with the rest of the queue; its memory is canonical. -/
theorem step_next (s : State) : ∃ d, step s = .next { dev := d, pending := s.pending.tail } ∧ Memory.wf d.mem = true := by
  cases hp : s.pending with
  | nil => exact ⟨_, step_nil hp, Dev.wf_tidy _⟩
  | cons c rest =>
    obtain ⟨f, hf⟩ := exec_eq_runAll c { s with pending := rest }
    have hstep : step s = exec c { s with pending := rest } := by
      unfold step
      rw [hp]
    rw [hstep, hf]
    exact runAll_next { s with pending := rest } f

/-- Settles O3: whatever command ran, its outcome has been put into the canonical form. -/
theorem everyStepKeepsInv : Obligations.EveryStepKeepsInv := by
  unfold Obligations.EveryStepKeepsInv
  intro s t _ h
  obtain ⟨d, hd, hw⟩ := step_next s
  rw [hd] at h
  cases h
  exact hw

/-- Settles O2: every command is `runAll` of an effect, which answers a next state. -/
theorem everyCommandCompletes : Obligations.EveryCommandCompletes := by
  unfold Obligations.EveryCommandCompletes
  refine ⟨fun c s => ?_, fun s => ?_⟩
  · obtain ⟨f, hf⟩ := exec_eq_runAll c s
    exact ⟨_, hf⟩
  · obtain ⟨d, hd, -⟩ := step_next s
    exact ⟨_, hd, rfl⟩

/-- ROOT is locked and nothing holds the core; nothing is loaded and no command waits. -/
def lockedState : State := { dev := ({} : Dev).setF CLK_ROOT_LOCK 1, pending := [] }

/-- The ROOT count up to which region logic has been clocked. -/
def clockedAfter (r : Host.Outcome State Fault Refusal) : Nat :=
  match r with
  | .next t => t.dev.fab.clocked
  | _ => 0

/-- Refutes O1: an idle step also clocks region logic up to the new ROOT count, 12 after the first tick, which the tick of the timestamp
alone leaves at 0. -/
theorem not_stepRunsFrontCommand : ¬ Obligations.StepRunsFrontCommand := by
  unfold Obligations.StepRunsFrontCommand
  rintro ⟨-, -, h⟩
  have hstep := congrArg clockedAfter (h lockedState rfl (by decide))
  revert hstep
  decide

/-- Settles O4: the register file is empty after reset, so every field reads its reset value. -/
theorem resetState : Obligations.ResetState := by
  unfold Obligations.ResetState
  refine ⟨reset_inv, rfl, by decide, by decide, fun n => ?_, rfl, fun a => rfl, fun e he i j => ?_, fun f hf i j => hf⟩
  · show Sparse.get 0 [(0, 1)] n = _
    simp [Sparse.get, eq_comm]
  · have hrst : ∀ e ∈ resetNonzero, e.1.rst = e.2 := by decide
    exact hrst e he

end Sys2Proof.Machine
end

section
/-! SUPPORT. Clauses that say `d.mem = s.dev.mem` without `Inv s`: every outcome has canonical memory, so from a memory that is not
canonical no command keeps it as it is. -/

namespace Sys2Proof.Machine
open Sys2Proof.Machine.Reg

/-- What a command leaves has canonical memory. -/
theorem Leaves.canonical {c : Instr} {s : State} {d : Dev} (h : Leaves c s d) : Memory.wf d.mem = true := by
  obtain ⟨f, hf⟩ := exec_eq_runAll c s
  obtain ⟨e, he, hw⟩ := runAll_next s f
  have hde : Host.Outcome.next { s with dev := d } = Host.Outcome.next { s with dev := e } := h.symm.trans (hf.trans he)
  cases hde
  exact hw

/-- No command ends with the memory it found, where that is not canonical. -/
theorem not_ends_mem_kept {c : Instr} {s : State} {P : Dev → Prop} (hm : Memory.wf s.dev.mem = false)
    (hP : ∀ d, P d → d.mem = s.dev.mem) : ¬ Ends c s P := by
  rintro ⟨d, hd, hp⟩
  have hw := hd.canonical
  rw [hP d hp, hm] at hw
  cases hw

/-- A state with an entry in memory that says what an unlisted byte reads as. -/
def messy (d : Dev) : State := { dev := { d with mem := [(0, 0)] }, pending := [] }

/-- An AVS request waits for its acknowledgement. -/
def avsWaiting : Dev := { ({} : Dev).setF CLK_ROOT_LOCK 1 with clk := { avs := some (800, 0) } }

/-- Refutes O6: the last clause of AVS_TIMEOUT keeps memory as it is from any state, canonical or not. -/
theorem not_clockEvents : ¬ Obligations.ClockEvents := by
  unfold Obligations.ClockEvents
  rintro ⟨-, -, -, -, -, -, -, havs⟩
  exact not_ends_mem_kept rfl (fun d ⟨_, _, _, _, _, hmem⟩ => hmem) (havs (messy avsWaiting) 800 0 (by decide) rfl)

/-- PTP_PPS is an output. -/
def ppsDriving : Dev := (({} : Dev).setF CLK_ROOT_LOCK 1).setF TSC_PPS_OUT 1

/-- Refutes O9: the clause of PPS_OUT_PULSE keeps memory as it is from any state, canonical or not. -/
theorem not_clockLoopsAndTimestamp : ¬ Obligations.ClockLoopsAndTimestamp := by
  unfold Obligations.ClockLoopsAndTimestamp
  intro h
  iterate 25 replace h := h.2
  exact not_ends_mem_kept rfl (fun d ⟨_, _, _, _, hmem⟩ => hmem) (h.1 (messy ppsDriving) (by decide) (by decide) rfl (by decide))

/-- Link 0 is UP and a packet of pool 0 waits for its first flit. -/
def packetWaiting : Dev := { ({} : Dev).setF CPL_STATE 2 with cpl := { link := [(0, { txq := [(0, { msg := 0, dst := 0, src := 0 })] })] } }

/-- Refutes O54: the clause of a flit that is sent keeps memory as it is from any state, canonical or not. -/
theorem not_couplingLinks : ¬ Obligations.CouplingLinks := by
  unfold Obligations.CouplingLinks
  intro h
  iterate 8 replace h := h.2
  exact not_ends_mem_kept rfl (fun d ⟨_, _, _, _, _, _, hmem⟩ => hmem)
    (h.1 (messy packetWaiting) 0 0 (0, { msg := 0, dst := 0, src := 0 }) (by decide) rfl rfl (by decide) (by decide) rfl)

end Sys2Proof.Machine
end

section
/-! SUPPORT. A class S detection (R563). -/

namespace Sys2Proof.Machine
open Sys2Proof.Machine.Reg

/-- A class S cause pends since this MCLK, SAFE_N is low, engine 0 runs a list and HALT_CE is set. -/
def haltingDev : Dev :=
  { ((({} : Dev).setF SAF_S_PENDING 1).setF SAF_HALT_CE 1).setF CE_STATE 1 with safe := { low := true, sLast := some 0 } }

/-- Refutes O5: the clause of several detections in one MCLK keeps MGT_INT_STAT at every index, with no bound of 4 registers; the place of
index 0x33FFF9 is CE_STAT of engine 0 (0x600040 + 8 × 0x33FFF9 = 0x2000008), which HALT_CE halts. -/
theorem not_classSReaction : ¬ Obligations.ClassSReaction := by
  unfold Obligations.ClassSReaction
  rintro ⟨-, -, -, -, -, -, hout, -, -⟩
  have hkept := (hout haltingDev 0 (by decide) (by decide) (by decide)).2 0x33FFF9
  revert hkept
  decide

end Sys2Proof.Machine
end

section
/-! SUPPORT. What a clause says of the device that a step leaves, so that a clause is refuted by evaluating one part of that device. -/

namespace Sys2Proof.Machine
open Sys2Proof.Machine.Reg

/-- The device a step leaves. -/
def devAfter (r : Host.Outcome State Fault Refusal) : Dev :=
  match r with
  | .next t => t.dev
  | _ => {}

/-- What a command leaves is the device of its outcome. -/
theorem Leaves.after {c : Instr} {s : State} {d : Dev} (h : Leaves c s d) : devAfter (exec c s) = d := by
  rw [show exec c s = _ from h]
  rfl

/-- What a command gives has settled in its outcome. -/
theorem Gives.after {c : Instr} {s : State} {d : Dev} (h : Gives c s d) : devAfter (exec c s) = settle s d :=
  Leaves.after h

/-- What holds where a command ends holds of the device of its outcome. -/
theorem Ends.after {c : Instr} {s : State} {P : Dev → Prop} (h : Ends c s P) : P (devAfter (exec c s)) := by
  obtain ⟨d, hd, hp⟩ := h
  rw [hd.after]
  exact hp

end Sys2Proof.Machine
end

section
/-! SUPPORT. Resets by software, the stages of a load, the Keep bank and Fabric RAM: one clause of each says less than the model does. -/

namespace Sys2Proof.Machine
open Sys2Proof.Machine.Reg

/-- The core runs, the service port is up, and a count of the device's own for Keep word 3 waits although no write of a Keep word runs. -/
def ownWaiting : Dev :=
  { ({} : Dev).setF CLK_ROOT_LOCK 1 with svc := { up := true }, keep := { queue := [{ path := .csrSet, word := 3, data := 0, own := true }] } }

/-- Refutes O8: the clause of SYS keeps every Keep word, with no premise on the writes that wait; a count that waits while none runs is
carried out by the reset, so Keep word 3 reads 1 more. -/
theorem not_resetsBySoftware : ¬ Obligations.ResetsBySoftware := by
  unfold Obligations.ResetsBySoftware
  rintro ⟨-, hsys, -⟩
  obtain ⟨-, -, hkeep⟩ := (hsys { dev := ownWaiting, pending := [] } .servicePort 0xC1A5000000000001
    (by decide) (by decide) (by decide) (by decide) rfl).after
  have hword := hkeep 3
  revert hword
  decide +kernel

/-- An image's header whose SYNC_TIMEOUT is 1. -/
def syncHdr : Hdr :=
  { secVersion := 0, stageA := 0, flags := 0, syncTimeout := 1, pkIndex := 0, keySlot := 0, pubkey := 0, wrapped := 0, flash := {}, sects := [] }

/-- SYNC_WAIT holds, with a SYNC_TIMEOUT of 1, and CFG_DONE reads high. -/
def syncHigh : Dev :=
  { ((({} : Dev).setF CLK_ROOT_LOCK 1).setF CFG_STATE 4).setF CFG_DONE_PIN 1 with load := { hdr := some syncHdr } }

/-- Refutes O13: the clause of SYNC_TIMEOUT leaves CFG_DONE as it was, where the failure that the timeout is drives it low. -/
theorem not_loadStages : ¬ Obligations.LoadStages := by
  unfold Obligations.LoadStages
  intro h
  iterate 6 replace h := h.2
  have hpin := congrArg (fun d : Dev => d.fld CFG_DONE_PIN) (h.1 { dev := syncHigh, pending := [] } _ rfl (by decide)).after
  revert hpin
  decide

/-- A replay run is active; region 0 runs and may use the CSR path of its ring gate. -/
def replaying : Dev :=
  { ((({} : Dev).setF CLK_ROOT_LOCK 1).setF REP_STATE 3).setF RG_CSR_EN 1 with load := { bDone := true, loaded := [(0, true)] } }

/-- Refutes O15: the clause of a KEEP_READ that finds an uncorrectable word says only that KEEP_UE is written; in a replay run the class D
detection ends the run too, so STATE is no longer RUN. -/
theorem not_keepBank : ¬ Obligations.KeepBank := by
  unfold Obligations.KeepBank
  intro h
  iterate 11 replace h := h.2
  have hstate := congrArg (fun d : Dev => d.fld REP_STATE) (h { dev := replaying, pending := [] } (.fabric 0) 8 (by decide)).after
  revert hstate
  decide +kernel

/-- A colony run of two devices is active; links 0 and 1 are UP, and a push to device 1 waits for its completions. -/
def colonyReplaying : Dev :=
  { ((((replaying.setF COL_NCOL_M1 1).setF CPL_STATE 2).setF CPL_STATE 2 1).setF CPL_MEMBER 3) with
    cpl := { xfers := [{ stop := 0, tag := 0, pull := false, dev := 1, dev2 := 1, len := 256, begun := 0, rid := 0, rtag := 0 }] } }

/-- Refutes O18: the clause of an uncorrectable FABRIC_RAM_READ answers nothing but the read; in a colony run the uncorrectable error ends
the run and its links train again, so the transfer with the device behind them is answered too. -/
theorem not_fabricRamAndQueues : ¬ Obligations.FabricRamAndQueues := by
  unfold Obligations.FabricRamAndQueues
  intro h
  iterate 3 replace h := h.2
  have hout := congrArg List.length
    (h.1 { dev := colonyReplaying, pending := [] } 0 0 rfl (by decide) (by decide) (by decide) (by decide)).after.2.2.2
  revert hout
  decide +kernel

end Sys2Proof.Machine
end

section
/-! SUPPORT. Clauses that fail from a register file that holds more than a field's width: the statement takes any state, and a field that a
command writes back keeps its low bits alone. -/

namespace Sys2Proof.Machine
open Sys2Proof.Machine.Reg

/-- The service port is up, and the one-bit field SAF_LOCK stands at 2. -/
def wideLock : Dev :=
  { csr := [(CLK_ROOT_LOCK.key 0 0, 1), (SAF_LOCK.key 0 0, 2)], svc := { up := true } }

/-- Refutes O47: the clause of a write of 0 keeps the flag SAF_LOCK from any register file; where the field stands at 2, which reads as set,
the write leaves its low bit, 0. -/
theorem not_safePinAndLock : ¬ Obligations.SafePinAndLock := by
  unfold Obligations.SafePinAndLock
  intro h
  iterate 8 replace h := h.2
  obtain ⟨hlock, -⟩ := (h.1 { dev := wideLock, pending := [] } .servicePort (by decide) (by decide) rfl).after
  revert hlock
  decide +kernel

end Sys2Proof.Machine
end

section
/-! SUPPORT. Answers: the answer that a command gives is delivered in the same step, and a ring gate hands it on to its region. -/

namespace Sys2Proof.Machine
open Sys2Proof.Machine.Reg

/-- Region 0 runs and may use the CSR path of its ring gate, at which request 0 of region logic is open in slot 0. -/
def gateOpen : Dev :=
  { (({} : Dev).setF CLK_ROOT_LOCK 1).setF RG_CSR_EN 1 with
    load := { bDone := true, loaded := [(0, true)] }
    fab := { gate := [(0, { out := [{ slot := 0, tag := 0, read := true }] })] } }

/-- Refutes O27: the clause of a read of GLB_ID says that its answer is the only output; the gate hands the answer on to region logic at
once, which is a second one. -/
theorem not_annulusRequests : ¬ Obligations.AnnulusRequests := by
  unfold Obligations.AnnulusRequests
  intro h
  iterate 18 replace h := h.2
  obtain ⟨hout, -⟩ := (h.1 { dev := gateOpen, pending := [] } ⟨8, 0, 0⟩ 0 rfl (by decide) (by decide) (by decide) (by decide)).after
  have hone := congrArg List.length hout
  revert hone
  decide +kernel

end Sys2Proof.Machine
end

section
/-! SUPPORT. Vector instructions: clauses that fail in a replay run, whose timestamp is the run time, and where the second operand is an
immediate, so that no register is read. -/

namespace Sys2Proof.Machine
open Sys2Proof.Machine.Reg

/-- A replay run is active at run time 5, with the timestamp at 0; group 0 of tile 0 runs thread 0. -/
def tsGroup : Dev :=
  { ((({} : Dev).setF CLK_ROOT_LOCK 1).setF REP_STATE 3).setF REP_RT 5 with
    load := { bDone := true }, tile := [(0, { groups := [(0, { st := 1, active := 1 })] })] }

/-- A conversion of INT32 to INT32 from register 28, the timestamp, to register 0. -/
def cvtTs : VI := ⟨0, 0, 0, 0, 28, 0, 0, 0, false, false, 0x55, .clean⟩

/-- Refutes O40: the clause of CVT reads the timestamp register as the timestamp itself; in a run it reads as the run time. -/
theorem not_floatAndConvert : ¬ Obligations.FloatAndConvert := by
  unfold Obligations.FloatAndConvert
  intro h
  iterate 12 replace h := h.2
  have hreg := congrArg (fun d : Dev => (d.iGrp cvtTs).reg 0 0 0 0 0)
    (h.1 { dev := tsGroup, pending := [] } cvtTs (by decide) (by decide) (by decide) (by decide)).after
  revert hreg
  decide +kernel

/-- Group 0 of tile 0 runs thread 0. -/
def oneGroup : Dev :=
  { ({} : Dev).setF CLK_ROOT_LOCK 1 with
    load := { bDone := true }, tile := [(0, { groups := [(0, { st := 1, active := 1 })] })] }

/-- A TRAP whose cause is an immediate; the register file reports a single-bit error. -/
def trapImm : VI := ⟨0, 0, 0, 0, 0, 0, 0, 0, false, true, 0, .single⟩

/-- Refutes O43: the clause of TRAP counts the register file's single-bit error; a TRAP with an immediate reads no register and counts
none. -/
theorem not_vectorFlow : ¬ Obligations.VectorFlow := by
  unfold Obligations.VectorFlow
  intro h
  iterate 13 replace h := h.2
  have hcount := congrArg (fun d : Dev => d.fld VX_REG_CE 0)
    (h.1 { dev := oneGroup, pending := [] } trapImm (by decide) (by decide) (by decide)).after
  revert hcount
  decide +kernel

/-- Tile 0 has one active copy, of 64 bytes, which counts no arrival; arrival counter 0 stands at 2^32. -/
def uncounted : Dev :=
  { ({} : Dev).setF CLK_ROOT_LOCK 1 with
    load := { bDone := true }
    tile := [(0, { arrived := [(0, 2 ^ 32)]
                   copyOn := [{ src := tileAddr 0 0, dst := tileAddr 0 256, len := 64, rows := 1, sstride := 0, dstride := 0, ctr := 0,
                                count := false, transpose := false, elem := 0, desc := 0 }] })] }

/-- Refutes O42: the clause of COPY_DONE wraps ARRIVED to 32 bits even where the copy counts no arrival; such a copy leaves the counter as it
is, here at 2^32. -/
theorem not_vectorAsync : ¬ Obligations.VectorAsync := by
  unfold Obligations.VectorAsync
  intro h
  iterate 14 replace h := h.2
  obtain ⟨-, -, -, harrived⟩ := (h.1 { dev := uncounted, pending := [] } 0 _ (by decide) (by decide) rfl (by decide)).after
  revert harrived
  decide +kernel

end Sys2Proof.Machine
end

section
/-! SUPPORT. Safety, probes and management: clauses that fail where held requests are released, where a field stands beyond its codes, where
the state itself holds a probed level, and where a Keep write of the same path still waits. -/

namespace Sys2Proof.Machine
open Sys2Proof.Machine.Reg

/-- The self-test has not yet passed; a handover of tile 0 runs and holds a write of its SRAM. -/
def heldWrite : Dev :=
  { ({} : Dev).setF CLK_ROOT_LOCK 1 with
    safe := { handover := some { out := 0, ltile := 0, begun := 0 }
              heldReq := [{ q := ⟨0, 0, 0⟩, addr := tileAddr 0 0, len := 1, wr := some [some 1], noalloc := false, first := false, count := none }] } }

/-- Refutes O45: the clause of a passed self-test keeps memory; it also ends a handover, and the write that this one held goes ahead. -/
theorem not_witnessRotation : ¬ Obligations.WitnessRotation := by
  unfold Obligations.WitnessRotation
  intro h
  obtain ⟨-, -, -, -, -, -, -, -, -, hmem, -⟩ := (h.1 { dev := heldWrite, pending := [] } (by decide) (by decide) rfl (by decide) (by decide)).after
  revert hmem
  decide +kernel

/-- The service port is up; SGD_MODE of channel 0 stands at 6, a code of no mode. -/
def oddMode : Dev :=
  { csr := [(CLK_ROOT_LOCK.key 0 0, 1), (SGD_MODE.key 0 0, 6), (SGD_NSLOT.key 0 0, 1)], svc := { up := true } }

/-- Refutes O46: the clause of a channel that is OFF takes every SGD_MODE that 3 divides as OFF; with the field at 6, which only a register
file beyond the field's width holds, the doorbell is queued. -/
theorem not_wicksAndChannels : ¬ Obligations.WicksAndChannels := by
  unfold Obligations.WicksAndChannels
  intro h
  iterate 14 replace h := h.2
  have hsgd := congrArg (·.sgd) (h.1 { dev := oddMode, pending := [] } 0 .servicePort 0 (by decide) (by decide) (by decide)).after
  revert hsgd
  decide +kernel

/-- The probe pin 0 shows signal 3 of source 8, SAFE_N. -/
def safeProbed : Dev :=
  (((((({} : Dev).setF CLK_ROOT_LOCK 1).setF PRB_PIN_EN 1).setF PRB_SEL_EN 1).setF PRB_SEL_SRC 8).setF PRB_SEL_SIGNAL 3)

/-- Refutes O52: the clause of PROBE_SAMPLE takes every selected level from the sample; SAFE_N is a level that the device itself holds, here
low while the sample has it high. -/
theorem not_telemetryProbesAudit : ¬ Obligations.TelemetryProbesAudit := by
  unfold Obligations.TelemetryProbesAudit
  rintro ⟨-, h, -⟩
  have hpin := (h { dev := safeProbed, pending := [] } 1 0 (by decide) (by decide) (by decide) (by decide)).after 0 (by decide)
  revert hpin
  decide +kernel

/-- A write of a Keep word by the SMBus target waits; its CSR_ADDR stands at EMB_USER. -/
def smbKeepWaiting : Dev :=
  { ({} : Dev).setF CLK_ROOT_LOCK 1 with
    keep := { queue := [{ path := .smbus, word := 8, data := 0 }] }
    mgt := { smbAddr := 0x300080 } }

/-- Refutes O50: the clause of CSR_READ answers at once; while a Keep write of the SMBus target waits, its read waits behind that. -/
theorem not_smbusCommands : ¬ Obligations.SmbusCommands := by
  unfold Obligations.SmbusCommands
  intro h
  iterate 7 replace h := h.2
  have hread := congrArg (fun d : Dev => d.mgt.smbRead)
    (h.1 { dev := smbKeepWaiting, pending := [] } 0 (by decide) (by decide) (by decide) rfl rfl rfl rfl (by decide) (by decide)).after
  revert hread
  decide +kernel

/-- A write of a Keep word by the TAP waits; the TAP may use its CSR path. -/
def tapKeepWaiting : Dev :=
  { (({} : Dev).setF CLK_ROOT_LOCK 1).setF MGT_CSR_EN 1 with
    keep := { queue := [{ path := .jtag, word := 8, data := 0 }] } }

/-- Refutes O51: the clause of a read through the TAP sets DONE at once; while a Keep write of the TAP waits, its read waits behind that. -/
theorem not_tapAndUart : ¬ Obligations.TapAndUart := by
  unfold Obligations.TapAndUart
  intro h
  iterate 5 replace h := h.2
  have hdone := congrArg (fun d : Dev => d.mgt.jtagDone)
    (h.1 { dev := tapKeepWaiting, pending := [] } 0 (by decide) (by decide) rfl (by decide) rfl (by decide) (by decide) rfl (by decide)).after
  revert hdone
  decide +kernel

end Sys2Proof.Machine
end

section
/-! SUPPORT. Ports, colony and replay: clauses that fail for a die fed from its rings, for a lock request of the service port and for a clock
divider of 0. -/

namespace Sys2Proof.Machine
open Sys2Proof.Machine.Reg

/-- A replay run feeds die 0, in ROOT mode, from its rings; region 0 runs and may use its CSR path. -/
def rootFed : Dev :=
  { (((((({} : Dev).setF CLK_ROOT_LOCK 1).setF REP_STATE 3).setF REP_ROLE 2).setF REP_RING 1).setF RG_CSR_EN 1).setF DIE_PD_UP 1 with
    load := { aDone := true, bDone := true, loaded := [(0, true)] }
    prt := [(0, { eff := [(PC_MODE.key 0 0, 1)] })] }

/-- Refutes O49: the clause of CFGREQ_GO lets the request leave; a die that is fed from its rings sends nothing. -/
theorem not_portTraffic : ¬ Obligations.PortTraffic := by
  unfold Obligations.PortTraffic
  intro h
  iterate 9 replace h := h.2
  obtain ⟨-, -, hout, -⟩ :=
    (h.1 { dev := rootFed, pending := [] } 0 (.fabric 0) (by decide) (by decide) (by decide) (by decide) (by decide) (by decide)).after
  have hlen := congrArg List.length hout
  revert hlen
  decide +kernel

/-- An answer to the service port's lock request, which waits, has arrived on link 0. -/
def portLockAnswered : Dev :=
  { ({} : Dev).setF CLK_ROOT_LOCK 1 with
    cpl := { link := [(0, { rxq := [(2, { msg := 5, dst := 0, src := 0, tag := 2048, reqid := 944 })] })]
             locks := [{ rid := 944, tag := 2048, lock := 0, op := 0 }] } }

/-- Refutes O55: the clause of LOCK_RES answers the requester alone; an answer to the service port's lock registers also sets ANN_SPL_DONE. -/
theorem not_colonyMembers : ¬ Obligations.ColonyMembers := by
  unfold Obligations.ColonyMembers
  intro h
  iterate 9 replace h := h.2
  have hdone := congrArg (fun d : Dev => d.fld ANN_SPL_DONE)
    (h.1 { dev := portLockAnswered, pending := [] } 0 0 _ _ (by decide) rfl rfl rfl rfl).after
  revert hdone
  decide +kernel

/-- A run is set up; the first FCLK divider is 0, so that the run's period P is 0 too. -/
def noClock : Dev :=
  { (({} : Dev).setF CLK_ROOT_LOCK 1).setF REP_STATE 2 with
    load := { bDone := true }
    clk := { fclk := [0], root := 12 } }

/-- Refutes O56: the clause of REP_START has the run start at a multiple of P; with a divider of 0 no ROOT count past 0 is one. -/
theorem not_exactReplay : ¬ Obligations.ExactReplay := by
  unfold Obligations.ExactReplay
  intro h
  iterate 5 replace h := h.2
  obtain ⟨-, -, -, -, -, -, -, -, -, hroot⟩ := (h.1 { dev := noClock, pending := [] } (by decide) (by decide) (by decide) rfl rfl (by decide)).after
  revert hroot
  decide +kernel

end Sys2Proof.Machine
end

section
/-! SUPPORT. Command engines: clauses that fail for a swap, in a run and at the END of the list that is to be swapped out. -/

namespace Sys2Proof.Machine
open Sys2Proof.Machine.Reg

/-- A run is active and engine 0 runs; CE_SWAP_AT stands at 0. -/
def swapInRun : Dev :=
  { (((({} : Dev).setF CLK_ROOT_LOCK 1).setF REP_STATE 3).setF RG_CSR_EN 1).setF CE_STATE 1 with
    load := { bDone := true, loaded := [(0, true)] } }

/-- Refutes O57: the clause of SWAP_GO makes the swap pending; in a run a GO with AT = 0 is refused. -/
theorem not_engineLists : ¬ Obligations.EngineLists := by
  unfold Obligations.EngineLists
  intro h
  iterate 13 replace h := h.2
  have hpending := congrArg (fun d : Dev => d.flag CE_SWAP_PENDING 0)
    (h.1 { dev := swapInRun, pending := [] } 0 (.fabric 0) (by decide) (by decide) (by decide)).after
  revert hpending
  decide +kernel

/-- A list with one command left, END. -/
def endList : CList := { id := 0, start := 0, next := 0, queue := 0, compl := 0, user := 0, buf := 1 :: 0 :: 255 :: List.replicate 61 0 }

/-- Engine 0 stands inside that list, before its END, and a swap is due. -/
def swapAtEnd : Dev :=
  { ((({} : Dev).setF CLK_ROOT_LOCK 1).setF CE_STATE 1).setF CE_SWAP_PENDING 1 with
    load := { bDone := true }
    eng := [(0, { run := some endList, seam := false })] }

/-- Refutes O58: the clause of END ends the list and no more; where a swap is due the engine also notes which list it is that the swap
replaces. -/
theorem not_engineCommands : ¬ Obligations.EngineCommands := by
  unfold Obligations.EngineCommands
  rintro ⟨-, h, -⟩
  have hseam := congrArg (fun d : Dev => (d.engOf 0).endSeam)
    (h { dev := swapAtEnd, pending := [] } 0 endList 0xFF0001 ⟨by decide +kernel, by decide, by decide +kernel⟩).after
  revert hseam
  decide +kernel

end Sys2Proof.Machine
end

section
/-! SUPPORT. From what a command's function makes of the device to the outcome of the command: the gates in front of it are open, or shut. -/

namespace Sys2Proof.Machine
open Sys2Proof.Machine.Reg

@[simp] theorem whenLive_of_live {d : Dev} (f : Dev → Dev) (h : d.live = true) : whenLive f d = f d := if_pos h
@[simp] theorem whenReleased_of_released {d : Dev} (f : Dev → Dev) (h : d.released = true) : whenReleased f d = f d := if_pos h

section
variable {c : Instr} {s : State} {f : Dev → Dev} {d : Dev}

/-- A command gives what its effect makes of the fresh device. -/
theorem Gives.of_eq (hc : exec c s = runAll s f) (hf : f s.fresh = d) : Gives c s d := hc.trans (runAll_gives hf)

/-- So it does while the core runs, where it acts then alone. -/
theorem Gives.of_live (hc : exec c s = runAll s (whenLive f)) (hl : s.dev.live = true) (hf : f s.fresh = d) : Gives c s d :=
  .of_eq hc ((whenLive_of_live f (d := s.fresh) hl).trans hf)

/-- And while the core is released. -/
theorem Gives.of_released (hc : exec c s = runAll s (whenReleased f)) (hl : s.dev.released = true) (hf : f s.fresh = d) : Gives c s d :=
  .of_eq hc ((whenReleased_of_released f (d := s.fresh) hl).trans hf)

/-- A command whose effect is none leaves the device as it was, the outputs of the step before gone. -/
theorem Leaves.of_idle (hi : Inv s) (hc : exec c s = runAll s f) (hf : f s.fresh = s.fresh) : Leaves c s s.fresh :=
  hc.trans (runAll_keep hf rfl rfl rfl rfl rfl hi.mem)

/-- The same where the command acts while the core runs alone: running or not, it has no effect. -/
theorem Leaves.of_live_idle (hi : Inv s) (hc : exec c s = runAll s (whenLive f)) (hf : f s.fresh = s.fresh) : Leaves c s s.fresh :=
  .of_idle hi hc (by unfold whenLive; split <;> [exact hf; rfl])

theorem Leaves.of_released_idle (hi : Inv s) (hc : exec c s = runAll s (whenReleased f)) (hf : f s.fresh = s.fresh) : Leaves c s s.fresh :=
  .of_idle hi hc (by unfold whenReleased; split <;> [exact hf; rfl])

end

/-! ## Effects that nothing follows from -/

@[simp] theorem Dev.handover_driveSafeN (d : Dev) : d.driveSafeN.safe.handover = d.safe.handover := by
  unfold Dev.driveSafeN
  split <;> rfl

@[simp] theorem Dev.handover_firstCause (d : Dev) (ev : Nat) : (d.firstCause ev).safe.handover = d.safe.handover := rfl

@[simp] theorem Dev.handover_reactS (d : Dev) (ev : Nat) : (d.reactS ev).safe.handover = d.safe.handover := by
  unfold Dev.reactS
  simp only [apply_ite Dev.safe, Dev.uart_safe, Dev.msix_safe, Dev.haltEngines_safe, Dev.handover_driveSafeN, Dev.setF_safe,
    Dev.handover_firstCause, ite_self]

/-- An event is no end of a handover. -/
@[simp] theorem Dev.handover_logEv (d : Dev) (ev : Nat) (c : Cls) (n : Nat) (l : List DF) (o : Bool) :
    (d.logEv ev c n l o).safe.handover = d.safe.handover := by
  unfold Dev.logEv
  cases c <;> simp only [Dev.handover_reactS, Dev.repAbort_safe, Dev.post_safe] <;> split <;> rfl

/-- From `d` to `e` nothing has changed that others wait for, no answer has left, no run has ended and memory is as it was. -/
structure Dev.Calm (d e : Dev) : Prop where
  mem : e.mem = d.mem
  cpl : e.cpl = d.cpl
  handover : e.safe.handover = d.safe.handover
  cel : e.cel = d.cel
  plain : d.plainOut = true → e.plainOut = true
  rep : e.fld REP_STATE = d.fld REP_STATE

namespace Dev.Calm

section
variable {d e : Dev}

theorem refl (d : Dev) : Dev.Calm d d := ⟨rfl, rfl, rfl, rfl, id, rfl⟩

theorem trans {g : Dev} (h : Dev.Calm d e) (k : Dev.Calm e g) : Dev.Calm d g :=
  ⟨k.mem.trans h.mem, k.cpl.trans h.cpl, k.handover.trans h.handover, k.cel.trans h.cel, fun p => k.plain (h.plain p), k.rep.trans h.rep⟩

/-- A register write other than of the state of a replay run. -/
theorem setF (h : Dev.Calm d e) {f : Fld} {i j : Nat} (v : Nat) (hk : REP_STATE.key 0 0 ≠ f.key i j) : Dev.Calm d (e.setF f v i j) :=
  ⟨h.mem, h.cpl, h.handover, h.cel, h.plain, (Dev.fld_setF_ne e v hk).trans h.rep⟩

theorem inc (h : Dev.Calm d e) {f : Fld} {i j : Nat} (n : Nat) (hk : REP_STATE.key 0 0 ≠ f.key i j) : Dev.Calm d (e.inc f n i j) := h.setF _ hk

theorem raise (h : Dev.Calm d e) {f : Fld} {i j : Nat} (b : Nat) (hk : REP_STATE.key 0 0 ≠ f.key i j) : Dev.Calm d (e.raise f b i j) :=
  ⟨h.mem, h.cpl, h.handover, h.cel, h.plain, (Dev.fld_setBit_ne e b true hk).trans h.rep⟩

/-- An entry that is not of class S. -/
theorem logEv (h : Dev.Calm d e) {ev : Nat} {c : Cls} {n : Nat} {l : List DF} {o : Bool} (hc : c ≠ .S) : Dev.Calm d (e.logEv ev c n l o) :=
  h.trans ⟨by simp, by simp, by simp, by simp, fun p => by simpa using p, Dev.repState_logEv e ev c n l o fun hs => absurd hs hc⟩

theorem msix (h : Dev.Calm d e) (v : Nat) : Dev.Calm d (e.msix v) :=
  h.trans ⟨by simp, by simp, by simp, by simp, fun p => by simpa using p, Dev.repState_msix e v⟩

theorem emit (h : Dev.Calm d e) {o : Out} (ho : o.plain = true) : Dev.Calm d (e.emit o) :=
  h.trans ⟨rfl, rfl, rfl, rfl, fun p => by simp [p, ho], rfl⟩

theorem csrAccess (h : Dev.Calm d e) (off w p c : Nat) : Dev.Calm d (e.csrAccess off w p c) := h.logEv (by decide)

theorem setTile (h : Dev.Calm d e) (n : Nat) (x : Tile) : Dev.Calm d (e.setTile n x) := ⟨h.mem, h.cpl, h.handover, h.cel, h.plain, h.rep⟩
theorem setEng (h : Dev.Calm d e) (n : Nat) (x : Eng) : Dev.Calm d (e.setEng n x) := ⟨h.mem, h.cpl, h.handover, h.cel, h.plain, h.rep⟩
theorem setHbm (h : Dev.Calm d e) (n : Nat) (x : Hbm) : Dev.Calm d (e.setHbm n x) := ⟨h.mem, h.cpl, h.handover, h.cel, h.plain, h.rep⟩
theorem setPrt (h : Dev.Calm d e) (n : Nat) (x : Prt) : Dev.Calm d (e.setPrt n x) := ⟨h.mem, h.cpl, h.handover, h.cel, h.plain, h.rep⟩
theorem setQc (h : Dev.Calm d e) (n : Nat) (x : Qc) : Dev.Calm d (e.setQc n x) := ⟨h.mem, h.cpl, h.handover, h.cel, h.plain, h.rep⟩
theorem setGate (h : Dev.Calm d e) (n : Nat) (x : Gate) : Dev.Calm d (e.setGate n x) := ⟨h.mem, h.cpl, h.handover, h.cel, h.plain, h.rep⟩

theorem ite {g : Dev} {p : Prop} [Decidable p] (h : Dev.Calm d e) (k : Dev.Calm d g) : Dev.Calm d (if p then e else g) := by
  split
  · exact h
  · exact k

theorem foldl {α : Type} {f : Dev → α → Dev} (h : Dev.Calm d e) (hf : ∀ g a, Dev.Calm g (f g a)) (l : List α) : Dev.Calm d (l.foldl f e) := by
  induction l generalizing e with
  | nil => exact h
  | cons a r ih => exact ih (h.trans (hf e a))

end

end Dev.Calm

section
variable {c : Instr} {s : State} {f : Dev → Dev} {d : Dev}

/-- A calm effect is the outcome. -/
theorem Leaves.of_calm (hi : Inv s) (hc : exec c s = runAll s f) (hf : f s.fresh = d) (hk : s.fresh.Calm d) : Leaves c s d :=
  hc.trans (runAll_keep hf hk.cpl hk.handover hk.cel (hk.plain rfl) hk.rep (hk.mem.symm ▸ hi.mem))

theorem Ends.of_calm {P : Dev → Prop} (hi : Inv s) (hc : exec c s = runAll s f) (hf : f s.fresh = d) (hk : s.fresh.Calm d) (hP : P d) : Ends c s P :=
  ⟨d, .of_calm hi hc hf hk, hP⟩

end

end Sys2Proof.Machine
end

section
/-! SUPPORT. Block transfers (chapter 18): what each end of a transfer does, case by case. -/

namespace Sys2Proof.Machine
open Sys2Proof.Machine.Reg

/-! ## Requests of the device's own units -/

section
variable {d : Dev} {rid rtag src dst len v o : Nat} {count copy : Option Nat}

/-- A push whose remote end is refused. -/
theorem Dev.rpush_refused (hp : placeOf dst = .remote v o) (he : d.remoteEnd dst len ≠ 0) :
    d.rpush rid rtag src dst len count copy = d.xferRefuse rid rtag (d.remoteEnd dst len) dst len := by
  simp [Dev.rpush, hp, he]

/-- A push whose own end is refused. -/
theorem Dev.rpush_source_refused (hp : placeOf dst = .remote v o) (he : d.remoteEnd dst len = 0) (hs : d.stopStatus src len ≠ 0) :
    d.rpush rid rtag src dst len count copy = d.xferRefuse rid rtag (d.stopStatus src len) src len := by
  simp [Dev.rpush, hp, he, hs]

/-- A push to another member: its source is read piece by piece. -/
theorem Dev.rpush_member (hp : placeOf dst = .remote v o) (hv : d.isSelf v = false) (he : d.remoteEnd dst len = 0) (hs : d.stopStatus src len = 0) :
    d.rpush rid rtag src dst len count copy =
      (let r := d.readPieces (rid / 16) (xferPieces src len) [] []
       if r.2.2.1 ≠ 0 ∧ r.2.2.1 ≠ 6 then r.2.2.2.emit (.resp rid rtag r.2.2.1 []) else r.2.2.2.startPush rid rtag v o r.1 r.2.1 count copy) := by
  simp [Dev.rpush, hp, hv, he, hs]

/-- The worse of a status and OK is that status. -/
@[simp] theorem worse_zero (a : Nat) : worse a 0 = a := by
  unfold worse
  split <;> simp_all
@[simp] theorem zero_worse (a : Nat) : worse 0 a = a := rfl

/-- A push to the device itself whose source reads well: a copy. -/
theorem Dev.rpush_self (hp : placeOf dst = .remote v o) (hv : d.isSelf v = true) (he : d.remoteEnd dst len = 0) (hs : d.stopStatus src len = 0)
    (hr : (d.accRead (rid / 16) src len).1 = 0) :
    d.rpush rid rtag src dst len none copy =
      (let r := d.accRead (rid / 16) src len
       let w := r.2.2.accWrite (rid / 16) dst (allOn r.2.1)
       w.2.emit (.resp rid rtag w.1 [])) := by
  simp [Dev.rpush, hp, hv, he, hs, hr]

/-- A pull whose source is refused. -/
theorem Dev.rpull_refused (hp : placeOf src = .remote v o) (he : d.remoteEnd src len ≠ 0) :
    d.rpull rid rtag src dst len copy = d.xferRefuse rid rtag (d.remoteEnd src len) src len := by
  simp [Dev.rpull, hp, he]

/-- An address with an offset in the colony map is no remote one. -/
theorem placeOf_ne_remote_of_offsetOf {a t : Nat} (h : offsetOf a = some t) (v o : Nat) : placeOf a ≠ .remote v o := by
  intro hp
  simp [offsetOf, hp] at h

/-- A pull from another member into this device. -/
theorem Dev.rpull_member {t : Nat} (hp : placeOf src = .remote v o) (hv : d.isSelf v = false) (he : d.remoteEnd src len = 0)
    (ht : offsetOf dst = some t) (hs : d.stopStatus dst len = 0) :
    d.rpull rid rtag src dst len copy = d.startPull rid rtag v o len (colonyAddr d.selfId t) d.selfId false copy := by
  have hne := placeOf_ne_remote_of_offsetOf ht
  cases hd : placeOf dst with
  | remote v' o' => exact absurd hd (hne v' o')
  | _ => simp [Dev.rpull, hp, hv, he, hd, hs, ht]

end

/-! ## Packets of the links -/

/-- Taking a packet out of its buffer changes that buffer's link alone. -/
theorem Dev.pktTake_eq (d : Dev) (k b : Nat) : ∃ l, d.pktTake k b = { d with cpl := { d.cpl with link := l } } := by
  unfold Dev.pktTake
  split
  · exact ⟨_, rfl⟩
  · exact ⟨_, rfl⟩

@[simp] theorem Dev.pktTake_xfers (d : Dev) (k b : Nat) : (d.pktTake k b).cpl.xfers = d.cpl.xfers := by
  obtain ⟨l, hl⟩ := d.pktTake_eq k b
  rw [hl]
@[simp] theorem Dev.pktTake_pullOn (d : Dev) (k b : Nat) : (d.pktTake k b).cpl.pullOn = d.cpl.pullOn := by
  obtain ⟨l, hl⟩ := d.pktTake_eq k b
  rw [hl]
@[simp] theorem Dev.pktTake_selfId (d : Dev) (k b : Nat) : (d.pktTake k b).selfId = d.selfId := by
  obtain ⟨l, hl⟩ := d.pktTake_eq k b
  rw [hl]
  rfl

section
variable {d : Dev} {k vc : Nat} {p : CPkt}

/-- A push of another member's transfer, its place found. -/
theorem Dev.takePush_other (hp : d.pktFor k vc 1 = some p) (hh : d.offHeld p.addr = false) (hx : d.pullOf p = none) (hf : bitAt p.flags 3 = false) :
    d.takePush k vc =
      (let w := Dev.takePush.write (d.pktTake k (4 + vc)) k p
       w.2.pktTo { msg := 3, dst := p.src, src := w.2.selfId, status := w.1, len := p.len, tag := p.tag, reqid := p.reqid, ts := w.2.now }) := by
  unfold Dev.pullOf at hx
  simp [Dev.takePush, hp, hh, hx, hf]

/-- A last packet that nothing waits for. -/
theorem Dev.takePush_late (hp : d.pktFor k vc 1 = some p) (hh : d.offHeld p.addr = false) (hx : d.pullOf p = none) (hf : bitAt p.flags 3 = true) :
    d.takePush k vc = (d.pktTake k (4 + vc)).inc CPL_LATE := by
  unfold Dev.pullOf at hx
  simp [Dev.takePush, hp, hh, hx, hf]

/-- The writes of a packet that carries no flag. -/
theorem Dev.takePush_write_plain {a : Nat} (hf : p.flags = 0) (ha : remoteOffset p.addr = some a) :
    Dev.takePush.write d k p = d.accWrite (cplStop k) a (allOn p.data) := by
  unfold Dev.takePush.write
  rw [ha]
  dsimp only
  obtain ⟨st, e⟩ := d.accWrite (cplStop k) a (allOn p.data)
  by_cases hst : st = 0
  · cases hpl : placeOf a <;> simp [hf, bitAt, hst]
  · simp [hst]

/-- The last packet of a pull, without data, ends it. -/
theorem Dev.takePush_final {x : Xfer} (hp : d.pktFor k vc 1 = some p) (hh : d.offHeld p.addr = false) (hx : d.pullOf p = some x) (hf : p.flags = 9)
    (hn : p.len = 0) (hr : x.resp = none) :
    d.takePush k vc = (let d := d.pktTake k (4 + vc)
      Dev.emit { d with cpl := { d.cpl with xfers := d.cpl.xfers.filter fun y => !(y.stop == x.stop && y.tag == x.tag) } }
        (.resp x.rid x.rtag (worse x.status p.status) [])) := by
  unfold Dev.pullOf at hx
  have hfin : bitAt p.flags 3 = true := by rw [hf]; decide
  simp [Dev.takePush, hp, hh, hx, hfin, hn, hr, Dev.xferEnd]

/-- A request to be pulled from is served while the link stop has a place. -/
theorem Dev.takePull_served (hp : d.pktFor k vc 2 = some p) (hh : d.offHeld p.addr = false) (hn : d.pullsOn k < 16) :
    d.takePull k vc = (d.pktTake k vc).servePull k p := by
  unfold Dev.pullsOn at hn
  simp [Dev.takePull, hp, hh, hn]

/-- It is queued while sixteen are served. -/
theorem Dev.takePull_queued (hp : d.pktFor k vc 2 = some p) (hh : d.offHeld p.addr = false) (hn : 16 ≤ d.pullsOn k) (hq : d.pullsQueued k < 64) :
    d.takePull k vc = (let d := d.pktTake k vc; { d with cpl := { d.cpl with pullQ := d.cpl.pullQ ++ [(k, { req := p })] } }) := by
  unfold Dev.pullsOn at hn
  unfold Dev.pullsQueued at hq
  simp [Dev.takePull, hp, hh, Nat.not_lt.mpr hn, hq]

/-- With sixty-four queued it stays where it is. -/
theorem Dev.takePull_stays (hn : 16 ≤ d.pullsOn k) (hq : 64 ≤ d.pullsQueued k) : d.takePull k vc = d := by
  unfold Dev.pullsOn at hn
  unfold Dev.pullsQueued at hq
  cases hp : d.pktFor k vc 2 <;> simp [Dev.takePull, hp, Nat.not_lt.mpr hn, Nat.not_lt.mpr hq]

/-- A completion of a push that is open. -/
theorem Dev.takePushCpl_push {x : Xfer} (hp : d.pktFor k vc 3 = some p) (hx : d.pushOf p = some x) :
    d.takePushCpl k vc = (let d := d.pktTake k (2 + vc)
      let y := { x with wait := x.wait - 1, written := x.written + (if p.status = 0 then p.len else 0), status := worse x.status p.status }
      if x.wait ≤ 1 then
        Dev.emit { d with cpl := { d.cpl with xfers := d.cpl.xfers.filter fun z => !(z.stop == x.stop && z.tag == x.tag) } }
          (.resp x.rid x.rtag (worse x.status p.status) (if worse x.status p.status = 0 ∨ worse x.status p.status = 6 then x.resp.getD [] else []))
      else { d with cpl := { d.cpl with xfers := d.cpl.xfers.map fun z => if z.stop = x.stop ∧ z.tag = x.tag then y else z } }) := by
  unfold Dev.pushOf at hx
  simp [Dev.takePushCpl, hp, hx, Dev.xferEnd, Dev.setXfer, Nat.sub_eq_zero_iff_le]

/-- A completion that nothing waits for. -/
theorem Dev.takePushCpl_late (hp : d.pktFor k vc 3 = some p) (hx : d.pushOf p = none) (hj : d.servedOf p = none) :
    d.takePushCpl k vc = (d.pktTake k (2 + vc)).inc CPL_LATE := by
  unfold Dev.pushOf at hx
  unfold Dev.servedOf at hj
  simp only [Dev.takePushCpl, hp, Dev.pktTake_xfers, Dev.pktTake_pullOn, hx, hj]

end

/-- A queued pull starts where the link stop has a place. -/
theorem Dev.pullStart_served {d : Dev} {k : Nat} {e : Nat × PullJob} (hn : d.pullsOn k < 16) (he : (d.cpl.pullQ.find? fun x => x.1 == k) = some e)
    (hh : d.offHeld e.2.req.addr = false) :
    d.pullStart k = Dev.servePull { d with cpl := { d.cpl with pullQ := d.cpl.pullQ.eraseP fun x => x.1 == k } } k e.2.req := by
  unfold Dev.pullsOn at hn
  simp [Dev.pullStart, Nat.not_le.mpr hn, he, hh]

theorem Dev.pullStart_stays {d : Dev} {k : Nat} (hn : 16 ≤ d.pullsOn k) : d.pullStart k = d := if_pos hn

/-- The time of an open transfer is over. -/
theorem Dev.xferTimeout_open {d : Dev} {k t : Nat} {x : Xfer} (hx : (d.cpl.xfers.find? fun x => x.stop == k && x.tag == t) = some x) :
    d.xferTimeout k t =
      (let d := ((d.tickTo (x.begun + d.cplTmo)).inc CPL_TIMEOUTS).logEv 0x8005 .D k [dU 2 x.dev, dU 2 t, dN x.len, dN x.written]
       Dev.emit { d with cpl := { d.cpl with xfers := d.cpl.xfers.filter fun y => !(y.stop == x.stop && y.tag == x.tag) } } (.resp x.rid x.rtag 8 [])) := by
  simp [Dev.xferTimeout, hx, Dev.xferEnd]

/-- A packet in transit, by the state of the link it goes on to. -/
theorem Dev.forward_transit {d : Dev} {k b : Nat} {p : CPkt} (hp : d.pktHead k b = some p) (hd : p.dst ≠ d.selfId) :
    d.forward k b =
      (let j := d.nextLink p.dst p.route
       if d.fld CPL_STATE j = 2 then (d.pktTake k b).linkSend j (d.vcOn j (some (k, b % 2))) p
       else if d.fld CPL_STATE j = 4 ∨ d.fld CPL_STATE j = 0 then d.pktTake k b else d) := by
  simp only [Dev.forward, hp, hd, if_false]
  split <;> simp_all

/-! ## The pieces of a transfer -/

/-- A piece ends at a 4 KiB boundary at the latest. -/
theorem pieces_within (fuel : Nat) : ∀ o n, ∀ e ∈ pieces fuel o n, e.1 % 4096 + e.2 ≤ 4096 := by
  induction fuel with
  | zero => simp [pieces]
  | succ fuel ih =>
    intro o n e he
    unfold pieces at he
    split at he
    · cases he
    · rcases List.mem_cons.mp he with rfl | he
      · dsimp only
        omega
      · exact ih _ _ e he

/-- With a piece for each 4 KiB boundary ahead, and one for what is left, the pieces are the whole. -/
theorem pieces_sum (fuel : Nat) : ∀ o n, n = 0 ∨ o % 4096 + n ≤ 4096 * fuel → ((pieces fuel o n).map (·.2)).sum = n := by
  induction fuel with
  | zero => intro o n h; simp [pieces]; omega
  | succ fuel ih =>
    intro o n h
    unfold pieces
    split
    · simp_all
    · have hn : n - min n (4096 - o % 4096) = 0 ∨ (o + min n (4096 - o % 4096)) % 4096 + (n - min n (4096 - o % 4096)) ≤ 4096 * fuel := by
        rcases Nat.le_total n (4096 - o % 4096) with hle | hle
        · exact .inl (by rw [min_eq_left hle, Nat.sub_self])
        · rw [min_eq_right hle]
          omega
      rw [List.map_cons, List.sum_cons, ih _ _ hn]
      exact Nat.add_sub_cancel' (min_le_left n _)

@[simp] theorem State.fresh_cplTmo (s : State) : s.fresh.cplTmo = s.dev.cplTmo := rfl

/-- Settles O53: each command is the function of its message, of which the clauses state the cases. -/
theorem colonyTransfers : Obligations.ColonyTransfers := by
  unfold Obligations.ColonyTransfers
  refine ⟨fun s q a b n v o k hl hp hv ⟨he, hs⟩ hr => .of_live rfl hl ?_, fun s q a b n v o k hl hp hv ⟨he, hs⟩ hr => .of_live rfl hl ?_,
    fun s q a b n v o k hl hp he => .of_live rfl hl (Dev.rpush_refused hp he),
    fun s q a b n v o k hl hp he hs => .of_live rfl hl (Dev.rpush_source_refused hp he hs),
    fun s q a b n v o hl hp hv ⟨he, hs⟩ hr => .of_live rfl hl (Dev.rpush_self hp hv he hs hr),
    fun s q a b n v o t hl hp hv ⟨he, ht⟩ hs => .of_live rfl hl (Dev.rpull_member hp hv he ht hs),
    fun s q a b n v o hl hp he => .of_live rfl hl (Dev.rpull_refused hp he),
    fun s k vc p a hl hp hh hx hf ha => .of_live rfl hl ?_, fun s k vc p hl hp hx hf ha => .of_live rfl hl ?_,
    fun s k vc p hl hp hh hx hf => .of_live rfl hl (Dev.takePush_late hp hh hx hf),
    fun s k vc p hi hp hh => .of_live_idle hi rfl ?_,
    fun s k vc p x hl hp hh hx ⟨hf, hn⟩ hr => .of_live rfl hl (Dev.takePush_final hp hh hx hf hn hr),
    fun s k vc p hl hp hh hn => .of_live rfl hl (Dev.takePull_served hp hh hn),
    fun s k vc p hl hp hh hn hq => .of_live rfl hl (Dev.takePull_queued hp hh hn hq),
    fun s k vc hi hn hq => .of_live_idle hi rfl (Dev.takePull_stays hn hq),
    fun s k e hl hn he hh => .of_live rfl hl (Dev.pullStart_served hn he hh),
    fun s k hi hn => .of_live_idle hi rfl (Dev.pullStart_stays hn),
    fun s k vc p x hl hp hx => .of_live rfl hl (Dev.takePushCpl_push hp hx),
    fun s k vc p hl hp hx hj => .of_live rfl hl (Dev.takePushCpl_late hp hx hj),
    fun s k t x hl hx => .of_live rfl hl ?_,
    fun s k b p hl hp hd => .of_live rfl hl (Dev.forward_transit hp hd),
    fun s p k r hl hm => .of_live rfl hl ?_,
    fun o n => ⟨pieces_within _ o n, pieces_sum _ o n (.inr (by omega))⟩⟩
  · exact (Dev.rpush_member (d := s.fresh) hp hv he hs).trans (if_neg fun h => hr.elim h.1 h.2)
  · exact (Dev.rpush_member (d := s.fresh) hp hv he hs).trans (if_pos hr)
  · rw [Dev.takePush_other (d := s.fresh) hp hh hx (by simp [hf, bitAt]), Dev.takePush_write_plain hf ha]
  · rw [Dev.takePush_other (d := s.fresh) hp (by simp [Dev.offHeld, ha]) hx hf]
    simp [Dev.takePush.write, ha, colonyAddr]
    rfl
  · show s.fresh.takePush k.val vc.val = s.fresh
    rw [Dev.takePush, show s.fresh.pktFor k.val vc.val 1 = some p from hp]
    exact if_pos hh
  · rw [Dev.xferTimeout_open (d := s.fresh) hx, State.fresh_cplTmo]
  · show s.fresh.moveMsg = _
    rw [Dev.moveMsg, show s.fresh.cpl.msgs = (p, k) :: r from hm]
    rfl

end Sys2Proof.Machine
end

section
/-! SUPPORT. Commands on their tiles, the Lamplighter and event mode (chapters 14 to 16): what each function does, case by case. -/

namespace Sys2Proof.Machine
open Sys2Proof.Machine.Reg

/-! ## Start of a part, and waits -/

@[simp] theorem Dev.llTidy_released (d : Dev) (t : Nat) : (d.llTidy t).released = d.released := rfl

/-- The next part on a tile starts where the core is released, it is the command's turn and the gates of R28, R399 and R401 are open. -/
theorem Dev.cmdTileStart_eq {d : Dev} {e : Engine} {q : Nat} {t : LTile} {c : Cmd} (hc : (d.llTidy t.val).nextPart e t = some c) :
    d.cmdTileStart e.val q t.val =
      if d.released = true ∧ c.seq % 2 ^ 24 = q ∧ (d.llTidy t.val).mayStart e t c = true then ((d.llTidy t.val).tileStart e.val t.val c).llTidy t.val
      else d.llTidy t.val := by
  unfold Dev.nextPart at hc
  simp only [Dev.cmdTileStart, hc, Dev.mayStart]
  split
  case isTrue h => exact (if_neg fun ⟨hl, hq, hm⟩ => by simp_all).symm
  case isFalse h => exact (if_pos (by simp_all)).symm

section
variable {d : Dev} {e q a : Nat} {c : Cmd}

/-- A WAIT whose look is not held. -/
theorem Dev.waitPoll_of_memory (hl : d.released = true) (hw : (d.engOf e).wait = .cond q a) (hc : d.cmdOf e q = some c)
    (hm : cmdBytes c.bytes 12 13 ≠ 2) (hh : d.ceHeld c.bytes = false) : d.waitPoll e = d.waitCheck e q c.bytes := by
  simp [Dev.waitPoll, hw, hl, hc, hm, hh]

/-- A WAIT for the timestamp without a TIMEOUT. -/
theorem Dev.waitPoll_of_time (hl : d.released = true) (hw : (d.engOf e).wait = .cond q a) (hc : d.cmdOf e q = some c)
    (hm : cmdBytes c.bytes 12 13 = 2) (ht : waitEnds a c.bytes = none) (hh : (d.passTo (cmdBytes c.bytes 24 32)).ceHeld c.bytes = false) :
    d.waitPoll e = (d.passTo (cmdBytes c.bytes 24 32)).waitCheck e q c.bytes := by
  simp [Dev.waitPoll, hw, hl, hc, hm, ht, hh]

theorem Dev.waitTimeout_of_ends {t : Nat} (hl : d.released = true) (hw : (d.engOf e).wait = .cond q a) (hc : d.cmdOf e q = some c)
    (ht : waitEnds a c.bytes = some t) : d.waitTimeout e = ((d.tickTo t).setEng e { d.engOf e with wait := .none }).cmdFail e q 10 := by
  simp [Dev.waitTimeout, hw, hl, hc, ht]

theorem Dev.waitPoll_of_none (hw : (d.engOf e).wait = .none) : d.waitPoll e = d := by
  simp [Dev.waitPoll, hw]
theorem Dev.waitTimeout_of_none (hw : (d.engOf e).wait = .none) : d.waitTimeout e = d := by
  simp [Dev.waitTimeout, hw]

/-! ## Completion -/

/-- Only a TSTAMP not yet done is stamped late. -/
theorem Dev.lateStamp_of_done (hd : c.done = true) : d.lateStamp e c = d := if_neg (by simp [hd])
theorem Dev.lateStamp_of_tiles (hn : needsTile (cmdOpc c.bytes) = true) : d.lateStamp e c = d :=
  if_neg fun h => by rw [h.1] at hn; exact absurd hn (by decide)

/-- A part still to start or still running keeps its command. -/
theorem Dev.cmdComplete_of_parts (hc : d.cmdOf e q = some c) (hn : needsTile (cmdOpc c.bytes) = true) (hp : c.todo ≠ [] ∨ c.on ≠ []) :
    d.cmdComplete e q = d := by
  simp only [Dev.cmdComplete, hc, Dev.lateStamp_of_tiles hn]
  split
  · rfl
  · exact if_pos (by simp; exact .inl hp)

/-- What the completion of a command leaves: it is in flight no more, and its list has counted it. -/
def Eng.without (x : Eng) (q : Nat) (c : Cmd) : Eng :=
  ({ x with flight := x.flight.filter fun y => y.seq != q } : Eng).onList c.list fun l =>
    { l with done := (l.done + 1) % 2 ^ 32, flags := Nat.lor l.flags c.flagBits, poison := (l.poison + c.poison) % 2 ^ 32 }

/-- A command that is over and has its engine's lists alone to tell. -/
theorem Dev.cmdComplete_of_over (hl : d.released = true) (hc : d.cmdOf e q = some c) (ho : c.Over) :
    d.cmdComplete e q =
      (let d' := (d.setEng e ((d.engOf e).without q c)).inc CE_CNT_DONE 1 e
       if c.status = 0 then d'.haltNow e else (d'.cmdFailed e c.list q (cmdOpc c.bytes) c.status (cmdUser c.bytes) c.logged).haltNow e) := by
  obtain ⟨htodo, hon, hdone, htiles, hbit⟩ := ho
  simp only [Dev.cmdComplete, hl, hc, Dev.lateStamp_of_done hdone, htodo, hon, hdone, htiles, hbit, Eng.without]
  by_cases hst : c.status = 0 <;> simp [hst]

/-- An engine that no failure stops does not halt. -/
theorem Dev.haltNow_of_none (hs : (d.engOf e).stopAt = none) : d.haltNow e = d := by
  simp [Dev.haltNow, hs]

theorem Dev.haltNow_of_last {n st : Nat} (hs : (d.engOf e).stopAt = some (n, st)) (hf : (d.engOf e).flight = []) :
    d.haltNow e = (((d.setEng e { d.engOf e with stopAt := none }).setF CE_STATE 2 e).logEv 0x2002 .F e
      [dN n, dC st, dU 1 (d.fld CE_QUEUE e)]).msix (d.fld CE_HALT_VEC e) := by
  simp [Dev.haltNow, hs, Eng.live, hf]

/-- The engine's state is no concern of its registers, of entries and of messages. -/
theorem Dev.engOf_congr {d d' : Dev} (h : d'.eng = d.eng) (n : Nat) : d'.engOf n = d.engOf n := by simp [Dev.engOf, h]
@[simp] theorem Dev.engOf_setF (d : Dev) (f : Fld) (v i j n : Nat) : (d.setF f v i j).engOf n = d.engOf n := rfl
@[simp] theorem Dev.engOf_inc (d : Dev) (f : Fld) (v i j n : Nat) : (d.inc f v i j).engOf n = d.engOf n := rfl
@[simp] theorem Dev.engOf_logEv (d : Dev) (ev : Nat) (c : Cls) (k : Nat) (l : List DF) (o : Bool) (n : Nat) :
    (d.logEv ev c k l o).engOf n = d.engOf n := Dev.engOf_congr (by simp) n
@[simp] theorem Dev.engOf_msix (d : Dev) (v n : Nat) : (d.msix v).engOf n = d.engOf n := Dev.engOf_congr (by simp) n

/-- The entry of a failed command, unless its cause has written its own. -/
def Dev.failEntry (d : Dev) (e q opc st user start : Nat) (logged : Bool) : Dev :=
  if logged then d else d.logEv 0x2001 .D e [dN q, dC opc, dC st, dN user, dA start]

@[simp] theorem Dev.engOf_failEntry (d : Dev) (e q opc st user start : Nat) (b : Bool) (n : Nat) :
    (d.failEntry e q opc st user start b).engOf n = d.engOf n := by
  unfold Dev.failEntry
  split
  · rfl
  · exact Dev.engOf_logEv ..

theorem Dev.fld_failEntry (d : Dev) (e q opc st user start : Nat) (b : Bool) {f : Fld} {i j : Nat} (h : f.key i j ≠ EMB_LOST.key 0 0) :
    (d.failEntry e q opc st user start b).fld f i j = d.fld f i j := by
  unfold Dev.failEntry
  split
  · rfl
  · exact Dev.fld_logEv _ _ (by decide) _ _ _ h

theorem Dev.Calm.failEntry {d d' : Dev} (h : d.Calm d') (e q opc st user start : Nat) (b : Bool) : d.Calm (d'.failEntry e q opc st user start b) :=
  h.trans (Dev.Calm.ite (.refl _) (.logEv (.refl _) (by decide)))

/-- The engine once a command of list `list` has failed: the list's first failure is kept. -/
def Eng.failed (x : Eng) (list q st user : Nat) : Eng :=
  x.onList list fun l => if l.status = 0 then { l with status := st, failSeq := q, failUser := user } else l

/-- The address at which a list that the engine still knows starts. -/
def Eng.startOf (x : Eng) (list : Nat) : Nat :=
  (((x.run.toList ++ x.susp.toList ++ x.ending).find? fun l => l.id == list).map (·.start)).getD 0

/-- The registers that show the failure of an engine. -/
def Dev.showFail (d : Dev) (e q st user : Nat) : Dev := ((d.setF CE_ERR_SEQ q e).setF CE_ERR_CODE st e).setF CE_ERR_USER user e

@[simp] theorem Dev.engOf_showFail (d : Dev) (e q st user n : Nat) : (d.showFail e q st user).engOf n = d.engOf n := rfl

theorem Dev.flag_on_err_showFail (d : Dev) (e q st user : Nat) : (d.showFail e q st user).flag CE_ON_ERR e = d.flag CE_ON_ERR e := by
  unfold Dev.showFail
  rw [Dev.flag_setF_ne _ _ (by simp only [Fld.key, Fld.at, CE_ON_ERR, CE_ERR_USER, fRW, fRO, Fld.arr]; omega),
    Dev.flag_setF_ne _ _ (by simp only [Fld.key, Fld.at, CE_ON_ERR, CE_ERR_CODE, fRW, fRO, Fld.arr]; omega),
    Dev.flag_setF_ne _ _ (by simp only [Fld.key, Fld.at, CE_ON_ERR, CE_ERR_SEQ, fRW, fRO, Fld.arr]; omega)]

theorem Dev.fld_err_seq_showFail (d : Dev) (e q st user : Nat) : (d.showFail e q st user).fld CE_ERR_SEQ e = q % 2 ^ 24 := by
  unfold Dev.showFail
  rw [Dev.fld_setF_ne _ _ (by simp only [Fld.key, Fld.at, CE_ERR_SEQ, CE_ERR_USER, fRO, Fld.arr]; omega),
    Dev.fld_setF_ne _ _ (by simp only [Fld.key, Fld.at, CE_ERR_SEQ, CE_ERR_CODE, fRO, Fld.arr]; omega), Dev.fld_setF_self]
  rfl

theorem Dev.Calm.showFail {d d' : Dev} (h : d.Calm d') (e q st user : Nat) : d.Calm (d'.showFail e q st user) :=
  ((h.setF _ (by simp only [Fld.key, Fld.at, REP_STATE, CE_ERR_SEQ, fRO, Fld.arr]; omega)).setF _
    (by simp only [Fld.key, Fld.at, REP_STATE, CE_ERR_CODE, fRO, Fld.arr]; omega)).setF _
    (by simp only [Fld.key, Fld.at, REP_STATE, CE_ERR_USER, fRO, Fld.arr]; omega)

/-- The first failure of the list that runs stops the engine where ON_ERR says so. -/
theorem Dev.cmdFailed_of_stop {list opc st user : Nat} {logged : Bool} {l : CList} (hr : (d.engOf e).run = some l) (hid : l.id = list)
    (hst : l.status = 0) (hon : d.flag CE_ON_ERR e = false) (hs : (d.engOf e).stopAt = none) :
    d.cmdFailed e list q opc st user logged =
      (((d.setEng e ((d.engOf e).failed list q st user)).showFail e q st user).failEntry e q opc st user (((d.engOf e).failed list q st user).startOf list)
        logged).setEng e { (d.engOf e).failed list q st user with stopAt := some (q, st) } := by
  subst hid
  have hrun : ((d.engOf e).failed l.id q st user).run = some { l with status := st, failSeq := q, failUser := user } := by
    simp [Eng.failed, Eng.onList, hr, hst]
  have hstop : ((d.engOf e).failed l.id q st user).stopAt = none := hs
  generalize hy : (d.engOf e).failed l.id q st user = y at hrun hstop ⊢
  have hflag : (((d.setEng e y).showFail e q st user).failEntry e q opc st user (y.startOf l.id) logged).flag CE_ON_ERR e = false := by
    unfold Dev.flag
    rw [Dev.fld_failEntry _ _ _ _ _ _ _ _ (by simp only [Fld.key, Fld.at, CE_ON_ERR, EMB_LOST, fRW, fRO, Fld.arr]; omega)]
    exact (Dev.flag_on_err_showFail _ e q st user).trans hon
  have heng : (((d.setEng e y).showFail e q st user).failEntry e q opc st user (y.startOf l.id) logged).engOf e = y := by simp
  unfold Dev.cmdFailed
  rw [show ((d.engOf e).onList l.id fun l => if l.status = 0 then { l with status := st, failSeq := q, failUser := user } else l) = y from hy]
  simp only [Dev.failEntry, Eng.startOf, Dev.showFail, hrun, if_true, Dev.showErr] at hflag heng ⊢
  rw [hflag, heng, hstop, hrun]
  rfl

/-- What a failure that halts the engine leaves: the engine `y`, its registers and the two entries, and the message. -/
def Dev.haltedWith (d : Dev) (e : Nat) (y : Eng) (q opc st user start : Nat) (logged : Bool) : Dev :=
  let g := (((d.setEng e y).showFail e q st user).failEntry e q opc st user start logged).setEng e { y with stopAt := some (q, st) }
  (((g.setEng e y).setF CE_STATE 2 e).logEv 0x2002 .F e [dN q, dC st, dU 1 (g.fld CE_QUEUE e)]).msix (g.fld CE_HALT_VEC e)

theorem Dev.engOf_haltedWith (d : Dev) (e : Nat) (y : Eng) (q opc st user start : Nat) (b : Bool) :
    (d.haltedWith e y q opc st user start b).engOf e = y := by
  simp [Dev.haltedWith]

theorem Dev.state_haltedWith (d : Dev) (e : Nat) (y : Eng) (q opc st user start : Nat) (b : Bool) :
    (d.haltedWith e y q opc st user start b).fld CE_STATE e = 2 := by
  unfold Dev.haltedWith
  dsimp only
  rw [Dev.fld_msix _ _ (by simp only [Fld.key, Fld.at, CE_STATE, MGT_INT_STAT, fW1C, fRO, Fld.arr]; omega),
    Dev.fld_logEv _ _ (by decide) _ _ _ (by simp only [Fld.key, Fld.at, CE_STATE, EMB_LOST, fRO, Fld.arr]; omega), Dev.fld_setF_self]
  rfl

theorem Dev.err_seq_haltedWith (d : Dev) (e : Nat) (y : Eng) (q opc st user start : Nat) (b : Bool) :
    (d.haltedWith e y q opc st user start b).fld CE_ERR_SEQ e = q % 2 ^ 24 := by
  unfold Dev.haltedWith
  dsimp only
  rw [Dev.fld_msix _ _ (by simp only [Fld.key, Fld.at, CE_ERR_SEQ, MGT_INT_STAT, fW1C, fRO, Fld.arr]; omega),
    Dev.fld_logEv _ _ (by decide) _ _ _ (by simp only [Fld.key, Fld.at, CE_ERR_SEQ, EMB_LOST, fRO, Fld.arr]; omega),
    Dev.fld_setF_ne _ _ (by simp only [Fld.key, Fld.at, CE_ERR_SEQ, CE_STATE, fRO, Fld.arr]; omega), Dev.fld_setEng, Dev.fld_setEng,
    Dev.fld_failEntry _ _ _ _ _ _ _ _ (by simp only [Fld.key, Fld.at, CE_ERR_SEQ, EMB_LOST, fRO, Fld.arr]; omega), Dev.fld_err_seq_showFail]

theorem Dev.calm_haltedWith (d : Dev) (e : Nat) (y : Eng) (q opc st user start : Nat) (b : Bool) : d.Calm (d.haltedWith e y q opc st user start b) := by
  have hfail := (((((Dev.Calm.refl d).setEng e y).showFail e q st user).failEntry e q opc st user start b).setEng e
    { y with stopAt := some (q, st) }).setEng e y
  exact ((hfail.setF 2 (by simp only [Fld.key, Fld.at, CE_STATE, REP_STATE, fRO, Fld.arr]; omega)).logEv (by decide)).msix _

/-- A failure of the only command in flight, of the list that runs, halts an engine that stops on failures. -/
theorem Dev.cmdComplete_of_halt {l : CList} (hl : d.released = true) (hfl : (d.engOf e).flight = [c]) (hq : c.seq = q) (ho : c.Over) (hst : c.status ≠ 0)
    (hon : d.flag CE_ON_ERR e = false) (hs : (d.engOf e).stopAt = none) (hr : (d.engOf e).run = some l) (hid : l.id = c.list) (hls : l.status = 0) :
    ∃ y start, y.flight = [] ∧ y.stopAt = none ∧ y.run.map (·.status) = some c.status ∧
      d.cmdComplete e q = ((d.setEng e ((d.engOf e).without q c)).inc CE_CNT_DONE 1 e).haltedWith e y q (cmdOpc c.bytes) c.status
        (cmdUser c.bytes) start c.logged := by
  have hc : d.cmdOf e q = some c := by simp [Dev.cmdOf, hfl, hq]
  obtain ⟨m, hrun, hmid, hms⟩ : ∃ m, ((d.engOf e).without q c).run = some m ∧ m.id = c.list ∧ m.status = 0 :=
    ⟨{ l with done := (l.done + 1) % 2 ^ 32, flags := Nat.lor l.flags c.flagBits, poison := (l.poison + c.poison) % 2 ^ 32 },
      by simp [Eng.without, Eng.onList, hr, hid], hid, hls⟩
  have hflight : ((d.engOf e).without q c).flight = [] := by simp [Eng.without, Eng.onList, hfl, hq]
  rw [Dev.cmdComplete_of_over hl hc ho]
  dsimp only
  rw [if_neg hst]
  generalize hx : (d.engOf e).without q c = x at hrun hflight ⊢
  have hstop : x.stopAt = none := by rw [← hx]; exact hs
  have heng : ((d.setEng e x).inc CE_CNT_DONE 1 e).engOf e = x := by simp
  rw [Dev.cmdFailed_of_stop (d := (d.setEng e x).inc CE_CNT_DONE 1 e) (by rw [heng]; exact hrun) hmid hms
    (by rw [Dev.inc, Dev.flag_setF_ne _ _ (by simp only [Fld.key, Fld.at, CE_ON_ERR, CE_CNT_DONE, fRW, fRO, Fld.arr]; omega)]; exact hon)
    (by rw [heng]; exact hstop), heng,
    Dev.haltNow_of_last (n := q) (st := c.status) (by simp) (by simp [Eng.failed, Eng.onList, hflight])]
  refine ⟨x.failed c.list q c.status (cmdUser c.bytes), (x.failed c.list q c.status (cmdUser c.bytes)).startOf c.list, hflight, hstop, ?_, ?_⟩
  · simp [Eng.failed, Eng.onList, hrun, hmid, hms]
  · have hy : ({ x.failed c.list q c.status (cmdUser c.bytes) with stopAt := none } : Eng) = x.failed c.list q c.status (cmdUser c.bytes) := by
      rw [← hstop]
      rfl
    rw [Dev.engOf_setEng_self]
    dsimp only
    rw [hy]
    rfl

end

/-! ## The Lamplighter -/

/-- What the look-ahead does at place `p` of a list, once the bytes from there on are at hand. -/
def Dev.llNext (d : Dev) (t : LTile) (e a p : Nat) (bs : List Byte) : Dev :=
  let b := leNat (bs.take 64)
  let on (d : Dev) : Dev := d.llTo t (some (e, a + 64, p + 1)) (bs.drop 64)
  match cmdOpc b with
  | 0x01 => d.llTo t none []
  | 0x02 => d.llTo t (some (e, bits b 128 48, p + 1)) []
  | o =>
    if o = 0x20 ∨ o = 0x22 ∨ o = 0x28 then (if d.notIssued e p || (d.flightAt e p).isSome then d else on d)
    else if !needsTile o || !(cmdTgt b == 255 || cmdTgt b == t.val) then on d
    else if (d.tileOf t.val).ll.any (fun y => y.engine == e && y.pos == p && !y.dead) then on d
    else if (d.tileOf t.val).llDepth ≤ (d.tileOf t.val).llCount then d
    else if d.notIssued e p then on (d.llAdd t.val (d.llEntry t.val e a p b none))
    else match d.flightAt e p with
      | some c => on (if c.todo.contains t.val then d.llAdd t.val (d.llEntry t.val e a p b (some c.seq)) else d)
      | none => on d

theorem llFetch_eq_llNext {s : State} {t : LTile} {e a p : Nat} (hat : ((s.tidied t).tileOf t.val).llAt = some (e, a, p))
    (hst : (s.llSeen t a).1 = 0) : s.fresh.llFetch t.val = (s.llSeen t a).2.2.llNext t e a p (s.llSeen t a).2.1 := by
  have hbytes : ((s.fresh.llTidy t.val).llBytes t.val a).1 = 0 := hst
  simp only [Dev.llFetch, hat, hbytes, ne_eq, not_true, if_false]
  rfl

section
variable {d : Dev} {t : LTile} {e a p : Nat} {bs : List Byte}

theorem Dev.llNext_end (ho : cmdOpc (leNat (bs.take 64)) = 0x01) : d.llNext t e a p bs = d.llTo t none [] := by
  simp only [Dev.llNext, ho]

theorem Dev.llNext_link (ho : cmdOpc (leNat (bs.take 64)) = 0x02) :
    d.llNext t e a p bs = d.llTo t (some (e, bits (leNat (bs.take 64)) 128 48, p + 1)) [] := by
  simp only [Dev.llNext, ho]

/-- A LAYER of another tile. -/
theorem Dev.llNext_other (ho : cmdOpc (leNat (bs.take 64)) = 0x10)
    (ht : cmdTgt (leNat (bs.take 64)) ≠ 255 ∧ cmdTgt (leNat (bs.take 64)) ≠ t.val) :
    d.llNext t e a p bs = d.llTo t (some (e, a + 64, p + 1)) (bs.drop 64) := by
  simp [Dev.llNext, ho, ht]

section
variable (ho : cmdOpc (leNat (bs.take 64)) = 0x10 ∧ cmdTgt (leNat (bs.take 64)) = 255)
  (hno : ((d.tileOf t.val).ll.any fun y => y.engine == e && y.pos == p && !y.dead) = false)

include ho hno

/-- A LAYER of the tile, of which it has no entry yet, while DEPTH entries stand. -/
theorem Dev.llNext_full (hd : (d.tileOf t.val).llDepth ≤ (d.tileOf t.val).llCount) : d.llNext t e a p bs = d := by
  simp only [Dev.llNext, ho.1, ho.2, hno, hd]
  rfl

/-- With room for the entry, before its command is issued. -/
theorem Dev.llNext_room (hni : d.notIssued e p = true) (hd : (d.tileOf t.val).llCount < (d.tileOf t.val).llDepth) :
    d.llNext t e a p bs =
      (d.llAdd t.val (d.llEntry t.val e a p (leNat (bs.take 64)) none)).llTo t (some (e, a + 64, p + 1)) (bs.drop 64) := by
  simp only [Dev.llNext, ho.1, ho.2, hno, Nat.not_le.mpr hd, hni]
  rfl

end

end

section
variable {d : Dev} {t : Nat} {y : LlEnt}

/-- The first entry that may fill sends its next read. -/
theorem Dev.llFillRead_of_wants (hn : ((d.llTidy t).tileOf t).llReads.length < 64) (hy : (((d.llTidy t).tileOf t).ll.find? (d.llTidy t).llWants) = some y) :
    d.llFillRead t =
      (let d := d.llTidy t
       (d.setTile t { d.tileOf t with
          llReads := (d.tileOf t).llReads ++ [(y.pos, y.slot + y.asked, y.src + y.asked, d.llDline t y)]
          ll := (d.tileOf t).ll.map fun z => if z.pos = y.pos then { z with asked := z.asked + 256 } else z }).emit
        (.link "LL.read" t [y.src + y.asked, d.llDline t y, if y.wmode = 1 then 1 else 0] [])) := by
  simp only [Dev.llFillRead, Nat.not_le.mpr hn, if_false, hy]

theorem Dev.llFillRead_of_full (hn : 64 ≤ ((d.llTidy t).tileOf t).llReads.length) : d.llFillRead t = d.llTidy t := if_pos hn

variable {p o a due : Nat} {r : List (Nat × Nat × Nat × Nat)}

/-- The data of a fill that is gone. -/
theorem Dev.llFillData_of_stale (hr : ((d.llTidy t).tileOf t).llReads = (p, o, a, due) :: r)
    (hy : (((d.llTidy t).tileOf t).ll.find? fun y => y.pos == p && !y.dead) = none) :
    d.llFillData t = (((d.llTidy t).setTile t { (d.llTidy t).tileOf t with llReads := r }).inc LL_STALE 1 t).llTidy t := by
  simp only [Dev.llFillData, hr, hy]

/-- The data of a fill, or its failure. -/
theorem Dev.llFillData_of_entry (hr : ((d.llTidy t).tileOf t).llReads = (p, o, a, due) :: r)
    (hy : (((d.llTidy t).tileOf t).ll.find? fun y => y.pos == p && !y.dead) = some y) :
    d.llFillData t =
      (let g := ((d.llTidy t).setTile t { (d.llTidy t).tileOf t with llReads := r }).llLine ((d.llTidy t).stopOf t) a (y.wmode == 1) due
       if g.1 ≠ 0 ∧ g.1 ≠ 6 then
        let d := (g.2.2.llUpd t p fun y => { y with st := 4, status := g.1 }).inc LL_FAULTS 1 t
        ((d.setTile t { d.tileOf t with llReads := (d.tileOf t).llReads.filter fun k => k.1 != p }).setF LL_FAULT_ADDR a t).setF LL_FAULT_STATUS g.1 t
       else
        let d := g.2.2.sramWrite t o (allOn g.2.1)
        let d := if g.1 = 6 then d.markQuiet t o 256 else d
        (d.inc LL_BYTES 256 t).llUpd t p fun y => { y with got := y.got + 256, st := if y.len ≤ y.got + 256 then 3 else y.st }) := by
  simp only [Dev.llFillData, hr, hy]
  rfl

/-! ## CAROUSEL and event mode -/

/-- The round before has issued its last row and the buffer of the next is complete. -/
theorem Dev.carouselRound_of_ready {l : LayerRun} (hl : (d.tileOf t).layer = some l) (hm : l.wmode = 1) (hn : l.round + 1 < l.n)
    (hi : l.idx = (l.round + 1) * l.per) (hh : l.round + 1 < l.have_) :
    d.carouselRound t = (d.setTile t { d.tileOf t with layer := some { l with round := l.round + 1 } }).rotate l.engine l.seq := by
  simp [Dev.carouselRound, hl, hm, Nat.not_le.mpr hn, hi, hh]

theorem Dev.carouselRound_of_none {l : LayerRun} (hl : (d.tileOf t).layer = some l) (hm : l.wmode ≠ 1 ∨ l.n ≤ l.round + 1) : d.carouselRound t = d := by
  simp only [Dev.carouselRound, hl]
  exact if_pos (hm.elim .inl fun h => .inr (.inl h))

/-- A tile at the barrier, or under a handover, makes no step. -/
theorem Dev.evStep_of_waits {r : EvRun} (hr : (d.tileOf t).ev = some r) (hw : r.atBarrier = true ∨ d.tileMoves t = true) : d.evStep t = d := by
  have hor : (r.atBarrier || d.tileMoves t) = true := by simpa using hw
  unfold Dev.evStep
  rw [hr]
  exact if_pos hor

@[simp] theorem State.fresh_evT (s : State) (t : Nat) (r : EvRun) : s.fresh.evT t r = s.dev.evT t r := rfl

/-- A step: phases 1 to 3, the send of what they staged, and the barrier. -/
theorem evStep_of_free {s : State} {t : LTile} {r : EvRun} (hr : (s.dev.tileOf t.val).ev = some r) (hb : r.atBarrier = false)
    (ht : s.dev.tileMoves t.val = false) (hh : (s.evStaged t r).2.batchHeld (s.evStaged t r).1 = false) :
    s.fresh.evStep t.val =
      (let b := (s.evStaged t r).1
       let d := b.foldl (fun (d : Dev) e => d.evSend t.val r (s.dev.evT t.val r) e) (s.evStaged t r).2
       let d := d.setTile t.val { d.tileOf t.val with ev := some { r with atBarrier := true, pend := b.countP fun e => decide (64 ≤ e.1) } }
       if bitAt r.flags 0 then d.evArrive r.engine r.seq else d.evNext t.val) := by
  have hfree : (r.atBarrier || s.fresh.tileMoves t.val) = false := by
    rw [hb]
    exact ht
  unfold State.evStaged at hh ⊢
  unfold Dev.evStep
  rw [show (s.fresh.tileOf t.val).ev = some r from hr]
  refine (if_neg (ne_of_eq_of_ne hfree Bool.false_ne_true)).trans ?_
  rw [State.fresh_evT]
  generalize s.fresh.sramRead t.val r.param 576 1 = read at hh ⊢
  generalize s.dev.evT t.val r = step at hh ⊢
  obtain ⟨x, y, d⟩ := read
  dsimp only at hh ⊢
  generalize (if r.first = true then d.setF EV_T step t.val
    else (upTo (64 + (d.setF EV_T step t.val).evCsegs t.val r)).foldl (fun (d : Dev) k => if d.evGone r k then d
      else d.evSegment t.val r step (d.evSegAt t.val r ((step + 1) % 2) k)) (d.setF EV_T step t.val)).evUpdate t.val r step = fired at hh ⊢
  obtain ⟨l, g⟩ := fired
  dsimp only at hh ⊢
  generalize l.foldl (fun (a : Batches × Dev) f => a.2.evFan t.val r step a.1 f) ([], g) = batches at hh ⊢
  obtain ⟨b, g⟩ := batches
  exact if_neg (ne_of_eq_of_ne hh Bool.false_ne_true)

theorem Dev.evRelease_of_missing {e q : Nat} {c : Cmd} (hc : d.cmdOf e q = some c) (hn : d.evAllThere e q = false) : d.evRelease e q = d := by
  simp [Dev.evRelease, hc, hn]

theorem Dev.evRelease_of_all {e q : Nat} {c : Cmd} (hc : d.cmdOf e q = some c) (ha : d.evAllThere e q = true)
    (hcol : (c.on.any fun t => (d.tileOf t).ev.any fun r => bitAt r.flags 1) = false ∨ c.colony = 2) :
    d.evRelease e q =
      if c.status = 12 then c.on.foldl (fun (d : Dev) t => (d.setTile t { d.tileOf t with ev := none }).partDone e q t) d
      else c.on.foldl Dev.evNext (d.updCmd e q fun c => { c with colony := 0 }) := by
  have hopen : (!d.evAllThere e q || ((c.on.any fun t => (d.tileOf t).ev.any fun r => bitAt r.flags 1) && c.colony != 2)) = false := by
    rcases hcol with h | h <;> simp [ha, h]
  simp only [Dev.evRelease, hc]
  rw [hopen]
  rfl

end

/-- What a completion counts. -/
theorem Dev.fld_cnt_done (d : Dev) (e : Nat) (y : Eng) : ((d.setEng e y).inc CE_CNT_DONE 1 e).fld CE_CNT_DONE e = satAdd 32 (d.fld CE_CNT_DONE e) 1 := by
  rw [Dev.inc, Dev.fld_setF_self, Dev.fld_setEng]
  exact Nat.mod_eq_of_lt (lt_of_le_of_lt (min_le_right _ _) (by decide))

theorem Dev.calm_cnt_done (d : Dev) (e : Nat) (y : Eng) : d.Calm ((d.setEng e y).inc CE_CNT_DONE 1 e) :=
  ((Dev.Calm.refl d).setEng e y).inc 1 (by simp only [Fld.key, Fld.at, CE_CNT_DONE, REP_STATE, fRO, Fld.arr]; omega)

/-- Settles O59: each command is the function of its unit, of which the clauses state the cases. -/
theorem engineProgress : Obligations.EngineProgress := by
  unfold Obligations.EngineProgress
  refine ⟨fun s e q t c hl hc hq hm => .of_eq (f := (·.cmdTileStart e.val q.toNat t.val)) rfl ?_,
    fun s e q t c hc hn => .of_eq (f := (·.cmdTileStart e.val q.toNat t.val)) rfl ((Dev.cmdTileStart_eq (d := s.fresh) hc).trans (if_neg fun h => ?_)),
    fun s e q a c hl hw hc hm hh => .of_eq (f := (·.waitPoll e.val)) rfl (Dev.waitPoll_of_memory hl hw hc hm hh),
    fun s e q a c hl hw hc ⟨hm, ht⟩ hh => .of_eq (f := (·.waitPoll e.val)) rfl (Dev.waitPoll_of_time hl hw hc hm ht hh),
    fun s e q a t c hl hw hc ht => .of_eq (f := (·.waitTimeout e.val)) rfl (Dev.waitTimeout_of_ends hl hw hc ht),
    fun s e hi hw => ⟨.of_idle (f := (·.waitPoll e.val)) hi rfl (Dev.waitPoll_of_none hw), .of_idle (f := (·.waitTimeout e.val)) hi rfl (Dev.waitTimeout_of_none hw)⟩,
    fun s e q c hi hl hc ho hst hs => ?_,
    fun s e q c hi hc hn hp => .of_idle (f := (·.cmdComplete e.val q.toNat)) hi rfl (Dev.cmdComplete_of_parts hc hn hp),
    fun s e q c l hi hl hf hq ho hst ⟨hon, hs, hr, hid, hls⟩ => ?_,
    fun s t e a p hl hat hst ho hni hno hd => .of_eq (f := fun d => if d.tileIssues t.val then d.llFetch t.val else d) rfl ((if_pos hl).trans ((llFetch_eq_llNext hat hst).trans (Dev.llNext_room ho hno hni hd))),
    fun s t e a p hl hat hst ho hno hd => .of_eq (f := fun d => if d.tileIssues t.val then d.llFetch t.val else d) rfl ((if_pos hl).trans ((llFetch_eq_llNext hat hst).trans (Dev.llNext_full ho hno hd))),
    fun s t e a p hl hat hst => ⟨fun ho => .of_eq (f := fun d => if d.tileIssues t.val then d.llFetch t.val else d) rfl ((if_pos hl).trans ((llFetch_eq_llNext hat hst).trans (Dev.llNext_end ho))),
      fun ho => .of_eq (f := fun d => if d.tileIssues t.val then d.llFetch t.val else d) rfl ((if_pos hl).trans ((llFetch_eq_llNext hat hst).trans (Dev.llNext_link ho))),
      fun ⟨ho, ht⟩ => .of_eq (f := fun d => if d.tileIssues t.val then d.llFetch t.val else d) rfl ((if_pos hl).trans ((llFetch_eq_llNext hat hst).trans (Dev.llNext_other ho ht)))⟩,
    fun s t y hl hn hy => .of_eq (f := fun d => if d.tileIssues t.val then d.llFillRead t.val else d) rfl ((if_pos hl).trans (Dev.llFillRead_of_wants (d := s.fresh) hn hy)),
    fun s t hl hn => .of_eq (f := fun d => if d.tileIssues t.val then d.llFillRead t.val else d) rfl ((if_pos hl).trans (Dev.llFillRead_of_full (d := s.fresh) hn)),
    fun s t y o a due r hl hr hy hg => .of_released rfl hl ((Dev.llFillData_of_entry (d := s.fresh) hr hy).trans (if_neg fun h => hg.elim h.1 h.2)),
    fun s t y o a due r hl hr hy hg => .of_released rfl hl ((Dev.llFillData_of_entry (d := s.fresh) hr hy).trans (if_pos hg)),
    fun s t p r hl hr hy => .of_released rfl hl (Dev.llFillData_of_stale (d := s.fresh) hr hy),
    fun s t l hl ht hla hm hn hidx hh => .of_released rfl hl ((if_neg ?_).trans (Dev.carouselRound_of_ready (d := s.fresh) hla hm hn hidx hh)),
    fun s t l hi hla hm => .of_released_idle hi rfl ?_,
    fun s t r hl ht hr hb hh => .of_released rfl hl (evStep_of_free hr hb ht hh),
    fun s t r hi hr hw => .of_released_idle hi rfl (Dev.evStep_of_waits hr hw),
    fun s e q c hl hc ha hcol => .of_released rfl hl (Dev.evRelease_of_all (d := s.fresh) hc ha hcol),
    fun s e q c hi hc hn => .of_released_idle hi rfl (Dev.evRelease_of_missing hc hn)⟩
  · exact (Dev.cmdTileStart_eq (d := s.fresh) hc).trans (if_pos ⟨hl, hq, hm⟩)
  · exact hn.elim (· h.2.1) fun hm => absurd h.2.2 (by simp [hm])
  · refine .of_calm (f := (·.cmdComplete e.val q.toNat)) hi rfl ((Dev.cmdComplete_of_over (d := s.fresh) hl hc ho).trans ((if_pos hst).trans (Dev.haltNow_of_none ?_)))
      (Dev.calm_cnt_done _ _ _) ⟨?_, Dev.fld_cnt_done _ _ _, rfl, rfl, ?_⟩
    · rw [Dev.engOf_inc, Dev.engOf_setEng_self]
      exact hs
    · simp [Eng.without, Eng.onList]
    · simp [Eng.without, Eng.onList]
  · obtain ⟨y, start, hfl, hys, hyr, heq⟩ := Dev.cmdComplete_of_halt (d := s.fresh) hl hf hq ho hst hon hs hr hid hls
    have hcalm := (Dev.calm_cnt_done s.fresh e.val ((s.fresh.engOf e.val).without q.toNat c)).trans
      (Dev.calm_haltedWith _ e.val y q.toNat (cmdOpc c.bytes) c.status (cmdUser c.bytes) start c.logged)
    refine .of_calm (f := (·.cmdComplete e.val q.toNat)) hi rfl heq hcalm ⟨Dev.state_haltedWith .., ?_, ?_, ?_, ?_, hcalm.mem⟩
    · rw [Dev.engOf_haltedWith, hfl]
    · rw [Dev.engOf_haltedWith, hys]
    · rw [Dev.err_seq_haltedWith]
      exact Nat.mod_eq_of_lt q.isLt
    · rw [Dev.engOf_haltedWith, hyr]
  · exact ne_of_eq_of_ne ht Bool.false_ne_true
  · show (if s.fresh.tileMoves t.val then s.fresh else s.fresh.carouselRound t.val) = s.fresh
    rw [Dev.carouselRound_of_none (d := s.fresh) hla hm, ite_self]

end Sys2Proof.Machine
end

section
/-! SUPPORT. The flush walker of a slice (chapter 09): the write that starts it, the sets it checks, and its end. -/

namespace Sys2Proof.Machine
open Sys2Proof.Machine.Reg

/-- A write of CEL_FLUSH_CTL is the walker's. -/
theorem Dev.csrWrite_celFlushCtl {d : Dev} {p : Path} {n : Nat} (hn : n < 16) (v : Word64) (h : Reaches d p (0x4000030 + 0x10000 * n)) :
    d.csrWrite p (0x4000030 + 0x10000 * n) 8 v.toNat = (d.walkCtl n (0x4000030 + 0x10000 * n) 8 (pathCode p) v.toNat).emit .wrDone := by
  have hi : (0x4000030 + 0x10000 * n) / 0x10000 % 0x100 = n := by omega
  have ho : (0x4000030 + 0x10000 * n) % 0x10000 = 0x30 := by omega
  have hslice : 0x4000000 ≤ 0x4000030 + 0x10000 * n ∧ 0x4000030 + 0x10000 * n < 0x4100000 := by omega
  have hlock : ¬ 0x4000030 + 0x10000 * n = 0x3000028 := by omega
  rw [Dev.csrWrite_ring v h (by omega) (by omega) (by omega) (by omega) (by omega) (by omega)]
  simp only [Dev.hookRing, hi, ho, hslice, hlock, if_false]
  rfl

/-- A write with an OP starts the walk. -/
theorem Dev.walkCtl_starts {d : Dev} {n off w p v : Nat} (hb : d.flag CEL_BUSY n = false) (hv : v % 4 ≠ 0) :
    d.walkCtl n off w p v =
      ({ d with cel := { d.cel with walk := Sparse.set none d.cel.walk n (some { op := v % 4, all := bitAt v 2, begun := d.coreRoot }) } } : Dev).setF
        CEL_BUSY 1 n := by
  simp [Dev.walkCtl, hb, hv]

theorem Dev.walkCtl_busy {d : Dev} {n off w p v : Nat} (hb : d.flag CEL_BUSY n = true) : d.walkCtl n off w p v = d.csrAccess off w p 3 := if_pos hb

section
variable {s : State} {n : Unit16} {p : Path} {v : Word64} (h : Reaches s.dev p (0x4000030 + 0x10000 * n.val))

include h

/-- What each of the three commands does where no walk runs. -/
theorem write_celFlushCtl_starts {k : Nat} (hb : s.dev.flag CEL_BUSY n.val = false) (hv : v.toNat % 4 = k) (hk : k ≠ 0) :
    write64 p (0x4000030 + 0x10000 * n.val) v s.fresh =
      (({ s.fresh with cel := { s.dev.cel with walk := Sparse.set none s.dev.cel.walk n.val (some { op := k, all := v.getLsbD 2, begun := s.dev.coreRoot }) } }
        : Dev).setF CEL_BUSY 1 n.val).emit .wrDone := by
  rw [write64, Dev.csrWrite_celFlushCtl (d := s.fresh) n.isLt v h, Dev.walkCtl_starts (d := s.fresh) hb (by omega), hv]
  rfl

/-- And where one runs. -/
theorem write_celFlushCtl_busy (hb : s.dev.flag CEL_BUSY n.val = true) :
    write64 p (0x4000030 + 0x10000 * n.val) v s.fresh = (s.fresh.csrAccess (0x4000030 + 0x10000 * n.val) 8 (pathCode p) 3).emit .wrDone := by
  rw [write64, Dev.csrWrite_celFlushCtl (d := s.fresh) n.isLt v h, Dev.walkCtl_busy (d := s.fresh) hb]

end

section
variable {d : Dev} {n k upto : Nat} {w : Walk}

/-- Without a walk there is none to go on. -/
theorem Dev.walkTo_of_none (h : Sparse.get none d.cel.walk n = none) : d.walkTo n upto = d := by
  simp [Dev.walkTo, h]

/-- The lines of a set that the walk reaches are those in its range. -/
theorem Dev.walkTo_of_one (h : Sparse.get none d.cel.walk n = some w) (hk : d.walkLines n = [k]) :
    d.walkTo n upto =
      (let e : Dev := { d with cel := { d.cel with walk := Sparse.set none d.cel.walk n (some { w with set := max w.set upto }) } }
       if (w.set ≤ bits k 4 15 ∧ bits k 4 15 < upto) ∧ (w.all = true ∨ d.fld CEL_FLUSH_BASE n ≤ k ∧ k < d.fld CEL_FLUSH_BASE n + d.fld CEL_FLUSH_LEN n) then
        e.walkLine n k w.op else e) := by
  have hlo : 256 * d.fld CEL_FLUSH_BASE n ≤ 256 * k ↔ d.fld CEL_FLUSH_BASE n ≤ k := by omega
  have hhi : 256 * k < 256 * d.fld CEL_FLUSH_BASE n + 256 * d.fld CEL_FLUSH_LEN n ↔ k < d.fld CEL_FLUSH_BASE n + d.fld CEL_FLUSH_LEN n := by omega
  simp only [Dev.walkTo, h, hk, List.filter_cons, List.filter_nil, Bool.and_eq_true, Bool.or_eq_true, decide_eq_true_eq, hlo, hhi]
  split <;> rfl

/-- A line that runs no transaction is worked on at once. -/
theorem Dev.walkLine_of_idle (h : d.lineBusy k = false) :
    d.walkLine n k 1 = ((d.walkCount n ((upTo 4).countP fun i => bitAt (d.dirtyMask k) i) 0).flushAny k (sliceUnit n 5)).2
    ∧ d.walkLine n k 2 = ((d.walkCount n ((upTo 4).countP fun i => bitAt (d.dirtyMask k) i) 0).flushInvLine k (sliceUnit n 5)).2
    ∧ d.walkLine n k 3 = (d.discardLine k (sliceUnit n 5)).2.walkCount n 0 (if d.lineDirty k then 1 else 0) := by
  refine ⟨?_, ?_, ?_⟩ <;> (unfold Dev.walkLine; rw [h]; rfl)

/-- One that runs a transaction is asked for behind it. -/
theorem Dev.walkLine_of_busy (h : d.lineBusy k = true) :
    d.walkLine n k 1 = d.enqueue k { op := .flush, rid := sliceUnit n 5, tag := 0, seq := d.cel.seqNext }
    ∧ d.walkLine n k 2 = d.enqueue k { op := .flushInv, rid := sliceUnit n 5, tag := 0, seq := d.cel.seqNext }
    ∧ d.walkLine n k 3 = d.enqueue k { op := .discard, rid := sliceUnit n 5, tag := 0, seq := d.cel.seqNext } := by
  refine ⟨?_, ?_, ?_⟩ <;> (unfold Dev.walkLine; rw [h]; rfl)

/-- CEL_FLUSH_DONE: the walk ends once no line that it has asked for waits. -/
theorem Dev.walkDone_of_walk (hl : d.live = true) (h : Sparse.get none (d.walkTo n 32768).cel.walk n = some w) :
    d.walkDone n = if (d.walkTo n 32768).walkerIdle n = true then (d.walkTo n 32768).walkEnds n w else d.walkTo n 32768 := by
  unfold Dev.walkDone
  rw [hl]
  generalize d.walkTo n 32768 = e at h ⊢
  simp only [h, Dev.walkerIdle, Bool.not_eq_true']
  cases hq : (e.cel.queue.any fun e => homeOf e.1 == n && e.2.rid == sliceUnit n 5)
    || e.cel.trans.any fun e => e.2.any fun t => homeOf e.1 == n && t.req.rid == sliceUnit n 5 <;> simp

end

/-- Settles O31: a write of CEL_FLUSH_CTL starts the walk, whose step is a line of the sets it has not checked. -/
theorem flushWalks : Obligations.FlushWalks := by
  unfold Obligations.FlushWalks
  refine ⟨fun s n p v h hb hv => .of_eq (f := write64 p _ v) rfl (write_celFlushCtl_starts h hb hv (by decide)),
    fun s n p v h hb hv => .of_eq (f := write64 p _ v) rfl (write_celFlushCtl_starts h hb hv (by decide)),
    fun s n p v h hb hv => .of_eq (f := write64 p _ v) rfl (write_celFlushCtl_starts h hb hv (by decide)),
    fun s n p v h hb => ⟨.of_eq (f := write64 p _ v) rfl (write_celFlushCtl_busy h hb), .of_eq (f := write64 p _ v) rfl (write_celFlushCtl_busy h hb),
      .of_eq (f := write64 p _ v) rfl (write_celFlushCtl_busy h hb)⟩,
    fun s n w hl hw hi => .of_eq (f := (·.walkDone n.val)) rfl ((Dev.walkDone_of_walk (d := s.fresh) hl hw).trans (if_pos hi)),
    fun s n w hl hw hi => .of_eq (f := (·.walkDone n.val)) rfl
      ((Dev.walkDone_of_walk (d := s.fresh) hl hw).trans (if_neg (ne_of_eq_of_ne hi Bool.false_ne_true))),
    fun d n k upto w hw hk hs hr => ?_, fun d n k upto w hw hk hs => (Dev.walkTo_of_one hw hk).trans (if_neg fun h => ?_),
    fun d n k h => Dev.walkLine_of_idle h, fun d n k h => Dev.walkLine_of_busy h,
    fun s n hi hw => .of_idle (f := (·.walkDone n.val)) hi rfl ?_⟩
  · rw [Dev.walkTo_of_one hw hk, max_eq_right (by omega)]
    exact if_pos ⟨hs, hr⟩
  · obtain ⟨⟨hset, hupto⟩, hrange⟩ := h
    rcases hs with hs | hs | ⟨hall, hs⟩
    · omega
    · omega
    · rcases hrange with hrange | hrange
      · exact absurd (hall.symm.trans hrange) Bool.false_ne_true
      · omega
  · have hto : s.fresh.walkTo n.val 32768 = s.fresh := Dev.walkTo_of_none hw
    simp only [Dev.walkDone, hto, State.fresh_cel, hw, ite_self]

end Sys2Proof.Machine
end

section
/-! SUPPORT. Requests at a home slice (chapter 09): acceptance, the snoops a request needs, and its completion. -/

namespace Sys2Proof.Machine
open Sys2Proof.Machine.Reg

section
variable {d : Dev} {k : Nat} {r : SliceReq}

/-- A request that its home slice accepts is served or queued there at once. -/
theorem Dev.sliceArrive_of_accepts (h : d.accepts (256 * k) r = true) : d.sliceArrive (homeOf k) k r = d.sliceServe (homeOf k) k r := by
  have hk : 256 * k / 256 = k := by omega
  simp only [Dev.accepts, hk, Bool.not_eq_true'] at h
  exact if_neg (ne_of_eq_of_ne h Bool.false_ne_true)

theorem Dev.sliceArrive_of_full (h : d.accepts (256 * k) r = false) :
    d.sliceArrive (homeOf k) k r = { d with cel := { d.cel with intake := d.cel.intake ++ [(homeOf k, k, r)] } } := by
  have hk : 256 * k / 256 = k := by omega
  simp only [Dev.accepts, hk, Bool.not_eq_false'] at h
  exact if_pos h

/-- The request names one line, and is no FENCE. -/
def SliceOp.ofLine : SliceOp → Bool
  | .rd .. => false
  | .wr .. => false
  | .fence => false
  | _ => true

/-- Once accepted, a request for a line starts, or waits behind the line's transaction. -/
theorem Dev.sliceServe_of_line (ho : r.op.ofLine = true) :
    d.sliceServe (homeOf k) k r = if d.lineBusy k then (d.took k r).enqueue k (d.held r) else (d.took k r).startReq k (d.held r) := by
  obtain ⟨op, rid, tag, seq, dline⟩ := r
  cases op with
  | rd => cases ho
  | wr => cases ho
  | fence => cases ho
  | _ => rfl

theorem Dev.sliceServe_idle (ho : r.op.ofLine = true) (hb : d.lineBusy k = false) :
    d.sliceServe (homeOf k) k r = (d.took k r).startReq k (d.held r) :=
  (Dev.sliceServe_of_line ho).trans (if_neg (ne_of_eq_of_ne hb Bool.false_ne_true))

theorem Dev.sliceServe_busy (ho : r.op.ofLine = true) (hb : d.lineBusy k = true) :
    d.sliceServe (homeOf k) k r = (d.took k r).enqueue k (d.held r) := (Dev.sliceServe_of_line ho).trans (if_pos hb)

/-- The cause that a request's snoops carry. -/
def SliceOp.cause : SliceOp → Nat
  | .flush => 3
  | .flushInv => 3
  | .discard => 3
  | _ => 0

/-- What a request's start counts: a hit or a miss of a slice in cache mode, where it needs the line's data. -/
def Dev.hitCounted (d : Dev) (k : Nat) (op : SliceOp) : Dev :=
  if needsData op (d.dirOf k) && !d.sliceScratch (homeOf k) then
    (if (d.celLine k).isSome then d.inc CEL_HITS 1 (homeOf k) else d.inc CEL_MISSES 1 (homeOf k)) else d

theorem Dev.celLine_hitCounted {op : SliceOp} {j : Nat} : (d.hitCounted k op).celLine j = d.celLine j := by
  unfold Dev.hitCounted
  split
  · split <;> rfl
  · rfl

/-- The dirty line that a DISCARD would drop, for its count. -/
def Dev.dropsAt (d : Dev) (k : Nat) (op : SliceOp) : Nat := if op == .discard && (d.celLine k).any (·.dirty != 0) then 1 else 0

/-- Whether a request's start asks HBM for the line. -/
def Dev.fillsAt (d : Dev) (k : Nat) (op : SliceOp) : Bool :=
  needsData op (d.dirOf k) && !(d.celLine k).isSome && decide (256 * k < hbmEnd)

/-- A request's start: its snoops go out, and it completes where it needs neither an answer nor data. -/
theorem Dev.startReq_eq : d.startReq k r =
    if snoopsFor r.op (d.dirOf k) = [] ∧ d.fillsAt k r.op = false then
      (((snoopsFor r.op (d.dirOf k)).foldl (fun d p => d.sendSnoop k p.1 p.2 r.rid r.op.cause) (d.hitCounted k r.op)).finishReq k r
        (d.dropsAt k r.op)).fenceCheck
    else
      ((snoopsFor r.op (d.dirOf k)).foldl (fun d p => d.sendSnoop k p.1 p.2 r.rid r.op.cause) (d.hitCounted k r.op)).setTrans k
        (some { req := r
                snoops := (snoopsFor r.op (d.dirOf k)).map fun p => snoopFor r r.op.cause p.1 p.2
                fill := d.fillsAt k r.op
                drops := d.dropsAt k r.op }) := by
  simp only [Dev.dropsAt, ← Dev.celLine_hitCounted (d := d) (k := k) (op := r.op) (j := k)]
  obtain ⟨op, rid, tag, seq, dline⟩ := r
  cases op <;> rfl

/-- A request that needs no snoop and has its data, or needs none, completes at once. -/
theorem Dev.startReq_done (hs : snoopsFor r.op (d.dirOf k) = []) (hf : d.fillsAt k r.op = false) :
    d.startReq k r = ((d.hitCounted k r.op).finishReq k r (d.dropsAt k r.op)).fenceCheck := by
  rw [Dev.startReq_eq, if_pos ⟨hs, hf⟩, hs]
  rfl

/-- A request that needs snoops sends them in order and waits for their answers. -/
theorem Dev.startReq_snoops {l : List (Nat × Nat)} (hs : snoopsFor r.op (d.dirOf k) = l) (hl : l ≠ []) :
    d.startReq k r =
      (l.foldl (fun d p => d.sendSnoop k p.1 p.2 r.rid r.op.cause) (d.hitCounted k r.op)).setTrans k
        (some { req := r
                snoops := l.map fun p => snoopFor r r.op.cause p.1 p.2
                fill := d.fillsAt k r.op
                drops := d.dropsAt k r.op }) := by
  subst hs
  rw [Dev.startReq_eq, if_neg fun h => hl h.1]

/-- A request that misses asks HBM for the line. -/
theorem Dev.startReq_fill (hs : snoopsFor r.op (d.dirOf k) = []) (hf : d.fillsAt k r.op = true) :
    d.startReq k r = (d.hitCounted k r.op).setTrans k (some { req := r, fill := true, drops := d.dropsAt k r.op }) := by
  rw [Dev.startReq_eq, if_neg fun h => Bool.false_ne_true (h.2.symm.trans hf), hs, hf]
  rfl

end

/-! ## FLUSH, FLUSH_INV, DISCARD -/

section
variable {d : Dev} {q : Rq} {k opc : Nat} {op : SliceOp}

theorem Dev.flushReq_status (hl : d.live = true) (hs : d.accStatus (256 * k) 256 ≠ 0) :
    d.flushReq q k op opc =
      (d.logStatus (d.accStatus (256 * k) 256) (256 * k) 256 q.stop.val).emit (.resp (reqId q) q.tag.toNat (d.accStatus (256 * k) 256) []) := by
  simp [Dev.flushReq, hl, hs]

theorem Dev.flushReq_homeless (hl : d.live = true) (hs : d.accStatus (256 * k) 256 = 0) (hh : d.homed k = false) :
    d.flushReq q k op opc = d.badOpc (d.targetStop (256 * k)) opc (reqId q) q.tag.toNat := by
  simp [Dev.flushReq, hl, hs, hh]

/-- The request reaches its home slice, which accepts it. -/
theorem Dev.flushReq_served (hl : d.live = true) (hh : d.homed k = true) (hs : d.accStatus (256 * k) 256 = 0)
    (ha : d.accepts (256 * k) (d.rqAsk q op) = true) : d.flushReq q k op opc = d.sliceServe (homeOf k) k (d.rqAsk q op) := by
  rw [← Dev.sliceArrive_of_accepts ha]
  simp [Dev.flushReq, hl, hs, hh]

/-- Where the line runs no transaction it starts there. -/
theorem Dev.flushReq_starts (h : LineAsks d q k op) (ho : op.ofLine = true) :
    d.flushReq q k op opc = (d.took k (d.rqAsk q op)).startReq k (d.held (d.rqAsk q op)) := by
  obtain ⟨hl, hh, hs, ha, hb⟩ := h
  rw [Dev.flushReq_served hl hh hs ha, Dev.sliceServe_idle ho hb]

theorem Dev.flushReq_waits (hl : d.live = true) (hh : d.homed k = true) (hs : d.accStatus (256 * k) 256 = 0)
    (ha : d.accepts (256 * k) (d.rqAsk q op) = true) (ho : op.ofLine = true) (hb : d.lineBusy k = true) :
    d.flushReq q k op opc = (d.took k (d.rqAsk q op)).enqueue k (d.held (d.rqAsk q op)) := by
  rw [Dev.flushReq_served hl hh hs ha, Dev.sliceServe_busy ho hb]

/-- A line that its tile owns is asked for its dirty data first (R294). -/
theorem snoopsFor_flush_of_not_owned {x : Dir} (h : x.owned = false) : snoopsFor .flush x = [] := by
  cases x with
  | none => rfl
  | sh l => rfl
  | ex u => cases h

theorem Dev.walkServed_of_ne {r : SliceReq} {a b : Nat} (h : r.rid ≠ sliceUnit (homeOf k) 5) : d.walkServed k r a b = d := if_neg h

theorem Dev.cleanLine_of_some {l : Line} (hl : d.celLine k = some l) :
    d.cleanLine k = if l.host = 0 then (d.writeBackLine k l).setCel k (some { l with dirty := 0 }) else (d.hostEvict k l).setCel k none := by
  simp [Dev.cleanLine, hl]

theorem Dev.invHolders_of_none {drop : Bool} {orig cause : Nat} (h : d.dirOf k = .none) :
    d.invHolders k drop orig cause = d.setDir k .none := by
  simp [Dev.invHolders, h, Dir.holders]

theorem Dev.flushInvLine_of_some {l : Line} {orig : Nat} (hx : d.dirOf k = .none) (hl : d.celLine k = some l) :
    (d.flushInvLine k orig).2 =
      (if l.host = 0 then (d.setDir k .none).writeBackLine k l else (d.setDir k .none).hostEvict k l).setCel k none := by
  have hl' : (d.setDir k .none).celLine k = some l := hl
  simp only [Dev.flushInvLine, Dev.invHolders_of_none hx, hl']

/-! ### What their completion does, for a requester other than the slice's own flush walker -/

variable {rid tag seq dline n : Nat} {l : Line}

theorem Dev.finishReq_flush (hr : rid ≠ sliceUnit (homeOf k) 5) (hl : d.celLine k = some l) :
    d.finishReq k ⟨.flush, rid, tag, seq, dline⟩ n =
      (if l.host = 0 then ((d.causedBy rid dline).writeBackLine k l).setCel k (some { l with dirty := 0 })
        else ((d.causedBy rid dline).hostEvict k l).setCel k none).emit (.resp rid tag 0 []) := by
  have hl' : (d.causedBy rid dline).celLine k = some l := hl
  simp only [Dev.finishReq, Dev.walkServed_of_ne (r := ⟨.flush, rid, tag, seq, dline⟩) hr, Dev.cleanLine_of_some hl']

theorem Dev.finishReq_flushInv (hr : rid ≠ sliceUnit (homeOf k) 5) (hx : d.dirOf k = .none) (hl : d.celLine k = some l) :
    d.finishReq k ⟨.flushInv, rid, tag, seq, dline⟩ n =
      ((if l.host = 0 then ((d.causedBy rid dline).setDir k .none).writeBackLine k l
        else ((d.causedBy rid dline).setDir k .none).hostEvict k l).setCel k none).emit (.resp rid tag 0 []) := by
  have hx' : (d.causedBy rid dline).dirOf k = .none := hx
  have hl' : (d.causedBy rid dline).celLine k = some l := hl
  simp only [Dev.finishReq, Dev.walkServed_of_ne (r := ⟨.flushInv, rid, tag, seq, dline⟩) hr, Dev.flushInvLine_of_some hx' hl']

theorem Dev.finishReq_discard (hr : rid ≠ sliceUnit (homeOf k) 5) (hx : d.dirOf k = .none) :
    d.finishReq k ⟨.discard, rid, tag, seq, dline⟩ n =
      ((((d.causedBy rid dline).setDir k .none).setCel k none).inc CEL_DISC n (homeOf k)).emit (.resp rid tag 0 []) := by
  have hx' : (d.causedBy rid dline).dirOf k = .none := hx
  simp only [Dev.finishReq, Dev.walkServed_of_ne (r := ⟨.discard, rid, tag, seq, dline⟩) hr, Dev.invHolders_of_none hx']

end

/-! ### FENCE and the slice's queue -/

section
variable {d : Dev} {k : Nat} {f : Fence}

theorem Dev.fenceCheck_closed (hf : d.cel.fences = [f]) (ho : d.fenceOpen f = false) :
    d.fenceCheck = { d with cel := { d.cel with fences := [] } }.emit (.resp f.rid f.tag 0 []) := by
  simp [Dev.fenceCheck, hf, ho]

theorem Dev.fenceCheck_open (hf : d.cel.fences = [f]) (ho : d.fenceOpen f = true) : d.fenceCheck = d := by
  have hd : { d with cel := { d.cel with fences := [f] } } = d := by rw [← hf]
  simpa [Dev.fenceCheck, hf, ho] using hd

/-- A transaction of its requester that came before keeps a FENCE open. -/
theorem Dev.fenceOpen_of_trans {x : Trans} (ht : d.cel.trans = [(k, some x)]) (hk : homeOf k = f.slice) (hr : x.req.rid = f.rid)
    (hs : x.req.seq < f.seq) : d.fenceOpen f = true := by
  simp [Dev.fenceOpen, ht, hk, hr, hs]

theorem Dev.queueAdvance_keeps (h : d.transOf k ≠ none ∨ d.cel.queue = []) : d.queueAdvance k = d := by
  unfold Dev.queueAdvance
  rcases h with ht | hq
  · simp [Option.isSome_iff_ne_none.mpr ht]
  · simp [hq]

section
variable {r : SliceReq} {l : List (Nat × SliceReq)} (hl : d.live = true) (ht : d.transOf k = none) (hq : d.cel.queue = (k, r) :: l)
include hl ht hq

/-! The first request that waits for the line leaves the queue and is served. -/

theorem Dev.queueAdvance_line (ho : r.op.ofLine = true ∨ r.op = .fence) :
    d.queueAdvance k = { d with cel := { d.cel with queue := l } }.startReq k r := by
  obtain ⟨op, rid, tag, seq, dline⟩ := r
  simp only [Dev.queueAdvance, hl, ht, hq, List.find?_cons, beq_self_eq_true, List.erase_cons_head]
  cases op with
  | rd => simp [SliceOp.ofLine] at ho
  | wr => simp [SliceOp.ofLine] at ho
  | _ => rfl

theorem Dev.queueAdvance_rd {a n : Nat} {x y : Bool} (ho : r.op = .rd a n x y) :
    d.queueAdvance k = { d with cel := { d.cel with queue := l } }.plainAgain a n r := by
  simp [Dev.queueAdvance, hl, ht, hq, ho]

theorem Dev.queueAdvance_wr {a : Nat} {w : WrBytes} {x y : Bool} {c : Option (Fin 64)} (ho : r.op = .wr a w x y c) :
    d.queueAdvance k = { d with cel := { d.cel with queue := l } }.plainAgain a w.length r := by
  simp [Dev.queueAdvance, hl, ht, hq, ho]

end

end

/-! ### The four requests from their issue to their end -/

section
variable {d : Dev} {q : Rq} {k : Nat} {l : Line}

theorem snoopsFor_holders {op : SliceOp} {x : Dir} (ho : op = .flushInv ∨ op = .discard) :
    snoopsFor op x = x.holders.map fun u => (1, u) := by
  rcases ho with rfl | rfl <;> cases x <;> rfl

theorem Dev.flushReq_flush (h : LineAsks d q k .flush) (ho : (d.dirOf k).owned = false) (hl : d.celLine k = some l)
    (hr : reqId q ≠ sliceUnit (homeOf k) 5) :
    d.flushReq q k .flush 0x18 =
      (if l.host = 0 then ((d.serves q k .flush).writeBackLine k l).setCel k (some { l with dirty := 0 })
        else ((d.serves q k .flush).hostEvict k l).setCel k none).doneFor q :=
  (Dev.flushReq_starts h rfl).trans
    ((Dev.startReq_done (snoopsFor_flush_of_not_owned ho) rfl).trans (congrArg Dev.fenceCheck (Dev.finishReq_flush hr hl)))

theorem Dev.flushReq_flush_owned {u : Nat} (h : LineAsks d q k .flush) (hx : d.dirOf k = .ex u) :
    d.flushReq q k .flush 0x18 =
      ((d.took k (d.rqAsk q .flush)).sendSnoop k 3 u (reqId q) 3).setTrans k
        (some { req := d.held (d.rqAsk q .flush), snoops := [snoopFor (d.rqAsk q .flush) 3 3 u] }) :=
  (Dev.flushReq_starts h rfl).trans (Dev.startReq_snoops (l := [(3, u)]) (congrArg (snoopsFor .flush) hx) (List.cons_ne_nil _ _))

theorem Dev.flushReq_flushInv (h : LineAsks d q k .flushInv) (hx : d.dirOf k = .none) (hl : d.celLine k = some l)
    (hr : reqId q ≠ sliceUnit (homeOf k) 5) :
    d.flushReq q k .flushInv 0x19 =
      (let e := (d.serves q k .flushInv).setDir k .none
       (if l.host = 0 then e.writeBackLine k l else e.hostEvict k l).setCel k none).doneFor q :=
  (Dev.flushReq_starts h rfl).trans
    ((Dev.startReq_done (congrArg (snoopsFor .flushInv) hx) rfl).trans (congrArg Dev.fenceCheck (Dev.finishReq_flushInv hr hx hl)))

theorem Dev.flushReq_flushInv_held (h : LineAsks d q k .flushInv) (hh : (d.dirOf k).holders ≠ []) :
    d.flushReq q k .flushInv 0x19 =
      ((d.dirOf k).holders.foldl (fun (d : Dev) u => d.sendSnoop k 1 u (reqId q) 3) (d.took k (d.rqAsk q .flushInv))).setTrans k
        (some { req := d.held (d.rqAsk q .flushInv), snoops := (d.dirOf k).holders.map (snoopFor (d.rqAsk q .flushInv) 3 1) }) := by
  refine (Dev.flushReq_starts h rfl).trans
    ((Dev.startReq_snoops (snoopsFor_holders (op := .flushInv) (.inl rfl)) (mt List.map_eq_nil_iff.mp hh)).trans ?_)
  rw [List.foldl_map, List.map_map]
  rfl

theorem Dev.flushReq_discard (h : LineAsks d q k .discard) (hx : d.dirOf k = .none) (hr : reqId q ≠ sliceUnit (homeOf k) 5) :
    d.flushReq q k .discard 0x1A =
      ((((d.serves q k .discard).setDir k .none).setCel k none).inc CEL_DISC
        (if (d.celLine k).any (·.dirty != 0) then 1 else 0) (homeOf k)).doneFor q :=
  (Dev.flushReq_starts h rfl).trans
    ((Dev.startReq_done (congrArg (snoopsFor .discard) hx) rfl).trans (congrArg Dev.fenceCheck (Dev.finishReq_discard hr hx)))

theorem Dev.fenceReq_placed {n : Nat} (hl : d.live = true) (ha : (d.cel.intake.any fun e => e.1 == n) = false) :
    d.fenceReq q n =
      { d.celGrant n (some (d.fenceAsk q).cls) with
          cel := { (d.celGrant n (some (d.fenceAsk q).cls)).cel with
            seqNext := d.cel.seqNext + 1,
            fences := d.cel.fences ++ [Fence.mk n (reqId q) q.tag.toNat d.cel.seqNext] } }.fenceCheck := by
  have hw : ∀ r : SliceReq, r.op = .fence → d.sliceStalls 0 r = false := by
    rintro ⟨op, rid, tag, seq, dline⟩ rfl
    rfl
  unfold Dev.fenceReq Dev.sliceArrive
  simp only [hl, Bool.not_true, Bool.false_eq_true, ↓reduceIte, ha, hw, Bool.or_false]
  rfl

end

/-- Settles O29: each clause starts one request of a line, of a FENCE or of the slice's queue and follows it to its end. -/
theorem flushRequests : Obligations.FlushRequests := by
  refine ⟨fun s q k l h ho hl hr => ?_, fun s q k u h hx => ?_, fun s q k l h hx hl hr => ?_, fun s q k h _ hh => ?_,
    fun s q k h hx hr => ?_, fun s q k hl hh hs hb ha => ?_, fun s q k hl hs => ?_, fun s q k hl hs hh => ?_,
    fun s q n hl ha => ?_, fun d f hf ho => Dev.fenceCheck_closed hf ho,
    fun d f k x hf ht hk hr hs => Dev.fenceCheck_open hf (Dev.fenceOpen_of_trans ht hk hr hs), fun s k r l hl ht hq ho => ?_,
    fun s k r l a n x y hl ht hq ho => ?_, fun s k r l a w x y c hl ht hq ho => ?_, fun s k hi h => ?_⟩
  · exact .of_eq (f := (·.flushReq q k.toNat .flush 0x18)) rfl (Dev.flushReq_flush (d := s.fresh) (q := q) (k := k.toNat) h ho hl hr)
  · exact .of_eq (f := (·.flushReq q k.toNat .flush 0x18)) rfl (Dev.flushReq_flush_owned (d := s.fresh) (q := q) (k := k.toNat) h hx)
  · exact .of_eq (f := (·.flushReq q k.toNat .flushInv 0x19)) rfl
      (Dev.flushReq_flushInv (d := s.fresh) (q := q) (k := k.toNat) h hx hl hr)
  · exact .of_eq (f := (·.flushReq q k.toNat .flushInv 0x19)) rfl
      (Dev.flushReq_flushInv_held (d := s.fresh) (q := q) (k := k.toNat) h hh)
  · exact .of_eq (f := (·.flushReq q k.toNat .discard 0x1A)) rfl
      (Dev.flushReq_discard (d := s.fresh) (q := q) (k := k.toNat) h hx hr)
  · have h (op opc) (ho : op.ofLine = true) (ha : s.dev.accepts (256 * k.toNat) (s.dev.rqAsk q op) = true) :=
      Dev.flushReq_waits (d := s.fresh) (q := q) (k := k.toNat) (op := op) (opc := opc) hl hh hs ha ho hb
    exact ⟨.of_eq (f := (·.flushReq q k.toNat .flush 0x18)) rfl (h .flush 0x18 rfl ha),
      .of_eq (f := (·.flushReq q k.toNat .flushInv 0x19)) rfl (h .flushInv 0x19 rfl ha),
      .of_eq (f := (·.flushReq q k.toNat .discard 0x1A)) rfl (h .discard 0x1A rfl ha)⟩
  · have h (op opc) := Dev.flushReq_status (d := s.fresh) (q := q) (k := k.toNat) (op := op) (opc := opc) hl hs
    exact ⟨.of_eq (f := (·.flushReq q k.toNat .flush 0x18)) rfl (h .flush 0x18),
      .of_eq (f := (·.flushReq q k.toNat .flushInv 0x19)) rfl (h .flushInv 0x19),
      .of_eq (f := (·.flushReq q k.toNat .discard 0x1A)) rfl (h .discard 0x1A)⟩
  · have h (op opc) := Dev.flushReq_homeless (d := s.fresh) (q := q) (k := k.toNat) (op := op) (opc := opc) hl hs hh
    exact ⟨.of_eq (f := (·.flushReq q k.toNat .flush 0x18)) rfl (h .flush 0x18),
      .of_eq (f := (·.flushReq q k.toNat .flushInv 0x19)) rfl (h .flushInv 0x19),
      .of_eq (f := (·.flushReq q k.toNat .discard 0x1A)) rfl (h .discard 0x1A)⟩
  · exact .of_eq (f := (·.fenceReq q n.val)) rfl (Dev.fenceReq_placed (d := s.fresh) (q := q) (n := n.val) hl ha)
  · have ho' : r.op.ofLine = true ∨ r.op = .fence := by
      cases h : r.op <;> simp_all [SliceOp.ofLine]
    exact .of_eq (f := (·.queueAdvance k.toNat)) rfl (Dev.queueAdvance_line (d := s.fresh) hl ht hq ho')
  · exact .of_eq (f := (·.queueAdvance k.toNat)) rfl (Dev.queueAdvance_rd (d := s.fresh) hl ht hq ho)
  · exact .of_eq (f := (·.queueAdvance k.toNat)) rfl (Dev.queueAdvance_wr (d := s.fresh) hl ht hq ho)
  · exact .of_idle (f := (·.queueAdvance k.toNat)) hi rfl (Dev.queueAdvance_keeps (d := s.fresh) h)

end Sys2Proof.Machine
end

section
/-! SUPPORT. What a write of device memory leaves alone, and what the eviction of a line does: the register fields and the cause that
requests at a home slice read stay. -/

namespace Sys2Proof.Machine
open Sys2Proof.Machine.Reg

/-- From `d` to `e` only the contents of memory and their marks may differ. -/
def Dev.MemOnly (d e : Dev) : Prop := ∃ m p q, e = { d with mem := m, poison := p, soft := q }

theorem Dev.MemOnly.refl (d : Dev) : Dev.MemOnly d d := ⟨_, _, _, rfl⟩

theorem Dev.MemOnly.trans {d e g : Dev} (h : Dev.MemOnly d e) (k : Dev.MemOnly e g) : Dev.MemOnly d g := by
  obtain ⟨m, p, q, rfl⟩ := h
  obtain ⟨m', p', q', rfl⟩ := k
  exact ⟨m', p', q', rfl⟩

theorem Dev.MemOnly.foldl {α : Type} {f : Dev → α → Dev} (hf : ∀ g a, Dev.MemOnly g (f g a)) (l : List α) (d : Dev) :
    Dev.MemOnly d (l.foldl f d) := by
  induction l generalizing d with
  | nil => exact .refl d
  | cons a r ih => exact (hf d a).trans (ih _)

theorem Dev.memOnly_markBad (d : Dev) (a n : Nat) (on : Bool) : Dev.MemOnly d (d.markBad a n on) :=
  .foldl (fun _ _ => ⟨_, _, _, rfl⟩) _ d

theorem Dev.memOnly_putBytes (d : Dev) (a : Nat) (w : WrBytes) : Dev.MemOnly d (d.putBytes a w) := by
  induction w generalizing d a with
  | nil => exact .refl d
  | cons b r ih =>
    cases b with
    | none => exact ih d (a + 1)
    | some b => exact Dev.MemOnly.trans ⟨_, _, _, rfl⟩ (ih (d.putByte a b) (a + 1))

theorem Dev.memOnly_rawWrite (d : Dev) (a : Nat) (w : WrBytes) : Dev.MemOnly d (d.rawWrite a w) :=
  (d.memOnly_putBytes a w).trans (.foldl (fun g i => by
    dsimp only
    split
    · exact g.memOnly_markBad _ _ _
    · exact .refl g) _ _)

/-- From `d` to `e` the modes of the slices and the request that moves a line have stayed. -/
structure Dev.SameCause (d e : Dev) : Prop where
  scratch : ∀ n, e.sliceScratch n = d.sliceScratch n
  orig : e.cel.orig = d.cel.orig
  dline : e.cel.dline = d.cel.dline

namespace Dev.SameCause

section
variable {d e g : Dev}

theorem refl (d : Dev) : Dev.SameCause d d := ⟨fun _ => rfl, rfl, rfl⟩

theorem trans (h : Dev.SameCause d e) (k : Dev.SameCause e g) : Dev.SameCause d g :=
  ⟨fun n => (k.scratch n).trans (h.scratch n), k.orig.trans h.orig, k.dline.trans h.dline⟩

theorem memOnly (h : Dev.SameCause d e) (k : Dev.MemOnly e g) : Dev.SameCause d g := by
  obtain ⟨m, p, q, rfl⟩ := k
  exact h.trans ⟨fun _ => rfl, rfl, rfl⟩

theorem setF (h : Dev.SameCause d e) {f : Fld} {i j : Nat} (v : Nat) (hk : ∀ n, CEL_MODE.key n 0 ≠ f.key i j) : Dev.SameCause d (e.setF f v i j) :=
  h.trans ⟨fun n => Dev.flag_setF_ne e v (hk n), rfl, rfl⟩

theorem emit (h : Dev.SameCause d e) (o : Out) : Dev.SameCause d (e.emit o) := h.trans ⟨fun _ => rfl, rfl, rfl⟩
theorem setTc (h : Dev.SameCause d e) (t k : Nat) (l : Option TLine) : Dev.SameCause d (e.setTc t k l) := h.trans ⟨fun _ => rfl, rfl, rfl⟩
theorem setWb (h : Dev.SameCause d e) (t k : Nat) (x : Option (TLine × Bool)) : Dev.SameCause d (e.setWb t k x) :=
  h.trans ⟨fun _ => rfl, rfl, rfl⟩
theorem setCel (h : Dev.SameCause d e) (k : Nat) (l : Option Line) : Dev.SameCause d (e.setCel k l) := h.trans ⟨fun _ => rfl, rfl, rfl⟩
theorem setDir (h : Dev.SameCause d e) (k : Nat) (x : Dir) : Dev.SameCause d (e.setDir k x) := h.trans ⟨fun _ => rfl, rfl, rfl⟩

theorem logDieDown (h : Dev.SameCause d e) (t : Nat) : Dev.SameCause d (e.logDieDown t) := by
  refine h.trans ⟨fun n => ?_, by simp [Dev.logDieDown], by simp [Dev.logDieDown]⟩
  unfold Dev.logDieDown Dev.logF Dev.sliceScratch Dev.flag
  rw [Dev.fld_msix _ _ (by simp only [Fld.key, Fld.at, CEL_MODE, MGT_INT_STAT, fLK, fW1C, Fld.arr]; omega),
    Dev.fld_logEv _ _ (by decide) _ _ _ (by simp only [Fld.key, Fld.at, CEL_MODE, EMB_LOST, fLK, fRO, Fld.arr]; omega)]

theorem foldl {α : Type} {f : Dev → α → Dev} (hf : ∀ g a, Dev.SameCause g (f g a)) (l : List α) (d : Dev) : Dev.SameCause d (l.foldl f d) := by
  induction l generalizing d with
  | nil => exact refl d
  | cons a r ih => exact (hf d a).trans (ih _)

theorem ite {p : Prop} [Decidable p] (h : Dev.SameCause d e) (k : Dev.SameCause d g) : Dev.SameCause d (if p then e else g) := by
  split
  · exact h
  · exact k

end

end Dev.SameCause

theorem Dev.sameCause_backWrite (d : Dev) (k mask : Nat) (b : BitVec 2048) (p : Nat) : Dev.SameCause d (d.backWrite k mask b p) := by
  refine .foldl (fun g i => ?_) _ d
  dsimp only
  refine .ite ?_ (.refl g)
  split
  · exact (Dev.SameCause.refl g).logDieDown _
  · have h := (((Dev.SameCause.refl g).emit _).ite (.refl g) : Dev.SameCause g
      (if 256 * k < hbmEnd then g.hbmAsk (256 * k + 64 * i) 64 true 1 0xFFFF else g)).memOnly
        (Dev.memOnly_rawWrite _ (256 * k + 64 * i) (allOn (lineSlice b (64 * i) (64 * i + 64))))
    exact .ite (h.memOnly (Dev.memOnly_markBad _ _ _ _)) h

theorem Dev.sameCause_mergeIn (d : Dev) (k mask : Nat) (b : BitVec 2048) (p : Nat) : Dev.SameCause d (d.mergeIn k mask b p) := by
  unfold Dev.mergeIn
  refine .ite (.refl d) ?_
  split
  · exact (Dev.SameCause.refl d).setCel _ _
  · exact d.sameCause_backWrite _ _ _ _

theorem Dev.sameCause_sendSnoop (d : Dev) (k op t orig cause : Nat) : Dev.SameCause d (d.sendSnoop k op t orig cause) :=
  ((Dev.SameCause.refl d).setF _ fun n => by simp only [Fld.key, Fld.at, CEL_MODE, CEL_SNOOPS, fLK, fRO, Fld.arr]; omega).emit _

theorem Dev.sameCause_tileSnooped (d : Dev) (t k op : Nat) : Dev.SameCause d (d.tileSnooped t k op).2.2.2 := by
  unfold Dev.tileSnooped
  split
  · exact (Dev.SameCause.refl d).setWb _ _ _
  · exact .refl d
  · dsimp only
    split <;> exact (Dev.SameCause.refl d).setTc _ _ _

theorem Dev.sameCause_snoop (d : Dev) (k op t : Nat) (drop : Bool) (orig cause : Nat) : Dev.SameCause d (d.snoop k op t drop orig cause) := by
  unfold Dev.snoop
  have h := (d.sameCause_sendSnoop k op t orig cause).trans ((d.sendSnoop k op t orig cause).sameCause_tileSnooped t k op)
  generalize (d.sendSnoop k op t orig cause).tileSnooped t k op = x at h ⊢
  obtain ⟨mask, data, poison, e⟩ := x
  exact .ite h (h.trans (e.sameCause_mergeIn k mask data poison))

theorem Dev.sameCause_invHolders (d : Dev) (k : Nat) (drop : Bool) (orig cause : Nat) : Dev.SameCause d (d.invHolders k drop orig cause) :=
  (Dev.SameCause.foldl (fun g t => g.sameCause_snoop k 1 t drop orig cause) _ d).setDir _ _

theorem Dev.sameCause_hostEvict (d : Dev) (k : Nat) (l : Line) : Dev.SameCause d (d.hostEvict k l) :=
  .ite ((Dev.SameCause.refl d).emit _) ((Dev.SameCause.refl d).emit _)

theorem Dev.sameCause_writeBackLine (d : Dev) (k : Nat) (l : Line) : Dev.SameCause d (d.writeBackLine k l) :=
  .ite (d.sameCause_backWrite _ _ _ _) (.refl d)

/-- The eviction of a line is its home slice's own doing: the request that moves another stays in place. -/
theorem Dev.sameCause_evictLine (d : Dev) (k : Nat) : Dev.SameCause d (d.evictLine k) := by
  unfold Dev.evictLine
  dsimp only
  have h := (d.sameCause_invHolders k false (sliceUnit (homeOf k) 7) 1).setF (f := CEL_BACKINV) (i := homeOf k) (j := 0)
    (satAdd CEL_BACKINV.w ((d.invHolders k false (sliceUnit (homeOf k) 7) 1).fld CEL_BACKINV (homeOf k)) (d.dirOf k).holders.length)
    fun n => by simp only [Fld.key, Fld.at, CEL_MODE, CEL_BACKINV, fLK, fRO, Fld.arr]; omega
  split
  · exact h
  · exact (h.trans (.ite (Dev.sameCause_writeBackLine _ _ _) (Dev.sameCause_hostEvict _ _ _))).setCel _ _

theorem Dev.sameCause_filterRoom (d : Dev) (k : Nat) : Dev.SameCause d (d.filterRoom k) := by
  have hfree (n : Nat) : Dev.SameCause d { d with freeCtr := n } := ⟨fun _ => rfl, rfl, rfl⟩
  unfold Dev.filterRoom
  split
  · exact .refl d
  · dsimp only
    split
    · exact .refl d
    · split
      · exact (hfree _).trans (Dev.sameCause_evictLine _ _)
      · exact .refl d

end Sys2Proof.Machine
end

section
/-! SUPPORT. Requests of the tile caches at the home slice (chapter 09). -/

namespace Sys2Proof.Machine
open Sys2Proof.Machine.Reg

section
variable {d : Dev} {t k : Nat} {op : SliceOp} {r : SliceReq} {l : Line}

/-! ## From the tile to the slice -/

/-- The tile's miss counter is no part of what its address goes by. -/
theorem Dev.accStatus_miss {i n : Nat} (ht : tileLine k = true) : (d.inc TC_MISS n i).accStatus (256 * k) 256 = d.accStatus (256 * k) 256 := by
  have hf {g : Fld} {a b : Nat} (h : g.key a b ≠ TC_MISS.key i 0) : (d.inc TC_MISS n i).fld g a b = d.fld g a b := Dev.fld_setF_ne d _ h
  have hctl : (d.inc TC_MISS n i).fld DIE_HBM_CTL_OK = d.fld DIE_HBM_CTL_OK :=
    hf (by simp only [Fld.key, Fld.at, DIE_HBM_CTL_OK, TC_MISS, fRO, Fld.arr]; omega)
  have hcel : (d.inc TC_MISS n i).fld DIE_CEL_OK = d.fld DIE_CEL_OK :=
    hf (by simp only [Fld.key, Fld.at, DIE_CEL_OK, TC_MISS, fRO, Fld.arr]; omega)
  have hil : (d.inc TC_MISS n i).fld MAP_HBM_IL = d.fld MAP_HBM_IL :=
    hf (by simp only [Fld.key, Fld.at, MAP_HBM_IL, TC_MISS, fRO, fLK, Fld.arr]; omega)
  have hmode (s : Nat) : (d.inc TC_MISS n i).fld CEL_MODE s = d.fld CEL_MODE s :=
    hf (by simp only [Fld.key, Fld.at, CEL_MODE, TC_MISS, fRO, fLK, Fld.arr]; omega)
  have hgran : (d.inc TC_MISS n i).granule = d.granule := by
    unfold Dev.granule
    rw [hil]
  have hpd : (d.inc TC_MISS n i).fld DIE_PD_UP = d.fld DIE_PD_UP :=
    hf (by simp only [Fld.key, Fld.at, DIE_PD_UP, TC_MISS, fRO, Fld.arr]; omega)
  have hdie (a m : Nat) : (d.inc TC_MISS n i).dieDown a m = d.dieDown a m := by
    unfold Dev.dieDown Dev.hbmTouched Dev.hbmOfAddr Dev.fbit
    rw [hgran, hctl, hcel, hpd]
  unfold tileLine at ht
  split at ht
  next hp =>
    simp only [Dev.accStatus, Dev.stopStatus, Dev.farStatus, Dev.targetStatus, hp, hdie]
  next hp =>
    simp only [Dev.accStatus, Dev.stopStatus, Dev.farStatus, Dev.targetStatus, Dev.sliceScratch, Dev.flag, hp, hdie, hmode]
    rfl
  next => cases ht

theorem Dev.now_miss {i n : Nat} : (d.inc TC_MISS n i).now = d.now := by
  have hf {g : Fld} (h : g.key 0 0 ≠ TC_MISS.key i 0) : (d.inc TC_MISS n i).fld g = d.fld g := Dev.fld_setF_ne d _ h
  have hstate : (d.inc TC_MISS n i).fld REP_STATE = d.fld REP_STATE :=
    hf (by simp only [Fld.key, Fld.at, REP_STATE, TC_MISS, fRO, Fld.arr]; omega)
  have hrt : (d.inc TC_MISS n i).fld REP_RT = d.fld REP_RT := hf (by simp only [Fld.key, Fld.at, REP_RT, TC_MISS, fRO, Fld.arr]; omega)
  simp only [Dev.now, Dev.running, hstate, hrt]
  rfl

/-- A request that the tile sends counts its miss and reaches the line's home slice. -/
theorem Dev.tileReq_sent (h : TileSends d t k) :
    d.tileReq t k op = (d.inc TC_MISS 1 (d.ptile t)).sliceArrive (homeOf k) k (d.tcAsk t op) := by
  obtain ⟨hr, hc, ht, hrst, hs⟩ := h
  simp [Dev.tileReq, hr, hc, ht, hrst, Dev.accStatus_miss ht, hs, Dev.now_miss]
  rfl

/-- It is refused where no slice serves its address. -/
theorem Dev.tileReq_refused (hr : d.released = true) (hc : d.tcSize ≠ 0) (ht : tileLine k = true) (hrst : d.tileResetting t = false)
    (hs : d.accStatus (256 * k) 256 ≠ 0) :
    d.tileReq t k op = ((d.inc TC_MISS 1 (d.ptile t)).logStatus (d.accStatus (256 * k) 256) (256 * k) 256 (tileStop (d.ptile t))).emit
      (.resp (d.cacheRid t) 0 (d.accStatus (256 * k) 256) []) := by
  have hstop : ridOf (tileStop (d.ptile t)) 3 / 16 = tileStop (d.ptile t) := by
    unfold ridOf
    omega
  simp [Dev.tileReq, hr, hc, ht, hrst, Dev.accStatus_miss ht, hs, hstop]
  rfl

theorem Dev.tileReq_starts (h : TileAsks d t k op) (ho : op.ofLine = true) :
    d.tileReq t k op = (d.asked t k op).startReq k (d.held (d.tcAsk t op)) := by
  obtain ⟨hsend, ha, hb⟩ := h
  have hacc : (d.inc TC_MISS 1 (d.ptile t)).accepts (256 * k) (d.tcAsk t op) = true := ha
  rw [Dev.tileReq_sent hsend, Dev.sliceArrive_of_accepts hacc]
  exact Dev.sliceServe_idle ho hb

theorem Dev.tileReq_waits (h : TileSends d t k) (ha : d.accepts (256 * k) (d.tcAsk t op) = true) (ho : op.ofLine = true)
    (hb : d.lineBusy k = true) : d.tileReq t k op = (d.asked t k op).enqueue k (d.held (d.tcAsk t op)) := by
  have hacc : (d.inc TC_MISS 1 (d.ptile t)).accepts (256 * k) (d.tcAsk t op) = true := ha
  rw [Dev.tileReq_sent h, Dev.sliceArrive_of_accepts hacc]
  exact Dev.sliceServe_busy ho hb

/-! ## What its start counts -/

theorem Dev.hitCounted_hit (hn : needsData op (d.dirOf k) = true) (hs : d.sliceScratch (homeOf k) = false) (hl : (d.celLine k).isSome = true) :
    d.hitCounted k op = d.inc CEL_HITS 1 (homeOf k) := by
  simp [Dev.hitCounted, hn, hs, hl]

theorem Dev.hitCounted_miss (hn : needsData op (d.dirOf k) = true) (hs : d.sliceScratch (homeOf k) = false) (hl : d.celLine k = none) :
    d.hitCounted k op = d.inc CEL_MISSES 1 (homeOf k) := by
  simp [Dev.hitCounted, hn, hs, hl]

theorem Dev.hitCounted_scratch (hs : d.sliceScratch (homeOf k) = true) : d.hitCounted k op = d := by
  simp [Dev.hitCounted, hs]

theorem Dev.hitCounted_no_data (hn : needsData op (d.dirOf k) = false) : d.hitCounted k op = d := by
  simp [Dev.hitCounted, hn]

theorem Dev.fillsAt_of_held (hl : (d.celLine k).isSome = true) : d.fillsAt k op = false := by
  simp [Dev.fillsAt, hl]

theorem Dev.sliceScratch_asked {n : Nat} : (d.asked t k op).sliceScratch n = d.sliceScratch n :=
  Dev.flag_setF_ne d _ (by simp only [Fld.key, Fld.at, CEL_MODE, TC_MISS, fRO, fLK, Fld.arr]; omega)

theorem Dev.sliceScratch_hit {i n : Nat} : (d.inc CEL_HITS 1 i).sliceScratch n = d.sliceScratch n :=
  Dev.flag_setF_ne d _ (by simp only [Fld.key, Fld.at, CEL_MODE, CEL_HITS, fRO, fLK, Fld.arr]; omega)

/-! ## The grant of a line to a tile -/

/-- The line goes to tile `t` in state `st`: its filter and its array make room, its data and poison leave, the directory takes `x`. -/
def Dev.grantLine (d : Dev) (k : Nat) (r : SliceReq) (t st : Nat) (x : Dir) : Dev :=
  let e := ((d.causedBy r.rid r.dline).filterRoom k).holdLine k
  let l := (e.celLine k).getD (e.backLine k)
  let p := if e.lineLost k then 15 else l.poison
  ((e.tcTake t k st l.data p).setDir k x).emit (.resp r.rid r.tag (if p = 0 then 0 else 6) (lineSlice l.data 0 256))

section
variable {rid tag seq dline n : Nat}

theorem Dev.finishReq_rdSh_none (hx : d.dirOf k = .none) :
    d.finishReq k ⟨.rdSh t, rid, tag, seq, dline⟩ n = d.grantLine k ⟨.rdSh t, rid, tag, seq, dline⟩ t 2 (.ex t) := by
  have hx' : (d.causedBy rid dline).dirOf k = .none := hx
  simp only [Dev.finishReq, hx']
  rfl

theorem Dev.finishReq_rdSh_shared {h : List Nat} (hx : d.dirOf k = .sh h) :
    d.finishReq k ⟨.rdSh t, rid, tag, seq, dline⟩ n = d.grantLine k ⟨.rdSh t, rid, tag, seq, dline⟩ t 1 (.sh (addSharer t h)) := by
  have hx' : (d.causedBy rid dline).dirOf k = .sh h := hx
  simp only [Dev.finishReq, hx']
  rfl

theorem Dev.finishReq_rdEx :
    d.finishReq k ⟨.rdEx t, rid, tag, seq, dline⟩ n = d.grantLine k ⟨.rdEx t, rid, tag, seq, dline⟩ t 2 (.ex t) := rfl

theorem Dev.finishReq_upgr_lost (hc : d.tcLine t k = none) :
    d.finishReq k ⟨.upgr t, rid, tag, seq, dline⟩ n = d.grantLine k ⟨.upgr t, rid, tag, seq, dline⟩ t 2 (.ex t) := by
  have hc' : (d.causedBy rid dline).tcLine t k = none := hc
  simp only [Dev.finishReq, hc']
  rfl

theorem Dev.finishReq_upgr_held {c : TLine} (hc : d.tcLine t k = some c) :
    d.finishReq k ⟨.upgr t, rid, tag, seq, dline⟩ n =
      (((d.causedBy rid dline).setTc t k (some { c with st := 2 })).setDir k (.ex t)).emit (.resp rid tag 0 []) := by
  have hc' : (d.causedBy rid dline).tcLine t k = some c := hc
  simp only [Dev.finishReq, hc']

end

/-- A slice of the cache that holds the line grants it as it stands. -/
theorem Dev.grantLine_held {st : Nat} {x : Dir} (hs : d.sliceScratch (homeOf k) = false) (hl : d.celLine k = some l) :
    (d.grantLine k r t st x).fenceCheck = d.granted t k st l x r := by
  have hs' : (d.causedBy r.rid r.dline).sliceScratch (homeOf k) = false := hs
  have hl' : (d.causedBy r.rid r.dline).celLine k = some l := hl
  have hroom : (d.causedBy r.rid r.dline).filterRoom k = d.causedBy r.rid r.dline := if_pos (by simp [hs'])
  have hhold : (d.causedBy r.rid r.dline).holdLine k = d.causedBy r.rid r.dline := if_pos (by simp [hl'])
  simp only [Dev.grantLine, hroom, hhold, hl', Option.getD_some]
  rfl

/-- A slice in scratch mode grants the line of its own array, after it has made room in its filter. -/
theorem Dev.grantLine_scratch {st : Nat} {x : Dir} (hs : d.sliceScratch (homeOf k) = true) :
    (d.grantLine k r t st x).fenceCheck =
      (let e := (d.causedBy r.rid r.dline).filterRoom k
       e.granted t k st ((e.celLine k).getD (e.backLine k)) x r) := by
  obtain ⟨hscratch, horig, hdline⟩ := (d.causedBy r.rid r.dline).sameCause_filterRoom k
  unfold Dev.grantLine
  generalize (d.causedBy r.rid r.dline).filterRoom k = e at hscratch horig hdline
  have hhold : e.holdLine k = e := if_pos (by simp [hscratch, show (d.causedBy r.rid r.dline).sliceScratch (homeOf k) = true from hs])
  have hcause : e.causedBy r.rid r.dline = e := by
    unfold Dev.causedBy
    rw [← show e.cel.orig = r.rid from horig, ← show e.cel.dline = r.dline from hdline]
  simp only [hhold, Dev.granted, hcause]

/-- A request that needs the line's data and finds it in a slice of the cache, with no snoop to wait for. -/
theorem Dev.tileReq_granted {st : Nat} {x : Dir} (h : TileAsks d t k op) (ho : op.ofLine = true) (hs : d.sliceScratch (homeOf k) = false)
    (hl : d.celLine k = some l) (hn : needsData op (d.dirOf k) = true) (hsn : snoopsFor op (d.dirOf k) = [])
    (hfin : ∀ e : Dev, ∀ m, e.dirOf k = d.dirOf k → e.cel.tc = d.cel.tc →
      e.finishReq k (d.held (d.tcAsk t op)) m = e.grantLine k (d.held (d.tcAsk t op)) t st x) :
    d.tileReq t k op = ((d.asked t k op).inc CEL_HITS 1 (homeOf k)).granted t k st l x (d.held (d.tcAsk t op)) := by
  have hl' : (d.asked t k op).celLine k = some l := hl
  have hs' : (d.asked t k op).sliceScratch (homeOf k) = false := Dev.sliceScratch_asked.trans hs
  rw [Dev.tileReq_starts h ho, Dev.startReq_done (d := d.asked t k op) (r := d.held (d.tcAsk t op)) hsn (Dev.fillsAt_of_held (by simp [hl'])),
    Dev.hitCounted_hit (d := d.asked t k op) (op := (d.held (d.tcAsk t op)).op) hn hs' (by simp [hl']),
    hfin ((d.asked t k op).inc CEL_HITS 1 (homeOf k)) _ rfl rfl]
  exact Dev.grantLine_held (Dev.sliceScratch_hit.trans hs') hl

/-- A line of scratch is served from its slice's own array. -/
theorem Dev.tileReq_rdSh_scratch (h : TileAsks d t k (.rdSh t)) (hs : d.sliceScratch (homeOf k) = true) (hx : d.dirOf k = .none)
    (hk : hbmEnd ≤ 256 * k) :
    d.tileReq t k (.rdSh t) =
      (let e := ((d.asked t k (.rdSh t)).causedBy (d.cacheRid t) (dlineAt d.now)).filterRoom k
       e.granted t k 2 ((e.celLine k).getD (e.backLine k)) (.ex t) (d.held (d.tcAsk t (.rdSh t)))) := by
  have hs' : (d.asked t k (.rdSh t)).sliceScratch (homeOf k) = true := Dev.sliceScratch_asked.trans hs
  have hfill : (d.asked t k (.rdSh t)).fillsAt k (.rdSh t) = false := by simp [Dev.fillsAt, Nat.not_lt.mpr hk]
  rw [Dev.tileReq_starts h rfl, Dev.startReq_done (d := d.asked t k (.rdSh t)) (r := d.held (d.tcAsk t (.rdSh t))) (congrArg (snoopsFor _) hx) hfill,
    Dev.hitCounted_scratch (op := (d.held (d.tcAsk t (.rdSh t))).op) hs', Dev.finishReq_rdSh_none (d := d.asked t k (.rdSh t)) hx]
  exact Dev.grantLine_scratch hs'

/-- The only sharer upgrades its own copy. -/
theorem Dev.tileReq_upgr_only {c : TLine} (h : TileAsks d t k (.upgr t)) (hx : d.dirOf k = .sh [t]) (hc : d.tcLine t k = some c) :
    d.tileReq t k (.upgr t) =
      (((((d.asked t k (.upgr t)).causedBy (d.cacheRid t) (dlineAt d.now)).setTc t k (some { c with st := 2 })).setDir k (.ex t)).emit
        (.resp (d.cacheRid t) 0 0 [])).fenceCheck := by
  have hn : needsData (.upgr t) ((d.asked t k (.upgr t)).dirOf k) = false := by
    rw [show (d.asked t k (.upgr t)).dirOf k = _ from hx]
    simp [needsData, Dir.holders]
  have hsn : snoopsFor (.upgr t) ((d.asked t k (.upgr t)).dirOf k) = [] := by
    rw [show (d.asked t k (.upgr t)).dirOf k = _ from hx]
    simp [snoopsFor]
  have hfill : (d.asked t k (.upgr t)).fillsAt k (.upgr t) = false := by simp [Dev.fillsAt, hn]
  rw [Dev.tileReq_starts h rfl, Dev.startReq_done (d := d.asked t k (.upgr t)) (r := d.held (d.tcAsk t (.upgr t))) hsn hfill,
    Dev.hitCounted_no_data (op := (d.held (d.tcAsk t (.upgr t))).op) hn]
  exact congrArg Dev.fenceCheck (Dev.finishReq_upgr_held hc)

/-- A request whose snoops go out first. -/
theorem Dev.tileReq_snoops {e : Dev} {sn : List (Nat × Nat)} (h : TileAsks d t k op) (ho : op.ofLine = true)
    (hsn : snoopsFor op (d.dirOf k) = sn) (hne : sn ≠ []) (hc : (d.asked t k op).hitCounted k op = e) (hf : d.fillsAt k op = false)
    (hd : (op == .discard) = false) :
    d.tileReq t k op =
      (sn.foldl (fun g p => g.sendSnoop k p.1 p.2 (d.cacheRid t) op.cause) e).setTrans k
        (some { req := d.held (d.tcAsk t op), snoops := sn.map fun p => snoopFor (d.tcAsk t op) op.cause p.1 p.2 }) := by
  have hdrop : (d.asked t k op).dropsAt k op = 0 := by simp [Dev.dropsAt, hd]
  have hfill : (d.asked t k op).fillsAt k op = false := hf
  rw [Dev.tileReq_starts h ho, Dev.startReq_snoops (d := d.asked t k op) (r := d.held (d.tcAsk t op)) hsn hne]
  simp only [hc, hdrop, hfill]

/-! ## WB and EVC -/

theorem Dev.finishReq_wb {rid tag seq dline n : Nat} {c : TLine} (hw : d.wbOf t k = some (c, false)) :
    d.finishReq k ⟨.wb t, rid, tag, seq, dline⟩ n =
      (let e := ((d.causedBy rid dline).mergeIn k c.dirty c.data c.poison).setWb t k none
       (e.setDir k ((e.dirOf k).without t)).emit (.resp rid tag 0 [])) := by
  have hw' : (d.causedBy rid dline).wbOf t k = some (c, false) := hw
  simp only [Dev.finishReq, hw']
  rfl

theorem Dev.finishReq_evc {rid tag seq dline n : Nat} :
    d.finishReq k ⟨.evc t, rid, tag, seq, dline⟩ n =
      ((d.causedBy rid dline).setDir k ((d.dirOf k).without t)).emit (.resp rid tag 0 []) := rfl

theorem Dev.mergeIn_held {m p : Nat} {b : BitVec 2048} (hm : m ≠ 0) (hl : d.celLine k = some l) :
    d.mergeIn k m b p = d.setCel k (some { l with
      data := mergeSectors m l.data b, dirty := Nat.lor l.dirty m, poison := Nat.lor (maskMinus l.poison m) (Nat.land p m), ll := false }) := by
  simp only [Dev.mergeIn, if_neg hm, hl]

theorem Dev.mergeIn_scratch {m p : Nat} {b : BitVec 2048} (hm : m ≠ 0) (hl : d.celLine k = none) :
    d.mergeIn k m b p = d.backWrite k m b p := by
  simp only [Dev.mergeIn, if_neg hm, hl]

variable {c : TLine}

theorem Dev.tileWb_sent (hr : d.released = true) (hc : d.tcLine t k = some c) (hd : c.dirty ≠ 0) (hw : d.wbOf t k = none)
    (ha : d.accepts (256 * k) (d.tcAsk t (.wb t)) = true) :
    d.tileWb t k = ((d.setTc t k none).setWb t k (some (c, false))).sliceServe (homeOf k) k (d.tcAsk t (.wb t)) := by
  have hacc : ((d.setTc t k none).setWb t k (some (c, false))).accepts (256 * k) (d.tcAsk t (.wb t)) = true := ha
  rw [← Dev.sliceArrive_of_accepts hacc]
  simp [Dev.tileWb, hr, hc, hd, hw]
  rfl

theorem Dev.tileEvc_sent (hr : d.released = true) (hc : d.tcLine t k = some c) (hd : c.dirty = 0)
    (ha : d.accepts (256 * k) (d.tcAsk t (.evc t)) = true) :
    d.tileEvc t k = (d.setTc t k none).sliceServe (homeOf k) k (d.tcAsk t (.evc t)) := by
  have hacc : (d.setTc t k none).accepts (256 * k) (d.tcAsk t (.evc t)) = true := ha
  rw [← Dev.sliceArrive_of_accepts hacc]
  simp [Dev.tileEvc, hr, hc, hd]
  rfl

/-- A WB ends at home: the dirty sectors merge, buffer and directory forget the tile. -/
theorem Dev.tileWb_merges (hr : d.released = true) (hc : d.tcLine t k = some c) (hd : c.dirty ≠ 0) (hw : d.wbOf t k = none)
    (ha : d.accepts (256 * k) (d.tcAsk t (.wb t)) = true) (hb : d.lineBusy k = false) :
    d.tileWb t k =
      (let e := (((((d.setTc t k none).setWb t k (some (c, false))).took k (d.tcAsk t (.wb t))).causedBy
          (d.cacheRid t) (dlineAt d.now)).mergeIn k c.dirty c.data c.poison).setWb t k none
       ((e.setDir k ((e.dirOf k).without t)).emit (.resp (d.cacheRid t) 0 0 [])).fenceCheck) := by
  have hb' : ((d.setTc t k none).setWb t k (some (c, false))).lineBusy k = false := hb
  have hbuf : (((d.setTc t k none).setWb t k (some (c, false))).took k (d.tcAsk t (.wb t))).wbOf t k = some (c, false) :=
    Sparse.get_set_self (d.setTc t k none).cel.wb (tcKey t k) (some (c, false))
  rw [Dev.tileWb_sent hr hc hd hw ha, Dev.sliceServe_idle (r := d.tcAsk t (.wb t)) rfl hb',
    Dev.startReq_done (r := Dev.held _ (d.tcAsk t (.wb t))) rfl rfl]
  exact congrArg Dev.fenceCheck (Dev.finishReq_wb hbuf)

/-- A clean copy goes without data. -/
theorem Dev.tileEvc_goes (hr : d.released = true) (hc : d.tcLine t k = some c) (hd : c.dirty = 0)
    (ha : d.accepts (256 * k) (d.tcAsk t (.evc t)) = true) (hb : d.lineBusy k = false) :
    d.tileEvc t k =
      (((((d.setTc t k none).took k (d.tcAsk t (.evc t))).causedBy (d.cacheRid t) (dlineAt d.now)).setDir k ((d.dirOf k).without t)).emit
        (.resp (d.cacheRid t) 0 0 [])).fenceCheck := by
  have hb' : (d.setTc t k none).lineBusy k = false := hb
  rw [Dev.tileEvc_sent hr hc hd ha, Dev.sliceServe_idle (r := d.tcAsk t (.evc t)) rfl hb',
    Dev.startReq_done (r := Dev.held _ (d.tcAsk t (.evc t))) rfl rfl]
  rfl

end

section
variable {c : Instr} {s : State} {f : Dev → Dev} {d : Dev}

/-- An effect that starts and ends no transaction, sends no answer and writes no memory is the outcome. -/
theorem Leaves.of_kept_queues (hi : Inv s) (hc : exec c s = runAll s f) (hf : f s.fresh = d) (hx : d.cpl = s.dev.cpl)
    (hh : d.safe.handover = s.dev.safe.handover) (ht : d.cel.trans = s.dev.cel.trans) (hq : d.cel.queue = s.dev.cel.queue)
    (ho : d.out.all Out.plain = true) (hr : d.fld REP_STATE = s.dev.fld REP_STATE) (hm : d.mem = s.dev.mem) : Leaves c s d := by
  have hfollow : d.follow s.fresh = d := by
    unfold Dev.follow
    simp only [hx, if_true, hh, State.fresh_cpl, State.fresh_safe]
    cases s.dev.safe.handover <;> simp [ht, hq]
  refine hc.trans (runAll_eq hf hfollow ho (fun h => ?_) (hm ▸ hi.mem))
  simp only [Dev.running, beq_iff_eq] at h
  omega

end

/-- Settles O28: a tile cache's request reaches its home slice, where it starts, waits, or is refused; what it starts is its snoops, its
fill, or the grant of the line. -/
theorem tileCacheRequests : Obligations.TileCacheRequests := by
  refine ⟨fun s t k l h hs hl hx => ?_, fun s t k l g h hs hl hx => ?_, fun s t k u h hs hl hx hu => ?_, fun s t k h hs hl hx hk => ?_,
    fun s t k h hs hl hx hk => ?_, fun s t k l h hs hl hx => ?_, fun s t k g h hs hl hx hg => ?_, fun s t k c h hx hc => ?_,
    fun s t k g h hx hin hg => ?_, fun s t k l h hs hl hx hc => ?_, fun s t k h ha hb => ?_, fun s t k hi h ha => ?_,
    fun s t k hr hc ht hrst hs => ?_, fun s t k c hr hc hd hw ha hb => ?_, fun s t k c hr hc hd hw ha hb => ?_, fun s t k c hr hc hd ha hb => ?_,
    fun d k m p b l hm hl => Dev.mergeIn_held hm hl, fun d k m p b hm hl => Dev.mergeIn_scratch hm hl⟩
  · exact .of_eq (f := (·.tileReq t.val k.toNat (.rdSh t.val))) rfl
      (Dev.tileReq_granted (d := s.fresh) (t := t.val) (k := k.toNat) (op := .rdSh t.val) h rfl hs hl rfl (congrArg (snoopsFor _) hx)
        fun e m he _ => Dev.finishReq_rdSh_none (he.trans hx))
  · exact .of_eq (f := (·.tileReq t.val k.toNat (.rdSh t.val))) rfl
      (Dev.tileReq_granted (d := s.fresh) (t := t.val) (k := k.toNat) (op := .rdSh t.val) h rfl hs hl rfl (congrArg (snoopsFor _) hx)
        fun e m he _ => Dev.finishReq_rdSh_shared (he.trans hx))
  · have hsn : snoopsFor (.rdSh t.val) (s.dev.dirOf k.toNat) = [(2, u)] := (congrArg (snoopsFor _) hx).trans (if_neg hu)
    exact .of_eq (f := (·.tileReq t.val k.toNat (.rdSh t.val))) rfl
      (Dev.tileReq_snoops (d := s.fresh) (t := t.val) (k := k.toNat) (op := .rdSh t.val) h rfl hsn (List.cons_ne_nil _ _)
        (Dev.hitCounted_hit (d := s.fresh.asked t.val k.toNat (.rdSh t.val)) rfl (Dev.sliceScratch_asked.trans hs) hl) (Dev.fillsAt_of_held hl) rfl)
  · have hl' : (s.fresh.asked t.val k.toNat (.rdSh t.val)).celLine k.toNat = none := hl
    exact .of_eq (f := (·.tileReq t.val k.toNat (.rdSh t.val))) rfl
      ((Dev.tileReq_starts (d := s.fresh) (t := t.val) (k := k.toNat) (op := .rdSh t.val) h rfl).trans
        ((Dev.startReq_fill (congrArg (snoopsFor _) hx) (by simp [Dev.fillsAt, hl', hk, needsData])).trans
          (congrArg (Dev.setTrans · _ _) (Dev.hitCounted_miss rfl (Dev.sliceScratch_asked.trans hs) hl))))
  · exact .of_eq (f := (·.tileReq t.val k.toNat (.rdSh t.val))) rfl (Dev.tileReq_rdSh_scratch (d := s.fresh) (t := t.val) (k := k.toNat) h hs hx hk)
  · have hsn : snoopsFor (.rdEx t.val) (s.dev.dirOf k.toNat) = [] := by
      rcases hx with hx | hx <;> simp [hx, snoopsFor]
    exact .of_eq (f := (·.tileReq t.val k.toNat (.rdEx t.val))) rfl
      (Dev.tileReq_granted (d := s.fresh) (t := t.val) (k := k.toNat) (op := .rdEx t.val) h rfl hs hl rfl hsn fun e m _ _ => Dev.finishReq_rdEx)
  · have hsn : snoopsFor (.rdEx t.val) (s.dev.dirOf k.toNat) = (g.filter (· != t.val)).map fun u => (1, u) := congrArg (snoopsFor _) hx
    refine .of_eq (f := (·.tileReq t.val k.toNat (.rdEx t.val))) rfl
      ((Dev.tileReq_snoops (d := s.fresh) (t := t.val) (k := k.toNat) (op := .rdEx t.val) h rfl hsn (by simpa using hg)
        (Dev.hitCounted_hit (d := s.fresh.asked t.val k.toNat (.rdEx t.val)) rfl (Dev.sliceScratch_asked.trans hs) hl)
        (Dev.fillsAt_of_held hl) rfl).trans ?_)
    rw [List.foldl_map, List.map_map]
    rfl
  · exact .of_eq (f := (·.tileReq t.val k.toNat (.upgr t.val))) rfl (Dev.tileReq_upgr_only (d := s.fresh) (t := t.val) (k := k.toNat) h hx hc)
  · have hn : needsData (.upgr t.val) (s.dev.dirOf k.toNat) = false := by simpa [hx, needsData, Dir.holders] using hin
    have hsn : snoopsFor (.upgr t.val) (s.dev.dirOf k.toNat) = (g.filter (· != t.val)).map fun u => (1, u) := congrArg (snoopsFor _) hx
    have hfill : s.fresh.fillsAt k.toNat (.upgr t.val) = false := by
      rw [Dev.fillsAt, show needsData (.upgr t.val) (s.fresh.dirOf k.toNat) = false from hn]
      rfl
    refine .of_eq (f := (·.tileReq t.val k.toNat (.upgr t.val))) rfl
      ((Dev.tileReq_snoops (d := s.fresh) (t := t.val) (k := k.toNat) (op := .upgr t.val) h rfl hsn (by simpa using hg)
        (Dev.hitCounted_no_data (d := s.fresh.asked t.val k.toNat (.upgr t.val)) hn) hfill rfl).trans ?_)
    rw [List.foldl_map, List.map_map]
    rfl
  · have hn : needsData (.upgr t.val) (s.dev.dirOf k.toNat) = true := by simp [hx, needsData, Dir.holders]
    exact .of_eq (f := (·.tileReq t.val k.toNat (.upgr t.val))) rfl
      (Dev.tileReq_granted (d := s.fresh) (t := t.val) (k := k.toNat) (op := .upgr t.val) h rfl hs hl hn (congrArg (snoopsFor _) hx)
        fun e m _ he => Dev.finishReq_upgr_lost (show Sparse.get none e.cel.tc _ = none by rw [he]; exact hc))
  · exact .of_eq (f := (·.tileReq t.val k.toNat (.rdEx t.val))) rfl
      (Dev.tileReq_waits (d := s.fresh) (t := t.val) (k := k.toNat) (op := .rdEx t.val) h ha rfl hb)
  · have hacc : (s.fresh.inc TC_MISS 1 (s.dev.ptile t.val)).accepts (256 * k.toNat) (s.dev.tcAsk t.val (.rdEx t.val)) = false := ha
    exact .of_kept_queues (f := (·.tileReq t.val k.toNat (.rdEx t.val))) hi rfl
      ((Dev.tileReq_sent (d := s.fresh) (t := t.val) (k := k.toNat) h).trans (Dev.sliceArrive_of_full hacc)) rfl rfl rfl rfl rfl
      (Dev.fld_setF_ne _ _ (by simp only [Fld.key, Fld.at, REP_STATE, TC_MISS, fRO, Fld.arr]; omega)) rfl
  · exact .of_eq (f := (·.tileReq t.val k.toNat (.rdSh t.val))) rfl
      (Dev.tileReq_refused (d := s.fresh) (t := t.val) (k := k.toNat) hr hc ht hrst hs)
  · exact .of_eq (f := (·.tileWb t.val k.toNat)) rfl (Dev.tileWb_merges (d := s.fresh) (t := t.val) (k := k.toNat) hr hc hd hw ha hb)
  · exact .of_eq (f := (·.tileWb t.val k.toNat)) rfl
      ((Dev.tileWb_sent (d := s.fresh) (t := t.val) (k := k.toNat) hr hc hd hw ha).trans
        (Dev.sliceServe_busy (r := s.dev.tcAsk t.val (.wb t.val)) rfl
          (show ((s.fresh.setTc t.val k.toNat none).setWb t.val k.toNat (some (c, false))).lineBusy k.toNat = true from hb)))
  · exact .of_eq (f := (·.tileEvc t.val k.toNat)) rfl (Dev.tileEvc_goes (d := s.fresh) (t := t.val) (k := k.toNat) hr hc hd ha hb)

end Sys2Proof.Machine
end

section
/-! SUPPORT. Snoops, their answers, and fills (chapters 09 and 17). -/

namespace Sys2Proof.Machine
open Sys2Proof.Machine.Reg

section
variable {d : Dev} {t k op : Nat} {x : Trans} {y z : Snoop} {l : TLine}

/-! ## A tile meets a snoop -/

theorem Dev.snoopTile_moving (h : d.tileMoves t = true) :
    d.snoopTile t k op = { d with safe := { d.safe with heldSnp := d.safe.heldSnp ++ [(t, k, op)] } } := if_pos h

/-- The tile does what the snoop asks and leaves its answer with the transaction. -/
theorem Dev.snoopTile_answers (hm : d.tileMoves t = false) (hx : d.transOf k = some x) (hs : x.snoops = [y])
    (hy : y.tile = t ∧ y.op = op ∧ y.ans = none) {mask : Nat} {data : BitVec 2048} {poison : Nat} {e : Dev}
    (he : d.tileSnooped t k op = (mask, data, poison, e)) :
    d.snoopTile t k op = e.setTrans k (some { x with snoops := [{ y with ans := some (mask, data, poison) }] }) := by
  obtain ⟨rfl, rfl, ha⟩ := hy
  simp [Dev.snoopTile, hm, hx, hs, ha, he, Trans.upd]

theorem Dev.tileSnooped_none (hw : d.wbOf t k = none) (hl : d.tcLine t k = none) : d.tileSnooped t k op = (0, 0, 0, d) := by
  simp [Dev.tileSnooped, hw, hl]

theorem Dev.tileSnooped_wb (hw : d.wbOf t k = some (l, false)) :
    d.tileSnooped t k op = (l.dirty, l.data, l.poison, d.setWb t k (some (l, true))) := by
  simp [Dev.tileSnooped, hw]

theorem Dev.tileSnooped_inv (hw : d.wbOf t k = none) (hl : d.tcLine t k = some l) :
    d.tileSnooped t k 1 = (l.dirty, l.data, l.poison, d.setTc t k none) := by
  simp [Dev.tileSnooped, hw, hl]

theorem Dev.tileSnooped_down (hw : d.wbOf t k = none) (hl : d.tcLine t k = some l) :
    d.tileSnooped t k 2 = (l.dirty, l.data, l.poison, d.setTc t k (some { l with st := 1, dirty := 0 })) := by
  simp [Dev.tileSnooped, hw, hl]

theorem Dev.tileSnooped_clean (hw : d.wbOf t k = none) (hl : d.tcLine t k = some l) :
    d.tileSnooped t k 3 = (l.dirty, l.data, l.poison, d.setTc t k (some { l with st := if l.st = 3 then 2 else l.st, dirty := 0 })) := by
  simp [Dev.tileSnooped, hw, hl]

/-- A WB whose buffer has answered a snoop merges nothing. -/
theorem Dev.finishReq_wb_answered {r : SliceReq} {n : Nat} (ho : r.op = .wb t) (hw : d.wbOf t k = some (l, true)) :
    d.finishReq k r n = (((d.causedBy r.rid r.dline).setWb t k none).setDir k ((d.dirOf k).without t)).emit (.resp r.rid r.tag 0 []) := by
  have hw' : (d.causedBy r.rid r.dline).wbOf t k = some (l, true) := hw
  simp only [Dev.finishReq, ho, hw']
  rfl

/-! ## Its answer reaches the slice -/

variable {mask poison : Nat} {data : BitVec 2048} {rest : List Snoop} {withData : Bool}

/-- An answer of the other kind than the tile gave. -/
theorem Dev.snoopAnswer_other (hx : d.transOf k = some x) (hs : x.snoops = z :: rest) (hz : z.tile = t ∧ z.ans = some (mask, data, poison))
    (hw : (mask != 0) = !withData) : d.snoopAnswer t k withData = d := by
  simp [Dev.snoopAnswer, hx, hs, hz.1, hz.2, hw]

/-- What an answer with the dirty sectors of `mask` makes of the line: they merge, or are dropped under DISCARD. -/
theorem Dev.snoopAnswer_taken (hx : d.transOf k = some x) (hs : x.snoops = z :: rest) (hz : z.tile = t ∧ z.ans = some (mask, data, poison))
    (hw : (mask != 0) = withData) :
    d.snoopAnswer t k withData =
      (let e := if x.req.op == .discard then d else d.mergeIn k mask data poison
       (e.setDir k ((e.dirOf k).snooped t z.op)).transDone k
         { x with snoops := rest.filter (·.tile != t), drops := if x.req.op == .discard && mask != 0 then 1 else x.drops }) := by
  simp [Dev.snoopAnswer, hx, hs, hz.1, hz.2, hw]

theorem Dev.transDone_waits (h : x.snoops ≠ []) : d.transDone k x = d.setTrans k (some x) := by
  simp [Dev.transDone, h]

theorem Dev.transDone_ends (h : x.snoops = []) (hf : x.fill = false) : d.transDone k x = d.finishTrans k x := by
  simp [Dev.transDone, h, hf]

/-- An answer without data, whatever request the transaction serves. -/
theorem Dev.snoopAnswer_ack (hx : d.transOf k = some x) (hs : x.snoops = z :: rest) (hz : z.tile = t ∧ z.ans = some (0, data, poison)) :
    d.snoopAnswer t k false = (d.setDir k ((d.dirOf k).snooped t z.op)).transDone k { x with snoops := rest.filter (·.tile != t) } := by
  rw [Dev.snoopAnswer_taken (withData := false) hx hs hz rfl]
  simp [Dev.mergeIn]

end

/-! ## Fills -/

section
variable {d : Dev} {k : Nat} {x : Trans} {h : BitVec 2048}

theorem Dev.celFill_device (hl : d.live = true) (hx : d.transOf k = some x) (hf : x.fill = true) (hp : placeOf (256 * k) = .hbm)
    (hs : d.sliceScratch (homeOf k) = false) (hc : d.celLine k = none) :
    d.celFill k h =
      (let e := (d.makeRoom k).causedBy x.req.rid x.req.dline
       ((e.backRead k 15).setCel k (some (e.backLine k))).transDone k { x with fill := false }) := by
  simp [Dev.celFill, hl, hx, hf, hp, hs, hc]

theorem Dev.celFill_held (hl : d.live = true) (hx : d.transOf k = some x) (hf : x.fill = true) (hp : placeOf (256 * k) = .hbm)
    (hc : d.celLine k ≠ none) : d.celFill k h = d.transDone k { x with fill := false } := by
  simp [Dev.celFill, hl, hx, hf, hp, Option.isSome_iff_ne_none.mpr hc]

theorem Dev.celFill_host {n off : Nat} (hl : d.live = true) (hx : d.transOf k = some x) (hf : x.fill = true) (hp : placeOf (256 * k) = .host n off)
    (hc : (d.makeRoom k).celLine k = none) :
    d.celFill k h =
      ((((d.makeRoom k).setTrans k none).setCel k
        (some { data := h, fresh := true, host := match x.req.op with | .wr .. => 2 | _ => 1 })).hostServe x.req).fenceCheck := by
  have hc' : ((d.makeRoom k).setTrans k none).celLine k = none := hc
  obtain ⟨⟨op, rid, tag, seq, dline⟩, snoops, fill, drops⟩ := x
  simp only [Dev.celFill, hx, hl, hp, hc', show fill = true from hf]
  cases op <;> rfl

end

/-! ## A host's snoop -/

section
variable {d : Dev} {n k took off : Nat} {l : Line}

theorem Dev.snpLate_in_time (h : took ≤ d.fld BUD_CPL n) : d.snpLate n took = d := if_neg (Nat.not_lt.mpr h)

variable (hu : d.portUp n = true) (hc : d.cxlCache n = true) (hp : placeOf (256 * k) = .host n off)
include hu hc hp

theorem Dev.hostSnoop_missing {kind : Nat} (hl : d.celLine k = none) :
    d.hostSnoop n k kind took = (d.emit (.link "RspIHitI" n [k] [])).snpLate n took := by
  simp [Dev.hostSnoop, hp, hu, hc, hl]

theorem Dev.hostSnoop_inv (hl : d.celLine k = some l) :
    d.hostSnoop n k 1 took = ((d.setCel k none).emit (.link (if l.dirty = 0 then "RspIHitSE" else "RspIFwdM") n [k]
      (if l.dirty = 0 then [] else lineSlice l.data 0 256))).snpLate n took := by
  simp only [Dev.hostSnoop, hp, hu, hc, hl]
  by_cases hd : l.dirty = 0 <;> simp [hd]

theorem Dev.hostSnoop_data (hl : d.celLine k = some l) :
    d.hostSnoop n k 2 took = ((d.setCel k (some { l with host := 1, dirty := 0 })).emit (.link (if l.dirty = 0 then "RspSHitSE" else "RspSFwdM") n [k]
      (if l.dirty = 0 then [] else lineSlice l.data 0 256))).snpLate n took := by
  simp only [Dev.hostSnoop, hp, hu, hc, hl]
  by_cases hd : l.dirty = 0 <;> simp [hd]

theorem Dev.hostSnoop_cur (hl : d.celLine k = some l) :
    d.hostSnoop n k 3 took = (d.emit (.link (if l.dirty = 0 then "RspVHitV" else "RspVFwdV") n [k]
      (if l.dirty = 0 then [] else lineSlice l.data 0 256))).snpLate n took := by
  simp only [Dev.hostSnoop, hp, hu, hc, hl]
  by_cases hd : l.dirty = 0 <;> simp [hd]

end

theorem Dev.hostSnoop_own {d : Dev} {n k kind took : Nat} (hk : 256 * k < hbmEnd) : d.hostSnoop n k kind took = d := by
  have hp : placeOf (256 * k) = .hbm := if_pos hk
  simp [Dev.hostSnoop, hp]

/-- Settles O30: a snoop changes the tile's copy and leaves its answer, the answers reach the slice one by one, a fill brings the line, and a
host's snoop is answered from the slice. -/
theorem snoopsAndFills : Obligations.SnoopsAndFills := by
  refine ⟨fun s t k x y l hl hm hx hs hy hw hc => ?_, fun s t k x y l hl hm hx hs hy hw hc => ?_, fun s t k x y l hl hm hx hs hy hw hc => ?_,
    fun s t k x y hl hm hx hs hy hw hc => ?_, fun s t k x y l hl hm hx hs hy hw => ?_, fun d t k l r ho hw => Dev.finishReq_wb_answered ho hw,
    fun s t k hi hl hm => ?_, fun s t k x z y b p hl hx hs hz hy => ?_, fun s t k x z b p hl hx hs hz hf => ?_,
    fun s t k x z m b p hl hx hs hz hm hf => ?_, fun s t k x z m b p hl hx hs hz hm hf => ?_, fun s t k x z b p hi hx hs hz => ?_,
    fun s k h x hl hx hf hs hp hsc hc => ?_, fun s k h x hl hx hf hs hp hc => ?_, fun s k h x n off hl hx hf hp hc => ?_,
    fun s n k took off hi hl hu hc hp hn => ?_, fun s n k took off l hi hl hu hc hp hn ht => ?_, fun s n k took off l hi hl hu hc hp hn ht => ?_,
    fun s n k took off l hi hl hu hc hp hn ht => ?_, fun s n k took hi hk => ?_⟩
  · exact .of_live rfl hl (Dev.snoopTile_answers (d := s.fresh) hm hx hs hy (Dev.tileSnooped_inv hw hc))
  · exact .of_live rfl hl (Dev.snoopTile_answers (d := s.fresh) hm hx hs hy (Dev.tileSnooped_down hw hc))
  · exact .of_live rfl hl (Dev.snoopTile_answers (d := s.fresh) hm hx hs hy (Dev.tileSnooped_clean hw hc))
  · exact .of_live rfl hl (Dev.snoopTile_answers (d := s.fresh) hm hx hs hy (Dev.tileSnooped_none hw hc))
  · exact .of_live rfl hl (Dev.snoopTile_answers (d := s.fresh) hm hx hs hy (Dev.tileSnooped_wb hw))
  · have hf (op : Nat) : whenLive (fun d => d.snoopTile t.val k.toNat op) s.fresh =
        { s.fresh with safe := { s.dev.safe with heldSnp := s.dev.safe.heldSnp ++ [(t.val, k.toNat, op)] } } :=
      (whenLive_of_live _ (d := s.fresh) hl).trans (Dev.snoopTile_moving hm)
    have hk (op : Nat) : s.fresh.Calm { s.fresh with safe := { s.dev.safe with heldSnp := s.dev.safe.heldSnp ++ [(t.val, k.toNat, op)] } } :=
      ⟨rfl, rfl, rfl, rfl, id, rfl⟩
    exact ⟨.of_calm hi rfl (hf 1) (hk 1), .of_calm hi rfl (hf 2) (hk 2), .of_calm hi rfl (hf 3) (hk 3)⟩
  · refine .of_live rfl hl ((Dev.snoopAnswer_ack (d := s.fresh) hx hs hz).trans ?_)
    simp [Dev.transDone, hy]
    rfl
  · exact .of_live rfl hl ((Dev.snoopAnswer_ack (d := s.fresh) hx hs hz).trans (Dev.transDone_ends rfl hf))
  · refine .of_live rfl hl ((Dev.snoopAnswer_taken (d := s.fresh) hx hs hz (by simpa using hm)).trans ?_)
    simp only [beq_eq_false_iff_ne.mpr hf.2, Bool.false_and, Bool.false_eq_true, ↓reduceIte]
    exact Dev.transDone_ends rfl hf.1
  · refine .of_live rfl hl ((Dev.snoopAnswer_taken (d := s.fresh) hx hs hz (by simpa using hm)).trans ?_)
    simp only [hf.2, beq_self_eq_true, ↓reduceIte, Bool.true_and, bne_iff_ne, ne_eq, hm, not_false_eq_true]
    exact Dev.transDone_ends rfl hf.1
  · exact .of_live_idle hi rfl (Dev.snoopAnswer_other (d := s.fresh) hx hs hz rfl)
  · exact .of_eq (f := (·.celFill k.toNat h)) rfl ((Dev.celFill_device (d := s.fresh) hl hx hf hp hsc hc).trans (Dev.transDone_ends hs rfl))
  · exact .of_eq (f := (·.celFill k.toNat h)) rfl ((Dev.celFill_held (d := s.fresh) hl hx hf hp hc).trans (Dev.transDone_waits hs))
  · exact .of_eq (f := (·.celFill k.toNat h)) rfl (Dev.celFill_host (d := s.fresh) hl hx hf hp hc)
  · have hf := (whenLive_of_live (fun d => d.hostSnoop n.val k.toNat 1 took) (d := s.fresh) hl).trans
      (Dev.hostSnoop_missing (d := s.fresh) (kind := 1) hu hc hp hn)
    have hk : s.fresh.Calm (s.fresh.emit (.link "RspIHitI" n.val [k.toNat] [])) := (Dev.Calm.refl _).emit rfl
    exact .of_calm hi rfl hf
      ((hk.inc 1 (by simp only [Fld.key, Fld.at, REP_STATE, GE_SNP_LATE, fRO, Reg.prt]; omega)).ite hk)
  · have hf := (whenLive_of_live (fun d => d.hostSnoop n.val k.toNat 1 took) (d := s.fresh) hl).trans
      ((Dev.hostSnoop_inv (d := s.fresh) hu hc hp hn).trans (Dev.snpLate_in_time ht))
    exact .of_kept_queues hi rfl hf rfl rfl rfl rfl rfl rfl rfl
  · have hf := (whenLive_of_live (fun d => d.hostSnoop n.val k.toNat 2 took) (d := s.fresh) hl).trans
      ((Dev.hostSnoop_data (d := s.fresh) hu hc hp hn).trans (Dev.snpLate_in_time ht))
    exact .of_kept_queues hi rfl hf rfl rfl rfl rfl rfl rfl rfl
  · have hf := (whenLive_of_live (fun d => d.hostSnoop n.val k.toNat 3 took) (d := s.fresh) hl).trans
      ((Dev.hostSnoop_cur (d := s.fresh) hu hc hp hn).trans (Dev.snpLate_in_time ht))
    exact .of_kept_queues hi rfl hf rfl rfl rfl rfl rfl rfl rfl
  · exact ⟨.of_live_idle hi rfl (Dev.hostSnoop_own hk), .of_live_idle hi rfl (Dev.hostSnoop_own hk), .of_live_idle hi rfl (Dev.hostSnoop_own hk)⟩

end Sys2Proof.Machine
end

section
/-! SUPPORT. Held loads and drains of the matrix arrays (chapter 11). -/

namespace Sys2Proof.Machine
open Sys2Proof.Machine.Reg

section
variable {d : Dev} {t : Nat} {l : LayerRun} {x : Step}

theorem Dev.unlessMoves_of_stays (f : Dev → Dev) (h : d.tileMoves t = false) : d.unlessMoves t f = f d :=
  if_neg (ne_of_eq_of_ne h Bool.false_ne_true)

theorem Dev.unlessMoves_idle (f : Dev → Dev) (h : f d = d) : d.unlessMoves t f = d := by
  unfold Dev.unlessMoves
  split
  · rfl
  · exact h

/-! ## HELD_LOAD -/

theorem Dev.heldLoad_idle (h : (d.tileOf t).shadowFull = true ∨ (d.tileOf t).layer = none) : d.heldLoad t = d := by
  unfold Dev.heldLoad
  rcases h with hf | hn
  · simp only [hf, true_or, ↓reduceIte]
    split
    · rfl
    · split <;> rfl
  · simp only [hn]

section
variable (hl : (d.tileOf t).layer = some l) (hw : l.wmode ≠ 1) (hx : l.steps[l.idx]? = some x) (hf : (d.tileOf t).shadowFull = false)
include hl hw hx hf

theorem Dev.heldLoad_rejected {r g : Nat} (hr : d.stepReject x = some (r, g)) :
    d.heldLoad t = (d.logEv 0x1003 .D (d.ptile t) [dC r, dU 1 g, dC x.config, dC x.cls]).layerFail t l 4 true := by
  simp only [Dev.heldLoad, hl, hx, hf, hw, hr, Bool.false_eq_true, false_and, or_self, ↓reduceIte]

/-- A step of one gill with a sound control table loads that gill's held operand. -/
theorem Dev.heldLoad_one {p : GillProg} (hr : d.stepReject x = none) (hg : x.gills = [p]) (hc : d.ctBad x p = false) :
    d.heldLoad t =
      (let e : Dev := (d.heldOf t x p).2
       e.setTile t { e.tileOf t with shadow := [(p.gill, (d.heldOf t x p).1)], shadowFull := true }) := by
  simp only [Dev.heldLoad, hl, hx, hf, hw, hr, hg, List.find?_cons, hc, List.find?_nil, Bool.false_eq_true, false_and, or_self, ↓reduceIte]
  rfl

end

/-! ## DRAIN -/

theorem Dev.layerDrain_early (hl : (d.tileOf t).layer = some l) (hi : l.idx < l.steps.length) : d.layerDrain t = d := by
  simp only [Dev.layerDrain, hl, hi, true_or, ↓reduceIte]

section
variable (hl : (d.tileOf t).layer = some l) (hi : l.idx = l.steps.length) (hs : l.sendsDue = false) (hx : l.steps.getLast? = some x)
include hl hi hs hx

theorem Dev.layerDrain_rejected (hr : cvtReject x.drainFmt l.drainCvt 64 ≠ 0) :
    d.layerDrain t = (d.cvtRejected t (cvtReject x.drainFmt l.drainCvt 64) l.drainCvt 0).layerFail t l 5 true := by
  unfold Dev.layerDrain
  simp only [hl, hi, hs, hx, lt_self_iff_false, Bool.false_eq_true, or_self, ↓reduceIte]
  exact if_pos hr

/-- The rows, converted, reach tile SRAM; the command takes the poisoned words into its count. -/
theorem Dev.layerDrain_converts (hr : cvtReject x.drainFmt l.drainCvt 64 = 0) :
    d.layerDrain t =
      (let keys := (upTo (64 * l.drainRows)).map fun i => 64 * l.drainRow + i
       let words := keys.map fun k => Sparse.get 0 (d.tileOf t).acc k
       let r := d.runCvt t l.drainCvt l.cur (words.map fun v => accVal x.cls v (x.fHeld == 6)) (fun i => words.getD i 0) 0 (some (l.engine, l.seq))
       let e : Dev := r.2.sramWrite t l.drainDst (r.1.map some)
       let y := e.tileOf t
       let y : Tile :=
         if l.clr then { y with acc := keys.foldl (fun m k => Sparse.set 0 m k 0) y.acc
                                accBad := keys.foldl (fun m k => Sparse.set false m k false) y.accBad }
         else y
       ((e.setTile t { y with layer := none }).updCmd l.engine l.seq fun c =>
          { c with poison := c.poison + keys.countP fun k => Sparse.get false (d.tileOf t).accBad k }).partDone l.engine l.seq t) := by
  unfold Dev.layerDrain
  simp only [hl, hi, hs, hx, lt_self_iff_false, Bool.false_eq_true, or_self, ↓reduceIte]
  exact if_neg (not_not.mpr hr)

end

end

/-- Settles O36: each clause is one branch of the held load, of the upset that befalls accumulator memory, or of the drain. -/
theorem arrayLoadsAndDrains : Obligations.ArrayLoadsAndDrains := by
  refine ⟨fun s t l x p h hl hw hx hf hr hg hc => ?_, fun s t l x r g h hl hw hx hf hr => ?_, fun s t hi h => ?_, fun s t l hi hl hlt => ?_,
    fun s t l x h hl hi hs hx hr => ?_, fun s t l x h hl hi hs hx hr => ?_, fun s t row w h hd => ⟨?_, ?_⟩⟩
  · exact .of_live rfl h.1 ((Dev.unlessMoves_of_stays (d := s.fresh) _ h.2).trans (Dev.heldLoad_one (d := s.fresh) hl hw hx hf hr hg hc))
  · exact .of_live rfl h.1 ((Dev.unlessMoves_of_stays (d := s.fresh) _ h.2).trans (Dev.heldLoad_rejected (d := s.fresh) hl hw hx hf hr))
  · exact .of_live_idle hi rfl (Dev.unlessMoves_idle (d := s.fresh) _ (Dev.heldLoad_idle h))
  · exact .of_live_idle hi rfl (Dev.unlessMoves_idle (d := s.fresh) _ (Dev.layerDrain_early hl hlt))
  · exact .of_live rfl h.1 ((Dev.unlessMoves_of_stays (d := s.fresh) _ h.2).trans (Dev.layerDrain_rejected (d := s.fresh) hl hi hs hx hr))
  · exact .of_live rfl h.1 ((Dev.unlessMoves_of_stays (d := s.fresh) _ h.2).trans (Dev.layerDrain_converts (d := s.fresh) hl hi hs hx hr))
  · refine .of_live rfl h.1 ((Dev.unlessMoves_of_stays (d := s.fresh) _ h.2).trans (congrArg (Dev.layerDrain · t.val) ?_))
    exact if_neg (by simp [show s.fresh.drainReads t.val row.val = true from hd])
  · refine .of_live rfl h.1 ((Dev.unlessMoves_of_stays (d := s.fresh) _ h.2).trans (congrArg (Dev.layerDrain · t.val) ?_))
    exact if_neg (by simp [show s.fresh.drainReads t.val row.val = true from hd])

end Sys2Proof.Machine
end

section
/-! SUPPORT. A shift by a register that holds more than 32 bits, against the integer instructions' clauses. -/

namespace Sys2Proof.Machine
open Sys2Proof.Machine.Reg

/-- The group of the shift: thread 0 acts, and its g1 holds 2³², which no field of 32 bits tells from 0. -/
def wideShiftGroup : Group := { st := 1, active := 1, alive := 1, glob := [(32, 2 ^ 32)] }

/-- A released core whose tile 0 runs that group. -/
def wideShiftState : State :=
  { dev := { csr := [(CLK_ROOT_LOCK.key 0 0, 1)], svc := { up := true }, load := { bDone := true }, tile := [(0, { groups := [(0, wideShiftGroup)] })] }
    pending := [] }

/-- SHL of w3 by g1, INT32. -/
def wideShift : VI :=
  { t := 0, g := 0, fmt := 0, rd := 3, ra := 0, rb := 17, rc := 0, pred := 0, pneg := false, immb := false, imm := 0 }

/-- Refutes O39: the operand is judged whole against 32, yet the lane shifts by its low 32 bits, 0, and draws no free value. -/
theorem not_integerInstructions : ¬ Obligations.IntegerInstructions := by
  rintro ⟨-, -, -, -, -, h, -⟩
  obtain ⟨hshl, -, -⟩ := h wideShiftState wideShift 0 (by decide) (by decide) rfl (by decide) (by decide)
  have hdrawn := congrArg (fun d : Dev => d.freeCtr) hshl.after
  revert hdrawn
  decide

end Sys2Proof.Machine
end

section
/-! SUPPORT. Vector instructions (chapter 13): what each passes before it acts, and what those that write RD alone make of their group. -/

namespace Sys2Proof.Machine
open Sys2Proof.Machine.Reg

/-! ## A group's registers -/

@[simp] theorem Dev.grp_setGrp_self (d : Dev) (t g : Nat) (y : Group) : (d.setGrp t g y).grp t g = y := by
  simp [Dev.grp, Dev.setGrp, Tile.grp, Tile.setGrp, Sparse.get_set_self]

theorem Dev.grp_setGrp_ne (d : Dev) {t g u k : Nat} (y : Group) (h : ¬(u = t ∧ k = g)) : (d.setGrp t g y).grp u k = d.grp u k := by
  unfold Dev.grp Dev.setGrp
  by_cases hu : u = t
  · subst hu
    rw [Dev.tileOf_setTile_self]
    exact Sparse.get_set_ne _ _ fun hk => h ⟨rfl, hk⟩
  · rw [Dev.tileOf_setTile_ne _ _ hu]

/-- What of a group an instruction that writes registers alone leaves as it is. -/
structure Group.SameFrame (y z : Group) : Prop where
  st : z.st = y.st
  pred : z.pred = y.pred
  inTrap : z.inTrap = y.inTrap
  live : z.live = y.live
  trapLive : z.trapLive = y.trapLive
  frame : z.frame = y.frame
  ngrp : z.ngrp = y.ngrp
  trapArg : z.trapArg = y.trapArg

theorem Group.SameFrame.trans {x y z : Group} (h : Group.SameFrame x y) (k : Group.SameFrame y z) : Group.SameFrame x z :=
  ⟨k.st.trans h.st, k.pred.trans h.pred, k.inTrap.trans h.inTrap, k.live.trans h.live, k.trapLive.trans h.trapLive, k.frame.trans h.frame,
    k.ngrp.trans h.ngrp, k.trapArg.trans h.trapArg⟩

theorem Group.SameFrame.window {y z : Group} (h : Group.SameFrame y z) : z.window = y.window := by
  simp only [Group.window, h.inTrap, h.live, h.trapLive, h.frame]

theorem Group.sameFrame_put (y : Group) (l r v : Nat) : Group.SameFrame y (y.put l r v) := by
  unfold Group.put
  split
  · exact ⟨rfl, rfl, rfl, rfl, rfl, rfl, rfl, rfl⟩
  · split <;> exact ⟨rfl, rfl, rfl, rfl, rfl, rfl, rfl, rfl⟩

theorem Group.sameFrame_goTo (y : Group) (pc : Nat) : Group.SameFrame y (y.goTo pc) := by
  unfold Group.goTo
  dsimp only
  split
  · split <;> exact ⟨rfl, rfl, rfl, rfl, rfl, rfl, rfl, rfl⟩
  · exact ⟨rfl, rfl, rfl, rfl, rfl, rfl, rfl, rfl⟩

/-- A register's value goes by the windows, the globals and the frame of its group. -/
theorem Group.reg_congr {y z : Group} (h : Group.SameFrame y z) (hw : z.win = y.win) (hg : z.glob = y.glob) (t g ts l r : Nat) :
    z.reg t g ts l r = y.reg t g ts l r := by
  simp only [Group.reg, h.window, hw, hg, h.ngrp, h.trapArg]

theorem Group.win_goTo (y : Group) (pc : Nat) : (y.goTo pc).win = y.win ∧ (y.goTo pc).glob = y.glob := by
  unfold Group.goTo
  dsimp only
  split
  · split <;> exact ⟨rfl, rfl⟩
  · exact ⟨rfl, rfl⟩

@[simp] theorem Group.reg_goTo (y : Group) (pc t g ts l r : Nat) : (y.goTo pc).reg t g ts l r = y.reg t g ts l r :=
  Group.reg_congr (y.sameFrame_goTo pc) (y.win_goTo pc).1 (y.win_goTo pc).2 t g ts l r

/-- The register that is written reads what was written, cut to 32 bits. -/
theorem Group.reg_put_self (y : Group) {l r : Nat} (v t g ts : Nat) (hr : r < 24) : (y.put l r v).reg t g ts l r = v % 2 ^ 32 := by
  have hw := (y.sameFrame_put l r v).window
  unfold Group.reg
  rw [hw]
  by_cases h : r < 16
  · simp [h, Group.put, Sparse.get_set_self]
  · simp [h, hr, Group.put, Sparse.get_set_self]

/-- Every other register, and that of every other lane, stays. -/
theorem Group.reg_put_ne (y : Group) {l r k q : Nat} (v t g ts : Nat) (hl : l < 32) (hk : k < 32) (h : k ≠ l ∨ q ≠ r) :
    (y.put l r v).reg t g ts k q = y.reg t g ts k q := by
  have hf := y.sameFrame_put l r v
  unfold Group.reg
  rw [hf.window, hf.ngrp, hf.trapArg]
  by_cases hr : r < 16
  · have hwin : (y.put l r v).win = Sparse.set 0 y.win (winKey y.window r l) (v % 2 ^ 32) := by simp [Group.put, hr]
    have hglob : (y.put l r v).glob = y.glob := by simp [Group.put, hr]
    rw [hwin, hglob]
    by_cases hq : q < 16
    · rw [Sparse.get_set_ne _ _ (by unfold winKey; omega)]
    · simp only [hq, ↓reduceIte]
  · by_cases hr' : r < 24
    · have hwin : (y.put l r v).win = y.win := by simp [Group.put, hr, hr']
      have hglob : (y.put l r v).glob = Sparse.set 0 y.glob ((r - 16) * 32 + l) (v % 2 ^ 32) := by simp [Group.put, hr, hr']
      rw [hwin, hglob]
      by_cases hq : q < 16
      · simp only [hq, ↓reduceIte]
      · rw [Sparse.get_set_ne _ _ (by omega)]
    · rw [show y.put l r v = y by simp [Group.put, hr, hr']]

/-! ## What every vector instruction passes -/

section
variable {d : Dev} {i : VI} {u : VUse} {f : Nat → Dev → Dev}

theorem Dev.vxGo_idle (h : (d.iGrp i).st ≠ 1 ∨ d.tileIssues i.t.val = false) : d.vxGo i u f = d :=
  if_pos (by rcases h with h | h <;> simp [h])

section
variable (ht : d.tileIssues i.t.val = true) (hs : (d.iGrp i).st = 1)
include ht hs

theorem Dev.vxGo_badStore {a st : Nat} (hb : (d.iGrp i).badStore = some (a, st)) :
    d.vxGo i u f = (d.setGrp i.t.val i.g.val { d.iGrp i with badStore := none }).park i.t.val i.g.val 8 0 (some (a, st, vxOpc 3 3)) := by
  simp [Dev.vxGo, ht, hs, hb]

variable (hb : (d.iGrp i).badStore = none)
include hb

theorem Dev.vxGo_illegal (ho : u.ok i = false) : d.vxGo i u f = d.park i.t.val i.g.val 5 := by
  simp [Dev.vxGo, ht, hs, hb, ho]

theorem Dev.vxGo_regUe (ho : u.ok i = true) (hr : i.regs = .double ∧ u.reads i = true ∧ d.iAct i ≠ 0) :
    d.vxGo i u f = d.park i.t.val i.g.val 15 := by
  simp [Dev.vxGo, ht, hs, hb, ho, hr]

end

theorem Dev.vxGo_issues (h : Issues d u i) : d.vxGo i u f = f (d.iAct i) (d.regCe i.t.val i u) := by
  obtain ⟨ht, hs, hb, ho, hr⟩ := h
  simp only [Dev.vxGo, ht, hs, hb, ho, Bool.not_true, bne_self_eq_false, Bool.or_self, Bool.false_eq_true, ↓reduceIte]
  exact if_neg hr

theorem Dev.regCe_of_reads (h : u.reads i = true) : d.regCe i.t.val i u = d.counted i := by
  simp [Dev.regCe, Dev.counted, h]

theorem Dev.regCe_of_reads_none (h : u.reads i = false) : d.regCe i.t.val i u = d := by
  simp [Dev.regCe, h]

theorem Dev.calm_regCe (d : Dev) (i : VI) (u : VUse) : Dev.Calm d (d.regCe i.t.val i u) :=
  ((Dev.Calm.refl d).inc 1 (by simp only [Fld.key, Fld.at, REP_STATE, VX_REG_CE, fRO, Fld.arr]; omega)).ite (.refl d)

theorem Dev.calm_counted (d : Dev) (i : VI) : Dev.Calm d (d.counted i) :=
  ((Dev.Calm.refl d).inc 1 (by simp only [Fld.key, Fld.at, REP_STATE, VX_REG_CE, fRO, Fld.arr]; omega)).ite (.refl d)

theorem Dev.counted_grp (d : Dev) (i : VI) (t g : Nat) : (d.counted i).grp t g = d.grp t g := by
  unfold Dev.counted
  split <;> rfl

theorem Dev.counted_tileOf (d : Dev) (i : VI) (t : Nat) : (d.counted i).tileOf t = d.tileOf t := by
  unfold Dev.counted
  split <;> rfl

theorem Dev.fld_counted (d : Dev) (i : VI) {g : Fld} {a b : Nat} (h : ∀ n, g.key a b ≠ VX_REG_CE.key n 0) :
    (d.counted i).fld g a b = d.fld g a b := by
  unfold Dev.counted
  split
  · exact Dev.fld_setF_ne d _ (h _)
  · rfl

theorem Dev.counted_now (d : Dev) (i : VI) : (d.counted i).now = d.now := by
  have hstate := d.fld_counted i (g := REP_STATE) (a := 0) (b := 0) fun n => by
    simp only [Fld.key, Fld.at, REP_STATE, VX_REG_CE, fRO, Fld.arr]; omega
  have hrt := d.fld_counted i (g := REP_RT) (a := 0) (b := 0) fun n => by
    simp only [Fld.key, Fld.at, REP_RT, VX_REG_CE, fRO, Fld.arr]; omega
  have hclk : (d.counted i).clk = d.clk := by
    unfold Dev.counted
    split <;> rfl
  unfold Dev.now Dev.running
  rw [hstate, hrt, hclk]

end

namespace Dev.Calm
variable {d e : Dev}

theorem setGrp (h : Dev.Calm d e) (t g : Nat) (y : Group) : Dev.Calm d (e.setGrp t g y) := h.setTile _ _
theorem vxNext (h : Dev.Calm d e) (t g : Nat) : Dev.Calm d (e.vxNext t g) := h.setGrp _ _ _
theorem vxMap (h : Dev.Calm d e) (i : VI) (m : Nat) (f : Group → Nat → Nat) : Dev.Calm d (e.vxMap i m f) := (h.setGrp _ _ _).vxNext _ _

theorem logF (h : Dev.Calm d e) (ev n : Nat) (l : List DF) : Dev.Calm d (e.logF ev n l) := (h.logEv (by decide)).msix _

theorem park (h : Dev.Calm d e) (t g c w : Nat) (fl : Option (Nat × Nat × Nat)) : Dev.Calm d (e.park t g c w fl) := by
  unfold Dev.park
  exact ((h.setGrp _ _ _).logEv (by decide)).ite ((h.setGrp _ _ _).logF _ _ _)

end Dev.Calm

section
variable {c : Instr} {s : State} {i : VI} {u : VUse} {f : Nat → Dev → Dev} {e : Dev}

theorem State.fresh_counted_iGrp (s : State) (i : VI) : (s.fresh.counted i).iGrp i = s.dev.iGrp i := Dev.counted_grp _ _ _ _

/-- An instruction that issues gives what its effect makes of the device, the register error counted. -/
theorem Gives.of_issues (hc : exec c s = runAll s fun d => d.vxGo i u f) (h : Issues s.dev u i) (hr : u.reads i = true)
    (hf : f (s.dev.iAct i) (s.fresh.counted i) = e) : Gives c s e :=
  .of_eq hc ((Dev.vxGo_issues (d := s.fresh) h).trans ((congrArg _ (Dev.regCe_of_reads hr)).trans hf))

theorem Leaves.of_issues (hi : Inv s) (hc : exec c s = runAll s fun d => d.vxGo i u f) (h : Issues s.dev u i) (hr : u.reads i = true)
    (hf : f (s.dev.iAct i) (s.fresh.counted i) = e) (hk : (s.fresh.counted i).Calm e) : Leaves c s e :=
  .of_calm hi hc ((Dev.vxGo_issues (d := s.fresh) h).trans ((congrArg _ (Dev.regCe_of_reads hr)).trans hf)) ((Dev.calm_counted _ _).trans hk)

/-- One that reads no register counts none. -/
theorem Leaves.of_issues_none (hi : Inv s) (hc : exec c s = runAll s fun d => d.vxGo i u f) (h : Issues s.dev u i) (hr : u.reads i = false)
    (hf : f (s.dev.iAct i) s.fresh = e) (hk : s.fresh.Calm e) : Leaves c s e :=
  .of_calm hi hc ((Dev.vxGo_issues (d := s.fresh) h).trans ((congrArg _ (Dev.regCe_of_reads_none hr)).trans hf)) hk

theorem WritesRd.of_issues {g : Nat → Nat} (hi : Inv s) (hc : exec c s = runAll s fun d => d.vxGo i u f) (h : Issues s.dev u i) (hr : u.reads i = true)
    (hf : f (s.dev.iAct i) (s.fresh.counted i) = (s.fresh.counted i).vxMap i (s.dev.iAct i) fun _ l => g l) : WritesRd c i s g :=
  Leaves.of_issues hi hc h hr hf ((Dev.Calm.refl _).vxMap _ _ _)

end

/-- Every vector instruction of the table passes those checks, with the fields that the table gives it; RET reads w15 besides. -/
theorem vxTable_vxGo (i : VI) (r : BitVec 8) : ∀ e ∈ vxTable i r,
    ∃ u f, (∀ s, exec e.1 s = runAll s fun d => d.vxGo i u f) ∧ u.ok i = e.2.ok i ∧ (e.2.reads i = true → u.reads i = true) := by
  simp only [vxTable, List.cons_append, List.nil_append, List.forall_mem_cons]
  iterate 42 refine ⟨⟨_, _, fun _ => rfl, rfl, id⟩, ?_⟩
  refine ⟨⟨{ w15 := true }, _, fun _ => rfl, rfl, fun h => by simp [VUse.reads] at h⟩, ?_⟩
  iterate 13 refine ⟨⟨_, _, fun _ => rfl, rfl, id⟩, ?_⟩
  exact fun _ h => absurd h List.not_mem_nil

end Sys2Proof.Machine
end

section
/-! SUPPORT. The instructions that write RD alone, and the frame of a group's issue. -/

namespace Sys2Proof.Machine
open Sys2Proof.Machine.Reg

/-- Values put in register `r`, lane by lane. -/
def Group.puts (y : Group) (r : Nat) (vs : List (Nat × Nat)) : Group := vs.foldl (fun z x => z.put x.1 r x.2) y

/-- From `d` to `e` lanes of `m` have put values in RD, free values may have been drawn, and the group has gone on to its next instruction. -/
def Dev.WroteRd (d e : Dev) (i : VI) (m : Nat) : Prop :=
  ∃ n, ∃ vs : List (Nat × Nat), (∀ x ∈ vs, x.1 ∈ lanesOf m) ∧
    e = ({ d with freeCtr := n }.setGrp i.t.val i.g.val ((d.iGrp i).puts i.rd.val vs)).vxNext i.t.val i.g.val

/-- A step that only draws free values. -/
def Dev.Draws (d e : Dev) : Prop := ∃ n, e = { d with freeCtr := n }

theorem Dev.Draws.refl (d : Dev) : d.Draws d := ⟨_, rfl⟩

theorem Dev.Draws.draw (d : Dev) : d.Draws d.draw.2 := ⟨_, rfl⟩

theorem Dev.Draws.trans {d e g : Dev} (h : d.Draws e) (k : e.Draws g) : d.Draws g := by
  obtain ⟨n, rfl⟩ := h
  obtain ⟨m, rfl⟩ := k
  exact ⟨m, rfl⟩

theorem Dev.Draws.foldl {α : Type} {f : Nat × Dev → α → Nat × Dev} (hf : ∀ (r : Nat × Dev) a, r.2.Draws (f r a).2) (l : List α) (r : Nat × Dev) :
    r.2.Draws (l.foldl f r).2 := by
  induction l generalizing r with
  | nil => exact .refl _
  | cons a q ih => exact (hf r a).trans (ih _)

theorem Dev.draws_packLanes (w : Nat) (f : Nat → Nat → Nat → Option Nat) (a b c : Nat) (d : Dev) : d.Draws (packLanes w f a b c d).2 := by
  refine Dev.Draws.foldl (fun r k => ?_) _ (0, d)
  dsimp only
  split
  · exact .refl _
  · exact Dev.Draws.draw r.2

section
variable {d : Dev} {i : VI} {m : Nat}

theorem Dev.WroteRd.of_draws {e g : Dev} (h : d.Draws e) (k : e.WroteRd g i m) : d.WroteRd g i m := by
  obtain ⟨n, rfl⟩ := h
  exact k

theorem Dev.wroteRd_vxMap (d : Dev) (i : VI) (m : Nat) (f : Group → Nat → Nat) : d.WroteRd (d.vxMap i m f) i m := by
  refine ⟨d.freeCtr, (lanesOf m).map fun l => (l, f (d.iGrp i) l), fun x hx => ?_, ?_⟩
  · obtain ⟨l, hl, rfl⟩ := List.mem_map.mp hx
    exact hl
  · rw [Group.puts, List.foldl_map]
    rfl

theorem Dev.wroteRd_vxDraw {f : Group → Nat → Dev → Nat × Dev} (hf : ∀ y l (e : Dev), e.Draws (f y l e).2) : d.WroteRd (d.vxDraw i m f) i m := by
  have h : ∀ (ls : List Nat) (z : Group) (e : Dev), ∃ n, ∃ vs : List (Nat × Nat), (∀ x ∈ vs, x.1 ∈ ls) ∧
      ls.foldl (fun (a : Group × Dev) l => (a.1.put l i.rd.val (f (d.iGrp i) l a.2).1, (f (d.iGrp i) l a.2).2)) (z, e)
        = (z.puts i.rd.val vs, { e with freeCtr := n }) := by
    intro ls
    induction ls with
    | nil => exact fun z e => ⟨e.freeCtr, [], by simp, rfl⟩
    | cons l r ih =>
      intro z e
      obtain ⟨k, hk⟩ := hf (d.iGrp i) l e
      obtain ⟨n, vs, hvs, hfold⟩ := ih (z.put l i.rd.val (f (d.iGrp i) l e).1) (f (d.iGrp i) l e).2
      refine ⟨n, (l, (f (d.iGrp i) l e).1) :: vs, ?_, ?_⟩
      · intro x hx
        rcases List.mem_cons.mp hx with rfl | hx
        · exact List.mem_cons_self
        · exact List.mem_cons_of_mem _ (hvs x hx)
      · rw [List.foldl_cons, hfold, hk]
        rfl
  obtain ⟨n, vs, hvs, hfold⟩ := h (lanesOf m) (d.iGrp i) d
  refine ⟨n, vs, hvs, ?_⟩
  have hdraw : d.vxDraw i m f = ((((lanesOf m).foldl (fun (a : Group × Dev) l =>
      (a.1.put l i.rd.val (f (d.iGrp i) l a.2).1, (f (d.iGrp i) l a.2).2)) (d.iGrp i, d)).2).setGrp i.t.val i.g.val
        ((lanesOf m).foldl (fun (a : Group × Dev) l =>
          (a.1.put l i.rd.val (f (d.iGrp i) l a.2).1, (f (d.iGrp i) l a.2).2)) (d.iGrp i, d)).1).vxNext i.t.val i.g.val := rfl
  rw [hdraw, hfold]

end

/-- Where no lane draws a free value, the values are a function of the lanes. -/
theorem Dev.vxDraw_pure {d : Dev} {i : VI} {m : Nat} {f : Group → Nat → Dev → Nat × Dev} {v : Nat → Nat}
    (hf : ∀ l ∈ lanesOf m, f (d.iGrp i) l d = (v l, d)) : d.vxDraw i m f = d.vxMap i m fun _ l => v l := by
  have h : ∀ (ls : List Nat) (z : Group), (∀ l ∈ ls, f (d.iGrp i) l d = (v l, d)) →
      ls.foldl (fun (a : Group × Dev) l => (a.1.put l i.rd.val (f (d.iGrp i) l a.2).1, (f (d.iGrp i) l a.2).2)) (z, d)
        = (ls.foldl (fun z l => z.put l i.rd.val (v l)) z, d) := by
    intro ls
    induction ls with
    | nil => exact fun _ _ => rfl
    | cons l r ih =>
      intro z hz
      have hl := hz l List.mem_cons_self
      rw [List.foldl_cons, hl]
      exact ih _ fun k hk => hz k (List.mem_cons_of_mem _ hk)
  have hdraw : d.vxDraw i m f = ((((lanesOf m).foldl (fun (a : Group × Dev) l =>
      (a.1.put l i.rd.val (f (d.iGrp i) l a.2).1, (f (d.iGrp i) l a.2).2)) (d.iGrp i, d)).2).setGrp i.t.val i.g.val
        ((lanesOf m).foldl (fun (a : Group × Dev) l =>
          (a.1.put l i.rd.val (f (d.iGrp i) l a.2).1, (f (d.iGrp i) l a.2).2)) (d.iGrp i, d)).1).vxNext i.t.val i.g.val := rfl
  rw [hdraw, h _ _ hf]
  rfl

/-- Packed lanes whose results are all stated draw nothing. -/
theorem packLanes_some (w : Nat) (g : Nat → Nat → Nat → Nat) (a b c : Nat) (d : Dev) :
    packLanes w (fun a b c => some (g a b c)) a b c d = (perLane w g a b c, d) := by
  have h : ∀ (ks : List Nat) (n : Nat),
      ks.foldl (fun (r : Nat × Dev) k => (r.1 + g (bits a (k * w) w) (bits b (k * w) w) (bits c (k * w) w) % 2 ^ w * 2 ^ (k * w), r.2)) (n, d)
        = (n + (ks.map fun k => g (bits a (k * w) w) (bits b (k * w) w) (bits c (k * w) w) % 2 ^ w * 2 ^ (k * w)).sum, d) := by
    intro ks
    induction ks with
    | nil => exact fun _ => rfl
    | cons k r ih =>
      intro n
      rw [List.foldl_cons, ih, List.map_cons, List.sum_cons, Nat.add_assoc]
  exact (h _ 0).trans (by rw [Nat.zero_add]; rfl)

theorem vxInt_wroteRd {c : Instr} {i : VI} {three : Bool} {g : Nat → Nat → Nat → Nat → Option Nat}
    (hc : ∀ s, exec c s = runAll s fun d => d.vxInt i three g) :
    ∃ f, (∀ s, exec c s = runAll s fun d => d.vxGo i (intUse three) f) ∧ ∀ m (d : Dev), d.WroteRd (f m d) i m :=
  ⟨_, hc, fun _ _ => Dev.wroteRd_vxDraw fun _ _ _ => Dev.draws_packLanes _ _ _ _ _ _⟩

theorem vxShfl_wroteRd (i : VI) :
    ∃ f, (∀ d : Dev, d.vxShfl i = d.vxGo i (laneUse true) f) ∧ ∀ m (d : Dev), d.WroteRd (f m d) i m := by
  refine ⟨_, fun _ => rfl, fun m d => Dev.wroteRd_vxDraw fun y l e => ?_⟩
  dsimp only
  split
  · exact .refl e
  · exact .draw e

/-- A float reduction whose order is not stated draws its values; every other is a function of the operands. -/
theorem vxRed_wroteRd (i : VI) (op : RedOp) :
    ∃ f, (∀ d : Dev, d.vxRed i op = d.vxGo i (laneUse false) f) ∧ ∀ m (d : Dev), d.WroteRd (f m d) i m := by
  refine ⟨_, fun _ => rfl, fun m d => ?_⟩
  dsimp only
  split
  · refine .of_draws (Dev.Draws.foldl (fun r j => ?_) _ (0, d)) (Dev.wroteRd_vxMap _ _ _ _)
    split
    · exact .refl _
    · exact .draw r.2
  · exact d.wroteRd_vxMap _ _ _

/-- The instructions of `rdOnly` pass the checks with the fields of their table, and then write RD alone. -/
theorem rdOnly_wroteRd (i : VI) : ∀ e ∈ rdOnly i,
    ∃ f, (∀ s, exec e.1 s = runAll s fun d => d.vxGo i e.2 f) ∧ ∀ m (d : Dev), d.WroteRd (f m d) i m := by
  have hfree (m : Nat) (d : Dev) : d.WroteRd (d.vxDraw i m fun _ _ d => (d.draw.1 % 2 ^ 32, d.draw.2)) i m :=
    Dev.wroteRd_vxDraw fun _ _ e => Dev.Draws.draw e
  have hred (op : RedOp) : ∃ f, (∀ s, exec (.red i op) s = runAll s fun d => d.vxGo i (laneUse false) f) ∧ ∀ m (d : Dev), d.WroteRd (f m d) i m := by
    obtain ⟨f, hf, hw⟩ := vxRed_wroteRd i op
    have hexec (s : State) : exec (.red i op) s = runAll s fun d => d.vxRed i op := rfl
    exact ⟨f, fun s => by simp only [hexec, hf], hw⟩
  obtain ⟨shfl, hshfl, hshflRd⟩ := vxShfl_wroteRd i
  have hexec (s : State) : exec (.shfl i) s = runAll s fun d => d.vxShfl i := rfl
  simp only [rdOnly, vxTable, List.cons_append, List.nil_append, List.take_succ_cons, List.take_zero, List.forall_mem_cons]
  iterate 15 refine ⟨vxInt_wroteRd fun _ => rfl, ?_⟩
  iterate 2 refine ⟨⟨_, fun _ => rfl, hfree⟩, ?_⟩
  refine ⟨⟨_, fun _ => rfl, fun m d => d.wroteRd_vxMap _ _ _⟩, ?_⟩
  refine ⟨⟨shfl, fun s => by simp only [hexec, hshfl], hshflRd⟩, ?_⟩
  iterate 2 refine ⟨⟨_, fun _ => rfl, fun m d => d.wroteRd_vxMap _ _ _⟩, ?_⟩
  exact ⟨hred .add, hred .max, fun _ h => absurd h List.not_mem_nil⟩

/-! ## What such an instruction leaves alone -/

theorem Group.sameFrame_puts (y : Group) (r : Nat) (vs : List (Nat × Nat)) : Group.SameFrame y (y.puts r vs) := by
  induction vs generalizing y with
  | nil => exact ⟨rfl, rfl, rfl, rfl, rfl, rfl, rfl, rfl⟩
  | cons x q ih => exact (y.sameFrame_put _ _ _).trans (ih _)

/-- Registers other than the one written, and lanes other than those that write, stay. -/
theorem Group.reg_puts_ne (y : Group) {r k q : Nat} {vs : List (Nat × Nat)} (t g ts : Nat) (hvs : ∀ x ∈ vs, x.1 < 32) (hk : k < 32)
    (h : (∀ x ∈ vs, k ≠ x.1) ∨ q ≠ r) : (y.puts r vs).reg t g ts k q = y.reg t g ts k q := by
  induction vs generalizing y with
  | nil => rfl
  | cons x p ih =>
    have hrest : (∀ z ∈ p, k ≠ z.1) ∨ q ≠ r := h.imp_left fun h z hz => h z (List.mem_cons_of_mem _ hz)
    have hthis : k ≠ x.1 ∨ q ≠ r := h.imp_left fun h => h x List.mem_cons_self
    exact (ih (y.put x.1 r x.2) (fun z hz => hvs z (List.mem_cons_of_mem _ hz)) hrest).trans
      (y.reg_put_ne _ _ _ _ (hvs x List.mem_cons_self) hk hthis)

theorem mem_lanesOf {m l : Nat} : l ∈ lanesOf m ↔ l < 32 ∧ bitAt m l = true := by
  simp [lanesOf, maskBits, upTo]

section
variable {d e : Dev} {i : VI} {m : Nat}

theorem Dev.WroteRd.calm (h : d.WroteRd e i m) : d.Calm e := by
  obtain ⟨n, vs, -, rfl⟩ := h
  have hdraw : d.Calm { d with freeCtr := n } := ⟨rfl, rfl, rfl, rfl, id, rfl⟩
  exact (hdraw.setGrp _ _ _).vxNext _ _

/-- The device but for the group, the count of free values and the tile that holds the group. -/
theorem Dev.WroteRd.device (h : d.WroteRd e i m) : e.mem = d.mem ∧ e.csr = d.csr ∧ e.cel = d.cel ∧ e.ember = d.ember ∧ e.out = d.out := by
  obtain ⟨n, vs, -, rfl⟩ := h
  exact ⟨rfl, rfl, rfl, rfl, rfl⟩

theorem Dev.WroteRd.grp_ne (h : d.WroteRd e i m) {t g : Nat} (hne : ¬(t = i.t.val ∧ g = i.g.val)) : e.grp t g = d.grp t g := by
  obtain ⟨n, vs, -, rfl⟩ := h
  rw [Dev.vxNext, Dev.grp_setGrp_ne _ _ hne, Dev.grp_setGrp_ne _ _ hne]
  rfl

theorem Dev.WroteRd.iGrp (h : d.WroteRd e i m) : ∃ vs : List (Nat × Nat), (∀ x ∈ vs, x.1 ∈ lanesOf m) ∧
    e.iGrp i = ((d.iGrp i).puts i.rd.val vs).goTo (((d.iGrp i).puts i.rd.val vs).pc + 8) := by
  obtain ⟨n, vs, hvs, rfl⟩ := h
  exact ⟨vs, hvs, by simp [Dev.iGrp, Dev.vxNext]⟩

theorem Dev.WroteRd.frame (h : d.WroteRd e i m) : Group.SameFrame (d.iGrp i) (e.iGrp i) := by
  obtain ⟨vs, -, hg⟩ := h.iGrp
  rw [hg]
  exact ((d.iGrp i).sameFrame_puts _ _).trans (Group.sameFrame_goTo _ _)

theorem Dev.WroteRd.reg (h : d.WroteRd e i m) (l r : Fin 32) (ts : Nat) (hne : bitAt m l.val = false ∨ r ≠ i.rd) :
    (e.iGrp i).reg i.t.val i.g.val ts l.val r.val = (d.iGrp i).reg i.t.val i.g.val ts l.val r.val := by
  obtain ⟨vs, hvs, hg⟩ := h.iGrp
  rw [hg, Group.reg_goTo]
  refine (d.iGrp i).reg_puts_ne _ _ _ (fun x hx => (mem_lanesOf.mp (hvs x hx)).1) l.isLt (hne.imp (fun hb x hx hl => ?_) Fin.val_ne_of_ne)
  have hact := (mem_lanesOf.mp (hvs x hx)).2
  rw [← hl, hb] at hact
  exact Bool.false_ne_true hact

end

/-! ## A park -/

theorem Dev.park_iGrp (d : Dev) (t g c : Nat) :
    (d.park t g c).grp t g = { d.grp t g with st := 3, cause := c, wdcause := 0, wait := .none,
                                              repark := if (d.grp t g).cause = c then satAdd 8 (d.grp t g).repark 1 else 0 } := by
  have h (e : Dev) (k : Nat) (a b : Dev) (ha : a.tile = e.tile) (hb : b.tile = e.tile) : (if k = 16 then a else b).grp t g = e.grp t g := by
    split <;> simp only [Dev.grp, Dev.tileOf, ha, hb]
  unfold Dev.park
  rw [h _ _ _ _ (Dev.logEv_tile ..) (Dev.logF_tile ..), Dev.grp_setGrp_self]

/-- Settles O38: the checks come first for every instruction of the table; those of `rdOnly` then put values in RD and draw free values alone. -/
theorem vectorIssueAndFrame : Obligations.VectorIssueAndFrame := by
  refine ⟨fun s i r ht hs hb e he ho => ?_, fun s i r ht hs hb hd ha e he ho hr => ?_, fun s i r a st ht hs hb e he => ?_,
    fun s i r hi h e he => ?_, fun s i hi ht hs hb hrc => ?_, fun s i hi ht hs hb hd e he ho => ?_, fun s i hi h hrd => ?_⟩
  · obtain ⟨u, f, hc, hu, -⟩ := vxTable_vxGo i r e he
    exact .of_eq (hc s) (Dev.vxGo_illegal (d := s.fresh) ht hs hb (hu.trans ho))
  · obtain ⟨u, f, hc, hu, hreads⟩ := vxTable_vxGo i r e he
    exact .of_eq (hc s) (Dev.vxGo_regUe (d := s.fresh) ht hs hb (hu.trans ho) ⟨hd, hreads hr, ha⟩)
  · obtain ⟨u, f, hc, -, -⟩ := vxTable_vxGo i r e he
    exact .of_eq (hc s) (Dev.vxGo_badStore (d := s.fresh) ht hs hb)
  · obtain ⟨u, f, hc, -, -⟩ := vxTable_vxGo i r e he
    exact .of_idle hi (hc s) (Dev.vxGo_idle (d := s.fresh) h)
  · have ho : (intUse false).ok i = false := by simp [VUse.ok, hrc]
    obtain ⟨u, f, hc, hu, -⟩ := vxTable_vxGo i 0 (.vadd i, intUse false) (by simp [vxTable])
    refine .of_calm hi (hc s) (Dev.vxGo_illegal (d := s.fresh) ht hs hb (hu.trans ho)) ((Dev.Calm.refl _).park _ _ _ _ _) ?_
    simp only [Dev.iGrp, Dev.park_iGrp]
    exact ⟨trivial, trivial, rfl, rfl, ((Dev.Calm.refl s.fresh).park _ _ _ _ _).mem⟩
  · obtain ⟨f, hc, hw⟩ := rdOnly_wroteRd i e he
    have hissue : Issues s.dev e.2 i := ⟨ht, hs, hb, ho, fun h => hd h.1⟩
    have hrd := hw (s.dev.iAct i) (s.fresh.regCe i.t.val i e.2)
    have hgrp : (s.fresh.regCe i.t.val i e.2).iGrp i = s.dev.iGrp i := by
      unfold Dev.regCe
      split <;> rfl
    have hother : ∀ t g, (s.fresh.regCe i.t.val i e.2).grp t g = s.dev.grp t g := fun t g => by
      unfold Dev.regCe
      split <;> rfl
    refine .of_calm hi (hc s) (Dev.vxGo_issues (d := s.fresh) hissue) ((s.fresh.calm_regCe i e.2).trans hrd.calm) ?_
    obtain ⟨hmem, hcsr, hcel, hember, hout⟩ := hrd.device
    have hframe := hrd.frame
    rw [hgrp] at hframe
    refine ⟨hmem.trans (s.fresh.calm_regCe i e.2).mem, fun hclean => hcsr.trans ?_, hcel.trans (s.fresh.calm_regCe i e.2).cel, hember.trans ?_,
      hout.trans ?_, fun t g hne => ?_, fun l r hlr => ?_, hframe.pred, hframe.st.trans hs⟩
    · simp [Dev.regCe, hclean]
    · unfold Dev.regCe
      split <;> rfl
    · unfold Dev.regCe
      split <;> rfl
    · exact (hrd.grp_ne fun h => hne ⟨Fin.ext h.1, Fin.ext h.2⟩).trans (hother _ _)
    · exact (hrd.reg l r _ hlr).trans (congrArg (Group.reg · _ _ _ _ _) hgrp)
  · have hput : ∀ (l v : Nat) (y : Group), y.put l i.rd.val v = y := fun l v y => by simp [Group.put, hrd]
    have hfold (ls : List Nat) (v : Nat → Nat) (y : Group) : ls.foldl (fun z l => z.put l i.rd.val (v l)) y = y := by
      induction ls with
      | nil => rfl
      | cons l q ih => rw [List.foldl_cons, hput, ih]
    refine .of_issues hi rfl h rfl ((Dev.vxDraw_pure fun l _ => packLanes_some _ _ _ _ _ _).trans ?_)
      (((Dev.Calm.refl _).setGrp _ _ _).vxNext _ _)
    rw [Dev.vxMap, hfold]
    exact congrArg (fun y => Dev.vxNext (Dev.setGrp _ _ _ y) _ _) (s.fresh_counted_iGrp i)

end Sys2Proof.Machine
end

section
/-! SUPPORT. Lane and system instructions, and a group's control registers (chapter 13). -/

namespace Sys2Proof.Machine
open Sys2Proof.Machine.Reg

/-! ## Values that RD takes -/

theorem Group.put_mod (y : Group) (l r v : Nat) : y.put l r (v % 2 ^ 32) = y.put l r v := by
  simp [Group.put]

/-- RD takes the low 32 bits of its value. -/
theorem Dev.vxMap_congr {d : Dev} {i : VI} {m : Nat} {f g : Group → Nat → Nat} (h : ∀ l, f (d.iGrp i) l % 2 ^ 32 = g (d.iGrp i) l % 2 ^ 32) :
    d.vxMap i m f = d.vxMap i m g := by
  have hput : (fun (z : Group) l => z.put l i.rd.val (f (d.iGrp i) l)) = fun z l => z.put l i.rd.val (g (d.iGrp i) l) := by
    funext z l
    rw [← Group.put_mod, h, Group.put_mod]
  exact congrArg (fun k => ((d.setGrp i.t.val i.g.val ((lanesOf m).foldl k (d.iGrp i))).vxNext i.t.val i.g.val)) hput

theorem sum_bitIf_eq_zero {c : Nat → Bool} {ls : List Nat} : (ls.map fun l => bitIf (c l) l).sum = 0 ↔ ls.any c = false := by
  rw [List.sum_eq_zero_iff]
  simp [bitIf]

/-- A mask of `n` lanes is full exactly where every lane sets its bit. -/
theorem sum_bitIf_range (c : Nat → Bool) (n : Nat) :
    ((List.range n).map fun l => bitIf (c l) l).sum < 2 ^ n ∧
      (((List.range n).map fun l => bitIf (c l) l).sum = 2 ^ n - 1 ↔ (List.range n).all c = true) := by
  induction n with
  | zero => simp
  | succ n ih =>
    obtain ⟨hlt, hall⟩ := ih
    have hpow : 2 ^ (n + 1) = 2 * 2 ^ n := Nat.pow_succ'
    rw [List.range_succ, List.map_append, List.sum_append, List.all_append, Bool.and_eq_true, ← hall]
    simp only [List.map_cons, List.map_nil, List.sum_cons, List.sum_nil, List.all_cons, List.all_nil, Bool.and_true, Nat.add_zero]
    generalize ((List.range n).map fun l => bitIf (c l) l).sum = S at hlt
    have hpos : 0 < 2 ^ n := Nat.two_pow_pos n
    cases c n
    · simp only [bitIf, Bool.false_eq_true, ↓reduceIte, and_false, iff_false]
      omega
    · simp only [bitIf, ↓reduceIte, and_true]
      omega

/-- The reduction of a list, from its first value on. -/
def redFrom (op : RedOp) : List Nat → Nat
  | [] => 0
  | a :: r => r.foldl (redInt 32 op) a

/-- What RED of integers leaves in RD, where FMT is 0. -/
theorem Dev.vxRed_int {i : VI} {op : RedOp} (hf : i.fmt = 0) (d : Dev) :
    d.vxRed i op = d.vxGo i (laneUse false) fun m d => d.vxMap i m fun _ _ => redFrom op ((lanesOf m).map fun l => bits (d.iA i l) 0 32) := by
  have hfmt : i.fmt.toNat = 0 := by simp [hf]
  have hone (xs : List Nat) : ((upTo (32 / 32)).map fun k =>
      (match xs.map fun v => bits v (k * 32) 32 with
        | [] => 0
        | a :: r => r.foldl (redInt 32 op) a) * 2 ^ (k * 32)).sum = redFrom op (xs.map fun v => bits v 0 32) := by
    rw [show upTo (32 / 32) = [0] from rfl]
    cases xs <;> simp [redFrom]
  unfold Dev.vxRed
  refine congrArg (d.vxGo i (laneUse false)) (funext fun m => funext fun e => ?_)
  rw [hfmt]
  refine (congrArg (fun v => e.vxMap i m fun _ _ => v) (hone ((lanesOf m).map fun l => e.iA i l))).trans ?_
  rw [List.map_map]
  rfl

theorem exec_red_int {i : VI} {op : RedOp} (hf : i.fmt = 0) (s : State) :
    exec (.red i op) s = runAll s fun d => d.vxGo i (laneUse false) fun m d =>
      d.vxMap i m fun _ _ => redFrom op ((lanesOf m).map fun l => bits (d.iA i l) 0 32) := by
  have hexec : exec (.red i op) s = runAll s fun d => d.vxRed i op := rfl
  simp only [hexec, Dev.vxRed_int hf]

theorem foldl_redInt_add (r : List Nat) (a : Nat) :
    ((r.map fun v => bits v 0 32).foldl (redInt 32 .add) a) % 2 ^ 32 = (a + r.sum) % 2 ^ 32 := by
  induction r generalizing a with
  | nil => rfl
  | cons v r ih =>
    rw [List.map_cons, List.foldl_cons, ih]
    simp only [redInt, bits, List.sum_cons, pow_zero, Nat.div_one]
    omega

theorem toSigned_bits (v : Nat) : toSigned 32 (bits v 0 32) = toSigned 32 v := by
  simp [toSigned, bits]

section
variable {d : Dev} {i : VI} {m : Nat}

/-- SHFL among lanes that act. -/
theorem Dev.vxDraw_shfl (h : ((lanesOf m).all fun l => decide (d.iB i l < 32) && bitAt m (d.iB i l)) = true) :
    (d.vxDraw i m fun y l e =>
      if viB i y e.now l < 32 ∧ bitAt m (viB i y e.now l) = true then (viA i y e.now (viB i y e.now l), e) else (e.draw.1 % 2 ^ 32, e.draw.2))
      = d.vxMap i m fun _ l => d.iA i (d.iB i l) :=
  Dev.vxDraw_pure fun l hl => if_pos (by simpa using List.all_eq_true.mp h l hl)

end

/-! ## The registers of TIL_GRP -/

section
variable {d : Dev} {p : Path} {v : Word64} {t : PTile} {g : Fin 16}

/-- A write of a group's register goes to the tile's hook. -/
theorem Dev.csrWrite_grp {k : Nat} {e : Dev} (h : Reaches d p (grpReg t.val g.val k)) (hk : k < 0x40) (h8 : k % 8 = 0)
    (he : d.hookTile t.val (grpReg t.val g.val k) 8 (pathCode p) v.toNat (2 ^ 64 - 1) = some e) :
    d.csrWrite p (grpReg t.val g.val k) 8 v.toNat = e.emit .wrDone := by
  have ht := t.isLt
  have hg := g.isLt
  have htile : (grpReg t.val g.val k - 0x1000000) / 0x10000 = t.val := by unfold grpReg; omega
  rw [Dev.csrWrite_tile v h (by unfold grpReg; omega) (by unfold grpReg; omega) (by unfold grpReg; omega), htile, he]
  rfl

/-- Where a group's register stands in the block of its tile. -/
theorem grpReg_place (t : PTile) (g : Fin 16) {k : Nat} (hk : k < 0x40) : ∃ o, grpReg t.val g.val k % 0x10000 = o ∧
    ¬ o = 0x100 ∧ ¬ (0x300 ≤ o ∧ o < 0x380) ∧ ¬ o = 0x400 ∧ (0x800 ≤ o ∧ o < 0xC00) ∧ (o - 0x800) / 0x40 = g.val ∧ o % 0x40 = k := by
  have ht := t.isLt
  have hg := g.isLt
  refine ⟨_, rfl, ?_⟩
  unfold grpReg
  omega

variable {bytes path w m : Nat}

theorem Dev.hookTile_spare {k : Nat} (hk : k < 0x40) (hs : d.ltile t.val = 64) :
    d.hookTile t.val (grpReg t.val g.val k) bytes path w m = some d := by
  obtain ⟨o, ho, h1, h2, h3, h4, -, -⟩ := grpReg_place t g hk
  simp only [Dev.hookTile, ho, h1, h2, h3, h4, hs, and_self, ↓reduceIte]

section
variable (ht : d.ltile t.val < 64)
include ht

theorem Dev.hookTile_grpCtl : d.hookTile t.val (grpReg t.val g.val 0x28) bytes path w m =
    some (d.grpCtl (d.ltile t.val) g.val (grpReg t.val g.val 0x28) bytes path w) := by
  obtain ⟨o, ho, h1, h2, h3, h4, hg, hk⟩ := grpReg_place t g (k := 0x28) (by decide)
  simp only [Dev.hookTile, ho, h1, h2, h3, h4, hg, hk, ht.ne, and_self, ↓reduceIte]

theorem Dev.hookTile_spillBase : d.hookTile t.val (grpReg t.val g.val 0x18) bytes path w m =
    some (d.spillBound (d.ltile t.val) g.val (grpReg t.val g.val 0x18) bytes path w true) := by
  obtain ⟨o, ho, h1, h2, h3, h4, hg, hk⟩ := grpReg_place t g (k := 0x18) (by decide)
  simp only [Dev.hookTile, ho, h1, h2, h3, h4, hg, hk, ht.ne, and_self, ↓reduceIte]

theorem Dev.hookTile_spillLimit : d.hookTile t.val (grpReg t.val g.val 0x20) bytes path w m =
    some (d.spillBound (d.ltile t.val) g.val (grpReg t.val g.val 0x20) bytes path w false) := by
  obtain ⟨o, ho, h1, h2, h3, h4, hg, hk⟩ := grpReg_place t g (k := 0x20) (by decide)
  simp only [Dev.hookTile, ho, h1, h2, h3, h4, hg, hk, ht.ne, and_self, ↓reduceIte]

end

/-! ### What they do -/

section
variable {u q off : Nat}

theorem Dev.grpCtl_wrongKey (hk : bits w 48 16 ≠ 0x6A51) : d.grpCtl u q off bytes path w = d.csrAccess off bytes path 2 := if_pos hk

section
variable (hk : bits w 48 16 = 0x6A51)
include hk

theorem Dev.grpCtl_replay (h0 : bitAt w 0 = true) (h1 : bitAt w 1 = false) (hs : (d.grp u q).st = 3) :
    d.grpCtl u q off bytes path w = d.replayGroup u q := by
  simp [Dev.grpCtl, hk, h0, h1, hs]

theorem Dev.grpCtl_refused (h0 : bitAt w 0 = true) (hs : (d.grp u q).st ≠ 3) : d.grpCtl u q off bytes path w = d.csrAccess off bytes path 3 := by
  have hgrp : (d.csrAccess off bytes path 3).grp u q = d.grp u q := by simp [Dev.grp, Dev.tileOf, Dev.csrAccess]
  simp [Dev.grpCtl, hk, h0, hs, hgrp]

theorem Dev.grpCtl_abort (h0 : bitAt w 0 = false) (h1 : bitAt w 1 = true) (hs : (d.grp u q).st = 3) :
    d.grpCtl u q off bytes path w = d.groupEnd u q true := by
  simp [Dev.grpCtl, hk, h0, h1, hs]

end

theorem Dev.replayGroup_runs (hs : (d.grp u q).st = 3) (hc : (d.grp u q).cause ≠ 1) :
    d.replayGroup u q = d.setGrp u q { d.grp u q with st := 1 } := by
  simp [Dev.replayGroup, hs, hc]

/-- A group that lacks a window. -/
theorem Dev.replayGroup_window (hs : (d.grp u q).st = 3) (hc : (d.grp u q).cause = 1) :
    d.replayGroup u q =
      (let y := d.grp u q
       if y.live = 8 then
         if y.noRoom then d.park u q 1 0
         else let d := d.spill u q; d.setGrp u q { d.grp u q with st := 1, live := 7 }
       else let d := d.fillWin u q; d.setGrp u q { d.grp u q with st := 1, live := 2 }) := by
  simp [Dev.replayGroup, hs, hc]

theorem Dev.spillBound_running {b : Bool} (hs : (d.grp u q).st = 1 ∨ (d.grp u q).st = 2) :
    d.spillBound u q off bytes path w b = d.csrAccess off bytes path 3 :=
  if_pos (by rcases hs with hs | hs <;> simp [hs])

theorem Dev.spillBound_base (hs : (d.grp u q).st = 0 ∨ (d.grp u q).st = 3) (hz : (d.grp u q).spill = 0)
    (hb : w % 2 ^ 21 / 2048 * 2048 ≤ (d.grp u q).limit) (hl : (d.grp u q).limit ≤ d.tcBase) :
    d.spillBound u q off bytes path w true = d.setGrp u q { d.grp u q with base := w % 2 ^ 21 / 2048 * 2048 } := by
  unfold Dev.spillBound
  dsimp only
  rw [if_neg (by rcases hs with hs | hs <;> simp [hs, hz]), if_neg (by simp only [↓reduceIte]; omega)]
  rfl

theorem Dev.spillBound_limit (hs : (d.grp u q).st = 0 ∨ (d.grp u q).st = 3)
    (hb : (d.grp u q).base ≤ w % 2 ^ 21 / 2048 * 2048) (hl : w % 2 ^ 21 / 2048 * 2048 ≤ d.tcBase) :
    d.spillBound u q off bytes path w false = d.setGrp u q { d.grp u q with limit := w % 2 ^ 21 / 2048 * 2048 } := by
  unfold Dev.spillBound
  dsimp only
  rw [if_neg (by rcases hs with hs | hs <;> simp [hs]), if_neg (by simp only [Bool.false_eq_true, ↓reduceIte]; omega)]
  rfl

end

end

section
variable {d : Dev} {p : Path} {v : Word64} {t : PTile} {g : Fin 16}

/-- The tile held as spare has no group: a write of a group's register changes nothing. -/
theorem Dev.write64_grp_spare {k : Nat} (hk : k < 0x40) (h8 : k % 8 = 0) (h : Reaches d p (grpReg t.val g.val k)) (hs : d.ltile t.val = 64) :
    write64 p (grpReg t.val g.val k) v d = d.emit .wrDone := Dev.csrWrite_grp h hk h8 (Dev.hookTile_spare hk hs)

section
variable (ht : d.ltile t.val < 64)
include ht

theorem Dev.write64_grpCtl (h : Reaches d p (grpReg t.val g.val 0x28)) :
    write64 p (grpReg t.val g.val 0x28) v d = (d.grpCtl (d.ltile t.val) g.val (grpReg t.val g.val 0x28) 8 (pathCode p) v.toNat).emit .wrDone :=
  Dev.csrWrite_grp h (by decide) (by decide) (Dev.hookTile_grpCtl ht)

theorem Dev.write64_spillBase (h : Reaches d p (grpReg t.val g.val 0x18)) :
    write64 p (grpReg t.val g.val 0x18) v d = (d.spillBound (d.ltile t.val) g.val (grpReg t.val g.val 0x18) 8 (pathCode p) v.toNat true).emit .wrDone :=
  Dev.csrWrite_grp h (by decide) (by decide) (Dev.hookTile_spillBase ht)

theorem Dev.write64_spillLimit (h : Reaches d p (grpReg t.val g.val 0x20)) :
    write64 p (grpReg t.val g.val 0x20) v d = (d.spillBound (d.ltile t.val) g.val (grpReg t.val g.val 0x20) 8 (pathCode p) v.toNat false).emit .wrDone :=
  Dev.csrWrite_grp h (by decide) (by decide) (Dev.hookTile_spillLimit ht)

end

end

section
variable {c : Instr} {s : State} {p : Path} {v : Word64} {t : PTile} {g : Fin 16} {e : Dev}

theorem Gives.of_grpCtl (hc : exec c s = runAll s (write64 p (grpReg t.val g.val 0x28) v)) (h : Reaches s.dev p (grpReg t.val g.val 0x28))
    (ht : s.dev.ltile t.val < 64)
    (he : s.fresh.grpCtl (s.dev.ltile t.val) g.val (grpReg t.val g.val 0x28) 8 (pathCode p) v.toNat = e) : Gives c s (e.emit .wrDone) :=
  .of_eq hc (he ▸ Dev.write64_grpCtl (d := s.fresh) ht h)

end

section
variable {s : State}

/-- A lane operand as the device reads it after it has counted a register error. -/
theorem State.counted_iA (i : VI) (l : Nat) : (s.fresh.counted i).iA i l = s.dev.iA i l := by
  rw [Dev.iA, State.fresh_counted_iGrp, Dev.counted_now]
  rfl

theorem State.counted_iB (i : VI) (l : Nat) : (s.fresh.counted i).iB i l = s.dev.iB i l := by
  rw [Dev.iB, State.fresh_counted_iGrp, Dev.counted_now]
  rfl

end

/-! ### The instructions' bodies -/

/-- VOTE of the lanes of a mask, where some lane's bit is set. -/
theorem vote_any (c : Nat → Bool) (ls : List Nat) :
    (if (ls.map fun l => bitIf (c l) l).sum = 0 then 0 else 1) = if ls.any c then 1 else 0 := by
  simp only [sum_bitIf_eq_zero]
  cases ls.any c <;> rfl

/-- VOTE of every lane. -/
theorem vote_all (c : Nat → Bool) :
    (if ((lanesOf (2 ^ 32 - 1)).map fun l => bitIf (c l) l).sum = 2 ^ 32 - 1 then 1 else 0) = if (lanesOf (2 ^ 32 - 1)).all c then 1 else 0 := by
  rw [show lanesOf (2 ^ 32 - 1) = List.range 32 by decide]
  simp only [(sum_bitIf_range c 32).2]

theorem redFrom_add_mod (r : List Nat) (f : Nat → Nat) : redFrom .add (r.map fun l => bits (f l) 0 32) % 2 ^ 32 = (r.map f).sum % 2 ^ 32 := by
  cases r with
  | nil => rfl
  | cons a r =>
    have hsum := foldl_redInt_add (r.map f) (bits (f a) 0 32)
    rw [List.map_map] at hsum
    refine hsum.trans ?_
    simp only [bits, List.map_cons, List.sum_cons, pow_zero, Nat.div_one, Nat.mod_add_mod]

theorem redFrom_min_mod (a b : Nat) : redFrom .min [bits a 0 32, bits b 0 32] % 2 ^ 32 = (if toSigned 32 b < toSigned 32 a then b else a) % 2 ^ 32 := by
  simp only [redFrom, List.foldl_cons, List.foldl_nil, redInt, toSigned_bits]
  split <;> simp [bits]

theorem redFrom_max_mod (a b : Nat) : redFrom .max [bits a 0 32, bits b 0 32] % 2 ^ 32 = (if toSigned 32 a < toSigned 32 b then b else a) % 2 ^ 32 := by
  simp only [redFrom, List.foldl_cons, List.foldl_nil, redInt, toSigned_bits]
  split <;> simp [bits]

/-- What the requesting stop does with a lock request reaches no memory, tile cache or transfer. -/
theorem Dev.Calm.lockAsk {d e : Dev} (h : d.Calm e) (stop unit tag lock op : Nat) : d.Calm (e.lockAsk stop unit tag lock op) := by
  obtain ⟨hmem, hcpl, hhand, hcel, hplain, hrep⟩ := h
  unfold Dev.lockAsk
  extract_lets moves
  split <;> exact ⟨hmem, hcpl, hhand, hcel, hplain, hrep⟩

/-- The body of a lock instruction of a group in which some thread acts. -/
theorem State.vxLock_asks {s : State} {i : VI} (hm : s.dev.iAct i ≠ 0) (op : Nat) :
    (if s.dev.iAct i = 0 then (s.fresh.counted i).vxNext i.t.val i.g.val
      else ((s.fresh.counted i).setGrp i.t.val i.g.val { (s.fresh.counted i).iGrp i with st := 2, wait := .lock i.rd.val (s.dev.iAct i) }).lockAsk
        ((s.fresh.counted i).stopOf i.t.val) 0 (0x400 + i.g.val)
        (viA i ((s.fresh.counted i).iGrp i) (s.fresh.counted i).now (firstLane (s.dev.iAct i)) % 256) op)
      = ((s.fresh.counted i).setGrp i.t.val i.g.val { s.dev.iGrp i with st := 2, wait := .lock i.rd.val (s.dev.iAct i) }).lockAsk
        (s.dev.stopOf i.t.val) 0 (0x400 + i.g.val) (s.dev.iA i (firstLane (s.dev.iAct i)) % 256) op := by
  have hstop : (s.fresh.counted i).stopOf i.t.val = s.dev.stopOf i.t.val := by
    simp only [Dev.counted, Dev.stopOf, Dev.ptile]
    split <;> rfl
  rw [if_neg hm, State.fresh_counted_iGrp, Dev.counted_now, hstop]
  rfl

/-- Settles O44: the lane instructions write RD, the system instructions move the group's wait, and a group's registers act through the tile's hook. -/
theorem laneSystemAndGroups : Obligations.LaneSystemAndGroups := by
  refine ⟨fun s i hi h hl => ?_, fun s i hi h => ⟨?_, ?_⟩, fun s i op hi h hm ho => ?_, fun s i hi h hf hm => ?_, fun s i l k hi h hf hl => ⟨?_, ?_⟩,
    fun s i r hi h hm hr => ?_, fun s i hi h hm => ?_, fun s i hi h hm => ?_, fun s i hi h => ⟨?_, fun hm => ?_⟩,
    fun s t g p v hp ht hk h0 h1 hs hc => ?_, fun s t g p v hp ht hk h0 h1 hs hc => ?_, fun s t g p v hp ht hk h0 hs => ?_,
    fun s t g p v ht => ⟨fun hp => ⟨?_, ?_⟩, fun hp => ?_, fun hp => ?_⟩, fun s t g p v hp ht hk h0 h1 hs => ?_, fun s t g p v hp ht hk => ⟨?_, ?_⟩,
    fun s t g p v hp ht hs hz hb hl => ?_, fun s t g p v hp ht hs hb hl => ?_, fun s t g p v ht hs => ⟨fun hp => ?_, fun hp => ?_⟩⟩
  · have hl' : ((lanesOf (s.dev.iAct i)).all fun l => decide ((s.fresh.counted i).iB i l < 32) && bitAt (s.dev.iAct i) ((s.fresh.counted i).iB i l))
        = true := by simpa only [State.counted_iB] using hl
    refine .of_issues hi rfl h rfl ((Dev.vxDraw_shfl hl').trans ?_)
    simp only [State.counted_iA, State.counted_iB]
  · refine .of_issues hi rfl h rfl (Dev.vxMap_congr fun _ => congrArg (· % 2 ^ 32) ?_)
    exact (vote_any _ _).trans (by simp only [State.counted_iA])
  · refine .of_issues hi rfl h rfl (Dev.vxMap_congr fun _ => congrArg (· % 2 ^ 32) ?_)
    simp only [State.counted_iA]
  · subst ho
    refine .of_issues hi rfl h rfl (Dev.vxMap_congr fun _ => congrArg (· % 2 ^ 32) ?_)
    rw [hm]
    exact (vote_all _).trans (by simp only [State.counted_iA])
  · refine .of_issues hi (exec_red_int hf s) h rfl (Dev.vxMap_congr fun _ => ?_)
    simp only [State.counted_iA, redFrom_add_mod, Nat.mod_mod]
  · refine .of_issues hi (exec_red_int hf s) h rfl (Dev.vxMap_congr fun _ => ?_)
    simp only [State.counted_iA, hl, List.map_cons, List.map_nil, redFrom_min_mod]
  · refine .of_issues hi (exec_red_int hf s) h rfl (Dev.vxMap_congr fun _ => ?_)
    simp only [State.counted_iA, hl, List.map_cons, List.map_nil, redFrom_max_mod]
  · refine .of_issues_none hi rfl h rfl ?_ ((Dev.Calm.refl _).setTile _ _)
    have hrun : (s.fresh.grp i.t.val i.g.val).run = some r := hr
    simp only [hrun, hr, hm, ↓reduceIte]
    rfl
  · refine .of_issues_none hi rfl h rfl ?_ (((Dev.Calm.refl _).setGrp _ _ _).ite ((Dev.Calm.refl _).vxNext _ _))
    simp only [hm, ne_eq, not_false_eq_true, true_and]
    rfl
  · have hlock (op : Nat) := ((Dev.Calm.refl (s.fresh.counted i)).setGrp i.t.val i.g.val
      { s.dev.iGrp i with st := 2, wait := .lock i.rd.val (s.dev.iAct i) }).lockAsk (s.dev.stopOf i.t.val) 0 (0x400 + i.g.val)
      (s.dev.iA i (firstLane (s.dev.iAct i)) % 256) op
    exact ⟨.of_issues hi rfl h rfl (State.vxLock_asks hm 0) (hlock 0), .of_issues hi rfl h rfl (State.vxLock_asks hm 1) (hlock 1),
      .of_issues hi rfl h rfl (State.vxLock_asks hm 2) (hlock 2)⟩
  · exact .of_issues_none hi rfl h rfl rfl ((Dev.Calm.refl _).vxNext _ _)
  · exact .of_issues_none hi rfl h rfl (if_neg hm) ((Dev.Calm.refl _).park _ _ _ _ _)
  · exact .of_grpCtl rfl hp ht ((Dev.grpCtl_replay (d := s.fresh) hk h0 h1 hs).trans (Dev.replayGroup_runs (d := s.fresh) hs hc))
  · exact .of_grpCtl rfl hp ht ((Dev.grpCtl_replay (d := s.fresh) hk h0 h1 hs).trans (Dev.replayGroup_window (d := s.fresh) hs hc))
  · exact .of_grpCtl rfl hp ht (Dev.grpCtl_refused (d := s.fresh) hk h0 hs)
  · exact .of_eq rfl (Dev.write64_grp_spare (d := s.fresh) (k := 0x28) (by decide) (by decide) hp ht)
  · exact .of_eq rfl (Dev.write64_grp_spare (d := s.fresh) (k := 0x28) (by decide) (by decide) hp ht)
  · exact .of_eq rfl (Dev.write64_grp_spare (d := s.fresh) (k := 0x18) (by decide) (by decide) hp ht)
  · exact .of_eq rfl (Dev.write64_grp_spare (d := s.fresh) (k := 0x20) (by decide) (by decide) hp ht)
  · exact .of_grpCtl rfl hp ht (Dev.grpCtl_abort (d := s.fresh) hk h0 h1 hs)
  · exact .of_grpCtl rfl hp ht (Dev.grpCtl_wrongKey (d := s.fresh) hk)
  · exact .of_grpCtl rfl hp ht (Dev.grpCtl_wrongKey (d := s.fresh) hk)
  · exact .of_eq rfl ((Dev.write64_spillBase (d := s.fresh) ht hp).trans (congrArg (·.emit .wrDone) (Dev.spillBound_base (d := s.fresh) hs hz hb hl)))
  · exact .of_eq rfl ((Dev.write64_spillLimit (d := s.fresh) ht hp).trans (congrArg (·.emit .wrDone) (Dev.spillBound_limit (d := s.fresh) hs hb hl)))
  · exact .of_eq rfl ((Dev.write64_spillBase (d := s.fresh) ht hp).trans (congrArg (·.emit .wrDone) (Dev.spillBound_running (d := s.fresh) hs)))
  · exact .of_eq rfl ((Dev.write64_spillLimit (d := s.fresh) ht hp).trans (congrArg (·.emit .wrDone) (Dev.spillBound_running (d := s.fresh) hs)))

end Sys2Proof.Machine
end


section
/-! SUPPORT. The handover cells (chapter 7). -/

namespace Sys2Proof.Machine
open Sys2Proof.Machine.Reg

/-- No register above it is the state of a replay run. -/
theorem Fld.repState_ne {f : Fld} {i j : Nat} (h : 0x418 < f.off) : REP_STATE.key 0 0 ≠ f.key i j := by
  have hrep : REP_STATE.key 0 0 = 0x418 * 64 := rfl
  have hkey : f.key i j = (f.off + i * f.s1 + j * f.s2) * 64 + f.lo := rfl
  have hpos : 0 ≤ i * f.s1 + j * f.s2 := Nat.zero_le _
  generalize i * f.s1 = a at *
  generalize j * f.s2 = b at *
  omega

/-- What one step of a fold brings about, and none undoes, holds after the fold. -/
theorem foldl_reaches {α β : Type} {P : β → Prop} {f : β → α → β} {l : List α} {a : α} (ha : a ∈ l) (h : ∀ b, P (f b a)) (hk : ∀ b x, P b → P (f b x))
    (b : β) : P (l.foldl f b) := by
  induction l generalizing b with
  | nil => cases ha
  | cons x l ih =>
    rcases List.mem_cons.mp ha with rfl | hl
    · exact List.foldlRecOn l f (h b) fun c hc x _ => hk c x hc
    · exact ih hl _

/-- A field that reads 0 does so after 0 is written to any field of the same reset value. -/
theorem Dev.fld_setF_zero {d : Dev} {f g : Fld} {i j k l : Nat} (hr : g.rst = f.rst) (h : d.fld g k l = 0) : (d.setF f 0 i j).fld g k l = 0 := by
  by_cases hk : g.key k l = f.key i j
  · rw [Dev.fld_setF d f g 0 i j k l hr hk, Nat.zero_mod]
  · rw [Dev.fld_setF_ne d 0 hk, h]

section
variable {d : Dev} {r t e c : Nat}

/-- What a timer that has reached CMP does. -/
theorem Dev.hxMatch_due (hr : d.released = true) (hs : NatSet.has d.fab.hxStop (16 * r + t) = false)
    (hl : (NatSet.has d.load.loaded r || d.regionBusy r) = true) (ha : d.hxMatchAt r t ≤ d.clk.root) :
    d.hxMatch r t =
      if d.regionBusy r then (if d.flag HX_MATCH_PEND r t then (d.hxNext r t).inc HX_MISSED 1 r t else (d.hxNext r t).setF HX_MATCH_PEND 1 r t)
      else if Sparse.get 0 d.fab.hxFirst (16 * r + t) ≠ 0 ∧ d.hxMatchAt r t < Sparse.get 0 d.fab.hxFirst (16 * r + t) - 1 + d.regionDiv r
      then (d.hxNext r t).inc HX_MISSED 1 r t
      else (d.hxNext r t).emit (.pulse "HX_MATCH" (16 * r + t)) := by
  have hquiet : (!d.released || NatSet.has d.fab.hxStop (16 * r + t) || !(NatSet.has d.load.loaded r || d.regionBusy r) ||
      decide (d.clk.root < d.hxMatchAt r t)) = false := by simp [hr, hs, hl, ha]
  unfold Dev.hxMatch
  simp only [hquiet, Bool.false_eq_true, ↓reduceIte, Bool.and_eq_true, bne_iff_ne, decide_eq_true_eq]
  rfl

section
variable (hr : d.released = true) (hs : NatSet.has d.fab.hxStop (16 * r + t) = false) (ha : d.hxMatchAt r t ≤ d.clk.root)
include hr hs ha

theorem Dev.hxMatch_running (hl : NatSet.has d.load.loaded r = true) (hb : d.regionBusy r = false)
    (hf : Sparse.get 0 d.fab.hxFirst (16 * r + t) = 0) : d.hxMatch r t = (d.hxNext r t).emit (.pulse "HX_MATCH" (16 * r + t)) := by
  simp [Dev.hxMatch_due hr hs (by simp [hl]) ha, hb, hf]

theorem Dev.hxMatch_thawed {at_ : Nat} (hl : NatSet.has d.load.loaded r = true) (hb : d.regionBusy r = false)
    (hf : Sparse.get 0 d.fab.hxFirst (16 * r + t) = 1 + at_) :
    d.hxMatch r t = if d.hxMatchAt r t < at_ + d.regionDiv r then (d.hxNext r t).inc HX_MISSED 1 r t
      else (d.hxNext r t).emit (.pulse "HX_MATCH" (16 * r + t)) := by
  simp [Dev.hxMatch_due hr hs (by simp [hl]) ha, hb, hf]

theorem Dev.hxMatch_frozen (hb : d.regionBusy r = true) :
    d.hxMatch r t = if d.flag HX_MATCH_PEND r t then (d.hxNext r t).inc HX_MISSED 1 r t else (d.hxNext r t).setF HX_MATCH_PEND 1 r t := by
  simp [Dev.hxMatch_due hr hs (by simp [hb]) ha, hb]

end

/-- A timer that has not reached CMP, or stands there, does nothing. -/
theorem Dev.hxMatch_quiet (h : d.clk.root < d.hxMatchAt r t ∨ NatSet.has d.fab.hxStop (16 * r + t) = true) : d.hxMatch r t = d :=
  if_pos (by rcases h with h | h <;> simp [h])

section
variable {up : Bool}

theorem Dev.hxEdgeSeen_running (hr : d.released = true) (hs : bitAt (d.fld HX_SENSE r e) (if up then 0 else 1) = true)
    (hb : d.regionBusy r = false) : d.hxEdgeSeen r e up = d.emit (.pulse "HX_EDGE" (32 * r + e)) := by
  unfold Dev.hxEdgeSeen
  rw [if_neg (by simp [hr, hs]), if_pos (by simp [hb])]

theorem Dev.hxEdgeSeen_frozen (hr : d.released = true) (hs : bitAt (d.fld HX_SENSE r e) (if up then 0 else 1) = true)
    (hb : d.regionBusy r = true) :
    d.hxEdgeSeen r e up = if d.flag HX_PEND r e then (d.setF HX_OVERRUN 1 r e).inc HX_OVR_CNT 1 r e
      else (d.setF HX_PEND 1 r e).setF HX_EDGE_TS d.now r e := by
  unfold Dev.hxEdgeSeen
  rw [if_neg (by simp [hr, hs]), if_neg (by simp [hb])]

theorem Dev.hxEdgeSeen_other (hs : bitAt (d.fld HX_SENSE r e) (if up then 0 else 1) = false) : d.hxEdgeSeen r e up = d := if_pos (by simp [hs])

end

theorem Dev.Calm.hxNext (d : Dev) (r t : Nat) : d.Calm (d.hxNext r t) := ⟨rfl, rfl, rfl, rfl, id, rfl⟩

/-! ## A cell read -/

/-- A cell's timer with its missed matches cleared. -/
def Dev.hxClearTimer (r c : Nat) (d : Dev) (i : Nat) : Dev := d.setF HX_MISSED 0 r (4 * c + i)

/-- A cell's edge with its overruns cleared. -/
def Dev.hxClearEdge (r c : Nat) (d : Dev) (i : Nat) : Dev := (d.setF HX_OVERRUN 0 r (8 * c + i)).setF HX_OVR_CNT 0 r (8 * c + i)

/-- The fields of a cell that its read clears. -/
def Dev.hxCleared (d : Dev) (r c : Nat) : Dev := (upTo 8).foldl (Dev.hxClearEdge r c) ((upTo 4).foldl (Dev.hxClearTimer r c) (d.setF HX_HO_PEND 0 r c))

/-- A cell read of a region that runs: the cell goes out, and what it clears is cleared. -/
theorem Dev.hxRead_runs (h : d.regionRuns r = true) : ∃ l, d.hxRead r c = (d.emit (.link "HX" (4 * r + c) l [])).hxCleared r c :=
  ⟨_, if_neg (by simp [h])⟩

section
variable {g : Fld} {k l : Nat} (hg : g.rst = 0)
include hg

theorem Dev.hxClearTimer_zero (d : Dev) (i : Nat) (h : d.fld g k l = 0) : (d.hxClearTimer r c i).fld g k l = 0 := Dev.fld_setF_zero hg h

theorem Dev.hxClearEdge_zero (d : Dev) (i : Nat) (h : d.fld g k l = 0) : (d.hxClearEdge r c i).fld g k l = 0 :=
  Dev.fld_setF_zero hg (Dev.fld_setF_zero hg h)

theorem Dev.foldl_hxClearEdge_zero {d : Dev} (is : List Nat) (h : d.fld g k l = 0) : (is.foldl (Dev.hxClearEdge r c) d).fld g k l = 0 :=
  List.foldlRecOn (motive := fun e : Dev => e.fld g k l = 0) is _ h fun e he i _ => Dev.hxClearEdge_zero hg e i he

theorem Dev.foldl_hxClearTimer_zero {d : Dev} (is : List Nat) (h : d.fld g k l = 0) : (is.foldl (Dev.hxClearTimer r c) d).fld g k l = 0 :=
  List.foldlRecOn (motive := fun e : Dev => e.fld g k l = 0) is _ h fun e he i _ => Dev.hxClearTimer_zero hg e i he

end

theorem Dev.hxCleared_pend : (d.hxCleared r c).flag HX_HO_PEND r c = false := by
  rw [Dev.flag, bne_eq_false_iff_eq]
  exact Dev.foldl_hxClearEdge_zero rfl _ (Dev.foldl_hxClearTimer_zero rfl _ (Dev.fld_setF_self d HX_HO_PEND 0 r c))

theorem Dev.hxCleared_missed (i : Fin 4) : (d.hxCleared r c).fld HX_MISSED r (4 * c + i.val) = 0 :=
  Dev.foldl_hxClearEdge_zero rfl _ (foldl_reaches (f := Dev.hxClearTimer r c) (P := fun e : Dev => e.fld HX_MISSED r (4 * c + i.val) = 0)
    (List.mem_range.mpr i.isLt) (fun e => Dev.fld_setF_self e HX_MISSED 0 r (4 * c + i.val)) (fun e x he => Dev.hxClearTimer_zero rfl e x he) _)

theorem Dev.hxCleared_overrun (i : Fin 8) :
    (d.hxCleared r c).flag HX_OVERRUN r (8 * c + i.val) = false ∧ (d.hxCleared r c).fld HX_OVR_CNT r (8 * c + i.val) = 0 := by
  rw [Dev.flag, bne_eq_false_iff_eq]
  exact ⟨foldl_reaches (f := Dev.hxClearEdge r c) (P := fun e : Dev => e.fld HX_OVERRUN r (8 * c + i.val) = 0) (List.mem_range.mpr i.isLt)
      (fun e => Dev.fld_setF_zero rfl (Dev.fld_setF_self e HX_OVERRUN 0 r (8 * c + i.val))) (fun e x he => Dev.hxClearEdge_zero rfl e x he) _,
    foldl_reaches (f := Dev.hxClearEdge r c) (P := fun e : Dev => e.fld HX_OVR_CNT r (8 * c + i.val) = 0) (List.mem_range.mpr i.isLt)
      (fun e => Dev.fld_setF_self (e.setF HX_OVERRUN 0 r (8 * c + i.val)) HX_OVR_CNT 0 r (8 * c + i.val)) (fun e x he => Dev.hxClearEdge_zero rfl e x he) _⟩

theorem Dev.Calm.hxCleared (d : Dev) (r c : Nat) : d.Calm (d.hxCleared r c) := by
  have htimer (e : Dev) (i : Nat) : e.Calm (e.hxClearTimer r c i) := (Dev.Calm.refl e).setF _ (Fld.repState_ne (by decide))
  have hedge (e : Dev) (i : Nat) : e.Calm (e.hxClearEdge r c i) :=
    ((Dev.Calm.refl e).setF _ (Fld.repState_ne (by decide))).setF _ (Fld.repState_ne (by decide))
  exact (((Dev.Calm.refl d).setF _ (Fld.repState_ne (by decide))).foldl htimer _).foldl hedge _

theorem Dev.hxCleared_frame : (d.hxCleared r c).out = d.out ∧ (d.hxCleared r c).fab = d.fab := by
  have htimer := List.foldlRecOn (motive := fun e : Dev => e.out = d.out ∧ e.fab = d.fab) (upTo 4) (Dev.hxClearTimer r c)
    (b := d.setF HX_HO_PEND 0 r c) ⟨rfl, rfl⟩ fun _ he _ _ => he
  exact List.foldlRecOn (motive := fun e : Dev => e.out = d.out ∧ e.fab = d.fab) (upTo 8) (Dev.hxClearEdge r c) htimer fun _ he _ _ => he

/-! ## A cell write -/

section
variable {x : HxSet} (hr : d.regionRuns r = true)
include hr

/-- A write in front of the read is out of order. -/
theorem Dev.hxWrite_order (hp : d.flag HX_HO_PEND r c = true) :
    d.hxWrite r c x = (d.setF HX_HO_ORDER 1 r c).logEv 0x9008 .D r [dU 1 r, dU 1 c] := by
  simp [Dev.hxWrite, hr, hp]

theorem Dev.hxWrite_timer {i : Fin 4} {cmp : BitVec 48} {pre : BitVec 8} {src per : Bool} (hp : d.flag HX_HO_PEND r c = false) :
    d.hxWrite r c (.timer i cmp pre src per) =
      d.hxTimerSet r (4 * c + i.val) (cmp.toNat + pre.toNat * 2 ^ 48 + bitIf src 56 + bitIf per 57) := by
  simp [Dev.hxWrite, hr, hp]

theorem Dev.hxWrite_edge {i : Fin 8} {sense : BitVec 2} (hp : d.flag HX_HO_PEND r c = false) :
    d.hxWrite r c (.edge i sense) = d.setF HX_SENSE sense.toNat r (8 * c + i.val) := by
  simp [Dev.hxWrite, hr, hp]

end

theorem Dev.Calm.hxTimerSet (d : Dev) (r t v : Nat) : d.Calm (d.hxTimerSet r t v) := by
  have hk {f : Fld} (h : 0x418 < f.off) : REP_STATE.key 0 0 ≠ f.key r t := Fld.repState_ne h
  have hset := ((((Dev.Calm.refl d).setF (f := HX_CMP) v (hk (by decide))).setF (f := HX_PRE) (v / 2 ^ 48) (hk (by decide))).setF (f := HX_SRC)
    (v / 2 ^ 56) (hk (by decide))).setF (f := HX_PERIODIC) (v / 2 ^ 57) (hk (by decide))
  obtain ⟨hmem, hcpl, hhand, hcel, hplain, hrep⟩ := hset
  exact ⟨hmem, hcpl, hhand, hcel, hplain, hrep⟩

/-- A timer that has just been set stands at 0. -/
theorem Dev.hxCount_hxTimerSet (v : Nat) : (d.hxTimerSet r t v).hxCount r t = 0 := by
  have hstop : NatSet.has (d.hxTimerSet r t v).fab.hxStop (16 * r + t) = false :=
    Sparse.get_set_self (dflt := false) d.fab.hxStop (16 * r + t) false
  have hbase : Sparse.get (0, 0) (d.hxTimerSet r t v).fab.hxBase (16 * r + t) = (0, (d.hxTimerSet r t v).clk.root) := Sparse.get_set_self _ _ _
  have hraw : (d.hxTimerSet r t v).hxRaw r t = 0 := by simp [Dev.hxRaw, hbase]
  simp [Dev.hxCount, hstop, hraw]

/-- The four fields of a timer's settings. -/
theorem Dev.fld_hxTimerSet (v : Nat) :
    (d.hxTimerSet r t v).fld HX_CMP r t = v % 2 ^ 48 ∧ (d.hxTimerSet r t v).fld HX_PRE r t = v / 2 ^ 48 % 2 ^ 8
      ∧ (d.hxTimerSet r t v).fld HX_SRC r t = v / 2 ^ 56 % 2 ∧ (d.hxTimerSet r t v).fld HX_PERIODIC r t = v / 2 ^ 57 % 2 := by
  have hne (f g : Fld) (h : (f.off, f.s1, f.s2) = (g.off, g.s1, g.s2)) (hlo : f.lo ≠ g.lo) : f.key r t ≠ g.key r t := by
    simp only [Prod.mk.injEq] at h
    simp only [Fld.key, Fld.at, h]
    omega
  have hcmp : (d.hxTimerSet r t v).fld HX_CMP r t = v % 2 ^ 48 :=
    (Dev.fld_setF_ne _ _ (hne HX_CMP HX_PERIODIC rfl (by decide))).trans ((Dev.fld_setF_ne _ _ (hne HX_CMP HX_SRC rfl (by decide))).trans
      ((Dev.fld_setF_ne _ _ (hne HX_CMP HX_PRE rfl (by decide))).trans (Dev.fld_setF_self d HX_CMP v r t)))
  have hpre : (d.hxTimerSet r t v).fld HX_PRE r t = v / 2 ^ 48 % 2 ^ 8 :=
    (Dev.fld_setF_ne _ _ (hne HX_PRE HX_PERIODIC rfl (by decide))).trans ((Dev.fld_setF_ne _ _ (hne HX_PRE HX_SRC rfl (by decide))).trans
      (Dev.fld_setF_self (d.setF HX_CMP v r t) HX_PRE (v / 2 ^ 48) r t))
  have hsrc : (d.hxTimerSet r t v).fld HX_SRC r t = v / 2 ^ 56 % 2 :=
    (Dev.fld_setF_ne _ _ (hne HX_SRC HX_PERIODIC rfl (by decide))).trans
      (Dev.fld_setF_self ((d.setF HX_CMP v r t).setF HX_PRE (v / 2 ^ 48) r t) HX_SRC (v / 2 ^ 56) r t)
  exact ⟨hcmp, hpre, hsrc, Dev.fld_setF_self _ _ _ _ _⟩

/-- The settings a cell write carries, as the register's value. -/
theorem hxSettings (cmp : BitVec 48) (pre : BitVec 8) (src per : Bool) :
    let v := cmp.toNat + pre.toNat * 2 ^ 48 + bitIf src 56 + bitIf per 57
    v % 2 ^ 48 = cmp.toNat ∧ v / 2 ^ 48 % 2 ^ 8 = pre.toNat ∧ (v / 2 ^ 56 % 2 != 0) = src ∧ (v / 2 ^ 57 % 2 != 0) = per := by
  have hcmp := cmp.isLt
  have hpre := pre.isLt
  intro v
  have hsrc : (v / 2 ^ 56 % 2 != 0) = src := by
    cases src <;> cases per <;> simp only [v, bitIf, Bool.false_eq_true, ↓reduceIte, bne_eq_false_iff_eq, bne_iff_ne] <;> omega
  have hper : (v / 2 ^ 57 % 2 != 0) = per := by
    cases src <;> cases per <;> simp only [v, bitIf, Bool.false_eq_true, ↓reduceIte, bne_eq_false_iff_eq, bne_iff_ne] <;> omega
  refine ⟨?_, ?_, hsrc, hper⟩
  · cases src <;> cases per <;> simp only [v, bitIf, Bool.false_eq_true, ↓reduceIte] <;> omega
  · cases src <;> cases per <;> simp only [v, bitIf, Bool.false_eq_true, ↓reduceIte] <;> omega

end

theorem State.fresh_hxMatchAt (s : State) (r t : Nat) : s.fresh.hxMatchAt r t = s.dev.hxMatchAt r t := rfl

/-- Settles O24: a match or an edge is a pulse while the region runs and is held, or counted, in a freeze; a cell is read before it is written. -/
theorem handoverCells : Obligations.HandoverCells := by
  have hk {f : Fld} {i j : Nat} (h : 0x418 < f.off) : REP_STATE.key 0 0 ≠ f.key i j := Fld.repState_ne h
  refine ⟨fun s r t hi hr hs hl hb ha hf => ?_, fun s r t at_ hi hr hs hl hb ha hf => ?_, fun s r t hi hr hs hb ha => ?_,
    fun s r t hi h => ?_, fun s r n up hi hr hs hb => ?_, fun s r n up hi hr hs hb => ?_, fun s r n up hi hs => ?_, fun s r c hi hr => ?_,
    fun s r c x hi hr hp => ?_, fun s r c i cmp pre src per hi hr hp => ?_, fun s r c i sense hi hr hp => ?_⟩
  · exact .of_calm (f := fun d => d.hxMatch r.val t.val) hi rfl (Dev.hxMatch_running (d := s.fresh) (r := r.val) (t := t.val) hr hs ((s.fresh_hxMatchAt _ _).trans_le ha) hl hb hf) ((Dev.Calm.hxNext _ _ _).emit rfl)
  · exact .of_calm (f := fun d => d.hxMatch r.val t.val) hi rfl (Dev.hxMatch_thawed (d := s.fresh) (r := r.val) (t := t.val) hr hs ((s.fresh_hxMatchAt _ _).trans_le ha) hl hb hf)
      (((Dev.Calm.hxNext _ _ _).inc _ (hk (by decide))).ite ((Dev.Calm.hxNext _ _ _).emit rfl))
  · exact .of_calm (f := fun d => d.hxMatch r.val t.val) hi rfl (Dev.hxMatch_frozen (d := s.fresh) (r := r.val) (t := t.val) hr hs ((s.fresh_hxMatchAt _ _).trans_le ha) hb)
      (((Dev.Calm.hxNext _ _ _).inc _ (hk (by decide))).ite ((Dev.Calm.hxNext _ _ _).setF _ (hk (by decide))))
  · exact .of_idle (f := fun d => d.hxMatch r.val t.val) hi rfl (Dev.hxMatch_quiet (d := s.fresh) (h.imp_left fun h => h.trans_eq (s.fresh_hxMatchAt _ _).symm))
  · exact .of_calm (f := fun d => d.hxEdgeSeen r.val n.val up) hi rfl (Dev.hxEdgeSeen_running (d := s.fresh) hr hs hb) ((Dev.Calm.refl _).emit rfl)
  · exact .of_calm (f := fun d => d.hxEdgeSeen r.val n.val up) hi rfl (Dev.hxEdgeSeen_frozen (d := s.fresh) hr hs hb)
      ((((Dev.Calm.refl _).setF _ (hk (by decide))).inc _ (hk (by decide))).ite (((Dev.Calm.refl _).setF _ (hk (by decide))).setF _ (hk (by decide))))
  · exact .of_idle (f := fun d => d.hxEdgeSeen r.val n.val up) hi rfl (Dev.hxEdgeSeen_other (d := s.fresh) hs)
  · obtain ⟨l, hread⟩ := Dev.hxRead_runs (d := s.fresh) (c := c.val) hr
    obtain ⟨hout, hfab⟩ := Dev.hxCleared_frame (d := s.fresh.emit (.link "HX" (4 * r.val + c.val) l [])) (r := r.val) (c := c.val)
    have hcalm := ((Dev.Calm.refl s.fresh).emit (o := .link "HX" (4 * r.val + c.val) l []) rfl).trans (Dev.Calm.hxCleared _ r.val c.val)
    exact .of_calm (f := fun d => d.hxRead r.val c.val) hi rfl hread hcalm
      ⟨Dev.hxCleared_pend, by rw [hout]; rfl, hcalm.mem, hfab, Dev.hxCleared_missed, Dev.hxCleared_overrun⟩
  · exact .of_calm (f := fun d => d.hxWrite r.val c.val x) hi rfl (Dev.hxWrite_order (d := s.fresh) hr hp) (((Dev.Calm.refl _).setF _ (hk (by decide))).logEv (by decide))
  · obtain ⟨hcmp, hpre, hsrc, hper⟩ := Dev.fld_hxTimerSet (d := s.fresh) (r := r.val) (t := 4 * c.val + i.val)
      (cmp.toNat + pre.toNat * 2 ^ 48 + bitIf src 56 + bitIf per 57)
    obtain ⟨vcmp, vpre, vsrc, vper⟩ := hxSettings cmp pre src per
    have hcalm := Dev.Calm.hxTimerSet s.fresh r.val (4 * c.val + i.val) (cmp.toNat + pre.toNat * 2 ^ 48 + bitIf src 56 + bitIf per 57)
    exact .of_calm (f := fun d => d.hxWrite r.val c.val (.timer i cmp pre src per)) hi rfl (Dev.hxWrite_timer (d := s.fresh) hr hp) hcalm
      ⟨hcmp.trans vcmp, hpre.trans vpre, by rw [Dev.flag, hsrc, vsrc], by rw [Dev.flag, hper, vper], Dev.hxCount_hxTimerSet _, hcalm.mem⟩
  · exact .of_calm (f := fun d => d.hxWrite r.val c.val (.edge i sense)) hi rfl (Dev.hxWrite_edge (d := s.fresh) hr hp) ((Dev.Calm.refl _).setF _ (hk (by decide)))

end Sys2Proof.Machine
end

section
/-! SUPPORT. Requests, commands, reads and refreshes of an HBM controller (chapter 10). -/

namespace Sys2Proof.Machine
open Sys2Proof.Machine.Reg

/-- The requests that may go now, in the order of the queues. -/
def Hbm.ready (x : Hbm) (pc r : Nat) : List HReq := (x.entries.filter (x.may pc r)).map (·.2)

/-- Has a request waited past AGE_MAX? -/
def Dev.hbmOld (d : Dev) (h : Nat) (q : HReq) : Bool := decide (4 * d.ageMax h < 5 * (d.clk.tick - q.at_))

section
variable {d : Dev} {h L n cls dl rid : Nat} {p : Bool}

/-! ## Requests -/

section
variable (hl : d.live = true) (hf : hbmFits L n)
include hl hf

/-- A request in shape is no request that the controller drops. -/
theorem Dev.hbmReq_shape : ¬ (n = 0 ∨ hbmSize < L + n ∨ L / 256 ≠ (L + n - 1) / 256 ∨ (!d.live) = true) := by
  obtain ⟨h0, hsize, hline⟩ := hf
  simp only [hl, Bool.not_true, Bool.false_eq_true, or_false, not_or, not_lt, ne_eq, Decidable.not_not]
  omega

theorem Dev.hbmReq_dead {w : Option WrBytes} (ho : d.hbmOk h = false) :
    d.hbmReq h L n w p cls dl rid = (d.logDieDown h).emit (.link "HBM.answer" h [rid, 10] []) := by
  unfold Dev.hbmReq
  rw [if_neg (Dev.hbmReq_shape hl hf), if_pos (by simp [ho])]
  rfl

end

theorem Dev.live_of_hbmOk (ho : d.hbmOk h = true) : d.live = true := (Bool.and_eq_true _ _ ▸ ho).1

/-- A window of 64 grants takes its settings at its first. -/
theorem Dev.hbmTurn_win : (if (d.hbmOf h).win.n = 0 then { d.hbmOf h with win := { (d.hbmOf h).win with arb := d.hbmArb h } } else d.hbmOf h) =
    { d.hbmOf h with win := if (d.hbmOf h).win.n = 0 then { (d.hbmOf h).win with arb := d.hbmArb h } else (d.hbmOf h).win } := by
  split <;> rfl

section
variable (ho : d.hbmOk h = true)
include ho

theorem Dev.hbmReq_write {w : WrBytes} (hf : hbmFits L w.length) (hw : (d.hbmOf h).wrq.length < 64) :
    d.hbmReq h L w.length (some w) p cls dl rid =
      (let a := d.addrOfHbm h L
       let e := (d.setHbm h { d.hbmOf h with
          wrq := (d.hbmOf h).wrq ++ [d.hbmNew h L w.length true (w.all (·.isSome)) cls dl rid], seqNext := (d.hbmOf h).seqNext + 1 }).rawWrite a w
       (if p then e.markBad (a / 32 * 32) (32 * ((a + w.length + 31) / 32 - a / 32)) true else e).emit (.link "HBM.answer" h [rid, 0] [])) := by
  unfold Dev.hbmReq
  rw [if_neg (Dev.hbmReq_shape (Dev.live_of_hbmOk ho) hf), if_neg (by simp [ho])]
  exact if_neg (by omega)

theorem Dev.hbmReq_write_full {w : WrBytes} (hw : 64 ≤ (d.hbmOf h).wrq.length) : d.hbmReq h L w.length (some w) p cls dl rid = d := by
  unfold Dev.hbmReq
  split
  · rfl
  · rw [if_neg (by simp [ho])]
    exact if_pos hw

theorem Dev.hbmReq_read (hf : hbmFits L n)
    (hc : ((d.hbmOf h).wrq.any fun w => w.full && decide (w.L ≤ L) && decide (L < w.L + w.len)) = false) (hr : (d.hbmOf h).rdq.length < 128) :
    d.hbmReq h L n none p cls dl rid = d.setHbm h { d.hbmOf h with
      rdq := (d.hbmOf h).rdq ++ [{ d.hbmNew h L n false true cls dl rid with data := d.hbmRead h L n, bad := d.hbmBadBursts h L n }],
      seqNext := (d.hbmOf h).seqNext + 1 } := by
  have hfirst : ((upTo n).all fun i => (d.hbmOf h).wrq.any fun w => w.full && decide (w.L ≤ L + i) && decide (L + i < w.L + w.len)) ≠ true := by
    intro hall
    have := List.all_eq_true.mp hall 0 (List.mem_range.mpr (by obtain ⟨h0, -, -⟩ := hf; omega))
    rw [Nat.add_zero, hc] at this
    cases this
  unfold Dev.hbmReq
  rw [if_neg (Dev.hbmReq_shape (Dev.live_of_hbmOk ho) hf), if_neg (by simp [ho])]
  exact (if_neg hfirst).trans (if_neg (by omega))

/-- A read that one queued write covers. -/
theorem Dev.hbmReq_covered {q : HReq} (hf : hbmFits L n) (hw : (d.hbmOf h).wrq = [q]) (hq : q.full = true ∧ q.L ≤ L ∧ L + n ≤ q.L + q.len) :
    d.hbmReq h L n none p cls dl rid =
      d.emit (.link "HBM.answer" h [rid, if d.hbmBadBursts h L n = 0 then 0 else 6] (d.hbmRead h L n)) := by
  obtain ⟨hfull, hlo, hhi⟩ := hq
  have hall : ((upTo n).all fun i => (d.hbmOf h).wrq.any fun w => w.full && decide (w.L ≤ L + i) && decide (L + i < w.L + w.len)) = true := by
    rw [hw, List.all_eq_true]
    intro i hi
    have := List.mem_range.mp hi
    simp only [List.any_cons, List.any_nil, Bool.or_false, hfull, Bool.true_and, Bool.and_eq_true, decide_eq_true_eq]
    omega
  unfold Dev.hbmReq
  rw [if_neg (Dev.hbmReq_shape (Dev.live_of_hbmOk ho) hf), if_neg (by simp [ho])]
  exact if_pos hall

/-! ## Scheduling -/

variable {pc r : Nat}

/-- Nothing may go. -/
theorem Dev.hbmSched_nil (hc : (d.hbmOf h).ready pc r = []) : d.hbmSched h pc r = d.hbmTurn h := by
  unfold Dev.hbmSched
  rw [if_neg (by simp [ho])]
  exact (if_pos ((congrArg (fun x : Hbm => x.ready pc r) Dev.hbmTurn_win).trans hc)).trans (congrArg (d.setHbm h) Dev.hbmTurn_win)

/-- The oldest of those that have waited past AGE_MAX goes. -/
theorem Dev.hbmSched_old {c : List HReq} {q : HReq} (hc : (d.hbmOf h).ready pc r = c) (hne : c ≠ [])
    (hp : pickBy (fun q => [q.nclk, q.seq]) (c.filter (d.hbmOld h)) = some q) : d.hbmSched h pc r = (d.hbmTurn h).hbmIssue h q := by
  subst hc
  unfold Dev.hbmSched
  rw [if_neg (by simp [ho])]
  simp only [Dev.hbmTurn_win]
  refine (if_neg hne).trans ?_
  split
  next q' hq => exact congrArg _ (Option.some.inj (hq.symm.trans hp))
  next hq => cases hq.symm.trans hp

/-- No request has waited so long: the mode names the classes. -/
theorem Dev.hbmSched_idle {c : List HReq} (hc : (d.hbmOf h).ready pc r = c) (hne : c ≠ []) (hold : c.filter (d.hbmOld h) = [])
    (hk : ((d.hbmTurn h).hbmOf h).win.classes (fun k => c.any fun q => q.cls == k) = none) :
    d.hbmSched h pc r = (d.hbmTurn h).setHbm h { (d.hbmTurn h).hbmOf h with win := ((d.hbmTurn h).hbmOf h).win.granted none } := by
  subst hc
  rw [Dev.hbmOf_setHbm_self] at hk ⊢
  unfold Dev.hbmSched
  rw [if_neg (by simp [ho])]
  simp only [Dev.hbmTurn_win]
  refine (if_neg hne).trans ?_
  split
  next q' hq => cases (congrArg (pickBy _) hold).symm.trans hq
  next hq =>
    split
    next => rfl
    next ks hks => cases hks.symm.trans hk

theorem Dev.hbmSched_class {c : List HReq} {q : HReq} {ks : List Nat} (hc : (d.hbmOf h).ready pc r = c) (hne : c ≠ [])
    (hold : c.filter (d.hbmOld h) = []) (hk : ((d.hbmTurn h).hbmOf h).win.classes (fun k => c.any fun q => q.cls == k) = some ks)
    (hp : pickBy ((d.hbmTurn h).hbmRank h) (c.filter fun q => ks.contains q.cls) = some q) :
    d.hbmSched h pc r = (d.hbmTurn h).hbmIssue h q := by
  subst hc
  rw [Dev.hbmOf_setHbm_self] at hk
  unfold Dev.hbmSched
  rw [if_neg (by simp [ho])]
  simp only [Dev.hbmTurn_win]
  refine (if_neg hne).trans ?_
  split
  next q' hq => cases (congrArg (pickBy _) hold).symm.trans hq
  next hq =>
    split
    next hks => cases hks.symm.trans hk
    next ks' hks =>
      obtain rfl := Option.some.inj (hks.symm.trans hk)
      split
      next q' hq => exact congrArg _ (Option.some.inj (hq.symm.trans hp))
      next hq => cases hq.symm.trans hp

end

end

/-! ### Which requests may go -/

section
variable {x : Hbm} {pc r : Nat} {p q : HReq}

theorem Hbm.ready_empty (hr : x.rdq = []) (hw : x.wrq = []) : x.ready pc r = [] := by simp [Hbm.ready, Hbm.entries, hr, hw]

theorem Hbm.ready_one (hr : x.rdq = [q]) (hw : x.wrq = []) (hpc : hbmPc q.L = pc) (hb : bitAt r 0 = true) : x.ready pc r = [q] := by
  simp [Hbm.ready, Hbm.entries, Hbm.may, upTo, hr, hw, hpc, hb]

/-- Of two that do not overlap both may go. -/
theorem Hbm.ready_two (hr : x.rdq = [p, q]) (hw : x.wrq = []) (hp : hbmPc p.L = pc) (hq : hbmPc q.L = pc) (hs : p.seq < q.seq)
    (ho : overlap32 p.L p.len q.L q.len = false) (h0 : bitAt r 0 = true) (h1 : bitAt r 1 = true) : x.ready pc r = [p, q] := by
  simp [Hbm.ready, Hbm.entries, Hbm.may, upTo, List.range_succ, hr, hw, hp, hq, ho, h0, h1, hs.le]

/-- Of two that overlap the earlier may. -/
theorem Hbm.ready_first (hr : x.rdq = [p, q]) (hw : x.wrq = []) (hp : hbmPc p.L = pc) (hs : p.seq < q.seq)
    (ho : overlap32 p.L p.len q.L q.len = true) (h0 : bitAt r 0 = true) : x.ready pc r = [p] := by
  simp [Hbm.ready, Hbm.entries, Hbm.may, upTo, List.range_succ, hr, hw, hp, ho, h0, hs, hs.le]

end

/-! ### Which classes the mode names -/

section
variable {w : ArbWin} {c : Nat}

/-- SPLIT mode with one class ready. -/
theorem ArbWin.classes_split (hm : bits w.arb 0 2 = 1) (hc : c < 3) :
    w.classes (fun k => c == k) =
      (let own := if w.n < bits w.arb 32 7 then 0 else if w.n < bits w.arb 32 7 + bits w.arb 40 7 then 1 else 2
       if own = c then some [c] else if bitAt w.arb 56 then none else some [c]) := by
  unfold ArbWin.classes
  rw [if_pos hm]
  extract_lets own
  have hown : own < 3 := by simp only [own]; split <;> [decide; split <;> decide]
  by_cases ho : own = c
  · simp [ho]
  · have ho' : ¬ c = own := fun h => ho h.symm
    have hfind : ([(own + 1) % 3, (own + 2) % 3].find? fun k => c == k) = some c := by
      obtain h1 | h2 : c = (own + 1) % 3 ∨ c = (own + 2) % 3 := by omega
      · simp [h1]
      · have h1 : (c == (own + 1) % 3) = false := beq_false_of_ne (by omega)
        simp [← h2, h1, List.find?]
    simp [ho, ho', hfind]

theorem ArbWin.classes_deadline (hm : bits w.arb 0 2 ≠ 1) :
    w.classes (fun _ => true) =
      (if w.per.getD 0 0 < bits w.arb 8 7 then some [0] else if w.per.getD 1 0 < bits w.arb 16 7 then some [1]
       else if w.per.getD 2 0 < bits w.arb 24 7 then some [2] else some [0, 1, 2]) := by
  unfold ArbWin.classes
  rw [if_neg hm]
  simp only [List.find?, Bool.true_and, Nat.mul_zero, Nat.mul_one, Nat.add_zero, Nat.reduceMul, Nat.reduceAdd]
  by_cases h0 : w.per.getD 0 0 < bits w.arb 8 7
  · simp only [h0, decide_true, ↓reduceIte]
  · by_cases h1 : w.per.getD 1 0 < bits w.arb 16 7
    · simp only [h0, h1, decide_true, decide_false, ↓reduceIte]
    · by_cases h2 : w.per.getD 2 0 < bits w.arb 24 7 <;> simp only [h0, h1, h2, decide_true, decide_false, ↓reduceIte]

/-- The classes named for one ready class hold it. -/
theorem ArbWin.mem_classes {ks : List Nat} (hc : c < 3) (h : w.classes (fun k => c == k) = some ks) : c ∈ ks := by
  by_cases hm : bits w.arb 0 2 = 1
  · rw [ArbWin.classes_split hm hc] at h
    extract_lets own at h
    split at h
    · simp [← Option.some.inj h]
    · split at h
      · cases h
      · simp [← Option.some.inj h]
  · unfold ArbWin.classes at h
    rw [if_neg hm] at h
    split at h
    next k hk =>
      have hck := List.find?_some hk
      simp only [Bool.and_eq_true, beq_iff_eq] at hck
      simp [← Option.some.inj h, hck.1]
    next =>
      obtain rfl := Option.some.inj h
      obtain rfl | rfl | rfl : c = 0 ∨ c = 1 ∨ c = 2 := by omega
      all_goals simp

end

/-! ## Reads that return -/

section
variable {d : Dev} {h : Nat} {q : HReq} {r : List HReq} {f : HbmFinding} {b : Bool} {e : Dev} (ho : d.hbmOk h = true)
include ho

/-- The oldest read issued answers with what its check made of it. -/
theorem Dev.hbmReturn_of_judge (hf : (d.hbmOf h).flying = q :: r)
    (hj : (d.setHbm h { d.hbmOf h with flying := r }).hbmJudge h q.L q.bad f false = (b, e)) :
    d.hbmReturn h f = e.hbmAnswer h q.rid q.tag (if b then 6 else 0) q.data := by
  simp only [Dev.hbmReturn, ho, hf, hj, Bool.not_true, Bool.false_eq_true, ↓reduceIte]

/-- A check that finds nothing it cannot correct. -/
theorem Dev.hbmReturn_sound (hf : (d.hbmOf h).flying = q :: r)
    (hj : (d.setHbm h { d.hbmOf h with flying := r }).hbmJudge h q.L q.bad f false = (q.bad != 0, e)) :
    d.hbmReturn h f = e.hbmAnswer h q.rid q.tag (if q.bad = 0 then 0 else 6) q.data := by
  refine (Dev.hbmReturn_of_judge ho hf hj).trans ?_
  by_cases hb : q.bad = 0 <;> simp [hb]

/-! ## Refreshes and idle rows -/

variable {pc : Nat}

theorem Dev.hbmRefr_issued {pp : Bool} (hn : pp = false ∨ d.running = true ∨ 4 ≤ Sparse.get 0 (d.hbmOf h).post pc) :
    d.hbmRefr h pc pp = (d.setHbm h { d.hbmOf h with post := Sparse.set 0 (d.hbmOf h).post pc 0 }).emit
      (.link "HBM.refresh" h [pc, Sparse.get 0 (d.hbmOf h).post pc + 1] []) := by
  unfold Dev.hbmRefr
  rw [if_neg (by simp [ho])]
  refine if_neg ?_
  rcases hn with hn | hn | hn
  · simp [hn]
  · simp [hn]
  · simp [Nat.not_lt.mpr hn]

theorem Dev.hbmRefr_postponed (hr : d.running = false) (hn : Sparse.get 0 (d.hbmOf h).post pc < 4) (hq : (d.hbmOf h).rdq = [q])
    (hpc : hbmPc q.L = pc) (hs : d.slack q.dline = 0) :
    d.hbmRefr h pc true = d.setHbm h { d.hbmOf h with post := Sparse.set 0 (d.hbmOf h).post pc (Sparse.get 0 (d.hbmOf h).post pc + 1) } := by
  unfold Dev.hbmRefr
  rw [if_neg (by simp [ho])]
  exact if_pos (by simp [hr, hn, hq, hpc, hs])

theorem Dev.hbmPageOut_closes {k : Nat} (hc : d.hbmClosed h = false)
    (ht : 4 * d.fld HBM_PAGE_TO h ≤ 5 * (d.clk.tick - Sparse.get 0 (d.hbmOf h).used (48 * pc + k))) :
    d.hbmPageOut h pc k = d.setHbm h { d.hbmOf h with rows := Sparse.set 0 (d.hbmOf h).rows (48 * pc + k) 0 } :=
  if_neg (by simp [ho, hc, ht])

end

theorem Dev.hbmPageOut_keeps {d : Dev} {h pc k : Nat}
    (hk : d.hbmClosed h = true ∨ 5 * (d.clk.tick - Sparse.get 0 (d.hbmOf h).used (48 * pc + k)) < 4 * d.fld HBM_PAGE_TO h) :
    d.hbmPageOut h pc k = d := if_pos (by rcases hk with hk | hk <;> simp [hk])

section
variable {d : Dev} {h pc r : Nat} {q : HReq} (ho : d.hbmOk h = true) (hr : (d.hbmOf h).ready pc r = [q])
include ho hr

/-- The one request ready has waited past AGE_MAX. -/
theorem Dev.hbmSched_aged (ha : 4 * d.ageMax h < 5 * (d.clk.tick - q.at_)) : d.hbmSched h pc r = (d.hbmTurn h).hbmIssue h q := by
  refine Dev.hbmSched_old ho hr (by simp) ?_
  rw [List.filter_cons_of_pos (p := d.hbmOld h) (decide_eq_true ha)]
  rfl

section
variable (ha : 5 * (d.clk.tick - q.at_) ≤ 4 * d.ageMax h)
include ha

theorem Dev.hbmSched_split_idle (hk : ((d.hbmTurn h).hbmOf h).win.classes (fun k => q.cls == k) = none) :
    d.hbmSched h pc r = (d.hbmTurn h).setHbm h { (d.hbmTurn h).hbmOf h with win := ((d.hbmTurn h).hbmOf h).win.granted none } := by
  refine Dev.hbmSched_idle ho hr (by simp) (List.filter_cons_of_neg (by simp [Dev.hbmOld, ha])) ?_
  simpa only [List.any_cons, List.any_nil, Bool.or_false] using hk

theorem Dev.hbmSched_young {ks : List Nat} (hc : q.cls < 3) (hk : ((d.hbmTurn h).hbmOf h).win.classes (fun k => q.cls == k) = some ks) :
    d.hbmSched h pc r = (d.hbmTurn h).hbmIssue h q := by
  refine Dev.hbmSched_class (ks := ks) ho hr (by simp) (List.filter_cons_of_neg (by simp [Dev.hbmOld, ha])) ?_ ?_
  · simpa only [List.any_cons, List.any_nil, Bool.or_false] using hk
  · rw [List.filter_cons_of_pos (p := fun q : HReq => ks.contains q.cls) (List.contains_iff_mem.mpr (ArbWin.mem_classes hc hk))]
    rfl

end

end

/-- Of two ready, only the younger of which has waited past AGE_MAX. -/
theorem Dev.hbmSched_aged_second {d : Dev} {h pc r : Nat} {p q : HReq} (ho : d.hbmOk h = true) (hr : (d.hbmOf h).ready pc r = [p, q])
    (hp : 5 * (d.clk.tick - p.at_) ≤ 4 * d.ageMax h) (hq : 4 * d.ageMax h < 5 * (d.clk.tick - q.at_)) :
    d.hbmSched h pc r = (d.hbmTurn h).hbmIssue h q := by
  refine Dev.hbmSched_old ho hr (by simp) ?_
  rw [List.filter_cons_of_neg (by simp [Dev.hbmOld, hp]), List.filter_cons_of_pos (p := d.hbmOld h) (decide_eq_true hq)]
  rfl

/-- Settles O33: a request is taken, answered or left; the oldest, or the one the mode names, issues; a read returns what its place holds. -/
theorem hbmQueues : Obligations.HbmQueues := by
  refine ⟨fun s h L w p cls dl rid ho hf hw => ?_, fun s h L n p cls dl rid ho hf hc hr => ?_, fun s h L n p q cls dl rid ho hf hw hq => ?_,
    fun s h L w p cls dl rid hi ho hw => ?_, fun s h L n p cls dl rid hl ho hf => ?_, fun s h pc r q ho hr hw hpc hb ha => ?_,
    fun s h pc r q ho hr hw hpc hb ha hc => ?_, fun w c hm hc => ArbWin.classes_split hm hc, fun w hm => ArbWin.classes_deadline hm,
    fun s h pc r p q ho ⟨hr, hw⟩ ⟨hpp, hpq⟩ hs hov ⟨h0, h1⟩ ⟨hp, hq⟩ => ?_, fun s h pc r p q ho ⟨hr, hw⟩ hpp hs hov h0 ha => ?_,
    fun s h pc r ho hr hw => ?_,
    fun d h L q hL => hL ▸ rfl, fun s h q r ho hf => ⟨?_, ?_, ?_⟩, fun s h q r ho hf => ⟨?_, ?_, ?_⟩, fun d h rid tag st bs ht => if_pos ht,
    fun s h pc b ho hc ht => ?_, fun s h pc b hi hk => ?_, fun s h pc hi ho => ?_, fun s h pc hi ho hn => ?_,
    fun s h pc q hi ho hr hn hq hpc hs => ?_⟩
  · exact .of_eq (f := fun d => d.hbmReq h.val L.toNat w.length (some w) p cls.val dl.toNat rid.toNat) rfl
      (Dev.hbmReq_write (d := s.fresh) ho hf hw)
  · exact .of_eq (f := fun d => d.hbmReq h.val L.toNat n.val none p cls.val dl.toNat rid.toNat) rfl
      (Dev.hbmReq_read (d := s.fresh) ho hf hc hr)
  · exact .of_eq (f := fun d => d.hbmReq h.val L.toNat n.val none p cls.val dl.toNat rid.toNat) rfl
      (Dev.hbmReq_covered (d := s.fresh) ho hf hw hq)
  · exact .of_idle (f := fun d => d.hbmReq h.val L.toNat w.length (some w) p cls.val dl.toNat rid.toNat) hi rfl
      (Dev.hbmReq_write_full (d := s.fresh) ho hw)
  · exact .of_eq (f := fun d => d.hbmReq h.val L.toNat n.val none p cls.val dl.toNat rid.toNat) rfl
      (Dev.hbmReq_dead (d := s.fresh) hl hf ho)
  · exact .of_eq (f := fun d => d.hbmSched h.val pc.val r.toNat) rfl (Dev.hbmSched_aged (d := s.fresh) ho (Hbm.ready_one hr hw hpc hb) ha)
  · refine .of_eq (f := fun d => d.hbmSched h.val pc.val r.toNat) rfl ?_
    extract_lets e
    split
    next ks hk => exact Dev.hbmSched_young (d := s.fresh) ho (Hbm.ready_one hr hw hpc hb) ha hc hk
    next hk => exact Dev.hbmSched_split_idle (d := s.fresh) ho (Hbm.ready_one hr hw hpc hb) ha hk
  · exact .of_eq (f := fun d => d.hbmSched h.val pc.val r.toNat) rfl (Dev.hbmSched_aged_second (d := s.fresh) ho (Hbm.ready_two hr hw hpp hpq hs hov h0 h1) hp hq)
  · exact .of_eq (f := fun d => d.hbmSched h.val pc.val r.toNat) rfl (Dev.hbmSched_aged (d := s.fresh) ho (Hbm.ready_first hr hw hpp hs hov h0) ha)
  · exact .of_eq (f := fun d => d.hbmSched h.val pc.val r.toNat) rfl (Dev.hbmSched_nil (d := s.fresh) ho (Hbm.ready_empty hr hw))
  · exact .of_eq (f := fun d => d.hbmReturn h.val .clean) rfl (Dev.hbmReturn_sound (d := s.fresh) ho hf rfl)
  · exact .of_eq (f := fun d => d.hbmReturn h.val .stackCorrected) rfl (Dev.hbmReturn_sound (d := s.fresh) ho hf rfl)
  · exact .of_eq (f := fun d => d.hbmReturn h.val .single) rfl (Dev.hbmReturn_sound (d := s.fresh) ho hf rfl)
  · exact .of_eq (f := fun d => d.hbmReturn h.val .double) rfl (Dev.hbmReturn_of_judge (d := s.fresh) ho hf rfl)
  · exact .of_eq (f := fun d => d.hbmReturn h.val .hash) rfl (Dev.hbmReturn_of_judge (d := s.fresh) ho hf rfl)
  · exact .of_eq (f := fun d => d.hbmReturn h.val .stack) rfl (Dev.hbmReturn_of_judge (d := s.fresh) ho hf rfl)
  · exact .of_eq (f := fun d => d.hbmPageOut h.val pc.val b.val) rfl (Dev.hbmPageOut_closes (d := s.fresh) ho hc ht)
  · exact .of_idle (f := fun d => d.hbmPageOut h.val pc.val b.val) hi rfl (Dev.hbmPageOut_keeps (d := s.fresh) hk)
  · exact .of_calm (f := fun d => d.hbmRefr h.val pc.val false) hi rfl (Dev.hbmRefr_issued (d := s.fresh) ho (.inl rfl)) (((Dev.Calm.refl _).setHbm _ _).emit rfl)
  · exact .of_calm (f := fun d => d.hbmRefr h.val pc.val true) hi rfl (Dev.hbmRefr_issued (d := s.fresh) ho (.inr hn)) (((Dev.Calm.refl _).setHbm _ _).emit rfl)
  · exact .of_calm (f := fun d => d.hbmRefr h.val pc.val true) hi rfl (Dev.hbmRefr_postponed (d := s.fresh) ho hr hn hq hpc hs) ((Dev.Calm.refl _).setHbm _ _)

end Sys2Proof.Machine
end

section
/-! SUPPORT. Device accesses to a fabric RAM block, and the ring gates (chapter 5). -/

namespace Sys2Proof.Machine
open Sys2Proof.Machine.Reg

/-! ## A block's window -/

section
variable {b off n : Nat} (hb : b < 6144) (ho : off < 16384)
include hb ho

theorem placeOf_block : placeOf (blockAddr b + off) = .ram b off := by
  have hblk : (blockAddr b + off - 0x0300_0000_0000) / 2 ^ 14 = b ∧ (blockAddr b + off) % 2 ^ 14 = off := by unfold blockAddr; omega
  unfold placeOf
  rw [if_neg (by unfold blockAddr hbmEnd; omega), if_neg (by unfold blockAddr; omega), if_neg (by unfold blockAddr; omega),
    if_pos (by unfold blockAddr; omega), hblk.1, hblk.2]

theorem Dev.accStatus_block {d : Dev} (hn : off + n ≤ 16384) :
    d.accStatus (blockAddr b + off) n = if !d.flag QC_EXPORT b then 1 else if d.regionBusy (blockRegion b) then 3 else 0 := by
  have hin : ¬ windowEnd (blockAddr b + off) < blockAddr b + off + n := by
    simp only [windowEnd, placeOf_block hb ho]
    unfold blockAddr
    omega
  simp only [Dev.accStatus, Dev.stopStatus, Dev.farStatus, Dev.targetStatus, placeOf_block hb ho, hin, ↓reduceIte, ne_eq, not_true_eq_false]

/-- A request that its target serves arrives at the block. -/
theorem Dev.request_block {d : Dev} {q : Rq} {wr : Option WrBytes} (hs : d.accStatus (blockAddr b + off) n = 0) :
    d.request q (blockAddr b + off) n wr false false none =
      d.qcArrive b { rid := reqId q, tag := q.tag.toNat, off := off, len := n, wr := wr, since := d.clk.tick } := by
  simp only [Dev.request, Bool.false_and, Bool.false_eq_true, ↓reduceIte, hs, ne_eq, not_true_eq_false, inRemoteWindow, Dev.addrHeld, Dev.localAddr,
    placeOf_block hb ho]

end

section
variable {d : Dev}

/-- A request that gets a status at its stop or its target is answered with it. -/
theorem Dev.request_refused {q : Rq} {a n st : Nat} {wr : Option WrBytes} (hs : d.accStatus a n = st) (h0 : st ≠ 0) :
    d.request q a n wr false false none = (d.logStatus st a n q.stop.val).emit (.resp (reqId q) q.tag.toNat st []) := by
  simp only [Dev.request, Bool.false_and, Bool.false_eq_true, ↓reduceIte, hs, ne_eq, h0, not_false_eq_true]

/-- A write to a block that is no queue. -/
theorem Dev.qcArrive_ram {b : Nat} {x : QAcc} {w : WrBytes} (hm : d.qcMode b = 0) (hw : (d.qcOf b).waiting = []) (hx : x.wr = some w) :
    d.qcArrive b x = (d.rawWrite (blockAddr b + x.off) w).emit (.resp x.rid x.tag 0 []) := by
  simp only [Dev.qcArrive, hw, ne_eq, not_true_eq_false, ↓reduceIte, Dev.qcAccess, hm, hx]

/-- The one waiting access gives up. -/
theorem Dev.qcTimeout_one {b : Nat} {x : QAcc} (hw : (d.qcOf b).waiting = [x]) :
    d.qcTimeout b = ((d.tickTo (x.since + 800 * max 1 (d.fld RG_QWAIT (blockRegion b)))).setQc b { d.qcOf b with waiting := [] }).emit
      (.resp x.rid x.tag 8 []) := by
  have hwake (e : Dev) (o : Out) : ((e.setQc b { d.qcOf b with waiting := [] }).emit o).qcWake b = (e.setQc b { d.qcOf b with waiting := [] }).emit o := by
    have hq : (((e.setQc b { d.qcOf b with waiting := [] }).emit o).qcOf b).waiting = [] :=
      congrArg Qc.waiting (Dev.qcOf_setQc_self e b { d.qcOf b with waiting := [] })
    simp only [Dev.qcWake, hq, List.length_nil, Dev.qcRetry]
  simp only [Dev.qcTimeout, hw, hwake]
  rfl

/-! ## A region's own requests -/

section
variable {r : Region} {tag n : Nat} {a : DevAddr} (hr : d.regionRuns r.val = true) (hd : d.gateDrains r.val = false)
  (ho : (d.gateOf r.val).outCount true < 64)
include hr hd ho

theorem Dev.rgOreq_badShape (hs : (Dev.oreqShape a.toNat n && oreqRemote a.toNat n) = false) :
    d.rgOreq r tag (.rd a n) =
      ((d.setGate r.val { d.gateOf r.val with out := (d.gateOf r.val).out ++ [d.newOreq r.val tag] }).logEv 0x9006 .D r.val
        [dU 1 r.val, dC 1, dA a.toNat, dN n]).emit (.resp (gateRid r.val) (d.gateOf r.val).freeSlot 9 []) := by
  unfold Dev.rgOreq
  exact (if_neg (by simp [hr, hd, oreqWrites, ho])).trans (if_neg (by simp [hs]))

theorem Dev.rgOreq_read (hs : Dev.oreqShape a.toNat n = true) (hm : oreqRemote a.toNat n = true) :
    d.rgOreq r tag (.rd a n) =
      (d.setGate r.val { d.gateOf r.val with out := (d.gateOf r.val).out ++ [d.newOreq r.val tag] }).request
        (gateRq r.val (d.gateOf r.val).freeSlot) a.toNat n none false false none := by
  unfold Dev.rgOreq
  exact (if_neg (by simp [hr, hd, oreqWrites, ho])).trans (if_pos (by simp [hs, hm]))

end

theorem Dev.rgOreq_full {r : Region} {tag n : Nat} {a : DevAddr} (ho : 64 ≤ (d.gateOf r.val).outCount true) : d.rgOreq r tag (.rd a n) = d :=
  if_pos (by simp [oreqWrites, ho])

/-! ## Requests to a region -/

section
variable {r : Nat} {x : IReq}

section
variable (hr : d.regionRuns r = true)
include hr

theorem Dev.ireq_write (hq : (d.gateOf r).inq = [x]) (hx : x.read = false) :
    d.ireq r true = ((d.setGate r { d.gateOf r with inq := [] }).emit (.link "IREQ" r [x.tag, x.addr, x.len, 0] x.data)).emit (.resp x.src x.tag 0 []) := by
  simp only [Dev.ireq, hr, hq, hx, Gate.offer, Bool.not_true, Bool.false_eq_true, ↓reduceIte]

theorem Dev.ireq_read (hq : (d.gateOf r).inq = [x]) (hx : x.read = true) :
    d.ireq r true = (d.setGate r { d.gateOf r with inq := [], reads := (d.gateOf r).reads ++ [{ x with since := some d.clk.tick }] }).emit
      (.link "IREQ" r [x.tag, x.addr, x.len, 1] x.data) := by
  simp only [Dev.ireq, hr, hq, hx, Gate.offer, Bool.not_true, Bool.false_eq_true, ↓reduceIte]

theorem Dev.irsp_one {c : Nat} {bs : List Byte} (hq : (d.gateOf r).reads = [x]) :
    d.irsp r x.tag c bs = (d.setGate r { d.gateOf r with reads := [] }).emit (.resp x.src x.tag c bs) := by
  simp [Dev.irsp, hr, hq]

theorem Dev.irsp_late {tag c : Nat} {bs : List Byte} (hq : (d.gateOf r).reads = []) (hl : (d.gateOf r).late = [tag]) :
    d.irsp r tag c bs = (d.setGate r { d.gateOf r with late := [] }).inc RG_LATE_DROP 1 r := by
  simp [Dev.irsp, hr, hq, hl]

end

theorem Dev.iwaitEnd_one {t : Nat} (hq : (d.gateOf r).inq = []) (hx : (d.gateOf r).reads = [x]) (ht : x.since = some t) :
    d.iwaitEnd r x.tag =
      (((d.setGate r { d.gateOf r with reads := [], late := (d.gateOf r).late ++ [x.tag] }).tickTo (t + d.iwait r)).logEv
        0x9007 .D r [dU 1 r, dU 1 (x.src / 16), dN x.tag]).emit (.resp x.src x.tag 8 []) := by
  simp only [Dev.iwaitEnd, hq, hx, ht, List.find?_cons_of_pos, BEq.rfl, Option.isSome_some, Bool.and_self, List.erase_cons_head, Option.getD_some]
  rfl

end

end

/-- Settles O19: a block's window, its waiting accesses, and what a region's gate takes, sends and answers. -/
theorem fabricDeviceSide : Obligations.FabricDeviceSide := by
  have htag {n : Nat} (h : n < 65536) : (BitVec.ofNat 16 n).toNat = n := by simpa using Nat.mod_eq_of_lt h
  refine ⟨fun s q b off w hl he hn => ?_, fun s q b off w hl he hn h0 hb hm hw => ?_, fun s q b off n hl he hn h0 hb => ?_,
    fun s b x hl hw => ?_, fun s r tag a n hr hd ho hs => ?_, fun s r tag a n hr hd ho hs hm => ?_, fun s r tag a n hi ho => ?_,
    fun s r x hr hq hx => ?_, fun s r x hi hr hq hx => ?_, fun s r x t hl hq hx ht htg => ?_, fun s r x c bs hr hq htg => ?_,
    fun s r tag c bs hi hr hq hlate => ?_⟩
  · have hst : s.fresh.accStatus (blockAddr b.val + off.toNat) w.length = 1 :=
      (Dev.accStatus_block (d := s.fresh) b.isLt off.isLt hn).trans (if_pos (congrArg Bool.not he))
    exact .of_live rfl hl (Dev.request_refused (d := s.fresh) hst (by decide))
  · have hst : s.fresh.accStatus (blockAddr b.val + off.toNat) w.length = 0 :=
      (Dev.accStatus_block (d := s.fresh) b.isLt off.isLt hn).trans ((if_neg (by simpa using he)).trans (if_neg (Bool.eq_false_iff.mp hb)))
    exact .of_live rfl hl ((Dev.request_block (d := s.fresh) b.isLt off.isLt hst).trans (Dev.qcArrive_ram (d := s.fresh) hm hw rfl))
  · have hst : s.fresh.accStatus (blockAddr b.val + off.toNat) n = 3 :=
      (Dev.accStatus_block (d := s.fresh) b.isLt off.isLt hn).trans ((if_neg (by simpa using he)).trans (if_pos hb))
    exact .of_live rfl hl (Dev.request_refused (d := s.fresh) hst (by decide))
  · exact .of_live rfl hl (Dev.qcTimeout_one (d := s.fresh) hw)
  · exact .of_eq (f := fun d => d.rgOreq r tag.toNat (.rd a n)) rfl (Dev.rgOreq_badShape (d := s.fresh) hr hd ho hs)
  · exact .of_eq (f := fun d => d.rgOreq r tag.toNat (.rd a n)) rfl (Dev.rgOreq_read (d := s.fresh) hr hd ho hs hm)
  · exact .of_idle (f := fun d => d.rgOreq r tag.toNat (.rd a n)) hi rfl (Dev.rgOreq_full (d := s.fresh) ho)
  · exact .of_eq (f := fun d => d.ireq r.val true) rfl (Dev.ireq_write (d := s.fresh) hr hq hx)
  · exact .of_calm (f := fun d => d.ireq r.val true) hi rfl (Dev.ireq_read (d := s.fresh) hr hq hx) (((Dev.Calm.refl _).setGate _ _).emit rfl)
  · exact .of_live (f := fun d => d.iwaitEnd r.val (BitVec.ofNat 16 x.tag).toNat) rfl hl
      ((congrArg (s.fresh.iwaitEnd r.val) (htag htg)).trans (Dev.iwaitEnd_one (d := s.fresh) hq hx ht))
  · exact .of_eq (f := fun d => d.irsp r.val (BitVec.ofNat 16 x.tag).toNat c.val bs) rfl
      ((congrArg (fun n => s.fresh.irsp r.val n c.val bs) (htag htg)).trans (Dev.irsp_one (d := s.fresh) hr hq))
  · exact .of_calm (f := fun d => d.irsp r.val tag.toNat c.val bs) hi rfl (Dev.irsp_late (d := s.fresh) hr hq hlate)
      (((Dev.Calm.refl _).setGate _ _).inc _ (Fld.repState_ne (by decide)))

end Sys2Proof.Machine
end

section
/-! SUPPORT. Which fields a register holds, scale channels and the first NaN of the device (chapters 0 and 12). -/

namespace Sys2Proof.Machine
open Sys2Proof.Machine.Reg

/-! ## Fields of one register -/

/-- Two fields of one register have different keys. -/
theorem Fld.key_ne_of_lo {f g : Fld} {i j : Nat} (h : (f.off, f.s1, f.s2) = (g.off, g.s1, g.s2)) (hlo : f.lo ≠ g.lo) : f.key i j ≠ g.key i j := by
  simp only [Prod.mk.injEq] at h
  simp only [Fld.key, Fld.at, h]
  omega

/-- A field that a write leaves alone. -/
theorem Dev.writeFld_ro (d : Dev) (v m : Nat) {f : Fld} (i j : Nat) (h : f.acc = .ro) : d.writeFld v m (f, i, j) = d := by
  simp [Dev.writeFld, h]

/-- The fields of a table that satisfy `q` make up its registers, where those that do not lie elsewhere. -/
theorem regFields_of_filter {off : Nat} {q : Fld → Bool} {l : List Fld} (hl : allFields.filter q = l) (h : ∀ f : Fld, q f = false → f.inst? off = none) :
    regFields off = l.filterMap fun f => (f.inst? off).map fun ij => (f, ij.1, ij.2) := by
  subst hl
  unfold regFields
  rw [List.filterMap_filter]
  refine List.filterMap_congr fun f _ => ?_
  cases hq : q f
  · simp [h f hq]
  · simp

/-! ## Scale channels -/

/-- The last offset at which a field stands. -/
def Fld.top (f : Fld) : Nat := f.off + (f.n1 - 1) * f.s1 + (f.n2 - 1) * f.s2

/-- A register of a field lies where it says, within the field's rows. -/
theorem Fld.at_of_inst? {f : Fld} {off i j : Nat} (h : f.inst? off = some (i, j)) : off = f.at i j ∧ i ≤ f.n1 - 1 ∧ j ≤ f.n2 - 1 := by
  unfold Fld.inst? at h
  split at h
  · cases h
  next hoff =>
    extract_lets d k e at h
    have hd : off = f.off + d := by omega
    split at h
    next h0 =>
      split at h
      next hz =>
        obtain ⟨rfl, rfl⟩ : 0 = i ∧ 0 = j := by simpa using h
        simp [Fld.at, hd, hz]
      · cases h
    next h0 =>
      split at h
      next h2 =>
        split at h
        next hz =>
          obtain ⟨rfl, rfl⟩ : d / f.s1 = i ∧ 0 = j := by simpa using h
          have hmul : d / f.s1 * f.s1 = d := Nat.div_mul_cancel (Nat.dvd_of_mod_eq_zero hz.1)
          refine ⟨?_, by omega, Nat.zero_le _⟩
          rw [Fld.at, hmul, Nat.zero_mul, hd, Nat.add_zero]
        · cases h
      next h2 =>
        split at h
        next hz =>
          obtain ⟨rfl, rfl⟩ : k = i ∧ e / f.s2 = j := by simpa using h
          have hmul : e / f.s2 * f.s2 = e := Nat.div_mul_cancel (Nat.dvd_of_mod_eq_zero hz.2.1)
          have hk : k * f.s1 ≤ d := by
            simp only [k]
            split
            · simp
            · exact Nat.div_mul_le_self _ _
          refine ⟨?_, by omega, by omega⟩
          rw [Fld.at, hmul, hd]
          omega
        · cases h

theorem Fld.inst?_of_top_lt {f : Fld} {off : Nat} (h : f.top < off) : f.inst? off = none := by
  rw [Option.eq_none_iff_forall_ne_some]
  rintro ⟨i, j⟩ hij
  obtain ⟨hat, hi, hj⟩ := Fld.at_of_inst? hij
  have h1 := Nat.mul_le_mul_right f.s1 hi
  have h2 := Nat.mul_le_mul_right f.s2 hj
  simp only [Fld.top] at h
  simp only [Fld.at] at hat
  omega

theorem Fld.inst?_of_lt_off {f : Fld} {off : Nat} (h : off < f.off) : f.inst? off = none := if_pos h

/-- A field of every tile's block lies at one place of the block alone. -/
theorem Fld.inst?_of_mod_ne {f : Fld} {off : Nat} (h1 : f.s1 = 0x10000) (h2 : f.s2 = 0) (h : off % 0x10000 ≠ f.off % 0x10000) : f.inst? off = none := by
  rw [Option.eq_none_iff_forall_ne_some]
  rintro ⟨i, j⟩ hij
  obtain ⟨hat, -, -⟩ := Fld.at_of_inst? hij
  rw [Fld.at, h1, h2] at hat
  omega

/-- Below and above the tiles' blocks, and in those blocks outside the scale channels, lies no field of a scale channel. -/
def Fld.maybeScale (f : Fld) : Bool :=
  !(decide (f.top < 0x1000300) || decide (0x1410000 ≤ f.off)
    || (f.s1 == 0x10000 && f.s2 == 0 && (decide (f.off % 0x10000 < 0x300) || decide (0x380 ≤ f.off % 0x10000))))

theorem filter_maybeScale : allFields.filter Fld.maybeScale =
    [SCALE_CUR, SCALE_SUGGEST, SCALE_HEADROOM, SCALE_AUTO_EN, SCALE_PIN, SCALE_FLUSHWIDE, SCALE_RMAX] := by decide

section
variable (t : PTile) (n : Fin 16)

/-- Where the register of scale channel `n` of a tile stands. -/
def scaleReg : Nat := 0x1000300 + 0x10000 * t.val + 8 * n.val

theorem scaleReg_place : 0x1000300 ≤ scaleReg t n ∧ scaleReg t n < 0x1410000 ∧ scaleReg t n % 8 = 0 ∧ scaleReg t n % 0x10000 = 0x300 + 8 * n.val
    ∧ (scaleReg t n - 0x1000000) / 0x10000 = t.val := by
  have ht := t.isLt
  have hn := n.isLt
  unfold scaleReg
  omega

theorem inst?_scaleReg_of_not (f : Fld) (h : f.maybeScale = false) : f.inst? (scaleReg t n) = none := by
  have hn := n.isLt
  obtain ⟨hlo, hhi, -, hmod, -⟩ := scaleReg_place t n
  simp only [Fld.maybeScale, Bool.not_eq_false', Bool.or_eq_true, Bool.and_eq_true, decide_eq_true_eq, beq_iff_eq] at h
  rcases h with (h | h) | ⟨⟨h1, h2⟩, h⟩
  · exact Fld.inst?_of_top_lt (by omega)
  · exact Fld.inst?_of_lt_off (by omega)
  · exact Fld.inst?_of_mod_ne h1 h2 (by omega)

theorem inst?_scaleReg {f : Fld} (h : (f.off, f.n1, f.s1, f.n2, f.s2) = (0x1000300, 65, 0x10000, 16, 8)) :
    f.inst? (scaleReg t n) = some (t.val, n.val) := by
  simp only [Prod.mk.injEq] at h
  obtain ⟨h0, hn1, hs1, hn2, hs2⟩ := h
  have ht := t.isLt
  have hn := n.isLt
  have hd : (scaleReg t n - 0x1000300) / 0x10000 = t.val ∧ scaleReg t n - 0x1000300 - t.val * 0x10000 = 8 * n.val := by
    unfold scaleReg
    omega
  have hn8 : 8 * n.val % 8 = 0 ∧ 8 * n.val / 8 = n.val := by omega
  have hlo : ¬ scaleReg t n < 0x1000300 := by have := (scaleReg_place t n).1; omega
  simp only [Fld.inst?, h0, hn1, hs1, hn2, hs2, hlo, OfNat.ofNat_ne_zero, and_self, ↓reduceIte, hd.1, hd.2, hn8.1, hn8.2, ht, hn]

theorem regFields_scaleReg : regFields (scaleReg t n) =
    [(SCALE_CUR, t.val, n.val), (SCALE_SUGGEST, t.val, n.val), (SCALE_HEADROOM, t.val, n.val), (SCALE_AUTO_EN, t.val, n.val),
      (SCALE_PIN, t.val, n.val), (SCALE_FLUSHWIDE, t.val, n.val), (SCALE_RMAX, t.val, n.val)] := by
  rw [regFields_of_filter filter_maybeScale (inst?_scaleReg_of_not t n)]
  simp only [List.filterMap_cons, List.filterMap_nil, inst?_scaleReg t n (f := SCALE_CUR) rfl, inst?_scaleReg t n (f := SCALE_SUGGEST) rfl,
    inst?_scaleReg t n (f := SCALE_HEADROOM) rfl, inst?_scaleReg t n (f := SCALE_AUTO_EN) rfl, inst?_scaleReg t n (f := SCALE_PIN) rfl,
    inst?_scaleReg t n (f := SCALE_FLUSHWIDE) rfl, inst?_scaleReg t n (f := SCALE_RMAX) rfl, Option.map_some]

end

section
variable {d : Dev} {t : PTile} {n : Fin 16} {p : Path} {v : Word64}

/-- What a whole write of a scale channel's register leaves of its plain fields. -/
def Dev.scaleSet (d : Dev) (l n v : Nat) : Dev :=
  ((((d.setF SCALE_CUR (bits v 0 7) l n).setF SCALE_HEADROOM (bits v 16 2) l n).setF SCALE_AUTO_EN (bits v 24 1) l n).setF SCALE_PIN (bits v 25 1) l n).setF
    SCALE_FLUSHWIDE (bits v 26 1) l n

theorem Dev.writeFld_scale {f : Fld} (hf : tileLogical.contains f = true) (ha : f.acc = .rw) (hw : f.lo + f.w ≤ 64) (h0 : f.w ≠ 0)
    (hm : f.minv = 0 ∧ f.maxv = 2 ^ 64) (v i j : Nat) :
    d.writeFld v (2 ^ 64 - 1) (f, i, j) = d.setF f (bits v f.lo f.w) (d.ltile i) j := by
  have hlt : bits v f.lo f.w < 2 ^ 64 := lt_of_lt_of_le (Nat.mod_lt _ (Nat.two_pow_pos _)) (Nat.pow_le_pow_right (by decide) (by omega))
  rw [Dev.writeFld_full d v f i j ha hw h0, if_pos ⟨hm.1 ▸ Nat.zero_le _, hm.2 ▸ hlt.le⟩, Dev.inst, if_pos hf]

theorem Dev.writeReg_scale (v : Nat) : d.writeReg (scaleReg t n) v (2 ^ 64 - 1) = d.scaleSet (d.ltile t.val) n.val v := by
  simp only [Dev.writeReg, regFields_scaleReg, List.foldl_cons, List.foldl_nil]
  rw [Dev.writeFld_scale (f := SCALE_CUR) (by decide) rfl (by decide) (by decide) ⟨rfl, rfl⟩, Dev.writeFld_ro _ _ _ _ _ (f := SCALE_SUGGEST) rfl,
    Dev.writeFld_scale (f := SCALE_HEADROOM) (by decide) rfl (by decide) (by decide) ⟨rfl, rfl⟩,
    Dev.writeFld_scale (f := SCALE_AUTO_EN) (by decide) rfl (by decide) (by decide) ⟨rfl, rfl⟩,
    Dev.writeFld_scale (f := SCALE_PIN) (by decide) rfl (by decide) (by decide) ⟨rfl, rfl⟩,
    Dev.writeFld_scale (f := SCALE_FLUSHWIDE) (by decide) rfl (by decide) (by decide) ⟨rfl, rfl⟩, Dev.writeFld_ro _ _ _ _ _ (f := SCALE_RMAX) rfl]
  rfl

theorem Dev.hookTile_scale {b q m v : Nat} :
    d.hookTile t.val (scaleReg t n) b q v m =
      some (if bitAt v 27 then (d.writeReg (scaleReg t n) v m).setF SCALE_RMAX 0 (d.ltile t.val) n.val else d.writeReg (scaleReg t n) v m) := by
  have hn := n.isLt
  obtain ⟨-, -, -, ho, -⟩ := scaleReg_place t n
  have hk : (0x300 + 8 * n.val - 0x300) / 8 = n.val := by omega
  have h1 : ¬ 0x300 + 8 * n.val = 0x100 := by omega
  have h2 : 0x300 ≤ 0x300 + 8 * n.val ∧ 0x300 + 8 * n.val < 0x380 := by omega
  simp only [Dev.hookTile, ho, h1, h2, hk, and_self, ↓reduceIte]

/-! ### The fields after it -/

theorem Dev.fld_scaleSet (d : Dev) (l n v : Nat) :
    (d.scaleSet l n v).fld SCALE_CUR l n = bits v 0 7 ∧ (d.scaleSet l n v).fld SCALE_HEADROOM l n = bits v 16 2
      ∧ (d.scaleSet l n v).fld SCALE_AUTO_EN l n = bits v 24 1 ∧ (d.scaleSet l n v).fld SCALE_PIN l n = bits v 25 1
      ∧ (d.scaleSet l n v).fld SCALE_FLUSHWIDE l n = bits v 26 1 ∧ (d.scaleSet l n v).fld SCALE_SUGGEST l n = d.fld SCALE_SUGGEST l n
      ∧ (d.scaleSet l n v).fld SCALE_RMAX l n = d.fld SCALE_RMAX l n := by
  have hne (f g : Fld) (h : (f.off, f.s1, f.s2) = (g.off, g.s1, g.s2)) (hlo : f.lo ≠ g.lo) (e : Dev) (w : Nat) :
      (e.setF g w l n).fld f l n = e.fld f l n := Dev.fld_setF_ne e w (Fld.key_ne_of_lo h hlo)
  have hself (e : Dev) (f : Fld) (lo w : Nat) (hw : f.w = w) : (e.setF f (bits v lo w) l n).fld f l n = bits v lo w := by
    rw [Dev.fld_setF_self, hw]
    exact Nat.mod_mod _ _
  unfold Dev.scaleSet
  refine ⟨?_, ?_, ?_, ?_, hself _ _ _ _ rfl, ?_, ?_⟩
  · rw [hne SCALE_CUR SCALE_FLUSHWIDE rfl (by decide), hne SCALE_CUR SCALE_PIN rfl (by decide), hne SCALE_CUR SCALE_AUTO_EN rfl (by decide),
      hne SCALE_CUR SCALE_HEADROOM rfl (by decide)]
    exact hself _ _ _ _ rfl
  · rw [hne SCALE_HEADROOM SCALE_FLUSHWIDE rfl (by decide), hne SCALE_HEADROOM SCALE_PIN rfl (by decide),
      hne SCALE_HEADROOM SCALE_AUTO_EN rfl (by decide)]
    exact hself _ _ _ _ rfl
  · rw [hne SCALE_AUTO_EN SCALE_FLUSHWIDE rfl (by decide), hne SCALE_AUTO_EN SCALE_PIN rfl (by decide)]
    exact hself _ _ _ _ rfl
  · rw [hne SCALE_PIN SCALE_FLUSHWIDE rfl (by decide)]
    exact hself _ _ _ _ rfl
  · rw [hne SCALE_SUGGEST SCALE_FLUSHWIDE rfl (by decide), hne SCALE_SUGGEST SCALE_PIN rfl (by decide), hne SCALE_SUGGEST SCALE_AUTO_EN rfl (by decide),
      hne SCALE_SUGGEST SCALE_HEADROOM rfl (by decide), hne SCALE_SUGGEST SCALE_CUR rfl (by decide)]
  · rw [hne SCALE_RMAX SCALE_FLUSHWIDE rfl (by decide), hne SCALE_RMAX SCALE_PIN rfl (by decide), hne SCALE_RMAX SCALE_AUTO_EN rfl (by decide),
      hne SCALE_RMAX SCALE_HEADROOM rfl (by decide), hne SCALE_RMAX SCALE_CUR rfl (by decide)]

/-- The register with RMAX cleared, or as it was. -/
def Dev.scaleWritten (d : Dev) (l n v : Nat) (b : Bool) : Dev := if b then (d.scaleSet l n v).setF SCALE_RMAX 0 l n else d.scaleSet l n v

theorem Dev.fld_scaleWritten (d : Dev) (l n v : Nat) (b : Bool) :
    (d.scaleWritten l n v b).fld SCALE_CUR l n = bits v 0 7 ∧ (d.scaleWritten l n v b).fld SCALE_HEADROOM l n = bits v 16 2
      ∧ (d.scaleWritten l n v b).fld SCALE_AUTO_EN l n = bits v 24 1 ∧ (d.scaleWritten l n v b).fld SCALE_PIN l n = bits v 25 1
      ∧ (d.scaleWritten l n v b).fld SCALE_FLUSHWIDE l n = bits v 26 1
      ∧ (d.scaleWritten l n v b).fld SCALE_SUGGEST l n = d.fld SCALE_SUGGEST l n
      ∧ (d.scaleWritten l n v b).fld SCALE_RMAX l n = (if b then 0 else d.fld SCALE_RMAX l n) := by
  obtain ⟨hcur, hhead, hauto, hpin, hwide, hsug, hrmax⟩ := Dev.fld_scaleSet d l n v
  cases b
  · exact ⟨hcur, hhead, hauto, hpin, hwide, hsug, hrmax⟩
  · have hne (f : Fld) (h : (f.off, f.s1, f.s2) = (SCALE_RMAX.off, SCALE_RMAX.s1, SCALE_RMAX.s2)) (hlo : f.lo ≠ SCALE_RMAX.lo) :
        ((d.scaleSet l n v).setF SCALE_RMAX 0 l n).fld f l n = (d.scaleSet l n v).fld f l n := Dev.fld_setF_ne _ 0 (Fld.key_ne_of_lo h hlo)
    exact ⟨(hne SCALE_CUR rfl (by decide)).trans hcur, (hne SCALE_HEADROOM rfl (by decide)).trans hhead, (hne SCALE_AUTO_EN rfl (by decide)).trans hauto,
      (hne SCALE_PIN rfl (by decide)).trans hpin, (hne SCALE_FLUSHWIDE rfl (by decide)).trans hwide, (hne SCALE_SUGGEST rfl (by decide)).trans hsug,
      Dev.fld_setF_self _ SCALE_RMAX 0 l n⟩

theorem Dev.scaleWritten_out (d : Dev) (l n v : Nat) (b : Bool) : (d.scaleWritten l n v b).out = d.out := by cases b <;> rfl

theorem Dev.Calm.scaleSet (d : Dev) (l n v : Nat) : d.Calm (d.scaleSet l n v) := by
  have hk {f : Fld} (h : 0x418 < f.off) : REP_STATE.key 0 0 ≠ f.key l n := Fld.repState_ne h
  exact (((((Dev.Calm.refl d).setF (f := SCALE_CUR) _ (hk (by decide))).setF (f := SCALE_HEADROOM) _ (hk (by decide))).setF (f := SCALE_AUTO_EN) _
    (hk (by decide))).setF (f := SCALE_PIN) _ (hk (by decide))).setF (f := SCALE_FLUSHWIDE) _ (hk (by decide))

theorem Dev.Calm.scaleWritten (d : Dev) (l n v : Nat) (b : Bool) : d.Calm (d.scaleWritten l n v b) := by
  cases b
  · exact Dev.Calm.scaleSet d l n v
  · exact (Dev.Calm.scaleSet d l n v).setF (f := SCALE_RMAX) 0 (Fld.repState_ne (by decide))

/-- A write of a scale channel's register. -/
theorem Dev.write64_scale (h : Reaches d p (scaleReg t n)) :
    write64 p (scaleReg t n) v d = (d.scaleWritten (d.ltile t.val) n.val v.toNat (v.getLsbD 27)).emit .wrDone := by
  obtain ⟨hlo, hhi, h8, -, ht⟩ := scaleReg_place t n
  have hw := Dev.csrWrite_tile v h h8 (by omega) hhi
  rw [ht, Dev.hookTile_scale, Dev.writeReg_scale] at hw
  exact hw

end

/-! ## The first NaN of the device -/

section
variable {d : Dev} {r : Nat × Nat × Nat}

theorem Dev.nanTake_taken (hf : d.flag NANF_FINAL = false)
    (he : d.flag NANF_VALID = false ∨ r.1 < d.fld NAN_TS ∨ (r.1 = d.fld NAN_TS ∧ r.2.1 < d.fld NANF_PTILE)) :
    d.nanTake r = (((d.raise NANF_VALID).setF NANF_PTILE r.2.1).setF NANF_LTILE r.2.2).setF NAN_TS r.1 := by
  refine if_neg ?_
  rcases he with he | he | ⟨he, hp⟩
  · simp [hf, he]
  · simp [hf, he]
  · simp [hf, he, hp]

theorem Dev.nanTake_kept (h : d.flag NANF_FINAL = true ∨
    d.flag NANF_VALID = true ∧ ¬ (r.1 < d.fld NAN_TS ∨ (r.1 = d.fld NAN_TS ∧ r.2.1 < d.fld NANF_PTILE))) : d.nanTake r = d := by
  refine if_pos ?_
  rcases h with h | ⟨h, hn⟩
  · simp [h]
  · have hearlier : (decide (r.1 < d.fld NAN_TS) || (r.1 == d.fld NAN_TS && decide (r.2.1 < d.fld NANF_PTILE))) = false := by
      rw [Bool.eq_false_iff]
      simpa using hn
    simp [h, hearlier]

/-- A report taken stands in GLB_NAN_FIRST. -/
theorem Dev.nanTake_holds (hf : d.flag NANF_FINAL = false)
    (he : d.flag NANF_VALID = false ∨ r.1 < d.fld NAN_TS ∨ (r.1 = d.fld NAN_TS ∧ r.2.1 < d.fld NANF_PTILE))
    (hr : r.2.1 < 65 ∧ r.2.2 < 64 ∧ r.1 < 2 ^ 64) :
    (d.nanTake r).flag NANF_VALID = true ∧ (d.nanTake r).fld NANF_PTILE = r.2.1 ∧ (d.nanTake r).fld NANF_LTILE = r.2.2
      ∧ (d.nanTake r).fld NAN_TS = r.1 := by
  obtain ⟨hp, hl, ht⟩ := hr
  have hvalid : (d.raise NANF_VALID).fld NANF_VALID = 1 := by
    have hfld : (d.raise NANF_VALID).fld NANF_VALID = setBits (d.fld NANF_VALID) 0 1 1 % 2 := Dev.fld_setF_self d NANF_VALID _ 0 0
    rw [hfld]
    simp only [setBits, bits, pow_zero, Nat.div_one, Nat.mul_one, pow_one]
    omega
  rw [Dev.nanTake_taken hf he, Dev.flag]
  refine ⟨?_, ?_, ?_, ?_⟩
  · rw [Dev.fld_setF_ne _ _ (by decide), Dev.fld_setF_ne _ _ (by decide), Dev.fld_setF_ne _ _ (by decide), hvalid]
    rfl
  · rw [Dev.fld_setF_ne _ _ (by decide), Dev.fld_setF_ne _ _ (by decide), Dev.fld_setF_self]
    exact Nat.mod_eq_of_lt (lt_trans hp (by decide))
  · rw [Dev.fld_setF_ne _ _ (by decide), Dev.fld_setF_self]
    exact Nat.mod_eq_of_lt hl
  · rw [Dev.fld_setF_self]
    exact Nat.mod_eq_of_lt ht

/-! ### Judging -/

section
variable (hm : d.mlive = true)
include hm

theorem Dev.nanJudge_one (hr : d.nanRep = [r]) : d.nanJudge = ({ d with nanRep := [] }.passTo (4 * judgeAt r.1)).nanTake r := by
  simp [Dev.nanJudge, hm, hr]

theorem Dev.nanJudge_two {q o : Nat × Nat × Nat} (hr : d.nanRep = [r, q, o]) (hq : judgeAt q.1 = judgeAt r.1) (ho : judgeAt o.1 ≠ judgeAt r.1) :
    d.nanJudge = (({ d with nanRep := [o] }.passTo (4 * judgeAt r.1)).nanTake r).nanTake q := by
  simp [Dev.nanJudge, hm, hr, hq, ho]

section
variable (hv : d.flag NANF_VALID = true) (hf : d.flag NANF_FINAL = false)
include hv hf

theorem Dev.nanFinal_settled {e : Dev} (he : d.nanSettle d.nanRep.length = e) : d.nanFinal = (e.passTo (e.fld NAN_TS + 800)).nanFinalNow := by
  subst he
  exact if_neg (by simp [hm, hv, hf])

end

end

/-- Where every report is judged after FINAL none is judged before it. -/
theorem Dev.nanSettle_of_later (n : Nat) (h : ∀ r ∈ d.nanRep, (d.fld NAN_TS + 803) / 4 < judgeAt r.1) : d.nanSettle n = d := by
  cases n with
  | zero => rfl
  | succ n =>
    unfold Dev.nanSettle
    split
    next r l hr => exact if_neg (Nat.not_le.mpr (h r (hr ▸ List.mem_cons_self)))
    · rfl

theorem Dev.nanSettle_one (hr : d.nanRep = [r]) (hj : judgeAt r.1 ≤ (d.fld NAN_TS + 803) / 4) : d.nanSettle d.nanRep.length = d.nanJudge := by
  simp [hr, Dev.nanSettle, hj]

theorem Dev.nanFinal_idle (h : d.flag NANF_VALID = false ∨ d.flag NANF_FINAL = true) : d.nanFinal = d :=
  if_pos (by rcases h with h | h <;> simp [h])

/-! ### Clearing -/

theorem Dev.nanCapClear_zero {g : Fld} {k l : Nat} (hg : g.rst = 0) (t : Nat) (h : d.fld g k l = 0) : (d.nanCapClear t).fld g k l = 0 :=
  Dev.fld_setF_zero hg (Dev.fld_setF_zero hg (Dev.fld_setF_zero hg (Dev.fld_setF_zero hg h)))

theorem Dev.nanCapClear_clears (d : Dev) (t : Nat) : (d.nanCapClear t).fld NAN_CAP_0 t = 0 :=
  Dev.fld_setF_zero rfl (Dev.fld_setF_zero rfl (Dev.fld_setF_zero rfl (Dev.fld_setF_self d NAN_CAP_0 0 t 0)))

theorem Dev.Calm.nanCapClear (d : Dev) (t : Nat) : d.Calm (d.nanCapClear t) := by
  have hk {f : Fld} (h : 0x418 < f.off) : REP_STATE.key 0 0 ≠ f.key t 0 := Fld.repState_ne h
  exact ((((Dev.Calm.refl d).setF (f := NAN_CAP_0) _ (hk (by decide))).setF (f := NAN_CAP_TS) _ (hk (by decide))).setF (f := NAN_CAP_WHERE) _
    (hk (by decide))).setF (f := NAN_CAP_OPERANDS) _ (hk (by decide))

/-- Clearing the captures of the tiles of a list. -/
theorem Dev.foldl_nanCapClear (d : Dev) (l : List Nat) :
    d.Calm (l.foldl Dev.nanCapClear d) ∧ (∀ g : Fld, g.rst = 0 → d.fld g = 0 → (l.foldl Dev.nanCapClear d).fld g = 0)
      ∧ ∀ t ∈ l, (l.foldl Dev.nanCapClear d).fld NAN_CAP_0 t = 0 :=
  ⟨(Dev.Calm.refl d).foldl Dev.Calm.nanCapClear l,
    fun g hg h => List.foldlRecOn (motive := fun e : Dev => e.fld g = 0) l Dev.nanCapClear h fun _ he i _ => Dev.nanCapClear_zero hg i he,
    fun t ht => foldl_reaches (f := Dev.nanCapClear) (P := fun e : Dev => e.fld NAN_CAP_0 t = 0) ht (fun e => Dev.nanCapClear_clears e t)
      (fun _ i he => Dev.nanCapClear_zero rfl i he) d⟩

/-- Every capture and report goes. -/
theorem Dev.nanFirstClear_clears (d : Dev) :
    ∃ e, d.nanFirstClear = e ∧ d.Calm e ∧ e.flag NANF_VALID = false ∧ e.flag NANF_FINAL = false ∧ e.nanRep = []
      ∧ ∀ t : Fin 65, e.fld NAN_CAP_0 t.val = 0 := by
  have hbase := ((Dev.Calm.refl d).setF (f := NANF_VALID) (i := 0) (j := 0) 0 (by decide)).setF (f := NANF_FINAL) (i := 0) (j := 0) 0 (by decide)
  have hmem (t : Fin 65) : t.val ∈ upTo 65 := List.mem_range.mpr t.isLt
  unfold Dev.nanFirstClear
  generalize upTo 65 = l at hmem
  obtain ⟨hcalm, hkeep, hcap⟩ := Dev.foldl_nanCapClear ((d.setF NANF_VALID 0).setF NANF_FINAL 0) l
  obtain ⟨hm, hcpl, hhand, hcel, hplain, hrep⟩ := hbase.trans hcalm
  exact ⟨_, rfl, ⟨hm, hcpl, hhand, hcel, hplain, hrep⟩,
    bne_eq_false_iff_eq.mpr (hkeep NANF_VALID rfl (Dev.fld_setF_zero rfl (Dev.fld_setF_self d NANF_VALID 0 0 0))),
    bne_eq_false_iff_eq.mpr (hkeep NANF_FINAL rfl (Dev.fld_setF_self (d.setF NANF_VALID 0) NANF_FINAL 0 0 0)), rfl, fun t => hcap _ (hmem t)⟩

variable {p : Path} {v : Word64}

theorem Dev.write64_nanFirst (h : Reaches d p 0x300) (h0 : v.getLsbD 0 = true) : write64 p 0x300 v d = d.nanFirstClear.emit .wrDone := by
  have hw := Dev.csrWrite_glb (off := 0x300) v h (by decide) (by decide) (by decide)
  rw [show d.hookGlb 0x300 8 (pathCode p) v.toNat (2 ^ 64 - 1) = some d.nanFirstClear from congrArg some (if_pos h0)] at hw
  exact hw

theorem Dev.write64_nanCap {t : PTile} (h : Reaches d p (0x1000400 + 0x10000 * t.val)) (h0 : v.getLsbD 0 = true) :
    write64 p (0x1000400 + 0x10000 * t.val) v d = (d.nanCapClear (d.ltile t.val)).emit .wrDone := by
  have ht := t.isLt
  have hmod : (0x1000400 + 0x10000 * t.val) % 0x10000 = 0x400 := by omega
  have hdiv : (0x1000400 + 0x10000 * t.val - 0x1000000) / 0x10000 = t.val := by omega
  have hbit : bitAt v.toNat 0 = true := h0
  have hhook : d.hookTile t.val (0x1000400 + 0x10000 * t.val) 8 (pathCode p) v.toNat (2 ^ 64 - 1) = some (d.nanCapClear (d.ltile t.val)) := by
    simp [Dev.hookTile, hmod, hbit]
  have hw := Dev.csrWrite_tile v h (by omega) (by omega) (by omega)
  rw [hdiv, hhook] at hw
  exact hw

end

/-- Settles O37: a scale channel takes its settings; reports are judged by their MCLK, the earliest is kept, and FINAL closes the capture. -/
theorem scaleAndNanRegisters : Obligations.ScaleAndNanRegisters := by
  refine ⟨fun s t n p v hi h => ?_, fun s r hm hr => ?_, fun s r q o hm hr hq ho => ?_, fun d r hv hf hr => Dev.nanTake_holds hf (.inl hv) hr,
    fun d r hv hf hr he => Dev.nanTake_holds hf (.inr he) hr, fun d r hv he => Dev.nanTake_kept (.inr ⟨hv, he⟩),
    fun d r hf => Dev.nanTake_kept (.inl hf), fun s hm hv hf h => ?_, fun s r hm hv hf hr hj => ?_, fun s hi h => ?_, fun s p v hi h h0 => ?_,
    fun s t p v h h0 => ?_⟩
  · obtain ⟨hcur, hhead, hauto, hpin, hwide, hsug, hrmax⟩ := Dev.fld_scaleWritten s.fresh (s.dev.ltile t.val) n.val v.toNat (v.getLsbD 27)
    have hcalm := Dev.Calm.scaleWritten s.fresh (s.dev.ltile t.val) n.val v.toNat (v.getLsbD 27)
    exact .of_calm (f := write64 p (scaleReg t n) v) hi rfl (Dev.write64_scale (d := s.fresh) h) (hcalm.emit rfl)
      ⟨hcur, hhead, hauto, hpin, hwide, hsug, hrmax, hcalm.mem, congrArg (· ++ [Out.wrDone]) (Dev.scaleWritten_out ..)⟩
  · exact .of_eq (f := fun d => d.nanJudge) rfl (Dev.nanJudge_one (d := s.fresh) hm hr)
  · exact .of_eq (f := fun d => d.nanJudge) rfl (Dev.nanJudge_two (d := s.fresh) hm hr hq ho)
  · exact .of_eq (f := fun d => d.nanFinal) rfl (Dev.nanFinal_settled (d := s.fresh) hm hv hf (Dev.nanSettle_of_later _ h))
  · exact .of_eq (f := fun d => d.nanFinal) rfl (Dev.nanFinal_settled (d := s.fresh) hm hv hf (Dev.nanSettle_one (d := s.fresh) hr hj))
  · exact .of_idle (f := fun d => d.nanFinal) hi rfl (Dev.nanFinal_idle (d := s.fresh) h)
  · obtain ⟨e, he, hcalm, hv, hf, hr, hc⟩ := Dev.nanFirstClear_clears s.fresh
    exact .of_calm (f := write64 p 0x300 v) hi rfl ((Dev.write64_nanFirst (d := s.fresh) h h0).trans (congrArg (·.emit .wrDone) he)) (hcalm.emit rfl)
      ⟨hv, hf, hr, hc, hcalm.mem⟩
  · exact .of_eq (f := write64 p (0x1000400 + 0x10000 * t.val) v) rfl (Dev.write64_nanCap (d := s.fresh) h h0)

end Sys2Proof.Machine
end

section
/-! SUPPORT. Shadow copies, and register writes of any width (chapters 0, 2 and 4). -/

namespace Sys2Proof.Machine
open Sys2Proof.Machine.Reg

section
variable {d : Dev} {p : Path} {off : Nat}

/-! ## A write that reaches its register -/

section
variable (h : Reaches d p off) (n v : Nat)
include h

/-- The checks in front of a register turn away, or hold, none that reaches it. -/
theorem Dev.csrGo_reaches :
    d.csrGo p off n (some v) =
      if ((n == 4 || n == 8) && off % n == 0) then ((d.csrPut p off n v none).1, 0, (d.csrPut p off n v none).2)
      else (.done, 0, d.csrAccess off n (pathCode p) 1) := by
  obtain ⟨hp, ho, ht, hj, hr, hb, hl, hs⟩ := h
  have htrip : (d.rst.tripped && (decide (0x1000000 ≤ off) && !(decide (0x7000000 ≤ off) && decide (off < 0x7400000)))) = false := by
    rw [Bool.eq_false_iff]
    intro htrue
    simp only [Bool.and_eq_true, decide_eq_true_eq, Bool.not_eq_true', Bool.and_eq_false_iff, decide_eq_false_iff_not] at htrue
    have := ht htrue.1
    omega
  have hjtag : (p == .jtag && !d.flag MGT_CSR_EN) = false := by
    by_cases hpj : p = .jtag
    · simp [hj hpj]
    · simp [hpj]
  have hrun : (d.running && outsidePath p && !runAllows off true) = false := by
    cases h1 : d.running
    · rfl
    · cases h2 : outsidePath p
      · rfl
      · simp [hr h1 h2]
  unfold Dev.csrGo
  simp only [ho, htrip, hjtag, Option.isSome_some, hrun, hb, hs, Bool.not_true, Bool.false_eq_true, ↓reduceIte, Bool.or_self]
  cases (n == 4 || n == 8) && off % n == 0 <;> rfl

variable {n v}

theorem Dev.csrWrite_misaligned (hn : ¬ ((n = 4 ∨ n = 8) ∧ off % n = 0)) : d.csrWrite p off n v = (d.csrAccess off n (pathCode p) 1).emit .wrDone := by
  unfold Dev.csrWrite
  rw [if_neg h.1, Dev.csrGo_reaches h, if_neg (by simpa using hn)]
  rfl

theorem Dev.csrWrite_of_put {e : CsrEnd} {g : Dev} (hn : (n = 4 ∨ n = 8) ∧ off % n = 0) (hput : d.csrPut p off n v none = (e, g)) :
    d.csrWrite p off n v = g.csrReply true e 0 := by
  unfold Dev.csrWrite
  rw [if_neg h.1, Dev.csrGo_reaches h, if_pos (by simpa using hn), hput]

/-- A write of the low half of a register. -/
theorem Dev.csrWrite_low (h8 : off % 8 = 0) (hk : off < 0x400000 ∨ 0x408000 ≤ off) :
    d.csrWrite p off 4 v = ((d.regWrite off 4 (pathCode p) (v % 2 ^ 32) (2 ^ 32 - 1)).2).emit .wrDone := by
  have hbase : off / 8 * 8 = off := by omega
  have hkeep : ¬ (0x400000 ≤ off ∧ off < 0x408000) := by omega
  have hlock : (d.flag SAF_LOCK && frozenBySafLock off) = false := by
    obtain ⟨-, -, -, -, -, -, hl, -⟩ := h
    cases hf : d.flag SAF_LOCK
    · rfl
    · simp [hl hf]
  have hput : d.csrPut p off 4 v none =
      (if (d.regWrite off 4 (pathCode p) (v % 2 ^ 32) (2 ^ 32 - 1)).1 then .target else .done, (d.regWrite off 4 (pathCode p) (v % 2 ^ 32) (2 ^ 32 - 1)).2) := by
    unfold Dev.csrPut
    simp only [hbase, hkeep, hlock, h8, Bool.false_eq_true, ↓reduceIte, Nat.zero_div, Nat.mul_zero, pow_zero, Nat.mul_one, Nat.reduceEqDiff, Nat.reduceMul]
  rw [Dev.csrWrite_of_put h ⟨.inl rfl, by omega⟩ hput]
  split <;> rfl

end

end

/-! ## The three registers of time -/

section
variable {d : Dev} {p : Path} (r : Fin 3)

theorem Dev.regValue_time : d.regValue (timeOff r) = timeValue d r := by
  have hrt : regFields 0x420 = [(REP_RT, 0, 0)] := by decide
  match r with
  | 0 => rfl
  | 1 => rfl
  | 2 =>
    simp only [timeOff, timeValue, Dev.regValue, Dev.readGlb, Dev.regStored, hrt, List.map_cons, List.map_nil, List.sum_cons, List.sum_nil, Dev.readFld]
    have hlo : REP_RT.lo = 0 ∧ (REP_RT.acc == .wo) = false ∧ d.inst REP_RT 0 = 0 := ⟨rfl, rfl, rfl⟩
    simp [hlo]

theorem exec_timeRead (part : RdPart) (s : State) : exec (timeRead r p part) s = runAll s fun d => d.partRead p (timeOff r) part :=
  match r with
  | 0 => rfl
  | 1 => rfl
  | 2 => rfl

/-- A read of one of them goes by the rule of the shadow copies. -/
theorem Dev.csrGet_time :
    d.csrGet p (timeOff r) 8 = d.shadowRead r.val p .whole (d.regValue (timeOff r))
      ∧ d.csrGet p (timeOff r) 4 = d.shadowRead r.val p .low (d.regValue (timeOff r))
      ∧ d.csrGet p (timeOff r + 4) 4 = d.shadowRead r.val p .high (d.regValue (timeOff r)) :=
  match r with
  | 0 => ⟨rfl, rfl, rfl⟩
  | 1 => ⟨rfl, rfl, rfl⟩
  | 2 => ⟨rfl, rfl, rfl⟩

theorem timeOff_mod : timeOff r % 8 = 0 :=
  match r with
  | 0 => rfl
  | 1 => rfl
  | 2 => rfl

theorem Dev.partRead_low (h : Readable d p (timeOff r)) :
    d.partRead p (timeOff r) .low = ({ d with clk := { d.clk with
      shadow := Sparse.set none d.clk.shadow (shadowKey r.val p) (some (BitVec.ofNat 32 (timeValue d r / 2 ^ 32))) } }).emit
        (.csrVal (timeValue d r % 2 ^ 32)) := by
  have hmod := timeOff_mod r
  have hhi : timeValue d r / 2 ^ 32 % 2 ^ 32 = timeValue d r / 2 ^ 32 := Nat.mod_eq_of_lt (by unfold timeValue; omega)
  unfold Dev.partRead
  rw [Dev.csrRead_reaches h ⟨.inl rfl, by omega⟩, (Dev.csrGet_time r).2.1, Dev.regValue_time, Dev.shadowRead, hhi]

section
variable (h : Readable d p (timeOff r + 4))
include h

theorem Dev.partRead_high : d.partRead p (timeOff r) .high =
    (d.shadowRead r.val p .high (timeValue d r)).2.emit (.csrVal (d.shadowRead r.val p .high (timeValue d r)).1) := by
  have hmod := timeOff_mod r
  unfold Dev.partRead
  rw [Dev.csrRead_reaches h ⟨.inl rfl, by omega⟩, (Dev.csrGet_time r).2.2, Dev.regValue_time]

theorem Dev.partRead_high_copy {c : BitVec 32} (hc : Sparse.get none d.clk.shadow (shadowKey r.val p) = some c) :
    d.partRead p (timeOff r) .high =
      ({ d with clk := { d.clk with shadow := Sparse.set none d.clk.shadow (shadowKey r.val p) none } }).emit (.csrVal c.toNat) := by
  rw [Dev.partRead_high r h]
  simp only [Dev.shadowRead, hc]

theorem Dev.partRead_high_live (hc : Sparse.get none d.clk.shadow (shadowKey r.val p) = none) :
    d.partRead p (timeOff r) .high = d.emit (.csrVal (timeValue d r / 2 ^ 32)) := by
  have hhi : timeValue d r / 2 ^ 32 % 2 ^ 32 = timeValue d r / 2 ^ 32 := Nat.mod_eq_of_lt (by unfold timeValue; omega)
  rw [Dev.partRead_high r h]
  simp only [Dev.shadowRead, hc, hhi]

end

theorem Dev.partRead_whole (h : Readable d p (timeOff r)) : d.partRead p (timeOff r) .whole = d.emit (.csrVal (timeValue d r)) := by
  have hv : timeValue d r % 2 ^ 64 = timeValue d r := Nat.mod_mod _ _
  unfold Dev.partRead
  rw [Dev.csrRead_reaches h ⟨.inr rfl, timeOff_mod r⟩, (Dev.csrGet_time r).1, Dev.regValue_time, Dev.shadowRead, hv]

end

/-! ## EMB_USER -/

section
variable {d : Dev} {p : Path} (i : Fin 4)

/-- Where EMB_USER `i` stands. -/
def userReg : Nat := 0x300080 + 8 * i.val

theorem regFields_userReg : regFields (userReg i) = [(EMB_USER, i.val, 0)] := by
  revert i
  decide

theorem Dev.hookGlb_userReg (b q v m : Nat) : d.hookGlb (userReg i) b q v m = none :=
  match i with
  | 0 => rfl
  | 1 => rfl
  | 2 => rfl
  | 3 => rfl

theorem Dev.write_user (v : Word64) (h : Reaches d p (userReg i)) : d.csrWrite p (userReg i) 8 v.toNat = (d.setF EMB_USER v.toNat i.val).emit .wrDone := by
  have hbits : bits v.toNat EMB_USER.lo EMB_USER.w = v.toNat := (congrArg (· % 2 ^ 64) (Nat.div_one v.toNat)).trans (Nat.mod_eq_of_lt v.isLt)
  have hfld := Dev.writeFld_full d v.toNat EMB_USER i.val 0 rfl (by decide) (by decide)
  rw [hbits, if_pos ⟨Nat.zero_le _, v.isLt.le⟩] at hfld
  rw [Dev.csrWrite_glb v h (by unfold userReg; omega) (by unfold userReg; omega) (.inl (by unfold userReg; omega)), Dev.hookGlb_userReg, Option.getD_none,
    Dev.writeReg, regFields_userReg, List.foldl_cons, List.foldl_nil, hfld]
  rfl

/-- The value that a write of the low half makes of 64 bits. -/
theorem merge_low (a b : Nat) (ha : a < 2 ^ 32) :
    Nat.lor (Nat.land a (2 ^ 32 - 1)) (Nat.land b (Nat.xor (2 ^ 32 - 1) (2 ^ 64 - 1))) = a + b / 2 ^ 32 % 2 ^ 32 * 2 ^ 32 := by
  have hlow : Nat.land a (2 ^ 32 - 1) = a := (Nat.and_two_pow_sub_one_eq_mod a 32).trans (Nat.mod_eq_of_lt ha)
  have hhigh : Nat.land b (Nat.xor (2 ^ 32 - 1) (2 ^ 64 - 1)) = 2 ^ 32 * (b / 2 ^ 32 % 2 ^ 32) := by
    show b &&& ((2 ^ 32 - 1) ^^^ (2 ^ 64 - 1)) = 2 ^ 32 * (b / 2 ^ 32 % 2 ^ 32)
    refine Nat.eq_of_testBit_eq fun k => ?_
    rw [Nat.testBit_and, Nat.testBit_xor, Nat.testBit_two_pow_sub_one, Nat.testBit_two_pow_sub_one, Nat.testBit_two_pow_mul, Nat.testBit_mod_two_pow,
      Nat.testBit_div_two_pow]
    by_cases hk : k < 32
    · have h64 : k < 64 := by omega
      simp [hk, h64]
    · have hadd : k - 32 + 32 = k := by omega
      have h32 : 32 ≤ k := by omega
      by_cases h64 : k < 64
      · have hsub : k - 32 < 32 := by omega
        simp [hk, h64, h32, hsub, hadd]
      · have hsub : ¬ k - 32 < 32 := by omega
        simp [hk, h64, hsub]
  rw [hlow, hhigh, Nat.mul_comm (b / 2 ^ 32 % 2 ^ 32), Nat.add_comm]
  exact (Nat.or_comm _ _).trans (Nat.two_pow_add_eq_or_of_lt ha _).symm

/-- A write of the low half of a 64-bit field leaves the other half. -/
theorem Dev.writeFld_low (v : Nat) : d.writeFld (v % 2 ^ 32) (2 ^ 32 - 1) (EMB_USER, i.val, 0) =
    d.setF EMB_USER (v % 2 ^ 32 + d.fld EMB_USER i.val / 2 ^ 32 * 2 ^ 32) i.val := by
  have hw : bits (v % 2 ^ 32) 0 64 = v % 2 ^ 32 := by unfold bits; omega
  have hk : bits (2 ^ 32 - 1) 0 64 = 2 ^ 32 - 1 := rfl
  have hmerged := merge_low (v % 2 ^ 32) (d.fld EMB_USER i.val) (Nat.mod_lt _ (by decide))
  have hle : v % 2 ^ 32 + d.fld EMB_USER i.val / 2 ^ 32 % 2 ^ 32 * 2 ^ 32 ≤ 2 ^ 64 := by omega
  have hset (x y : Nat) (h : x % 2 ^ 64 = y % 2 ^ 64) : d.setF EMB_USER x i.val = d.setF EMB_USER y i.val := by
    unfold Dev.setF
    rw [show EMB_USER.w = 64 from rfl, h]
  unfold Dev.writeFld
  simp only [show EMB_USER.lo = 0 from rfl, show EMB_USER.w = 64 from rfl, show EMB_USER.acc = .rw from rfl, show EMB_USER.minv = 0 from rfl,
    show EMB_USER.maxv = 2 ^ 64 from rfl, show d.inst EMB_USER i.val = i.val from rfl, hw, hk, hmerged, hle, Nat.zero_le, and_self, ↓reduceIte]
  exact hset _ _ (by omega)

theorem Dev.write_user_low (v : Word64) (h : Reaches d p (userReg i)) : d.csrWrite p (userReg i) 4 v.toNat =
    (d.setF EMB_USER (v.toNat % 2 ^ 32 + d.fld EMB_USER i.val / 2 ^ 32 * 2 ^ 32) i.val).emit .wrDone := by
  have hreg : (d.regWrite (userReg i) 4 (pathCode p) (v.toNat % 2 ^ 32) (2 ^ 32 - 1)).2 = d.writeReg (userReg i) (v.toNat % 2 ^ 32) (2 ^ 32 - 1) := by
    unfold Dev.regWrite
    simp only [Dev.hookGlb_userReg]
    rw [if_pos (by unfold userReg; omega)]
    rfl
  rw [Dev.csrWrite_low h (by unfold userReg; omega) (.inl (by unfold userReg; omega)), hreg, Dev.writeReg, regFields_userReg, List.foldl_cons,
    List.foldl_nil, Dev.writeFld_low]

end

/-! ## A word of the Keep bank -/

theorem Dev.write_keep {d : Dev} {p : Path} {k : Fin 4096} {v : Word64} (h : Reaches d p (0x400000 + 8 * k.val)) (hk : 8 ≤ k.val)
    (hw : d.keepProtected k.val = false) (hp : d.rst.pfail = false) (hr : d.keep.running = none) :
    d.csrWrite p (0x400000 + 8 * k.val) 8 v.toNat =
      { d with keep := { d.keep with running := some ({ path := p, word := k.val, data := v.toNat, at_ := d.clk.tick }, d.clk.tick) } } := by
  have hlt := k.isLt
  have hput : d.csrPut p (0x400000 + 8 * k.val) 8 v.toNat none = (.waits,
      { d with keep := { d.keep with running := some ({ path := p, word := k.val, data := v.toNat, at_ := d.clk.tick }, d.clk.tick) } }) := by
    have hbase : (0x400000 + 8 * k.val) / 8 * 8 = 0x400000 + 8 * k.val ∧ (0x400000 + 8 * k.val - 0x400000) / 8 = k.val := by omega
    have hin : 0x400000 ≤ 0x400000 + 8 * k.val ∧ 0x400000 + 8 * k.val < 0x408000 := by omega
    have hlow : ¬ k.val < 8 := by omega
    simp [Dev.csrPut, hbase, hin, Dev.keepPut, Dev.keepAccept, hp, hlow, hw, Dev.keepEnter, hr, h.1]
  rw [Dev.csrWrite_of_put h ⟨.inr rfl, by omega⟩ hput]
  rfl

/-- A REGISTER_WRITE of an offset in range. -/
theorem exec_registerWrite {p : Path} {off : Nat} {v : Word64} {s : State} (h : off < 2 ^ 28) (n : Fin 9) :
    exec (.registerWrite p (BitVec.ofNat 28 off) n v) s = runAll s fun d => d.csrWrite p off n.val v.toNat := by
  have hexec : exec (.registerWrite p (BitVec.ofNat 28 off) n v) s = runAll s fun d => d.csrWrite p (BitVec.ofNat 28 off).toNat n.val v.toNat := rfl
  simp only [hexec, BitVec.toNat_ofNat, Nat.mod_eq_of_lt h]

/-- Settles O10: a half of a time register is read with its other half's copy, and a register takes a write of 64 or 32 aligned bits alone. -/
theorem registerAccess : Obligations.RegisterAccess := by
  refine ⟨fun s r p hi h => ?_, fun s r p c hi h hc => ?_, fun s r p hi h hc => ?_, fun s r p hi h => ?_, fun s p i v hi h => ?_,
    fun s p i v hi h => ?_, fun s p off n v hi h hn _ => ?_, fun s p k v hi h hk hw hp hr => ?_⟩
  · exact .of_calm (f := fun d => d.partRead p (timeOff r) .low) hi (exec_timeRead r .low s) (Dev.partRead_low (d := s.fresh) r h)
      ⟨rfl, rfl, rfl, rfl, fun _ => rfl, rfl⟩
  · exact .of_calm (f := fun d => d.partRead p (timeOff r) .high) hi (exec_timeRead r .high s) (Dev.partRead_high_copy (d := s.fresh) r h hc)
      ⟨rfl, rfl, rfl, rfl, fun _ => rfl, rfl⟩
  · exact .of_calm (f := fun d => d.partRead p (timeOff r) .high) hi (exec_timeRead r .high s) (Dev.partRead_high_live (d := s.fresh) r h hc)
      ((Dev.Calm.refl _).emit rfl)
  · exact .of_calm (f := fun d => d.partRead p (timeOff r) .whole) hi (exec_timeRead r .whole s) (Dev.partRead_whole (d := s.fresh) r h)
      ((Dev.Calm.refl _).emit rfl)
  · exact .of_calm (f := fun d => d.csrWrite p (userReg i) 8 v.toNat) hi (exec_registerWrite (by omega) 8) (Dev.write_user (d := s.fresh) i v h)
      (((Dev.Calm.refl _).setF _ (Fld.repState_ne (by decide))).emit rfl)
  · exact .of_calm (f := fun d => d.csrWrite p (userReg i) 4 v.toNat) hi (exec_registerWrite (by omega) 4) (Dev.write_user_low (d := s.fresh) i v h)
      (((Dev.Calm.refl _).setF _ (Fld.repState_ne (by decide))).emit rfl)
  · exact .of_calm (f := fun d => d.csrWrite p off.toNat n.val v.toNat) hi rfl (Dev.csrWrite_misaligned (d := s.fresh) h hn)
      (((Dev.Calm.refl _).csrAccess _ _ _ _).emit rfl)
  · exact .of_calm (f := fun d => d.csrWrite p (0x400000 + 8 * k.val) 8 v.toNat) hi (exec_registerWrite (by omega) 8)
      (Dev.write_keep (d := s.fresh) h hk hw hp hr) ⟨rfl, rfl, rfl, rfl, id, rfl⟩

end Sys2Proof.Machine
end

section
/-! SUPPORT. The key store and the frame scrubber (chapter 3). -/

namespace Sys2Proof.Machine
open Sys2Proof.Machine.Reg

section
variable {d : Dev} {p : Path} {off bytes path v : Nat}

theorem Dev.keyCtl_wrongKey (hk : bits v 48 16 ≠ 0x7E80) : d.keyCtl off bytes path v = d.csrAccess off bytes path 2 := if_pos hk

section
variable (hk : bits v 48 16 = 0x7E80)
include hk

/-- ENROLL alone, in WAIT_IMAGE, with `k` in the key registers. -/
theorem Dev.keyCtl_enroll {k : Nat} (hkey : (upTo 4).foldl (fun k n => k + d.fld KEY_IN n * 2 ^ (64 * n)) 0 = k)
    (h0 : bitAt v 0 = true) (h1 : bitAt v 1 = false) (hs : d.cfgState = 6) :
    d.keyCtl off bytes path v =
      (({ d with load := { d.load with keyStore := some (Config.pufWrap (BitVec.ofNat 256 k)) } }.setF KEY_KEK_1_VALID 1).logEv 0x0103 .I 0 []) := by
  subst hkey
  unfold Dev.keyCtl
  simp only [hk, h0, h1, hs, ne_eq, not_true_eq_false, Bool.not_true, Bool.false_eq_true, ↓reduceIte]

/-- In any other state. -/
theorem Dev.keyCtl_refused (h0 : bitAt v 0 = true) (h1 : bitAt v 1 = false) (hs : d.cfgState ≠ 6) :
    d.keyCtl off bytes path v = d.csrAccess off bytes path 3 := by
  unfold Dev.keyCtl
  simp only [hk, h0, h1, hs, ne_eq, not_true_eq_false, not_false_eq_true, Bool.not_true, Bool.false_eq_true, ↓reduceIte]

theorem Dev.keyCtl_zeroize (h0 : bitAt v 0 = false) (h1 : bitAt v 1 = true) :
    d.keyCtl off bytes path v =
      ({ d with load := { d.load with keyStore := none, content := none },
                fab := { d.fab with exch := { d.fab.exch with content := none } } }.setF KEY_KEK_1_VALID 0).logEv 0x0104 .I 0 [] := by
  unfold Dev.keyCtl
  simp only [hk, h0, h1, ne_eq, not_true_eq_false, Bool.not_false, ↓reduceIte]

end

theorem Dev.write64_keyCtl {w : Word64} (h : Reaches d p 0x100200) :
    write64 p 0x100200 w d = (d.keyCtl 0x100200 8 (pathCode p) w.toNat).emit .wrDone :=
  Dev.csrWrite_glb (off := 0x100200) w h (by decide) (by decide) (by decide)

end

/-- Four words, put together. -/
theorem foldl_four (f g : Nat → Nat) (hg : g 0 = 1) :
    (upTo 4).foldl (fun k n => k + f n * g n) 0 = f 0 + f 1 * g 1 + f 2 * g 2 + f 3 * g 3 := by
  show 0 + f 0 * g 0 + f 1 * g 1 + f 2 * g 2 + f 3 * g 3 = _
  rw [hg, Nat.mul_one, Nat.zero_add]

/-- What the key registers hold. -/
theorem Dev.keyIn_eq (d : Dev) : (upTo 4).foldl (fun k n => k + d.fld KEY_IN n * 2 ^ (64 * n)) 0 =
    d.fld KEY_IN 0 + d.fld KEY_IN 1 * 2 ^ 64 + d.fld KEY_IN 2 * 2 ^ 128 + d.fld KEY_IN 3 * 2 ^ 192 := by
  rw [foldl_four (fun i => d.fld KEY_IN i) (fun n => 2 ^ (64 * n)) rfl]

/-! ## The scrubber -/

section
variable {d : Dev} {r base : Nat}

/-- A frame shows what befell it. -/
theorem Dev.frameFinds_upset {u : FrameUpset} (hu : u ≠ .clean) : d.frameFinds base u = u := by
  cases u with
  | clean => exact absurd rfl hu
  | single => rfl
  | double => rfl

theorem Dev.frameFinds_clean (hc : ∀ w : Fin 32, NatSet.has d.load.bad (base + w.val) = false) : d.frameFinds base .clean = .clean := by
  have hnone : ((upTo 32).find? fun w => NatSet.has d.load.bad (base + w)) = none :=
    List.find?_eq_none.mpr fun w hw => Bool.eq_false_iff.mp (hc ⟨w, List.mem_range.mp hw⟩)
  simp only [Dev.frameFinds, hnone]

/-- A word left uncorrected. -/
theorem Dev.frameFinds_left {w : Fin 32} (hc : ∀ v : Fin 32, NatSet.has d.load.bad (base + v.val) = decide (v = w)) :
    d.frameFinds base .clean = .double w := by
  have hsome : ((upTo 32).find? fun w => NatSet.has d.load.bad (base + w)) = some w.val := by
    cases hf : (upTo 32).find? fun w => NatSet.has d.load.bad (base + w) with
    | none => exact absurd (List.find?_eq_none.mp hf w.val (List.mem_range.mpr w.isLt)) (by simp [hc w])
    | some v =>
      have hlt : v < 32 := List.mem_range.mp (List.mem_of_find?_eq_some hf)
      have heq : decide ((⟨v, hlt⟩ : Fin 32) = w) = true := (hc ⟨v, hlt⟩).symm.trans (List.find?_some (p := fun w => NatSet.has d.load.bad (base + w)) hf)
      rw [show v = w.val from congrArg Fin.val (of_decide_eq_true heq)]
  simp only [Dev.frameFinds, hsome]
  exact congrArg _ (Fin.ext (Nat.mod_eq_of_lt w.isLt))

/-- The scrubber has moved on. -/
def Dev.scrubOn (d : Dev) (r : Nat) : Dev :=
  { d with load := { d.load with scrubPos := Sparse.set 0 d.load.scrubPos r ((Sparse.get 0 d.load.scrubPos r + 1) % 6144) } }

/-- The scrubber at work goes by what the frame shows. -/
def Dev.scrubFound (d : Dev) (r frame base : Nat) (u : FrameUpset) : Dev :=
  match u with
  | .clean => d
  | .single w b =>
    let ess := !NatSet.has d.load.nonEss (base + w.val)
    let d := d.scrubLast r frame w.val b.val 1 ess
    if ess then (d.inc SCRUB_CORR_E).logEv 0x0105 .S 0 [dT d.scrubReg] else d.inc SCRUB_CORR_NE
  | .double w =>
    let ess := !NatSet.has d.load.nonEss (base + w.val)
    let d := { d with load := { d.load with bad := Sparse.set false d.load.bad (base + w.val) true } }
    let d := (d.scrubLast r frame w.val 0 2 ess).inc SCRUB_UNCORR
    if ess then d.logEv 0x0105 .S 0 [dT d.scrubReg] else d.logUE 0x0105 0 [dT d.scrubReg]

section
variable (hr : d.released = true) (he : d.flag SCRUB_EN = true) (hb : d.regionBusy r = false)
include hr he hb

theorem Dev.scrubFrame_eq {u v : FrameUpset} {frame : Nat} (hframe : Sparse.get 0 d.load.scrubPos r = frame)
    (hf : (d.scrubOn r).frameFinds (r * 196608 + 32 * frame) u = v) :
    d.scrubFrame r u = (d.scrubOn r).scrubFound r frame (r * 196608 + 32 * frame) v := by
  subst hframe hf
  unfold Dev.scrubFrame
  exact if_neg (by simp [hr, he, hb])

end

end

/-- A command on the key store leaves alone what a command's end acts on. -/
theorem Dev.Calm.keyLogged (d : Dev) (l : Load) (f : Fab) (v ev : Nat) :
    Dev.Calm d ((({ d with load := l, fab := f }.setF KEY_KEK_1_VALID v).logEv ev .I 0 []).emit .wrDone) := by
  have hcalm : Dev.Calm d { d with load := l, fab := f } := ⟨rfl, rfl, rfl, rfl, id, rfl⟩
  exact ((hcalm.setF v (by decide)).logEv (by decide)).emit rfl

/-- Settles O14: CFG_KEY_CTL by its key and its two bits, the scrubber by what its frame shows. -/
theorem keysAndScrubber : Obligations.KeysAndScrubber := by
  refine ⟨fun s p v hi h hk c hc => ?_, fun s p v hi h hk h0 h1 hs => ?_, fun s p v hi h hk h0 h1 hs => ?_, fun s p v hi h hk h0 h1 => ?_,
    fun s r hi hr he hb hc => ?_, fun s r w b hr he hb => ?_, fun s r w hr he hb => ?_, fun s r hr he hb w hc => ?_⟩
  · have hwrite : write64 p 0x100200 v s.fresh = (s.fresh.csrAccess 0x100200 8 (pathCode p) 2).emit .wrDone :=
      (Dev.write64_keyCtl (d := s.fresh) h).trans (congrArg (·.emit .wrDone) (Dev.keyCtl_wrongKey hk))
    have hcalm : Dev.Calm s.fresh ((s.fresh.csrAccess 0x100200 8 (pathCode p) 2).emit .wrDone) := ((Dev.Calm.refl _).csrAccess _ _ _ _).emit rfl
    obtain rfl | rfl := List.mem_pair.mp hc
    · exact .of_calm (f := write64 p 0x100200 v) hi rfl hwrite hcalm
    · exact .of_calm (f := write64 p 0x100200 v) hi rfl hwrite hcalm
  · exact .of_calm (f := write64 p 0x100200 v) hi rfl
      ((Dev.write64_keyCtl (d := s.fresh) h).trans (congrArg (·.emit .wrDone) (Dev.keyCtl_enroll (d := s.fresh) hk s.fresh.keyIn_eq h0 h1 hs)))
      (Dev.Calm.keyLogged s.fresh _ s.dev.fab 1 0x0103)
  · exact .of_calm (f := write64 p 0x100200 v) hi rfl
      ((Dev.write64_keyCtl (d := s.fresh) h).trans (congrArg (·.emit .wrDone) (Dev.keyCtl_refused (d := s.fresh) hk h0 h1 hs)))
      (((Dev.Calm.refl _).csrAccess _ _ _ _).emit rfl)
  · exact .of_calm (f := write64 p 0x100200 v) hi rfl
      ((Dev.write64_keyCtl (d := s.fresh) h).trans (congrArg (·.emit .wrDone) (Dev.keyCtl_zeroize (d := s.fresh) hk h0 h1)))
      (Dev.Calm.keyLogged s.fresh _ _ 0 0x0104)
  · exact .of_calm (f := fun d => d.scrubFrame r.val .clean) hi rfl
      (Dev.scrubFrame_eq (d := s.fresh) hr he hb rfl (Dev.frameFinds_clean hc)) ⟨rfl, rfl, rfl, rfl, fun _ => rfl, rfl⟩
  · exact .of_eq (f := fun d => d.scrubFrame r.val (.single w b)) rfl
      (Dev.scrubFrame_eq (d := s.fresh) hr he hb rfl (Dev.frameFinds_upset (u := .single w b) nofun))
  · exact .of_eq (f := fun d => d.scrubFrame r.val (.double w)) rfl
      (Dev.scrubFrame_eq (d := s.fresh) hr he hb rfl (Dev.frameFinds_upset (u := .double w) nofun))
  · exact .of_eq (f := fun d => d.scrubFrame r.val .clean) rfl
      ((Dev.scrubFrame_eq (d := s.fresh) hr he hb rfl (Dev.frameFinds_left hc)).trans
        (Dev.scrubFrame_eq (d := s.fresh) hr he hb rfl (Dev.frameFinds_upset (u := .double w) nofun)).symm)

end Sys2Proof.Machine
end

section
/-! SUPPORT. The Ember record (chapter 4). -/

namespace Sys2Proof.Machine
open Sys2Proof.Machine.Reg

section
variable {d : Dev}

/-! ## A queued entry -/

/-- A queued entry stands in the queue, or counts as lost: of the record nothing else changes. -/
theorem Dev.ember_post (d : Dev) (e : EmbEnt) : ∃ q n c, (d.post e).ember = { d.ember with queue := q, lost := n, lostCls := c } := by
  unfold Dev.post
  dsimp only
  split
  · exact ⟨_, _, _, rfl⟩
  · split <;> exact ⟨_, _, _, rfl⟩

/-- An event of class I, D or F does no more to the record. -/
theorem Dev.ember_logEv (d : Dev) (ev : Nat) {c : Cls} (hc : c ≠ .S) (n : Nat) (l : List DF) (o : Bool) :
    ∃ q n' c', (d.logEv ev c n l o).ember = { d.ember with queue := q, lost := n', lostCls := c' } := by
  unfold Dev.logEv
  cases c with
  | S => exact absurd rfl hc
  | _ =>
    dsimp only
    split
    · exact Dev.ember_post { d with safe := { d.safe with sticky := ev :: d.safe.sticky } } _
    · exact Dev.ember_post d _

/-- What an entry makes of the record goes by the record, and by whether a clear runs, alone. -/
theorem Dev.ember_post_congr {d e : Dev} (h : e.ember = d.ember) (hc : e.flag EMB_CLEARING = d.flag EMB_CLEARING) (x : EmbEnt) :
    (e.post x).ember = (d.post x).ember := by
  unfold Dev.post
  dsimp only
  rw [h, hc]
  split
  · rfl
  · split <;> rfl

theorem State.fresh_ember_logD (s : State) (ev n : Nat) (h : ev ∉ stickyEvents) (l : List DF) :
    (s.fresh.logEv ev .D n l).ember = (s.dev.logEv ev .D n l).ember := by
  have hlog (d : Dev) : d.logEv ev .D n l = d.post { ts := d.clk.ts, event := ev, cls := .D, inst := n, replay := d.running, detail := l } := by
    unfold Dev.logEv
    simp [h]
  rw [hlog, hlog]
  exact Dev.ember_post_congr (d := s.dev) (e := s.fresh) rfl rfl _

/-! ## A commit -/

section
variable {e : EmbEnt} {r : List EmbEnt}

/-- The oldest entry commits, where none was lost and the pinned area does not fill. -/
theorem Dev.embCommit_eq (hr : d.ember.ready = true) (hq : d.ember.queue = e :: r) (hl : d.ember.lost = 0) (hp : d.ember.pinCount ≠ 2047) :
    d.embCommit = { d with ember := d.embWritten (d.pfailCount e) r } := by
  have hfull : (d.embPins (d.pfailCount e) && d.ember.pinCount == 2047) = false := by simp [hp]
  have hnone : Dev.embLostDue { d with ember := d.embWritten (d.pfailCount e) r } = { d with ember := d.embWritten (d.pfailCount e) r } :=
    if_pos (.inl hl)
  unfold Dev.embCommit
  simp only [hr, hq, hfull, hnone, Bool.not_true, Bool.false_eq_true, ↓reduceIte]

/-- The count of refused writes changes neither the class of an entry nor when it was raised. -/
theorem Dev.pfailCount_marks (d : Dev) (e : EmbEnt) : (d.pfailCount e).cls = e.cls ∧ (d.pfailCount e).noPin = e.noPin ∧ (d.pfailCount e).ts = e.ts := by
  unfold Dev.pfailCount
  split <;> exact ⟨rfl, rfl, rfl⟩

theorem Dev.embPins_lt (h : d.embPins e = true) : d.ember.pinCount < 2048 := by
  simp only [Dev.embPins, Bool.and_eq_true, decide_eq_true_eq] at h
  exact h.1.1.2

/-- The circular copy stands at HEAD, whatever the pinned one did. -/
theorem Dev.embWritten_head (hh : 2048 ≤ d.ember.head) :
    Sparse.get 0 (d.embWritten e r).area d.ember.head = e.word d.ember.seqNext (d.keepWord 0 % 2 ^ 32) false := by
  unfold Dev.embWritten
  dsimp only
  split
  next hpin =>
    have := Dev.embPins_lt hpin
    rw [Sparse.get_set_ne _ _ (by omega), Sparse.get_set_self]
  next => exact Sparse.get_set_self ..

theorem Dev.embPins_iff (hp : d.ember.pinCount < 2048) (hc : d.flag EMB_CLEARING = false) (hn : e.noPin = false) : d.embPins e = decide (e.cls ≠ .I) := by
  cases hcls : e.cls <;> simp [Dev.embPins, hp, hc, hn, hcls, Cls.code]

/-- The pinned copy. -/
theorem Dev.embWritten_pinned (h : d.embPins e = true) : (d.embWritten e r).pinCount = d.ember.pinCount + 1
    ∧ Sparse.get 0 (d.embWritten e r).area d.ember.pinCount = e.word d.ember.seqNext (d.keepWord 0 % 2 ^ 32) true := by
  simp only [Dev.embWritten, h, ↓reduceIte, Sparse.get_set_self, and_self]

theorem Dev.embWritten_notPinned (h : d.embPins e = false) : (d.embWritten e r).pinCount = d.ember.pinCount := by
  simp only [Dev.embWritten, h, Bool.false_eq_true, ↓reduceIte]

end

/-! ## The power-up check -/

/-- Entry `i` does not hold what was reserved for number `q`. -/
def Dev.embIsTorn (d : Dev) (i q : Nat) : Bool := embSeqOf (d.embAt i) != q || !embCrcOk (d.embAt i)

/-- The record is ready, its RESET entries enter the queue. -/
def Dev.embReady (d : Dev) : Dev :=
  d.ember.resetDue.foldl (fun d e => d.post (resetEntry d.ember.lastTs e.1 e.2 0 true)) { d with ember := { d.ember with ready := true, resetDue := [] } }

/-- A clear that was cut short completes. -/
def Dev.embCleared (d : Dev) : Dev :=
  match d.ember.clearing with
  | none => d
  | some (lo, hi, op) => (Dev.embCheck.clearArea d).logEv 0x0303 .I 0 [dT lo, dT hi] op

/-- What was reserved last, in the record and in its pinned area, is reported where it is torn. -/
def Dev.embReported (d : Dev) : Dev :=
  match d.ember.reserved with
  | none => d
  | some (i, q, pin) =>
    let d := if d.embIsTorn i q then d.logEv 0x0301 .D 0 [dO i, dT q] else d
    if pin ≠ 0 ∧ d.embIsTorn (pin - 1) q = true then d.logEv 0x0301 .D 0 [dO (pin - 1), dT q] else d

theorem Dev.embCheck_eq (h : d.ember.ready = false) : d.embCheck = d.embCleared.embReported.embReady :=
  if_neg (by simp [h])

theorem Dev.embCleared_none (h : d.ember.clearing = none) : d.embCleared = d := by
  unfold Dev.embCleared
  rw [h]

theorem Dev.embCleared_some {lo hi : Nat} {op : Bool} (h : d.ember.clearing = some (lo, hi, op)) :
    d.embCleared = (Dev.embCheck.clearArea d).logEv 0x0303 .I 0 [dT lo, dT hi] op := by
  unfold Dev.embCleared
  rw [h]

theorem Dev.embReported_none (h : d.ember.reserved = none) : d.embReported = d := by
  unfold Dev.embReported
  rw [h]

theorem Dev.embReported_torn {i q : Nat} (h : d.ember.reserved = some (i, q, 0)) (ht : d.embIsTorn i q = true) :
    d.embReported = d.logEv 0x0301 .D 0 [dO i, dT q] := by
  unfold Dev.embReported
  rw [h]
  simp [ht]

theorem Dev.embReported_tornPin {i q k : Nat} (h : d.ember.reserved = some (i, q, k + 1)) (ht : d.embIsTorn i q = false) (hk : d.embIsTorn k q = true) :
    d.embReported = d.logEv 0x0301 .D 0 [dO k, dT q] := by
  unfold Dev.embReported
  rw [h]
  simp [ht, hk]

/-- With no RESET entry that waits. -/
theorem Dev.embReady_none (h : d.ember.resetDue = []) : d.embReady = { d with ember := { d.ember with ready := true, resetDue := [] } } := by
  unfold Dev.embReady
  rw [h]
  rfl

/-- The RESET entries carry the time of the last entry written. -/
theorem Dev.embReady_lastTs : d.embReady =
    d.ember.resetDue.foldl (fun e x => e.post (resetEntry d.ember.lastTs x.1 x.2 0 true)) { d with ember := { d.ember with ready := true, resetDue := [] } } := by
  have hfold (t : Nat) (l : List (Nat × Nat)) : ∀ e : Dev, e.ember.lastTs = t →
      l.foldl (fun e x => e.post (resetEntry e.ember.lastTs x.1 x.2 0 true)) e = l.foldl (fun e x => e.post (resetEntry t x.1 x.2 0 true)) e := by
    induction l with
    | nil => exact fun _ _ => rfl
    | cons x l ih =>
      intro e he
      obtain ⟨q, n, c, hpost⟩ := e.ember_post (resetEntry t x.1 x.2 0 true)
      rw [List.foldl_cons, List.foldl_cons, he]
      exact ih _ (by rw [hpost]; exact he)
  exact hfold _ _ _ rfl

/-! ## The clear of the pinned area -/

/-- A count of a word the device owns is the Keep bank's alone. -/
theorem Dev.keepOwn_eq (d : Dev) (n : Nat) : d.keepOwn n = { d with keep := (d.keepOwn n).keep } := by
  unfold Dev.keepOwn Dev.keepEnter
  split
  · rfl
  · split <;> rfl

theorem Dev.keepInsert_congr {d e : Dev} (h : ∀ a b, e.keepBefore a b = d.keepBefore a b) (w : KeepWr) : ∀ l, e.keepInsert w l = d.keepInsert w l
  | [] => rfl
  | a :: l => by simp only [Dev.keepInsert, h, Dev.keepInsert_congr h w l]

/-- It goes by the Keep bank, the clocks and the timestamp alone. -/
theorem Dev.keepOwn_congr {d e : Dev} (hk : e.keep = d.keep) (hc : e.clk = d.clk) (hn : e.now = d.now) (n : Nat) : (e.keepOwn n).keep = (d.keepOwn n).keep := by
  have hbefore (a b : KeepWr) : e.keepBefore a b = d.keepBefore a b := by simp only [Dev.keepBefore, hn]
  unfold Dev.keepOwn Dev.keepEnter
  rw [hk, hc]
  split
  · rfl
  · simp only [hbefore, Dev.keepInsert_congr hbefore]
    split <;> rfl

theorem Dev.keepOwn_ember (d : Dev) (m : Ember) (n : Nat) : { d with ember := m }.keepOwn n = { d with ember := m, keep := (d.keepOwn n).keep } :=
  (Dev.keepOwn_eq { d with ember := m } n).trans
    (congrArg (fun k : Keep => { d with ember := m, keep := k }) (Dev.keepOwn_congr (d := d) (e := { d with ember := m }) rfl rfl rfl n))

/-- The area as a clear leaves it. -/
theorem Dev.clearArea_eq (d : Dev) : Dev.embCheck.clearArea d =
    { d with ember := { d.ember with area := d.ember.area.filter fun e => decide (2048 ≤ e.1), pinCount := 0, clearing := none },
             keep := (d.keepOwn 3).keep } :=
  Dev.keepOwn_ember d _ 3

theorem Dev.Calm.clearArea (d : Dev) : Dev.Calm d (Dev.embCheck.clearArea d) := by
  rw [Dev.clearArea_eq]
  exact ⟨rfl, rfl, rfl, rfl, id, rfl⟩

theorem Dev.pinClearDone_eq {lo hi : Nat} {op : Bool} (h : d.ember.clearing = some (lo, hi, op)) :
    d.pinClearDone = ((Dev.embCheck.clearArea d).setF EMB_CLEARING 0).logEv 0x0303 .I 0 [dT lo, dT hi] op := by
  unfold Dev.pinClearDone
  rw [h]

/-- An attempt with a signature, good or bad. -/
theorem Dev.pinClear_eq (d : Dev) : d.pinClear = Dev.freshChal
    (if d.load.aDone && Config.ecdsaVerify d.load.pubkey (Config.sha384 (leBytes 8 (d.fld EMB_CHAL) ++ leBytes 8 (d.fld ID_PART + d.fld ID_STEP * 2 ^ 16
        + d.fld ID_GRADE * 2 ^ 24) ++ leBytes 8 d.ember.seqNext)) (BitVec.ofNat 768 (d.concat EMB_AUTH 0 12)) then
      { d with ember := { d.ember with pinCount := 0, clearing := some (d.pinnedSeqs.headD 0, d.pinnedSeqs.getLastD 0, d.flag CFG_OPEN) } }.setF EMB_CLEARING 1
     else d.logEv 0x0304 .D 0 [dT (d.fld EMB_CHAL)]) := by
  refine Eq.trans ?_ (apply_ite Dev.freshChal _ _ _).symm
  rfl

/-! ## The window on an entry -/

section
variable {f g : Fld} {v : Nat → Nat} {m : Nat}

/-- A row of registers written leaves every other. -/
theorem Dev.fld_foldl_setF_ne {i j : Nat} : ∀ (l : List Nat) (d : Dev), (∀ m ∈ l, g.key i j ≠ f.key m 0) →
    (l.foldl (fun d m => d.setF f (v m) m) d).fld g i j = d.fld g i j
  | [], _, _ => rfl
  | a :: l, d, h => (Dev.fld_foldl_setF_ne l _ fun m hm => h m (List.mem_cons_of_mem _ hm)).trans (Dev.fld_setF_ne d _ (h a List.mem_cons_self))

/-- Each of the row holds its own value. -/
theorem Dev.fld_foldl_setF (hf : ∀ a, a ≠ m → f.key m 0 ≠ f.key a 0) {l : List Nat} {d : Dev} (h : m ∈ l) :
    (l.foldl (fun d m => d.setF f (v m) m) d).fld f m = v m % 2 ^ f.w := by
  induction l generalizing d with
  | nil => cases h
  | cons a l ih =>
    by_cases hm : m ∈ l
    · exact ih hm
    · obtain rfl : m = a := (List.mem_cons.mp h).resolve_right hm
      exact (Dev.fld_foldl_setF_ne l _ fun b hb => hf b fun hbm => hm (hbm ▸ hb)).trans (Dev.fld_setF_self d f _ _ _)

end

theorem embRdData_key {m a : Nat} (h : a ≠ m) : EMB_RD_DATA.key m 0 ≠ EMB_RD_DATA.key a 0 := by
  simp only [Fld.key, Fld.at, EMB_RD_DATA, fRO, Fld.arr]
  omega

/-- What EMB_RD_DATA shows of entry `i`. -/
def Dev.embShown (d : Dev) (i : Nat) : Nat := if i < 2048 ∧ d.ember.pinCount ≤ i then 0 else d.embAt i

theorem Dev.embLoad_eq {i : Nat} (h : i < 131072) :
    d.embLoad i = (upTo 8).foldl (fun e m => e.setF EMB_RD_DATA (d.embShown i / 2 ^ (64 * m)) m) (d.setF EMB_RD_IDX i) :=
  if_neg (by omega)

theorem Dev.Calm.embLoad (d : Dev) (i : Nat) : Dev.Calm d (d.embLoad i) := by
  unfold Dev.embLoad
  split
  · exact .refl d
  · exact .foldl ((Dev.Calm.refl d).setF (f := EMB_RD_IDX) (i := 0) (j := 0) i (by decide))
      (fun e m => (Dev.Calm.refl e).setF _ (Fld.repState_ne (by decide))) _

theorem Dev.embLoad_fields {i : Nat} (h : i < 131072) : (d.embLoad i).fld EMB_RD_IDX = i
    ∧ ∀ m < 8, (d.embLoad i).fld EMB_RD_DATA m = d.embShown i / 2 ^ (64 * m) % 2 ^ 64 := by
  rw [Dev.embLoad_eq h]
  refine ⟨?_, fun m hm => Dev.fld_foldl_setF (fun a ha => embRdData_key ha) (List.mem_range.mpr hm)⟩
  rw [Dev.fld_foldl_setF_ne]
  · exact (Dev.fld_setF_self ..).trans (Nat.mod_eq_of_lt h)
  · intro m _
    simp only [Fld.key, Fld.at, EMB_RD_DATA, EMB_RD_IDX, fRO, fRW, Fld.arr]
    omega

end

/-! ## What the writes and the check leave -/

section
variable {d : Dev} {p : Path} {v : Word64}

theorem Dev.write64_embRdIdx (h : Reaches d p 0x300010) : write64 p 0x300010 v d = (d.embLoad v.toNat).emit .wrDone :=
  Dev.csrWrite_glb (off := 0x300010) v h (by decide) (by decide) (by decide)

theorem Dev.write64_embCtl (h : Reaches d p 0x300200) : write64 p 0x300200 v d =
    (if bits v.toNat 48 16 ≠ 0x3E1D then d.csrAccess 0x300200 8 (pathCode p) 2 else if bitAt v.toNat 0 then d.pinClear else d).emit .wrDone :=
  Dev.csrWrite_glb (off := 0x300200) v h (by decide) (by decide) (by decide)

theorem Dev.embShown_word (d : Dev) (i m : Nat) : d.embShown i / 2 ^ (64 * m) % 2 ^ 64 =
    if i < 2048 ∧ d.ember.pinCount ≤ i then 0 else d.embAt i / 2 ^ (64 * m) % 2 ^ 64 := by
  unfold Dev.embShown
  split
  · rw [Nat.zero_div, Nat.zero_mod]
  · rfl

/-- A read of an entry answers nothing of its own, and leaves the record. -/
theorem Dev.embLoad_frame (d : Dev) (i : Nat) : (d.embLoad i).out = d.out ∧ (d.embLoad i).ember = d.ember := by
  unfold Dev.embLoad
  split
  · exact ⟨rfl, rfl⟩
  · exact List.foldlRecOn (motive := fun e : Dev => e.out = d.out ∧ e.ember = d.ember) _ _ ⟨rfl, rfl⟩ fun e he m _ => he

/-- The check that reports one torn entry, no RESET entry waiting. -/
theorem Ends.of_embReported {s : State} {i q : Nat} (hi : Inv s) (h : s.fresh.embCheck = (s.fresh.logEv 0x0301 .D 0 [dO i, dT q]).embReady)
    (hd : s.dev.ember.resetDue = []) :
    Ends .emberPowerupCheck s fun d => d.ember.ready = true ∧ d.ember.queue = (s.dev.logEv 0x0301 .D 0 [dO i, dT q]).ember.queue ∧ d.mem = s.dev.mem := by
  have hlog : Dev.Calm s.fresh (s.fresh.logEv 0x0301 .D 0 [dO i, dT q]) := (Dev.Calm.refl _).logEv (by decide)
  obtain ⟨l, n, c, hember⟩ := Dev.ember_logEv s.fresh 0x0301 (c := .D) (by decide) 0 [dO i, dT q] false
  have hdue : (s.fresh.logEv 0x0301 .D 0 [dO i, dT q]).ember.resetDue = [] := hember ▸ hd
  have hqueue : (s.fresh.logEv 0x0301 .D 0 [dO i, dT q]).ember.queue = (s.dev.logEv 0x0301 .D 0 [dO i, dT q]).ember.queue :=
    congrArg Ember.queue (State.fresh_ember_logD s 0x0301 0 (by decide) [dO i, dT q])
  exact .of_calm (f := fun d => d.embCheck) hi rfl (h.trans (Dev.embReady_none hdue)) (hlog.trans ⟨rfl, rfl, rfl, rfl, id, rfl⟩)
    ⟨rfl, hqueue, hlog.mem⟩

end

/-! ## The clauses -/

/-- Settles O16: the oldest entry commits at HEAD and, where its class asks for it, at the next pinned index; what was torn or cut short is made
good at power-up; the clear of the pinned area is the key's and the signature's. -/
theorem emberRecord : Obligations.EmberRecord := by
  refine ⟨fun s e r hi hr hq hl hp hh => ?_, fun s e r hi hr hq hh hl hp hc hn => ?_, fun s hi hr hc hv => ?_,
    fun s i q hi hr hc hv ht hd hrun => ?_, fun s i q k hi hr hc hv hs hcrc ht hd hrun => ?_, fun s p v hi h hv => ?_, fun s p v hi h hv => ?_,
    fun s p v hi h hk => ?_, fun s p v hi h hk h0 => ?_, fun s lo hi' op hi hc => ?_, fun s lo hi' op hr hc hv hd => ?_⟩
  · obtain ⟨-, -, hts⟩ := Dev.pfailCount_marks s.fresh e
    exact .of_calm (f := fun d => d.embCommit) hi rfl (Dev.embCommit_eq (d := s.fresh) hr hq hl hp) ⟨rfl, rfl, rfl, rfl, id, rfl⟩
      ⟨Dev.embWritten_head (d := s.fresh) hh, rfl, rfl, rfl, hts, rfl, rfl⟩
  · refine .of_calm (f := fun d => d.embCommit) hi rfl (Dev.embCommit_eq (d := s.fresh) hr hq hl hp.ne) ⟨rfl, rfl, rfl, rfl, id, rfl⟩ ?_
    obtain ⟨hcls, hnp, -⟩ := Dev.pfailCount_marks s.fresh e
    have hpin : s.fresh.embPins (s.fresh.pfailCount e) = decide (e.cls ≠ .I) :=
      hcls ▸ Dev.embPins_iff (d := s.fresh) (hp.trans (by decide)) hc (hnp.trans hn)
    by_cases hI : e.cls = .I
    · exact ⟨(Dev.embWritten_notPinned (hpin.trans (by simp [hI]))).trans (if_pos hI).symm, fun h => absurd hI h⟩
    · obtain ⟨hcount, hat⟩ := Dev.embWritten_pinned (r := r) (hpin.trans (decide_eq_true hI))
      exact ⟨hcount.trans (if_neg hI).symm, fun _ => hat⟩
  · refine .of_eq (f := fun d => d.embCheck) rfl ((Dev.embCheck_eq (d := s.fresh) hr).trans ?_)
    rw [Dev.embCleared_none (d := s.fresh) hc, Dev.embReported_none (d := s.fresh) hv]
    exact Dev.embReady_lastTs
  · have htorn : s.fresh.embIsTorn i q = true := by simp only [Dev.embIsTorn, Bool.or_eq_true, bne_iff_ne]; exact .inl ht
    have hchk := Dev.embCheck_eq (d := s.fresh) hr
    rw [Dev.embCleared_none (d := s.fresh) hc, Dev.embReported_torn (d := s.fresh) hv htorn] at hchk
    exact Ends.of_embReported hi hchk hd
  · have hwhole : s.fresh.embIsTorn i q = false := by
      simp only [Dev.embIsTorn, Bool.or_eq_false_iff, bne_eq_false_iff_eq, Bool.not_eq_false']
      exact ⟨hs, hcrc⟩
    have htorn : s.fresh.embIsTorn k q = true := by simp only [Dev.embIsTorn, Bool.or_eq_true, bne_iff_ne]; exact .inl ht
    have hchk := Dev.embCheck_eq (d := s.fresh) hr
    rw [Dev.embCleared_none (d := s.fresh) hc, Dev.embReported_tornPin (d := s.fresh) hv hwhole htorn] at hchk
    exact Ends.of_embReported hi hchk hd
  · obtain ⟨hidx, hdata⟩ := Dev.embLoad_fields (d := s.fresh) hv
    exact .of_calm (f := write64 p 0x300010 v) hi rfl (Dev.write64_embRdIdx (d := s.fresh) h) ((Dev.Calm.embLoad s.fresh v.toNat).emit rfl)
      ⟨hidx, congrArg (· ++ [Out.wrDone]) (Dev.embLoad_frame s.fresh v.toNat).1, (Dev.embLoad_frame s.fresh v.toNat).2, (Dev.Calm.embLoad s.fresh v.toNat).mem,
        fun m => (hdata m.val m.isLt).trans (Dev.embShown_word s.fresh v.toNat m.val)⟩
  · exact .of_calm (f := write64 p 0x300010 v) hi rfl ((Dev.write64_embRdIdx (d := s.fresh) h).trans (congrArg (Dev.emit · .wrDone) (if_pos hv)))
      ((Dev.Calm.refl _).emit rfl)
  · exact .of_calm (f := write64 p 0x300200 v) hi rfl ((Dev.write64_embCtl (d := s.fresh) h).trans (congrArg (Dev.emit · .wrDone) (if_pos hk)))
      (((Dev.Calm.refl _).csrAccess _ _ _ _).emit rfl)
  · exact .of_eq (f := write64 p 0x300200 v) rfl ((Dev.write64_embCtl (d := s.fresh) h).trans
      (congrArg (Dev.emit · .wrDone) ((if_neg (not_not.mpr hk)).trans ((if_pos h0).trans (Dev.pinClear_eq s.fresh)))))
  · obtain ⟨l, n, c, hember⟩ := Dev.ember_logEv ((Dev.embCheck.clearArea s.fresh).setF EMB_CLEARING 0) 0x0303 (c := .I) (by decide) 0
      [dT lo, dT hi'] op
    have harea (i : Nat) : Dev.embAt (((Dev.embCheck.clearArea s.fresh).setF EMB_CLEARING 0).logEv 0x0303 .I 0 [dT lo, dT hi'] op) i =
        if 2048 ≤ i then s.dev.embAt i else 0 := by
      unfold Dev.embAt
      rw [hember, Dev.clearArea_eq]
      simpa using Sparse.get_filter_key (dflt := 0) (fun k => decide (2048 ≤ k)) s.fresh.ember.area i
    refine .of_calm (f := fun d => d.pinClearDone) hi rfl (Dev.pinClearDone_eq (d := s.fresh) hc)
      (((Dev.Calm.clearArea s.fresh).setF _ (by decide)).logEv (by decide)) ⟨?_, ?_, ?_, ?_, fun i => ?_, fun i h => ?_⟩
    · rw [Dev.flag, Dev.fld_logEv _ _ (by decide) _ _ _ (by decide), Dev.fld_setF_self]
      rfl
    · rw [hember, Dev.clearArea_eq]
      rfl
    · rw [hember, Dev.clearArea_eq]
      rfl
    · rw [Dev.logEv_keep, Dev.clearArea_eq]
      exact Dev.keepOwn_congr (d := s.dev) (e := s.fresh) rfl rfl rfl 3
    · exact (harea i.val).trans (if_neg (by omega))
    · exact (harea i).trans (if_pos h)
  · obtain ⟨l, n, c, hember⟩ := Dev.ember_logEv (Dev.embCheck.clearArea s.fresh) 0x0303 (c := .I) (by decide) 0 [dT lo, dT hi'] op
    have hres : ((Dev.embCheck.clearArea s.fresh).logEv 0x0303 .I 0 [dT lo, dT hi'] op).ember.reserved = none := by
      rw [hember, Dev.clearArea_eq]
      exact hv
    have hdue : ((Dev.embCheck.clearArea s.fresh).logEv 0x0303 .I 0 [dT lo, dT hi'] op).ember.resetDue = [] := by
      rw [hember, Dev.clearArea_eq]
      exact hd
    refine .of_eq (f := fun d => d.embCheck) rfl ((Dev.embCheck_eq (d := s.fresh) hr).trans ?_)
    rw [Dev.embCleared_some (d := s.fresh) hc, Dev.embReported_none hres, Dev.embReady_none hdue]
    rfl

end Sys2Proof.Machine
end

section
/-! SUPPORT. The reset pins of the port dies (chapters 2 and 17). -/

namespace Sys2Proof.Machine
open Sys2Proof.Machine.Reg

/-! ## What a field outside the bindings leaves of them -/

theorem Sparse.filter_ins {α : Type} {q : Nat × α → Bool} {k : Nat} {v : α} (hq : q (k, v) = false) (m : List (Nat × α)) :
    (Sparse.ins m k v).filter q = m.filter q := by
  induction m with
  | nil => exact List.filter_cons_of_neg (by simp [hq])
  | cons e r ih =>
    obtain ⟨a, x⟩ := e
    unfold Sparse.ins
    split
    · exact List.filter_cons_of_neg (by simp [hq])
    · rw [List.filter_cons, List.filter_cons, ih]

/-- A value set at a key that a filter drops. -/
theorem Sparse.filter_set {α : Type} [DecidableEq α] {dflt : α} {q : Nat → Bool} {k : Nat} (hq : q k = false) (m : List (Nat × α)) (v : α) :
    (Sparse.set dflt m k v).filter (fun e => q e.1) = m.filter fun e => q e.1 := by
  have hne : (m.filter fun e => e.1 != k).filter (fun e => q e.1) = m.filter fun e => q e.1 := by
    rw [List.filter_filter]
    refine List.filter_congr fun e _ => ?_
    by_cases he : e.1 = k
    · simp [he, hq]
    · simp [he]
  unfold Sparse.set
  split
  · exact hne
  · exact (Sparse.filter_ins (q := fun e => q e.1) hq _).trans hne

/-- The register-file key of a bound field of die `n`. -/
def boundKey (n k : Nat) : Bool := prtBound.any fun f => f.lo == k % 64 && (f.inst? (k / 64)).any (·.1 == n)

theorem boundKey_cause (n : Unit4) : boundKey n.val (CAUSE_PORT.key 0 0) = false := by
  revert n
  decide

/-- The cause bit is none of a controller's bindings. -/
theorem Dev.boundNow_raise (d : Dev) (n : Unit4) : (d.raise CAUSE_PORT).boundNow n.val = d.boundNow n.val :=
  Sparse.filter_set (q := boundKey n.val) (boundKey_cause n) d.csr (setBits (d.fld CAUSE_PORT 0 0) 0 1 1 % 2 ^ CAUSE_PORT.w)

/-! ## The pin -/

section
variable {d : Dev} {n : Nat}

/-- With no access held there is none to go ahead. -/
theorem Dev.heldRelease_none (h : d.rst.held = []) : d.heldRelease = d := by
  have hrst : { d.rst with held := [] } = d.rst := by rw [← h]
  unfold Dev.heldRelease
  simp only [h, List.filter_nil, List.foldl_nil, hrst]

theorem Dev.prtOf_congr {e : Dev} (h : e.prt = d.prt) (n : Nat) : e.prtOf n = d.prtOf n := congrArg (fun m => Sparse.get ({} : Prt) m n) h

/-- The level of the pin, as the controller sees it. -/
def Dev.perstSeen (d : Dev) (n : Nat) (low : Bool) : Dev := d.setPrt n { d.prtOf n with perstLow := low }

theorem Dev.perst_output (h : d.load.aDone = true) (hm : d.prtEff PC_MODE n = 1) (x : Bool) : d.perst n x = d :=
  if_pos (by simp [h, hm])

/-- No ROOT controller has its pin as an output. -/
theorem Dev.perst_input (h : d.load.aDone = false ∨ d.prtEff PC_MODE n ≠ 1) : ¬ (d.load.aDone && d.prtEff PC_MODE n == 1) = true := by
  rcases h with h | h <;> simp [h]

theorem Dev.perst_ring (h : d.ringFed n = true) (x : Bool) : d.perst n x = d := by
  unfold Dev.perst
  rw [if_pos h, ite_self]

theorem Dev.perst_early (ha : d.load.aDone = false) (hf : d.ringFed n = false) (x : Bool) : d.perst n x = d.perstSeen n !x := by
  have hrel : (d.perstSeen n !x).aReleased = false := (congrArg (d.live && ·) ha).trans (Bool.and_false _)
  unfold Dev.perst
  refine (if_neg (Dev.perst_input (.inl ha))).trans ((if_neg (by simp [hf])).trans (if_pos ?_))
  exact (congrArg (!·) hrel)

section
variable (ha : d.aReleased = true) (hm : d.prtEff PC_MODE n ≠ 1) (hf : d.ringFed n = false)
include ha hm hf

theorem Dev.perst_fall : d.perst n false = if (Sparse.get none d.rst.port n).isSome then d.perstSeen n true else (d.perstSeen n true).portResetOn n := by
  unfold Dev.perst
  refine (if_neg (Dev.perst_input (.inr hm))).trans ((if_neg (by simp [hf])).trans ((if_neg ?_).trans (if_neg (by decide))))
  rw [show Dev.aReleased (d.setPrt n { d.prtOf n with perstLow := !false }) = true from ha]
  decide

/-- The controller out of its reset. -/
def Dev.perstBound (d : Dev) (n : Nat) : Dev :=
  let d := { d.raise CAUSE_PORT with rst := { d.rst with port := Sparse.set none d.rst.port n none } }.bindPort n
  d.setPrt n { d.prtOf n with fwFault := false }

/-- With its entry, the reset having begun at `t`. -/
def Dev.perstEnds (d : Dev) (n t : Nat) : Dev := (d.perstBound n).resetLog 5 n t

theorem Dev.perst_rise {t : Nat} (ht : Sparse.get none d.rst.port n = some t) : d.perst n true = (d.perstSeen n false).perstEnds n t := by
  unfold Dev.perst
  refine (if_neg (Dev.perst_input (.inr hm))).trans ((if_neg (by simp [hf])).trans ((if_neg ?_).trans ((if_pos rfl).trans ?_)))
  · rw [show Dev.aReleased (d.setPrt n { d.prtOf n with perstLow := !true }) = true from ha]
    decide
  · split
    next hp => cases ht.symm.trans hp
    next u hp =>
      obtain rfl := Option.some.inj (ht.symm.trans hp)
      rfl

end

theorem Dev.perstSeen_rst (d : Dev) (n : Nat) (low : Bool) : (d.perstSeen n low).rst = d.rst := rfl

theorem Dev.perst_absorbed (ha : d.aReleased = true) (hm : d.prtEff PC_MODE n ≠ 1) (hf : d.ringFed n = false)
    (hp : (Sparse.get none d.rst.port n).isSome = true) : d.perst n false = d.perstSeen n true :=
  (Dev.perst_fall ha hm hf).trans (if_pos hp)

theorem Dev.perst_resets (ha : d.aReleased = true) (hm : d.prtEff PC_MODE n ≠ 1) (hf : d.ringFed n = false) (hp : Sparse.get none d.rst.port n = none) :
    d.perst n false = { d.setPrt n { d.prtOf n with perstLow := true } with
      rst := { d.rst with port := Sparse.set none d.rst.port n (some d.clk.ts) } }.freshChal.portClear n :=
  (Dev.perst_fall ha hm hf).trans ((if_neg (by simp [hp])).trans (if_neg (by rw [Dev.perstSeen_rst]; simp [hp])))

/-- In ROOT mode the pin rises PERST_HOLD µs after the start. -/
theorem Dev.perstRelease_eq {t : Nat} (ha : d.aReleased = true) (hm : d.prtEff PC_MODE n = 1) (ho : (d.prtOf n).perstOut = false)
    (ht : (d.prtOf n).perstAt = some t) :
    d.perstRelease n = ((d.tickTo (t + 800 * d.prtEff PC_PERST_HOLD n)).setPrt n { d.prtOf n with perstOut := true }).emit (.pulse "PERST_N" n) := by
  have hprt : (d.tickTo (t + 800 * d.prtEff PC_PERST_HOLD n)).prtOf n = d.prtOf n := Dev.prtOf_congr (Dev.pass_prt d _) n
  unfold Dev.perstRelease
  rw [ht]
  refine (if_neg (by simp [ha, hm, ho])).trans ?_
  exact congrArg (fun p : Prt => ((d.tickTo (t + 800 * d.prtEff PC_PERST_HOLD n)).setPrt n { p with perstOut := true }).emit (.pulse "PERST_N" n)) hprt

/-! ### The end of a reset -/

section
variable (t : Nat)

theorem Dev.Calm.perstEnds (d : Dev) : Dev.Calm d (d.perstEnds n t) := by
  have hpost (e : Dev) (x : EmbEnt) : Dev.Calm e (e.post x) :=
    ⟨Dev.post_mem e x, Dev.post_cpl e x, congrArg (·.handover) (Dev.post_safe e x), Dev.post_cel e x, (Dev.plainOut_post e x).trans, Dev.repState_post e x⟩
  have hraise : Dev.Calm d (d.raise CAUSE_PORT) := (Dev.Calm.refl d).raise 0 (by decide)
  have hrst (e : Dev) (r : Rst) : Dev.Calm e { e with rst := r } := ⟨rfl, rfl, rfl, rfl, id, rfl⟩
  exact (((hraise.trans (hrst _ _)).setPrt _ _).setPrt _ _).trans (hpost _ _)

theorem Dev.perstEnds_rst (d : Dev) : (d.perstEnds n t).rst = { d.rst with port := Sparse.set none d.rst.port n none } := Dev.post_rst ..

theorem Dev.perstEnds_prt (d : Dev) (n : Unit4) : (d.perstEnds n.val t).prtOf n.val = { d.prtOf n.val with eff := d.boundNow n.val, fwFault := false } := by
  rw [← Dev.boundNow_raise, Dev.perstEnds, Dev.resetLog, Dev.prtOf_congr (Dev.post_prt _ _), Dev.perstBound, Dev.prtOf_setPrt_self, Dev.bindPort,
    Dev.prtOf_setPrt_self]
  rfl

theorem Dev.perstEnds_cause (d : Dev) : (d.perstEnds n t).flag CAUSE_PORT = true := by
  have hset : ((d.perstBound n).fld CAUSE_PORT != 0) = true := by
    show ((d.setBit CAUSE_PORT 0 true).fld CAUSE_PORT != 0) = true
    rw [Dev.setBit, Dev.fld_setF_self]
    generalize d.fld CAUSE_PORT 0 0 = v
    have hodd : (v - v / 2 ^ 0 % 2 ^ 1 * 2 ^ 0 + 1 % 2 ^ 1 * 2 ^ 0) % 2 ^ 1 = 1 := by omega
    exact bne_iff_ne.mpr (ne_of_eq_of_ne hodd Nat.one_ne_zero)
  exact (congrArg (· != 0) (Dev.fld_post _ _ (f := CAUSE_PORT) (by decide))).trans hset

theorem Dev.perstEnds_ember (d : Dev) : (d.perstEnds n t).ember = ((d.raise CAUSE_PORT).resetLog 5 n t).ember :=
  Dev.ember_post_congr (d := d.raise CAUSE_PORT) (e := d.perstBound n) rfl rfl _

end

end

/-- Settles O11: the level of PERST_N is kept while stage A has not released the controller, starts and ends its reset after that, and is driven
in ROOT mode. -/
theorem portResets : Obligations.PortResets := by
  refine ⟨fun s n ha hm hf hp => ?_, fun s n hi ha hm hf hp hh => ?_, fun s n x hi ha hf hh => ?_, fun s n x hi hh h => ?_,
    fun s n t hi ha hm hf ht hh => ?_, fun s n t hi ha hm ho ht => ?_⟩
  · exact .of_eq (f := fun d => (d.perst n.val false).heldRelease) rfl (congrArg Dev.heldRelease (Dev.perst_resets (d := s.fresh) ha hm hf hp))
  · exact .of_calm (f := fun d => (d.perst n.val false).heldRelease) hi rfl
      ((congrArg Dev.heldRelease (Dev.perst_absorbed (d := s.fresh) ha hm hf hp)).trans (Dev.heldRelease_none hh)) ((Dev.Calm.refl _).setPrt _ _)
  · exact .of_calm (f := fun d => (d.perst n.val x).heldRelease) hi rfl
      ((congrArg Dev.heldRelease (Dev.perst_early (d := s.fresh) ha hf x)).trans (Dev.heldRelease_none hh)) ((Dev.Calm.refl _).setPrt _ _)
  · have hnone : s.fresh.perst n.val x = s.fresh := by
      rcases h with ⟨ha, hm⟩ | hf
      · exact Dev.perst_output (d := s.fresh) ha hm x
      · exact Dev.perst_ring (d := s.fresh) hf x
    exact .of_idle (f := fun d => (d.perst n.val x).heldRelease) hi rfl ((congrArg Dev.heldRelease hnone).trans (Dev.heldRelease_none hh))
  · have hrst := Dev.perstEnds_rst (n := n.val) t (s.fresh.perstSeen n.val false)
    have hport : Sparse.get none ((s.fresh.perstSeen n.val false).perstEnds n.val t).rst.port n.val = none := by
      rw [hrst]
      exact Sparse.get_set_self (dflt := none) _ _ none
    have hprt : ((s.fresh.perstSeen n.val false).perstEnds n.val t).prtOf n.val =
        { s.dev.prtOf n.val with perstLow := false, eff := s.dev.boundNow n.val, fwFault := false } := by
      rw [Dev.perstEnds_prt, Dev.perstSeen, Dev.prtOf_setPrt_self]
      rfl
    have hcalm : Dev.Calm s.fresh ((s.fresh.perstSeen n.val false).perstEnds n.val t) := ((Dev.Calm.refl _).setPrt _ _).trans (Dev.Calm.perstEnds t _)
    exact .of_calm (f := fun d => (d.perst n.val true).heldRelease) hi rfl
      ((congrArg Dev.heldRelease (Dev.perst_rise (d := s.fresh) ha hm hf ht)).trans (Dev.heldRelease_none (hrst ▸ hh))) hcalm
      ⟨hport, hprt ▸ rfl, hprt ▸ rfl, hprt ▸ rfl, Dev.perstEnds_cause t _,
        (Dev.perstEnds_ember t _).trans (Dev.ember_post_congr (d := s.dev.raise CAUSE_PORT) (e := (s.fresh.perstSeen n.val false).raise CAUSE_PORT) rfl rfl _), hcalm.mem⟩
  · exact .of_eq (f := fun d => d.perstRelease n.val) rfl (Dev.perstRelease_eq (d := s.fresh) ha hm ho ht)

end Sys2Proof.Machine
end

section
/-! SUPPORT. Loads, stores and atomics of a group (chapter 13). -/

namespace Sys2Proof.Machine
open Sys2Proof.Machine.Reg

/-! ## What the count of a register error leaves -/

section
variable (d : Dev) (i : VI)

theorem Dev.counted_frame : (d.counted i).safe = d.safe ∧ (d.counted i).mem = d.mem ∧ (d.counted i).poison = d.poison ∧ (d.counted i).prt = d.prt
    ∧ (d.counted i).fab = d.fab ∧ (d.counted i).cel = d.cel := by
  unfold Dev.counted
  split <;> exact ⟨rfl, rfl, rfl, rfl, rfl, rfl⟩

/-- A register at another offset in its block of 64 KiB is not the count. -/
theorem Dev.fld_counted_at {f : Fld} {a b : Nat} (hl : f.lo < 64) (h : f.at a b % 0x10000 ≠ 0xE10) : (d.counted i).fld f a b = d.fld f a b :=
  d.fld_counted i fun n => by
    have hn : VX_REG_CE.key n 0 = (0x1000E10 + n * 0x10000 + 0 * 0) * 64 + 0 := rfl
    rw [hn, Fld.key]
    omega

theorem Dev.counted_tcSize : (d.counted i).tcSize = d.tcSize := by
  unfold Dev.tcSize
  rw [d.fld_counted_at i (by decide) (by decide)]

theorem Dev.counted_outside (a n : Nat) : (d.counted i).outsideScratch a n = d.outsideScratch a n := by
  unfold Dev.outsideScratch Dev.tcBase
  rw [Dev.counted_tcSize]

theorem Dev.counted_hbmOfAddr (a : Nat) : (d.counted i).hbmOfAddr a = d.hbmOfAddr a := by
  unfold Dev.hbmOfAddr Dev.granule
  rw [d.fld_counted_at i (f := MAP_HBM_IL) (by decide) (by decide)]

theorem Dev.counted_isSelf (n : Nat) : (d.counted i).isSelf n = d.isSelf n := by
  unfold Dev.isSelf
  rw [d.fld_counted_at i (by decide) (by decide)]

/-- A remote window names one of 512 devices. -/
theorem remote_lt {a dev off : Nat} (h : placeOf a = .remote dev off) : dev < 512 := by
  unfold placeOf at h
  split_ifs at h
  obtain ⟨rfl, -⟩ := Place.remote.inj h
  omega

theorem Dev.counted_member {n : Nat} (h : n < 512) : (d.counted i).member n = d.member n := by
  unfold Dev.member Dev.fbit
  rw [d.fld_counted_at i (by decide) (by simp only [Fld.at, CPL_MEMBER, fRO, Fld.arr]; omega)]

theorem Dev.counted_outPath (n : Nat) : (d.counted i).outPath n = d.outPath n := by
  have hprt : (d.counted i).prtEff PC_MODE n = d.prtEff PC_MODE n := congrArg (Sparse.get PC_MODE.rst · _) (congrArg Prt.eff (Dev.prtOf_congr (d.counted_frame i).2.2.2.1 n))
  unfold Dev.outPath Dev.flag
  rw [hprt, d.fld_counted_at i (by decide) (by simp only [Fld.at, OUT_EN, Reg.prt, fRW]; omega)]

theorem Dev.counted_dieDown (a n : Nat) : (d.counted i).dieDown a n = d.dieDown a n := by
  unfold Dev.dieDown Dev.hbmTouched Dev.fbit
  simp only [Dev.counted_hbmOfAddr, d.fld_counted_at i (f := DIE_HBM_CTL_OK) (a := 0) (b := 0) (by decide) (by decide),
    d.fld_counted_at i (f := DIE_CEL_OK) (a := 0) (b := 0) (by decide) (by decide),
    d.fld_counted_at i (f := DIE_PD_UP) (a := 0) (b := 0) (by decide) (by decide)]

theorem Dev.counted_targetStatus (a n : Nat) : (d.counted i).targetStatus a n = d.targetStatus a n := by
  have hmode (s : Nat) : (d.counted i).sliceScratch s = d.sliceScratch s := by
    unfold Dev.sliceScratch Dev.flag
    rw [d.fld_counted_at i (by decide) (by simp only [Fld.at, CEL_MODE, fLK, Fld.arr]; omega)]
  have hexport (b : Nat) : (d.counted i).flag QC_EXPORT b = d.flag QC_EXPORT b := by
    unfold Dev.flag
    rw [d.fld_counted i fun n => by simp only [Fld.key, Fld.at, QC_EXPORT, VX_REG_CE, fRO, Fld.arr]; omega]
  have hbusy (r : Nat) : (d.counted i).regionBusy r = d.regionBusy r := by
    unfold Dev.regionBusy
    rw [(d.counted_frame i).2.2.2.2.1]
  unfold Dev.targetStatus Dev.tcBase
  simp only [Dev.counted_dieDown, hmode, hexport, hbusy, Dev.counted_outPath, Dev.counted_tcSize]

theorem Dev.counted_stopStatus (a n : Nat) : (d.counted i).stopStatus a n = d.stopStatus a n := by
  unfold Dev.stopStatus
  split
  · rfl
  next dev off hp => rw [Dev.counted_isSelf, Dev.counted_member d i (remote_lt hp)]
  · rfl

theorem Dev.counted_accStatus (a n : Nat) : (d.counted i).accStatus a n = d.accStatus a n := by
  unfold Dev.accStatus Dev.farStatus
  simp only [Dev.counted_stopStatus, Dev.counted_targetStatus, Dev.counted_isSelf]

theorem Dev.counted_localAddr (a : Nat) : (d.counted i).localAddr a = d.localAddr a := by
  unfold Dev.localAddr
  simp only [Dev.counted_isSelf]

theorem Dev.counted_addrHeld (a : Nat) : (d.counted i).addrHeld a = d.addrHeld a := by
  unfold Dev.addrHeld Dev.tileMoves
  rw [Dev.counted_localAddr, (d.counted_frame i).1]

theorem Dev.counted_tcCaches (a : Nat) : (d.counted i).tcCaches a = d.tcCaches a := by
  unfold Dev.tcCaches
  rw [Dev.counted_tcSize]

theorem Dev.counted_transOf (k : Nat) : (d.counted i).transOf k = d.transOf k := by
  unfold Dev.transOf
  rw [(d.counted_frame i).2.2.2.2.2]

theorem Dev.counted_stopOf (t : Nat) : (d.counted i).stopOf t = d.stopOf t := by
  unfold Dev.stopOf Dev.ptile
  rw [(d.counted_frame i).1]

theorem Dev.counted_tileRq (t u k : Nat) : (d.counted i).tileRq t u k = d.tileRq t u k := by
  unfold Dev.tileRq
  rw [Dev.counted_stopOf]

end

/-! ## What an access of tile SRAM leaves -/

/-- From `d` to `e` counters of the tiles have moved, and soft errors were corrected: memory, groups and clocks are as they were. -/
structure Dev.Steady (d e : Dev) : Prop where
  calm : Dev.Calm d e
  poison : e.poison = d.poison
  tile : e.tile = d.tile
  clk : e.clk = d.clk
  freeCtr : e.freeCtr = d.freeCtr
  low : ∀ f : Fld, f.lo < 64 → f.off ≤ 0x428 → e.fld f 0 0 = d.fld f 0 0

namespace Dev.Steady
variable {d e g : Dev}

theorem refl (d : Dev) : Dev.Steady d d := ⟨.refl d, rfl, rfl, rfl, rfl, fun _ _ _ => rfl⟩

theorem trans (h : Dev.Steady d e) (k : Dev.Steady e g) : Dev.Steady d g :=
  ⟨h.calm.trans k.calm, k.poison.trans h.poison, k.tile.trans h.tile, k.clk.trans h.clk, k.freeCtr.trans h.freeCtr,
    fun f hl ho => (k.low f hl ho).trans (h.low f hl ho)⟩

/-- A counter behind the registers of the whole device. -/
theorem inc (h : Dev.Steady d e) {f : Fld} {i : Nat} (n : Nat) (hl : f.lo < 64) (hf : 0x428 < f.off) : Dev.Steady d (e.inc f n i) :=
  h.trans ⟨(Dev.Calm.refl e).inc n (Fld.repState_ne (by omega)), rfl, rfl, rfl, rfl, fun g hg ho => Dev.fld_setF_ne e _ (by
    simp only [Fld.key, Fld.at]
    omega)⟩

theorem softFix (h : Dev.Steady d e) (a n : Nat) : Dev.Steady d (e.softFix a n) :=
  h.trans (List.foldlRecOn (motive := fun g : Dev => Dev.Steady e g) _ _ (.refl e) fun _ hg _ _ =>
    hg.trans ⟨⟨rfl, rfl, rfl, rfl, id, rfl⟩, rfl, rfl, rfl, rfl, fun _ _ _ => rfl⟩)

theorem now (h : Dev.Steady d e) : e.now = d.now := by
  unfold Dev.now Dev.running
  rw [h.low REP_STATE (by decide) (by decide), h.low REP_RT (by decide) (by decide), h.clk]

theorem phys (h : Dev.Steady d e) (a : Nat) : e.phys a = d.phys a := by
  unfold Dev.phys Dev.hbmOfAddr Dev.granule
  rw [h.low MAP_HBM_IL (by decide) (by decide)]

theorem byte (h : Dev.Steady d e) (a : Nat) : e.byte a = d.byte a := by
  unfold Dev.byte
  rw [h.phys, h.calm.mem]

theorem rawRead (h : Dev.Steady d e) (a n : Nat) : e.rawRead a n = d.rawRead a n := by
  unfold Dev.rawRead
  simp only [h.byte]

theorem firstBad (h : Dev.Steady d e) (a n : Nat) : e.firstBad a n = d.firstBad a n := by
  unfold Dev.firstBad
  simp only [h.phys, h.poison]

theorem grp (h : Dev.Steady d e) (t g : Nat) : e.grp t g = d.grp t g := by
  unfold Dev.grp Dev.tileOf
  rw [h.tile]

end Dev.Steady

theorem Dev.steady_counted (d : Dev) (i : VI) : Dev.Steady d (d.counted i) := by
  unfold Dev.counted
  split
  · exact (Dev.Steady.refl d).inc 1 (by decide) (by decide)
  · exact .refl d

theorem Dev.steady_portClash (d : Dev) (t p : Nat) (r : BitVec 8) : Dev.Steady d (d.portClash t p r) :=
  ((Dev.Steady.refl d).inc _ (by decide) (by decide)).inc _ (by decide) (by decide)

theorem Dev.steady_turned (d : Dev) (i : VI) (r : BitVec 8) (m : Nat) : Dev.Steady d (d.turned i r m) := by
  unfold Dev.turned
  split
  · exact d.steady_counted i
  · exact (d.steady_counted i).trans (Dev.steady_portClash _ _ _ _)

section
variable {d : Dev} (t off n p : Nat)

/-- A word of tile SRAM is read with its soft errors counted and corrected. -/
def Dev.sramFixed (d : Dev) (t off n : Nat) : Dev := (d.inc TIL_SRAM_CE (d.softCount (tileAddr t off) n) (d.ptile t)).softFix (tileAddr t off) n

theorem Dev.steady_sramFixed (d : Dev) (t off n : Nat) : Dev.Steady d (d.sramFixed t off n) :=
  ((Dev.Steady.refl d).inc _ (by decide) (by decide)).softFix _ _

theorem Dev.sramRead_good (h : d.badAt t off n = false) : d.sramRead t off n p = (d.rawRead (tileAddr t off) n, false, d.sramFixed t off n) := by
  have hsteady := d.steady_sramFixed t off n
  have hbad : (d.sramFixed t off n).firstBad (tileAddr t off) n = none := (hsteady.firstBad _ _).trans (Option.isSome_eq_false_iff.mp h |> Option.isNone_iff_eq_none.mp)
  rw [← hsteady.rawRead]
  unfold Dev.sramFixed at hbad ⊢
  simp only [Dev.sramRead, hbad]

theorem Dev.sramRead_bad (h : d.badAt t off n = true) : (d.sramRead t off n p).2.1 = true := by
  obtain ⟨k, hk⟩ := Option.isSome_iff_exists.mp h
  have hbad := ((d.steady_sramFixed t off n).firstBad (tileAddr t off) n).trans hk
  unfold Dev.sramFixed at hbad
  simp only [Dev.sramRead, hbad]

end

/-! ## LDL -/

/-- One acting thread. -/
theorem lanesOf_two_pow (l : Fin 32) : lanesOf (2 ^ l.val) = [l.val] := by
  revert l
  decide

/-- A pair of destination registers starts at an even one. -/
theorem VUse.ok_rd_even {u : VUse} {i : VI} (h : u.ok i = true) (h2 : u.rd2 = true) : i.rd.val % 2 = 0 := by
  unfold VUse.ok at h
  simp only [Bool.and_eq_true, Bool.not_eq_true', h2, Bool.true_and, beq_eq_false_iff_ne] at h
  obtain ⟨⟨⟨-, hodd⟩, -⟩, -⟩ := h
  omega

theorem find?_none_of_forall {ls : List Nat} {p : Nat → Bool} (h : ∀ l ∈ ls, p l = false) : ls.find? p = none :=
  List.find?_eq_none.mpr fun l hl => Bool.eq_false_iff.mp (h l hl)

section
variable {d : Dev} {i : VI}

section
variable {w : Nat} (hok : d.offsetsOk i w)
include hok

theorem Dev.aligned_none : (lanesOf (d.iAct i)).find? (fun l => d.iA i l % w != 0) = none :=
  find?_none_of_forall fun l hl => by simp [(hok l hl).1]

theorem Dev.outside_none : (lanesOf (d.iAct i)).find? (fun l => (d.counted i).sramStatus (d.iA i l) w != 0) = none :=
  find?_none_of_forall fun l hl => by simp [Dev.sramStatus, Dev.counted_outside, (hok l hl).2]

end

section
variable {l : Fin 32} {w : Nat} (hl : d.iAct i = 2 ^ l.val)
include hl

theorem Dev.aligned_first (hw : d.iA i l.val % w ≠ 0) : (lanesOf (d.iAct i)).find? (fun l => d.iA i l % w != 0) = some l.val := by
  rw [hl, lanesOf_two_pow]
  simp [hw]

theorem Dev.aligned_one (hw : d.iA i l.val % w = 0) : (lanesOf (d.iAct i)).find? (fun l => d.iA i l % w != 0) = none := by
  rw [hl, lanesOf_two_pow]
  simp [hw]

theorem Dev.outside_first (hw : d.outsideScratch (d.iA i l.val) w = true) :
    (lanesOf (d.iAct i)).find? (fun l => (d.counted i).sramStatus (d.iA i l) w != 0) = some l.val := by
  rw [hl, lanesOf_two_pow]
  simp [Dev.sramStatus, Dev.counted_outside, hw]

end

/-- One thread's read. -/
def Dev.ldlStep (t : Nat) (at_ : Nat → Nat) (w : Nat) (a : List (Nat × Nat) × Option Nat × Dev) (l : Nat) : List (Nat × Nat) × Option Nat × Dev :=
  let x := a.2.2.sramRead t (at_ l) w 1
  (a.1 ++ [(l, leNat x.1)], a.2.1.or (if x.2.1 then some (at_ l) else none), x.2.2)

/-- What the reads of all threads come to. -/
def Dev.ldlEnd (t g rd w : Nat) (x : List (Nat × Nat) × Option Nat × Dev) : Dev :=
  match x.2.1 with
  | some a => x.2.2.park t g 10 0 (some (a, 6, vxOpc 3 0))
  | none => x.2.2.loadAll t g rd w x.1

section
variable {r : BitVec 8} (h : Issues d (ldlUse i) i)
include h

theorem Dev.vxLdl_misaligned {l : Nat} (hf : (lanesOf (d.iAct i)).find? (fun l => d.iA i l % vxWidth i != 0) = some l) :
    d.vxLdl i r = (d.counted i).park i.t.val i.g.val 6 0 (some (d.iA i l, 0, vxOpc 3 0)) := by
  unfold Dev.vxLdl
  rw [Dev.vxGo_issues h, Dev.regCe_of_reads rfl]
  simp only [Dev.counted_grp, Dev.counted_now, hf]

theorem Dev.vxLdl_outside {l : Nat} (ha : (lanesOf (d.iAct i)).find? (fun l => d.iA i l % vxWidth i != 0) = none)
    (hf : (lanesOf (d.iAct i)).find? (fun l => (d.counted i).sramStatus (d.iA i l) (vxWidth i) != 0) = some l) :
    d.vxLdl i r = ((d.counted i).logStatus 1 (tileAddr i.t.val (d.iA i l)) (vxWidth i) (d.stopOf i.t.val)).park i.t.val i.g.val 7 0
      (some (d.iA i l, 1, vxOpc 3 0)) := by
  unfold Dev.vxLdl
  rw [Dev.vxGo_issues h, Dev.regCe_of_reads rfl]
  simp only [Dev.counted_grp, Dev.counted_now, ha, hf, Dev.offsetBad, Dev.counted_stopOf]

theorem Dev.vxLdl_reads (hok : d.offsetsOk i (vxWidth i)) :
    d.vxLdl i r = Dev.ldlEnd i.t.val i.g.val i.rd.val (vxWidth i)
      ((lanesOf (d.iAct i)).foldl (Dev.ldlStep i.t.val (d.iA i) (vxWidth i)) ([], none, d.turned i r (d.iAct i))) := by
  unfold Dev.vxLdl
  rw [Dev.vxGo_issues h, Dev.regCe_of_reads rfl]
  simp only [Dev.counted_grp, Dev.counted_now, Dev.aligned_none hok, Dev.outside_none hok]
  rfl

end

/-- Reads of sound words. -/
theorem Dev.foldl_ldlStep {t w : Nat} {at_ : Nat → Nat} (ls : List Nat) (vs : List (Nat × Nat)) (b : Option Nat) (d : Dev)
    (h : ∀ l ∈ ls, d.badAt t (at_ l) w = false) :
    ls.foldl (Dev.ldlStep t at_ w) (vs, b, d) = (vs ++ ls.map (fun l => (l, leNat (d.rawRead (tileAddr t (at_ l)) w))), b,
      ls.foldl (fun (d : Dev) l => (d.sramRead t (at_ l) w 1).2.2) d) := by
  induction ls generalizing vs b d with
  | nil => simp
  | cons l ls ih =>
    have hread := Dev.sramRead_good t (at_ l) w 1 (h l List.mem_cons_self)
    have hsteady := d.steady_sramFixed t (at_ l) w
    have hrest (k : Nat) (hk : k ∈ ls) : (d.sramFixed t (at_ l) w).badAt t (at_ k) w = false := by
      unfold Dev.badAt
      rw [hsteady.firstBad]
      exact h k (List.mem_cons_of_mem _ hk)
    have hstep : Dev.ldlStep t at_ w (vs, b, d) l = (vs ++ [(l, leNat (d.rawRead (tileAddr t (at_ l)) w))], b, d.sramFixed t (at_ l) w) := by
      simp [Dev.ldlStep, hread]
    rw [List.foldl_cons, List.foldl_cons, hstep, ih _ _ _ hrest, hread, List.map_cons, List.append_assoc]
    simp only [hsteady.rawRead, List.cons_append, List.nil_append]

end

/-! ## What a load leaves in RD -/

section
variable {d : Dev} {t g : Nat}

/-- The value of one thread. -/
theorem Dev.loadAll_one {z : Group} {e : Dev} {l rd w v : Nat} (h : d.loadPut (d.grp t g) l rd w v = (z, e)) :
    d.loadAll t g rd w [(l, v)] = (e.setGrp t g { z with st := 1, wait := .none }).vxNext t g := by
  unfold Dev.loadAll
  rw [List.foldl_cons, List.foldl_nil, h]

theorem Dev.reg_loaded (e : Dev) (z : Group) (t g k h ts l q : Nat) :
    (((e.setGrp t g { z with st := 1, wait := .none }).vxNext t g).grp t g).reg k h ts l q = z.reg k h ts l q := by
  unfold Dev.vxNext
  rw [Dev.grp_setGrp_self, Group.reg_goTo, Dev.grp_setGrp_self]
  rfl

theorem Dev.Calm.loaded (e : Dev) (z : Group) (t g : Nat) : Dev.Calm e ((e.setGrp t g { z with st := 1, wait := .none }).vxNext t g) :=
  ((Dev.Calm.refl e).setGrp _ _ _).vxNext _ _

end

theorem Dev.Calm.draw (d : Dev) : Dev.Calm d d.draw.2 := ⟨rfl, rfl, rfl, rfl, id, rfl⟩

/-- Eight bytes are two times four. -/
theorem Dev.rawRead_eight (d : Dev) (a : Nat) : leNat (d.rawRead a 8) = leNat (d.rawRead a 4) + 2 ^ 32 * leNat (d.rawRead (a + 4) 4) := by
  have hsplit : d.rawRead a 8 = d.rawRead a 4 ++ d.rawRead (a + 4) 4 := rfl
  have hlen : (d.rawRead a 4).length = 4 := rfl
  rw [hsplit, leNat_append, hlen]

theorem Dev.leNat_rawRead_lt (d : Dev) (a n : Nat) : leNat (d.rawRead a n) < 2 ^ (8 * n) := by
  have h := leNat_lt (d.rawRead a n)
  rwa [show (d.rawRead a n).length = n by simp [Dev.rawRead, upTo]] at h

/-! ## STL -/

/-- A write of tile SRAM takes no time. -/
theorem Dev.now_sramWrite (d : Dev) (t off : Nat) (w : WrBytes) : (d.sramWrite t off w).now = d.now := by
  obtain ⟨m, p, q, h⟩ := Dev.memOnly_rawWrite d (tileAddr t off) w
  unfold Dev.sramWrite
  rw [h]
  rfl

/-- Steps that take no time all see the time at their begin. -/
theorem Dev.foldl_now {st : Dev → Nat → WrBytes → Dev} {F : Nat → Nat → WrBytes} (hst : ∀ d l w, (st d l w).now = d.now) {ts : Nat} (ls : List Nat)
    (d : Dev) (h : d.now = ts) : ls.foldl (fun (e : Dev) l => st e l (F e.now l)) d = ls.foldl (fun (e : Dev) l => st e l (F ts l)) d := by
  induction ls generalizing d with
  | nil => rfl
  | cons l ls ih =>
    rw [List.foldl_cons, List.foldl_cons, h]
    exact ih _ ((hst d l (F ts l)).trans h)

section
variable {d : Dev} {i : VI} {r : BitVec 8} (h : Issues d (stlUse i) i)
include h

theorem Dev.vxStl_misaligned {l : Nat} (hf : (lanesOf (d.iAct i)).find? (fun l => d.iA i l % vxWidth i != 0) = some l) :
    d.vxStl i r = (d.counted i).park i.t.val i.g.val 6 0 (some (d.iA i l, 0, vxOpc 3 1)) := by
  unfold Dev.vxStl
  rw [Dev.vxGo_issues h, Dev.regCe_of_reads rfl]
  simp only [Dev.counted_grp, Dev.counted_now, hf]

theorem Dev.vxStl_writes (hok : d.offsetsOk i (vxWidth i)) :
    d.vxStl i r = ((lanesOf (d.iAct i)).foldl (fun (e : Dev) l => e.sramWrite i.t.val (d.iA i l) (allOn (leBytes (vxWidth i) (viStore i (d.iGrp i) d.now l))))
      (d.turned i r (d.iAct i))).vxNext i.t.val i.g.val := by
  have hnow : (d.turned i r (d.iAct i)).now = d.now := (d.steady_turned i r _).now
  unfold Dev.vxStl
  rw [Dev.vxGo_issues h, Dev.regCe_of_reads rfl]
  simp only [Dev.counted_grp, Dev.counted_now, Dev.aligned_none hok, Dev.outside_none hok]
  exact congrArg (Dev.vxNext · i.t.val i.g.val) (Dev.foldl_now
    (st := fun e l w => e.sramWrite i.t.val (d.iA i l) w) (F := fun ts l => allOn (leBytes (vxWidth i) (viStore i (d.iGrp i) ts l)))
    (fun e l w => Dev.now_sramWrite e i.t.val (d.iA i l) w) _ _ hnow)

end

/-! ### The bytes of a store -/

/-- Behind HBM an address is its own place in the store, and no other's. -/
theorem Dev.phys_eq {d : Dev} {a k : Nat} (ha : hbmEnd ≤ a) (h : d.phys k = d.phys a) : k = a := by
  have hpa : d.phys a = a := if_neg (by omega)
  have hlow (hk : k < hbmEnd) : d.phys k < hbmEnd := by
    have hsize : hbmEnd = 16 * hbmSize := rfl
    have hval : hbmSize = 0x180000000 := rfl
    rw [Dev.phys, if_pos hk]
    unfold Dev.hbmOfAddr Dev.granule
    rw [hval]
    dsimp only
    split <;> simp <;> omega
  by_cases hk : k < hbmEnd
  · have := hlow hk
    omega
  · have hpk : d.phys k = k := if_neg hk
    omega

theorem Dev.byte_putBytes {k : Nat} (bs : List Byte) (d : Dev) (a : Nat) (ha : hbmEnd ≤ a) :
    (d.putBytes a (allOn bs)).byte k = if a ≤ k ∧ k < a + bs.length then bs.getD (k - a) 0 else d.byte k := by
  induction bs generalizing d a with
  | nil => exact (if_neg (by simp)).symm
  | cons b bs ih =>
    have hput : d.putBytes a (allOn (b :: bs)) = (d.putByte a b).putBytes (a + 1) (allOn bs) := rfl
    rw [hput, ih _ _ (by omega), List.length_cons]
    by_cases hk : k = a
    · subst hk
      rw [if_neg (by omega), if_pos (by omega), Dev.byte_putByte_self, Nat.sub_self]
      rfl
    · rw [Dev.byte_putByte_ne d b fun hp => hk (Dev.phys_eq ha hp)]
      by_cases hin : a + 1 ≤ k ∧ k < a + 1 + bs.length
      · rw [if_pos hin, if_pos (by omega), show k - a = k - (a + 1) + 1 by omega]
        rfl
      · rw [if_neg hin, if_neg (by omega)]

/-! ## Atomics -/

section
variable {d : Dev} {i : VI} {l : Fin 32} {k : Nat} {f : Nat → Nat → Nat}

theorem Dev.vxAtomic_one (h : Issues d atUse i) (hl : d.iAct i = 2 ^ l.val) (hok : d.offsetsOk i 4) (hgood : d.offsetsGood i 4) :
    d.vxAtomic i k f = ((((d.counted i).sramWrite i.t.val (d.iA i l.val)
      (allOn (leBytes 4 (f (d.sramNat i.t.val (d.iA i l.val) 4) (d.iB i l.val))))).setGrp i.t.val i.g.val
        ((d.iGrp i).put l.val i.rd.val (d.sramNat i.t.val (d.iA i l.val) 4))).vxNext i.t.val i.g.val) := by
  have hsteady := d.steady_counted i
  have hnat : (d.counted i).sramNat i.t.val (d.iA i l.val) 4 = d.sramNat i.t.val (d.iA i l.val) 4 := congrArg leNat (hsteady.rawRead _ _)
  have hbad : (lanesOf (d.iAct i)).find? (fun l => (d.counted i).badAt i.t.val (d.iA i l) 4) = none :=
    find?_none_of_forall fun l hl => (congrArg Option.isSome (hsteady.firstBad _ _)).trans (hgood l hl)
  unfold Dev.vxAtomic
  rw [Dev.vxGo_issues h, Dev.regCe_of_reads rfl]
  simp only [Dev.counted_grp, Dev.counted_now, Dev.aligned_none hok, Dev.outside_none hok, hbad]
  rw [hl, lanesOf_two_pow]
  simp only [List.foldl_cons, List.foldl_nil, Dev.counted_now, hnat]

end

/-! ## LDD and STD -/

section
variable {d : Dev} {i : VI} {l : Fin 32}

/-- Neither a handover nor a transaction holds the access. -/
theorem Dev.addrFree_held (hf : d.addrFree (d.iAddr i l.val)) :
    (d.addrHeld (d.iAddr i l.val) || (d.tcCaches (d.iAddr i l.val) && (d.transOf (d.iAddr i l.val / 256)).isSome)) = false := by
  obtain ⟨hheld, htc⟩ := hf
  rw [hheld, Bool.false_or, Bool.eq_false_iff, ne_eq, Bool.and_eq_true]
  exact htc

theorem Dev.slowPlace_of_tcCaches {a : Nat} (h : d.tcCaches a = true) : Dev.slowPlace a = false := by
  unfold Dev.tcCaches at h
  unfold Dev.slowPlace
  cases hp : placeOf a <;> simp [hp] at h ⊢

theorem Dev.stopStatus_of_accStatus {a n : Nat} (h : d.accStatus a n = 0) : d.stopStatus a n = 0 := by
  by_contra hs
  exact hs ((if_pos hs).symm.trans h)

section
variable (h : Issues d (lddUse i) i)
include h

theorem Dev.vxLdd_remote (hl : d.iAct i = 2 ^ l.val) (hw : d.iAddr i l.val % vxWidth i = 0) (hr : inRemoteWindow (d.iAddr i l.val) = true) :
    d.vxLdd i = (d.counted i).park i.t.val i.g.val 9 0 (some (d.iAddr i l.val, 0, vxOpc 3 2)) := by
  unfold Dev.vxLdd
  rw [Dev.vxGo_issues h, Dev.regCe_of_reads rfl, hl, lanesOf_two_pow]
  simp [Dev.counted_grp, Dev.counted_now, hw, hr]

variable (ho : d.oneAddr i l.val)
include ho

theorem Dev.vxLdd_status (hs : d.accStatus (d.iAddr i l.val) (vxWidth i) ≠ 0) :
    d.vxLdd i = (((d.counted i).logStatus (d.accStatus (d.iAddr i l.val) (vxWidth i)) (d.iAddr i l.val) (vxWidth i) (d.stopOf i.t.val)).park i.t.val i.g.val 7 0
      (some (d.iAddr i l.val, d.accStatus (d.iAddr i l.val) (vxWidth i), vxOpc 3 2))) := by
  obtain ⟨hl, hw, hr⟩ := ho
  unfold Dev.vxLdd
  rw [Dev.vxGo_issues h, Dev.regCe_of_reads rfl, hl, lanesOf_two_pow]
  simp [Dev.counted_grp, Dev.counted_now, Dev.counted_accStatus, Dev.counted_stopOf, hw, hr, hs]

variable (hs : d.accStatus (d.iAddr i l.val) (vxWidth i) = 0)
include hs

theorem Dev.vxLdd_held (hf : ¬ d.addrFree (d.iAddr i l.val)) : d.vxLdd i = d.counted i := by
  obtain ⟨hl, hw, hr⟩ := ho
  have hfree : (d.addrHeld (d.iAddr i l.val) || (d.tcCaches (d.iAddr i l.val) && (d.transOf (d.iAddr i l.val / 256)).isSome)) = true := by
    rw [Bool.or_eq_true, Bool.and_eq_true]
    by_contra hn
    exact hf ⟨Bool.eq_false_iff.mpr fun hh => hn (.inl hh), fun hh => hn (.inr hh)⟩
  unfold Dev.vxLdd
  rw [Dev.vxGo_issues h, Dev.regCe_of_reads rfl, hl, lanesOf_two_pow]
  simp only [Dev.counted_grp, Dev.counted_now, Dev.counted_accStatus, Dev.counted_addrHeld, Dev.counted_tcCaches, Dev.counted_transOf, List.find?_cons, hw, hr, hs,
    bne_self_eq_false, List.find?_nil, List.any_cons, List.any_nil, hfree, Bool.or_false, ↓reduceIte]

section
variable (hf : d.addrFree (d.iAddr i l.val))
include hf

theorem Dev.vxLdd_direct (htc : d.tcCaches (d.iAddr i l.val) = false) (hp : Dev.slowPlace (d.iAddr i l.val) = false) {bs : List Byte} {e : Dev}
    (hx : (d.counted i).accRead (d.stopOf i.t.val) (d.iAddr i l.val) (vxWidth i) = (0, bs, e)) :
    d.vxLdd i = e.loadAll i.t.val i.g.val i.rd.val (vxWidth i) [(l.val, leNat bs)] := by
  have hfree := Dev.addrFree_held hf
  rw [htc] at hfree
  obtain ⟨hl, hw, hr⟩ := ho
  unfold Dev.vxLdd
  rw [Dev.vxGo_issues h, Dev.regCe_of_reads rfl, hl, lanesOf_two_pow]
  simp only [Dev.counted_grp, Dev.counted_now, Dev.counted_accStatus, Dev.counted_addrHeld, Dev.counted_tcCaches, Dev.counted_transOf,
    Dev.counted_stopOf, List.find?_cons, hw, hr, hs, bne_self_eq_false, List.find?_nil, List.any_cons, List.any_nil, hfree, Bool.or_false, ↓reduceIte,
    Bool.false_eq_true, List.foldl_cons, List.foldl_nil, hp, htc, hx, List.filter_cons, List.filter_nil, List.isEmpty_nil, List.nil_append, ne_eq,
    not_true_eq_false, Option.or_self]

theorem Dev.vxLdd_cached (htc : d.tcCaches (d.iAddr i l.val) = true) {v : Nat} {e : Dev}
    (hx : (d.counted i).tcLoad i.t.val (d.localAddr (d.iAddr i l.val)) (vxWidth i) = (v, false, e)) :
    d.vxLdd i = e.loadAll i.t.val i.g.val i.rd.val (vxWidth i) [(l.val, v)] := by
  have hfree := Dev.addrFree_held hf
  rw [htc] at hfree
  have hp : Dev.slowPlace (d.iAddr i l.val) = false := Dev.slowPlace_of_tcCaches htc
  obtain ⟨hl, hw, hr⟩ := ho
  unfold Dev.vxLdd
  rw [Dev.vxGo_issues h, Dev.regCe_of_reads rfl, hl, lanesOf_two_pow]
  simp only [Dev.counted_grp, Dev.counted_now, Dev.counted_accStatus, Dev.counted_addrHeld, Dev.counted_tcCaches, Dev.counted_transOf,
    Dev.counted_localAddr, List.find?_cons, hw, hr, hs, bne_self_eq_false, List.find?_nil, List.any_cons, List.any_nil, hfree, Bool.or_false, ↓reduceIte,
    Bool.false_eq_true, List.foldl_cons, List.foldl_nil, hp, htc, hx, List.filter_cons, List.filter_nil, List.isEmpty_nil, List.nil_append, Option.or_self]

theorem Dev.vxLdd_slow (hp : Dev.slowPlace (d.iAddr i l.val) = true) :
    d.vxLdd i = ((d.counted i).setGrp i.t.val i.g.val { d.iGrp i with st := 2, wait := .load i.rd.val (vxWidth i) [(l.val, d.iAddr i l.val)] [] }).request
      (d.tileRq i.t.val 0 (i.g.val * 32 + l.val)) (d.iAddr i l.val) (vxWidth i) none false false none := by
  have hfree := Dev.addrFree_held hf
  obtain ⟨hl, hw, hr⟩ := ho
  have hrq (g : Group) : ((d.counted i).setGrp i.t.val i.g.val g).tileRq i.t.val 0 (i.g.val * 32 + l.val) = d.tileRq i.t.val 0 (i.g.val * 32 + l.val) :=
    d.counted_tileRq i _ _ _
  unfold Dev.vxLdd
  rw [Dev.vxGo_issues h, Dev.regCe_of_reads rfl, hl, lanesOf_two_pow]
  simp only [Dev.counted_grp, Dev.counted_now, Dev.counted_accStatus, Dev.counted_addrHeld, Dev.counted_tcCaches, Dev.counted_transOf,
    List.find?_cons, hw, hr, hs, bne_self_eq_false, List.find?_nil, List.any_cons, List.any_nil, hfree, Bool.or_false, ↓reduceIte,
    Bool.false_eq_true, List.foldl_cons, List.foldl_nil, hp, List.filter_cons, List.filter_nil, List.isEmpty_cons, List.map_cons, List.map_nil, hrq]

end

end

/-! ### STD -/

section
variable (h : Issues d (stdUse i) i) (ho : d.oneAddr i l.val)
include h ho

theorem Dev.vxStd_stop (hs : d.stopStatus (d.iAddr i l.val) (vxWidth i) ≠ 0) :
    d.vxStd i = (((d.counted i).logStatus (d.stopStatus (d.iAddr i l.val) (vxWidth i)) (d.iAddr i l.val) (vxWidth i) (d.stopOf i.t.val)).park i.t.val i.g.val 7 0
      (some (d.iAddr i l.val, d.stopStatus (d.iAddr i l.val) (vxWidth i), vxOpc 3 3))) := by
  obtain ⟨hl, hw, hr⟩ := ho
  unfold Dev.vxStd
  rw [Dev.vxGo_issues h, Dev.regCe_of_reads rfl, hl, lanesOf_two_pow]
  simp [Dev.counted_grp, Dev.counted_now, Dev.counted_stopStatus, Dev.counted_stopOf, hw, hr, hs]

variable (hf : d.addrFree (d.iAddr i l.val))
include hf

/-- The effect of one thread's store. -/
theorem Dev.vxStd_far (h0 : d.stopStatus (d.iAddr i l.val) (vxWidth i) = 0) (hs : d.accStatus (d.iAddr i l.val) (vxWidth i) ≠ 0) :
    d.vxStd i = (((d.counted i).logStatus (d.accStatus (d.iAddr i l.val) (vxWidth i)) (d.iAddr i l.val) (vxWidth i) (d.stopOf i.t.val)).storeFailed
      i.t.val i.g.val (d.iAddr i l.val) (d.accStatus (d.iAddr i l.val) (vxWidth i))).vxNext i.t.val i.g.val := by
  have hfree := Dev.addrFree_held hf
  obtain ⟨hl, hw, hr⟩ := ho
  unfold Dev.vxStd
  rw [Dev.vxGo_issues h, Dev.regCe_of_reads rfl, hl, lanesOf_two_pow]
  simp only [Dev.counted_grp, Dev.counted_now, Dev.counted_accStatus, Dev.counted_stopStatus, Dev.counted_addrHeld, Dev.counted_tcCaches, Dev.counted_transOf,
    Dev.counted_stopOf, List.find?_cons, hw, hr, h0, bne_self_eq_false, List.find?_nil, List.any_cons, List.any_nil, hfree, Bool.or_false, ↓reduceIte,
    Bool.false_eq_true, List.foldl_cons, List.foldl_nil, if_pos hs]

section
variable (hs : d.accStatus (d.iAddr i l.val) (vxWidth i) = 0)
include hs

theorem Dev.vxStd_slow (hp : Dev.slowPlace (d.iAddr i l.val) = true) :
    d.vxStd i = ((((d.counted i).setGrp i.t.val i.g.val { d.iGrp i with stores := (d.iGrp i).stores ++ [(512 + i.g.val * 32 + l.val, d.iAddr i l.val)] }).request
      (d.tileRq i.t.val 0 (512 + i.g.val * 32 + l.val)) (d.iAddr i l.val) (vxWidth i)
      (some (allOn (leBytes (vxWidth i) (viStore i (d.iGrp i) d.now l.val)))) false false none).vxNext i.t.val i.g.val) := by
  have hfree := Dev.addrFree_held hf
  have h0 := Dev.stopStatus_of_accStatus hs
  obtain ⟨hl, hw, hr⟩ := ho
  unfold Dev.vxStd
  rw [Dev.vxGo_issues h, Dev.regCe_of_reads rfl, hl, lanesOf_two_pow]
  simp only [Dev.counted_grp, Dev.counted_now, Dev.counted_accStatus, Dev.counted_stopStatus, Dev.counted_addrHeld, Dev.counted_tcCaches, Dev.counted_transOf,
    List.find?_cons, hw, hr, h0, hs, bne_self_eq_false, List.find?_nil, List.any_cons, List.any_nil, hfree, Bool.or_false, ↓reduceIte,
    Bool.false_eq_true, List.foldl_cons, List.foldl_nil, ne_eq, not_true_eq_false, hp, Dev.counted_tileRq]

theorem Dev.vxStd_cached (htc : d.tcCaches (d.iAddr i l.val) = true) :
    d.vxStd i = ((d.counted i).tcStore i.t.val (d.localAddr (d.iAddr i l.val)) (vxWidth i) (viStore i (d.iGrp i) d.now l.val)).vxNext i.t.val i.g.val := by
  have hfree := Dev.addrFree_held hf
  rw [htc] at hfree
  have h0 := Dev.stopStatus_of_accStatus hs
  have hp : Dev.slowPlace (d.iAddr i l.val) = false := Dev.slowPlace_of_tcCaches htc
  obtain ⟨hl, hw, hr⟩ := ho
  unfold Dev.vxStd
  rw [Dev.vxGo_issues h, Dev.regCe_of_reads rfl, hl, lanesOf_two_pow]
  simp only [Dev.counted_grp, Dev.counted_now, Dev.counted_accStatus, Dev.counted_stopStatus, Dev.counted_addrHeld, Dev.counted_tcCaches, Dev.counted_transOf,
    Dev.counted_localAddr, List.find?_cons, hw, hr, h0, hs, bne_self_eq_false, List.find?_nil, List.any_cons, List.any_nil, hfree, Bool.or_false, ↓reduceIte,
    Bool.false_eq_true, List.foldl_cons, List.foldl_nil, ne_eq, not_true_eq_false, hp, htc]

theorem Dev.vxStd_direct (htc : d.tcCaches (d.iAddr i l.val) = false) (hp : Dev.slowPlace (d.iAddr i l.val) = false) {e : Dev}
    (hx : (d.counted i).accWrite (d.stopOf i.t.val) (d.iAddr i l.val) (allOn (leBytes (vxWidth i) (viStore i (d.iGrp i) d.now l.val))) = (0, e)) :
    d.vxStd i = e.vxNext i.t.val i.g.val := by
  have hfree := Dev.addrFree_held hf
  rw [htc] at hfree
  have h0 := Dev.stopStatus_of_accStatus hs
  obtain ⟨hl, hw, hr⟩ := ho
  unfold Dev.vxStd
  rw [Dev.vxGo_issues h, Dev.regCe_of_reads rfl, hl, lanesOf_two_pow]
  simp only [Dev.counted_grp, Dev.counted_now, Dev.counted_accStatus, Dev.counted_stopStatus, Dev.counted_addrHeld, Dev.counted_tcCaches, Dev.counted_transOf,
    Dev.counted_stopOf, List.find?_cons, hw, hr, h0, hs, bne_self_eq_false, List.find?_nil, List.any_cons, List.any_nil, hfree, Bool.or_false, ↓reduceIte,
    Bool.false_eq_true, List.foldl_cons, List.foldl_nil, ne_eq, not_true_eq_false, hp, htc, hx]

end

end

end

/-! ## The clauses -/

/-- What each of two ports loses. -/
theorem portLost (a b ts : Nat) :
    ([a, b].countP fun q => decide (portTurn ts q < portTurn ts a)) = (if portTurn ts b < portTurn ts a then 1 else 0)
      ∧ ([a, b].countP fun q => decide (portTurn ts q < portTurn ts b)) = (if portTurn ts a < portTurn ts b then 1 else 0) := by
  simp [List.countP_cons]

/-- Together they lose one cycle: their turns differ. -/
theorem portLost_sum {a b : Nat} (ts : Nat) (ha : a < 8) (hb : b < 8) (h : a ≠ b) :
    ([a, b].countP fun q => decide (portTurn ts q < portTurn ts a)) + ([a, b].countP fun q => decide (portTurn ts q < portTurn ts b)) = 1 := by
  rw [(portLost a b ts).1, (portLost a b ts).2]
  unfold portTurn
  split <;> split <;> omega

/-- Port 1 and one rival: one of them loses a cycle. -/
theorem Dev.portClash_rival (d : Dev) (t : Nat) (p : Fin 8) : d.portClash t 1 (2 ^ p.val) =
    (d.inc TIL_CONFLICT (if p.val = 1 then 0 else 1) (d.ptile t)).inc MX_STALL
      (if p.val = 0 ∧ (1 + d.now) % 8 < (0 + d.now) % 8 then 1 else 0) (d.ptile t) := by
  have hports : ((upTo 8).filter fun q => q == 1 || (2 ^ p.val : BitVec 8).getLsbD q) =
      if p.val = 0 then [0, 1] else if p.val = 1 then [1] else [1, p.val] := by
    revert p
    decide
  have hlt := p.isLt
  unfold Dev.portClash
  simp only [hports]
  by_cases h0 : p.val = 0
  · have hsum := portLost_sum (a := 0) (b := 1) d.now (by decide) (by decide) (by decide)
    rw [(portLost 0 1 d.now).1] at hsum
    simp only [h0, ↓reduceIte, List.map_cons, List.map_nil, List.sum_cons, List.sum_nil, Nat.add_zero, hsum, List.contains_cons, beq_self_eq_true,
      Bool.true_or, (portLost 0 1 d.now).1, true_and, zero_ne_one]
    rfl
  · by_cases h1 : p.val = 1
    · simp [h1]
    · have hsum := portLost_sum (a := 1) (b := p.val) d.now (by decide) hlt (Ne.symm h1)
      have hzero : (0 == p.val) = false := beq_eq_false_iff_ne.mpr (Ne.symm h0)
      simp only [h0, h1, ↓reduceIte, List.map_cons, List.map_nil, List.sum_cons, List.sum_nil, Nat.add_zero, hsum, List.contains_cons, List.contains_nil, hzero,
        beq_eq_false_iff_ne.mpr (zero_ne_one (α := Nat)), Bool.or_false, Bool.false_eq_true, false_and]

section
variable {s : State} {i : VI} {r : BitVec 8}

/-- Every word sound. -/
theorem Dev.vxLdl_sound {d : Dev} (h : Issues d (ldlUse i) i) (hok : d.offsetsOk i (vxWidth i)) (hg : d.offsetsGood i (vxWidth i)) :
    d.vxLdl i r = ((lanesOf (d.iAct i)).foldl (fun (e : Dev) l => (e.sramRead i.t.val (d.iA i l) (vxWidth i) 1).2.2) (d.turned i r (d.iAct i))).loadAll
      i.t.val i.g.val i.rd.val (vxWidth i) ((lanesOf (d.iAct i)).map fun l => (l, leNat (d.rawRead (tileAddr i.t.val (d.iA i l)) (vxWidth i)))) := by
  have hturn := d.steady_turned i r (d.iAct i)
  have hgood : ∀ l ∈ lanesOf (d.iAct i), (d.turned i r (d.iAct i)).badAt i.t.val (d.iA i l) (vxWidth i) = false :=
    fun l hl => (congrArg Option.isSome (hturn.firstBad _ _)).trans (hg l hl)
  rw [Dev.vxLdl_reads h hok, Dev.foldl_ldlStep _ _ _ _ hgood]
  simp only [hturn.rawRead, List.nil_append]
  rfl

/-- A load of one thread ends with its value in the registers. -/
theorem Dev.vxLdl_one {d : Dev} {l : Fin 32} (h : Issues d (ldlUse i) i) (hl : d.iAct i = 2 ^ l.val) (hok : d.offsetsOk i (vxWidth i))
    (hg : d.offsetsGood i (vxWidth i)) : ∃ e, Dev.Steady d e ∧
      d.vxLdl i r = e.loadAll i.t.val i.g.val i.rd.val (vxWidth i) [(l.val, leNat (d.rawRead (tileAddr i.t.val (d.iA i l.val)) (vxWidth i)))] := by
  have hturn := d.steady_turned i r (d.iAct i)
  have hbad : (d.turned i r (d.iAct i)).badAt i.t.val (d.iA i l.val) (vxWidth i) = false :=
    (congrArg Option.isSome (hturn.firstBad _ _)).trans (hg l.val (by rw [hl, lanesOf_two_pow]; exact List.mem_singleton_self _))
  refine ⟨(d.turned i r (d.iAct i)).sramFixed i.t.val (d.iA i l.val) (vxWidth i), hturn.trans (Dev.steady_sramFixed _ _ _ _), ?_⟩
  rw [Dev.vxLdl_reads h hok, ← hturn.rawRead]
  generalize d.turned i r (d.iAct i) = e at hbad ⊢
  rw [hl, lanesOf_two_pow, Dev.foldl_ldlStep _ _ _ _ (by simpa using hbad), List.foldl_cons, List.foldl_nil, Dev.sramRead_good _ _ _ _ hbad]
  rfl

theorem Dev.vxLdl_poisoned {d : Dev} {l : Fin 32} (h : Issues d (ldlUse i) i) (hl : d.iAct i = 2 ^ l.val) (hok : d.offsetsOk i (vxWidth i))
    (hb : d.badAt i.t.val (d.iA i l.val) (vxWidth i) = true) : d.vxLdl i r =
      ((d.turned i r (d.iAct i)).sramRead i.t.val (d.iA i l.val) (vxWidth i) 1).2.2.park i.t.val i.g.val 10 0 (some (d.iA i l.val, 6, vxOpc 3 0)) := by
  have hbad : (d.turned i r (d.iAct i)).badAt i.t.val (d.iA i l.val) (vxWidth i) = true :=
    (congrArg Option.isSome ((d.steady_turned i r (d.iAct i)).firstBad _ _)).trans hb
  rw [Dev.vxLdl_reads h hok]
  generalize d.turned i r (d.iAct i) = e at hbad ⊢
  have hread := Dev.sramRead_bad i.t.val (d.iA i l.val) (vxWidth i) 1 hbad
  rw [hl, lanesOf_two_pow]
  simp only [List.foldl_cons, List.foldl_nil, Dev.ldlEnd, Dev.ldlStep, hread, Option.none_or, ↓reduceIte]

/-- Each width by its own rule. -/
theorem Dev.loadPut_four (d : Dev) (y : Group) (l rd v : Nat) : d.loadPut y l rd 4 v = (y.put l rd v, d) := rfl
theorem Dev.loadPut_eight (d : Dev) (y : Group) (l rd v : Nat) : d.loadPut y l rd 8 v = ((y.put l rd v).put l (rd + 1) (v / 2 ^ 32), d) := rfl
theorem Dev.loadPut_small (d : Dev) (y : Group) (l rd v : Nat) {w : Nat} (hw : w < 4) :
    d.loadPut y l rd w v = (y.put l rd (v % 2 ^ (8 * w) + d.draw.1 * 2 ^ (8 * w)), d.draw.2) :=
  (if_neg (by omega)).trans (if_neg (by omega))

end

/-! ### A store that stands in memory -/

section
variable {s : State} {i : VI} {r : BitVec 8} {l : Fin 32}

/-- A word stored in tile SRAM. -/
theorem Dev.byte_sramWrite (d : Dev) (t off : Nat) (bs : List Byte) (k : Nat) : (d.sramWrite t off (allOn bs)).byte k =
    if tileAddr t off ≤ k ∧ k < tileAddr t off + bs.length then bs.getD (k - tileAddr t off) 0 else d.byte k := by
  obtain ⟨m, p, q, hw⟩ := Dev.memOnly_rawWrite d (tileAddr t off) (allOn bs)
  obtain ⟨m', p', q', hb⟩ := Dev.memOnly_putBytes d (tileAddr t off) (allOn bs)
  have hphys : (d.rawWrite (tileAddr t off) (allOn bs)).phys k = (d.putBytes (tileAddr t off) (allOn bs)).phys k := by
    rw [hw, hb]
    rfl
  rw [← Dev.byte_putBytes bs d (tileAddr t off) (by unfold tileAddr hbmEnd; omega)]
  unfold Dev.sramWrite Dev.byte
  rw [hphys, Dev.rawWrite_mem]

theorem Dev.rawRead_sramWrite (d : Dev) (t off : Nat) {bs : List Byte} {n : Nat} (hn : bs.length = n) :
    (d.sramWrite t off (allOn bs)).rawRead (tileAddr t off) n = bs := by
  refine List.ext_getElem (by simp [Dev.rawRead, upTo, hn]) fun k hk hk' => ?_
  simp only [Dev.rawRead, upTo, List.getElem_map, List.getElem_range]
  rw [Dev.byte_sramWrite, if_pos (by omega), Nat.add_sub_cancel_left, List.getD_eq_getElem _ _ hk']

theorem Dev.byte_vxNext (d : Dev) (t g a : Nat) : (d.vxNext t g).byte a = d.byte a := rfl
theorem Dev.rawRead_vxNext (d : Dev) (t g a n : Nat) : (d.vxNext t g).rawRead a n = d.rawRead a n := rfl

theorem Dev.stored_word {d b : Dev} (h : Dev.Steady d b) (t g off v : Nat) :
    ((b.sramWrite t off (allOn (leBytes 4 v))).vxNext t g).rawRead (tileAddr t off) 4 = leBytes 4 v
      ∧ ∀ a : Nat, (a < tileAddr t off ∨ tileAddr t off + 4 ≤ a) → ((b.sramWrite t off (allOn (leBytes 4 v))).vxNext t g).byte a = d.byte a := by
  rw [Dev.rawRead_vxNext]
  refine ⟨Dev.rawRead_sramWrite b t off (length_leBytes 4 v), fun a ha => ?_⟩
  rw [Dev.byte_vxNext]
  refine (Dev.byte_sramWrite b t off (leBytes 4 v) a).trans ((if_neg ?_).trans (h.byte a))
  rw [length_leBytes]
  omega

/-- A store of one thread runs to its end, time and registers aside. -/
theorem Leaves.of_stored {w : WrBytes} {b : Dev} {t g off : Nat} {c : Instr} {f : Dev → Dev} (hi : Inv s) (hc : exec c s = runAll s f)
    (hf : f s.fresh = (b.sramWrite t off w).vxNext t g) (hb : s.fresh.Calm b) : Leaves c s ((b.sramWrite t off w).vxNext t g) := by
  obtain ⟨m, p, q, hw⟩ := Dev.memOnly_rawWrite b (tileAddr t off) w
  have hwf : Memory.wf (b.sramWrite t off w).mem = true := Dev.wf_rawWrite b _ w (hb.mem.symm ▸ hi.mem)
  have hcalm : ∀ e : Dev, (∃ m p q, e = { b with mem := m, poison := p, soft := q }) → Memory.wf e.mem = true → f s.fresh = e.vxNext t g →
      exec c s = .next { s with dev := e.vxNext t g } := by
    rintro e ⟨m, p, q, rfl⟩ hwf hf
    exact hc.trans (runAll_keep hf hb.cpl hb.handover hb.cel (hb.plain rfl) hb.rep hwf)
  exact hcalm _ ⟨m, p, q, hw⟩ hwf hf

end

/-- Settles O41: an access passes alignment, window, status and hold in this order, and then what it reads goes to RD, or what it stores to memory. -/
theorem vectorMemory : Obligations.VectorMemory := by
  refine ⟨fun s i r h hok hg => ?_, fun s i r l hi h hfmt hrd hl hok hg => ?_, fun s i r l hi h hfmt hrd hl hok hg => ?_,
    fun s i r l hi h hfmt hrd hl hok hg => ?_, fun s i r l h hl hw => ?_, fun s i r l h hl hw ho => ?_, fun s i r l h hl hok hb => ?_,
    fun d t p => Dev.portClash_rival d t.val p, fun s i r h hok => ?_, fun s i r l hi h hfmt hl hok => ?_, fun s i r l h hl hw => ?_,
    fun s i l h hl hok hg => ⟨?_, ?_⟩, fun s i l h ho hf htc hp hs hx => ?_, fun s i l h ho hf htc hs hx => ?_, fun s i l h ho hf hp hs => ?_,
    fun s i l h ho hf hs => ?_, fun s i l h hl hw hr => ?_, fun s i l h ho hs => ?_, fun s i l h ho hf htc hp hs hx => ?_,
    fun s i l h ho hf htc hs => ?_, fun s i l h ho hf hp hs => ?_, fun s i l h ho hs => ?_, fun s i l h ho hf h0 hs => ?_,
    fun s t g a st hr hst hb => ?_⟩
  · exact .of_eq (f := fun d => d.vxLdl i r) rfl (Dev.vxLdl_sound (d := s.fresh) h hok hg)
  · have hw : vxWidth i = 4 := by simp [vxWidth, hfmt]
    obtain ⟨e, he, hx⟩ := Dev.vxLdl_one (d := s.fresh) (r := r) h hl (hw ▸ hok) (hw ▸ hg)
    rw [hw, Dev.loadAll_one (Dev.loadPut_four ..)] at hx
    refine .of_calm (f := fun d => d.vxLdl i r) hi rfl hx (he.calm.trans (Dev.Calm.loaded ..)) ⟨he.calm.mem, ?_⟩
    refine (Dev.reg_loaded ..).trans ((Group.reg_put_self _ _ _ _ _ hrd).trans (Nat.mod_eq_of_lt ?_))
    exact Dev.leNat_rawRead_lt s.fresh _ 4
  · have hw : vxWidth i = 8 := by simp [vxWidth, hfmt]
    have heven : i.rd.val % 2 = 0 := VUse.ok_rd_even (u := ldlUse i) h.2.2.2.1 (by simp [hfmt])
    obtain ⟨e, he, hx⟩ := Dev.vxLdl_one (d := s.fresh) (r := r) h hl (hw ▸ hok) (hw ▸ hg)
    rw [hw, Dev.loadAll_one (Dev.loadPut_eight ..)] at hx
    have hlow := Dev.leNat_rawRead_lt s.fresh (tileAddr i.t.val (s.dev.iA i l.val)) 4
    have hhigh := Dev.leNat_rawRead_lt s.fresh (tileAddr i.t.val (s.dev.iA i l.val) + 4) 4
    have hv := Dev.rawRead_eight s.fresh (tileAddr i.t.val (s.dev.iA i l.val))
    refine .of_calm (f := fun d => d.vxLdl i r) hi rfl hx (he.calm.trans (Dev.Calm.loaded ..)) ⟨he.calm.mem, ?_, ?_⟩
    · refine (Dev.reg_loaded ..).trans ((Group.reg_put_ne _ _ _ _ _ l.isLt l.isLt (.inr (by omega))).trans ((Group.reg_put_self _ _ _ _ _ hrd).trans ?_))
      show leNat (s.fresh.rawRead (tileAddr i.t.val (s.dev.iA i l.val)) 8) % 2 ^ 32 = leNat (s.fresh.rawRead (tileAddr i.t.val (s.dev.iA i l.val)) 4)
      omega
    · refine (Dev.reg_loaded ..).trans ((Group.reg_put_self _ _ _ _ _ (by omega)).trans ?_)
      show leNat (s.fresh.rawRead (tileAddr i.t.val (s.dev.iA i l.val)) 8) / 2 ^ 32 % 2 ^ 32 =
        leNat (s.fresh.rawRead (tileAddr i.t.val (s.dev.iA i l.val) + 4) 4)
      omega
  · have hw : vxWidth i = 2 ^ i.fmt.toNat := by
      unfold vxWidth
      rw [Nat.mod_eq_of_lt (by omega)]
    have hcut (v k : Nat) (hv : v < 2 ^ (8 * 2 ^ i.fmt.toNat)) :
        (v % 2 ^ (8 * 2 ^ i.fmt.toNat) + k * 2 ^ (8 * 2 ^ i.fmt.toNat)) % 2 ^ 32 % 2 ^ (8 * 2 ^ i.fmt.toNat) = v := by
      obtain h0 | h1 : i.fmt.toNat = 0 ∨ i.fmt.toNat = 1 := by omega
      · rw [h0] at hv ⊢
        omega
      · rw [h1] at hv ⊢
        omega
    have hw4 : 2 ^ i.fmt.toNat < 4 := Nat.pow_lt_pow_right (by decide) hfmt
    obtain ⟨e, he, hx⟩ := Dev.vxLdl_one (d := s.fresh) (r := r) h hl (hw ▸ hok) (hw ▸ hg)
    rw [hw, Dev.loadAll_one (Dev.loadPut_small _ _ _ _ _ hw4)] at hx
    refine .of_calm (f := fun d => d.vxLdl i r) hi rfl hx ((he.calm.trans (Dev.Calm.draw e)).trans (Dev.Calm.loaded e.draw.2 _ _ _)) ⟨he.calm.mem, congrArg (· + 1) he.freeCtr, ?_⟩
    refine (congrArg (· % _) ((Dev.reg_loaded ..).trans (Group.reg_put_self _ _ _ _ _ hrd))).trans ?_
    exact hcut _ _ (Dev.leNat_rawRead_lt s.fresh _ _)
  · exact .of_eq (f := fun d => d.vxLdl i r) rfl (Dev.vxLdl_misaligned (d := s.fresh) h (Dev.aligned_first (d := s.fresh) hl hw))
  · exact .of_eq (f := fun d => d.vxLdl i r) rfl
      (Dev.vxLdl_outside (d := s.fresh) h (Dev.aligned_one (d := s.fresh) hl hw) (Dev.outside_first (d := s.fresh) hl ho))
  · exact .of_eq (f := fun d => d.vxLdl i r) rfl (Dev.vxLdl_poisoned (d := s.fresh) h hl hok hb)
  · exact .of_eq (f := fun d => d.vxStl i r) rfl (Dev.vxStl_writes (d := s.fresh) h hok)
  · have hw : vxWidth i = 4 := by simp [vxWidth, hfmt]
    have hx := Dev.vxStl_writes (d := s.fresh) (r := r) h (hw ▸ hok)
    have hturn := Dev.steady_turned s.fresh i r (s.fresh.iAct i)
    have hv : viStore i (s.fresh.iGrp i) s.fresh.now l.val = s.dev.iB i l.val := if_neg (by rw [hw]; decide)
    rw [show lanesOf (s.fresh.iAct i) = [l.val] from (congrArg lanesOf hl).trans (lanesOf_two_pow l), List.foldl_cons, List.foldl_nil, hw, hv] at hx
    exact ⟨_, .of_stored (f := fun d => d.vxStl i r) hi rfl hx hturn.calm, Dev.stored_word hturn i.t.val i.g.val (s.dev.iA i l.val) (s.dev.iB i l.val)⟩
  · exact .of_eq (f := fun d => d.vxStl i r) rfl (Dev.vxStl_misaligned (d := s.fresh) h (Dev.aligned_first (d := s.fresh) hl hw))
  · exact .of_eq (f := fun d => d.vxAtomic i 4 fun old v => (old + v) % 2 ^ 32) rfl (Dev.vxAtomic_one (d := s.fresh) h hl hok hg)
  · exact .of_eq (f := fun d => d.vxAtomic i 5 fun old v => if toSigned 32 old < toSigned 32 v then v else old) rfl
      (Dev.vxAtomic_one (d := s.fresh) h hl hok hg)
  · exact .of_eq (f := fun d => d.vxLdd i) rfl (Dev.vxLdd_direct (d := s.fresh) h ho hs hf htc hp (Prod.ext hx rfl))
  · exact .of_eq (f := fun d => d.vxLdd i) rfl (Dev.vxLdd_cached (d := s.fresh) h ho hs hf htc (Prod.ext rfl (Prod.ext hx rfl)))
  · exact .of_eq (f := fun d => d.vxLdd i) rfl (Dev.vxLdd_slow (d := s.fresh) h ho hs hf hp)
  · exact .of_eq (f := fun d => d.vxLdd i) rfl (Dev.vxLdd_held (d := s.fresh) h ho hs hf)
  · exact .of_eq (f := fun d => d.vxLdd i) rfl (Dev.vxLdd_remote (d := s.fresh) h hl hw hr)
  · exact .of_eq (f := fun d => d.vxLdd i) rfl (Dev.vxLdd_status (d := s.fresh) h ho hs)
  · exact .of_eq (f := fun d => d.vxStd i) rfl (Dev.vxStd_direct (d := s.fresh) h ho hf hs htc hp (Prod.ext hx rfl))
  · exact .of_eq (f := fun d => d.vxStd i) rfl (Dev.vxStd_cached (d := s.fresh) h ho hf hs htc)
  · exact .of_eq (f := fun d => d.vxStd i) rfl (Dev.vxStd_slow (d := s.fresh) h ho hf hs hp)
  · exact .of_eq (f := fun d => d.vxStd i) rfl (Dev.vxStd_stop (d := s.fresh) h ho hs)
  · exact .of_eq (f := fun d => d.vxStd i) rfl (Dev.vxStd_far (d := s.fresh) h ho hf h0 hs)
  · refine .of_eq (f := fun d => if d.tileRuns t.val then d.storeFailed t.val g.val a.toNat st.toNat else d) rfl ((if_pos hr).trans (if_neg ?_))
    rintro (h0 | h1)
    · exact hst h0
    · exact absurd ((congrArg Option.isSome hb).symm.trans h1) (by decide)

end Sys2Proof.Machine
end

section
/-! SUPPORT. Patrol and modes of the Cellar and of tile SRAM (chapter 9). -/

namespace Sys2Proof.Machine
open Sys2Proof.Machine.Reg

/-! ## A check leaves the modes of the slices -/

namespace Dev.SameCause
variable {d e : Dev}

theorem post (h : Dev.SameCause d e) (x : EmbEnt) : Dev.SameCause d (e.post x) :=
  h.trans ⟨fun n => congrArg (· != 0) (Dev.fld_post e x (by simp only [Fld.key, Fld.at, CEL_MODE, EMB_LOST, fLK, fRO, Fld.arr]; omega)),
    congrArg (·.orig) (Dev.post_cel e x), congrArg (·.dline) (Dev.post_cel e x)⟩

theorem repAbort (h : Dev.SameCause d e) (r ev n : Nat) : Dev.SameCause d (e.repAbort r ev n) := by
  unfold Dev.repAbort
  refine .ite ?_ h
  refine (((h.setF 5 fun n => ?_).setF r fun n => ?_).setF _ fun n => ?_).post _ <;>
    simp only [Fld.key, Fld.at, CEL_MODE, REP_STATE, REP_REASON, REP_EVT, fLK, fRO, Fld.arr] <;> omega

theorem logUE (h : Dev.SameCause d e) (ev n : Nat) (l : List DF) : Dev.SameCause d (e.logUE ev n l) := by
  refine SameCause.repAbort (h.trans ⟨fun m => ?_, ?_, ?_⟩) _ _ _
  · exact congrArg (· != 0) (Dev.fld_logEv e ev (by decide) n l _ (by simp only [Fld.key, Fld.at, CEL_MODE, EMB_LOST, fLK, fRO, Fld.arr]; omega))
  · rw [Dev.logEv_cel]
  · rw [Dev.logEv_cel]

theorem softFix (h : Dev.SameCause d e) (a n : Nat) : Dev.SameCause d (e.softFix a n) := by
  unfold Dev.softFix
  refine h.trans (.foldl (fun g i => ?_) _ e)
  exact ⟨fun _ => rfl, rfl, rfl⟩

/-- A counter of the slices. -/
theorem celInc (h : Dev.SameCause d e) {f : Fld} (k n : Nat) (hf : ∀ m, CEL_MODE.key m 0 ≠ f.key n 0) : Dev.SameCause d (e.inc f k n) := h.setF _ hf

end Dev.SameCause

theorem celMode_key_ce (m n : Nat) : CEL_MODE.key m 0 ≠ CEL_CE.key n 0 := by simp only [Fld.key, Fld.at, CEL_MODE, CEL_CE, fLK, fRO, Fld.arr]; omega
theorem celMode_key_ue (m n : Nat) : CEL_MODE.key m 0 ≠ CEL_UE.key n 0 := by simp only [Fld.key, Fld.at, CEL_MODE, CEL_UE, fLK, fRO, Fld.arr]; omega
theorem celMode_key_refetch (m n : Nat) : CEL_MODE.key m 0 ≠ CEL_REFETCH.key n 0 := by
  simp only [Fld.key, Fld.at, CEL_MODE, CEL_REFETCH, fLK, fRO, Fld.arr]; omega
theorem celMode_key_poison (m n : Nat) : CEL_MODE.key m 0 ≠ HBM_POISON_RD.key n 0 := by
  simp only [Fld.key, Fld.at, CEL_MODE, HBM_POISON_RD, fLK, fRO, Fld.arr]; omega

section
variable (d : Dev) (k mask : Nat)

theorem Dev.sameCause_backRead (w : Bool) : Dev.SameCause d (d.backRead k mask w) := by
  unfold Dev.backRead
  refine .ite ?_ (.refl d)
  refine Dev.SameCause.trans (.ite ((Dev.SameCause.refl d).emit _) (.foldl (fun g i => ?_) _ d)) (.foldl (fun g i => ?_) _ _)
  · exact .ite ((Dev.SameCause.refl g).emit _) (.refl g)
  · exact .ite ((Dev.SameCause.refl g).celInc _ _ fun m => celMode_key_poison m _) (.refl g)

theorem Dev.sameCause_lineCheck : Dev.SameCause d (d.lineCheck k mask) := by
  have hue (g : Dev) (l : List DF) : Dev.SameCause g ((g.inc CEL_UE 1 (homeOf k)).logUE 0x4001 (homeOf k) l) :=
    ((Dev.SameCause.refl g).celInc _ _ fun m => celMode_key_ue m _).logUE _ _ _
  have hce (n : Nat) : Dev.SameCause d (d.inc CEL_CE n (homeOf k)) := (Dev.SameCause.refl d).celInc _ _ fun m => celMode_key_ce m _
  unfold Dev.lineCheck
  dsimp only
  split
  · exact .refl d
  next l hl =>
    refine .ite (.refl d) ?_
    have hlost := (hce ((upTo 4).countP (bitAt (Nat.land l.weak mask)))).trans (Dev.SameCause.foldl (fun g i => .ite (hue g [dA (256 * k + 64 * i), dU 1 i, dC 0]) (.refl g)
      : ∀ (g : Dev) (i : Nat), Dev.SameCause g (if bitAt (Nat.land (Nat.land l.bad mask) l.dirty) i then
        (g.inc CEL_UE 1 (homeOf k)).logUE 0x4001 (homeOf k) [dA (256 * k + 64 * i), dU 1 i, dC 0] else g)) (upTo 4) _)
    refine .ite (hlost.setCel _ _) (.ite (.ite (hlost.setCel _ _) (hlost.setCel _ _)) ?_)
    exact (((hlost.trans (Dev.sameCause_backRead _ _ _ _)).setCel _ _).celInc _ _ fun m => celMode_key_refetch m _).repAbort _ _ _

theorem Dev.sameCause_scratchCheck : Dev.SameCause d (d.scratchCheck k mask) := by
  unfold Dev.scratchCheck
  refine .ite (.refl d) ?_
  refine Dev.SameCause.trans (.foldl (fun g i => ?_) _ d) (.foldl (fun g i => ?_) _ _)
  · exact .ite (((Dev.SameCause.refl g).celInc _ _ fun m => celMode_key_ce m _).softFix _ _) (.refl g)
  · exact .ite (((Dev.SameCause.refl g).celInc _ _ fun m => celMode_key_ue m _).logUE _ _ _) (.refl g)

end

/-! ## The patrol -/

section
variable {d : Dev} {n : Nat}

/-- The whole set is checked in the mode that its slice has at the begin. -/
theorem Dev.foldl_patrol_scratch {d : Dev} (h : d.sliceScratch n = true) (ks : List Nat) :
    ks.foldl (fun d k => if d.sliceScratch n then d.scratchCheck k 15 else d.lineCheck k 15) d = ks.foldl (fun (d : Dev) k => d.scratchCheck k 15) d := by
  induction ks generalizing d with
  | nil => rfl
  | cons k ks ih =>
    rw [List.foldl_cons, List.foldl_cons, if_pos h]
    exact ih (((d.sameCause_scratchCheck k 15).scratch n).trans h)

theorem Dev.foldl_patrol_lines {d : Dev} (h : ¬ d.sliceScratch n = true) (ks : List Nat) :
    ks.foldl (fun d k => if d.sliceScratch n then d.scratchCheck k 15 else d.lineCheck k 15) d = ks.foldl (fun (d : Dev) k => d.lineCheck k 15) d := by
  induction ks generalizing d with
  | nil => rfl
  | cons k ks ih =>
    rw [List.foldl_cons, List.foldl_cons, if_neg h]
    exact ih fun hs => h (((d.sameCause_lineCheck k 15).scratch n).symm.trans hs)

theorem Dev.foldl_patrol (ks ls : List Nat) (d : Dev) :
    (if d.sliceScratch n then ks else ls).foldl (fun d k => if d.sliceScratch n then d.scratchCheck k 15 else d.lineCheck k 15) d =
      if d.sliceScratch n then ks.foldl (fun (d : Dev) k => d.scratchCheck k 15) d else ls.foldl (fun (d : Dev) k => d.lineCheck k 15) d := by
  by_cases h : d.sliceScratch n = true
  · rw [if_pos h, if_pos h, Dev.foldl_patrol_scratch h]
  · rw [if_neg h, if_neg h, Dev.foldl_patrol_lines h]

/-- What an error told to the patrol comes to. -/
def Dev.patrolTold (d : Dev) (n set : Nat) (e : CelErr) : Dev :=
  match e with
  | .clean => d
  | .corrected => d.inc CEL_CE 1 n
  | .latent a double => d.celUpset n a.toNat double
  | .data a => (d.celUpset n a.toNat true).celCheck n a.toNat
  | .entry x => (((d.entryLines n set x.val).foldl Dev.entryLost d).inc CEL_UE 1 n).logEv 0x4002 .S n [dO set, dC x.val]

theorem Dev.celPatrol_eq {g : Dev} {set : Nat} {e : CelErr} (h : d.live = true) (hg : d.patrolTold n set e = g) : d.celPatrol n set e = g.patrolNext n := by
  subst hg
  exact (if_neg (by simp [h])).trans (Dev.foldl_patrol _ _ _)

end

/-! ## The check of a line -/

/-- No sector of a mask, and the only one. -/
theorem foldl_sectors_none {α : Type} (F : α → Nat → α) (e : α) : (upTo 4).foldl (fun d i => if bitAt 0 i then F d i else d) e = e := by
  simp [upTo, List.range_succ, bitAt]

theorem foldl_sectors_one {α : Type} (F : α → Nat → α) (e : α) (i : Fin 4) : (upTo 4).foldl (fun d j => if bitAt (2 ^ i.val) j then F d j else d) e = F e i.val := by
  fin_cases i <;> rfl

/-- The masks of one sector. -/
theorem sector_mask (i : Fin 4) : Nat.land (2 ^ i.val) 15 = 2 ^ i.val ∧ 2 ^ i.val ≠ 0 ∧ (upTo 4).countP (bitAt (2 ^ i.val)) = 1
    ∧ maskMinus (2 ^ i.val) (2 ^ i.val) = 0 := by
  revert i
  decide

theorem zero_mask (m : Nat) : Nat.land 0 m = 0 ∧ maskMinus 0 m = 0 := ⟨Nat.zero_and _, Nat.zero_and _⟩

/-- A sector within a mask, and one outside it. -/
theorem sector_land (i : Fin 4) (m : Nat) : Nat.land (2 ^ i.val) m = 2 ^ i.val * (bitAt m i.val).toNat ∧
    maskMinus (2 ^ i.val) m = 2 ^ i.val * (!bitAt m i.val).toNat := by
  have hall : Nat.testBit 15 i.val = true := by
    revert i
    decide
  refine ⟨Nat.two_pow_and m i.val, (Nat.two_pow_and _ i.val).trans (congrArg (fun b : Bool => 2 ^ i.val * b.toNat) ?_)⟩
  refine (Nat.testBit_xor ..).trans ?_
  rw [show Nat.testBit (Nat.land m 15) i.val = (Nat.testBit m i.val && Nat.testBit 15 i.val) from Nat.testBit_and .., hall, Bool.and_true, Bool.xor_true]
  rfl

theorem sector_within {i : Fin 4} {m : Nat} (h : bitAt m i.val = true) : Nat.land (2 ^ i.val) m = 2 ^ i.val ∧ maskMinus (2 ^ i.val) m = 0 := by
  obtain ⟨hland, hminus⟩ := sector_land i m
  simp only [hland, hminus, h, Bool.not_true, Bool.toNat_true, Bool.toNat_false, Nat.mul_one, Nat.mul_zero, and_self]

theorem sector_outside {i : Fin 4} {m : Nat} (h : bitAt m i.val = false) : Nat.land (2 ^ i.val) m = 0 ∧ maskMinus (2 ^ i.val) m = 2 ^ i.val := by
  obtain ⟨hland, hminus⟩ := sector_land i m
  simp only [hland, hminus, h, Bool.not_false, Bool.toNat_true, Bool.toNat_false, Nat.mul_one, Nat.mul_zero, and_self]

theorem countP_none : (upTo 4).countP (bitAt 0) = 0 := rfl

section
variable {d : Dev} {k : Nat} {i : Fin 4} {l : Line} (hl : d.celLine k = some l)
include hl

theorem Dev.lineCheck_weak (hw : l.weak = 2 ^ i.val) (hb : l.bad = 0) : d.lineCheck k 15 =
    (d.inc CEL_CE 1 (homeOf k)).setCel k (some { l with weak := 0, poison := Nat.lor l.poison 0 }) := by
  obtain ⟨h1, h2, h3, h4⟩ := sector_mask i
  unfold Dev.lineCheck
  simp only [hl, hw, hb, h1, h2, h3, h4, (zero_mask _).1, (zero_mask _).2, false_and, ↓reduceIte]
  rw [foldl_sectors_none]

theorem Dev.lineCheck_dirty (hw : l.weak = 0) (hb : l.bad = 2 ^ i.val) (hd : bitAt l.dirty i.val = true) : d.lineCheck k 15 =
    (((d.inc CEL_CE 0 (homeOf k)).inc CEL_UE 1 (homeOf k)).logUE 0x4001 (homeOf k) [dA (256 * k + 64 * i.val), dU 1 i.val, dC 0]).setCel k
      (some { l with weak := 0, bad := 0, poison := Nat.lor l.poison (2 ^ i.val) }) := by
  obtain ⟨h1, h2, -, h4⟩ := sector_mask i
  obtain ⟨h5, h6⟩ := sector_within hd
  unfold Dev.lineCheck
  simp only [hl, hw, hb, h1, h2, h4, h5, h6, (zero_mask _).1, (zero_mask _).2, countP_none, and_false, ↓reduceIte]
  rw [foldl_sectors_one]

theorem Dev.lineCheck_clean (hw : l.weak = 0) (hb : l.bad = 2 ^ i.val) (hd : bitAt l.dirty i.val = false) (hh : l.host = 0) : d.lineCheck k 15 =
    ((((d.inc CEL_CE 0 (homeOf k)).backRead k (2 ^ i.val)).setCel k
      (some { l with weak := 0, bad := 0,
                     data := mergeSectors (2 ^ i.val) l.data ((d.inc CEL_CE 0 (homeOf k)).backLine k).data,
                     poison := Nat.lor (maskMinus (Nat.lor l.poison 0) (2 ^ i.val)) (Nat.land ((d.inc CEL_CE 0 (homeOf k)).backLine k).poison (2 ^ i.val)) })).inc
        CEL_REFETCH 1 (homeOf k)).repAbort 9 0x4000 (homeOf k) := by
  obtain ⟨h1, h2, -, h4⟩ := sector_mask i
  obtain ⟨h5, h6⟩ := sector_outside hd
  unfold Dev.lineCheck
  simp only [hl, hw, hb, h1, h2, h4, h5, h6, hh, (zero_mask _).1, (zero_mask _).2, countP_none, and_false, ↓reduceIte, bne_self_eq_false, Bool.false_eq_true]
  rw [foldl_sectors_none]

end

/-! ## A lost entry -/

section
variable {d : Dev} {k t : Nat}

/-- Snooped away, a tile's copy is gone. -/
theorem Dev.tcLine_snooped (hw : d.wbOf t k = none) (orig cause : Nat) : (d.snoop k 1 t true orig cause).tcLine t k = none := by
  have hwb : (d.sendSnoop k 1 t orig cause).wbOf t k = none := hw
  have hgone : ((d.sendSnoop k 1 t orig cause).tileSnooped t k 1).2.2.2.tcLine t k = none := by
    unfold Dev.tileSnooped
    rw [hwb]
    cases hl : (d.sendSnoop k 1 t orig cause).tcLine t k with
    | none => exact hl
    | some l => exact Sparse.get_set_self (dflt := none) _ _ none
  exact hgone

/-- The line is gone, and its data unknown. -/
def Dev.lineDropped (d : Dev) (k : Nat) : Dev :=
  { d with cel := { d.cel with lines := Sparse.set none d.cel.lines k none, lost := Sparse.set false d.cel.lost k true } }

theorem Dev.entryLost_eq (d : Dev) (k : Nat) : d.entryLost k = (d.invHolders k true (sliceUnit (homeOf k) 6) 1).lineDropped k := rfl

theorem Dev.entryLost_one (h : (d.dirOf k).holders = [t]) (hw : d.wbOf t k = none) :
    (d.entryLost k).celLine k = none ∧ (d.entryLost k).dirOf k = .none ∧ (d.entryLost k).lineLost k = true ∧ (d.entryLost k).tcLine t k = none := by
  have hinv : d.invHolders k true (sliceUnit (homeOf k) 6) 1 = (d.snoop k 1 t true (sliceUnit (homeOf k) 6) 1).setDir k .none := by
    unfold Dev.invHolders
    rw [h]
    rfl
  have hgone := Dev.tcLine_snooped hw (sliceUnit (homeOf k) 6) 1
  rw [Dev.entryLost_eq, hinv]
  generalize d.snoop k 1 t true (sliceUnit (homeOf k) 6) 1 = e at hgone
  exact ⟨Sparse.get_set_self e.cel.lines k none, Sparse.get_set_self e.cel.dir k .none, Sparse.get_set_self e.cel.lost k true, hgone⟩

end

/-! ## Modes -/

section
variable {d : Dev} {p : Path} {v : Word64} {n : Nat}

/-- A write of CEL_CFG. -/
theorem Dev.write64_celCfg (hn : n < 16) (h : Reaches d p (0x4000000 + 0x10000 * n)) :
    write64 p (0x4000000 + 0x10000 * n) v d = (d.celMode n v.toNat).emit .wrDone := by
  have hi : (0x4000000 + 0x10000 * n) / 0x10000 % 0x100 = n := by omega
  have ho : (0x4000000 + 0x10000 * n) % 0x10000 = 0 := by omega
  have hslice : 0x4000000 ≤ 0x4000000 + 0x10000 * n ∧ 0x4000000 + 0x10000 * n < 0x4100000 := by omega
  have hlock : ¬ 0x4000000 + 0x10000 * n = 0x3000028 := by omega
  refine (Dev.csrWrite_ring v h (by omega) (by omega) (by omega) (by omega) (by omega) (by omega)).trans ?_
  simp only [Dev.hookRing, hi, ho, hslice, hlock, if_false]
  rfl

theorem Dev.celMode_locked (h : d.load.bDone = true) : d.celMode n v.toNat = d := if_pos h

section
variable (h : d.load.bDone = false)
include h

/-- Where the bit differs from the mode. -/
theorem Dev.celMode_scratch {kept : Bool} (hv : v.getLsbD 0 = true) (hm : d.flag CEL_MODE n = false) (hk : NatSet.has d.cel.kept n = kept) :
    d.celMode n v.toNat =
      (let e := ((if kept then (d.setF CEL_HOST_EN (bits v.toNat 1 1) n).sliceEmpty n
          else ((d.setF CEL_HOST_EN (bits v.toNat 1 1) n).sliceEmpty n).zeroScratch n).setF CEL_MODE 1 n)
       { e with cel := { e.cel with kept := Sparse.set false e.cel.kept n false } }) := by
  have hbit : bitAt v.toNat 0 = true := hv
  have hone : bits v.toNat 0 1 = 1 := by
    have hodd : v.toNat % 2 = 1 := of_decide_eq_true ((Nat.testBit_zero v.toNat).symm.trans hbit)
    unfold bits
    omega
  have hkept : NatSet.has (d.setF CEL_HOST_EN (bits v.toNat 1 1) n).cel.kept n = kept := hk
  have hne : (true == d.flag CEL_MODE n) = false := by rw [hm]; rfl
  unfold Dev.celMode
  simp only [h, hbit, hone, hkept, hne, Bool.false_eq_true, ↓reduceIte]

theorem Dev.celMode_cache (hv : v.getLsbD 0 = false) (hm : d.flag CEL_MODE n = true) :
    d.celMode n v.toNat = ((((d.setF CEL_HOST_EN (bits v.toNat 1 1) n).sliceEmpty n).zeroScratch n).setF CEL_MODE 0 n) := by
  have hbit : bitAt v.toNat 0 = false := hv
  have hzero : bits v.toNat 0 1 = 0 := by
    have heven : ¬ v.toNat % 2 = 1 := of_decide_eq_false ((Nat.testBit_zero v.toNat).symm.trans hbit)
    unfold bits
    omega
  have hne : (false == d.flag CEL_MODE n) = false := by rw [hm]; rfl
  unfold Dev.celMode
  simp only [h, hbit, hzero, hne, Bool.false_eq_true, ↓reduceIte]

end

/-- A write of TIL_SRAM_CFG. -/
theorem Dev.write64_cacheQ {t : PTile} (h : Reaches d p (0x1000100 + 0x10000 * t.val)) :
    write64 p (0x1000100 + 0x10000 * t.val) v d = (d.cacheQ v.toNat).emit .wrDone := by
  have ht := t.isLt
  have ho : (0x1000100 + 0x10000 * t.val) % 0x10000 = 0x100 := by omega
  refine (Dev.csrWrite_tile v h (by omega) (by omega) (by omega)).trans ?_
  simp only [Dev.hookTile, ho, ↓reduceIte, Option.getD_some]

theorem Dev.cacheQ_locked {x : Nat} (h : d.load.bDone = true) : d.cacheQ x = d := if_pos h

/-- With no line in any tile's cache there is none to drop. -/
theorem Dev.cacheQ_empty {x : Nat} (h : d.load.bDone = false) (ht : d.cel.tc = []) : d.cacheQ x = d.setF TIL_CACHE_Q (x % 8) 0 := by
  unfold Dev.cacheQ
  rw [if_neg (by simp [h]), ht]
  rfl

end

/-! ## The patrol of tile SRAM -/

section
variable {d : Dev} {p u : Nat} {e : Upset}

theorem Dev.sramPatrol_tile (h : d.ltile p < 64) : d.sramPatrol p u e = (((d.patrolTurn p u).sramUpset (d.ltile p) u e).sramRead
    (d.ltile p) (64 * (32 * Sparse.get 0 d.cel.sramPatrol (32 * p + u % 32) + u % 32)) 64 6).2.2 :=
  if_neg (by omega)

theorem Dev.sramPatrol_spare (h : 64 ≤ d.ltile p) : d.sramPatrol p u .single = (d.patrolTurn p u).inc TIL_SRAM_CE 1 p
    ∧ d.sramPatrol p u .double = ((d.patrolTurn p u).inc TIL_SRAM_UE 1 p).logUE 0x1001 p [dO (64 * u), dU 1 6] :=
  ⟨if_pos h, if_pos h⟩

end

/-! ## What befalls a sector -/

section
variable {d : Dev} {n a : Nat} (hn : homeOf (a / 256) = n)
include hn

theorem Dev.celUpset_line {l : Line} (hl : d.celLine (a / 256) = some l) :
    d.celUpset n a false = d.setCel (a / 256) (some { l with weak := Nat.lor l.weak (2 ^ (a % 256 / 64)) })
      ∧ d.celUpset n a true = d.setCel (a / 256) (some { l with bad := Nat.lor l.bad (2 ^ (a % 256 / 64)) }) := by
  unfold Dev.celUpset
  simp only [hn, hl, ne_eq, not_true_eq_false, Bool.false_eq_true, ↓reduceIte, and_self]

theorem Dev.celUpset_scratch (hl : d.celLine (a / 256) = none) (hs : d.sliceScratch n = true) (ha : hbmEnd ≤ a) :
    d.celUpset n a true = { d.markBad (a / 8 * 8) 8 true with quiet := Sparse.set false d.quiet (a / 8) false } := by
  unfold Dev.celUpset
  simp only [hn, hl, hs, ne_eq, not_true_eq_false, Bool.not_true, Bool.false_or, decide_eq_false (Nat.not_lt.mpr ha), Bool.false_eq_true, ↓reduceIte]

end

/-- Settles O32: the patrol takes what it is told and checks the set whose turn it is; a mode or a cache portion is written before stage B ends. -/
theorem cellarPatrolAndModes : Obligations.CellarPatrolAndModes := by
  refine ⟨fun s n set h => ⟨?_, ?_⟩, fun s n set a b h => ⟨?_, ?_⟩, fun d n a l hn hl => Dev.celUpset_line hn hl,
    fun d k i l hl hw hb => Dev.lineCheck_weak hl hw hb, fun d k i l hl hw hb hd => Dev.lineCheck_dirty hl hw hb hd,
    fun d k i l hl hw hb hd hh => Dev.lineCheck_clean hl hw hb hd hh, fun d n a hn hl hs ha _ => Dev.celUpset_scratch hn hl hs ha,
    fun s n set x h => ?_, fun d k t h hw _ => ?_, fun s n p v h hb hv hm hk => ?_, fun s n p v h hb hv hm => ?_, fun s n p v hi h hb => ?_,
    fun s t p v hi h hb ht => ?_, fun s t p v hi h hb => ?_, fun s n p v h hb hv hm hk => ?_, fun s t u e h hl => ?_, fun s t u h hl => ⟨?_, ?_⟩⟩
  · exact .of_eq (f := fun d => d.celPatrol n.val set.val .clean) rfl (Dev.celPatrol_eq (d := s.fresh) (e := .clean) h rfl)
  · exact .of_eq (f := fun d => d.celPatrol n.val set.val .corrected) rfl (Dev.celPatrol_eq (d := s.fresh) (e := .corrected) h rfl)
  · exact .of_eq (f := fun d => d.celPatrol n.val set.val (.data a)) rfl (Dev.celPatrol_eq (d := s.fresh) (e := (.data a)) h rfl)
  · exact .of_eq (f := fun d => d.celPatrol n.val set.val (.latent a b)) rfl (Dev.celPatrol_eq (d := s.fresh) (e := (.latent a b)) h rfl)
  · exact .of_eq (f := fun d => d.celPatrol n.val set.val (.entry x)) rfl (Dev.celPatrol_eq (d := s.fresh) (e := (.entry x)) h rfl)
  · refine Dev.entryLost_one ?_ hw
    rcases h with h | h <;> rw [h] <;> rfl
  · exact .of_eq (f := write64 p (0x4000000 + 0x10000 * n.val) v) rfl ((Dev.write64_celCfg (d := s.fresh) n.isLt h).trans
      (congrArg (Dev.emit · .wrDone) (Dev.celMode_scratch (d := s.fresh) hb hv hm hk)))
  · exact .of_eq (f := write64 p (0x4000000 + 0x10000 * n.val) v) rfl ((Dev.write64_celCfg (d := s.fresh) n.isLt h).trans
      (congrArg (Dev.emit · .wrDone) (Dev.celMode_cache (d := s.fresh) hb hv hm)))
  · exact .of_calm (f := write64 p (0x4000000 + 0x10000 * n.val) v) hi rfl ((Dev.write64_celCfg (d := s.fresh) n.isLt h).trans
      (congrArg (Dev.emit · .wrDone) (Dev.celMode_locked (d := s.fresh) hb))) ((Dev.Calm.refl _).emit rfl)
  · exact .of_calm (f := write64 p (0x1000100 + 0x10000 * t.val) v) hi rfl ((Dev.write64_cacheQ (d := s.fresh) h).trans
      (congrArg (Dev.emit · .wrDone) (Dev.cacheQ_empty (d := s.fresh) hb ht))) (((Dev.Calm.refl _).setF _ (Fld.repState_ne (by decide))).emit rfl)
  · exact .of_calm (f := write64 p (0x1000100 + 0x10000 * t.val) v) hi rfl ((Dev.write64_cacheQ (d := s.fresh) h).trans
      (congrArg (Dev.emit · .wrDone) (Dev.cacheQ_locked (d := s.fresh) hb))) ((Dev.Calm.refl _).emit rfl)
  · exact .of_eq (f := write64 p (0x4000000 + 0x10000 * n.val) v) rfl ((Dev.write64_celCfg (d := s.fresh) n.isLt h).trans
      (congrArg (Dev.emit · .wrDone) (Dev.celMode_scratch (d := s.fresh) hb hv hm hk)))
  · exact .of_live (f := fun d => d.sramPatrol t.val u.val e) rfl h (Dev.sramPatrol_tile (d := s.fresh) hl)
  · exact .of_live (f := fun d => d.sramPatrol t.val u.val .single) rfl h (Dev.sramPatrol_spare (d := s.fresh) hl).1
  · exact .of_live (f := fun d => d.sramPatrol t.val u.val .double) rfl h (Dev.sramPatrol_spare (d := s.fresh) hl).2

end Sys2Proof.Machine
end

section
/-! SUPPORT. The steering entries of a golden endpoint: what the capture of a record, with its writes of device memory, leaves of them. -/

namespace Sys2Proof.Machine
open Sys2Proof.Machine.Reg

/-- A register field that stands in a port die's registers below its capture rings. -/
def BelowRings (k : Nat) : Prop := 0x7000000 ≤ k / 64 ∧ k / 64 < 0x7400000 ∧ k / 64 % 0x100000 < 0x40000

/-- From `d` to `e` the fields of the port dies below their capture rings have stayed: the steering entries among them. -/
structure Dev.SteerKept (d e : Dev) : Prop where
  fld : ∀ (f : Fld) (i j : Nat), BelowRings (f.key i j) → e.fld f i j = d.fld f i j

namespace Dev.SteerKept

section
variable {d e g : Dev}

theorem refl (d : Dev) : Dev.SteerKept d d := ⟨fun _ _ _ _ => rfl⟩

theorem trans (h : Dev.SteerKept d e) (k : Dev.SteerKept e g) : Dev.SteerKept d g := ⟨fun f i j hf => (k.fld f i j hf).trans (h.fld f i j hf)⟩

theorem of_csr (h : e.csr = d.csr) : Dev.SteerKept d e := ⟨fun f i j _ => congrArg (fun c => Sparse.get f.rst c (f.key i j)) h⟩

theorem memOnly (k : Dev.MemOnly d e) : Dev.SteerKept d e := by
  obtain ⟨m, p, q, rfl⟩ := k
  exact of_csr rfl

theorem setF (d : Dev) {f : Fld} {i j : Nat} (v : Nat) (hk : ¬ BelowRings (f.key i j)) : Dev.SteerKept d (d.setF f v i j) :=
  ⟨fun _ _ _ hg => Dev.fld_setF_ne d v fun he => hk (he ▸ hg)⟩

theorem post (d : Dev) (x : EmbEnt) : Dev.SteerKept d (d.post x) :=
  ⟨fun _ _ _ hf => Dev.fld_post d x fun he => (by unfold BelowRings; decide : ¬ BelowRings (EMB_LOST.key 0 0)) (he ▸ hf)⟩

theorem logEv (d : Dev) {cls : Cls} (hc : cls ≠ .S) (ev n : Nat) (l : List DF) (o : Bool) : Dev.SteerKept d (d.logEv ev cls n l o) :=
  ⟨fun _ _ _ hf => Dev.fld_logEv d ev hc n l o fun he => (by unfold BelowRings; decide : ¬ BelowRings (EMB_LOST.key 0 0)) (he ▸ hf)⟩

theorem foldl_mem {α : Type} {f : Dev → α → Dev} (l : List α) (hf : ∀ g, ∀ a ∈ l, Dev.SteerKept g (f g a)) (d : Dev) :
    Dev.SteerKept d (l.foldl f d) := by
  induction l generalizing d with
  | nil => exact refl d
  | cons a r ih => exact (hf d a List.mem_cons_self).trans (ih (fun g b hb => hf g b (List.mem_cons_of_mem _ hb)) _)

theorem foldl {α : Type} {f : Dev → α → Dev} (hf : ∀ g a, Dev.SteerKept g (f g a)) (l : List α) (d : Dev) : Dev.SteerKept d (l.foldl f d) :=
  foldl_mem l (fun g a _ => hf g a) d

theorem emit (d : Dev) (o : Out) : Dev.SteerKept d (d.emit o) := of_csr rfl
theorem setCel (d : Dev) (k : Nat) (l : Option Line) : Dev.SteerKept d (d.setCel k l) := of_csr rfl
theorem setQc (d : Dev) (b : Nat) (q : Qc) : Dev.SteerKept d (d.setQc b q) := of_csr rfl
theorem setPrt (d : Dev) (n : Nat) (x : Prt) : Dev.SteerKept d (d.setPrt n x) := of_csr rfl

theorem ite {p : Prop} [Decidable p] (h : Dev.SteerKept d e) (k : Dev.SteerKept d g) : Dev.SteerKept d (if p then e else g) := by
  split
  · exact h
  · exact k

theorem msix (d : Dev) (v : Nat) : Dev.SteerKept d (d.msix v) :=
  ⟨fun _ _ _ hf => Dev.fld_msix d v fun he =>
    (by simp only [BelowRings, Fld.key, Fld.at, MGT_INT_STAT, fW1C, Fld.arr]; omega : ¬ BelowRings (MGT_INT_STAT.key (v % 256 / 64) 0)) (he ▸ hf)⟩

theorem repAbort (d : Dev) (r ev n : Nat) : Dev.SteerKept d (d.repAbort r ev n) := by
  unfold Dev.repAbort
  exact .ite ((((setF _ _ (by unfold BelowRings; decide)).trans (setF _ _ (by unfold BelowRings; decide))).trans
    (setF _ _ (by unfold BelowRings; decide))).trans (post _ _)) (refl d)

theorem logUE (d : Dev) (ev n : Nat) (l : List DF) : Dev.SteerKept d (d.logUE ev n l) := (logEv d (by decide) _ _ _ _).trans (repAbort _ _ _ _)

theorem logDieDown (d : Dev) (t : Nat) : Dev.SteerKept d (d.logDieDown t) := (logEv d (by decide) _ _ _ _).trans (msix _ _)

theorem logStatus (d : Dev) (st a n stop : Nat) : Dev.SteerKept d (d.logStatus st a n stop) := by
  unfold Dev.logStatus
  refine .ite ?_ (.ite (logEv d (by decide) _ _ _ _) (refl d))
  split
  · exact logDieDown d _
  · exact refl d

theorem softFix (d : Dev) (a n : Nat) : Dev.SteerKept d (d.softFix a n) := by
  unfold Dev.softFix
  exact .foldl (fun _ _ => by exact of_csr rfl) _ d

end

end Dev.SteerKept

/-! ### Fabric RAM blocks -/

theorem Dev.steerKept_ramCheck (d : Dev) (b a n : Nat) : Dev.SteerKept d (d.ramCheck b a n).2 :=
  ((Dev.SteerKept.setF d _ (by simp only [BelowRings, Fld.key, Fld.at, QC_CE, fRO, Fld.arr]; omega)).trans (.softFix _ _ _)).trans
    (.foldl (fun _ _ => (Dev.SteerKept.setF _ _ (by simp only [BelowRings, Fld.key, Fld.at, QC_UE, fRO, Fld.arr]; omega)).trans (.logUE _ _ _ _)) _ _)

theorem Dev.steerKept_qcPushes (d : Dev) (b : Nat) (w : WrBytes) (n : Nat) : Dev.SteerKept d (d.qcPushes b w n) := by
  induction n generalizing d w with
  | zero => exact .refl d
  | succ n ih =>
    unfold Dev.qcPushes
    dsimp only
    exact ((Dev.SteerKept.memOnly (d.memOnly_rawWrite _ _)).trans (.setQc _ _ _)).trans (ih _ _)

/-- A write that a block's gate takes at once. -/
theorem Dev.steerKept_qcAccess_write {b st : Nat} {x : QAcc} {w : WrBytes} {bs : List Byte} (d : Dev) {e : Dev} (hw : x.wr = some w)
    (h : d.qcAccess b x = some (st, bs, e)) : Dev.SteerKept d e := by
  unfold Dev.qcAccess at h
  rw [hw] at h
  dsimp only at h
  split at h
  · cases h; exact .memOnly (d.memOnly_rawWrite _ _)
  · next hn => cases hn
  · cases h; exact .refl d
  · next hn => cases hn
  · split at h
    · cases h; exact .refl d
    · split at h
      · cases h; exact d.steerKept_qcPushes _ _ _
      · cases h
  · next hn _ _ => cases hn

/-! ### The line of a slice -/

theorem homeOf_lt (k : Nat) : homeOf k < 16 := by
  unfold homeOf homeSlice
  split
  · next s x h =>
    unfold placeOf at h
    split at h
    · cases h
    · split at h
      · next hr => cases h; omega
      · split at h <;> [cases h; split at h <;> [cases h; split at h <;> [cases h; split at h <;> cases h]]]
  · exact Nat.xor_lt_two_pow (n := 4) (Nat.mod_lt _ (by decide)) (Nat.mod_lt _ (by decide))
  · exact Nat.xor_lt_two_pow (n := 4) (Nat.mod_lt _ (by decide)) (Nat.mod_lt _ (by decide))

/-- A counter of a slice. -/
theorem Dev.steerKept_celInc (d : Dev) {f : Fld} (n k : Nat) (h0 : f.off < 0x5000000) (h1 : f.s1 = 0x10000) (h2 : f.lo < 64) :
    Dev.SteerKept d (d.inc f n (homeOf k)) := by
  refine .setF d _ ?_
  have hk := homeOf_lt k
  simp only [BelowRings, Fld.key, Fld.at, h1]
  omega

theorem Dev.steerKept_backWrite (d : Dev) (k mask : Nat) (b : BitVec 2048) (p : Nat) : Dev.SteerKept d (d.backWrite k mask b p) := by
  refine .foldl (fun g i => ?_) _ d
  dsimp only
  refine .ite ?_ (.refl g)
  split
  · exact .logDieDown g _
  · have h := (Dev.SteerKept.ite (.of_csr rfl) (.refl g) : Dev.SteerKept g
      (if 256 * k < hbmEnd then g.hbmAsk (256 * k + 64 * i) 64 true 1 0xFFFF else g)).trans
        (.memOnly (Dev.memOnly_rawWrite _ (256 * k + 64 * i) (allOn (lineSlice b (64 * i) (64 * i + 64)))))
    exact .ite (h.trans (.memOnly (Dev.memOnly_markBad _ _ _ _))) h

theorem Dev.steerKept_mergeIn (d : Dev) (k mask : Nat) (b : BitVec 2048) (p : Nat) : Dev.SteerKept d (d.mergeIn k mask b p) := by
  unfold Dev.mergeIn
  refine .ite (.refl d) ?_
  split
  · exact .of_csr rfl
  · exact d.steerKept_backWrite _ _ _ _

theorem Dev.steerKept_tileSnooped (d : Dev) (t k op : Nat) : Dev.SteerKept d (d.tileSnooped t k op).2.2.2 := by
  unfold Dev.tileSnooped
  split
  · exact .of_csr rfl
  · exact .refl d
  · dsimp only
    split <;> exact .of_csr rfl

theorem Dev.steerKept_snoop (d : Dev) (k op t : Nat) (drop : Bool) (orig cause : Nat) : Dev.SteerKept d (d.snoop k op t drop orig cause) := by
  unfold Dev.snoop
  have h := ((d.steerKept_celInc (f := CEL_SNOOPS) 1 k (by decide) rfl (by decide)).trans (.of_csr rfl) :
    Dev.SteerKept d (d.sendSnoop k op t orig cause)).trans ((d.sendSnoop k op t orig cause).steerKept_tileSnooped t k op)
  generalize (d.sendSnoop k op t orig cause).tileSnooped t k op = x at h ⊢
  obtain ⟨mask, data, poison, e⟩ := x
  exact .ite h (h.trans (e.steerKept_mergeIn k mask data poison))

theorem Dev.steerKept_invHolders (d : Dev) (k : Nat) (drop : Bool) (orig cause : Nat) : Dev.SteerKept d (d.invHolders k drop orig cause) :=
  (Dev.SteerKept.foldl (fun g t => g.steerKept_snoop k 1 t drop orig cause) _ d).trans (.of_csr rfl)

theorem Dev.hbmOfAddr_le (d : Dev) {a : Nat} (h : a < hbmEnd + 256) : (d.hbmOfAddr a).1 ≤ 16 := by
  unfold Dev.hbmOfAddr
  dsimp only
  split
  · simp only [hbmEnd, hbmSize] at h ⊢; omega
  · exact (Nat.mod_lt _ (by decide)).le

/-- The counts of poisoned bursts read. -/
theorem Dev.steerKept_poisonRead (d : Dev) {k : Nat} (hk : 256 * k < hbmEnd) (p : Dev → Nat → Bool) :
    Dev.SteerKept d ((upTo 8).foldl (fun g i => if p g i then g.inc HBM_POISON_RD 1 (g.hbmOfAddr (256 * k + 32 * i)).1 else g) d) := by
  refine .foldl_mem _ (fun g i hi => ?_) _
  have hi8 : i < 8 := List.mem_range.mp hi
  have hs := g.hbmOfAddr_le (a := 256 * k + 32 * i) (by omega)
  refine .ite (.setF g _ ?_) (.refl g)
  simp only [BelowRings, Fld.key, Fld.at, HBM_POISON_RD, fRO, Fld.arr]
  omega

theorem Dev.steerKept_backRead (d : Dev) (k mask : Nat) (wr : Bool) : Dev.SteerKept d (d.backRead k mask wr) := by
  unfold Dev.backRead
  split
  · next hk =>
    dsimp only
    have h : Dev.SteerKept d (if mask = 15 then d.hbmAsk (256 * k) 256 false (clsOf d.cel.orig wr) d.cel.dline
        else (upTo 4).foldl (fun g i => if bitAt mask i then g.hbmAsk (256 * k + 64 * i) 64 false (clsOf d.cel.orig wr) g.cel.dline else g) d) :=
      .ite (.emit d _) (.foldl (fun g i => .ite (.emit g _) (.refl g)) _ d)
    exact h.trans (Dev.steerKept_poisonRead _ hk fun g i => bitAt mask (i / 2) && g.rawBad (256 * k + 32 * i) 32)
  · exact .refl d

/-- The counters and entries of what the SECDED finds in sectors. -/
theorem Dev.steerKept_sectorsLost (d : Dev) (k lost : Nat) (l : List Nat) (detail : Nat → List DF) :
    Dev.SteerKept d (l.foldl (fun g i => if bitAt lost i then (g.inc CEL_UE 1 (homeOf k)).logUE 0x4001 (homeOf k) (detail i) else g) d) :=
  .foldl (fun g _ => .ite ((g.steerKept_celInc (f := CEL_UE) 1 k (by decide) rfl (by decide)).trans (.logUE _ _ _ _)) (.refl g)) _ d

theorem Dev.steerKept_lineCheck (d : Dev) (k mask : Nat) : Dev.SteerKept d (d.lineCheck k mask) := by
  unfold Dev.lineCheck
  split
  · exact .refl d
  · next l hl =>
    dsimp only
    refine .ite (.refl d) ?_
    have h := (d.steerKept_celInc (f := CEL_CE) ((upTo 4).countP (bitAt (Nat.land l.weak mask))) k (by decide) rfl (by decide)).trans
      (Dev.steerKept_sectorsLost _ k (Nat.land (Nat.land l.bad mask) l.dirty) (upTo 4) fun i => [dA (256 * k + 64 * i), dU 1 i, dC 0])
    generalize (upTo 4).foldl (fun (g : Dev) i => if bitAt (Nat.land (Nat.land l.bad mask) l.dirty) i then
      (g.inc CEL_UE 1 (homeOf k)).logUE 0x4001 (homeOf k) [dA (256 * k + 64 * i), dU 1 i, dC 0] else g)
        (d.inc CEL_CE ((upTo 4).countP (bitAt (Nat.land l.weak mask))) (homeOf k)) = e at h ⊢
    refine .ite (h.trans (.setCel _ _ _)) (.ite (.ite (h.trans (.setCel _ _ _)) (h.trans (.setCel _ _ _))) ?_)
    exact (((h.trans (e.steerKept_backRead k (maskMinus (Nat.land l.bad mask) l.dirty) false)).trans (.setCel _ _ _)).trans
      (Dev.steerKept_celInc _ (f := CEL_REFETCH) 1 k (by decide) rfl (by decide))).trans (.repAbort _ _ _ _)

/-- A write of bytes goes to memory behind the slice. -/
theorem Dev.steerKept_through (d : Dev) (k lo : Nat) (w : WrBytes) (cls dline : Nat) :
    Dev.SteerKept d ((if 256 * k < hbmEnd then d.hbmAsk (256 * k + lo) w.length true cls dline else d).rawWrite (256 * k + lo) w) :=
  (Dev.SteerKept.ite (.emit d _) (.refl d)).trans (.memOnly (Dev.memOnly_rawWrite _ _ _))

/-- A write that allocates nothing. -/
theorem Dev.steerKept_writeLine (d : Dev) (k lo : Nat) (w : WrBytes) (first : Bool) (orig : Nat) :
    Dev.SteerKept d (d.writeLine k lo w true first orig) := by
  unfold Dev.writeLine
  dsimp only
  have hc : Dev.SteerKept d { d with cel := { d.cel with orig := orig } } := .of_csr rfl
  have h := hc.trans (Dev.steerKept_invHolders _ k false orig 4)
  generalize { d with cel := { d.cel with orig := orig } }.invHolders k false orig 4 = e at h ⊢
  have hg : Dev.SteerKept d (if sectorsFull lo w = 15 then { e with cel := { e.cel with lost := Sparse.set false e.cel.lost k false } } else e) :=
    h.trans (.ite (.of_csr rfl) (.refl e))
  generalize (if sectorsFull lo w = 15 then { e with cel := { e.cel with lost := Sparse.set false e.cel.lost k false } } else e) = g at hg ⊢
  split
  · exact ((hg.trans (g.steerKept_lineCheck _ _)).trans
      (.ite (.refl _) (Dev.steerKept_celInc _ (f := CEL_HITS) 1 k (by decide) rfl (by decide)))).trans (.setCel _ _ _)
  · refine .ite (hg.trans (g.steerKept_through _ _ _ _ _)) ?_
    rw [Bool.true_or, if_pos rfl]
    exact (hg.trans (g.steerKept_celInc (f := CEL_MISSES) 1 k (by decide) rfl (by decide))).trans (Dev.steerKept_through _ _ _ _ _ _)

/-! ### Accesses and captures -/

theorem Dev.steerKept_inWrite (d : Dev) (a : Nat) (w : WrBytes) (first : Bool) (orig : Nat) :
    Dev.SteerKept d (d.inWrite a w true first orig).2 := by
  unfold Dev.inWrite
  split
  · exact .memOnly (d.memOnly_rawWrite _ _)
  · split
    · next h => exact d.steerKept_qcAccess_write rfl h
    · exact .refl d
  · exact .refl d
  · exact .refl d
  · exact .foldl (fun g k => g.steerKept_writeLine k _ _ _ _) _ d

theorem Dev.steerKept_accWrite (d : Dev) (stop a : Nat) (w : WrBytes) : Dev.SteerKept d (d.accWrite stop a w true).2 := by
  unfold Dev.accWrite
  dsimp only
  split
  · exact .logStatus d _ _ _ _
  · have hc : Dev.SteerKept d (d.causedBy (ridOf stop 0) (d.dlineOf stop 0 true)) := .of_csr rfl
    exact hc.trans (Dev.steerKept_inWrite _ _ _ _ _)

theorem Dev.steerKept_ringWrite (d : Dev) (n c at_ : Nat) (bs : List Byte) : Dev.SteerKept d (d.ringWrite n c at_ bs) := by
  unfold Dev.ringWrite
  exact .ite (d.steerKept_accWrite _ _ _) ((d.steerKept_accWrite _ _ _).trans (Dev.steerKept_accWrite _ _ _ _))

theorem Dev.steerKept_hxEdgeSeen (d : Dev) (r e : Nat) (rising : Bool) : Dev.SteerKept d (d.hxEdgeSeen r e rising) := by
  have hhigh {f : Fld} (v : Nat) (g : Dev) (h : 0x9C00000 ≤ f.off) (hl : f.lo < 64) : Dev.SteerKept g (g.setF f v r e) := by
    refine .setF g v ?_
    simp only [BelowRings, Fld.key, Fld.at]
    omega
  unfold Dev.hxEdgeSeen
  refine .ite (.refl d) (.ite (.emit d _) (.ite ?_ ?_))
  · exact (hhigh _ d (by decide) (by decide)).trans (hhigh _ _ (by decide) (by decide))
  · exact (hhigh _ d (by decide) (by decide)).trans (hhigh _ _ (by decide) (by decide))

theorem Dev.steerKept_eventPulse (d : Dev) (k : Nat) : Dev.SteerKept d (d.eventPulse k) :=
  ((Dev.SteerKept.emit d _).trans (.foldl (fun g _ => g.steerKept_hxEdgeSeen _ _ _) _ _)).trans (.foldl (fun g _ => g.steerKept_hxEdgeSeen _ _ _) _ _)

/-- A record captured into ring 0 of a die that its rings do not feed. -/
theorem Dev.steerKept_capture (d : Dev) {n : Nat} (x : CapRec) (hf : d.ringFed n = false) : Dev.SteerKept d (d.capture n 0 x) := by
  unfold Dev.capture
  refine .ite (.refl d) ?_
  rw [hf, if_neg (by decide)]
  dsimp only
  refine .ite ?_ ?_
  · have h := (Dev.SteerKept.setPrt d n _ : Dev.SteerKept d (d.setRing n 0 { d.ringOf n 0 with lost := satAdd 32 (d.ringOf n 0).lost 1 }))
    have hi : Dev.SteerKept d (if (d.setRing n 0 { d.ringOf n 0 with lost := satAdd 32 (d.ringOf n 0).lost 1 }).running
        && (d.setRing n 0 { d.ringOf n 0 with lost := satAdd 32 (d.ringOf n 0).lost 1 }).fld REP_ROLE == 1 then
          (d.setRing n 0 { d.ringOf n 0 with lost := satAdd 32 (d.ringOf n 0).lost 1 }).setF REP_INCOMPLETE 1
        else d.setRing n 0 { d.ringOf n 0 with lost := satAdd 32 (d.ringOf n 0).lost 1 }) :=
      .ite (h.trans (.setF _ _ (by unfold BelowRings; decide))) h
    exact .ite (hi.trans (Dev.steerKept_eventPulse _ _)) hi
  · refine Dev.SteerKept.trans (Dev.SteerKept.trans (Dev.SteerKept.trans (.ite (.refl d) (.logEv d (by decide) _ _ _ _)) (Dev.steerKept_ringWrite _ _ _ _ _))
      (.setF _ _ ?_)) (.setPrt _ _ _)
    simp only [BelowRings, Fld.key, Fld.at, CAP_HEAD, prtN, Reg.prt, fRO, Fld.arr2]
    omega

end Sys2Proof.Machine
end

section
/-! SUPPORT. The golden endpoint: a request by what it finds, the ends of the pending ones, outbound requests and injection. -/

namespace Sys2Proof.Machine
open Sys2Proof.Machine.Reg

/-! ### DUT_REQUEST -/

section
variable {d : Dev} {n : Nat} {q : DutReq}

theorem Dev.steerOf_kept {e : Dev} (h : Dev.SteerKept d e) (hn : n < 4) : e.steerOf n q = d.steerOf n q := by
  have hfld {f : Fld} {i : Nat} (hi : i ∈ upTo 16) (h0 : f.off = 0x7010100 ∨ f.off = 0x7010108) (h1 : f.s1 = 0x100000) (h2 : f.s2 = 16) (h3 : f.lo < 64) :
      e.fld f n i = d.fld f n i := by
    have hi16 : i < 16 := List.mem_range.mp hi
    refine h.fld f n i ?_
    simp only [BelowRings, Fld.key, Fld.at, h1, h2]
    omega
  unfold Dev.steerOf
  refine List.find?_congr fun i hi => ?_
  simp only [hfld (f := STEER_BASE) hi (.inr rfl) rfl rfl (by decide), hfld (f := STEER_KIND) hi (.inl rfl) rfl rfl (by decide),
    hfld (f := STEER_FN) hi (.inr rfl) rfl rfl (by decide), hfld (f := STEER_BAR) hi (.inr rfl) rfl rfl (by decide),
    hfld (f := STEER_SIZE) hi (.inr rfl) rfl rfl (by decide)]

/-- A request that has come in: its credit is free, and it is captured. -/
def Dev.seen (d : Dev) (n : Nat) (q : DutReq) : Dev :=
  (d.fcFree n q.link.val).captureNow n 0 0 (2 * q.link.val) 0
    (Config.tlpBytes [dutCode q.kind, q.fn.val, q.bar.val, q.off.toNat, q.tag.toNat, q.len] (q.data.map (·.getD 0)))

theorem Dev.steerOf_seen (hn : n < 4) (hf : d.ringFed n = false) : (d.seen n q).steerOf n q = d.steerOf n q := by
  have hc : Dev.SteerKept d (d.fcFree n q.link.val) := .of_csr rfl
  exact Dev.steerOf_kept (hc.trans (Dev.steerKept_capture _ _ hf)) hn

/-- The controller serves a request. -/
structure DutServed (d : Dev) (n : Nat) (q : DutReq) : Prop where
  up : d.portUp n = true
  mode : d.prtEff PC_MODE n = 3
  fed : d.ringFed n = false
  room : d.dutWaits n q = false

/-- What the endpoint does, unless the rings feed the die. -/
def Dev.dutTaken (d : Dev) (n : Nat) (q : DutReq) : Dev := d.unlessFed n fun d => d.dutReq n q

theorem DutServed.guard (h : DutServed d n q) : (!d.portUp n || d.prtEff PC_MODE n != 3 || d.dutWaits n q) = false := by
  rw [h.up, h.mode, h.room]
  rfl

theorem DutServed.taken (h : DutServed d n q) : d.dutTaken n q = d.dutReq n q := by
  unfold Dev.dutTaken Dev.unlessFed
  rw [h.fed, if_neg (by decide)]

theorem DutServed.cfg (h : DutServed d n q) (hk : dutCfg q.kind = true) :
    d.dutTaken n q
      = (d.seen n q).pended n { req := q, start := (d.seen n q).clk.tick, ans := if q.kind = .cfgWr then some (0, []) else none } := by
  have hp : dutPosted q.kind = false := by cases hq : q.kind <;> simp [hq, dutCfg, dutPosted] at hk ⊢
  have hw : dutWrites q.kind = decide (q.kind = .cfgWr) := by cases hq : q.kind <;> simp [hq, dutCfg, dutWrites] at hk ⊢
  rw [h.taken]
  unfold Dev.dutReq
  rw [h.guard, if_neg (by decide)]
  dsimp only
  rw [if_pos hk, hp, hw, if_neg (by decide)]
  simp only [decide_eq_true_eq]
  rfl

theorem DutServed.unmatched (h : DutServed d n q) (hn : n < 4) (hk : dutCfg q.kind = false) (hs : d.steerOf n q = none) :
    d.dutTaken n q = (if q.kind = .memWr then (d.seen n q).inc GE_UNMATCHED 1 n
      else ((d.seen n q).inc GE_UNMATCHED 1 n).answer n q "Cpl.UR" 0 0 [1] []) := by
  have hs' : (d.seen n q).steerOf n q = none := (Dev.steerOf_seen hn h.fed).trans hs
  have hp : dutPosted q.kind = decide (q.kind = .memWr) := by cases q.kind <;> rfl
  unfold Dev.seen at hs' ⊢
  rw [h.taken]
  unfold Dev.dutReq
  rw [h.guard, if_neg (by decide)]
  dsimp only
  rw [hk, if_neg (by decide), hs', hp]
  simp only [decide_eq_true_eq]

theorem DutServed.toMemory {i : Nat} (h : DutServed d n q) (hk : dutCfg q.kind = false) (hq : q.kind ≠ .memWr)
    (hs : (d.seen n q).steerOf n q = some i) (hi : (d.seen n q).fld STEER_KIND n i = 1) :
    d.dutTaken n q = ((d.seen n q).steerMem n i q).2.pended n
      { req := q, start := ((d.seen n q).steerMem n i q).2.clk.tick, ans := ((d.seen n q).steerMem n i q).1 } := by
  have hp : dutPosted q.kind = false := by cases hq' : q.kind <;> simp [hq', dutPosted] at hq ⊢
  unfold Dev.seen at hs hi ⊢
  rw [h.taken]
  unfold Dev.dutReq
  rw [h.guard, if_neg (by decide)]
  dsimp only
  rw [hk, if_neg (by decide), hs]
  dsimp only
  rw [hi, if_pos rfl, hp, if_neg (by decide), if_neg (by decide)]

theorem DutServed.posted {i : Nat} (h : DutServed d n q) (hq : q.kind = .memWr)
    (hs : (d.seen n q).steerOf n q = some i) (hi : (d.seen n q).fld STEER_KIND n i = 1) :
    d.dutTaken n q = (if (((d.seen n q).steerMem n i q).1.getD (0, [])).1 = 0 then ((d.seen n q).steerMem n i q).2
      else ((d.seen n q).steerMem n i q).2.inc GE_WR_DROP 1 n) := by
  unfold Dev.seen at hs hi ⊢
  rw [h.taken]
  unfold Dev.dutReq
  rw [h.guard, if_neg (by decide)]
  dsimp only
  rw [if_neg (by rw [hq]; decide), hs]
  dsimp only
  rw [hi, if_pos rfl, if_pos (by rw [hq]; rfl)]
  rfl

theorem DutServed.toRegion {i : Nat} (h : DutServed d n q) (hk : dutCfg q.kind = false) (hq : q.kind ≠ .memWr)
    (hs : (d.seen n q).steerOf n q = some i) (hi : (d.seen n q).fld STEER_KIND n i = 2) :
    d.dutTaken n q = ((d.seen n q).steerRegion n i q).2.pended n
      { req := q, start := ((d.seen n q).steerRegion n i q).2.clk.tick, ans := ((d.seen n q).steerRegion n i q).1.map fun x => (x, []),
        region := some (((d.seen n q).steerRegion n i q).2.fld STEER_TARGET n i % 32, q.tag.toNat) } := by
  have hp : dutPosted q.kind = false := by cases hq' : q.kind <;> simp [hq', dutPosted] at hq ⊢
  unfold Dev.seen at hs hi ⊢
  rw [h.taken]
  unfold Dev.dutReq
  rw [h.guard, if_neg (by decide)]
  dsimp only
  rw [hk, if_neg (by decide), hs]
  dsimp only
  rw [hi, if_neg (by decide), hp, if_neg (by decide), if_neg (by decide)]

theorem Dev.dutTaken_waits (h : d.portUp n = false ∨ d.prtEff PC_MODE n ≠ 3 ∨ d.dutWaits n q = true) : d.dutTaken n q = d := by
  unfold Dev.dutTaken Dev.unlessFed Dev.dutReq
  split
  · rfl
  · refine if_pos ?_
    rcases h with h | h | h <;> simp [h]

end

/-! ### Answers and budgets -/

section
variable {d : Dev} {n : Nat} {x : DutPend}

/-- What the endpoint does as an answer reaches it. -/
def Dev.answered (d : Dev) (n : Nat) (a : GeSent) : Dev :=
  if d.portUp n then
    match a.what with
    | .req tag => d.geAnswer n tag.toNat (a.part.map (·.toNat))
    | .fc link => if d.prtEff PC_MODE n = 3 then d.fcAnswer n link.val else d
  else d

/-- What it does as a budget runs out. -/
def Dev.expired (d : Dev) (n : Nat) (w : GeResp) : Dev :=
  if d.portUp n then
    match w with
    | .req tag => match d.pendOf n tag.toNat with
      | some x => d.budgetOut n x
      | none => d
    | .fc link => d.fcOut n link.val
  else d

section
variable {t : BitVec 14} {st : Nat} {bs : List Byte}
variable (hup : d.portUp n = true) (hx : d.pendOf n t.toNat = some x)
include hup hx

/-- An answer in time is sent, whole or in part. -/
def Dev.sentNow (d : Dev) (n : Nat) (x : DutPend) (st : Nat) (bs : List Byte) : Option Nat → Dev
  | some k => if x.req.kind = .memRd ∧ st = 0 ∧ x.sent + k < x.req.len then d.sendPart n x (bs.drop x.sent) k else d.sendAnswer n x st (bs.drop x.sent)
  | none => d.sendAnswer n x st (bs.drop x.sent)

/-- One that comes after its budget. -/
def Dev.sentLate (d : Dev) (n tag : Nat) (x : DutPend) (bs : List Byte) : Dev :=
  (((if x.standin then d else d.standIn n x 1).inc GE_LATE_DROP 1 n).captureNow n 0 6 (1 + 2 * x.req.link.val) 0 bs).dropPend n tag

/-- The answer of any request but a configuration read is what its target gave. -/
theorem Dev.answered_req (part : Option (BitVec 13)) (hk : x.req.kind ≠ .cfgRd) (ha : x.ans = some (st, bs)) (hw : x.withheld = false) :
    d.answered n ⟨.req t, part⟩ =
      if x.standin || decide (x.start + d.budget n x.req.kind < d.clk.tick) then Dev.sentLate { d with freeCtr := d.freeCtr + 1 } n t.toNat x bs
      else Dev.sentNow { d with freeCtr := d.freeCtr + 1 } n x st bs (part.map (·.toNat)) := by
  unfold Dev.answered Dev.geAnswer
  rw [if_pos hup]
  dsimp only
  rw [hx]
  dsimp only
  rw [if_neg hk, ha]
  dsimp only
  rw [hw, if_neg (by decide)]
  cases part <;> rfl

theorem Dev.answered_inTime (part : Option (BitVec 13)) (hk : x.req.kind ≠ .cfgRd) (ha : x.ans = some (st, bs))
    (hw : x.withheld = false ∧ x.standin = false) (ht : d.clk.tick ≤ x.start + d.budget n x.req.kind) :
    d.answered n ⟨.req t, part⟩ = Dev.sentNow { d with freeCtr := d.freeCtr + 1 } n x st bs (part.map (·.toNat)) := by
  rw [Dev.answered_req hup hx part hk ha hw.1, hw.2, if_neg (by simpa using ht)]

theorem Dev.answered_late (part : Option (BitVec 13)) (hk : x.req.kind ≠ .cfgRd) (ha : x.ans = some (st, bs)) (hw : x.withheld = false)
    (ht : x.standin = true ∨ x.start + d.budget n x.req.kind < d.clk.tick) :
    d.answered n ⟨.req t, part⟩ = Dev.sentLate { d with freeCtr := d.freeCtr + 1 } n t.toNat x bs := by
  rw [Dev.answered_req hup hx part hk ha hw, if_pos (by simpa using ht)]

theorem Dev.expired_req (hw : x.withheld = false) (hs : x.standin = false) :
    d.expired n (.req t) = ((d.tickTo (x.start + d.budget n x.req.kind)).standIn n x 1).setPend n { x with standin := true } := by
  unfold Dev.expired
  rw [if_pos hup]
  dsimp only
  rw [hx]
  exact if_neg (by simp [hw, hs])

end

theorem Dev.expired_none {t : BitVec 14} (hx : d.pendOf n t.toNat = none) : d.expired n (.req t) = d := by
  unfold Dev.expired
  dsimp only
  rw [hx]
  exact ite_self d

end

section
variable {d : Dev} {n u : Nat} {k : Fin 4} (hup : d.portUp n = true) (hu : (d.fcOf n k.val).due = some u) (hs : (d.fcOf n k.val).stood = false)
include hup hu hs

/-- An UpdateFC in time. -/
theorem Dev.answered_fc (hm : d.prtEff PC_MODE n = 3) (hh : (d.fcOf n k.val).hold ≤ d.clk.tick) (ht : d.clk.tick ≤ u + d.fcBudget n) :
    d.answered n ⟨.fc k, none⟩ = (d.fcSend n k.val 1 0 (d.fcOf n k.val).freed).setFc n k.val
      { d.fcOf n k.val with due := none, adv := (d.fcOf n k.val).freed } := by
  unfold Dev.answered
  rw [if_pos hup]
  dsimp only
  rw [if_pos hm]
  unfold Dev.fcAnswer
  dsimp only
  rw [if_neg (by omega), if_neg (by simpa [hu, hs] using ht)]

/-- One whose budget runs out. -/
theorem Dev.expired_fc (hh : (d.fcOf n k.val).hold ≤ u + d.fcBudget n) :
    d.expired n (.fc k) = (((d.tickTo (u + d.fcBudget n)).standInLog n k.val 0 0 1).fcSend n k.val 5 8 (d.fcOf n k.val).adv).setFc n k.val
      { d.fcOf n k.val with stood := true } := by
  unfold Dev.expired
  rw [if_pos hup]
  unfold Dev.fcOut
  dsimp only
  rw [hu]
  dsimp only
  rw [if_neg (by simp [hs, hh])]

end

/-! ### Outbound requests -/

/-- A window of the host of port die `n`. -/
theorem placeOf_host {n o : Nat} (hn : n < 4) (ho : o < 2 ^ 44) : placeOf (0x4000_0000_0000 + n * 2 ^ 44 + o) = .host n o := by
  have h1 : ¬ 0x4000_0000_0000 + n * 2 ^ 44 + o < hbmEnd := by unfold hbmEnd; omega
  have h2 : ¬ (0x0100_0000_0000 ≤ 0x4000_0000_0000 + n * 2 ^ 44 + o ∧ 0x4000_0000_0000 + n * 2 ^ 44 + o < 0x0100_8000_0000) := by omega
  have h3 : ¬ (0x0200_0000_0000 ≤ 0x4000_0000_0000 + n * 2 ^ 44 + o ∧ 0x4000_0000_0000 + n * 2 ^ 44 + o < 0x0200_0800_0000) := by omega
  have h4 : ¬ (0x0300_0000_0000 ≤ 0x4000_0000_0000 + n * 2 ^ 44 + o ∧ 0x4000_0000_0000 + n * 2 ^ 44 + o < 0x0300_0600_0000) := by omega
  have h5 : 0x4000_0000_0000 ≤ 0x4000_0000_0000 + n * 2 ^ 44 + o ∧ 0x4000_0000_0000 + n * 2 ^ 44 + o < 0x8000_0000_0000 := by omega
  have h6 : (0x4000_0000_0000 + n * 2 ^ 44 + o - 0x4000_0000_0000) / 2 ^ 44 = n := by omega
  have h7 : (0x4000_0000_0000 + n * 2 ^ 44 + o) % 2 ^ 44 = o := by omega
  unfold placeOf
  rw [if_neg h1, if_neg h2, if_neg h3, if_neg h4, if_pos h5, h6, h7]

section
variable {d : Dev} {q : Rq} {a n off len : Nat} {wr : Option WrBytes}

/-- A request to a host window that the Cellar does not cache leaves on the host's link. -/
theorem Dev.request_host (hp : placeOf a = .host n off) (hst : d.accStatus a len = 0) (hc : d.hostCached a = false) :
    d.request q a len wr false false none = d.outReq n q off len wr := by
  have hl : d.localAddr a = a := by simp only [Dev.localAddr, hp]
  have hr : inRemoteWindow a = false := by simp only [inRemoteWindow, hp]
  have hh : d.addrHeld a = false := by simp only [Dev.addrHeld, hl, hp]
  unfold Dev.request
  simp only [Bool.false_and, Bool.false_eq_true, if_false, hst, ne_eq, not_true_eq_false, hl, hr, hh, hp, hc]

/-- A read leaves, or waits for a place. -/
theorem Dev.outReq_read :
    d.outReq n q off len none =
      if 4096 ≤ (d.prtOf n).outb.length then d.setPrt n { d.prtOf n with outWait := (d.prtOf n).outWait ++ [(q, off, len)] }
      else d.outSend n q off len none := by
  unfold Dev.outReq
  simp only [Option.isNone_none, Bool.true_and, decide_eq_true_eq]

end

/-- A read as a command runs. -/
theorem State.outReq_read (s : State) (n : Nat) (q : Rq) (off len : Nat) :
    s.fresh.outReq n q off len none =
      (let args := [(s.dev.fld OUT_BASE n + off) % 2 ^ 64, len, s.dev.fld OUT_FN n, s.dev.fld OUT_PASID_EN n, s.dev.fld OUT_PASID n]
       if 4096 ≤ (s.dev.prtOf n).outb.length then s.fresh.setPrt n { s.dev.prtOf n with outWait := (s.dev.prtOf n).outWait ++ [(q, off, len)] }
       else
        let d := (s.fresh.captureNow n 0 0 1 0 (Config.tlpBytes (0 :: args) [])).toDut n "MRd" args []
        d.setPrt n { d.prtOf n with outb := (d.prtOf n).outb ++ [{ q := q, len := len }] }) := Dev.outReq_read

/-- And a write. -/
theorem State.outReq_write (s : State) (n : Nat) (q : Rq) (off : Nat) (w : WrBytes) :
    s.fresh.outReq n q off w.length (some w) =
      (let args := [(s.dev.fld OUT_BASE n + off) % 2 ^ 64, w.length, s.dev.fld OUT_FN n, s.dev.fld OUT_PASID_EN n, s.dev.fld OUT_PASID n]
       (((s.fresh.captureNow n 0 0 1 0 (Config.tlpBytes (1 :: args) (w.map (·.getD 0)))).toDut n "MWr" args (w.map (·.getD 0)))).emit
        (.resp (reqId q) q.tag.toNat 0 [])) := rfl

theorem State.fresh_accStatus (s : State) (a n : Nat) : s.fresh.accStatus a n = s.dev.accStatus a n := rfl

theorem State.fresh_hostCached (s : State) (a : Nat) : s.fresh.hostCached a = s.dev.hostCached a := rfl

/-- An outbound read ends. -/
def Dev.outEnded (d : Dev) (n : Nat) (e : OutEnd) : Dev := if d.portUp n then d.outEnd n (outResult e).1 (outResult e).2 else d

theorem Dev.outEnded_oldest {d : Dev} {n : Nat} {o : Outb} {r : List Outb} (e : OutEnd) (hup : d.portUp n = true) (ho : (d.prtOf n).outb = o :: r) :
    d.outEnded n e =
      ((d.setPrt n { d.prtOf n with outb := r }).emit (.resp (reqId o.q) o.q.tag.toNat (outResult e).1 (outResult e).2)).outNext n := by
  unfold Dev.outEnded Dev.outEnd
  rw [if_pos hup, ho]

/-! ### Injection -/

/-- The trigger of an entry occurs at a controller that runs. -/
def Dev.injFired (d : Dev) (n i matched : Nat) : Dev := if d.portUp n then d.injTrigger n i matched else d

theorem Dev.injFired_off {d : Dev} {n i m : Nat} (h : d.flag INJ_EN n = false) : d.injFired n i m = d := by
  unfold Dev.injFired Dev.injTrigger
  simp [h]

section
variable {d : Dev} {n i : Nat} {e : Inj} (m : Nat) (hup : d.portUp n = true) (hen : d.flag INJ_EN n = true)
variable (he : Sparse.get {} (d.prtOf n).inj i = e) (ha : e.armed = true) (ht : d.fld INJ_TRIG n i = 0)
include hup hen he ha ht

theorem Dev.injFired_counted (hs : (e.seen + 1) % max 1 (d.fld INJ_EVERY n i) ≠ 0) :
    d.injFired n i m = d.setPrt n { d.prtOf n with inj := Sparse.set {} (d.prtOf n).inj i { e with seen := e.seen + 1 } } := by
  unfold Dev.injFired Dev.injTrigger
  rw [if_pos hup]
  dsimp only
  rw [he, ht, if_neg (by simp [hen, ha]), if_neg zero_ne_one, if_pos hs]

/-- Fault 12 of a link. -/
theorem Dev.injFired_fault12 (hs : (e.seen + 1) % max 1 (d.fld INJ_EVERY n i) = 0) (hf : d.fld INJ_FAULT n i = 12) (hg : d.fld INJ_TARGET n i ≤ 3) :
    d.injFired n i m =
      ((((d.setPrt n { d.prtOf n with
          inj := Sparse.set {} (d.prtOf n).inj i (if e.left ≤ 1 then {} else { e with seen := e.seen + 1, left := e.left - 1 }) }).captureNow
        n 0 7 1 4 []).toDut n "inject" [12, d.fld INJ_TARGET n i, d.fld INJ_ARG n i] [])).eventPulse (4 * n + 2) := by
  have h11 : ¬ (12 : Nat) = 11 := by decide
  have h15 : ¬ (12 : Nat) = 15 := by decide
  unfold Dev.injFired Dev.injTrigger
  rw [if_pos hup]
  dsimp only
  rw [he, ht, if_neg (by simp [hen, ha]), if_neg zero_ne_one, if_neg (by omega), hf]
  dsimp only [injRing]
  rw [if_pos hg, if_neg h11, if_neg h15]
  rfl

end

/-- A field that is not kept by tile. -/
theorem Dev.inst_of_shared (d : Dev) {f : Fld} (i : Nat) (h : tileLogical.contains f = false) : d.inst f i = i := by
  unfold Dev.inst
  rw [h, if_neg (by decide)]

/-- PRT registers. -/
theorem Dev.csrWrite_port {d : Dev} {p : Path} {off : Nat} {g : Dev} (v : Word64) (h : Reaches d p off) (ha : off % 8 = 0)
    (h1 : 0x7000000 ≤ off) (h2 : off < 0x7400000)
    (hh : d.hookPort ((off - 0x7000000) / 0x100000) off 8 (pathCode p) v.toNat (2 ^ 64 - 1) = some (false, g)) :
    d.csrWrite p off 8 v.toNat = g.emit .wrDone := by
  have e1 : (v.toNat % 2 ^ 64 * 2 ^ 0) = v.toNat := by have := v.isLt; omega
  have e2 : ((2 ^ 64 - 1) * 2 ^ 0 : Nat) = 2 ^ 64 - 1 := rfl
  have c1 : ¬ off < 0x1000000 := by omega
  have c2 : ¬ off < 0x1410000 := by omega
  have c3 : ¬ (0x2000000 ≤ off ∧ off < 0x2100000) := by omega
  have c4 : ¬ (0x3000000 ≤ off ∧ off < 0x7000000) := by omega
  rw [Dev.csrWrite_reaches v h ha (by omega)]
  unfold Dev.regWrite
  rw [merge_full, e1, e2]
  simp only [c1, c2, c3, c4, h1, h2, hh, and_self, if_true, if_false, Option.getD_some]

section
variable {d : Dev} {n : Nat} {p : Path} {v : Word64} (hn : n < 4) (h : Reaches d p (0x7050000 + 0x100000 * n))
include hn h

/-- A write of PRT_INJ_CTL by its key. -/
theorem Dev.write64_injCtl_wrongKey (hk : bits v.toNat 48 16 ≠ 0x3A9F) :
    write64 p (0x7050000 + 0x100000 * n) v d = (d.csrAccess (0x7050000 + 0x100000 * n) 8 (pathCode p) 2).emit .wrDone := by
  have ho : (0x7050000 + 0x100000 * n) % 0x100000 = 0x50000 := by omega
  refine Dev.csrWrite_port v h (by omega) (by omega) (by omega) ?_
  unfold Dev.hookPort
  dsimp only
  rw [ho, if_neg (by decide), if_neg (by decide), if_neg (by decide), if_pos rfl, if_pos hk]

omit h in
theorem regFields_injCtl : regFields (0x7050000 + 0x100000 * n) = [(INJ_EN, n, 0)] := by
  have hall : ∀ n : Fin 4, regFields (0x7050000 + 0x100000 * n.val) = [(INJ_EN, n.val, 0)] := by decide +kernel
  exact hall ⟨n, hn⟩

theorem Dev.write64_injCtl_off (hk : bits v.toNat 48 16 = 0x3A9F) (h0 : bits v.toNat 0 1 = 0) (hen : d.flag INJ_EN n = true) :
    write64 p (0x7050000 + 0x100000 * n) v d =
      ((d.setF INJ_EN 0 n).setPrt n { (d.setF INJ_EN 0 n).prtOf n with inj := [] }).emit .wrDone := by
  have ho : (0x7050000 + 0x100000 * n) % 0x100000 = 0x50000 := by omega
  have hi : (0x7050000 + 0x100000 * n - 0x7000000) / 0x100000 = n := by omega
  have hw : d.writeReg (0x7050000 + 0x100000 * n) v.toNat (2 ^ 64 - 1) = d.setF INJ_EN 0 n := by
    unfold Dev.writeReg
    rw [regFields_injCtl hn, List.foldl_cons, List.foldl_nil, Dev.writeFld_full _ _ _ _ _ rfl (by decide) (by decide),
      show bits v.toNat INJ_EN.lo INJ_EN.w = 0 from h0, if_pos (by decide), d.inst_of_shared n (by decide)]
  have hoff : (d.setF INJ_EN 0 n).flag INJ_EN n = false := by
    unfold Dev.flag
    rw [Dev.fld_setF_self]
    rfl
  refine Dev.csrWrite_port v h (by omega) (by omega) (by omega) ?_
  rw [hi]
  unfold Dev.hookPort
  dsimp only
  rw [ho, if_neg (by decide), if_neg (by decide), if_neg (by decide), if_pos rfl, if_neg (not_not.mpr hk), hw, hoff, hen, if_neg (by decide)]
  rfl

end

/-- Settles O48: requests by what they find, captures leaving the steering entries alone; answers and budgets by the pending request; outbound
requests and injection case by case. -/
theorem goldenEndpoint : Obligations.GoldenEndpoint := by
  refine ⟨fun s n q hg hw hk hs => ?_, fun s n q hg hw hk => ?_, fun s n q i hg hw hk hq hs hi => ?_, fun s n q i hg hw hk hq hs hi => ?_,
    fun s n q i hg hw hq hs hi => ?_, fun s n q hinv h => ?_, fun s n t x st bs hup hx hk ha hw ht => ?_, fun s n t x bs k hup hx hk ha hw hlen ht => ?_,
    fun s n t x st bs hup hx hk ha hw ht => ?_, fun s n t x hup hx hw hs => ?_, fun s n t hinv hx => ?_, fun s n k u hup hm hu hs hh ht => ?_,
    fun s n k u hup hu hs hh => ?_, fun s n q o hl hst hc => ?_, fun s n q o w hl hst hc => ?_, fun s n o r e hup ho => ?_,
    fun s n i v e hup hen he ha ht hs hf hg => ?_, fun s n i v e hinv hup hen he ha ht hs => ?_, fun s n i v hinv hen => ?_,
    fun s n p hinv h hen => ?_, fun s n p v h hk => ?_⟩
  · exact .of_eq (f := fun d => d.dutTaken n.val q) rfl (DutServed.unmatched (d := s.fresh) ⟨hg.1, hg.2.1, hg.2.2, hw⟩ n.isLt hk hs)
  · exact .of_eq (f := fun d => d.dutTaken n.val q) rfl (DutServed.cfg (d := s.fresh) ⟨hg.1, hg.2.1, hg.2.2, hw⟩ hk)
  · exact .of_eq (f := fun d => d.dutTaken n.val q) rfl (DutServed.toMemory (d := s.fresh) ⟨hg.1, hg.2.1, hg.2.2, hw⟩ hk hq hs hi)
  · exact .of_eq (f := fun d => d.dutTaken n.val q) rfl (DutServed.toRegion (d := s.fresh) ⟨hg.1, hg.2.1, hg.2.2, hw⟩ hk hq hs hi)
  · exact .of_eq (f := fun d => d.dutTaken n.val q) rfl (DutServed.posted (d := s.fresh) ⟨hg.1, hg.2.1, hg.2.2, hw⟩ hq hs hi)
  · exact .of_idle (f := fun d => d.dutTaken n.val q) hinv rfl (Dev.dutTaken_waits (d := s.fresh) h)
  · exact .of_eq (f := fun d => d.answered n.val ⟨.req t, none⟩) rfl (Dev.answered_inTime (d := s.fresh) hup hx none hk ha hw ht)
  · have hreq : x.req.kind ≠ .cfgRd := by rw [hk]; decide
    exact .of_eq (f := fun d => d.answered n.val ⟨.req t, some k⟩) rfl
      ((Dev.answered_inTime (d := s.fresh) hup hx (some k) hreq ha hw ht).trans (if_pos ⟨hk, rfl, hlen⟩))
  · exact .of_eq (f := fun d => d.answered n.val ⟨.req t, none⟩) rfl (Dev.answered_late (d := s.fresh) hup hx none hk ha hw ht)
  · exact .of_eq (f := fun d => d.expired n.val (.req t)) rfl (Dev.expired_req (d := s.fresh) hup hx hw hs)
  · exact .of_idle (f := fun d => d.expired n.val (.req t)) hinv rfl (Dev.expired_none (d := s.fresh) hx)
  · exact .of_eq (f := fun d => d.answered n.val ⟨.fc k, none⟩) rfl (Dev.answered_fc (d := s.fresh) hup hu hs hm hh ht)
  · exact .of_eq (f := fun d => d.expired n.val (.fc k)) rfl (Dev.expired_fc (d := s.fresh) hup hu hs hh)
  · have hp := placeOf_host n.isLt (Nat.mod_lt o.toNat (by decide : 0 < 2 ^ 44))
    exact .of_live (f := fun d => d.request q (0x4000_0000_0000 + n.val * 2 ^ 44 + o.toNat % 2 ^ 44) 8 none false false none) rfl hl
      ((Dev.request_host (d := s.fresh) hp ((s.fresh_accStatus _ _).trans hst) ((s.fresh_hostCached _).trans hc)).trans (s.outReq_read _ _ _ _))
  · have hp := placeOf_host n.isLt (Nat.mod_lt o.toNat (by decide : 0 < 2 ^ 44))
    exact .of_live (f := fun d => d.request q (0x4000_0000_0000 + n.val * 2 ^ 44 + o.toNat % 2 ^ 44) w.length (some w) false false none) rfl hl
      ((Dev.request_host (d := s.fresh) hp ((s.fresh_accStatus _ _).trans hst) ((s.fresh_hostCached _).trans hc)).trans (s.outReq_write _ _ _ _))
  · refine .of_eq (f := fun d => d.outEnded n.val e) rfl ((Dev.outEnded_oldest (d := s.fresh) e hup ho).trans ?_)
    cases e <;> rfl
  · exact .of_eq (f := fun d => d.injFired n.val i.val v.toNat) rfl (Dev.injFired_fault12 (d := s.fresh) v.toNat hup hen he ha ht hs hf hg)
  · exact .of_calm (f := fun d => d.injFired n.val i.val v.toNat) hinv rfl (Dev.injFired_counted (d := s.fresh) v.toNat hup hen he ha ht hs)
      ((Dev.Calm.refl _).setPrt _ _)
  · exact .of_idle (f := fun d => d.injFired n.val i.val v.toNat) hinv rfl (Dev.injFired_off (d := s.fresh) hen)
  · have hrep : REP_STATE.key 0 0 ≠ INJ_EN.key n.val 0 := Fld.repState_ne (by decide)
    refine .of_calm (f := write64 p (0x7050000 + 0x100000 * n.val) 0x3A9F000000000000) hinv rfl
      (Dev.write64_injCtl_off (d := s.fresh) n.isLt h (by decide) (by decide) hen)
      ((((Dev.Calm.refl _).setF 0 hrep).setPrt _ _).emit rfl) ⟨?_, ?_, rfl, rfl⟩
    · show (s.fresh.setF INJ_EN 0 n.val).flag INJ_EN n.val = false
      unfold Dev.flag
      rw [Dev.fld_setF_self]
      rfl
    · exact congrArg Prt.inj (Dev.prtOf_setPrt_self _ _ _)
  · exact .of_eq (f := write64 p (0x7050000 + 0x100000 * n.val) v) rfl (Dev.write64_injCtl_wrongKey (d := s.fresh) n.isLt h hk)

end Sys2Proof.Machine
end

section
/-! SUPPORT. Power-up, the reset pins and power failure (chapter 02). -/

namespace Sys2Proof.Machine
open Sys2Proof.Machine.Reg

/-! ### What follows from a command that clears the device -/

/-- A device whose coupling links, Cellar and safety block are empty has nothing to go on with. -/
theorem Dev.follow_empty {d : Dev} (old : Dev) (hx : d.cpl = {}) (hs : d.safe = {}) (hc : d.cel = {}) : d.follow old = d := by
  have hgo : d.heldGo = d := by
    unfold Dev.heldGo
    rw [hs]
    dsimp only [List.foldl_nil]
    rw [← hs]
  have hin : d.intakeGo 65536 = d := by
    have hnone : ((upTo 16).find? fun s => !(d.celReady s).isEmpty) = none :=
      find?_none_of_forall fun s _ => by simp [Dev.celReady, hc]
    unfold Dev.intakeGo
    rw [hnone]
  have hxf : d.xferGo d.cpl.waiting.length = d := by rw [hx]; rfl
  unfold Dev.follow
  dsimp only
  rw [hxf, ite_self, hgo, ite_self, hin, ite_self]

/-- The entry of an event that does not stay pending leaves the safety block alone. -/
theorem Dev.logEv_safe (d : Dev) {ev : Nat} {c : Cls} (hc : c ≠ .S) (h : stickyEvents.contains ev = false) (n : Nat) (l : List DF) (o : Bool) :
    (d.logEv ev c n l o).safe = d.safe := by
  unfold Dev.logEv
  rw [h, if_neg (by decide)]
  cases c with
  | S => exact absurd rfl hc
  | _ => exact Dev.post_safe _ _

theorem Dev.keepCount_safe (d : Dev) (n : Nat) : (d.keepCount n).safe = d.safe := by
  unfold Dev.keepCount Dev.keepCommit
  dsimp only
  split
  · rw [Dev.logEv_safe _ (by decide) (by decide)]; rfl
  · rfl

theorem Dev.railReport_safe (d : Dev) (n : Nat) : (d.railReport n).safe = d.safe := by
  unfold Dev.railReport
  split
  · rfl
  · rw [Dev.logEv_safe _ (by decide) (by decide)]; rfl

theorem Dev.keepWord_keepCount (d : Dev) (n k : Nat) : (d.keepCount n).keepWord k = if k = n then (d.keepWord n + 1) % 2 ^ 64 else d.keepWord k :=
  d.keepWord_keepCommit n _ k

/-- What a POR, a SYS or the loss of VAUX leaves, with nothing to go on with. -/
structure Dev.Wiped (d : Dev) : Prop where
  cleared : Cleared d
  safe : d.safe = {}
  out : d.plainOut = true
  run : d.fld REP_STATE = 0

theorem Ends.of_wiped {c : Instr} {s : State} {f : Dev → Dev} {P : Dev → Prop} (hc : exec c s = runAll s f) (hw : (f s.fresh).Wiped)
    (hP : P (f s.fresh)) : Ends c s P := by
  obtain ⟨⟨hmem, -, -, -, -, -, hcel, hcpl, -⟩, hsafe, hout, hrun⟩ := hw
  refine ⟨f s.fresh, hc.trans (runAll_eq rfl (Dev.follow_empty _ hcpl hsafe hcel) hout (fun _ => by rw [hrun]; decide) (by rw [hmem]; rfl)), hP⟩

/-! ### POR -/

section
variable {d : Dev} (ho : d.plainOut = true)
include ho

theorem Dev.wiped_porReset : d.porReset.Wiped := by
  have hfld {f : Fld} (hp : keyPersists (f.key 0 0) = false) (h1 : f.key 0 0 ≠ EMB_LOST.key 0 0) (h2 : f.key 0 0 ≠ KEEP_WORN_ANY.key 0 0)
      (h3 : f.key 0 0 ≠ EMB_CLEARING.key 0 0) (h4 : f.key 0 0 ≠ EMB_CHAL.key 0 0) (h5 : f.key 0 0 ≠ CAUSE_RAIL_ORDER.key 0 0) :
      d.porReset.fld f = f.rst := d.fld_porReset hp h1 h2 h3 h4 h5
  have hsafe : d.porReset.safe = {} := by
    unfold Dev.porReset
    rw [Dev.bigReset_safe, Dev.keepCount_safe, Dev.railReport_safe, Dev.afterFresh_safe, Dev.porWipe_safe]
  have hstate : d.porReset.cfgState = 0 := hfld (f := CFG_STATE) (by decide +kernel) (by decide) (by decide) (by decide) (by decide) (by decide)
  have hlock : d.porReset.flag CLK_ROOT_LOCK = false := by
    unfold Dev.flag
    rw [hfld (f := CLK_ROOT_LOCK) (by decide +kernel) (by decide) (by decide) (by decide) (by decide) (by decide)]
    rfl
  have hout : d.porReset.plainOut = true := by
    have hwipe : d.emberAgain.porWipe.plainOut = d.plainOut := by
      rw [Dev.plainOut_congr (Dev.porWipe_out _), Dev.plainOut_clear]
      unfold Dev.emberAgain
      split <;> rfl
    simp [Dev.porReset, hwipe, ho]
  refine ⟨⟨?_, ?_, ?_, ?_, ?_, ?_, ?_, ?_, ?_, ?_, ?_, ?_, by rw [hsafe], hstate, hlock⟩, hsafe, hout,
    hfld (f := REP_STATE) (by decide +kernel) (by decide) (by decide) (by decide) (by decide) (by decide)⟩
  all_goals simp [Dev.porReset]

end

theorem Dev.porReset_cause (d : Dev) : d.porReset.flag CAUSE_POR = true := by
  unfold Dev.flag
  rw [d.fld_porReset (f := CAUSE_POR) (by decide +kernel) (by decide) (by decide) (by decide) (by decide) (by decide)]
  rfl

theorem Dev.porReset_vauxHold (d : Dev) : d.porReset.rst.vauxHold = false := by
  simp [Dev.porReset, Dev.porWipe]

/-- The Keep words of a device whose bank stays; word 0 has counted. -/
theorem Dev.keepWord_counted {d e : Dev} (h : e.keep.words = d.keep.words) (scope k : Nat) :
    ((e.keepCount 0).bigReset scope).keepWord k = if k = 0 then (d.keepWord 0 + 1) % 2 ^ 64 else d.keepWord k := by
  have hw (n : Nat) : e.keepWord n = d.keepWord n := congrArg (Sparse.get 0 · n) h
  rw [show ((e.keepCount 0).bigReset scope).keepWord k = (e.keepCount 0).keepWord k from congrArg (fun x : Keep => Sparse.get 0 x.words k) (Dev.bigReset_keep _ _),
    Dev.keepWord_keepCount, hw, hw]

theorem Dev.porReset_keepWord {d : Dev} (hr : d.keep.running = none) (hq : d.keep.queue = []) (k : Nat) :
    d.porReset.keepWord k = if k = 0 then (d.keepWord 0 + 1) % 2 ^ 64 else d.keepWord k := by
  refine Dev.keepWord_counted ?_ 0 k
  have hkeep : d.emberAgain.keep = d.keep := by unfold Dev.emberAgain; split <;> rfl
  rw [Dev.railReport_keep, Dev.afterFresh_keep, Dev.porWipe_keep, Dev.fresh_words _ _ (by rw [hkeep, hr]) (by rw [hkeep, hq]), hkeep]

/-! ### SYS_RST_N -/

section
variable {d : Dev} {b : Fld}

/-- The frame of a SYS; its cause stands in GLB_RST_CAUSE. -/
theorem Dev.wiped_sysReset (ho : d.plainOut = true) (hc : b.key 0 0 ≠ CFG_STATE.key 0 0) (hl : b.key 0 0 ≠ CLK_ROOT_LOCK.key 0 0)
    (hr : b.key 0 0 ≠ REP_STATE.key 0 0) : (d.sysReset b).Wiped := by
  have hfld {f : Fld} (hp : keyPersists (f.key 0 0) = false) (hq : keySys (f.key 0 0) = false) (h1 : f.key 0 0 ≠ EMB_LOST.key 0 0)
      (h2 : f.key 0 0 ≠ KEEP_WORN_ANY.key 0 0) (h3 : f.key 0 0 ≠ EMB_CLEARING.key 0 0) (h4 : f.key 0 0 ≠ EMB_CHAL.key 0 0)
      (h5 : f.key 0 0 ≠ COL_ID.key 0 0) (h6 : f.key 0 0 ≠ b.key 0 0) : (d.sysReset b).fld f = f.rst := d.fld_sysReset b hp hq h1 h2 h3 h4 h5 h6
  have hsafe : (d.sysReset b).safe = {} := by
    unfold Dev.sysReset
    dsimp only
    rw [Dev.bigReset_safe, Dev.keepCount_safe, Dev.setF_safe, Dev.afterFresh_safe, Dev.raise_safe, Dev.fresh_safe]
  have hstate : (d.sysReset b).cfgState = 0 :=
    hfld (f := CFG_STATE) (by decide +kernel) (by decide) (by decide) (by decide) (by decide) (by decide) (by decide) hc.symm
  have hlock : (d.sysReset b).flag CLK_ROOT_LOCK = false := by
    unfold Dev.flag
    rw [hfld (f := CLK_ROOT_LOCK) (by decide +kernel) (by decide) (by decide) (by decide) (by decide) (by decide) (by decide) hl.symm]
    rfl
  refine ⟨⟨?_, ?_, ?_, ?_, ?_, ?_, ?_, ?_, ?_, ?_, ?_, ?_, by rw [hsafe], hstate, hlock⟩, hsafe, by simp [Dev.sysReset, ho],
    hfld (f := REP_STATE) (by decide +kernel) (by decide) (by decide) (by decide) (by decide) (by decide) (by decide) hr.symm⟩
  all_goals simp [Dev.sysReset]

/-- A one-bit field that has been set. -/
theorem Dev.flag_raise (d : Dev) {f : Fld} (hw : f.w = 1) : (d.raise f).flag f = true := by
  unfold Dev.flag
  rw [Dev.fld_raise]
  unfold Dev.setBit
  rw [Dev.fld_setF_self, hw]
  simp only [setBits, bits, if_true, bne_iff_ne, ne_eq, pow_zero, pow_one]
  omega

theorem Dev.sysReset_cause (hw : b.w = 1) (h1 : b.key 0 0 ≠ EMB_LOST.key 0 0) (h2 : b.key 0 0 ≠ KEEP_WORN_ANY.key 0 0)
    (h3 : b.key 0 0 ≠ EMB_CLEARING.key 0 0) (h4 : b.key 0 0 ≠ EMB_CHAL.key 0 0) (h5 : b.key 0 0 ≠ COL_ID.key 0 0) : (d.sysReset b).flag b = true := by
  unfold Dev.flag Dev.sysReset Dev.keepCount
  dsimp only
  rw [Dev.fld_bigReset _ _ h1, Dev.fld_keepCommit _ _ _ h1 h2, Dev.fld_setF_ne _ _ h5, Dev.fld_afterFresh _ _ h3 h4]
  exact Dev.flag_raise _ hw

section
variable (hr : d.keep.running = none) (hq : d.keep.queue = [])
include hr hq

theorem Dev.sysReset_keepWord (k : Nat) : (d.sysReset b).keepWord k = if k = 0 then (d.keepWord 0 + 1) % 2 ^ 64 else d.keepWord k := by
  refine Dev.keepWord_counted ?_ 1 k
  rw [Dev.setF_keep, Dev.afterFresh_keep, Dev.raise_keep, Dev.fresh_words _ _ hr hq]

/-- CPL_COLONY.ID starts at CFG_ID. -/
theorem Dev.sysReset_colId (hb : b.key 0 0 ≠ CFG_CHAIN_ID.key 0 0) : (d.sysReset b).fld COL_ID = d.fld CFG_CHAIN_ID % 2 ^ 9 := by
  unfold Dev.sysReset Dev.keepCount
  dsimp only
  rw [Dev.fld_bigReset _ _ (by decide), Dev.fld_keepCommit _ _ _ (by decide) (by decide), Dev.fld_setF_self, Dev.fld_afterFresh _ _ (by decide) (by decide),
    Dev.fld_raise, Dev.fld_setBit_ne _ _ _ hb.symm, Dev.fld_fresh_kept _ _ (.inl (by decide +kernel)) hr hq]
  rfl

end

end

/-- What SYS_RST_N leaves of the device, with what its release samples. -/
theorem Dev.wiped_sysPin {d : Dev} (ho : d.plainOut = true) (m c a : Nat) (h : Bool) : (d.sysPin m c a h).Wiped := by
  obtain ⟨hcleared, hsafe, hout, hrun⟩ := Dev.wiped_sysReset (d := (d.setF CFG_MODE m).setF CFG_CHAIN_ID c) (b := CAUSE_SYS_PIN)
    ho (by decide) (by decide) (by decide)
  exact ⟨hcleared, hsafe, by simpa [Dev.sysPin, Dev.plainOut, Dev.emit, Out.plain] using hout, hrun⟩

/-- The fields after a SYS_RST_N: its cause, the straps, and the cause of a POR as it was. -/
theorem Dev.sysPin_fields {d : Dev} {m c : Nat} (hr : d.keep.running = none) (hq : d.keep.queue = []) (hm : m < 2 ^ 3) (hc : c < 2 ^ 9) (a : Nat) (h : Bool) :
    (d.sysPin m c a h).flag CAUSE_SYS_PIN = true ∧ (d.sysPin m c a h).fld CFG_MODE = m ∧ (d.sysPin m c a h).fld CFG_CHAIN_ID = c
      ∧ (d.sysPin m c a h).fld COL_ID = c ∧ (d.sysPin m c a h).flag CAUSE_POR = d.flag CAUSE_POR := by
  have hcfg : ((d.setF CFG_MODE m).setF CFG_CHAIN_ID c).fld CFG_CHAIN_ID = c := by
    rw [Dev.fld_setF_self]
    exact Nat.mod_eq_of_lt hc
  have hkept {f : Fld} (hp : keyPersists (f.key 0 0) = true ∨ keySys (f.key 0 0) = true) (h1 : f.key 0 0 ≠ EMB_LOST.key 0 0)
      (h2 : f.key 0 0 ≠ KEEP_WORN_ANY.key 0 0) (h3 : f.key 0 0 ≠ EMB_CLEARING.key 0 0) (h4 : f.key 0 0 ≠ EMB_CHAL.key 0 0)
      (h5 : f.key 0 0 ≠ COL_ID.key 0 0) (h6 : f.key 0 0 ≠ CAUSE_SYS_PIN.key 0 0) :
      (d.sysPin m c a h).fld f = ((d.setF CFG_MODE m).setF CFG_CHAIN_ID c).fld f :=
    Dev.fld_sysReset_kept _ _ hr hq hp h1 h2 h3 h4 h5 h6
  refine ⟨?_, ?_, ?_, ?_, ?_⟩
  · exact Dev.sysReset_cause rfl (by decide) (by decide) (by decide) (by decide) (by decide)
  · rw [hkept (f := CFG_MODE) (.inl (by decide +kernel)) (by decide) (by decide) (by decide) (by decide) (by decide) (by decide),
      Dev.fld_setF_ne _ _ (by decide), Dev.fld_setF_self]
    exact Nat.mod_eq_of_lt hm
  · rw [hkept (f := CFG_CHAIN_ID) (.inl (by decide +kernel)) (by decide) (by decide) (by decide) (by decide) (by decide) (by decide), hcfg]
  · refine (Dev.sysReset_colId (d := (d.setF CFG_MODE m).setF CFG_CHAIN_ID c) hr hq (by decide)).trans ?_
    rw [hcfg]
    exact Nat.mod_eq_of_lt hc
  · unfold Dev.flag
    rw [hkept (f := CAUSE_POR) (.inr (by decide +kernel)) (by decide) (by decide) (by decide) (by decide) (by decide) (by decide),
      Dev.fld_setF_ne _ _ (by decide), Dev.fld_setF_ne _ _ (by decide)]

section
variable {d : Dev} {ns mode : Nat} {taken high : Bool}

theorem Dev.sysRstN_short (id smb : Nat) (h : ns < 800) : d.sysRstN ns taken mode id smb high = d := by
  refine if_pos ?_
  simp [show ¬ 1000 ≤ ns by omega, show ¬ 800 ≤ ns by omega]

theorem Dev.sysRstN_acts (id smb : Nat) (hl : d.safLive = true) (hn : 1000 ≤ ns ∨ (800 ≤ ns ∧ taken = true))
    (hp : d.rst.pfail = true → d.rst.pfailDone = true) :
    d.sysRstN ns taken mode id smb high = d.sysPin mode id smb high := by
  unfold Dev.sysRstN
  have hlong : (!d.safLive || !(decide (1000 ≤ ns) || (decide (800 ≤ ns) && taken))) = false := by
    rcases hn with h | ⟨h, ht⟩
    · simp [hl, h]
    · simp [hl, h, ht]
  rw [hlong, if_neg (by decide), if_neg (by simpa using hp)]

end

/-! ### VAUX -/

section
variable {d : Dev}

theorem Dev.vauxLoss_eq (hl : d.safLive = true) (torn : Nat) (hit : Bool) :
    d.vauxLoss torn hit = ((d.embTear torn).keepHurt hit).vauxWipe.afterFresh d.safe.low := by
  unfold Dev.vauxLoss
  rw [hl]
  rfl

/-- The torn entry is a matter of the Ember record. -/
theorem Dev.embTear_eq (d : Dev) (torn : Nat) : ∃ m, d.embTear torn = { d with ember := m } := by
  unfold Dev.embTear
  split
  · exact ⟨_, rfl⟩
  · next e _ _ =>
    by_cases h : (!d.ember.ready) = true ∨ (if d.embPins e then 16 else 8) ≤ torn
    · exact ⟨d.ember, if_pos h⟩
    · exact ⟨_, if_neg h⟩

theorem Dev.wiped_vauxLoss (ho : d.plainOut = true) (hl : d.safLive = true) (torn : Nat) (hit : Bool) : (d.vauxLoss torn hit).Wiped := by
  rw [Dev.vauxLoss_eq hl]
  obtain ⟨m, hm⟩ := d.embTear_eq torn
  have hplain : ((d.embTear torn).keepHurt hit).plainOut = true := by rw [hm]; exact ho
  generalize (d.embTear torn).keepHurt hit = e at hplain ⊢
  have hfld {f : Fld} (hp : keyPersists (f.key 0 0) = false) (h3 : f.key 0 0 ≠ EMB_CLEARING.key 0 0) (h4 : f.key 0 0 ≠ EMB_CHAL.key 0 0) :
      (e.vauxWipe.afterFresh d.safe.low).fld f = f.rst := by
    rw [Dev.fld_afterFresh _ _ h3 h4]
    exact Dev.fld_fresh e (fun _ => false) hp rfl
  have hstate : (e.vauxWipe.afterFresh d.safe.low).cfgState = 0 := hfld (f := CFG_STATE) (by decide +kernel) (by decide) (by decide)
  have hlock : (e.vauxWipe.afterFresh d.safe.low).flag CLK_ROOT_LOCK = false := by
    unfold Dev.flag
    rw [hfld (f := CLK_ROOT_LOCK) (by decide +kernel) (by decide) (by decide)]
    rfl
  have hout : (e.vauxWipe.afterFresh d.safe.low).plainOut = true := by
    rw [Dev.plainOut_afterFresh, Dev.plainOut_congr (Dev.vauxWipe_out e), Dev.plainOut_clear, hplain]
  refine ⟨⟨?_, ?_, ?_, ?_, ?_, ?_, ?_, ?_, ?_, ?_, ?_, ?_, by simp, hstate, hlock⟩, by simp, hout,
    hfld (f := REP_STATE) (by decide +kernel) (by decide) (by decide)⟩
  all_goals simp

theorem Dev.vauxLoss_held (hl : d.safLive = true) (torn : Nat) (hit : Bool) :
    (d.vauxLoss torn hit).rst.vauxHold = true ∧ (d.vauxLoss torn hit).live = false := by
  rw [Dev.vauxLoss_eq hl]
  have hh : (((d.embTear torn).keepHurt hit).vauxWipe.afterFresh d.safe.low).rst.vauxHold = true := by
    rw [Dev.afterFresh_rst]
    rfl
  refine ⟨hh, ?_⟩
  unfold Dev.live
  rw [hh]
  simp only [Bool.not_true, Bool.and_false, Bool.false_and]

theorem Dev.vauxLoss_keepWord (hl : d.safLive = true) (torn : Nat) (hit : Bool) (k : Nat) : (d.vauxLoss torn hit).keepWord k = d.keepWord k := by
  obtain ⟨m, hm⟩ := d.embTear_eq torn
  have hwords : (d.vauxLoss torn hit).keep.words = d.keep.words := by
    rw [Dev.vauxLoss_eq hl, Dev.afterFresh_keep, Dev.vauxWipe_keep, Dev.fresh_words _ _ rfl rfl, hm]
    rfl
  exact congrArg (Sparse.get 0 · k) hwords

end

/-! ### ROOT lock -/

/-- What ROOT lock waits for. -/
structure Dev.Unlocked (d : Dev) : Prop where
  lock : d.flag CLK_ROOT_LOCK = false
  vauxHold : d.rst.vauxHold = false
  pfailHold : d.rst.pfailHold = false
  jtagHold : d.rst.jtagHold = false
  rootLost : d.rst.rootLost = false
  tripped : d.rst.tripped = false
  pfail : d.rst.pfail = false
  pfailDone : d.rst.pfailDone = false

section
variable {d : Dev}

/-- The device as ROOT lock comes. -/
def Dev.atLock (d : Dev) : Dev := (({ d with clk := {} }.setF CLK_ROOT_LOCK 1).uart 0x01).uart 0x02

theorem Dev.rootLocked_eq (h : d.Unlocked) : d.rootLocked = (if d.atLock.bootStart.cfgState = 6 then d.atLock.bootStart.uart 0x09 else d.atLock.bootStart) := by
  unfold Dev.rootLocked
  rw [h.lock, h.vauxHold, h.pfailHold, h.jtagHold, h.rootLost, h.tripped, h.pfailDone, h.pfail]
  rfl

theorem Dev.Calm.uart {d e : Dev} (h : d.Calm e) (c : Nat) : d.Calm (e.uart c) := by
  refine h.trans ⟨by simp, by simp, by simp, by simp, fun p => by simpa using p, ?_⟩
  exact e.fld_uart c (f := REP_STATE) (by decide)

/-- From `d` to `e` the clocks, what holds the core and its ROOT lock have stayed, and nothing follows. -/
structure Dev.LockKept (d e : Dev) : Prop where
  calm : d.Calm e
  clk : e.clk = d.clk
  rst : e.rst = d.rst
  lock : e.fld CLK_ROOT_LOCK = d.fld CLK_ROOT_LOCK

namespace Dev.LockKept

variable {d e : Dev}

theorem refl (d : Dev) : d.LockKept d := ⟨.refl d, rfl, rfl, rfl⟩

theorem setF (h : d.LockKept e) {f : Fld} (v : Nat) (hr : REP_STATE.key 0 0 ≠ f.key 0 0) (hl : CLK_ROOT_LOCK.key 0 0 ≠ f.key 0 0) :
    d.LockKept (e.setF f v) := ⟨h.calm.setF v hr, h.clk, h.rst, (Dev.fld_setF_ne e v hl).trans h.lock⟩

theorem uart (h : d.LockKept e) (c : Nat) : d.LockKept (e.uart c) :=
  ⟨h.calm.uart c, (Dev.uart_clk e c).trans h.clk, (Dev.uart_rst e c).trans h.rst, (e.fld_uart c (f := CLK_ROOT_LOCK) (by decide)).trans h.lock⟩

theorem load (h : d.LockKept e) (l : Load) : d.LockKept { e with load := l } :=
  ⟨h.calm.trans ⟨rfl, rfl, rfl, rfl, id, rfl⟩, h.clk, h.rst, h.lock⟩

theorem trans {g : Dev} (h : d.LockKept e) (k : e.LockKept g) : d.LockKept g :=
  ⟨h.calm.trans k.calm, k.clk.trans h.clk, k.rst.trans h.rst, k.lock.trans h.lock⟩

/-- The entry of a load that failed. -/
theorem logged (h : d.LockKept e) (ev n v : Nat) (l : List DF) (o : Bool) : d.LockKept ((e.logEv ev .F n l o).msix v) := by
  refine ⟨(h.calm.logEv (by decide)).msix v, by simp [h.clk], by simp [h.rst], ?_⟩
  rw [Dev.fld_msix _ _ (by simp only [Fld.key, Fld.at, CLK_ROOT_LOCK, MGT_INT_STAT, fRO, fW1C, Fld.arr]; omega),
    Dev.fld_logEv _ _ (by decide) _ _ _ (by decide), h.lock]

end Dev.LockKept

/-- What the boot ROM starts goes by CFG_MODE. -/
def bootState (mode : Nat) : Nat := if mode ≤ 2 then 1 else if mode ≤ 4 then 6 else 7

theorem Dev.bootStart_kept (d : Dev) : d.LockKept d.bootStart := by
  have hawait (b s p : Bool) (n : Nat) : d.LockKept (d.loadAwait b s p n) := ((Dev.LockKept.refl d).load _).setF 1 (by decide) (by decide)
  have hwait : d.LockKept (d.setF CFG_STATE 6) := (Dev.LockKept.refl d).setF 6 (by decide) (by decide)
  unfold Dev.bootStart
  split
  · exact hawait _ _ _ _
  · exact hawait _ _ _ _
  · exact hawait _ _ _ _
  · exact hwait
  · exact hwait
  · exact ((((Dev.LockKept.refl d).setF 2 (by decide) (by decide)).uart _).logged _ _ _ _ _).setF 7 (by decide) (by decide)

theorem Dev.bootStart_state (d : Dev) : d.bootStart.cfgState = bootState (d.fld CFG_MODE) := by
  have hset (e : Dev) (v : Nat) : (e.setF CFG_STATE v).cfgState = v % 2 ^ 4 := Dev.fld_setF_self e CFG_STATE v 0 0
  unfold Dev.bootStart
  split
  · next h => rw [h]; exact hset _ 1
  · next h => rw [h]; exact hset _ 1
  · next h => rw [h]; exact hset _ 1
  · next h => rw [h]; exact hset _ 6
  · next h => rw [h]; exact hset _ 6
  · next h0 h1 h2 h3 h4 =>
    have hne : d.fld CFG_MODE ≠ 0 ∧ d.fld CFG_MODE ≠ 1 ∧ d.fld CFG_MODE ≠ 2 ∧ d.fld CFG_MODE ≠ 3 ∧ d.fld CFG_MODE ≠ 4 := ⟨h0, h1, h2, h3, h4⟩
    rw [hset, bootState, if_neg (by omega), if_neg (by omega)]
    rfl

/-- The device once ROOT has locked. -/
theorem Dev.rootLocked_ends (h : d.Unlocked) :
    Dev.LockKept ({ d with clk := {} }.setF CLK_ROOT_LOCK 1) d.rootLocked ∧ d.rootLocked.cfgState = bootState (d.fld CFG_MODE) := by
  have hlock : Dev.LockKept ({ d with clk := {} }.setF CLK_ROOT_LOCK 1) d.atLock := ((Dev.LockKept.refl _).uart _).uart _
  have hmode : d.atLock.fld CFG_MODE = d.fld CFG_MODE := by
    unfold Dev.atLock
    rw [Dev.fld_uart _ _ (by decide), Dev.fld_uart _ _ (by decide), Dev.fld_setF_ne _ _ (by decide)]
    rfl
  have hstate : d.atLock.bootStart.cfgState = bootState (d.fld CFG_MODE) := (Dev.bootStart_state _).trans (congrArg _ hmode)
  have hboot := hlock.trans d.atLock.bootStart_kept
  rw [Dev.rootLocked_eq h]
  split
  · refine ⟨hboot.uart _, ?_⟩
    rw [← hstate]
    exact Dev.fld_uart _ _ (by decide)
  · exact ⟨hboot, hstate⟩

end

/-! ### Power failure -/

section
variable {d : Dev} {ns : Nat}

theorem Dev.pfailAccept_short (h : ns < 200) : d.pfailAccept ns = d := if_pos (.inl h)

/-- PFAIL_N accepted: its cause, SAFE_N and the status line. -/
def Dev.pfailSeen (d : Dev) : Dev := ({ d.raise CAUSE_PFAIL with rst := { d.rst with pfail := true } }.driveSafeN).uart 0xF1

theorem Dev.fld_driveSafeN (d : Dev) {f : Fld} {i j : Nat} (h : f.key i j ≠ SAF_PIN.key 0 0) : d.driveSafeN.fld f i j = d.fld f i j := by
  unfold Dev.driveSafeN
  split
  · rw [Dev.fld_emit, Dev.fld_setF_ne _ _ h]; rfl
  · rfl

theorem Dev.fld_pfailSeen (d : Dev) {f : Fld} {i j : Nat} (h1 : f.key i j ≠ MGT_UART_DROP.key 0 0) (h2 : f.key i j ≠ SAF_PIN.key 0 0)
    (h3 : f.key i j ≠ CAUSE_PFAIL.key 0 0) : d.pfailSeen.fld f i j = d.fld f i j := by
  unfold Dev.pfailSeen
  rw [Dev.fld_uart _ _ h1, Dev.fld_driveSafeN _ h2]
  exact Dev.fld_setBit_ne _ _ _ h3

theorem Dev.pfailSeen_member (d : Dev) : d.pfailSeen.member d.pfailSeen.selfId = d.member d.selfId := by
  have hself : d.pfailSeen.selfId = d.selfId := d.fld_pfailSeen (f := COL_ID) (by decide) (by decide) (by decide)
  unfold Dev.member Dev.fbit
  rw [hself, d.fld_pfailSeen]
  all_goals simp only [Fld.key, Fld.at, CPL_MEMBER, MGT_UART_DROP, SAF_PIN, CAUSE_PFAIL, fRO, fW1C, Fld.arr]; omega

theorem Dev.pfailSeen_idle (d : Dev) : d.pfailSeen.keep = d.keep ∧ d.pfailSeen.safe.handover = d.safe.handover ∧ d.pfailSeen.running = d.running := by
  refine ⟨by simp [Dev.pfailSeen], by simp [Dev.pfailSeen], ?_⟩
  unfold Dev.running
  rw [d.fld_pfailSeen (f := REP_STATE) (by decide) (by decide) (by decide)]

/-- What stops as PFAIL_N is accepted: the run, a handover, the membership, and the Keep writes but the count of this failure. -/
def Dev.pfailStops (d : Dev) : Dev :=
  let d := d.repAbort 11 0x0005 0
  let d := if d.safe.handover.isSome then d.handoverOff else d
  let d := d.leaveColony
  let d := match d.keep.running with
    | some (w, _) => d.keepAnswer w true
    | none => d
  let d := d.keepFlush
  let d := d.keep.queue.foldl (fun d w => d.keepAnswer w false) d
  { d with keep := { d.keep with queue := [], refused := d.keep.refused + d.keep.queue.length } }

/-- Nothing stops where nothing runs. -/
theorem Dev.pfailStops_idle (hrun : d.running = false) (hm : d.member d.selfId = false) (ho : d.safe.handover = none) (hr : d.keep.running = none)
    (hq : d.keep.queue = []) : d.pfailStops = d := by
  have habort : d.repAbort 11 0x0005 0 = d := if_neg (by rw [hrun]; decide)
  have hleave : d.leaveColony = d := if_neg (by rw [hm]; decide)
  unfold Dev.pfailStops
  rw [habort]
  dsimp only
  rw [ho]
  dsimp only [Option.isSome_none]
  rw [if_neg (by decide), hleave, hr]
  dsimp only
  rw [Dev.keepFlush_idle hr hq, hq]
  dsimp only [List.foldl_nil]
  rw [← hq, show d.keep.queue.length = 0 from congrArg List.length hq]
  rfl

theorem Dev.pfailAccept_stops (hn : 200 ≤ ns) (hl : d.safLive = true) (hp : d.rst.pfail = false) (hh : d.rst.pfailHold = false) :
    d.pfailAccept ns = (d.pfailSeen.pfailStops.keepCount 1).logF 0x0005 0
      [dN d.ember.queue.length, dN (d.pfailSeen.pfailStops.keepCount 1).keep.refused] := by
  unfold Dev.pfailAccept
  rw [if_neg (by rw [hl, hp, hh]; simpa using hn)]
  rfl

theorem Dev.keepCount_refused (d : Dev) (n : Nat) : (d.keepCount n).keep.refused = d.keep.refused := by
  unfold Dev.keepCount Dev.keepCommit
  dsimp only
  split
  · rw [Dev.logEv_keep]; rfl
  · rfl

theorem Dev.pfailAccept_idle (hn : 200 ≤ ns) (hl : d.safLive = true) (hp : d.rst.pfail = false) (hh : d.rst.pfailHold = false) (hrun : d.running = false)
    (hm : d.member d.selfId = false) (ho : d.safe.handover = none) (hr : d.keep.running = none) (hq : d.keep.queue = []) :
    d.pfailAccept ns = (d.pfailSeen.keepCount 1).logF 0x0005 0 [dN d.ember.queue.length, dN d.keep.refused] := by
  obtain ⟨hkeep, hhand, hruns⟩ := d.pfailSeen_idle
  rw [Dev.pfailAccept_stops hn hl hp hh, Dev.pfailStops_idle (hruns.trans hrun) ((Dev.pfailSeen_member d).trans hm) (hhand.trans ho) (by rw [hkeep, hr])
    (by rw [hkeep, hq]), Dev.keepCount_refused, hkeep]

/-- The device holds itself in reset. -/
def Dev.pfailHeld (d : Dev) : Dev := { d with rst := { d.rst with pfailDone := true }, svc := { d.svc with up := false } }

section
variable (hp : d.rst.pfail = true) (hd : d.rst.pfailDone = false) (hq : d.ember.queue = [])
include hp hd hq

theorem Dev.pfailEnd_held (hw : d.rst.sysWait = none) : d.pfailEnd = d.pfailHeld := by
  have hcommit : d.embCommitAll 128 = d := if_pos hq
  unfold Dev.pfailEnd
  rw [if_neg (by rw [hp, hd]; decide), hcommit]
  dsimp only
  split
  · next h => cases hw.symm.trans h
  · rfl

theorem Dev.pfailEnd_sysPin {m c a : Nat} {h : Bool} (hw : d.rst.sysWait = some (m, c, a, h)) : d.pfailEnd = d.pfailHeld.sysPin m c a h := by
  have hcommit : d.embCommitAll 128 = d := if_pos hq
  unfold Dev.pfailEnd
  rw [if_neg (by rw [hp, hd]; decide), hcommit]
  dsimp only
  split
  · next h => cases hw.symm.trans h; rfl
  · next h => cases hw.symm.trans h

end

/-- A write of GLB_RST_CTL once PFAIL_N is accepted, or after a thermal trip. -/
theorem Dev.write64_rstCtl_dead {p : Path} {v : Word64} (h : Reaches d p 0x228) (hk : bits v.toNat 48 16 = 0xC1A5) (ht : d.rst.tripped || d.rst.pfail) :
    write64 p 0x228 v d = d.emit .wrDone := by
  have hdead : d.rstCtl 0x228 8 (pathCode p) v.toNat = d := by
    unfold Dev.rstCtl
    rw [if_neg (not_not.mpr hk), if_pos ht]
  exact (Dev.csrWrite_glb (off := 0x228) v h (by decide) (by decide) (by decide)).trans (congrArg (Dev.emit · .wrDone) hdead)

end

/-- Settles O7: the resets by what they wipe, the others by the branch that applies. -/
theorem powerAndResetPins : Obligations.PowerAndResetPins := by
  refine ⟨fun s => ?_, fun s ns taken mode id smb high hl hn hp hr hq => ?_, fun s ns taken mode id smb high hi hn => ?_, fun s rails hi => ?_,
    fun s torn hit hl => ?_, fun s hi => ?_, fun s hi hlock h1 h2 h3 h4 h5 h6 h7 => ?_, fun s ns hi hn => ?_,
    fun s ns hc hn hl hp hh hm ho hr hq => ?_, fun s p v hi h hk ht c hc => ?_, fun s hi hp hd hq hw => ?_, fun s m c a h hp hd hq hw => ?_⟩
  · have hw := Dev.wiped_porReset (d := s.fresh) rfl
    exact .of_wiped (f := fun d => d.porReset) rfl hw ⟨hw.cleared, Dev.porReset_cause _, Dev.porReset_vauxHold _,
      fun hr hq n => Dev.porReset_keepWord (d := s.fresh) hr hq n⟩
  · have hact : s.fresh.sysRstN ns taken mode.toNat id.toNat smb.toNat high = s.fresh.sysPin mode.toNat id.toNat smb.toNat high :=
      Dev.sysRstN_acts (d := s.fresh) _ _ hl hn hp
    have hw := Dev.wiped_sysPin (d := s.fresh) rfl mode.toNat id.toNat smb.toNat high
    obtain ⟨hsys, hmode, hcfg, hcol, hpor⟩ := Dev.sysPin_fields (d := s.fresh) hr hq mode.isLt id.isLt smb.toNat high
    rw [← hact] at hw hsys hmode hcfg hcol hpor
    refine .of_wiped (f := fun d => d.sysRstN ns taken mode.toNat id.toNat smb.toNat high) rfl hw ⟨hw.cleared, hsys, hmode, hcfg, hcol, ?_, ?_, hpor, fun n => ?_⟩
    · rw [hact]; rfl
    · rw [hact]; rfl
    · rw [hact]
      exact Dev.sysReset_keepWord (d := (s.fresh.setF CFG_MODE mode.toNat).setF CFG_CHAIN_ID id.toNat) hr hq n
  · exact .of_idle (f := fun d => d.sysRstN ns taken mode.toNat id.toNat smb.toNat high) hi rfl (Dev.sysRstN_short (d := s.fresh) _ _ hn)
  · exact .of_calm (f := fun d => d.vauxGood rails.toNat) hi rfl rfl ⟨rfl, rfl, rfl, rfl, id, rfl⟩
  · have hw := Dev.wiped_vauxLoss (d := s.fresh) rfl hl torn.val hit
    obtain ⟨hhold, hlive⟩ := Dev.vauxLoss_held (d := s.fresh) hl torn.val hit
    exact .of_wiped (f := fun d => d.vauxLoss torn.val hit) rfl hw ⟨hw.cleared, hhold, hlive, fun n => Dev.vauxLoss_keepWord (d := s.fresh) hl torn.val hit n⟩
  · exact .of_calm (f := fun d => d.pfailRise) hi rfl rfl ⟨rfl, rfl, rfl, rfl, id, rfl⟩
  · obtain ⟨hkept, hstate⟩ := Dev.rootLocked_ends (d := s.fresh) ⟨hlock, h1, h2, h3, h4, h5, h6, h7⟩
    have hflag : s.fresh.rootLocked.flag CLK_ROOT_LOCK = true := by
      unfold Dev.flag
      rw [hkept.lock, Dev.fld_setF_self]
      rfl
    have hlive : s.fresh.rootLocked.live = true := by
      unfold Dev.live
      rw [hflag, hkept.rst]
      simp [h1, h2, h3, h4, h5, h7]
    have hclk : Dev.Calm s.fresh { s.fresh with clk := {} } := ⟨rfl, rfl, rfl, rfl, id, rfl⟩
    have hcalm := hclk.setF (f := CLK_ROOT_LOCK) (i := 0) (j := 0) 1 (by decide)
    exact .of_calm (f := fun d => d.rootLocked) hi rfl rfl (hcalm.trans hkept.calm) ⟨hflag, hkept.clk, hlive, hstate⟩
  · exact .of_idle (f := fun d => d.pfailAccept ns) hi rfl (Dev.pfailAccept_short (d := s.fresh) hn)
  · exact .of_eq (f := fun d => d.pfailAccept ns) rfl (Dev.pfailAccept_idle (d := s.fresh) hn hl hp hh hc.1 hm ho hr hq)
  · have hwrite : write64 p 0x228 v s.fresh = s.fresh.emit .wrDone := Dev.write64_rstCtl_dead (d := s.fresh) h hk ht
    have hcalm : Dev.Calm s.fresh (s.fresh.emit .wrDone) := (Dev.Calm.refl _).emit rfl
    obtain rfl | rfl | rfl | rfl : c = .sys p v ∨ c = .reload p v ∨ c = .eng p v ∨ c = .tile p v := by simpa using hc
    all_goals exact .of_calm (f := write64 p 0x228 v) hi rfl hwrite hcalm
  · exact .of_calm (f := fun d => d.pfailEnd) hi rfl (Dev.pfailEnd_held (d := s.fresh) hp hd hq hw) ⟨rfl, rfl, rfl, rfl, id, rfl⟩
  · exact .of_eq (f := fun d => d.pfailEnd) rfl (Dev.pfailEnd_sysPin (d := s.fresh) hp hd hq hw)

end Sys2Proof.Machine
end

section
/-! SUPPORT. Flits, marks, credits and hop retries of the Annulus (chapter 08). -/

namespace Sys2Proof.Machine
open Sys2Proof.Machine.Reg

/-! ### A ring that waits -/

section
variable {d e : Dev}

/-- LL_WAIT, whatever the tile, lies in bits [63:0] of its register. -/
theorem Fld.key_ne_llWait {f : Fld} {i j : Nat} (h0 : 0 < f.lo) (h : f.lo < 64) (t : Nat) : f.key i j ≠ LL_WAIT.key t 0 := by
  have hf : f.key i j % 64 = f.lo := by unfold Fld.key; omega
  have hw : LL_WAIT.key t 0 % 64 = 0 := by
    have : LL_WAIT.key t 0 = LL_WAIT.at t 0 * 64 + 0 := rfl
    omega
  intro he
  rw [he, hw] at hf
  omega

theorem Dev.fld_llWaits {f : Fld} {i j : Nat} (h : ∀ t, f.key i j ≠ LL_WAIT.key t 0) (n : Nat) : (d.llWaits n).fld f i j = d.fld f i j := by
  unfold Dev.llWaits
  split
  · rfl
  · refine foldl_keeps (fun d : Dev => d.fld f i j) (fun d t => ?_) _ d
    split
    · exact Dev.fld_setF_ne _ _ (h _)
    · rfl

theorem Dev.fld_ppsPass (t u n : Nat) (f : Fld) (i j : Nat) : (d.ppsPass t u n).fld f i j = d.fld f i j := by
  unfold Dev.ppsPass
  split <;> rfl

/-- Time that passes leaves alone every field but the timestamp's slew, the run's clock and the waits of the Lamplighters. -/
theorem Dev.fld_pass {f : Fld} {i j : Nat} (hslew : f.key i j ≠ CLK_TS_SLEW.key 0 0) (hrt : f.key i j ≠ REP_RT.key 0 0)
    (h : ∀ t, f.key i j ≠ LL_WAIT.key t 0) (n : Nat) : (d.pass n).fld f i j = d.fld f i j := by
  unfold Dev.pass
  dsimp only
  refine (Dev.fld_llWaits h n).trans ?_
  split <;> split <;> simp only [Dev.fld_setF_ne _ _ hslew, Dev.fld_setF_ne _ _ hrt, Dev.fld_ppsPass]

/-- One-bit counts and flags of the Annulus among them. -/
theorem Dev.fld_ringWait {f : Fld} {i j : Nat} (hoff : 0x420 < f.off) (h0 : 0 < f.lo) (h : f.lo < 64) (k : Nat) :
    (d.ringWait k).fld f i j = d.fld f i j := by
  have hkey : f.key i j = (f.off + i * f.s1 + j * f.s2) * 64 + f.lo := rfl
  have hslew : CLK_TS_SLEW.key 0 0 = 0x200 * 64 + 11 := rfl
  have hrt : REP_RT.key 0 0 = 0x420 * 64 := rfl
  refine Dev.fld_pass ?_ ?_ (Fld.key_ne_llWait h0 h) _
  · rw [hkey, hslew]; generalize i * f.s1 = a; generalize j * f.s2 = b; omega
  · rw [hkey, hrt]; generalize i * f.s1 = a; generalize j * f.s2 = b; omega

theorem Dev.ringFailed_ringWait (k j : Nat) : (d.ringWait k).ringFailed j = d.ringFailed j := by
  unfold Dev.ringFailed Dev.flag
  rw [Dev.fld_ringWait (by decide) (by decide) (by decide)]

theorem Dev.plainOut_ppsPass (t u n : Nat) : (d.ppsPass t u n).plainOut = d.plainOut := by
  unfold Dev.ppsPass
  split
  · simp [Dev.plainOut, Out.plain]
  · rfl

theorem Dev.plainOut_llWaits (n : Nat) : (d.llWaits n).plainOut = d.plainOut := Dev.plainOut_congr (Dev.llWaits_out d n)

theorem Dev.plainOut_pass (n : Nat) : (d.pass n).plainOut = d.plainOut := by
  unfold Dev.pass
  dsimp only
  refine (Dev.plainOut_llWaits n).trans ?_
  split <;> split <;> simp only [Dev.plainOut_setF, Dev.plainOut_ppsPass]

/-- Nothing follows from time that passes. -/
theorem Dev.Calm.ringWait (h : d.Calm e) (k : Nat) : d.Calm (e.ringWait k) :=
  h.trans ⟨Dev.pass_mem _ _, Dev.pass_cpl _ _, congrArg Safe.handover (Dev.pass_safe _ _), Dev.pass_cel _ _, (Dev.plainOut_pass _).trans,
    Dev.fld_pass (by decide) (by decide) (fun _ => Fld.repState_ne (by decide)) _⟩

theorem Dev.ringWait_ann (k : Nat) : (d.ringWait k).ann = d.ann := Dev.pass_ann _ _

theorem Dev.Calm.setAnn (h : d.Calm e) (a : Ann) : d.Calm { e with ann := a } := ⟨h.mem, h.cpl, h.handover, h.cel, h.plain, h.rep⟩

theorem Dev.Calm.readyLook (h : d.Calm e) (n k : Nat) : d.Calm (e.readyLook n k) := h.setAnn _

end

/-! ### Injection-ready queues -/

section
variable {d e : Dev} {r : List (Nat × Nat)}

/-- A look at the queues of a stop changes what is known of them alone. -/
theorem Dev.readyAll_eq (d : Dev) (n : Nat) : ∃ r, d.readyAll n = { d with ann := { d.ann with ready := r } } := by
  unfold Dev.readyAll
  induction upTo 10 generalizing d with
  | nil => exact ⟨_, rfl⟩
  | cons k l ih =>
    obtain ⟨r, hr⟩ := ih (d.readyLook n k)
    exact ⟨r, hr⟩

theorem Dev.readyAll_of_ready (d : Dev) (q : List (Nat × Nat)) (n : Nat) :
    ∃ r, ({ d with ann := { d.ann with ready := q } } : Dev).readyAll n = { d with ann := { d.ann with ready := r } } :=
  Dev.readyAll_eq _ n

/-- What a head needs to be sent does not depend on when it became ready. -/
theorem Dev.mayInject_congr (h : e.ann = { d.ann with ready := r }) (f : Flit) : e.mayInject f = d.mayInject f := by
  have he : e.mayInject f = ({ d with ann := e.ann } : Dev).mayInject f := rfl
  rw [he, h]
  rfl

theorem Dev.slotTakes_congr (h : e.ann = { d.ann with ready := r }) (hf : ∀ k, e.ringFailed k = d.ringFailed k) (src k slot : Nat) (f : Flit) :
    e.slotTakes src k slot f = d.slotTakes src k slot f := by
  have he : e.slotTaken k slot = d.slotTaken k slot ∧ e.keptFor k slot = d.keptFor k slot := by
    unfold Dev.slotTaken Dev.keptFor
    rw [h]
    exact ⟨rfl, rfl⟩
  unfold Dev.slotTakes
  rw [hf, he.1, he.2, Dev.mayInject_congr h]

end

/-! ### The head of a queue and the slot that passes -/

section
variable {d : Dev} {n k slot : Nat} {f : Flit} {l : List Flit}

/-- Nothing enters a slot that is taken. -/
theorem Dev.flitGo_taken (h : d.slotTaken k slot = true) (e : BufErr) (c : Upset) : d.flitGo n k slot e c = d := by
  unfold Dev.flitGo
  split
  · rfl
  · simp only [h, Bool.or_true, Bool.true_or, if_true]

/-- A head that the slot does not take stays in its queue. -/
theorem Dev.flitGo_stays (h : (d.injOf n k).head?.any (fun f => d.slotTakes n k slot f) = false) (e : BufErr) (c : Upset) : d.flitGo n k slot e c = d := by
  unfold Dev.flitGo
  split
  · rfl
  next f l hq =>
    rw [hq] at h
    simp only [List.head?_cons, Option.any_some, Dev.slotTakes] at h
    dsimp only
    rw [if_pos]
    revert h
    generalize d.ringFailed k = a; generalize d.slotTaken k slot = b; generalize d.mayInject f = m
    cases a <;> cases b <;> cases m <;> simp

theorem bufErrOf_clean (f : Flit) : bufErrOf .clean f = .clean := if_neg fun h => nomatch h.1

/-- A head that the slot takes enters it. -/
theorem Dev.flitGo_enters (hq : d.injOf n k = f :: l) (h : d.slotTakes n k slot f = true) :
    ∃ r, d.flitGo n k slot .clean .clean = { (d.setInj n k l).flitIn f slot with ann := { ((d.setInj n k l).flitIn f slot).ann with ready := r } } := by
  have hgo : (d.ringFailed k || d.slotTaken k slot || (d.keptFor k slot != 0 && d.keptFor k slot != n + 1) || !d.mayInject f) = false := by
    revert h
    unfold Dev.slotTakes
    generalize d.ringFailed k = a; generalize d.slotTaken k slot = b; generalize d.mayInject f = m
    cases a <;> cases b <;> cases m <;> simp
    omega
  have hclean (g : Dev) : ((g.bufErr n 5 .clean).creditErr n .clean) = g := rfl
  unfold Dev.flitGo
  rw [hq]
  simp only [hgo, Bool.false_eq_true, if_false, bufErrOf_clean, ite_self, hclean, reduceCtorEq]
  exact Dev.readyAll_of_ready _ _ n

end

/-! ### FLIT_INJECT (R236 to R243) -/

section
variable {d : Dev} {n k slot : Nat} {f : Flit} {x : NewFlit} {l : List Flit}

theorem Dev.flitInject_new (hn : reservedStop n = false) (hx : x.dst.toNat ≠ n) (e : BufErr) (c : Upset) :
    d.flitInject n (some x) k slot e c = (((d.ringWait k).flitNew n x).readyLook n k).flitGo n k slot e c := by
  unfold Dev.flitInject
  rw [hn, if_neg Bool.false_ne_true]
  dsimp only
  rw [if_neg hx]

theorem Dev.flitInject_none (hn : reservedStop n = false) (e : BufErr) (c : Upset) :
    d.flitInject n none k slot e c = ((d.ringWait k).readyLook n k).flitGo n k slot e c := by
  unfold Dev.flitInject
  rw [hn, if_neg Bool.false_ne_true]

theorem Dev.slotTaken_readyLook (n' k' : Nat) : (d.readyLook n' k').slotTaken k slot = d.slotTaken k slot := rfl

theorem Dev.readyLook_eq (d : Dev) (n k : Nat) : ∃ r, d.readyLook n k = { d with ann := { d.ann with ready := r } } := ⟨_, rfl⟩

/-- A flit whose destination is a stop goes to its queue. -/
theorem Dev.flitNew_stop (hx : x.dst.toNat < 118) (hr : reservedStop x.dst.toNat = false) : d.flitNew n x = d.flitQueue (x.queued n) := by
  unfold Dev.flitNew
  rw [if_neg (by rw [hr]; exact not_or.mpr ⟨by omega, Bool.false_ne_true⟩), Nat.mod_eq_of_lt hx]

/-- The queue of a flit takes it, where no packet of another is under way there. -/
theorem Dev.flitQueue_joins (h : Sparse.get 0 d.ann.begun (f.src * 16 + f.ring) = 0) :
    (d.flitQueue f).injOf f.src f.ring = d.injOf f.src f.ring ++ [f] ∧ (d.flitQueue f).ann.flits = d.ann.flits
      ∧ (d.flitQueue f).ann.cred = d.ann.cred ∧ (d.flitQueue f).ann.locks = d.ann.locks := by
  unfold Dev.flitQueue
  dsimp only
  rw [if_neg fun hp => hp.1 h]
  exact ⟨Sparse.get_set_self _ _ _, rfl, rfl, rfl⟩

/-- Behind a packet of another it waits with its unit. -/
theorem Dev.flitQueue_waits (h : Sparse.get 0 d.ann.begun (f.src * 16 + f.ring) ≠ 0) (hp : Sparse.get 0 d.ann.begun (f.src * 16 + f.ring) ≠ f.packet) :
    d.flitQueue f = d := by
  unfold Dev.flitQueue
  exact if_pos ⟨h, hp⟩

theorem Dev.Calm.flitQueue {e : Dev} (h : d.Calm e) (f : Flit) : d.Calm (e.flitQueue f) := by
  unfold Dev.flitQueue
  exact .ite h (((h.setAnn _).setAnn _).readyLook _ _)

theorem Dev.flits_flitQueue (d : Dev) (f : Flit) : (d.flitQueue f).ann.flits = d.ann.flits := by
  unfold Dev.flitQueue
  dsimp only
  split <;> rfl

/-- FLIT_INJECT of a new flit where no slot takes the head of the queue. -/
theorem Dev.flitInject_queues (hn : reservedStop n = false) (hx : x.dst.toNat < 118) (hr : reservedStop x.dst.toNat = false) (hne : n ≠ x.dst.toNat)
    (ht : d.slotTaken k slot = true) (e : BufErr) (c : Upset) :
    d.flitInject n (some x) k slot e c = ((d.ringWait k).flitQueue (x.queued n)).readyLook n k := by
  rw [Dev.flitInject_new hn hne.symm, Dev.flitNew_stop hx hr]
  refine Dev.flitGo_taken ?_ e c
  rw [Dev.slotTaken_readyLook]
  unfold Dev.slotTaken
  rw [Dev.flits_flitQueue, Dev.ringWait_ann]
  exact ht

end

section
variable {s : State}

/-- FLIT_INJECT ends with what it makes of a device whose Annulus is as it was: its ring has waited. -/
theorem Ends.of_injects {c : Instr} {src k : Nat} {x : Option NewFlit} {slot : Nat} {P : Dev → Prop} (hi : Inv s)
    (hc : exec c s = runAll s (whenLive fun d => d.flitInject src x k slot .clean .clean)) (hl : s.dev.live = true)
    (h : ∀ e : Dev, s.fresh.ringWait k = e → e.ann = s.dev.ann → (∀ j, e.ringFailed j = s.dev.ringFailed j) →
      ∃ g, s.fresh.flitInject src x k slot .clean .clean = g ∧ e.Calm g ∧ (g.mem = s.dev.mem → P g)) : Ends c s P := by
  obtain ⟨g, hg, hcalm, hP⟩ := h _ rfl (Dev.ringWait_ann _) (Dev.ringFailed_ringWait _)
  have hall := ((Dev.Calm.refl s.fresh).ringWait k).trans hcalm
  exact Ends.of_calm (f := whenLive fun d => d.flitInject src x k slot .clean .clean) hi hc ((whenLive_of_live _ (d := s.fresh) hl).trans hg) hall (hP hall.mem)

theorem Ends.flit_queued {src : Stop} {x : NewFlit} {k : Fin 10} {n : Fin 118} (hi : Inv s) (hl : s.dev.live = true) (hn : reservedStop src.val = false)
    (hx : x.dst.toNat < 118) (hr : reservedStop x.dst.toNat = false) (hne : src.val ≠ x.dst.toNat)
    (hb : Sparse.get 0 s.dev.ann.begun (src.val * 16 + ringFor src.val x.dst.toNat x.body.cls) = 0) (ht : s.dev.slotTaken k.val n.val = true) :
    Ends (.flitInject src (some x) k n .clean .clean) s fun d =>
      d.injOf src.val (ringFor src.val x.dst.toNat x.body.cls) = s.dev.injOf src.val (ringFor src.val x.dst.toNat x.body.cls) ++ [x.queued src.val]
        ∧ d.ann.flits = s.dev.ann.flits ∧ d.ann.cred = s.dev.ann.cred ∧ d.ann.locks = s.dev.ann.locks ∧ d.mem = s.dev.mem := by
  refine Ends.of_injects hi rfl hl fun e he ha _ => ⟨_, Dev.flitInject_queues (d := s.fresh) hn hx hr hne ht _ _, ?_⟩
  rw [he]
  obtain ⟨hq, hf, hc, hk⟩ := Dev.flitQueue_joins (d := e) (f := x.queued src.val) (by rw [ha]; exact hb)
  have hold : e.injOf src.val (ringFor src.val x.dst.toNat x.body.cls) = s.dev.injOf src.val (ringFor src.val x.dst.toNat x.body.cls) := by
    unfold Dev.injOf
    rw [ha]
  rw [ha] at hf hc hk
  exact ⟨((Dev.Calm.refl e).flitQueue _).readyLook _ _, fun hm => ⟨hq.trans (congrArg (· ++ [x.queued src.val]) hold), hf, hc, hk, hm⟩⟩

theorem Ends.flit_waits {src : Stop} {x : NewFlit} {k : Fin 10} {n : Fin 118} (hi : Inv s) (hl : s.dev.live = true) (hn : reservedStop src.val = false)
    (hx : x.dst.toNat < 118) (hr : reservedStop x.dst.toNat = false) (hne : src.val ≠ x.dst.toNat) (ht : s.dev.slotTaken k.val n.val = true)
    (hb : Sparse.get 0 s.dev.ann.begun (src.val * 16 + ringFor src.val x.dst.toNat x.body.cls) ≠ 0)
    (hp : Sparse.get 0 s.dev.ann.begun (src.val * 16 + ringFor src.val x.dst.toNat x.body.cls) ≠ (x.queued src.val).packet) :
    Ends (.flitInject src (some x) k n .clean .clean) s fun d => d.ann.injq = s.dev.ann.injq ∧ d.ann.flits = s.dev.ann.flits ∧ d.mem = s.dev.mem := by
  refine Ends.of_injects hi rfl hl fun e he ha _ => ⟨_, Dev.flitInject_queues (d := s.fresh) hn hx hr hne ht _ _, ?_⟩
  rw [he, Dev.flitQueue_waits (d := e) (f := x.queued src.val) (by rw [ha]; exact hb) (by rw [ha]; exact hp)]
  exact ⟨(Dev.Calm.refl e).readyLook _ _, fun hm => ⟨(congrArg Ann.injq ha :), (congrArg Ann.flits ha :), hm⟩⟩

theorem Ends.flit_stays {src : Stop} {k : Fin 10} {n : Fin 118} (hi : Inv s) (hn : reservedStop src.val = false)
    (h : (s.dev.injOf src.val k.val).head?.any (fun f => s.dev.slotTakes src.val k.val n.val f) = false) :
    Ends (.flitInject src none k n .clean .clean) s fun d => d.ann.injq = s.dev.ann.injq ∧ d.ann.flits = s.dev.ann.flits ∧ d.ann.cred = s.dev.ann.cred
      ∧ d.ann.kept = s.dev.ann.kept ∧ d.mem = s.dev.mem := by
  by_cases hl : s.dev.live = true
  · refine Ends.of_injects hi rfl hl fun e he ha hf => ⟨e.readyLook src.val k.val, ?_, (Dev.Calm.refl e).readyLook _ _, fun hm =>
      ⟨(congrArg Ann.injq ha :), (congrArg Ann.flits ha :), (congrArg Ann.cred ha :), (congrArg Ann.kept ha :), hm⟩⟩
    rw [Dev.flitInject_none (d := s.fresh) hn, he]
    obtain ⟨r, hr⟩ := e.readyLook_eq src.val k.val
    rw [hr, ha]
    exact Dev.flitGo_stays ((congrArg (fun g => (s.dev.injOf src.val k.val).head?.any g)
      (funext fun f => Dev.slotTakes_congr (d := s.dev) (e := { e with ann := { s.dev.ann with ready := r } }) rfl hf _ _ _ f)).trans h) _ _
  · exact Ends.of_calm (f := whenLive fun d => d.flitInject src.val none k.val n.val .clean .clean) hi rfl (if_neg hl) (.refl _) ⟨rfl, rfl, rfl, rfl, rfl⟩

theorem Gives.flit_bad_destination {src : Stop} {x : NewFlit} {k : Fin 10} {n : Fin 118} (hl : s.dev.live = true) (hn : reservedStop src.val = false)
    (hx : 118 ≤ x.dst.toNat) (ht : s.dev.slotTaken k.val n.val = true) :
    Gives (.flitInject src (some x) k n .clean .clean) s
      (((s.fresh.ringWait k.val).logEv 0x3008 .S src.val [dU 1 src.val, dU 1 (ringFor src.val (x.dst.toNat % 118) x.body.cls), dU 1 x.dst.toNat]).readyLook
        src.val k.val) := by
  refine Gives.of_live (f := fun d => d.flitInject src.val (some x) k.val n.val .clean .clean) rfl hl ?_
  have hnew : (s.fresh.ringWait k.val).flitNew src.val x
      = (s.fresh.ringWait k.val).logEv 0x3008 .S src.val [dU 1 src.val, dU 1 (ringFor src.val (x.dst.toNat % 118) x.body.cls), dU 1 x.dst.toNat] := by
    unfold Dev.flitNew
    exact if_pos (Or.inl hx)
  rw [Dev.flitInject_new hn (by have := src.isLt; omega), hnew]
  refine Dev.flitGo_taken ?_ _ _
  rw [Dev.slotTaken_readyLook]
  unfold Dev.slotTaken
  rw [Dev.logEv_ann, Dev.ringWait_ann]
  exact ht

end

/-! ### A flit that enters a slot

`flitIn` does five things in turn; each has its name and its rule here. -/

/-- The pair has sent one more flit on its ring. -/
def Dev.numbered (d : Dev) (f : Flit) : Dev :=
  { d with ann := { d.ann with
    seqTx := Sparse.set 0 d.ann.seqTx (seqKey f.src f.dst f.ring) ((Sparse.get 0 d.ann.seqTx (seqKey f.src f.dst f.ring) + 1) % 256) } }

/-- A flit of a handover's pools spends a credit of its pool. -/
def Dev.handSpend (d : Dev) (f : Flit) : Dev :=
  match d.ann.hand with
  | some h =>
    if !f.hand || f.body.cls == FCls.rsp then d
    else
      let h := if f.body.cls == FCls.datB then { h with b := { h.b with flits := h.b.flits + 1 }, nextB := false }
        else { h with a := { h.a with flits := h.a.flits + 1 }, nextB := true }
      { d with ann := { d.ann with hand := some h } }
  | none => d

/-- Another one spends a credit of its pair and class. -/
def Dev.credSpend (d : Dev) (f : Flit) : Dev :=
  match credClass f.body.cls with
  | some x => if f.hand then d else d.setCred f.src f.dst x { d.credOf f.src f.dst x with flits := (d.credOf f.src f.dst x).flits + 1 }
  | none => d

/-- The answer of a request or snoop has its space. -/
def Dev.answerKept (d : Dev) (f : Flit) : Dev :=
  match AnnOpen.ofFlit f with
  | some o => if d.ann.open_.any (fun x => x.stop == o.stop && x.unit == o.unit && x.tag == o.tag && x.snp == o.snp) then d
      else { d with ann := { d.ann with open_ := d.ann.open_ ++ [o] } }
  | none => d

/-- The flit stands in its slot under number `q`, and the stop's own mark is used up. -/
def Dev.onRing (d : Dev) (f : Flit) (slot q : Nat) : Dev :=
  { d with ann := { d.ann with
    flits := d.ann.flits ++ [{ f with slot := slot, seq := q }],
    kept := Sparse.set 0 d.ann.kept (f.ring * 128 + slot) (if d.keptFor f.ring slot = f.src + 1 then 0 else d.keptFor f.ring slot) } }

section
variable {d : Dev} {n k slot : Nat} {f : Flit} {l : List Flit}

/-- What `flitIn` does, the flit and the credits it takes along as a pair. -/
def Dev.flitStands (p : Flit × Dev) (slot q : Nat) : Dev :=
  (((p.2.handSpend p.1).credSpend p.1).answerKept p.1).onRing p.1 slot q

theorem Dev.flitIn_eq (d : Dev) (f : Flit) (slot : Nat) : d.flitIn f slot
    = Dev.flitStands (if f.body.cls = .rsp then (d.numbered f).loadCredits f else (f, d.numbered f)) slot (Sparse.get 0 d.ann.seqTx (seqKey f.src f.dst f.ring)) :=
  rfl

theorem Dev.credOf_setCred_self (d : Dev) (s t c : Nat) (x : Cred) : (d.setCred s t c x).credOf s t c = x := Sparse.get_set_self _ _ _

theorem Dev.credOf_setCred_ne {s t c s' t' c' : Nat} (x : Cred) (h : credKey s t c ≠ credKey s' t' c') :
    (d.setCred s' t' c' x).credOf s t c = d.credOf s t c := Sparse.get_set_ne _ _ h

theorem Dev.handSpend_plain (hh : f.hand = false) : d.handSpend f = d := by
  unfold Dev.handSpend
  split
  · exact if_pos (by rw [hh]; rfl)
  · rfl

theorem Dev.answerKept_eq (d : Dev) (f : Flit) : ∃ o, d.answerKept f = { d with ann := { d.ann with open_ := o } } := by
  unfold Dev.answerKept
  split
  · split
    · exact ⟨d.ann.open_, rfl⟩
    · exact ⟨_, rfl⟩
  · exact ⟨d.ann.open_, rfl⟩

/-- A flit that spends a credit of its pair and class leaves every other credit of the pair as it was. -/
theorem Dev.credOf_credSpend (hh : f.hand = false) (x : Fin 3) : (d.credSpend f).credOf f.src f.dst x.val
    = if credClass f.body.cls = some x.val then { d.credOf f.src f.dst x.val with flits := (d.credOf f.src f.dst x.val).flits + 1 }
      else d.credOf f.src f.dst x.val := by
  unfold Dev.credSpend
  split
  next c hc =>
    rw [hh, if_neg Bool.false_ne_true]
    by_cases hcx : c = x.val
    · subst hcx
      rw [if_pos hc]
      exact Dev.credOf_setCred_self _ _ _ _ _
    · have hkey : credKey f.src f.dst x.val ≠ credKey f.src f.dst c := by unfold credKey; omega
      simp only [hc, Option.some.injEq, hcx, if_false]
      exact Dev.credOf_setCred_ne _ hkey
  next hc => simp only [hc, reduceCtorEq, if_false]

theorem Dev.credSpend_eq (d : Dev) (f : Flit) : ∃ c, d.credSpend f = { d with ann := { d.ann with cred := c } } := by
  unfold Dev.credSpend
  split
  · split
    · exact ⟨d.ann.cred, rfl⟩
    · exact ⟨_, rfl⟩
  · exact ⟨d.ann.cred, rfl⟩

/-- A flit other than a RSP that enters a slot: where it stands, and the credit of its pair and class that it spends. -/
theorem Dev.flitIn_plain (hc : f.body.cls ≠ .rsp) (hh : f.hand = false) (slot : Nat) :
    (d.flitIn f slot).ann.flits = d.ann.flits ++ [{ f with slot := slot, seq := Sparse.get 0 d.ann.seqTx (seqKey f.src f.dst f.ring) }]
      ∧ (d.flitIn f slot).ann.injq = d.ann.injq ∧ (d.flitIn f slot).ann.locks = d.ann.locks
      ∧ (d.flitIn f slot).keptFor f.ring slot = (if d.keptFor f.ring slot = f.src + 1 then 0 else d.keptFor f.ring slot)
      ∧ (∀ x : Fin 3, (d.flitIn f slot).credOf f.src f.dst x.val
          = if credClass f.body.cls = some x.val then { d.credOf f.src f.dst x.val with flits := (d.credOf f.src f.dst x.val).flits + 1 }
            else d.credOf f.src f.dst x.val)
      ∧ d.Calm (d.flitIn f slot) := by
  have hcred := (d.numbered f).credOf_credSpend (f := f) hh
  rw [Dev.flitIn_eq, if_neg hc]
  unfold Dev.flitStands
  dsimp only
  rw [Dev.handSpend_plain hh]
  obtain ⟨o, ho⟩ := ((d.numbered f).credSpend f).answerKept_eq f
  obtain ⟨c, hs⟩ := (d.numbered f).credSpend_eq f
  rw [ho]
  rw [hs] at hcred ⊢
  exact ⟨rfl, rfl, rfl, Sparse.get_set_self _ _ _, hcred, (((((Dev.Calm.refl d).setAnn _).setAnn _).setAnn _).setAnn _)⟩

end

/-! ### The credits a RSP flit takes along (R233, R242) -/

/-- A credit pool whose owed credits, up to `most`, ride a flit. -/
def Cred.loaded (x : Cred) (most : Nat) : Cred := { x with owed := x.owed - min x.owed most, riding := x.riding + min x.owed most }

/-- The most credits of a class that a RSP flit carries. -/
def mostCarried (c : Nat) : Nat := if c = 0 then 7 else if c = 1 then 3 else 15

/-- A device with the credits of `s` for `t` of class `c` loaded. -/
def Dev.loaded (d : Dev) (s t c : Nat) : Dev := d.setCred t s c ((d.credOf t s c).loaded (mostCarried c))

section
variable {d : Dev} {n k slot : Nat} {f : Flit}

theorem Dev.credOf_loaded (d : Dev) (s t : Nat) (c x : Nat) :
    (d.loaded s t c).credOf t s x = if x = c then (d.credOf t s c).loaded (mostCarried c) else d.credOf t s x := by
  unfold Dev.loaded
  split
  next h => subst h; exact Dev.credOf_setCred_self _ _ _ _ _
  next h => exact Dev.credOf_setCred_ne _ (by unfold credKey; omega)

theorem Dev.credOf_allLoaded (d : Dev) (s t : Nat) (x : Fin 3) : (((d.loaded s t 0).loaded s t 1).loaded s t 2).credOf t s x.val
    = (d.credOf t s x.val).loaded (mostCarried x.val) := by
  simp only [Dev.credOf_loaded]
  fin_cases x <;> rfl

/-- Loading credits changes the credits of the Annulus alone. -/
theorem Dev.loaded_of_loaded {e : Dev} (h : ∃ c, e = { d with ann := { d.ann with cred := c } }) (s t x : Nat) :
    ∃ c, e.loaded s t x = { d with ann := { d.ann with cred := c } } := by
  obtain ⟨c, rfl⟩ := h
  exact ⟨_, rfl⟩

theorem Dev.takeOwed_req (s t : Nat) : d.takeOwed s t 0 7 = (min (d.credOf t s 0).owed 7, d.loaded s t 0) := rfl
theorem Dev.takeOwed_snp (s t : Nat) : d.takeOwed s t 1 3 = (min (d.credOf t s 1).owed 3, d.loaded s t 1) := rfl
theorem Dev.takeOwed_datA (s t : Nat) : d.takeOwed s t 2 15 = (min (d.credOf t s 2).owed 15, d.loaded s t 2) := rfl

/-- Outside a handover copy it takes those of the three classes. -/
theorem Dev.loadCredits_plain (h : d.ann.hand = none) : ∃ c, d.loadCredits f
      = ({ f with crReq := min (d.credOf f.dst f.src 0).owed 7, crSnp := min (d.credOf f.dst f.src 1).owed 3, crDat := min (d.credOf f.dst f.src 2).owed 15 },
        { d with ann := { d.ann with cred := c } })
    ∧ ∀ x : Fin 3, Sparse.get {} c (credKey f.dst f.src x.val) = (d.credOf f.dst f.src x.val).loaded (mostCarried x.val) := by
  have h1 : (d.loaded f.src f.dst 0).credOf f.dst f.src 1 = d.credOf f.dst f.src 1 := Dev.credOf_loaded d _ _ _ _
  have h2 : ((d.loaded f.src f.dst 0).loaded f.src f.dst 1).credOf f.dst f.src 2 = d.credOf f.dst f.src 2 :=
    (Dev.credOf_loaded _ _ _ _ _).trans (Dev.credOf_loaded d _ _ _ _)
  have hall : d.loadCredits f
      = ({ f with crReq := min (d.credOf f.dst f.src 0).owed 7, crSnp := min ((d.loaded f.src f.dst 0).credOf f.dst f.src 1).owed 3,
                  crDat := min (((d.loaded f.src f.dst 0).loaded f.src f.dst 1).credOf f.dst f.src 2).owed 15 },
        ((d.loaded f.src f.dst 0).loaded f.src f.dst 1).loaded f.src f.dst 2) := by
    unfold Dev.loadCredits
    simp only [Dev.takeOwed_req, Dev.takeOwed_snp, Dev.takeOwed_datA]
    split
    next hd heq => exact nomatch (h.symm.trans heq)
    next => rfl
  rw [h1, h2] at hall
  have hcred := d.credOf_allLoaded f.src f.dst
  obtain ⟨c, hc⟩ := Dev.loaded_of_loaded (Dev.loaded_of_loaded (Dev.loaded_of_loaded ⟨d.ann.cred, rfl⟩ f.src f.dst 0) f.src f.dst 1) f.src f.dst 2
  rw [hc] at hall hcred
  exact ⟨c, hall, hcred⟩

/-- Whatever the handover, those of REQ go along, and nothing but the credits of the Annulus changes. -/
theorem Dev.loadCredits_req (d : Dev) (f : Flit) : ∃ g c h, d.loadCredits f = (g, { d with ann := { d.ann with cred := c, hand := h } })
    ∧ g.body = f.body ∧ Sparse.get {} c (credKey f.dst f.src 0) = (d.credOf f.dst f.src 0).loaded 7 := by
  have h0 : (d.loaded f.src f.dst 0).credOf f.dst f.src 0 = (d.credOf f.dst f.src 0).loaded 7 := Dev.credOf_loaded d _ _ _ _
  have h1 : ((d.loaded f.src f.dst 0).loaded f.src f.dst 1).credOf f.dst f.src 0 = (d.credOf f.dst f.src 0).loaded 7 :=
    (Dev.credOf_loaded _ _ _ _ _).trans h0
  have h2 : (((d.loaded f.src f.dst 0).loaded f.src f.dst 1).loaded f.src f.dst 2).credOf f.dst f.src 0 = (d.credOf f.dst f.src 0).loaded 7 :=
    (Dev.credOf_loaded _ _ _ _ _).trans h1
  obtain ⟨c2, he2⟩ := Dev.loaded_of_loaded (Dev.loaded_of_loaded ⟨d.ann.cred, rfl⟩ f.src f.dst 0) f.src f.dst 1
  obtain ⟨c3, he3⟩ := Dev.loaded_of_loaded ⟨c2, he2⟩ f.src f.dst 2
  unfold Dev.loadCredits
  simp only [Dev.takeOwed_req, Dev.takeOwed_snp, Dev.takeOwed_datA]
  rw [he3] at h2 ⊢
  rw [he2] at h1 ⊢
  split
  · split
    · exact ⟨_, c2, _, rfl, rfl, h1⟩
    · exact ⟨_, c3, d.ann.hand, rfl, rfl, h2⟩
  · exact ⟨_, c3, d.ann.hand, rfl, rfl, h2⟩

theorem Dev.credHeld_of_loaded {e : Dev} {s t x m : Nat} (h : e.credOf t s x = (d.credOf t s x).loaded m) : e.credHeld t s x = d.credHeld t s x := by
  unfold Dev.credHeld
  rw [h]
  unfold Cred.loaded Cred.flight
  dsimp only
  congr 2
  omega

/-- A RSP flit spends no credit. -/
theorem Dev.flitIn_rsp (hc : f.body.cls = .rsp) {g : Flit} {e : Dev} (hl : (d.numbered f).loadCredits f = (g, e)) (hg : g.body = f.body) (slot : Nat) :
    ∃ o, d.flitIn f slot = ({ e with ann := { e.ann with open_ := o } } : Dev).onRing g slot (Sparse.get 0 d.ann.seqTx (seqKey f.src f.dst f.ring)) := by
  have hcls : g.body.cls = .rsp := by rw [hg, hc]
  have hspend : (e.handSpend g).credSpend g = e := by
    have hh : e.handSpend g = e := by
      unfold Dev.handSpend
      split
      · exact if_pos (by rw [hcls]; simp)
      · rfl
    rw [hh]
    unfold Dev.credSpend
    rw [hcls]
    rfl
  obtain ⟨o, ho⟩ := e.answerKept_eq g
  refine ⟨o, ?_⟩
  rw [Dev.flitIn_eq, if_pos hc, hl]
  unfold Dev.flitStands
  dsimp only
  rw [hspend, ho]

end

section
variable {s : State} {src : Stop} {k : Fin 10} {n : Fin 118} {f : Flit}

/-- FLIT_INJECT where the slot takes the head of the queue: what the head does as it enters decides what holds then. -/
theorem Ends.of_enters {P : Dev → Prop} (hi : Inv s) (hl : s.dev.live = true) (hn : reservedStop src.val = false)
    (hq : (s.dev.injOf src.val k.val).head? = some f) (ht : s.dev.slotTakes src.val k.val n.val f = true)
    (h : ∀ e : Dev, (∃ r, e.ann = { s.dev.ann with injq := Sparse.set [] s.dev.ann.injq (src.val * 16 + k.val) (s.dev.injOf src.val k.val).tail, ready := r }) →
      e.Calm (e.flitIn f n.val) ∧ ∀ r, (e.flitIn f n.val).mem = s.dev.mem → P { e.flitIn f n.val with ann := { (e.flitIn f n.val).ann with ready := r } }) :
    Ends (.flitInject src none k n .clean .clean) s P := by
  obtain ⟨l, hfl⟩ : ∃ l, s.dev.injOf src.val k.val = f :: l := by
    cases hx : s.dev.injOf src.val k.val with
    | nil => rw [hx] at hq; exact nomatch hq
    | cons a l => rw [hx] at hq; cases hq; exact ⟨l, rfl⟩
  refine Ends.of_injects hi rfl hl fun e he ha hf => ?_
  obtain ⟨r, hr⟩ := e.readyLook_eq src.val k.val
  have hea : (e.readyLook src.val k.val).ann = { s.dev.ann with ready := r } := by rw [hr, ha]
  have hinj : (e.readyLook src.val k.val).injOf src.val k.val = f :: l := by
    unfold Dev.injOf
    rw [hea]
    exact hfl
  have htk : (e.readyLook src.val k.val).slotTakes src.val k.val n.val f = true := (Dev.slotTakes_congr hea hf _ _ _ f).trans ht
  obtain ⟨q, hgo⟩ := Dev.flitGo_enters hinj htk
  obtain ⟨hcalm, hP⟩ := h ((e.readyLook src.val k.val).setInj src.val k.val l)
    ⟨r, by unfold Dev.setInj; rw [hea, hfl]; rfl⟩
  have hset : e.Calm ((e.readyLook src.val k.val).setInj src.val k.val l) := ((Dev.Calm.refl e).readyLook _ _).setAnn _
  exact ⟨_, (Dev.flitInject_none (d := s.fresh) hn _ _).trans (by rw [he, hgo]), (hset.trans hcalm).setAnn _, fun hm => hP q hm⟩

/-- A slot takes a head where it is free for its stop, and the head has what it spends. -/
theorem Dev.mark_of_slotTakes {d : Dev} {m j i : Nat} (h : d.slotTakes m j i f = true) :
    (d.keptFor j i = 0 ∨ d.keptFor j i = m + 1) ∧ d.mayInject f = true := by
  simp only [Dev.slotTakes, Bool.and_eq_true, Bool.or_eq_true, beq_iff_eq] at h
  exact ⟨h.1.2, h.2⟩

theorem Dev.credHeld_of_mayInject {d : Dev} {x : Nat} (h : d.mayInject f = true) (hh : f.hand = false) (hx : credClass f.body.cls = some x) :
    d.credHeld f.src f.dst x ≠ 0 := by
  unfold Dev.mayInject at h
  rw [hh, if_neg Bool.false_ne_true, hx] at h
  simp only [Option.all_some, Bool.and_eq_true, bne_iff_ne, ne_eq] at h
  exact h.1

theorem Ends.flit_enters (hi : Inv s) (hl : s.dev.live = true) (hn : reservedStop src.val = false)
    (hq : (s.dev.injOf src.val k.val).head? = some f) (hf : f.src = src.val ∧ f.ring = k.val ∧ f.hand = false) (hc : f.body.cls ≠ .rsp)
    (ht : s.dev.slotTakes src.val k.val n.val f = true) :
    Ends (.flitInject src none k n .clean .clean) s fun d =>
      d.ann.flits = s.dev.ann.flits ++ [{ f with slot := n.val, seq := Sparse.get 0 s.dev.ann.seqTx (seqKey f.src f.dst f.ring) }]
      ∧ d.injOf src.val k.val = (s.dev.injOf src.val k.val).tail ∧ d.keptFor k.val n.val = 0
      ∧ (∀ x : Fin 3, d.credHeld src.val f.dst x.val + (if credClass f.body.cls = some x.val then 1 else 0) = s.dev.credHeld src.val f.dst x.val)
      ∧ d.mem = s.dev.mem ∧ d.ann.locks = s.dev.ann.locks := by
  obtain ⟨hsrc, hring, hhand⟩ := hf
  refine Ends.of_enters hi hl hn hq ht fun e he => ?_
  obtain ⟨r, hr⟩ := he
  obtain ⟨hflits, hinjq, hlocks, hkept, hcred, hcalm⟩ := e.flitIn_plain hc hhand n.val
  obtain ⟨hk, hm'⟩ := Dev.mark_of_slotTakes ht
  refine ⟨hcalm, fun r' hm => ⟨?_, ?_, ?_, fun x => ?_, hm, ?_⟩⟩
  · exact hflits.trans (by rw [hr])
  · exact (congrArg (fun q => Sparse.get [] q (src.val * 16 + k.val)) (hinjq.trans (congrArg Ann.injq hr))).trans (Sparse.get_set_self _ _ _)
  · refine (congrArg (fun j => (e.flitIn f n.val).keptFor j n.val) hring.symm).trans (hkept.trans ?_)
    have hmark : e.keptFor f.ring n.val = s.dev.keptFor k.val n.val := by unfold Dev.keptFor; rw [hr, hring]
    rw [hmark, hsrc]
    split
    · rfl
    next h => exact hk.resolve_right h
  · have hold : e.credOf f.src f.dst x.val = s.dev.credOf src.val f.dst x.val := by unfold Dev.credOf; rw [hr, hsrc]
    have hnew : ({ e.flitIn f n.val with ann := { (e.flitIn f n.val).ann with ready := r' } } : Dev).credOf src.val f.dst x.val
        = if credClass f.body.cls = some x.val then { s.dev.credOf src.val f.dst x.val with flits := (s.dev.credOf src.val f.dst x.val).flits + 1 }
          else s.dev.credOf src.val f.dst x.val := by
      rw [← hold, ← hsrc]
      exact hcred x
    have hpos (h : credClass f.body.cls = some x.val) : s.dev.credHeld src.val f.dst x.val ≠ 0 := by
      rw [← hsrc]
      exact Dev.credHeld_of_mayInject hm' hhand h
    unfold Dev.credHeld at hpos ⊢
    rw [hnew]
    split
    next h =>
      specialize hpos h
      unfold Cred.flight at hpos ⊢
      dsimp only
      omega
    · rfl
  · exact hlocks.trans (by rw [hr])

theorem Ends.rsp_enters (hi : Inv s) (hl : s.dev.live = true) (hn : reservedStop src.val = false)
    (hq : (s.dev.injOf src.val k.val).head? = some f) (hf : f.src = src.val ∧ f.ring = k.val ∧ f.hand = false) (hc : f.body.cls = .rsp)
    (hh : s.dev.ann.hand = none) (ht : s.dev.slotTakes src.val k.val n.val f = true) :
    Ends (.flitInject src none k n .clean .clean) s fun d =>
      d.ann.flits = s.dev.ann.flits ++ [{ f with
          slot := n.val, seq := Sparse.get 0 s.dev.ann.seqTx (seqKey f.src f.dst f.ring), crReq := min (s.dev.credOf f.dst src.val 0).owed 7,
          crSnp := min (s.dev.credOf f.dst src.val 1).owed 3, crDat := min (s.dev.credOf f.dst src.val 2).owed 15 }]
      ∧ d.injOf src.val k.val = (s.dev.injOf src.val k.val).tail ∧ (∀ x : Fin 3, d.credHeld f.dst src.val x.val = s.dev.credHeld f.dst src.val x.val)
      ∧ d.mem = s.dev.mem := by
  refine Ends.of_enters hi hl hn hq ht fun e he => ?_
  obtain ⟨r, hr⟩ := he
  have hold (x : Nat) : (e.numbered f).credOf f.dst f.src x = s.dev.credOf f.dst src.val x := by
    unfold Dev.numbered Dev.credOf
    rw [hr, hf.1]
  obtain ⟨c, hload, hc3⟩ := Dev.loadCredits_plain (d := e.numbered f) (f := f) (by unfold Dev.numbered; rw [hr]; exact hh)
  rw [hold, hold, hold] at hload
  obtain ⟨o, ho⟩ := Dev.flitIn_rsp hc hload rfl n.val
  rw [ho]
  refine ⟨(((Dev.Calm.refl e).setAnn _).setAnn _).setAnn _, fun r' hm => ⟨?_, ?_, fun x => ?_, hm⟩⟩
  · show e.ann.flits ++ [_] = _
    rw [hr]
  · exact (congrArg (fun a : Ann => Sparse.get [] a.injq (src.val * 16 + k.val)) hr).trans (Sparse.get_set_self _ _ _)
  · have hnew := hc3 x
    rw [hold, hf.1] at hnew
    exact Dev.credHeld_of_loaded hnew

end

/-! ### KEEP_MARK (R241) -/

section
variable {d : Dev} {n k slot : Nat}

/-- Mark `m` at a slot. -/
def Dev.marked (d : Dev) (k slot m : Nat) : Dev := { d with ann := { d.ann with kept := Sparse.set 0 d.ann.kept (k * 128 + slot) m } }

theorem Dev.hand_any (hh : d.ann.hand = none) (p : HandPool → Bool) : d.ann.hand.any p = false := by rw [hh]; rfl

/-- A stop whose head has been ready for 64 NCLK marks the occupied slot that passes. -/
theorem Dev.keepMark_marks (hr : reservedStop n = false) (hf : d.ringFailed k = false) (hh : d.ann.hand = none) (hk : d.keptFor k slot = 0)
    (ht : d.slotTaken k slot = true) (h0 : Sparse.get 0 d.ann.ready (n * 16 + k) ≠ 0) (h64 : Sparse.get 0 d.ann.ready (n * 16 + k) + 64 ≤ d.nclk + 1)
    (hn : ∀ j : Fin 118, d.keptFor k j.val ≠ n + 1) : d.keepMark n k slot = (d.marked k slot (n + 1)).inc STOP_KEEP_CNT 1 n := by
  have hmine : ((upTo 118).any fun j => d.keptFor k j == n + 1) = false := by
    rw [List.any_eq_false]
    intro j hj
    simp only [beq_iff_eq]
    exact hn ⟨j, List.mem_range.mp hj⟩
  have hwait : ¬ (Sparse.get 0 d.ann.ready (n * 16 + k) = 0 ∨ d.nclk + 1 < Sparse.get 0 d.ann.ready (n * 16 + k) + 64 ∨ d.slotTaken k slot = false
      ∨ ((upTo 118).any fun j => d.keptFor k j == n + 1) = true) := by
    rw [hmine, ht]
    simp only [Bool.true_eq_false, Bool.false_eq_true, or_false, not_or]
    omega
  unfold Dev.keepMark
  simp only [hr, hf, Dev.hand_any hh, Bool.or_self, Bool.false_eq_true, if_false, show (!d.slotTaken k slot) = false by rw [ht]; rfl, Bool.and_false, Bool.false_and]
  rw [if_neg (by rw [hk]; simp)]
  exact if_neg hwait

/-- One that has not marks none. -/
theorem Dev.keepMark_waits (hh : d.ann.hand = none) (hk : d.keptFor k slot ≠ n + 1)
    (h : Sparse.get 0 d.ann.ready (n * 16 + k) = 0 ∨ d.nclk + 1 < Sparse.get 0 d.ann.ready (n * 16 + k) + 64) : d.keepMark n k slot = d := by
  unfold Dev.keepMark
  simp only [Dev.hand_any hh, Bool.false_eq_true, if_false, beq_eq_false_iff_ne.mpr hk, Bool.false_and]
  split
  · rfl
  · split
    · rfl
    · exact if_pos (h.imp_right Or.inl)

/-- Its own mark that comes back empty, with nothing ready, is released. -/
theorem Dev.keepMark_releases (hr : reservedStop n = false) (hf : d.ringFailed k = false) (hh : d.ann.hand = none) (hk : d.keptFor k slot = n + 1)
    (ht : d.slotTaken k slot = false) (h0 : Sparse.get 0 d.ann.ready (n * 16 + k) = 0) : d.keepMark n k slot = d.marked k slot 0 := by
  unfold Dev.keepMark
  simp only [hr, hf, Dev.hand_any hh, hk, ht, h0, Bool.or_self, Bool.false_eq_true, if_false, beq_self_eq_true, Bool.not_false, Bool.and_self, if_true]
  rfl

end

section
variable {s : State} {n : Stop} {k : Fin 10} {i : Fin 118}

theorem Leaves.slot_marked (hi : Inv s) (hl : s.dev.live = true) (hr : reservedStop n.val = false) (hf : s.dev.ringFailed k.val = false)
    (hh : s.dev.ann.hand = none) (hk : s.dev.keptFor k.val i.val = 0) (ht : s.dev.slotTaken k.val i.val = true)
    (h0 : Sparse.get 0 s.dev.ann.ready (n.val * 16 + k.val) ≠ 0) (h64 : Sparse.get 0 s.dev.ann.ready (n.val * 16 + k.val) + 64 ≤ s.dev.nclk + 1)
    (hn : ∀ j : Fin 118, s.dev.keptFor k.val j.val ≠ n.val + 1) : Leaves (.keepMark n k i) s
      ({ s.fresh with ann := { s.dev.ann with kept := Sparse.set 0 s.dev.ann.kept (k.val * 128 + i.val) (n.val + 1) } }.inc STOP_KEEP_CNT 1 n.val) :=
  Leaves.of_calm (f := whenLive fun d => d.keepMark n.val k.val i.val) hi rfl
    ((whenLive_of_live _ (d := s.fresh) hl).trans (Dev.keepMark_marks (d := s.fresh) hr hf hh hk ht h0 h64 hn))
    (((Dev.Calm.refl _).setAnn _).inc _ (Fld.repState_ne (by decide)))

theorem Leaves.slot_released (hi : Inv s) (hl : s.dev.live = true) (hr : reservedStop n.val = false) (hf : s.dev.ringFailed k.val = false)
    (hh : s.dev.ann.hand = none) (hk : s.dev.keptFor k.val i.val = n.val + 1) (ht : s.dev.slotTaken k.val i.val = false)
    (h0 : Sparse.get 0 s.dev.ann.ready (n.val * 16 + k.val) = 0) : Leaves (.keepMark n k i) s
      { s.fresh with ann := { s.dev.ann with kept := Sparse.set 0 s.dev.ann.kept (k.val * 128 + i.val) 0 } } :=
  Leaves.of_calm (f := whenLive fun d => d.keepMark n.val k.val i.val) hi rfl
    ((whenLive_of_live _ (d := s.fresh) hl).trans (Dev.keepMark_releases (d := s.fresh) hr hf hh hk ht h0)) ((Dev.Calm.refl _).setAnn _)

end

/-! ### Credits that go back (R242) -/

section
variable {d : Dev} {f : Flit}

theorem Dev.credOf_freeEntry {x : Nat} (hh : f.hand = false) (hc : credClass f.body.cls = some x) : (d.freeEntry f true).credOf f.src f.dst x
    = { d.credOf f.src f.dst x with occ := (d.credOf f.src f.dst x).occ - 1, owed := (d.credOf f.src f.dst x).owed + 1 } := by
  unfold Dev.freeEntry
  simp only [hh, Bool.false_and, Bool.false_eq_true, if_false, hc, if_true]
  exact Dev.credOf_setCred_self _ _ _ _ _

/-- The RSP flit of a credit return. -/
def creditFlit (s t : Nat) : Flit := { ring := ringFor s t .rsp, src := s, dst := t, body := .rsp 0x3F 0 0 0 0 0, last := true }

theorem Dev.creditReturn_none {s t : Nat} (h : d.owedTo s t = 0) : d.creditReturn s t = d := if_pos (Or.inl h)

/-- On an empty Annulus the first slot takes it. -/
theorem Dev.creditReturn_enters {s t : Nat} (hf : d.ringFailed (ringFor s t .rsp) = false) (ho : d.owedTo s t ≠ 0) (hfl : d.ann.flits = [])
    (hk : d.ann.kept = []) : d.creditReturn s t = d.flitIn (creditFlit s t) 0 := by
  have hfree (m : Nat) : (!d.slotTaken (ringFor s t .rsp) m && (d.keptFor (ringFor s t .rsp) m == 0 || d.keptFor (ringFor s t .rsp) m == s + 1)) = true := by
    unfold Dev.slotTaken Dev.keptFor
    rw [hfl, hk]
    rfl
  have hfind : ((upTo 118).find? fun m =>
      !d.slotTaken (ringFor s t .rsp) m && (d.keptFor (ringFor s t .rsp) m == 0 || d.keptFor (ringFor s t .rsp) m == s + 1)) = some 0 := by
    simp only [hfree]
    rfl
  unfold Dev.creditReturn
  dsimp only
  rw [if_neg (by rw [hf]; simp [ho]), hfind]
  rfl

end

section
variable {s : State} {src dst : Stop}

theorem Ends.credits_return (hi : Inv s) (hl : s.dev.live = true) (hf : s.dev.ringFailed (ringFor src.val dst.val .rsp) = false)
    (ho : s.dev.owedTo src.val dst.val ≠ 0) (hfl : s.dev.ann.flits = []) (hk : s.dev.ann.kept = []) :
    Ends (.creditReturn src dst) s fun d => d.ann.flits.length = 1
      ∧ (s.dev.credOf dst.val src.val 0).owed = (d.credOf dst.val src.val 0).owed + min (s.dev.credOf dst.val src.val 0).owed 7
      ∧ d.mem = s.dev.mem ∧ d.csr = s.dev.csr := by
  obtain ⟨g, c, h, hload, hbody, hc⟩ := (s.fresh.numbered (creditFlit src.val dst.val)).loadCredits_req (creditFlit src.val dst.val)
  obtain ⟨o, hin⟩ := Dev.flitIn_rsp (d := s.fresh) (f := creditFlit src.val dst.val) rfl hload hbody 0
  refine Ends.of_calm (f := whenLive fun d => d.creditReturn src.val dst.val) hi rfl
    ((whenLive_of_live _ (d := s.fresh) hl).trans ((Dev.creditReturn_enters (d := s.fresh) hf ho hfl hk).trans hin))
    ((((Dev.Calm.refl s.fresh).setAnn _).setAnn _).setAnn _) ⟨?_, ?_, rfl, rfl⟩
  · show (s.dev.ann.flits ++ [_]).length = 1
    rw [hfl]
    rfl
  · have hnew := congrArg Cred.owed hc
    have hold : (s.fresh.numbered (creditFlit src.val dst.val)).credOf dst.val src.val 0 = s.dev.credOf dst.val src.val 0 := rfl
    rw [show (s.fresh.numbered (creditFlit src.val dst.val)).credOf (creditFlit src.val dst.val).dst (creditFlit src.val dst.val).src 0
      = s.dev.credOf dst.val src.val 0 from hold] at hnew
    refine Eq.trans ?_ (congrArg (· + min (s.dev.credOf dst.val src.val 0).owed 7) hnew.symm)
    unfold Cred.loaded
    dsimp only
    omega

end

/-! ### FLIT_RETURNED and HOP_CRC_ERROR (R238, R259) -/

section
variable {s : State} {src dst : Stop} {c : FCls} {k : Fin 10} {n : Stop} {f : Flit}

theorem FCls.ne_rsp_of_credClass {x : Nat} (h : credClass c = some x) : c ≠ .rsp := by
  rintro rfl
  exact nomatch h

theorem Gives.flit_returned {x : Fin 3} (hl : s.dev.live = true) (hc : credClass c = some x.val) (ho : s.dev.oldest src.val dst.val c = some f)
    (hh : f.hand = false) (hf : s.dev.ringFailed f.ring = false) :
    Gives (.flitReturned src dst c) s
      ((((({ s.fresh.ringWait f.ring with ann := { s.dev.ann with flits := s.dev.ann.flits.erase f } }).setCred src.val dst.val x.val
          { s.dev.credOf src.val dst.val x.val with flits := (s.dev.credOf src.val dst.val x.val).flits - 1 }).raise ANN_RETURNED).logEv 0x3003 .S src.val
            [dU 1 f.ring, dU 1 src.val, dU 1 dst.val]).readyAll src.val) := by
  have ha : (s.fresh.ringWait f.ring).ann = s.dev.ann := Dev.ringWait_ann _
  have ho' : s.fresh.oldest src.val dst.val c = some f := ho
  have hf' : s.fresh.ringFailed f.ring = false := hf
  refine Gives.of_live (f := fun d => d.flitReturned src.val dst.val c) rfl hl ?_
  unfold Dev.flitReturned
  rw [ho']
  simp only [hf', hh, hc, Bool.false_eq_true, if_false, Bool.false_and, ne_eq, FCls.ne_rsp_of_credClass hc, not_false_eq_true, if_true, ha]
  rfl

theorem Dev.hopError_first {d : Dev} {k n : Nat} (hf : d.ringFailed k = false) : d.hopError k n false .clean
    = (({ d.ringWait k with ann := { (d.ringWait k).ann with
          retries := Sparse.set 0 (d.ringWait k).ann.retries k 1
          pause := Sparse.set 0 (d.ringWait k).ann.pause k ((d.ringWait k).nclk + 6) } }.inc RING_RETRY 1 k).repAbort 5 0x3001 n) := by
  unfold Dev.hopError
  rw [hf, if_neg Bool.false_ne_true]
  generalize d.ringWait k = e
  exact if_pos (by rw [if_neg Bool.false_ne_true]; decide)

theorem Gives.hop_replayed (hl : s.dev.live = true) (hf : s.dev.ringFailed k.val = false) :
    Gives (.hopCrcError k n ⟨false, .clean⟩) s
      (({ s.fresh.ringWait k.val with ann := { s.dev.ann with
          retries := Sparse.set 0 s.dev.ann.retries k.val 1
          pause := Sparse.set 0 s.dev.ann.pause k.val ((s.fresh.ringWait k.val).nclk + 6) } }.inc RING_RETRY 1 k.val).repAbort 5 0x3001 n.val) := by
  have ha : (s.fresh.ringWait k.val).ann = s.dev.ann := Dev.ringWait_ann _
  have hf' : s.fresh.ringFailed k.val = false := hf
  exact Gives.of_live (f := fun d => d.hopError k.val n.val false .clean) rfl hl (by rw [Dev.hopError_first hf', ha])

theorem Gives.hop_failed (hl : s.dev.live = true) (hf : s.dev.ringFailed k.val = false) (h2 : Sparse.get 0 s.dev.ann.retries k.val = 2) :
    Gives (.hopCrcError k n ⟨true, .clean⟩) s
      ((((({ s.fresh.ringWait k.val with ann := { s.dev.ann with retries := Sparse.set 0 s.dev.ann.retries k.val 3 } }).setF RING_FAILED 1 k.val).setF
        RING_FAIL_SEG n.val k.val).setF ANN_SEG_FAIL 1).logEv 0x3001 .S n.val [dU 1 k.val, dU 1 n.val]) := by
  have ha : (s.fresh.ringWait k.val).ann = s.dev.ann := Dev.ringWait_ann _
  have hf' : s.fresh.ringFailed k.val = false := hf
  refine Gives.of_live (f := fun d => d.hopError k.val n.val true .clean) rfl hl ?_
  unfold Dev.hopError Dev.bufErr
  simp only [hf', Bool.false_eq_true, if_false, if_true, ha, h2, Nat.lt_irrefl]

/-- The flit that a unit takes next leaves its ejection buffer, and the unit serves it. -/
theorem Gives.flit_taken {e : Flit × Nat} (hl : s.dev.live = true) (ht : s.dev.nextTaken dst.val c = some e) (hf : s.dev.hbmFull e.1 = false) :
    Gives (.flitEject dst c none none 1 0 .clean) s ((s.fresh.setEj dst.val ((s.dev.ejOf dst.val).erase e)).takeFlit e.1) := by
  have ht' : s.fresh.nextTaken dst.val c = some e := ht
  have hf' : s.fresh.hbmFull e.1 = false := hf
  have hidle : s.fresh.flitsEject dst.val c none none 0 .clean = s.fresh := by
    unfold Dev.flitsEject
    simp only [Option.isSome_none, Bool.false_eq_true, if_false, Option.filter_none]
    split <;> rfl
  refine Gives.of_live (f := fun d => d.flitEject dst.val c none none 1 0 .clean) rfl hl ?_
  unfold Dev.flitEject
  rw [hidle]
  unfold Dev.takeFlits
  rw [ht']
  dsimp only
  rw [hf', if_neg Bool.false_ne_true]
  rfl

end

/-! ### FLIT_EJECT (R242, R247, R258) -/

section
variable {d : Dev} {m t : Nat} {c : FCls} {f : Flit}

/-- A clockwise pair alone ejects its oldest flit, once its ring goes on. -/
theorem Dev.flitEject_cw (h : cwFrom m t = true) (hf : d.ringFailed (clsRing c) = false) (e : BufErr) :
    d.flitEject t c (some m) none 0 0 e = (d.ringWait (clsRing c)).ejectOne m t c e := by
  have hf' : (d.ringWait (clsRing c)).ringFailed (clsRing c) = false := (Dev.ringFailed_ringWait _ _).trans hf
  unfold Dev.flitEject Dev.takeFlits Dev.flitsEject
  simp only [Option.isSome_some, if_true, Option.isSome_none, Bool.false_eq_true, if_false, Option.filter_none, Option.filter_some, h, hf', Bool.not_false,
    Bool.and_self]
  split <;> rfl

/-- The pair's oldest flit names the pair and its class. -/
theorem Dev.oldest_some (h : d.oldest m t c = some f) : f.src = m ∧ f.dst = t ∧ f.body.cls = c := by
  have := List.find?_some h
  simpa [and_assoc] using this

/-- The device once a flit has left its ring and its number has been noted. -/
def Dev.offRing (d : Dev) (f : Flit) (m t : Nat) : Dev :=
  { d with ann := { d.ann with flits := d.ann.flits.erase f, seqRx := Sparse.set 0 d.ann.seqRx (seqKey m t f.ring) ((f.seq + 1) % 256) } }

/-- What the number of a flit that has left its ring gives cause to report. -/
def Dev.seqReport (d : Dev) (f : Flit) (m t want : Nat) : Dev :=
  (d.raise ANN_SEQ_FAULT).logEv 0x3002 .S t [dU 1 f.ring, dU 1 m, dU 1 t, dN want, dN f.seq]

/-- The flit, its credits landed, takes its entry. -/
def Dev.buffered (d : Dev) (f : Flit) (t : Nat) : Dev :=
  ((d.landCredits f).takeEntry f).setEj t (((d.landCredits f).takeEntry f).ejOf t ++ [(f, (d.landCredits f).nclk)])

/-- One of a copy that was cancelled is dropped. -/
def Dev.orphaned (d : Dev) (f : Flit) (t : Nat) : Dev := ((d.landCredits f).freeEntry f false).inc STOP_ORPHAN 1 t

theorem Dev.ejOf_takeEntry (g : Dev) : (g.takeEntry f).ejOf t = g.ejOf t := by
  unfold Dev.takeEntry
  dsimp only
  split
  · rfl
  · split <;> rfl

theorem Dev.ejectOne_right (ho : d.oldest m t c = some f) (hd : f.dead = false) (hs : Sparse.get 0 d.ann.seqRx (seqKey m t f.ring) = f.seq) :
    d.ejectOne m t c .clean = (d.offRing f m t).buffered f t := by
  unfold Dev.ejectOne
  rw [ho]
  simp only [hd, bufErrOf_clean, reduceCtorEq, Bool.false_eq_true, if_false, hs, if_true]
  unfold Dev.buffered
  rw [Dev.ejOf_takeEntry]
  rfl

theorem Dev.ejectOne_wrong (ho : d.oldest m t c = some f) (hd : f.dead = false) (hs : Sparse.get 0 d.ann.seqRx (seqKey m t f.ring) ≠ f.seq) :
    d.ejectOne m t c .clean = ((d.offRing f m t).seqReport f m t (Sparse.get 0 d.ann.seqRx (seqKey m t f.ring))).buffered f t := by
  unfold Dev.ejectOne
  rw [ho]
  simp only [hd, bufErrOf_clean, reduceCtorEq, Bool.false_eq_true, if_false, hs]
  unfold Dev.buffered
  rw [Dev.ejOf_takeEntry]
  rfl

theorem Dev.ejectOne_orphan (ho : d.oldest m t c = some f) (hd : f.dead = true) (hs : Sparse.get 0 d.ann.seqRx (seqKey m t f.ring) = f.seq) :
    d.ejectOne m t c .clean = (d.offRing f m t).orphaned f t := by
  unfold Dev.ejectOne
  rw [ho]
  simp only [hd, if_true, hs]
  rfl

end

section
variable {d : Dev} {m t : Nat} {c : FCls} {f : Flit}

theorem Dev.landCredits_id (h : f.body.cls ≠ .rsp) : d.landCredits f = d := if_pos h

theorem Dev.readyAll_of_credits {g : Dev} (h : ∃ a b, g = { d with ann := { d.ann with cred := a, hand := b } }) (n : Nat) :
    ∃ a b r, g.readyAll n = { d with ann := { d.ann with cred := a, hand := b, ready := r } } := by
  obtain ⟨a, b, rfl⟩ := h
  obtain ⟨r, hr⟩ := Dev.readyAll_eq ({ d with ann := { d.ann with cred := a, hand := b } } : Dev) n
  exact ⟨a, b, r, hr⟩

/-- Credits that land change the credits of the Annulus and what is ready there. -/
theorem Dev.landCredits_eq (d : Dev) (f : Flit) : ∃ a h r, d.landCredits f = { d with ann := { d.ann with cred := a, hand := h, ready := r } } := by
  unfold Dev.landCredits
  split
  · exact ⟨d.ann.cred, d.ann.hand, d.ann.ready, rfl⟩
  · refine Dev.readyAll_of_credits ?_ f.dst
    split
    · exact ⟨_, _, rfl⟩
    · exact ⟨_, d.ann.hand, rfl⟩

theorem Dev.takeEntry_eq (d : Dev) (f : Flit) : ∃ a h, d.takeEntry f = { d with ann := { d.ann with cred := a, hand := h } } := by
  unfold Dev.takeEntry
  dsimp only
  split
  · exact ⟨d.ann.cred, _, rfl⟩
  · split
    · exact ⟨_, d.ann.hand, rfl⟩
    · exact ⟨d.ann.cred, d.ann.hand, rfl⟩

theorem Dev.freeEntry_eq (d : Dev) (f : Flit) (b : Bool) : ∃ a h, d.freeEntry f b = { d with ann := { d.ann with cred := a, hand := h } } := by
  unfold Dev.freeEntry
  dsimp only
  split
  · exact ⟨d.ann.cred, _, rfl⟩
  · split
    · exact ⟨_, d.ann.hand, rfl⟩
    · exact ⟨d.ann.cred, d.ann.hand, rfl⟩

/-- A flit that takes an entry changes the buffer of its stop, the credits and what is ready. -/
theorem Dev.buffered_eq (d : Dev) (f : Flit) (t : Nat) : ∃ a h r, d.buffered f t
    = { d with ann := { d.ann with cred := a, hand := h, ready := r, ejq := Sparse.set [] d.ann.ejq t (d.ejOf t ++ [(f, d.nclk)]) } } := by
  unfold Dev.buffered
  obtain ⟨a, h, r, hl⟩ := d.landCredits_eq f
  rw [hl]
  obtain ⟨a', h', ht⟩ := Dev.takeEntry_eq ({ d with ann := { d.ann with cred := a, hand := h, ready := r } } : Dev) f
  rw [ht]
  exact ⟨a', h', r, rfl⟩

theorem Dev.orphaned_eq (d : Dev) (f : Flit) (t : Nat) : ∃ a h r, d.orphaned f t
    = ({ d with ann := { d.ann with cred := a, hand := h, ready := r } } : Dev).inc STOP_ORPHAN 1 t := by
  unfold Dev.orphaned
  obtain ⟨a, h, r, hl⟩ := d.landCredits_eq f
  rw [hl]
  obtain ⟨a', h', ht⟩ := Dev.freeEntry_eq ({ d with ann := { d.ann with cred := a, hand := h, ready := r } } : Dev) f false
  rw [ht]
  exact ⟨a', h', r, rfl⟩

theorem Dev.ejOf_buffered (d : Dev) (f : Flit) (t : Nat) : (d.buffered f t).ejOf t = d.ejOf t ++ [(f, d.nclk)] := by
  obtain ⟨a, h, r, hb⟩ := d.buffered_eq f t
  rw [hb]
  exact Sparse.get_set_self _ _ _

/-- A credit that a flit has taken along is with its entry then. -/
theorem Dev.credOf_buffered {x : Nat} (hh : f.hand = false) (hx : credClass f.body.cls = some x) : (d.buffered f t).credOf f.src f.dst x
    = { d.credOf f.src f.dst x with flits := (d.credOf f.src f.dst x).flits - 1, occ := (d.credOf f.src f.dst x).occ + 1 } := by
  unfold Dev.buffered
  rw [Dev.landCredits_id (FCls.ne_rsp_of_credClass hx)]
  unfold Dev.takeEntry
  simp only [hh, Bool.false_and, Bool.false_eq_true, if_false, hx]
  exact Dev.credOf_setCred_self _ _ _ _ _

end

section
variable {s : State} {src dst : Stop} {c : FCls} {f : Flit}

/-- FLIT_EJECT of a clockwise pair ends with what it makes of a device whose Annulus is as it was: its ring has waited. -/
theorem Ends.of_ejects {P : Dev → Prop} (hi : Inv s) (hl : s.dev.live = true) (hcw : cwFrom src.val dst.val = true)
    (hf : s.dev.ringFailed (clsRing c) = false)
    (h : ∀ e : Dev, e.ann = s.dev.ann → e.fld STOP_ORPHAN dst.val = s.dev.fld STOP_ORPHAN dst.val →
      ∃ g, e.ejectOne src.val dst.val c .clean = g ∧ e.Calm g ∧ (g.mem = s.dev.mem → P g)) :
    Ends (.flitEject dst c (some src) none 0 0 .clean) s P := by
  obtain ⟨g, hg, hcalm, hP⟩ := h _ (Dev.ringWait_ann (d := s.fresh) (clsRing c)) (Dev.fld_ringWait (by decide) (by decide) (by decide) _)
  have hall := ((Dev.Calm.refl s.fresh).ringWait (clsRing c)).trans hcalm
  exact Ends.of_calm (f := whenLive fun d => d.flitEject dst.val c (some src.val) none 0 0 .clean) hi rfl
    ((whenLive_of_live _ (d := s.fresh) hl).trans ((Dev.flitEject_cw (d := s.fresh) hcw hf .clean).trans hg)) hall (hP hall.mem)

theorem Dev.oldest_congr {d e : Dev} (h : e.ann = d.ann) (m t : Nat) : e.oldest m t c = d.oldest m t c := by
  unfold Dev.oldest
  rw [h]

theorem Ends.flit_ejected {x : Fin 3} (hi : Inv s) (hl : s.dev.live = true) (hcw : cwFrom src.val dst.val = true)
    (hf : s.dev.ringFailed (clsRing c) = false) (hx : credClass c = some x.val) (ho : s.dev.oldest src.val dst.val c = some f) (hd : f.dead = false)
    (hh : f.hand = false) (hs : Sparse.get 0 s.dev.ann.seqRx (seqKey src.val dst.val f.ring) = f.seq) :
    Ends (.flitEject dst c (some src) none 0 0 .clean) s fun d =>
      d.ann.flits = s.dev.ann.flits.erase f ∧ (d.ejOf dst.val).map (·.1) = (s.dev.ejOf dst.val).map (·.1) ++ [f]
      ∧ d.credOf src.val dst.val x.val = { s.dev.credOf src.val dst.val x.val with
          flits := (s.dev.credOf src.val dst.val x.val).flits - 1, occ := (s.dev.credOf src.val dst.val x.val).occ + 1 }
      ∧ Sparse.get 0 d.ann.seqRx (seqKey src.val dst.val f.ring) = (f.seq + 1) % 256 ∧ d.mem = s.dev.mem := by
  refine Ends.of_ejects hi hl hcw hf fun e ha _ => ⟨_, Dev.ejectOne_right ((Dev.oldest_congr ha _ _).trans ho) hd (by rw [ha]; exact hs), ?_⟩
  obtain ⟨hsrc, hdst, hcls⟩ := Dev.oldest_some ho
  have hej := (e.offRing f src.val dst.val).ejOf_buffered f dst.val
  have hcred := Dev.credOf_buffered (d := e.offRing f src.val dst.val) (t := dst.val) hh (hcls ▸ hx)
  obtain ⟨a, h, r, hb⟩ := (e.offRing f src.val dst.val).buffered_eq f dst.val
  have hcred0 : (e.offRing f src.val dst.val).credOf f.src f.dst x.val = s.dev.credOf src.val dst.val x.val := by
    unfold Dev.offRing Dev.credOf
    rw [ha, hsrc, hdst]
  have hej0 : (e.offRing f src.val dst.val).ejOf dst.val = s.dev.ejOf dst.val := by
    unfold Dev.offRing Dev.ejOf
    rw [ha]
  rw [hcred0, hsrc, hdst] at hcred
  refine ⟨?_, fun hm => ⟨?_, by rw [hej, hej0, List.map_append]; rfl, hcred, ?_, hm⟩⟩
  · rw [hb]
    exact ((Dev.Calm.refl e).setAnn _).setAnn _
  · rw [hb, ← ha]
    rfl
  · rw [hb]
    exact Sparse.get_set_self _ _ _

theorem Ends.flit_orphaned (hi : Inv s) (hl : s.dev.live = true) (hcw : cwFrom src.val dst.val = true)
    (hf : s.dev.ringFailed (clsRing c) = false) (ho : s.dev.oldest src.val dst.val c = some f) (hd : f.dead = true)
    (hs : Sparse.get 0 s.dev.ann.seqRx (seqKey src.val dst.val f.ring) = f.seq) :
    Ends (.flitEject dst c (some src) none 0 0 .clean) s fun d => d.ejOf dst.val = s.dev.ejOf dst.val ∧ d.mem = s.dev.mem
      ∧ d.fld STOP_ORPHAN dst.val = (s.dev.inc STOP_ORPHAN 1 dst.val).fld STOP_ORPHAN dst.val := by
  refine Ends.of_ejects hi hl hcw hf fun e ha hcnt => ⟨_, Dev.ejectOne_orphan ((Dev.oldest_congr ha _ _).trans ho) hd (by rw [ha]; exact hs), ?_⟩
  obtain ⟨a, h, r, hb⟩ := (e.offRing f src.val dst.val).orphaned_eq f dst.val
  rw [hb]
  refine ⟨(((Dev.Calm.refl e).setAnn _).setAnn _).inc _ (Fld.repState_ne (by decide)), fun hm => ⟨?_, hm, ?_⟩⟩
  · exact (congrArg (fun y : Ann => Sparse.get [] y.ejq dst.val) ha :)
  · unfold Dev.inc
    rw [Dev.fld_setF_self, Dev.fld_setF_self, ← hcnt]
    rfl

end

/-! ### A report that stays while the links train again

A class S event ends a replay run, and then every link that is up trains again. What an ejected flit has left behind stays: memory, the numbers
its stop expects, the ejection buffers, and the two flags that report it. -/

structure Dev.RetrainKept (d e : Dev) : Prop where
  mem : e.mem = d.mem
  seqRx : e.ann.seqRx = d.ann.seqRx
  ejq : e.ann.ejq = d.ann.ejq
  fault : e.fld ANN_SEQ_FAULT = d.fld ANN_SEQ_FAULT
  pending : e.fld SAF_S_PENDING = d.fld SAF_S_PENDING

namespace Dev.RetrainKept

section
variable {d e : Dev}

theorem refl (d : Dev) : d.RetrainKept d := ⟨rfl, rfl, rfl, rfl, rfl⟩

theorem trans {g : Dev} (h : d.RetrainKept e) (k : e.RetrainKept g) : d.RetrainKept g :=
  ⟨k.mem.trans h.mem, k.seqRx.trans h.seqRx, k.ejq.trans h.ejq, k.fault.trans h.fault, k.pending.trans h.pending⟩

theorem setF (h : d.RetrainKept e) {f : Fld} {i j : Nat} (v : Nat) (hf : ANN_SEQ_FAULT.key 0 0 ≠ f.key i j) (hp : SAF_S_PENDING.key 0 0 ≠ f.key i j) :
    d.RetrainKept (e.setF f v i j) :=
  ⟨h.mem, h.seqRx, h.ejq, (Dev.fld_setF_ne e v hf).trans h.fault, (Dev.fld_setF_ne e v hp).trans h.pending⟩

/-- A register of the coupling links, which lie above. -/
theorem setCpl (h : d.RetrainKept e) {f : Fld} {i j : Nat} (v : Nat) (hf : 0x3000008 < f.off) : d.RetrainKept (e.setF f v i j) := by
  have hkey : f.key i j = (f.off + i * f.s1 + j * f.s2) * 64 + f.lo := rfl
  have hfault : ANN_SEQ_FAULT.key 0 0 = 0x3000008 * 64 + 1 := rfl
  have hpend : SAF_S_PENDING.key 0 0 = 0x200000 * 64 := rfl
  refine h.setF v ?_ ?_
  · rw [hkey, hfault]; generalize i * f.s1 = a; generalize j * f.s2 = b; omega
  · rw [hkey, hpend]; generalize i * f.s1 = a; generalize j * f.s2 = b; omega

theorem withCpl (h : d.RetrainKept e) (x : Cpl) : d.RetrainKept { e with cpl := x } := ⟨h.mem, h.seqRx, h.ejq, h.fault, h.pending⟩

theorem setEng (h : d.RetrainKept e) (n : Nat) (x : Eng) : d.RetrainKept (e.setEng n x) := ⟨h.mem, h.seqRx, h.ejq, h.fault, h.pending⟩

theorem setLock (h : d.RetrainKept e) (n : Nat) (x : Lock) : d.RetrainKept (e.setLock n x) := ⟨h.mem, h.seqRx, h.ejq, h.fault, h.pending⟩

theorem emit (h : d.RetrainKept e) (o : Out) : d.RetrainKept (e.emit o) := ⟨h.mem, h.seqRx, h.ejq, h.fault, h.pending⟩

theorem logEv (h : d.RetrainKept e) {ev : Nat} {c : Cls} {n : Nat} {l : List DF} {o : Bool} (hc : c ≠ .S) : d.RetrainKept (e.logEv ev c n l o) :=
  h.trans ⟨by simp, by simp, by simp, Dev.fld_logEv e ev hc n l o (by decide), Dev.fld_logEv e ev hc n l o (by decide)⟩

theorem repAbort (h : d.RetrainKept e) (r ev n : Nat) : d.RetrainKept (e.repAbort r ev n) := by
  unfold Dev.repAbort
  split
  · refine (((h.setF _ ?_ ?_).setF _ ?_ ?_).setF _ ?_ ?_).trans ⟨by simp, by simp, by simp, Dev.fld_post _ _ ?_, Dev.fld_post _ _ ?_⟩ <;> decide
  · exact h

theorem ite {g : Dev} {p : Prop} [Decidable p] (h : d.RetrainKept e) (k : d.RetrainKept g) : d.RetrainKept (if p then e else g) := by
  split
  · exact h
  · exact k

theorem foldl {α : Type} {f : Dev → α → Dev} (h : d.RetrainKept e) (hf : ∀ (g : Dev) a, g.RetrainKept (f g a)) (l : List α) : d.RetrainKept (l.foldl f e) := by
  induction l generalizing e with
  | nil => exact h
  | cons a r ih => exact ih (h.trans (hf e a))

theorem sayTo (h : d.RetrainKept e) (p : CPkt) (k : Nat) : d.RetrainKept (e.sayTo p k) := h.withCpl _

theorem updCmd (h : d.RetrainKept e) (n seq : Nat) (f : Cmd → Cmd) : d.RetrainKept (e.updCmd n seq f) := h.setEng _ _

theorem barEndOn (h : d.RetrainKept e) (n st : Nat) (sel : Nat × Nat × Nat × Bool → Bool) : d.RetrainKept (e.barEndOn n st sel) := by
  unfold Dev.barEndOn
  exact (h.setEng n _).foldl (fun g b => (refl g).updCmd _ _ _) _

theorem barEnd (h : d.RetrainKept e) (st : Nat) (sel : Nat × Nat × Nat × Bool → Bool) : d.RetrainKept (e.barEnd st sel) := by
  unfold Dev.barEnd
  exact h.foldl (fun g n => (refl g).barEndOn n st sel) _

theorem barNext (h : d.RetrainKept e) (b : Nat) : d.RetrainKept (e.barNext b) := h.withCpl _

theorem setGen (h : d.RetrainKept e) (b g : Nat) : d.RetrainKept (e.setGen b g) := h.withCpl _

theorem barLost (h : d.RetrainKept e) (b : Nat) : d.RetrainKept (e.barLost b) := by
  unfold Dev.barLost
  exact ((h.barEnd _ _).barNext _).withCpl _

theorem stepRelease (h : d.RetrainKept e) (n : Nat) (lost : Bool) : d.RetrainKept (e.stepRelease n lost) := by
  unfold Dev.stepRelease
  exact (h.setEng _ _).withCpl _

theorem takeRelease (h : d.RetrainKept e) (ch gen st : Nat) : d.RetrainKept (e.takeRelease ch gen st) := by
  unfold Dev.takeRelease
  exact .ite (h.stepRelease _ _) (.ite ((h.setGen _ _).withCpl _) (((h.barEnd _ _).barNext _).withCpl _))

theorem releaseAll (h : d.RetrainKept e) (ch gen st : Nat) : d.RetrainKept (e.releaseAll ch gen st) := by
  unfold Dev.releaseAll
  exact ((h.withCpl _).foldl (fun g _ => (refl g).sayTo _ _) _).takeRelease _ _ _

theorem homeCheck (h : d.RetrainKept e) (ch gen : Nat) : d.RetrainKept (e.homeCheck ch gen) := by
  unfold Dev.homeCheck
  exact .ite (h.releaseAll _ _ _) h

theorem lockAnswer (h : d.RetrainKept e) (r : LockReq) (res : Nat) : d.RetrainKept (e.lockAnswer r res) := by
  unfold Dev.lockAnswer
  split
  · refine RetrainKept.withCpl ?_ _
    split
    · exact h.withCpl _
    · exact h
  · refine .ite (((h.setF _ ?_ ?_).setF _ ?_ ?_).setF _ ?_ ?_) (h.emit _) <;> decide

theorem breakLock (h : d.RetrainKept e) (n cause : Nat) (b : Bool) : d.RetrainKept (e.breakLock n cause b) := by
  have hlog (l : List DF) : d.RetrainKept ((e.inc ANN_LOCK_BROKEN_CNT).logEv 0x3005 .I n l) := (h.setF _ (by decide) (by decide)).logEv (by decide)
  unfold Dev.breakLock
  dsimp only
  cases (e.lockOf n).waiters with
  | nil => exact (hlog _).setLock _ _
  | cons w ws => exact ((hlog _).setLock _ _).lockAnswer _ _

theorem ownerLost (h : d.RetrainKept e) (o : Owner) : d.RetrainKept (e.ownerLost o) :=
  h.foldl (fun g n => .ite (((refl g).setLock n _).breakLock _ _ _) ((refl g).setLock n _)) _

theorem xferEnd (h : d.RetrainKept e) (x : Xfer) (st : Nat) : d.RetrainKept (e.xferEnd x st) := (h.withCpl _).emit _

theorem dropMember (h : d.RetrainKept e) (m : Nat) : d.RetrainKept (e.dropMember m) := by
  unfold Dev.dropMember
  have hbit : d.RetrainKept (e.setBit CPL_MEMBER (m % 64) false (m / 64)) := h.setCpl _ (by decide)
  have hlost (g : Dev) (b : Nat) : g.RetrainKept (if g.cpl.pend.any (fun p => p.1 == b) then g.barLost b else g) := .ite ((refl g).barLost b) (refl g)
  have hstep (g : Dev) (b : Nat) : g.RetrainKept (if g.cpl.pend.any (fun p => p.1 == 16 + b) then g.stepRelease b true else g) :=
    .ite ((refl g).stepRelease b true) (refl g)
  have hcheck (g : Dev) (a : Nat × Nat) : g.RetrainKept (g.homeCheck a.1 a.2) := (refl g).homeCheck a.1 a.2
  refine .ite h (.ite hbit (.ite (RetrainKept.foldl ?_ hstep _) (RetrainKept.foldl ?_ hcheck _))) <;>
    exact ((((hbit.foldl (fun g x => (refl g).xferEnd x 5) _).withCpl _).ownerLost _).foldl hlost _).withCpl _

theorem resend (h : d.RetrainKept e) : d.RetrainKept e.resend := by
  unfold Dev.resend
  exact (h.foldl (fun g _ => .ite (refl g) ((refl g).sayTo _ _)) _).foldl (fun g _ => (refl g).sayTo _ _) _

/-- A notice that a link went down. -/
theorem applyNotice (h : d.RetrainKept e) (origin num link : Nat) : d.RetrainKept (e.applyNotice origin num 2 link) := by
  unfold Dev.applyNotice
  refine .ite (RetrainKept.dropMember ?_ _) ?_ <;>
    exact (((((h.withCpl _).setCpl _ (by decide)).logEv (by decide)).withCpl _).repAbort _ _ _).resend

theorem flood (h : d.RetrainKept e) (p : CPkt) (but : Nat) : d.RetrainKept (e.flood p but) :=
  h.foldl (fun g _ => .ite ((refl g).sayTo _ _) (refl g)) _

theorem linkRetrain (h : d.RetrainKept e) (k : Nat) : d.RetrainKept (e.linkRetrain k) := by
  unfold Dev.linkRetrain Dev.raiseNotice
  exact (((((h.setCpl (f := CPL_STATE) (i := k) (j := 0) _ (by decide)).setCpl (f := CPL_RETRAINS) (i := k) (j := 0) _ (by decide)).withCpl
    _).withCpl _).flood _ _).applyNotice _ _ _

theorem abortRetrain (h : d.RetrainKept e) (was : Bool) : d.RetrainKept (e.abortRetrain was) := by
  unfold Dev.abortRetrain
  exact .ite (h.foldl (fun g k => .ite ((refl g).linkRetrain k) (refl g)) _) h

end

end Dev.RetrainKept

/-! ### What a class S event leaves in the registers -/

section
variable {d : Dev} {f : Fld}

theorem Dev.fld_haltEngines (h : ∀ n, f.key 0 0 ≠ CE_STATE.key n 0) (d : Dev) : d.haltEngines.fld f = d.fld f :=
  foldl_keeps (fun d : Dev => d.fld f) (fun d n => by
    unfold Dev.haltEngine
    split
    · exact Dev.fld_setF_ne _ _ (h n)
    · rfl) _ d

/-- After the first cause and S_PENDING, the reaction writes SAFE_N's pin, the engines' states, the vectors and the drops of the status line. -/
theorem Dev.fld_reactS (hpin : f.key 0 0 ≠ SAF_PIN.key 0 0) (hce : ∀ n, f.key 0 0 ≠ CE_STATE.key n 0) (hvec : ∀ n, f.key 0 0 ≠ MGT_INT_STAT.key n 0)
    (huart : f.key 0 0 ≠ MGT_UART_DROP.key 0 0) (d : Dev) (ev : Nat) :
    (d.reactS ev).fld f = ((d.firstCause ev).setF SAF_S_PENDING 1).fld f := by
  unfold Dev.reactS
  simp only [apply_ite (fun d : Dev => d.fld f), Dev.fld_uart _ _ huart, Dev.fld_msix _ _ (hvec _), Dev.fld_haltEngines hce, Dev.fld_driveSafeN _ hpin, ite_self]

theorem Dev.seqFault_firstCause (d : Dev) (ev : Nat) : (d.firstCause ev).fld ANN_SEQ_FAULT = d.fld ANN_SEQ_FAULT := by
  have hset (v w : Nat) : ((d.setF SAF_FIRST_EVENT v).setF SAF_FIRST_TS w).fld ANN_SEQ_FAULT = d.fld ANN_SEQ_FAULT := by
    rw [Dev.fld_setF_ne _ _ (by decide), Dev.fld_setF_ne _ _ (by decide)]
  unfold Dev.firstCause
  dsimp only
  split
  · exact hset _ _
  · rfl

theorem Dev.ceState_ne {g : Fld} (h : g.key 0 0 < 0x2000008 * 64 ∨ g.key 0 0 % 64 ≠ 0) (n : Nat) : g.key 0 0 ≠ CE_STATE.key n 0 := by
  have hkey : CE_STATE.key n 0 = (0x2000008 + n * 0x10000) * 64 := rfl
  omega

theorem Dev.intStat_ne {g : Fld} (h : g.key 0 0 < 0x600040 * 64 ∨ g.key 0 0 % 64 ≠ 0) (n : Nat) : g.key 0 0 ≠ MGT_INT_STAT.key n 0 := by
  have hkey : MGT_INT_STAT.key n 0 = (0x600040 + n * 8) * 64 := rfl
  omega

/-- A class S event sets S_PENDING. -/
theorem Dev.pending_logEv (d : Dev) (ev n : Nat) (l : List DF) (o : Bool) : (d.logEv ev .S n l o).flag SAF_S_PENDING = true := by
  unfold Dev.logEv Dev.flag
  dsimp only
  rw [Dev.fld_reactS (f := SAF_S_PENDING) (by decide) (Dev.ceState_ne (by decide)) (Dev.intStat_ne (by decide)) (by decide), Dev.fld_setF_self]
  rfl

theorem Dev.seqFault_repAbort (d : Dev) (r ev n : Nat) : (d.repAbort r ev n).fld ANN_SEQ_FAULT = d.fld ANN_SEQ_FAULT :=
  ((Dev.RetrainKept.refl d).repAbort r ev n).fault

theorem Dev.seqFault_logEv (d : Dev) (ev n : Nat) (l : List DF) (o : Bool) : (d.logEv ev .S n l o).fld ANN_SEQ_FAULT = d.fld ANN_SEQ_FAULT := by
  unfold Dev.logEv
  dsimp only
  rw [Dev.fld_reactS (f := ANN_SEQ_FAULT) (by decide) (Dev.ceState_ne (by decide)) (Dev.intStat_ne (by decide)) (by decide),
    Dev.fld_setF_ne _ _ (by decide), Dev.seqFault_firstCause, Dev.seqFault_repAbort, Dev.fld_post _ _ (by decide)]
  split <;> rfl

end

section
variable {s : State} {src dst : Stop} {c : FCls} {f : Flit}

/-- A command that keeps what others wait for, and may end a run: what holds after its effect, and stays while the links train again, holds
then. -/
theorem Ends.of_retrain {c : Instr} {g : Dev → Dev} {d : Dev} {P : Dev → Prop} (hi : Inv s) (hc : exec c s = runAll s g) (hf : g s.fresh = d)
    (hm : d.mem = s.dev.mem) (hx : d.cpl = s.dev.cpl) (hh : d.safe.handover = s.dev.safe.handover) (hcel : d.cel = s.dev.cel)
    (ho : d.out.all Out.plain = true) (hP : ∀ e, d.RetrainKept e → P e) : Ends c s P := by
  have hkept : d.RetrainKept (d.abortRetrain s.dev.running) := (Dev.RetrainKept.refl d).abortRetrain _
  refine ⟨d.abortRetrain s.dev.running, hc.trans ?_, hP _ hkept⟩
  have hsettle : settle s d = d.abortRetrain s.dev.running := by
    unfold settle
    rw [Dev.follow_id (old := s.fresh) hx hh hcel, Dev.deliver_plain _ _ _ ho, Dev.tidy_id (by rw [hkept.mem, hm]; exact hi.mem)]
  rw [runAll_gives hf, hsettle]

/-- A device whose ring has waited, once a flit numbered wrong has been reported and buffered. -/
theorem Dev.seqReport_buffered (d : Dev) (f : Flit) (m t want : Nat) :
    (((d.offRing f m t).seqReport f m t want).buffered f t).flag ANN_SEQ_FAULT = true
      ∧ (((d.offRing f m t).seqReport f m t want).buffered f t).flag SAF_S_PENDING = true := by
  obtain ⟨a, h, r, hb⟩ := ((d.offRing f m t).seqReport f m t want).buffered_eq f t
  have hfld (x : Fld) : (((d.offRing f m t).seqReport f m t want).buffered f t).fld x = ((d.offRing f m t).seqReport f m t want).fld x :=
    Dev.fld_congr (by rw [hb]) x 0 0
  unfold Dev.flag
  rw [hfld, hfld]
  unfold Dev.seqReport
  refine ⟨?_, Dev.pending_logEv _ _ _ _ _⟩
  rw [Dev.seqFault_logEv]
  exact Dev.flag_raise _ rfl

/-- What such a flit leaves alone, and where it stands. -/
structure Dev.SeqReported (d e : Dev) (f : Flit) (m t : Nat) : Prop where
  mem : e.mem = d.mem
  cpl : e.cpl = d.cpl
  handover : e.safe.handover = d.safe.handover
  cel : e.cel = d.cel
  plain : d.plainOut = true → e.plainOut = true
  number : Sparse.get 0 e.ann.seqRx (seqKey m t f.ring) = (f.seq + 1) % 256
  entry : ∃ n, e.ejOf t = d.ejOf t ++ [(f, n)]

theorem Dev.seqReported (d : Dev) (f : Flit) (m t want : Nat) : d.SeqReported (((d.offRing f m t).seqReport f m t want).buffered f t) f m t := by
  have hann : ((d.offRing f m t).seqReport f m t want).ann = (d.offRing f m t).ann := by simp [Dev.seqReport]
  have hmem : ((d.offRing f m t).seqReport f m t want).mem = d.mem := by simp [Dev.seqReport, Dev.offRing]
  have hcpl : ((d.offRing f m t).seqReport f m t want).cpl = d.cpl := by simp [Dev.seqReport, Dev.offRing]
  have hcel : ((d.offRing f m t).seqReport f m t want).cel = d.cel := by simp [Dev.seqReport, Dev.offRing]
  have hhand : ((d.offRing f m t).seqReport f m t want).safe.handover = d.safe.handover := by simp [Dev.seqReport, Dev.offRing]
  have hout : ((d.offRing f m t).seqReport f m t want).plainOut = d.plainOut := by
    unfold Dev.seqReport
    rw [Dev.plainOut_logEv, Dev.plainOut_raise]
    rfl
  have hej := ((d.offRing f m t).seqReport f m t want).ejOf_buffered f t
  generalize (d.offRing f m t).seqReport f m t want = g at *
  obtain ⟨a, h, r, hb⟩ := g.buffered_eq f t
  refine ⟨?_, ?_, ?_, ?_, fun hp => ?_, ?_, g.nclk, ?_⟩
  · rw [hb]; exact hmem
  · rw [hb]; exact hcpl
  · rw [hb]; exact hhand
  · rw [hb]; exact hcel
  · rw [hb]; exact hout.trans hp
  · rw [hb]
    show Sparse.get 0 g.ann.seqRx _ = _
    rw [hann]
    exact Sparse.get_set_self _ _ _
  · rw [hej]
    unfold Dev.ejOf
    rw [hann]
    rfl

theorem Ends.flit_out_of_order (hi : Inv s) (hl : s.dev.live = true) (hcw : cwFrom src.val dst.val = true)
    (hf : s.dev.ringFailed (clsRing c) = false) (ho : s.dev.oldest src.val dst.val c = some f) (hd : f.dead = false)
    (hs : Sparse.get 0 s.dev.ann.seqRx (seqKey src.val dst.val f.ring) ≠ f.seq) :
    Ends (.flitEject dst c (some src) none 0 0 .clean) s fun d =>
      d.flag ANN_SEQ_FAULT = true ∧ d.flag SAF_S_PENDING = true ∧ Sparse.get 0 d.ann.seqRx (seqKey src.val dst.val f.ring) = (f.seq + 1) % 256
        ∧ (d.ejOf dst.val).map (·.1) = (s.dev.ejOf dst.val).map (·.1) ++ [f] ∧ d.mem = s.dev.mem := by
  obtain ⟨e, he⟩ : ∃ e, s.fresh.ringWait (clsRing c) = e := ⟨_, rfl⟩
  have ha : e.ann = s.dev.ann := by rw [← he]; exact Dev.ringWait_ann _
  have hcalm : s.fresh.Calm e := by rw [← he]; exact (Dev.Calm.refl _).ringWait _
  obtain ⟨want, hwant⟩ : ∃ want, Sparse.get 0 e.ann.seqRx (seqKey src.val dst.val f.ring) = want := ⟨_, rfl⟩
  have hej : e.ejectOne src.val dst.val c .clean = ((e.offRing f src.val dst.val).seqReport f src.val dst.val want).buffered f dst.val := by
    rw [← hwant]
    exact Dev.ejectOne_wrong ((Dev.oldest_congr ha _ _).trans ho) hd (by rw [ha]; exact hs)
  obtain ⟨hfault, hpend⟩ := e.seqReport_buffered f src.val dst.val want
  have hkeep : e.SeqReported (((e.offRing f src.val dst.val).seqReport f src.val dst.val want).buffered f dst.val) f src.val dst.val :=
    e.seqReported f src.val dst.val want
  generalize ((e.offRing f src.val dst.val).seqReport f src.val dst.val want).buffered f dst.val = g at hej hfault hpend hkeep
  obtain ⟨hmem, hcpl, hhand, hcel, hout, hseq, n, hbuf⟩ := hkeep
  have hmem' : g.mem = s.dev.mem := hmem.trans hcalm.mem
  refine Ends.of_retrain (g := whenLive fun d => d.flitEject dst.val c (some src.val) none 0 0 .clean) hi rfl
    ((whenLive_of_live _ (d := s.fresh) hl).trans ((Dev.flitEject_cw (d := s.fresh) hcw hf .clean).trans (by rw [he, hej]))) hmem'
    (hcpl.trans hcalm.cpl) (hhand.trans hcalm.handover) (hcel.trans hcalm.cel) (hout (hcalm.plain rfl)) fun k hk => ?_
  refine ⟨(congrArg (· != 0) hk.fault).trans hfault, (congrArg (· != 0) hk.pending).trans hpend, ?_, ?_, hk.mem.trans hmem'⟩
  · rw [hk.seqRx]
    exact hseq
  · unfold Dev.ejOf at hbuf ⊢
    rw [hk.ejq, hbuf, ha, List.map_append]
    rfl

end

/-- Settles O25: each clause by the rule of its own step above; the class S report of a flit numbered wrong stays where it ends a replay run and
the links train again (`Dev.RetrainKept`). -/
theorem annulusFlits : Obligations.AnnulusFlits := by
  refine ⟨fun s src x k n hi hl hn hx hr hne hb ht => .flit_queued hi hl hn hx hr hne hb ht,
    fun s src x k n hi hl hn hx hr hne ht hb hp => .flit_waits hi hl hn hx hr hne ht hb hp,
    fun s src k n f hi hl hn hq hf hc ht => .flit_enters hi hl hn hq hf hc ht,
    fun s src k n f hi hl hn hq hf hc hh ht => .rsp_enters hi hl hn hq hf hc hh ht,
    fun s src k n hi hn h => .flit_stays hi hn h,
    fun s src x k n hl hn hx ht => .flit_bad_destination hl hn hx ht,
    fun s n k i hi hl hr hf hh hk ht h0 h64 hn => .slot_marked hi hl hr hf hh hk ht h0 h64 hn,
    fun s n k i hi hh hk h => .of_live_idle (f := fun d => d.keepMark n.val k.val i.val) hi rfl (Dev.keepMark_waits (d := s.fresh) hh hk h),
    fun s n k i hi hl hr hf hh hk ht h0 => .slot_released hi hl hr hf hh hk ht h0,
    fun s src dst c x f hi hl hcw hf hx ho hd hh hs => .flit_ejected hi hl hcw hf hx ho hd hh hs,
    fun s src dst c f hi hl hcw hf ho hd hs => .flit_out_of_order hi hl hcw hf ho hd hs,
    fun s src dst c f hi hl hcw hf ho hd hs => .flit_orphaned hi hl hcw hf ho hd hs,
    fun s dst c e hl ht hf => .flit_taken hl ht hf,
    fun d f x hh hc => Dev.credOf_freeEntry hh hc,
    fun s src dst c x f hl hc ho hh hf => .flit_returned hl hc ho hh hf,
    fun s k n hl hf => .hop_replayed hl hf,
    fun s k n hl hf h2 => .hop_failed hl hf h2,
    fun s src dst hi h => .of_live_idle (f := fun d => d.creditReturn src.val dst.val) hi rfl (Dev.creditReturn_none (d := s.fresh) h),
    fun s src dst hi hl hf ho hfl hk => .credits_return hi hl hf ho hfl hk⟩

end Sys2Proof.Machine
end
